-- ==== Sys2Proof/Word.lean ====
section
/-! DEFINITION. The word types of the model (00 R8: little-endian bytes, bit 0 least significant) and their plainest arithmetic. -/

namespace Sys2Proof

/-- An 8-bit byte. -/
abbrev Byte := BitVec 8

/-- A 64-bit word: scalar registers, addresses, counts (03 R107). -/
abbrev Word := BitVec 64

/-- A 64-byte line (03 R99, 06 R207): byte `i` is bits `[8*i+7 : 8*i]`. -/
abbrev Line := BitVec 512

end Sys2Proof
end

