-- ==== Sys2Proof/Syntax.lean ====
section
/-! DEFINITION. The commands of the block: one constructor of `Instr` per row of the spec's table of operations and events,
with the operands the spec gives the row (the fields of a core instruction, a packet, a message, what an event reports). -/

namespace Sys2Proof

/-- The fields of a general core instruction (04 Table 1, R117): every operand form is read from these. -/
structure GenFields where
  func : BitVec 5
  d : BitVec 5
  a : BitVec 5
  b : BitVec 5
  c : BitVec 5
  pred : BitVec 3
  type : BitVec 4
  rnd : BitVec 2
  x : BitVec 4
  rsv : BitVec 18
  imm : BitVec 64
  deriving DecidableEq, Repr

/-- The fields of TILE (04 Table 8, R135). -/
structure TileFields where
  ri : BitVec 5
  re : BitVec 5
  rx : BitVec 5
  rk : BitVec 5
  rb : BitVec 5
  ra : BitVec 5
  mm1 : BitVec 10
  nm1 : BitVec 10
  active : Bool
  epi : Bool
  mode : Bool
  kind : BitVec 2
  b0 : BitVec 3
  rsv : BitVec 68
  deriving DecidableEq, Repr

/-- A fabric packet (08 Table 7) with its payload lines and its trailer (08 R284). -/
structure Packet where
  dst : BitVec 17
  src : BitVec 17
  type : BitVec 5
  vc : Bool
  order : BitVec 2
  plane : Bool
  len : BitVec 3
  poison : BitVec 4
  hops : BitVec 6
  sub : BitVec 4
  status : BitVec 8
  tag : BitVec 16
  arg : BitVec 32
  rsv : BitVec 34
  addr : BitVec 42
  payload : List Line
  crc : BitVec 32
  deriving DecidableEq, Repr

/-- The two Fynen transports (12 R449, R455): the 10BASE-T1S segment and the BAR0 mailbox. -/
inductive Transport where
  | t1s | mailbox
  deriving DecidableEq, Repr

/-- A Fynen message (12 Table 10); `tag` is empty when AUTH is clear. -/
structure FynenMsg where
  format : BitVec 16
  kind : BitVec 8
  flags : BitVec 8
  requestId : BitVec 32
  seq : Word
  object : BitVec 16
  member : BitVec 8
  type : BitVec 8
  status : BitVec 16
  length : BitVec 16
  offset : Word
  value : List Byte
  tag : List Byte
  deriving DecidableEq, Repr

/-- An error in a stored line (06 R203, R225): of an HBM sector, the symbols in error, one for each of its 36 pins; or of the Tun's copy, correctable
or not. -/
inductive StoreError where
  | hbm (sector : Fin 2) (pins : List (Fin 36))
  | tun (correctable : Bool)
  deriving DecidableEq, Repr

/-- An error that has arisen in memory: the line and what is wrong. -/
structure MemError where
  line : BitVec 36
  error : StoreError
  deriving DecidableEq, Repr

/-- What a swap request asks the transmitter for (08 R272, R273): L8 in the place of a lane, or, with the spare in use, the lane mapped out. -/
structure LaneRequest where
  lane : Fin 9
  mapOut : Bool
  deriving DecidableEq, Repr

/-- One direction of a die-to-die link (01 R19). -/
structure D2dSide where
  link : Fin 6
  dir : Fin 2
  deriving DecidableEq, Repr

/-- What a receiver reports of one virtual channel in a credit audit (08 R307): its free buffers, the credits it has still to return, and those in
control words in flight. -/
structure AuditReport where
  free : BitVec 8
  owed : BitVec 8
  flight : BitVec 8
  deriving DecidableEq, Repr

/-- What the training of a channel found (06 R210): the data and check pins that fail (pin 36 p + i is pin i of pseudo-channel p), and whether every
command and address lane that is in service passes. -/
structure TrainReport where
  stack : Fin 12
  channel : Fin 32
  badPins : List (Fin 72)
  cmdOk : Bool
  deriving DecidableEq, Repr

/-- A memory-side request as a pseudo-channel adder receives it (06 R228, R229): the operation number of 07 R259, the line,
the element mask, the operands and compare values, their poison, and whether it comes from the unit of a job. -/
structure AtomicReq where
  op : BitVec 4
  addr : BitVec 42
  mask : BitVec 32
  operands : Line
  compares : Line
  poison : Bool
  job : Option (Fin 8)
  deriving DecidableEq, Repr

/-- A ledger record of a suspect device, as a partner copies it for a guest run (10 R372): the fields of 10 Table 5, the ARG of a recorded packet
and the place of the answered request. -/
structure GuestRec where
  kind : Nat
  stack : Nat
  addr : Nat
  source : BitVec 32
  outSeq : BitVec 32
  ptype : Nat
  sub : Nat
  pos : Nat
  arg : BitVec 32
  poison : Bool
  payload : List Line
  deriving DecidableEq, Repr

/-- A unit that a watchdog watches (11 R408). -/
inductive HangUnit where
  | core (c : Fin 144)
  | dma (c : Fin 144) (e : Fin 2)
  | kiln (k : Fin 12)
  | grist (q : Fin 4)
  | coll (q : Fin 4)
  | controlCore (q : Fin 4)
  | racking
  | tunSlice (q : Fin 4) (t : Fin 32)
  | channel (k : Fin 12)
  | adder (k : Fin 12)
  | port (p : Fin 12)
  | managementCore
  deriving DecidableEq, Repr


/-- The commands the block takes, one constructor per row of the table of operations and events (95). -/
inductive Instr where
  /-- SALU (R125): Scalar register-register integer operation selected by FUNC, written to sD. -/
  | salu (c : Fin 144) (w : GenFields)
  /-- SALUI (R125): Scalar integer operation of sA with the immediate. -/
  | salui (c : Fin 144) (w : GenFields)
  /-- SLI (R125): Loads the 64-bit immediate into sD. -/
  | sli (c : Fin 144) (w : GenFields)
  /-- SFP (R125): Scalar FP32 arithmetic, conversion or compare. -/
  | sfp (c : Fin 144) (w : GenFields)
  /-- SLD (R125): Scalar load from local memory, zero- or sign-extended. -/
  | sld (c : Fin 144) (w : GenFields)
  /-- SST (R125): Scalar store of the low bytes of sB to local memory. -/
  | sst (c : Fin 144) (w : GenFields)
  /-- SCSR_READ (R125): Reads a control register into sD. -/
  | scsrRead (c : Fin 144) (w : GenFields)
  /-- SCSR_READ_AND_CLEAR (R125): Reads a control register and clears the sticky ASYNC register. -/
  | scsrReadAndClear (c : Fin 144) (w : GenFields)
  /-- BR (R125): Conditional PC-relative branch, statically predicted. -/
  | br (c : Fin 144) (w : GenFields)
  /-- JAL (R125): Jump and link to a PC-relative target. -/
  | jal (c : Fin 144) (w : GenFields)
  /-- JR (R125): Jump to the address in sA. -/
  | jr (c : Fin 144) (w : GenFields)
  /-- NOP (R125): Does nothing. -/
  | nop (c : Fin 144) (w : GenFields)
  /-- HALT (R126): Ends the stream program, claims unclaimed tiles as ACCFREE and waits for queues, DMAs and acknowledgements. -/
  | halt (c : Fin 144) (w : GenFields)
  /-- HALT_COMPLETE (R126): Once the array queue, epilogue queue, DMAs, GSTs and CSIGs of the program are complete, the stream is reported complete on that core. -/
  | haltComplete (c : Fin 144)
  /-- ILLEGAL_OPCODE (R116): An unassigned opcode faults with code 0x01. -/
  | illegalOpcode (c : Fin 144) (word : BitVec 128)
  /-- VFP (R127): Vector floating-point arithmetic on FP32, BF16 or FP16 lanes under the predicate. -/
  | vfp (c : Fin 144) (w : GenFields) (residue : Bool)
  /-- VINT (R127): Vector INT32 wrapping arithmetic, logic or shift. -/
  | vint (c : Fin 144) (w : GenFields)
  /-- VCMP (R127): Vector compare that writes a predicate. -/
  | vcmp (c : Fin 144) (w : GenFields)
  /-- VCVT (R128): Vector conversion among IEEE, INT32 and block formats. -/
  | vcvt (c : Fin 144) (w : GenFields)
  /-- VPERM (R127): Permutes lanes of vA by the indices in vB. -/
  | vperm (c : Fin 144) (w : GenFields)
  /-- VRED (R129): Cross-lane exact sum, sum of squares, dot, maximum or minimum into a scalar. -/
  | vred (c : Fin 144) (w : GenFields)
  /-- VLD (R127): Loads 2,048 bytes of local memory into a vector register. -/
  | vld (c : Fin 144) (w : GenFields)
  /-- VST (R127): Stores the active lanes of a vector register to local memory. -/
  | vst (c : Fin 144) (w : GenFields)
  /-- VBCAST (R127): Broadcasts sA bits [31:0] into every active lane. -/
  | vbcast (c : Fin 144) (w : GenFields)
  /-- VMOVS (R127): Moves one lane of a vector register into a scalar register. -/
  | vmovs (c : Fin 144) (w : GenFields)
  /-- PLOG (R127): Predicate logic operation. -/
  | plog (c : Fin 144) (w : GenFields)
  /-- VGATHER (R131): Gathers elements from local memory by per-lane indices. -/
  | vgather (c : Fin 144) (w : GenFields)
  /-- VSCATTER_STORE (R132): Scatters active lanes to local memory, highest lane winning a repeated index. -/
  | vscatterStore (c : Fin 144) (w : GenFields)
  /-- VSCATTER_ADD (R132): Scatter-adds active lanes to local memory in ascending lane order. -/
  | vscatterAdd (c : Fin 144) (w : GenFields)
  /-- VTBL (R133): Evaluates a table-unit function or derivative slot on each active element. -/
  | vtbl (c : Fin 144) (w : GenFields)
  /-- TBLLD (R134): Loads a loadable table slot from a 6,208-byte image after in-flight lookups. -/
  | tblld (c : Fin 144) (w : GenFields)
  /-- TILE (R137): Checks and queues a matrix tile instruction with its operand views and optional epilogue. -/
  | tile (c : Fin 144) (t : TileFields)
  /-- STLD (R140): Loads one fold of stationary operand into the loading registers. -/
  | stld (c : Fin 144) (w : GenFields)
  /-- SWAP (R79): Exchanges active and loading stationary registers of every cell. -/
  | swap (c : Fin 144) (w : GenFields)
  /-- EPI (R141): Claims a completed or queued tile for draining through the epilogue. -/
  | epi (c : Fin 144) (w : GenFields)
  /-- ACCFREE (R141): Claims a tile and releases its banks without writing. -/
  | accfree (c : Fin 144) (w : GenFields)
  /-- ACCWAIT (R140): Waits until every bank in the mask is FREE and unawaited. -/
  | accwait (c : Fin 144) (w : GenFields)
  /-- ACCRD (R113): Debug read of 128 accumulator entries into a vector register. -/
  | accrd (c : Fin 144) (w : GenFields)
  /-- ROWSTAT (R144): Row engine computes per-row statistics into side-memory slots. -/
  | rowstat (c : Fin 144) (w : GenFields)
  /-- ROWAPPLY (R144): Row engine applies layer norm, RMS norm or softmax from stored statistics. -/
  | rowapply (c : Fin 144) (w : GenFields)
  /-- ROWBWD (R167): Row engine computes the backward of layer norm, RMS norm or softmax in two passes. -/
  | rowbwd (c : Fin 144) (w : GenFields)
  /-- ROWCOMB_PART (R144): Writes each row's raw sums as XA80 part records. -/
  | rowcombPart (c : Fin 144) (w : GenFields)
  /-- ROWCOMB_JOIN (R144): Combines part records exactly into one statistics slot. -/
  | rowcombJoin (c : Fin 144) (w : GenFields)
  /-- ROWSV_SAVE (R144): Copies side-memory slots to local memory. -/
  | rowsvSave (c : Fin 144) (w : GenFields)
  /-- ROWSV_RESTORE (R144): Copies slots from local memory back into side memory. -/
  | rowsvRestore (c : Fin 144) (w : GenFields)
  /-- DMAQ (R146): Reads and checks a DMA descriptor and its records and queues it on an engine. -/
  | dmaq (c : Fin 144) (w : GenFields)
  /-- GLD (R147): Loads 2,048 bytes from a global address into a vector register, carrying poison. -/
  | gld (c : Fin 144) (w : GenFields)
  /-- GST (R147): Posted write of the active lanes to a global address. -/
  | gst (c : Fin 144) (w : GenFields)
  /-- REGION_LINEAR (R148): Writes a local-memory region descriptor in linear mode and zero-fills the region. -/
  | regionLinear (c : Fin 144) (w : GenFields)
  /-- REGION_DIAGONAL (R148): Writes a region descriptor in diagonal mode with a row pitch and zero-fills it. -/
  | regionDiagonal (c : Fin 144) (w : GenFields)
  /-- REGION_DISABLE (R148): Disables a region descriptor and zero-fills the region. -/
  | regionDisable (c : Fin 144) (w : GenFields)
  /-- CADD (R149): Adds a signed value to a local sync counter with saturation and returns the old value. -/
  | cadd (c : Fin 144) (w : GenFields)
  /-- CRD (R149): Reads a local sync counter value and flags. -/
  | crd (c : Fin 144) (w : GenFields)
  /-- CWAIT (R150): Waits for a counter condition, a cycle limit or orphaning. -/
  | cwait (c : Fin 144) (w : GenFields)
  /-- CSIG (R149): Posted signed add to a counter on this or another device. -/
  | csig (c : Fin 144) (w : GenFields)
  /-- BARRIVE (R322): Records this core's arrival at a barrier slot. -/
  | barrive (c : Fin 144) (w : GenFields)
  /-- BARWAIT (R322): Waits for the barrier phase of the core's latest arrival, a limit or orphaning. -/
  | barwait (c : Fin 144) (w : GenFields)
  /-- FENCE_LOCAL (R151): Waits until every earlier local-memory access of the core has completed. -/
  | fenceLocal (c : Fin 144) (w : GenFields)
  /-- FENCE_GLOBAL (R151): Waits until every earlier GST, CSIG and CADD has been acknowledged. -/
  | fenceGlobal (c : Fin 144) (w : GenFields)
  /-- FENCE_ALL (R151): Does both fences and waits for the array and epilogue queues to empty. -/
  | fenceAll (c : Fin 144) (w : GenFields)
  /-- FENCE_RELEASE (R151): A waiting fence releases issue once its completion condition holds. -/
  | fenceRelease (c : Fin 144)
  /-- TGB (R152): Ends a tile group and snapshots core state into the save buffer. -/
  | tgb (c : Fin 144) (w : GenFields)
  /-- SNAPSHOT_WRITE_COMPLETE (R152): The background write of the save buffer to the Tun save area finishes. -/
  | snapshotWriteComplete (c : Fin 144)
  /-- GROUP_BOUNDARY_CLOSE (R153): A group boundary closes when every instruction before it has completed. -/
  | groupBoundaryClose (c : Fin 144)
  /-- ASSAY (R155): Marks the next TILE for the tile assay. -/
  | assay (c : Fin 144) (w : GenFields)
  /-- BRK (R157): Halts the core for inspection in a debug job and raises event 0x04FE. -/
  | brk (c : Fin 144) (w : GenFields)
  /-- TRAP (R156): Faults with code 0x14 carrying a trap value. -/
  | trap (c : Fin 144) (w : GenFields)
  /-- BRK_RESUME (R157): Write to object 0x3110.4 resumes one or every core halted at BRK. -/
  | brkResume (n : BitVec 8)
  /-- CWAIT_SATISFIED (R314): A counter condition becomes true and releases a waiting CWAIT or gated descriptor. -/
  | cwaitSatisfied (c : Fin 144)
  /-- CWAIT_LIMIT_EXPIRY (R150): The sC cycle limit of a CWAIT passes and it ends with status 1. -/
  | cwaitLimitExpiry (c : Fin 144)
  /-- BARWAIT_RELEASE (R322): The awaited barrier phase completes and BARWAIT returns status 0. -/
  | barwaitRelease (c : Fin 144)
  /-- BARWAIT_LIMIT_EXPIRY (R150): The sC cycle limit of a BARWAIT passes and it ends with status 1. -/
  | barwaitLimitExpiry (c : Fin 144)
  /-- ACCWAIT_RELEASE (R140): Every bank of the mask becomes FREE and ACCWAIT completes. -/
  | accwaitRelease (c : Fin 144)
  /-- TILE_ENTER_ARRAY (R87): The tile at the array queue head starts once all its banks are FREE. -/
  | tileEnterArray (c : Fin 144) (residue : Bool)
  /-- STATIONARY_LOAD_COMPLETE (R77): The loader finishes writing a fold into the loading registers. -/
  | stationaryLoadComplete (c : Fin 144)
  /-- COLUMN_FOLD_COMPLETE (R97): The last update of a column fold lands and the fold can drain. -/
  | columnFoldComplete (c : Fin 144)
  /-- TILE_ACCUMULATION_COMPLETE (R86): Every update of a tile has landed and its banks become COMPLETE. -/
  | tileAccumulationComplete (c : Fin 144)
  /-- EPILOGUE_DRAIN_START (R97): The epilogue starts draining a claimed completed bank in order of completion. -/
  | epilogueDrainStart (c : Fin 144)
  /-- EPILOGUE_DRAIN_COMPLETE (R90): The last entry of a bank is read and the bank becomes FREE. -/
  | epilogueDrainComplete (c : Fin 144)
  /-- DMA_COPY (R249): An engine starts a COPY descriptor with optional conversion and permutation. -/
  | dmaCopy (c : Fin 144) (e : Fin 2)
  /-- DMA_GATHER (R253): An engine starts a GATHER of slices by an index list. -/
  | dmaGather (c : Fin 144) (e : Fin 2)
  /-- DMA_SCATTER (R253): An engine starts a SCATTER of slices by an index list. -/
  | dmaScatter (c : Fin 144) (e : Fin 2)
  /-- DMA_SCATTER_ADD (R256): An engine starts a SCATTER_ADD that turns elements into memory-side adds. -/
  | dmaScatterAdd (c : Fin 144) (e : Fin 2)
  /-- DMA_WINDOW (R252): An engine starts a convolution window expansion. -/
  | dmaWindow (c : Fin 144) (e : Fin 2)
  /-- DMA_ATOMIC (R259): An engine starts one memory-side atomic on a target line. -/
  | dmaAtomic (c : Fin 144) (e : Fin 2)
  /-- DMA_SCAN (R262): Grist starts a CRC scan of a byte range for a job. -/
  | dmaScan (c : Fin 144) (e : Fin 2)
  /-- DMA_COMBINE (R264): Grist combines scan result records into one. -/
  | dmaCombine (c : Fin 144) (e : Fin 2)
  /-- DMA_COMPLETE (R247): All writes are acknowledged; the engine writes status, adds INC and sets ASYNC on error. -/
  | dmaComplete (c : Fin 144) (e : Fin 2) (seq : BitVec 32)
  /-- MEMORY_SIDE_REQUEST (R228): A pseudo-channel adder receives and applies an ADD, MAX, MIN or CAS request exactly once. -/
  | memorySideRequest (r : AtomicReq)
  /-- ADDER_LINE_IDLE_WRITEBACK (R230): An adder buffer line with no atomic for 4,096 cycles is written back. -/
  | adderLineIdleWriteback (line : BitVec 36)
  /-- PATROL_SCRUB (R206): The patrol scrubber reads the next sector of its period, correcting or poisoning. -/
  | patrolScrub (line : BitVec 36) (sector : Fin 2) (arisen : List MemError)
  /-- DRIFT_CHECK (R213): Every 32 beats channel temperature stamps are compared and drifted channels queued. -/
  | driftCheck (k : Fin 12)
  /-- RETRAIN_REQUEST (R213): Write to object 0x4004.2 queues a channel for retraining. -/
  | retrainRequest (v : BitVec 16)
  /-- RETRAIN_WINDOW_OPEN (R214): The next queued channel of a stack opens a 2 ms retraining window. -/
  | retrainWindowOpen (k : Fin 12)
  /-- RETRAIN_SLICE_START (R214): The channel goes offline for a slice of at most 4 µs. -/
  | retrainSliceStart (k : Fin 12)
  /-- RETRAIN_SLICE_END (R214): A slice ends and waiting requests are served first. -/
  | retrainSliceEnd (k : Fin 12)
  /-- RETRAIN_COMPLETE (R214): New lane map and equalisation take effect and the temperature stamp is written. -/
  | retrainComplete (k : Fin 12) (badPins : List (Fin 72)) (ok : Bool)
  /-- RETRAIN_WINDOW_CLOSE (R214): The 2 ms window closes and the next channel may open one. -/
  | retrainWindowClose (k : Fin 12)
  /-- LANE_REWRITE_COMPLETE (R212): The background rewrite of a pseudo-channel after a lane change finishes. -/
  | laneRewriteComplete (k : Fin 12) (pc : Fin 64)
  /-- STACK_ENTER_TEST (R216): Writing 3 to object 0x4001.k puts a stack in TEST. -/
  | stackEnterTest (k : Fin 12)
  /-- STACK_LEAVE_TEST (R216): Writing 0 to object 0x4001.k starts zero-filling the stack before ACTIVE. -/
  | stackLeaveTest (k : Fin 12)
  /-- STACK_ZERO_FILL_COMPLETE (R216): The stack has been zero-filled with clean ECC and returns to ACTIVE. -/
  | stackZeroFillComplete (k : Fin 12)
  /-- TRAFFIC_GENERATOR_START (R217): Command 1 to object 0x4020.9 starts the traffic generator. -/
  | trafficGeneratorStart
  /-- TRAFFIC_GENERATOR_STOP (R217): Command 2 to object 0x4020.9 stops the traffic generator. -/
  | trafficGeneratorStop
  /-- TRAFFIC_GENERATOR_DONE (R218): The generator reaches its length and the checker reports done. -/
  | trafficGeneratorDone (rate : BitVec 32) (results : List (List Byte))
  /-- STACK_SELF_REFRESH_ENTRY (R488): An idle stack enters self-refresh after its idle time. -/
  | stackSelfRefreshEntry (k : Fin 12)
  /-- STACK_WAKE (R489): A request to a stack in self-refresh makes it leave, checking drift first. -/
  | stackWake (k : Fin 12)
  /-- TUN_MODE_WRITE (R226): A write to object 0x4010 queues a Tun slice mode switch. -/
  | tunModeWrite (q : Fin 4) (t : Fin 32) (mode : BitVec 8)
  /-- TUN_MODE_SWITCH_COMPLETE (R226): A slice mode switch finishes its write-backs, flushes or zero-fill and takes effect. -/
  | tunModeSwitchComplete (q : Fin 4)
  /-- COMBINING_IDLE_FLUSH (R224): A combining entry idle for the timeout is flushed by read, merge and write. -/
  | combiningIdleFlush (q : Fin 4) (line : BitVec 36)
  /-- TUN_SLICE_SLEEP (R488): An idle Tun slice enters retention after its idle time. -/
  | tunSliceSleep (q : Fin 4) (t : Fin 32)
  /-- TUN_SLICE_WAKE (R488): An access wakes a sleeping Tun slice. -/
  | tunSliceWake (q : Fin 4) (t : Fin 32)
  /-- BAR2_READ (R429): A host read through BAR2 reaches device memory through the home quarter. -/
  | bar2Read (off : Word) (len : BitVec 13) (arisen : List MemError)
  /-- BAR2_WRITE (R429): A host write through BAR2 reaches device memory, recorded if in an input window. -/
  | bar2Write (off : Word) (data : List Byte) (ep : Bool)
  /-- PORT_ENABLE_WRITE (R275): Write to object 0x5002.p enables or disables a port. -/
  | portEnableWrite (p : Fin 12) (on : Bool)
  /-- PORT_RETRAIN (R275): Port command 1 retrains a port. -/
  | portRetrain (p : Fin 12)
  /-- PORT_TAKE_DOWN (R275): Port command 2 takes a port down. -/
  | portTakeDown (p : Fin 12)
  /-- PORT_ADOPT (R280): Port command 3 adopts the observed neighbour of a MISWIRED port. -/
  | portAdopt (p : Fin 12)
  /-- PORT_CREDIT_AUDIT (R307): Port command 4 runs a credit audit on a link. -/
  | portCreditAudit (p : Fin 12) (report : List AuditReport)
  /-- FAR_END_DETECT (R276): Far-end energy on at least 7 lanes starts link training. -/
  | farEndDetect (p : Fin 12)
  /-- LINK_TRAINING_COMPLETE (R276): Equalisation, lane test, deskew and codeword lock finish and card exchange begins. -/
  | linkTrainingComplete (p : Fin 12) (badLanes : BitVec 9)
  /-- NEIGHBOUR_CARD_RECEIVED (R279): A received neighbour card is checked, versions negotiated and compared with the expected record. -/
  | neighbourCardReceived (p : Fin 12) (card : List Byte)
  /-- CARD_RESEND (R277): Every 32,768 beats a carrying port resends its card. -/
  | cardResend (p : Fin 12)
  /-- PORT_DOWN_RETRY (R275): A DOWN port retries training every 32,768 beats. -/
  | portDownRetry (p : Fin 12)
  /-- CODEWORD_RECEIVED (R271): An intact codeword is accepted, its symbols attributed and acknowledged. -/
  | codewordReceived (p : Fin 12) (n : BitVec 12) (fixes : List (Fin 136)) (packets : List Packet)
  /-- CODEWORD_UNCORRECTABLE (R271): A receiver discards an uncorrectable codeword and sends a negative acknowledgement. -/
  | codewordUncorrectable (p : Fin 12) (n : BitVec 12)
  /-- LINK_ACK_RECEIVED (R271): A cumulative acknowledgement frees codewords from the retry buffer. -/
  | linkAckReceived (p : Fin 12) (n : BitVec 12)
  /-- LINK_NACK_RECEIVED (R271): A negative acknowledgement makes the transmitter resend from its retry buffer. -/
  | linkNackReceived (p : Fin 12) (n : BitVec 12)
  /-- CREDIT_RETURN (R294): A credit-return control word gives the transmitter back buffer credits. -/
  | creditReturn (p : Fin 12) (vc : Fin 2) (n : BitVec 8)
  /-- LANE_FAILURE (R272): A receiver loses lock on a lane or its corrections reach the swap threshold. -/
  | laneFailure (p : Fin 12) (lane : Fin 9)
  /-- SWAP_REQUEST (R272): A received swap request makes the far transmitter send a marker and stripe onto L8. -/
  | swapRequest (p : Fin 12) (ask : LaneRequest)
  /-- SWAP_MARKER (R272): A received swap marker makes the receiver deskew L8 and resume decoding. -/
  | swapMarker (p : Fin 12) (lane : Fin 9)
  /-- MARGIN_CHECK (R274): 10 s after first traffic, lane eye margins are measured and weak lanes swapped or flagged. -/
  | marginCheck (p : Fin 12) (margins : List (BitVec 32))
  /-- LINK_LOST (R300): A port goes DOWN; credits retire and unaccepted packets are discarded. -/
  | linkLost (p : Fin 12)
  /-- HANDOFF_EXCHANGE (R301): The far end receives the last accepted packet number and moves its unaccepted packets. -/
  | handoffExchange (p : Fin 12) (last : BitVec 16)
  /-- PACKET_TRANSMIT (R295): A queued packet is sent when it holds the credits and wins arbitration. -/
  | packetTransmit (p : Fin 12) (vc : Fin 2)
  /-- PACKET_FORWARD (R289): A packet for another endpoint is routed onward, or NACKed at the hop limit or without a route. -/
  | packetForward (p : Fin 12) (pkt : Packet)
  /-- WRITE_PACKET (R285): A WRITE request is checked and its full lines written through the home quarter. -/
  | writePacket (via : Option (Fin 12)) (pkt : Packet)
  /-- MASKED_WRITE (R522): A masked WRITE writes only the selected bytes of its lines. -/
  | maskedWrite (via : Option (Fin 12)) (pkt : Packet)
  /-- READ_PACKET (R284): A READ request is answered with READ_DATA packets. -/
  | readPacket (via : Option (Fin 12)) (pkt : Packet)
  /-- ATOMIC_PACKET (R228): An ATOMIC request applies a memory-side operation and answers. -/
  | atomicPacket (via : Option (Fin 12)) (pkt : Packet)
  /-- SIGNAL_PACKET (R315): A SIGNAL adds ARG to a counter and is acknowledged after the add. -/
  | signalPacket (via : Option (Fin 12)) (pkt : Packet)
  /-- COLL_DATA (R337): Collective data lands in granted buffer space and is combined. -/
  | collData (via : Option (Fin 12)) (pkt : Packet)
  /-- COLL_READY (R337): A grant allows sending data for an operation to a neighbour. -/
  | collReady (via : Option (Fin 12)) (pkt : Packet)
  /-- COLL_ABORT (R340): An abort ends a collective and is forwarded once on the axis. -/
  | collAbort (via : Option (Fin 12)) (pkt : Packet)
  /-- SYNC_ARRIVE (R323): A child's barrier arrival is recorded for the phase. -/
  | syncArrive (via : Option (Fin 12)) (pkt : Packet)
  /-- SYNC_RELEASE (R323): A release completes the barrier phase and is forwarded to children. -/
  | syncRelease (via : Option (Fin 12)) (pkt : Packet)
  /-- SYNC_ORPHAN (R324): An orphan message orphans the slot, releases waiters and is forwarded once. -/
  | syncOrphan (via : Option (Fin 12)) (pkt : Packet)
  /-- WRITE_ACK (R284): A write acknowledgement resolves the request and returns its tokens. -/
  | writeAck (via : Option (Fin 12)) (pkt : Packet)
  /-- READ_DATA (R284): Read data is delivered to the requester; the last packet is final. -/
  | readData (via : Option (Fin 12)) (pkt : Packet)
  /-- ATOMIC_RESP (R259): An atomic response completes the request, returning CAS old values. -/
  | atomicResp (via : Option (Fin 12)) (pkt : Packet)
  /-- SIGNAL_ACK (R315): A signal acknowledgement resolves a remote CSIG or signal. -/
  | signalAck (via : Option (Fin 12)) (pkt : Packet)
  /-- COLL_ACK (R342): A collective packet acknowledgement is received. -/
  | collAck (via : Option (Fin 12)) (pkt : Packet)
  /-- SYNC_ACK (R342): A barrier message acknowledgement is received. -/
  | syncAck (via : Option (Fin 12)) (pkt : Packet)
  /-- NACK (R288): A NACK resolves the failed request at its source unit. -/
  | nack (via : Option (Fin 12)) (pkt : Packet)
  /-- RESPONSE_TIMEOUT (R299): A request without a final response within the timeout is in doubt and stops its job. -/
  | responseTimeout (tag : BitVec 16)
  /-- SPARGE_START (R305): Writing 1 to object 0x5011.0 stops request injection and enters DRAINING. -/
  | spargeStart
  /-- SPARGE_DRAINED (R305): Buffers, queues and windows are empty and audits pass; the state becomes DRAINED. -/
  | spargeDrained
  /-- SPARGE_TIMEOUT (R305): A sparge not DRAINED within its timeout ends ABORTED and injection resumes. -/
  | spargeTimeout
  /-- TABLE_COMMIT (R304): Writing 1 to object 0x5010.4 in DRAINED makes staged tables active and ends detours. -/
  | tableCommit
  /-- COORDINATE_WRITE (R282): Writing object 0x5000.0 assigns the coordinate and retrains every port. -/
  | coordinateWrite (v : BitVec 32)
  /-- D2D_LANE_FAILURE (R19): A failing die-to-die lane is swapped for a spare. -/
  | d2dLaneFailure (l : D2dSide)
  /-- D2D_LINK_LOSS (R19): A die-to-die link beyond its spares is detoured through another quarter. -/
  | d2dLinkLoss (l : Fin 6)
  /-- SYNC_ALLOC_ASSIGN (R310): Command assigns a free counter block to the job. -/
  | syncAllocAssign (i : Fin 64)
  /-- SYNC_ALLOC_FREE (R310): Command frees a counter block owned by the job. -/
  | syncAllocFree (i : Fin 64)
  /-- BARRIER_SETUP_CONFIGURE (R320): Command configures a barrier slot from its record. -/
  | barrierSetupConfigure (i : Fin 64)
  /-- BARRIER_SETUP_FREE (R320): Command frees a barrier slot. -/
  | barrierSetupFree (i : Fin 64)
  /-- JOB_SETUP (R319): Command checks and installs the job's device-group table. -/
  | jobSetup (i : Fin 64)
  /-- COLLECTIVE (R328): Command checks and queues a collective descriptor. -/
  | collective (i : Fin 64)
  /-- ALL_REDUCE (R332): A queued all-reduce starts its axis steps. -/
  | allReduce (opid : BitVec 32)
  /-- REDUCE_SCATTER (R332): A queued reduce-scatter starts its axis steps. -/
  | reduceScatter (opid : BitVec 32)
  /-- ALL_GATHER (R332): A queued all-gather starts moving owned ranges. -/
  | allGather (opid : BitVec 32)
  /-- NORM_SUM (R335): A queued norm-sum combines PART_SS and all-reduces it into GLOBAL_SS. -/
  | normSum (opid : BitVec 32)
  /-- MAX_INDEX (R336): A queued max-index reduction of value-index pairs starts. -/
  | maxIndex (opid : BitVec 32)
  /-- COLLECTIVE_COMPLETE (R339): All outputs acknowledged and grants consumed; DONE_INC is added. -/
  | collectiveComplete (opid : BitVec 32)
  /-- AUDIT_RUN (R344): Writing 1 to object 0x5060.11 runs every conservation check. -/
  | auditRun
  /-- KILN (R177): Command checks every Kiln descriptor and hyperparameter block and accepts them in COMPUTE. -/
  | kiln (i : Fin 64)
  /-- KILN_UPDATE (R179): A Kiln part starts its optimizer update once its wait condition holds. -/
  | kilnUpdate (k : Fin 12) (id : Nat)
  /-- KILN_NORM (R187): A Kiln part adds squared use-sums into PART_SS. -/
  | kilnNorm (k : Fin 12) (id : Nat)
  /-- KILN_DESCRIPTOR_COMPLETE (R178): Every write of every part is acknowledged and DONE_COUNTER is incremented. -/
  | kilnDescriptorComplete (id : Nat)
  /-- STEP_OPEN (R355): Command opens a gated step and moves the Escapement to COMPUTE. -/
  | stepOpen (i : Fin 64)
  /-- STEP_END (R360): Command records the stream's end of the step. -/
  | stepEnd (i : Fin 64)
  /-- COMPUTE_END (R360): All streams ended and all work and inputs recorded; the Escapement enters CHECK. -/
  | computeEnd
  /-- QUARTER_GATE_REPORT (R361): A quarter gate reports once it holds all its check results. -/
  | quarterGateReport (q : Fin 4)
  /-- FINGERPRINT_RECORD (R358): The twin's fingerprint record arrives and is compared. -/
  | fingerprintRecord (record : List Byte)
  /-- CHECK_DEADLINE_EXPIRY (R361): The check deadline passes and missing reports become reasons. -/
  | checkDeadlineExpiry
  /-- COMMIT_VOTE_RESULT (R362): The vote completes with commit, revoke or failure. -/
  | commitVoteResult
  /-- VOTE_TIMEOUT (R362): A vote not complete within its timeout stops the gated job with 0x0A05. -/
  | voteTimeout
  /-- ROLLBACK_COMPLETE (R370): A rollback finishes restoring undo lines and the next run enters COMPUTE. -/
  | rollbackComplete (damaged : Bool)
  /-- GUEST_REQUEST (R372): A suspect twin asks the partner to compute its run digest. -/
  | guestRequest (src : BitVec 17) (step : Word) (last : Word) (records : List GuestRec)
  /-- GUEST_DIGEST_RETURNED (R374): The partner's guest digest arrives and is compared with the suspect's runs. -/
  | guestDigestReturned (ud : Word) (od : Word)
  /-- GUEST_DECLINE (R373): A decline arrives and the suspect resolves with local runs. -/
  | guestDecline
  /-- ASSAY_TILE_START (R350): An assay tile starts on the assay core when banks fit. -/
  | assayTileStart (c : Fin 144)
  /-- ASSAY_TILE_COMPLETE (R352): The assay drain finishes and the two output digests are compared. -/
  | assayTileComplete (c : Fin 144)
  /-- ASSAY_ABANDON (R350): An assay not started within 65,536 cycles is abandoned and its ranges released. -/
  | assayAbandon (c : Fin 144)
  /-- PROFILE_WRITE (R348): A write to object 0x3200 is accepted only while the Escapement is IDLE. -/
  | profileWrite (mem : Fin 5) (v : BitVec 32)
  /-- CORE_FAULT_DETECTED (R388): A core replacement trigger fences the core and maps a spare. -/
  | coreFaultDetected (c : Fin 144) (cause : Fin 5)
  /-- CORE_REPLACEMENT_RESUME (R388): The spare's PLL locks, the snapshot is restored and it issues again. -/
  | coreReplacementResume (c : Fin 144)
  /-- RETIRE_COMMAND (R387): Write to object 0x6001.12 retires a physical core. -/
  | retireCommand (v : BitVec 16)
  /-- CLEAR_RETIRED_LIST (R391): Write to object 0x6001.13 in IDLE clears the retired list. -/
  | clearRetiredList
  /-- WATCHDOG_EXPIRY (R408): A unit holding work shows no progress for a beat and its action runs. -/
  | watchdogExpiry (u : HangUnit)
  /-- COMMAND_TIMEOUT (R407): A stream command exceeds its timeout and its job stops with 0x0B04. -/
  | commandTimeout (i : Fin 64) (n : BitVec 32)
  /-- CHRONOGRAPH_DUMP (R409): Writing 1 to object 0x6030.0 dumps every unit without a reset. -/
  | chronographDump
  /-- CHRONOGRAPH_UNIT_TIMEOUT (R409): A unit not answering within 100 µs gets a NO_ANSWER record. -/
  | chronographUnitTimeout (kind : Fin 16) (num : BitVec 8)
  /-- RACKING_BLOCK_COPY (R397): The racking engine copies the next racked block under the rate limit. -/
  | rackingBlockCopy (b : BitVec 34)
  /-- PRIORITY_COPY (R398): A write to an uncopied racked block is held while the block is copied. -/
  | priorityCopy (b : BitVec 34)
  /-- RACKING_SUMS_RECEIVED (R400): The cellar host receives the sender's sums and scans and seals each stack. -/
  | rackingSumsReceived (src : BitVec 17) (epoch : Word) (snap : Word) (serial : List Byte) (sums : List Word) (dirs : List (List Byte))
  /-- EPOCH_SEALED (R400): All twelve headers are written and the sender is told the epoch is sealed. -/
  | epochSealed (report : Fin 3)
  /-- RESTORE_COMMAND (R406): Write to object 0x6011.3 makes the host verify and send a cellar slot. -/
  | restoreCommand (v : BitVec 8)
  /-- RESTORE_COMPLETE (R406): The restore finishes and reports done or failed. -/
  | restoreComplete (ok : Bool)
  /-- HEALTH_RESTORE_TICK (R418): Transient deductions are restored at 10 points per hour. -/
  | healthRestoreTick
  /-- EXPULSION_BUDGET_WRITE (R420): Write to object 0x6050.3 sets the budget, possibly starting a self-expulsion. -/
  | expulsionBudgetWrite (v : BitVec 16)
  /-- SELF_EXPULSION (R421): A SICK device with budget stops its jobs after its open step resolves and becomes EXPELLED. -/
  | selfExpulsion
  /-- CLEAR_EXPELLED (R421): Write to object 0x6050.7 clears EXPELLED. -/
  | clearExpelled
  /-- DRILL_CORE_HANG (R423): A drill timer stops issue on a mapped core. -/
  | drillCoreHang (c : Fin 144)
  /-- DRILL_LANE_DROP (R423): A drill timer declares an active lane failed. -/
  | drillLaneDrop (p : Fin 12) (lane : Fin 9)
  /-- DRILL_POISON (R423): A drill timer poisons and consumes a firmware-area line. -/
  | drillPoison (line : BitVec 36)
  /-- DRILL_FALSE_ASSAY (R423): A drill timer reports a false digest mismatch. -/
  | drillFalseAssay (c : Fin 144)
  /-- RESET_REINIT (R412): Object 0x6040.0 = 2 re-initialises the function (rung 2). -/
  | resetReinit
  /-- WARM_RESET (R413): Object 0x6040.0 = 3 performs a warm reset (rung 3). -/
  | warmReset
  /-- POWER_CYCLE (R415): Object 0x6040.0 = 4 power-cycles the fast domains (rung 4). -/
  | powerCycle
  /-- WARM_RESET_COMPLETE (R413): Training, self-test and rollback finish and the device enters IDLE. -/
  | warmResetComplete (lost : BitVec 12)
  /-- PCIE_RESET (R431): A Function Level Reset or Hot Reset is rung 2. -/
  | pcieReset
  /-- D3HOT_ENTRY (R431): Entry into D3hot is rung 2 and the device waits in IDLE. -/
  | d3hotEntry
  /-- PCIE_LINK_LOSS (R431): The PCIe link is lost; host-bound work ends with 0x030D. -/
  | pcieLinkLoss
  /-- DOORBELL_TAIL_WRITE (R434): A TAIL write is checked and records new commands. -/
  | doorbellTailWrite (i : Fin 64) (v : BitVec 32)
  /-- COMP_HEAD_WRITE (R444): A COMP_HEAD write frees completion ring space and releases a held record. -/
  | compHeadWrite (i : Fin 64) (v : BitVec 32)
  /-- CONTROL_RETRY (R436): CONTROL RETRY restarts the failed command of a STOPPED stream. -/
  | controlRetry (i : Fin 64)
  /-- CONTROL_SKIP (R436): CONTROL SKIP resumes a STOPPED stream after the failed command. -/
  | controlSkip (i : Fin 64)
  /-- CONTROL_FLUSH (R436): CONTROL FLUSH discards unstarted commands of a STOPPED stream. -/
  | controlFlush (i : Fin 64)
  /-- STREAM_CONFIG_WRITE (R432): Write of object 0x1021.s while the stream is DISABLED. -/
  | streamConfigWrite (i : Fin 64) (cfg : List Byte)
  /-- STREAM_ENABLE (R432): Write of 1 to object 0x1022.s checks the configuration and enables the stream. -/
  | streamEnable (i : Fin 64)
  /-- STREAM_DISABLE (R437): Write of 0 to object 0x1022.s disables the stream, freeing the job if last. -/
  | streamDisable (i : Fin 64)
  /-- LAUNCH (R441): Command starts a program on each core of the mask. -/
  | launch (i : Fin 64)
  /-- MARKER (R439): Command adds INC to a counter. -/
  | marker (i : Fin 64)
  /-- HOST_COPY (R442): Command copies data between host and device memory. -/
  | hostCopy (i : Fin 64) (fail : Option (BitVec 32))
  /-- RESERVED_COMMAND (R440): A command with a reserved opcode is rejected and its stream STOPPED. -/
  | reservedCommand (i : Fin 64)
  /-- COMMAND_COMPLETE (R443): A command completes and its completion record is written to the ring. -/
  | commandComplete (i : Fin 64) (n : BitVec 32)
  /-- INTERRUPT_MODERATION_TIMEOUT (R432): The oldest unsignalled record waits MOD_TIME and the stream interrupt is raised. -/
  | interruptModerationTimeout (i : Fin 64)
  /-- JOB_STOP (R437): Write of 1 to object 0x1025.j stops the job. -/
  | jobStop (j : Fin 8)
  /-- JOB_RELEASE (R438): Write of 2 to object 0x1025.j releases a STOPPED job. -/
  | jobRelease (j : Fin 8)
  /-- MAILBOX_SUBMIT (R455): A SUBMIT write submits the mailbox request message. -/
  | mailboxSubmit (v : BitVec 32)
  /-- MAILBOX_READY_CLEAR (R455): Writing 1 to READY clears the response indication. -/
  | mailboxReadyClear
  /-- FYNEN_READ (R450): A Fynen READ message returns an object member's value. -/
  | fynenRead (t : Transport) (m : FynenMsg)
  /-- FYNEN_WRITE (R452): A Fynen WRITE message is authenticated, type- and access-checked and applied. -/
  | fynenWrite (t : Transport) (m : FynenMsg)
  /-- FYNEN_DESCRIBE (R450): A Fynen DESCRIBE message returns a member's type, access, range, units and name. -/
  | fynenDescribe (t : Transport) (m : FynenMsg)
  /-- FYNEN_EVENT_ACK (R456): An EVENT_ACK stops the resending of an event. -/
  | fynenEventAck (t : Transport) (m : FynenMsg)
  /-- EVENT_RESEND (R456): An unacknowledged EVENT message is resent every 100 ms up to 10 sends. -/
  | eventResend (seq : Word)
  /-- OBJECT_WRITE (R3): A write to an object member without a row of its own is range-checked and stored. -/
  | objectWrite (o : BitVec 16) (m : BitVec 8) (value : List Byte)
  /-- STATE_REQUEST_STANDBY (R445): Object 0x1010.1 = 1 requests STANDBY. -/
  | stateRequestStandby
  /-- STATE_REQUEST_IDLE (R445): Object 0x1010.1 = 2 requests IDLE. -/
  | stateRequestIdle
  /-- STATE_REQUEST_RUN (R445): Object 0x1010.1 = 3 requests RUN. -/
  | stateRequestRun
  /-- DRAIN_QUIET (R447): A draining device becomes quiet and moves to IDLE. -/
  | drainQuiet
  /-- DRAIN_TIMEOUT (R445): The drain timeout stops every job with 0x0D01 and moves to IDLE. -/
  | drainTimeout
  /-- CONFIG_SEAL (R452): Writing 1 to object 0x1010.5 seals RWL members and extends M4. -/
  | configSeal
  /-- ISLAND_POWER_UP (R462): The Hairspring island powers up, reads MGMT_ID and reconstructs the PUF secret. -/
  | islandPowerUp (mgmtId : BitVec 3) (ok : Bool)
  /-- ROM_BOOT (R468): The ROM measures, checks RPMB, selects and verifies a slot and hands over. -/
  | romBoot (rpmb : Fin 3) (loadOk : Bool) (bad : List TrainReport) (coreOk : List (List Bool))
  /-- IMAGE_SESSION_OPEN (R471): Write to object 0x1110.2 opens an image write session. -/
  | imageSessionOpen (t : Transport) (v : BitVec 8)
  /-- IMAGE_SLOT_DATA (R471): Write to object 0x1110.4 appends image data at the write offset. -/
  | imageSlotData (t : Transport) (data : List Byte)
  /-- IMAGE_COMMIT (R471): Write of 1 to object 0x1110.5 starts verification of the slot. -/
  | imageCommit (t : Transport)
  /-- IMAGE_VERIFY_COMPLETE (R471): Verification ends with the slot PENDING or FAILED. -/
  | imageVerifyComplete (x : Fin 2)
  /-- OWNERSHIP_REGISTER (R473): A REGISTER ownership request makes an UNOWNED device OWNED. -/
  | ownershipRegister (rec : List Byte)
  /-- OWNERSHIP_TRANSFER (R473): A TRANSFER request replaces the owner key hash. -/
  | ownershipTransfer (rec : List Byte)
  /-- OWNERSHIP_RELEASE (R473): A RELEASE request makes the device UNOWNED and erases Fynen keys. -/
  | ownershipRelease (rec : List Byte)
  /-- KEY_INSTALL (R474): A key-install record is verified and unwrapped into a transport key. -/
  | keyInstall (rec : List Byte)
  /-- ATTESTATION_NONCE (R476): A nonce write makes the ROM sign an attestation report. -/
  | attestationNonce (nonce : List Byte)
  /-- INPUT_APPLIED (R445): An input within 48-54 V powers the island and the device enters STANDBY. -/
  | inputApplied (i : Fin 2) (volts : BitVec 32)
  /-- INPUT_UNDERVOLTAGE (R481): An input below 45 V has its ORing switch opened. -/
  | inputUndervoltage (i : Fin 2) (volts : BitVec 32)
  /-- INPUT_UNDERVOLTAGE_RECOVERY (R481): An input above 47 V for 10 ms is switched back in. -/
  | inputUndervoltageRecovery (i : Fin 2) (volts : BitVec 32)
  /-- INPUT_OVERVOLTAGE (R481): An input above 57 V has its ORing switch opened. -/
  | inputOvervoltage (i : Fin 2) (volts : BitVec 32)
  /-- INPUT_OVERVOLTAGE_RECOVERY (R481): An input below 55 V for 10 ms is switched back in. -/
  | inputOvervoltageRecovery (i : Fin 2) (volts : BitVec 32)
  /-- INPUT_REVERSE_CURRENT (R481): Reverse current of 2 A opens the input's ORing switch. -/
  | inputReverseCurrent (i : Fin 2)
  /-- BOTH_INPUTS_LOST (R483): Both inputs fail and the device goes OFF without a dump. -/
  | bothInputsLost
  /-- RAIL_OUT_OF_REGULATION (R484): A rail not in or leaving regulation puts the device in FAULT with 0x0908. -/
  | railOutOfRegulation (r : Fin 5)
  /-- FAB_REFCLK_LOSS (R486): FAB_REFCLK is lost or off frequency and PLLs switch to the on-module oscillator. -/
  | fabRefclkLoss
  /-- PCIE_REFCLK_LOSS (R487): PCIE_REFCLK is lost and the PCIe link goes down. -/
  | pcieRefclkLoss
  /-- PCIE_REFCLK_RETURN (R487): PCIE_REFCLK returns and the link retrains. -/
  | pcieRefclkReturn
  /-- CRYSTAL_CHECK (R23): Every 128 beats the crystal is checked and replaced by the oscillator if failed. -/
  | crystalCheck (good : Bool)
  /-- CORE_SLEEP_ENTRY (R488): A core idle for its idle time is queued to sleep at the Fusee. -/
  | coreSleepEntry (c : Fin 144)
  /-- FUSEE_GRANT (R490): The Fusee grants the next queued wake or sleep at least 0.417 µs after the last. -/
  | fuseeGrant
  /-- CORE_PLL_LOCK (R23): A woken core's PLL locks and it starts issuing. -/
  | corePllLock (c : Fin 144)
  /-- POWER_LIMIT_WINDOW (R494): Each 1 ms average moves the power-limit step up or down. -/
  | powerLimitWindow (watts : BitVec 32)
  /-- THERMAL_STEP_TICK (R497): The thermal step rises every 10 µs above target or falls every 100 µs below it. -/
  | thermalStepTick (q : Fin 4)
  /-- SENSOR_READING (R495): Junction and stack temperatures are read every 10 µs. -/
  | sensorReading (junction : List (List (BitVec 32))) (stackTemps : List (BitVec 32))
  /-- RESET_N_ASSERT (R500): RESET_N held 1 ms starts a warm reset and holds the fast domains. -/
  | resetNAssert (heldMs : Nat)
  /-- RESET_N_RELEASE (R500): RESET_N release lets the held warm reset complete. -/
  | resetNRelease
  /-- THROTTLE_N_ASSERT (R500): THROTTLE_N assertion sets a minimum throttle step on every quarter. -/
  | throttleNAssert
  /-- THROTTLE_N_RELEASE (R500): THROTTLE_N release removes its step demand. -/
  | throttleNRelease
  /-- PRESENT_N_DEASSERT (R501): PRESENT_N deassertion stops jobs, drops rails and enters FAULT. -/
  | presentNDeassert
  /-- PRESENT_N_ASSERT (R501): PRESENT_N assertion lets a waiting IDLE target proceed. -/
  | presentNAssert
  /-- INPUT_CHATTER (R500): Two changes within 50 µs mark an input chattering and raise 0x0906. -/
  | inputChatter (i : Fin 3)
  /-- INPUT_HELD (R500): An input asserted or chattering for 1 s raises 0x0905, repeated every 60 s. -/
  | inputHeld (i : Fin 3)
  /-- TAP_BYPASS (R520): BYPASS instruction selects the bypass register. -/
  | tapBypass
  /-- TAP_IDCODE (R520): IDCODE instruction selects the identification register. -/
  | tapIdcode
  /-- TAP_SAMPLE_PRELOAD (R520): SAMPLE/PRELOAD instruction captures or preloads boundary cells. -/
  | tapSamplePreload (cells : Word)
  /-- EXTEST (R521): EXTEST is loaded in IDLE with all jobs FREE, driving boundary values. -/
  | extest
  /-- EXTEST_PULSE (R521): EXTEST_PULSE is loaded under the same conditions as EXTEST. -/
  | extestPulse
  /-- EXTEST_TRAIN (R521): EXTEST_TRAIN is loaded under the same conditions as EXTEST. -/
  | extestTrain
  /-- EXTEST_LEAVE (R521): Leaving an EXTEST instruction performs a warm reset. -/
  | extestLeave
  /-- NEIGHBOR_DISCOVERY (R449): A Neighbor Discovery message on 10BASE-T1S is answered for the module's link-local IPv6 address. -/
  | neighborDiscovery (target : BitVec 128)
  /-- FYNEN_FORMAT_ERROR (R450): A Fynen message whose FORMAT, KIND or length does not match is answered with error 0x0101. -/
  | fynenFormatError (t : Transport) (raw : List Byte)
  /-- BAR_WRITE_DISCARDED (R428): A BAR0 write to an unlisted offset, or with a disallowed size or alignment, is discarded and counted in object 0x1020.4. -/
  | barWriteDiscarded (off : Word) (data : List Byte)
  /-- D0_RETURN (R431): The host returns the function from D3hot to D0 and the device leaves its D3hot hold. -/
  | d0Return
  /-- PCIE_LINK_UP (R431): The PCI Express link trains up again after a loss that was not caused by the reference clock. -/
  | pcieLinkUp
  deriving DecidableEq, Repr

end Sys2Proof
end

