-- ==== Sys2Proof/Decode.lean ====
section
/-! DEFINITION. The command that a word spells by the table's bits. The table of this block gives no row any bits, so no word
spells a command. -/

namespace Sys2Proof

/-- No row of the table of operations gives bits: no word spells a command. (log 2, DESIGN CHOICE) -/
def decodeTableWord (_nbits _w : Nat) : Option Instr := none

end Sys2Proof
end

