-- ==== Sys2Proof/Machine/State.lean ====
section
/-! DEFINITION. The state of the block: every register, queue, buffer, counter, mode and pin the spec gives it, as plain data,
with the queue of commands that wait. Each field names the rule that gives it; NOTES.md and the assumption log say which reset
values are the model's. -/

namespace Sys2Proof.Machine

/-- A sparse table: rising keys, each with an entry that differs from the table's default. -/
abbrev Tbl (α : Type) := List (Nat × α)

/-- Sparse memory: rising addresses, no entry equal to what an unlisted address reads as (06 R194). -/
abbrev Mem := List Host.Cell

/-- What a running program waits for after it has issued a waiting instruction (04 R126, R140, R147, R150, R151). -/
inductive Wait where
  | none
  | counter (n : BitVec 16) (eq : Bool) (v : BitVec 32) (rd : BitVec 5) (limited : Bool)
  | barrier (slot : BitVec 8) (phase : BitVec 32) (rd : BitVec 5) (limited : Bool)
  | banks (mask : BitVec 8)
  | fenceLocal
  | fenceGlobal
  | fenceAll
  | halt
  | gld (rd : BitVec 5) (pred : BitVec 3)
  deriving DecidableEq, Repr

/-- Whether a program runs on a logical core: no program; running; halted at BRK (04 R157); HALT complete (R126);
stopped by a fault (R122); stopped because another core of its LAUNCH faulted (12 R441). -/
inductive CoreRun where
  | idle | running | brk | ended | faulted | stopped
  deriving DecidableEq, Repr

/-- Why the instruction that a core was given did not issue (03 R107: issue stops at the first instruction whose unit or
queue slot is not ready). (log 7, DESIGN CHOICE) -/
inductive Stall where
  | none | arrayQueue | epilogueQueue | tracker | gstLimit | saveBuffer | barrierAhead | dmaQueue | windowTokens | bank | memory
  deriving DecidableEq, Repr

/-- Sleep state of a core (14 R488, R490, R491). -/
inductive CoreSleep where
  | awake | sleepQueued | asleep | wakeQueued | locking
  deriving DecidableEq, Repr

/-- State of an accumulator bank (03 R86). -/
inductive BankState where
  | free | accumulating | complete | draining
  deriving DecidableEq, Repr

/-- One element of an operand as the array sees it (02 R41, R45): a special value, or sign and magnitude times 2^exp. -/
structure Elem where
  nan : Bool
  inf : Bool
  neg : Bool
  mag : Nat
  exp : Int
  deriving DecidableEq, Repr

/-- An operand view as read at issue (04 Table 9). -/
structure View where
  base : Nat
  pitch : Nat
  fmt : Nat
  trans : Bool
  rows : Nat
  cols : Nat
  deriving DecidableEq, Repr

/-- An epilogue block as read at issue (04 Table 10), with the scale register's value (04 R137). -/
structure EpiRec where
  dstBase : Nat
  dstPitch : Nat
  dstFmt : Nat
  rnd : Nat
  scaleKind : Nat
  scaleVal : BitVec 32
  biasKind : Nat
  biasFmt : Nat
  actEn : Bool
  actSlot : Nat
  tensorKind : Nat
  scaleAddr : Nat
  biasAddr : Nat
  secBase : Nat
  secPitch : Nat
  secFmt : Nat
  secEn : Bool
  phase : BitVec 16
  tensorId : BitVec 32
  origin : BitVec 64
  rowStride : BitVec 64
  colStride : BitVec 64
  carryBase : Nat
  carryFirst : BitVec 64
  deriving DecidableEq, Repr

/-- A checked TILE with everything it captured at issue (04 R135, R137). -/
structure TileRec where
  seq : Nat
  m : Nat
  n : Nat
  k : Nat
  kind : Nat
  compact : Bool
  b0 : Nat
  viewA : View
  viewB : Option View
  active : Bool
  combine : Option View
  idxBase : Nat
  epi : Option EpiRec
  compat : Bool
  step : BitVec 64
  job : Nat
  stream : Nat
  stepSeq : Nat
  assay : Bool
  freeBase : Nat
  deriving DecidableEq, Repr

/-- An entry of the array queue (03 R87, 04 R140). -/
inductive ArrOp where
  | tile (t : TileRec)
  | stld (v : View) (streamFmt : Nat)
  | swap
  deriving DecidableEq, Repr

/-- An entry of the epilogue queue: the claim of a tile (by its sequence number) by EPI (with a block) or ACCFREE (04 R141). -/
structure EpiOp where
  seq : Nat
  b0 : Nat
  block : Option EpiRec
  deriving DecidableEq, Repr

/-- A stationary operand held in the cells (03 R77, R80): its formats, its K and N, its elements in k-major order. -/
structure Stationary where
  fmtA : Nat
  fmtB : Nat
  k : Nat
  n : Nat
  elems : List Elem
  poison : Bool
  deriving DecidableEq, Repr

/-- A tensor descriptor read at issue (07 Table 1): per dimension the extent and the shard (mode, axis, factor). -/
structure TensorDesc where
  rank : Nat
  kind : Nat
  fmt : Nat
  tensorId : BitVec 32
  extents : List Nat
  shards : List (Nat × Nat × Nat)
  aux : Nat
  base : Nat
  raw : List Byte
  deriving DecidableEq, Repr

/-- A box record read at issue (07 Table 4). -/
structure Box where
  srcOrg : List Nat
  dstOrg : List Nat
  ext : List Nat
  perm : List Nat
  deriving DecidableEq, Repr

/-- A window record read at issue (07 Table 6a): KX KY SX SY DX DY PXL PXH PYL PYH. -/
structure WindowRec where
  kx : Nat
  ky : Nat
  sx : Nat
  sy : Nat
  dx : Nat
  dy : Nat
  pxl : Nat
  pxh : Nat
  pyl : Nat
  pyh : Nat
  deriving DecidableEq, Repr

/-- A queued DMA descriptor with the records it named (07 Table 3, R245). -/
structure DmaReq where
  seq : BitVec 32
  job : Nat
  stream : Nat
  op : Nat
  diag : Bool
  ordered : Bool
  srcGlobal : Bool
  dstGlobal : Bool
  locality : Nat
  rnd : Nat
  idxMode : Nat
  subop : Nat
  counter : BitVec 16
  phase : BitVec 16
  src : Nat
  dst : Nat
  boxLen : Nat
  xrec : Nat
  srcEp : Option (BitVec 17)
  dstEp : Option (BitVec 17)
  inc : Int
  arg : BitVec 32
  status : Nat
  srcT : Option TensorDesc
  dstT : Option TensorDesc
  box : Option Box
  win : Option WindowRec
  operands : Line
  compares : Line
  deriving DecidableEq, Repr

/-- A line fetched from another device for a running DMA: endpoint, local address, data, poison. -/
structure Fetched where
  ep : BitVec 17
  addr : Nat
  data : Line
  poison : Bool
  deriving DecidableEq, Repr

/-- A running DMA descriptor (07 R246, R247): requests still unresolved, the remote lines fetched, its status code. -/
structure DmaRun where
  req : DmaReq
  waiting : Nat
  fetched : List Fetched
  moved : Bool
  code : BitVec 16
  poisoned : Bool
  deriving DecidableEq, Repr

/-- The effect instructions of one tile group that have left the core, and what each CADD among them returned (04 R154). -/
structure EffectLog where
  count : Nat
  cadds : List Word
  deriving DecidableEq, Repr

/-- A loaded table slot (03 R110): the words of its image, header first. -/
structure TableImage where
  words : List (BitVec 32)
  deriving DecidableEq, Repr

/-- A local-memory range held by the tracker until its last access completes (03 R103, 04 R142): byte range, whether it is
written, and the tile sequence number that holds it. -/
structure RangeEntry where
  lo : Nat
  hi : Nat
  write : Bool
  holder : Nat
  deriving DecidableEq, Repr

/-- A recorded core fault (04 R122): code, PC, the 16 bytes of the instruction, and the detail a completion carries (12 Table 6). -/
structure FaultRec where
  code : BitVec 16
  pc : Word
  instr : BitVec 128
  detail : Word
  deriving DecidableEq, Repr

/-- An assay of a tile (10 R350): the tile, its original core, the carry slots captured at issue, the stationary operand of a tile
that names it, the digest of the original once formed, whether it streams or has streamed, its first bank, the program's tiles whose banks were
COMPLETE before its own, the combine input as it streamed and whether that was poisoned, and its own digest once it has drained. -/
structure AssayRec where
  tile : TileRec
  origin : Nat
  carry : List (Nat × Byte)
  stat : Option Stationary
  originDigest : Option Word
  claimed : Bool
  started : Bool
  bank : Nat
  ahead : List Nat
  combine : Tbl Byte
  poison : Bool
  digest : Option Word
  deriving DecidableEq, Repr

/-- The stationary operand after reset: none held. -/
def Stationary.reset : Stationary :=
  { fmtA := 0, fmtB := 0, k := 0, n := 0, elems := [], poison := false }

/-- Where a residue event arose: in a bank, or in a vector instruction (03 R112). -/
inductive ResidueSite where
  | bank (b : Nat)
  | vector (word : BitVec 128)
  deriving DecidableEq, Repr

/-- A local-memory region descriptor (03 R100, 04 R148). -/
structure Region where
  /-- 1 bit; region enabled (04 R148). Reset: disabled (12 R441 start state). -/
  enabled : Bool
  /-- 32 bits; region base, multiple of 64 KiB (03 R100). Reset: DESIGN CHOICE 0 (log 3). -/
  base : BitVec 32
  /-- 32 bits; region size (03 R100). Reset: DESIGN CHOICE 0 (log 3). -/
  size : BitVec 32
  /-- 1 bit; mode linear/diagonal (03 R100). Reset: DESIGN CHOICE linear (log 3). -/
  diagonal : Bool
  /-- 32 bits; row pitch R of a diagonal region (03 R100). Reset: DESIGN CHOICE 0 (log 3). -/
  pitch : BitVec 32
  deriving DecidableEq, Repr

/-- Region after reset. -/
def Region.reset : Region where
  enabled := false
  base := 0
  size := 0
  diagonal := false
  pitch := 0

/-- One accumulator entry with its tag (02 R47, R53; 03 R88, R93). -/
structure AccEntry where
  /-- 80 bits; window, two compact-40 values, or a MAX/MIN winner (02 R43, R53; 03 R93). Reset: 0 (03 R90). -/
  entry : BitVec 80
  /-- 16 bits; exact tag Table 7; in compact-40 two 8-bit tags, even output in [7:0] (02 R47, R53). Reset: 0x0200 (02 Table 7). -/
  tag : BitVec 16
  deriving DecidableEq, Repr

/-- AccEntry after reset. -/
def AccEntry.reset : AccEntry where
  entry := 0
  tag := 0x200

/-- An accumulator bank with its header (03 R86). -/
structure Bank where
  /-- FREE, ACCUMULATING, COMPLETE or DRAINING (03 R86). Reset: FREE (03 R90). -/
  state : BankState
  /-- header M (03 R86). Reset: DESIGN CHOICE 0 (log 3). -/
  m : Nat
  /-- header N (03 R86). Reset: DESIGN CHOICE 0 (log 3). -/
  n : Nat
  /-- header K (03 R86). Reset: DESIGN CHOICE 0 (log 3). -/
  k : Nat
  /-- header accumulator mode (03 R86). Reset: DESIGN CHOICE exact (log 3). -/
  compact : Bool
  /-- header reduction kind 0 SUM 1 MAX 2 MIN (03 R86). Reset: DESIGN CHOICE SUM (log 3). -/
  kind : Nat
  /-- header poison flag (03 R86, R104). Reset: clear. -/
  poison : Bool
  /-- sequence number of the tile that holds the bank (the model's own link) (03 R87). Reset: DESIGN CHOICE 0 (log 3). -/
  tile : Nat
  deriving DecidableEq, Repr

/-- Bank after reset. -/
def Bank.reset : Bank where
  state := .free
  m := 0
  n := 0
  k := 0
  compact := false
  kind := 0
  poison := false
  tile := 0

/-- A tile-group snapshot (04 R152); also the start state the quarter keeps for a LAUNCH (11 R389). -/
structure Snapshot where
  /-- 64 bits; PC of the next instruction (04 R152). Reset: DESIGN CHOICE 0 (log 3). -/
  pc : Word
  /-- 32 x 64 bits (04 R152). Reset: DESIGN CHOICE 0 (log 3). -/
  sreg : Vector Word 32
  /-- 32 bits; poison bit of each scalar register (03 R104). Reset: DESIGN CHOICE 0 (log 3). -/
  sPoison : BitVec 32
  /-- 32 x 16,384 bits (04 R152). Reset: DESIGN CHOICE 0 (log 3). -/
  vreg : Vector (BitVec 16384) 32
  /-- 32 x 32 poison bits (04 R152). Reset: DESIGN CHOICE 0 (log 3). -/
  vPoison : Vector (BitVec 32) 32
  /-- 8 x 512 bits (04 R152). Reset: DESIGN CHOICE 0 (log 3). -/
  preg : Vector (BitVec 512) 8
  /-- 16 region descriptors (04 R152). Reset: disabled. -/
  regions : Vector Region 16
  /-- loadable slots 12-15 (04 R152). Reset: unloaded. -/
  tables : Vector (Option TableImage) 4
  /-- group number the snapshot starts (04 R152). Reset: DESIGN CHOICE 0 (log 3). -/
  group : BitVec 32
  deriving DecidableEq, Repr

/-- Snapshot after reset. -/
def Snapshot.reset : Snapshot where
  pc := 0
  sreg := Vector.replicate 32 0
  sPoison := 0
  vreg := Vector.replicate 32 0
  vPoison := Vector.replicate 32 0
  preg := Vector.replicate 8 0
  regions := Vector.replicate 16 Region.reset
  tables := Vector.replicate 4 none
  group := 0

/-- The work that instructions before a group boundary have left undone (04 R153; the model's own record). -/
structure BoundWork where
  /-- array queue entries (04 R153). Reset: 0. -/
  arr : Nat
  /-- tiles numbered below this one (04 R153). Reset: 0. -/
  tiles : Nat
  /-- tiles whose claim was issued (04 R153). Reset: empty. -/
  epis : List Nat
  /-- DMA requests: engine, sequence (04 R153). Reset: empty. -/
  dmas : List (Nat × BitVec 32)
  /-- GSTs and CSIGs numbered below this one (04 R153). Reset: 0. -/
  reqs : Nat
  deriving DecidableEq, Repr

/-- BoundWork after reset. -/
def BoundWork.reset : BoundWork where
  arr := 0
  tiles := 0
  epis := []
  dmas := []
  reqs := 0

/-- A tile-group boundary of a core: whether it is closed and whether its snapshot lies in the save area (04 R153, 11 R389). -/
structure Boundary where
  /-- the snapshot (04 R152). Reset: -. -/
  snap : Snapshot
  /-- every instruction before it has completed (04 R153). Reset: open. -/
  closed : Bool
  /-- snapshot written to the save area in T31 (11 R389). Reset: not written. -/
  saved : Bool
  /-- work before it that is not complete (04 R153). Reset: none. -/
  work : BoundWork
  /-- effect instructions of the group that it starts, once that group has ended (04 R154, 11 R389). Reset: 0. -/
  log : EffectLog
  deriving DecidableEq, Repr

/-- Boundary after reset. -/
def Boundary.reset : Boundary where
  snap := Snapshot.reset
  closed := false
  saved := false
  work := BoundWork.reset
  log := { count := 0, cadds := [] }

/-- A DMA engine of a core (07 R246, R247). -/
structure DmaEngine where
  /-- up to 16 queued requests (04 R146, 07 R246). Reset: empty. -/
  queue : List DmaReq
  /-- up to 4 running descriptors (07 R246). Reset: empty. -/
  running : List DmaRun
  /-- 32-bit sequence number, counts from power-on (07 R247). Reset: 0 (counts from power-on). -/
  nextSeq : BitVec 32
  deriving DecidableEq, Repr

/-- DmaEngine after reset. -/
def DmaEngine.reset : DmaEngine where
  queue := []
  running := []
  nextSeq := 0

/-- The state of one logical core (03, 04). -/
structure Core where
  /-- whether a program runs (04 R122, R126, R157). Reset: idle. -/
  run : CoreRun
  /-- what a waiting instruction waits for (04 R140, R150, R151). Reset: none. -/
  wait : Wait
  /-- why the last instruction given did not issue (03 R107). Reset: none. -/
  stall : Stall
  /-- stream number 0-63 (SCSR 3) (04 Table 6). Reset: DESIGN CHOICE 0 (log 3). -/
  stream : Nat
  /-- count of the LAUNCH command that runs on the core (12 R443). Reset: DESIGN CHOICE 0 (log 3). -/
  command : BitVec 32
  /-- 64-bit program counter (04 R115). Reset: DESIGN CHOICE 0 (log 3). -/
  pc : Word
  /-- s0-s31, 64 bits each; s0 reads as zero (03 R107, 04 R118). Reset: DESIGN CHOICE 0 (12 R441 clears them at LAUNCH) (log 3). -/
  sreg : Vector Word 32
  /-- one poison bit per scalar register (03 R104). Reset: DESIGN CHOICE clear (log 3). -/
  sPoison : BitVec 32
  /-- v0-v31, 2 KiB each (03 R105). Reset: DESIGN CHOICE 0 (12 R441 at LAUNCH) (log 3). -/
  vreg : Vector (BitVec 16384) 32
  /-- poison bit per 64-byte segment of each vector register (03 R104). Reset: DESIGN CHOICE clear (log 3). -/
  vPoison : Vector (BitVec 32) 32
  /-- p0-p7, 512 bits; p0 reads as ones (03 R105). Reset: DESIGN CHOICE 0 (12 R441 at LAUNCH) (log 3). -/
  preg : Vector (BitVec 512) 8
  /-- 16 region descriptors (03 R100). Reset: disabled (12 R441). -/
  regions : Vector Region 16
  /-- loadable table slots 12-15 (03 R109, R110). Reset: unloaded (04 R133). -/
  tables : Vector (Option TableImage) 4
  /-- 4 MiB local memory, sparse bytes; an unlisted byte reads 0 (03 R99). Reset: DESIGN CHOICE 0 (log 3). -/
  lmem : Mem
  /-- poisoned local-memory lines (line numbers, rising) (03 R99, R104). Reset: clear. -/
  lPoison : List Nat
  /-- 131,072 accumulator entries; unlisted = reset entry (03 R86). Reset: reset state (03 R90). -/
  acc : Tbl AccEntry
  /-- acc0-acc7 states and headers (03 R86). Reset: FREE. -/
  banks : Vector Bank 8
  /-- array queue, four deep (03 R87). Reset: empty. -/
  arrayQ : List ArrOp
  /-- tile streaming in the array (03 R87). Reset: none. -/
  current : Option TileRec
  /-- column folds of the current tile whose last update has landed (03 R83, R97). Reset: 0. -/
  folds : Nat
  /-- tiles COMPLETE, in order of completion (03 R86, R97). Reset: empty. -/
  done : List TileRec
  /-- tiles (sequence, first bank) issued without EPI and not claimed (04 R141). Reset: empty. -/
  unclaimed : List (Nat × Nat)
  /-- epilogue queue, four deep (03 R107, 04 R141). Reset: empty. -/
  epiQ : List EpiOp
  /-- tile the epilogue drains (03 R86). Reset: none. -/
  draining : Option (TileRec × Option EpiRec)
  /-- bytes that the drain in progress has written, by local address (10 R352). Reset: empty. -/
  drainOut : Tbl Byte
  /-- active stationary operand (03 R77). Reset: zero (04 R153). -/
  statActive : Stationary
  /-- loading stationary operand (03 R77). Reset: zero (04 R153). -/
  statLoading : Stationary
  /-- the loader is writing a fold (03 R77, R79). Reset: idle. -/
  loadBusy : Bool
  /-- range tracker, 16 entries (03 R103, 04 R142). Reset: empty. -/
  ranges : List RangeEntry
  /-- number of the next tile (the model's own, unique on the core) (03 R87). Reset: 0. -/
  tileSeq : Nat
  /-- sequence number of the next tile within the step (10 R349). Reset: 0. -/
  stepSeq : Nat
  /-- step and run that stepSeq counts in (10 R349). Reset: DESIGN CHOICE 0 (log 3). -/
  seqKey : Word × Nat
  /-- row-engine side memory, 8,192 slots of 8 bytes (03 R111). Reset: DESIGN CHOICE 0 (log 3). -/
  side : Tbl Word
  /-- DMA engines 0 and 1 (04 R146). Reset: empty. -/
  dma : Vector DmaEngine 2
  /-- number of the next GST or CSIG (the model's own) (04 R151, R153). Reset: 0. -/
  reqSeq : Nat
  /-- sticky ASYNC register (SCSR 7) (04 R123). Reset: 0. -/
  async : BitVec 32
  /-- GROUP register (SCSR 6) (04 R152). Reset: DESIGN CHOICE 0 (log 3). -/
  group : BitVec 32
  /-- ASSAY marked the next TILE (04 R155). Reset: clear. -/
  assayMark : Bool
  /-- assay tiles for the fifth slot, oldest first (10 R350). Reset: none. -/
  assays : List AssayRec
  /-- the save buffer is being written to T31 (04 R152). Reset: idle. -/
  saveBusy : Bool
  /-- group boundaries, newest first; the last is the start state (04 R153, 11 R389). Reset: empty. -/
  bounds : List Boundary
  /-- effect instructions of the current group that left the core (04 R154). Reset: 0. -/
  effects : EffectLog
  /-- effect instructions still to treat as no-ops after a replacement (04 R154). Reset: 0. -/
  skip : Nat
  /-- recorded CADD values those return (04 R154). Reset: empty. -/
  skipCadds : List Word
  /-- records of the groups after the restored one (04 R154, 11 R389). Reset: empty. -/
  skipNext : List EffectLog
  /-- lines that the instruction cache holds clean, oldest first, 1,024 of them (03 R107, 04 R158). Reset: empty (invalidated at each stream start). -/
  icache : List Nat
  /-- residue events of the LAUNCH outside the gated job (10 R348). Reset: 0. -/
  residues : Nat
  /-- recorded fault (04 R122). Reset: none. -/
  fault : Option FaultRec
  /-- a remote GST, CSIG or CADD of the command failed (08 R288). Reset: clear. -/
  remoteErr : Bool
  /-- sleep state (14 R488). Reset: asleep (14 Table 3: VCORE up, every core asleep). -/
  sleep : CoreSleep
  /-- logical core OFFLINE (11 R391). Reset: in service. -/
  offline : Bool
  /-- core fenced for replacement (11 R388). Reset: no. -/
  fenced : Bool
  deriving DecidableEq, Repr

/-- Core after reset. -/
def Core.reset : Core where
  run := .idle
  wait := .none
  stall := .none
  stream := 0
  command := 0
  pc := 0
  sreg := Vector.replicate 32 0
  sPoison := 0
  vreg := Vector.replicate 32 0
  vPoison := Vector.replicate 32 0
  preg := Vector.replicate 8 0
  regions := Vector.replicate 16 Region.reset
  tables := Vector.replicate 4 none
  lmem := []
  lPoison := []
  acc := []
  banks := Vector.replicate 8 Bank.reset
  arrayQ := []
  current := none
  folds := 0
  done := []
  unclaimed := []
  epiQ := []
  draining := none
  drainOut := []
  statActive := Stationary.reset
  statLoading := Stationary.reset
  loadBusy := false
  ranges := []
  tileSeq := 0
  stepSeq := 0
  seqKey := (0, 0)
  side := []
  dma := Vector.replicate 2 DmaEngine.reset
  reqSeq := 0
  async := 0
  group := 0
  assayMark := false
  assays := []
  saveBusy := false
  bounds := []
  effects := { count := 0, cadds := [] }
  skip := 0
  skipCadds := []
  skipNext := []
  icache := []
  residues := 0
  fault := none
  remoteErr := false
  sleep := .asleep
  offline := false
  fenced := false

/-- A physical core as the Remontoire knows it (01 R15, 11 R387, R391). -/
structure PhysCore where
  /-- failed its self-test or was replaced (01 R15, 11 R388). Reset: passed. -/
  failed : Bool
  /-- on the retired list (kept in the eMMC) (11 R391). Reset: not retired. -/
  retired : Bool
  /-- residue events charged (11 R387). Reset: 0. -/
  residues : Nat
  /-- assay mismatches charged (10 R352, 11 R387). Reset: 0. -/
  mismatches : Nat
  deriving DecidableEq, Repr

/-- PhysCore after reset. -/
def PhysCore.reset : PhysCore where
  failed := false
  retired := false
  residues := 0
  mismatches := 0

/-- State of an HBM stack (06 Table 10, object 0x4001). -/
inductive StackState where
  | active | selfRefresh | retrain | test | failed
  deriving DecidableEq, Repr

/-- A retraining window of a stack (06 R214): the channel, slices taken, channel offline now. -/
structure RetrainWin where
  chan : Nat
  slices : Nat
  offline : Bool
  complete : Bool
  deriving DecidableEq, Repr

/-- A Tun combining entry (06 R223). -/
structure CombEntry where
  line : Nat
  data : Line
  mask : BitVec 64
  poison : Bool
  deriving DecidableEq, Repr

/-- A line held by a quarter's Tun cache slices (06 R221), its class and whether it is marked to be evicted first; its bytes are those of the memory
below it, which the cache never changes for a reader. -/
structure CacheLine where
  line : Nat
  dirty : Bool
  keep : Bool
  first : Bool
  deriving DecidableEq, Repr

/-- One record of the poison event log (06 R209): line address, consuming unit, stream, job (64 and 8 mean none). -/
structure PoisonEvent where
  line : Nat
  unit : Nat
  stream : Nat
  job : Nat
  deriving DecidableEq, Repr

/-- State of a barrier slot (09 R320). -/
inductive SlotState where
  | free | opened | localDone | orphaned
  deriving DecidableEq, Repr

/-- A device-group table of a job (09 Table 1): group size and rank per axis, grid address and entry count. -/
structure GroupTable where
  axes : List (Nat × Nat)
  grid : Nat
  g : Nat
  deriving DecidableEq, Repr

/-- The table every job has until JOB_SETUP writes one (09 Table 1 reset column). -/
def GroupTable.reset : GroupTable := { axes := List.replicate 8 (1, 0), grid := 0, g := 1 }

/-- A command in progress on a stream (12 R435): its count, its 64 bytes, the cores of a LAUNCH still running, whether a
remote error was reported for it, and whether it runs again from the ledger (10 R371). -/
structure CmdRun where
  count : BitVec 32
  raw : Line
  cores : List Nat
  ops : List Nat
  remoteErr : Bool
  detail : Word
  replay : Bool
  deriving DecidableEq, Repr

/-- A completion record that is held because the ring is full (12 R444). -/
structure HeldRecord where
  command : BitVec 32
  kind : Nat
  error : BitVec 16
  async : BitVec 32
  core : BitVec 16
  pc : Word
  instr : BitVec 128
  detail : Word
  flags : BitVec 8
  irqNow : Bool
  deriving DecidableEq, Repr

/-- STATE of a stream (12 Table 4). -/
inductive StreamState where
  | disabled | ready | running | stopped
  deriving DecidableEq, Repr

/-- State of a job (12 R437). -/
inductive JobState where
  | free | active | stopped
  deriving DecidableEq, Repr

/-- An HBM stack and its training state (06 R203-R216; 14 R488, R499). -/
structure Stack where
  /-- object 0x4001.k (06 Table 10). Reset: 0 ACTIVE. -/
  state : StackState
  /-- what a byte nothing has written reads as: 0 zero (06 R216), n > 0 the free bytes of tag n (the model's own) (06 R196). Reset: free (tag 1). -/
  fill : Nat
  /-- spare data lanes in use: channel pair 0-15, pin replaced (06 Table 4). Reset: none used. -/
  dataSpares : List (Nat × Nat)
  /-- channels whose spare command lane is used (06 Table 4). Reset: none used. -/
  cmdSpares : List Nat
  /-- pseudo-channels in service as ECC-covered, with the pin (0-35) that is not repaired (06 Table 5). Reset: none. -/
  eccCovered : List (Nat × Nat)
  /-- pins flagged for replacement: channel, pin (06 R212). Reset: none. -/
  flagged : List (Nat × Nat)
  /-- corrections per pin (128*channel + pin) in the present 32,768 beats (06 R204, R212). Reset: 0. -/
  pinCounts : Tbl Nat
  /-- temperature stamp of each channel, FP32 (06 R210). Reset: DESIGN CHOICE 0 (log 3). -/
  stamps : List (BitVec 32)
  /-- stack temperature last read, FP32 (14 R495). Reset: DESIGN CHOICE 0 (log 3). -/
  temp : BitVec 32
  /-- channels queued for retraining (06 R212, R213). Reset: empty. -/
  retrainQ : List Nat
  /-- retraining window open (06 R214). Reset: none. -/
  window : Option RetrainWin
  /-- drift checks made in the present 32,768 beats, of which there is one every 32 beats (06 R212, R213). Reset: 0. -/
  checks : Nat
  /-- pseudo-channels in background rewrite, with the pin whose lane has changed (06 R212). Reset: none. -/
  rewriting : List (Nat × Nat)
  /-- zero-fill on leaving TEST in progress (06 R216). Reset: no. -/
  zeroFilling : Bool
  /-- refresh doubled (14 R499). Reset: normal. -/
  doubleRefresh : Bool
  deriving DecidableEq, Repr

/-- Stack after reset. (log 14, DESIGN CHOICE) -/
def Stack.reset : Stack where
  state := .active
  fill := 0
  dataSpares := []
  cmdSpares := []
  eccCovered := []
  flagged := []
  pinCounts := []
  stamps := List.replicate 32 0
  temp := 0
  retrainQ := []
  window := none
  checks := 0
  rewriting := []
  zeroFilling := false
  doubleRefresh := false

/-- Device memory outside the cores (06): HBM and Tun, one flat space (01 R18). -/
structure MemSys where
  /-- bytes of the HBM windows and Tun scratchpad windows, by local physical address (06 R194). Reset: empty. -/
  cells : Mem
  /-- poisoned lines (line numbers, rising) (06 R207). Reset: none. -/
  poison : List Nat
  /-- errors in stored lines that no access has met yet: line number, error (06 R203, R225). Reset: none. -/
  errors : List (Nat × StoreError)
  /-- commands, each with the channels (32*stack + channel) of its requests, that wait for a channel that a retraining slice has taken offline, oldest first (06 R214, R215). Reset: empty. -/
  deferred : List (Instr × List Nat)
  /-- a waiting request is being served (the model's own) (06 R214). Reset: no. -/
  serving : Bool
  /-- lines poisoned in HBM whose good copy a Tun slice or an adder holds (rising) (06 R206, R225). Reset: none. -/
  hidden : List Nat
  /-- lines evicted from cache sets and adder buffers (the model's own count) (06 R221, R230). Reset: 0. -/
  evicted : Nat
  /-- stacks H0-H11 (01 R16, 06 R200). Reset: ACTIVE. -/
  hbm : Vector Stack 12
  /-- next tag of free bytes (the model's own) (06 R196). Reset: DESIGN CHOICE 2 (log 3). -/
  fillNext : Nat
  /-- combining entries of each quarter, oldest first (06 R223). Reset: empty. -/
  comb : Vector (List CombEntry) 4
  /-- lines in the cache slices of each quarter (06 R221). Reset: empty. -/
  cache : Vector (List CacheLine) 4
  /-- mode of slice T(i mod 32) of quarter i div 32 (06 R219). Reset: 06 R219: cache T0-T23, combining T24-T27, scratchpad T28-T30, system T31. -/
  tunMode : Vector Nat 128
  /-- mode switches queued per quarter (slice, mode), the head in progress (06 R226). Reset: none. -/
  tunSwitch : Vector (List (Nat × Nat)) 4
  /-- slices (32q+s) in retention (14 R488). Reset: none. -/
  tunAsleep : List Nat
  /-- lines held in adder line buffers (06 R230). Reset: empty. -/
  adder : List Nat
  /-- poison event log, newest first (06 R209). Reset: empty. -/
  poisonLog : List PoisonEvent
  /-- traffic generator state 0 idle 1 running 2 done 3 stopped (0x4021.64) (06 R218). Reset: 0. -/
  tgState : Nat
  /-- delivered data rate, MB/s (0x4021.65) (06 R218). Reset: DESIGN CHOICE 0 (log 3). -/
  tgRate : BitVec 32
  /-- checker results per pseudo-channel, 32 bytes (0x4021.0-63) (06 R218). Reset: DESIGN CHOICE zeros (log 3). -/
  tgRes : Tbl (List Byte)
  deriving DecidableEq, Repr

/-- MemSys after reset. -/
def MemSys.reset : MemSys where
  cells := []
  poison := []
  errors := []
  deferred := []
  serving := false
  hidden := []
  evicted := 0
  hbm := Vector.replicate 12 Stack.reset
  fillNext := 2
  comb := Vector.replicate 4 []
  cache := Vector.replicate 4 []
  tunMode := ⟨⟨(List.range 128).map (fun i => if i % 32 < 24 then 0 else if i % 32 < 28 then 1 else if i % 32 < 31 then 2 else 3)⟩, by simp⟩
  tunSwitch := Vector.replicate 4 []
  tunAsleep := []
  adder := []
  poisonLog := []
  tgState := 0
  tgRate := 0
  tgRes := []

/-- A sync counter (09 R310). -/
structure Counter where
  /-- 32-bit unsigned value (09 R310). Reset: 0 (at assignment). -/
  val : BitVec 32
  /-- sticky overflow flag (09 R310). Reset: clear. -/
  ovf : Bool
  /-- sticky underflow flag (09 R310). Reset: clear. -/
  unf : Bool
  deriving DecidableEq, Repr

/-- Counter after reset. -/
def Counter.reset : Counter where
  val := 0
  ovf := false
  unf := false

/-- A barrier slot (09 R320-R324). -/
structure Slot where
  /-- FREE, OPEN, LOCAL_DONE, ORPHANED (09 R320). Reset: FREE. -/
  state : SlotState
  /-- CORE_MASK (09 Table 2). Reset: 0. -/
  mask : BitVec 144
  /-- KIND: group (09 Table 2). Reset: 0 core. -/
  group : Bool
  /-- AXES (09 Table 2). Reset: 0. -/
  axes : BitVec 8
  /-- phase number (09 R321). Reset: 0. -/
  phase : BitVec 32
  /-- arrivals counted in the current phase (09 R322). Reset: none. -/
  arrived : BitVec 144
  /-- arrivals held for the next phase (09 R322). Reset: none. -/
  next : BitVec 144
  /-- ARRIVE messages received: child participant, phase (09 R323). Reset: none. -/
  kids : List (Nat × BitVec 32)
  /-- ARRIVE sent to the parent for this phase (09 R323). Reset: no. -/
  sent : Bool
  /-- cores that have arrived since setup (09 R322). Reset: none. -/
  everArrived : BitVec 144
  deriving DecidableEq, Repr

/-- Slot after reset. -/
def Slot.reset : Slot where
  state := .free
  mask := 0
  group := false
  axes := 0
  phase := 0
  arrived := 0
  next := 0
  kids := []
  sent := false
  everArrived := 0

/-- Counters, blocks, barrier slots (09). -/
structure Sync where
  /-- 65,536 counters; unlisted = value 0, flags clear (09 R310). Reset: 0 (DESIGN CHOICE before assignment) (log 3). -/
  counters : Tbl Counter
  /-- owner of each of 256 blocks: job, 0xFE orphaned, 0xFF free (0x5041) (09 R310). Reset: 0xFF. -/
  owners : Tbl Nat
  /-- 256 barrier slots (09 R320). Reset: FREE. -/
  slots : Tbl Slot
  /-- owner of each slot (0x5042) (09 R320). Reset: 0xFF. -/
  slotOwners : Tbl Nat
  /-- descriptors completed with an INC other than 0 (the model's own count) (09 Table 8). Reset: 0. -/
  dmaSignals : Nat
  /-- job that owned an orphaned block (key b) or slot (key 256+s) (the model's own record for R437-R438 and R322) (09 R317, R322). Reset: none. -/
  orphanOf : Tbl Nat
  deriving DecidableEq, Repr

/-- Sync after reset. -/
def Sync.reset : Sync where
  counters := []
  owners := []
  slots := []
  slotOwners := []
  dmaSignals := 0
  orphanOf := []

/-- A stream of the host interface (12 R432-R436, R443-R444). -/
structure Stream where
  /-- COMP_BASE (12 Table 3). Reset: 0. -/
  compBase : Word
  /-- COMP_ENTRIES (12 Table 3). Reset: 0. -/
  compEntries : BitVec 32
  /-- VECTOR (12 Table 3). Reset: 0. -/
  vector : BitVec 16
  /-- JOB (12 Table 3). Reset: 0. -/
  job : Nat
  /-- MOD_COUNT (12 Table 3). Reset: 1. -/
  modCount : BitVec 32
  /-- MOD_TIME (12 Table 3). Reset: 0. -/
  modTime : BitVec 32
  /-- configuration record as written, for its reserved bytes (12 Table 3). Reset: reset values of Table 3. -/
  cfgRaw : List Byte
  /-- STATE (12 Table 4). Reset: 0 DISABLED. -/
  state : StreamState
  /-- TAIL (12 Table 4). Reset: 0. -/
  tail : BitVec 32
  /-- HEAD (12 Table 4). Reset: 0. -/
  head : BitVec 32
  /-- COMP_HEAD (12 Table 4). Reset: 0. -/
  compHead : BitVec 32
  /-- COMP_TAIL (12 Table 4). Reset: 0. -/
  compTail : BitVec 32
  /-- DISCARDED (12 Table 4). Reset: 0. -/
  discarded : BitVec 32
  /-- LAST_ERROR (12 Table 4). Reset: 0. -/
  lastError : BitVec 16
  /-- command window, 4,096 slots of 64 bytes (12 Table 2). Reset: DESIGN CHOICE 0 (log 3). -/
  window : Mem
  /-- commands started and not complete (IN_PROGRESS) (12 R435). Reset: empty. -/
  progress : List CmdRun
  /-- counts of commands that ended in error, earliest first (for RETRY) (12 R436). Reset: empty. -/
  failed : List (BitVec 32)
  /-- command that RETRY starts again (12 R436). Reset: none. -/
  redo : Option (BitVec 32)
  /-- records held by a full ring, oldest first (12 R444). Reset: empty. -/
  held : List HeldRecord
  /-- records since the last interrupt (12 R432). Reset: 0. -/
  unsignalled : Nat
  /-- TAIL when the drain was requested (12 R447). Reset: 0. -/
  drainLimit : BitVec 32
  /-- the stream has executed STEP_END in the open step (10 R360). Reset: no. -/
  stepEnded : Bool
  deriving DecidableEq, Repr

/-- Stream after reset. -/
def Stream.reset : Stream where
  compBase := 0
  compEntries := 0
  vector := 0
  job := 0
  modCount := 1
  modTime := 0
  cfgRaw := []
  state := .disabled
  tail := 0
  head := 0
  compHead := 0
  compTail := 0
  discarded := 0
  lastError := 0
  window := []
  progress := []
  failed := []
  redo := none
  held := []
  unsignalled := 0
  drainLimit := 0
  stepEnded := false

/-- A job (12 R437). -/
structure Job where
  /-- FREE, ACTIVE, STOPPED (0x1023) (12 R437). Reset: 0 FREE. -/
  state : JobState
  /-- cause of the last stop (0x1024) (12 R437). Reset: 0. -/
  cause : BitVec 16
  /-- device-group table (09 R318). Reset: 09 Table 1: P 1, RANK 0, GRID 0, G 1. -/
  table : GroupTable
  /-- no step has been opened since the job was set up (10 R355). Reset: yes. -/
  fresh : Bool
  /-- the job's step is not committable (06 R209). Reset: no. -/
  uncommittable : Bool
  deriving DecidableEq, Repr

/-- Job after reset. -/
def Job.reset : Job where
  state := .free
  cause := 0
  table := GroupTable.reset
  fresh := true
  uncommittable := false

/-- The PCI Express function (12 R427-R431, R455). -/
structure HostPort where
  /-- PCIe link up (12 R431, Table 8). Reset: down in OFF. -/
  linkUp : Bool
  /-- function in D3hot (12 R431). Reset: D0. -/
  d3hot : Bool
  /-- MSI-X table, 256 entries of 16 bytes (12 R427, R430). Reset: PRESUMED PCI Express reset (log 4). -/
  msixTable : Mem
  /-- vectors masked (12 R430). Reset: PRESUMED all masked (PCI Express) (log 4). -/
  msixMask : List Nat
  /-- pending bits (12 R430). Reset: clear. -/
  msixPend : List Nat
  /-- mailbox REQUEST, 4,096 bytes (12 Table 12). Reset: 0. -/
  mbReq : Mem
  /-- mailbox RESPONSE, 4,096 bytes (12 Table 12). Reset: 0. -/
  mbResp : Mem
  /-- READY (12 Table 12). Reset: 0. -/
  ready : Bool
  /-- BUSY (12 Table 12). Reset: 0. -/
  busy : Bool
  /-- length of the request being served (12 Table 12). Reset: 0. -/
  submitted : Nat
  /-- PCIE_REFCLK lost (14 R487). Reset: present. -/
  refclkLost : Bool
  /-- MSI-X Enable (12 R427, R430). Reset: DESIGN CHOICE set (log 3). -/
  msixOn : Bool
  /-- MSI-X Function Mask (12 R427, R430). Reset: PRESUMED clear (PCI Express) (log 4). -/
  funcMask : Bool
  /-- size of BAR2 in the Resizable BAR control, GiB (0x1020.0) (12 R427, Table 1). Reset: 64 GiB at power-on. -/
  bar2GiB : Nat
  /-- AER Uncorrectable Error Status (12 R427, R429). Reset: PRESUMED clear (PCI Express) (log 4). -/
  aer : BitVec 32
  deriving DecidableEq, Repr

/-- HostPort after reset. (log 4, PRESUMED) -/
def HostPort.reset : HostPort where
  linkUp := false
  d3hot := false
  msixTable := []
  msixMask := List.range 256
  msixPend := []
  mbReq := []
  mbResp := []
  ready := false
  busy := false
  submitted := 0
  refclkLost := false
  msixOn := true
  funcMask := false
  bar2GiB := 64
  aer := 0

/-- Who a request belongs to (08 R288, R297). -/
inductive UnitId where
  | core (c : Nat)
  | dma (c : Nat) (e : Nat) (seq : BitVec 32)
  | coll (opid : BitVec 32)
  | barrier (slot : Nat)
  | racking
  | escapement
  | restore
  | gone
  deriving DecidableEq, Repr

/-- A request whose final response has not arrived (08 R284, R298, R299). -/
structure Request where
  tag : BitVec 16
  dst : BitVec 17
  kind : Nat
  unit : UnitId
  job : Nat
  stream : Nat
  tokens : Nat
  lines : Nat
  got : Nat
  addr : Nat
  reg : Nat
  pos : Nat
  deriving DecidableEq, Repr

/-- State of a port (08 Table 3). -/
inductive PortState where
  | disabled | detect | training | cardExchange | noCoord | miswired | versionMismatch | up | degraded | down | failed | parked
  deriving DecidableEq, Repr

/-- Sparge state (08 Table 11, 0x5011.1). -/
inductive SpargeState where
  | none | draining | drained | aborted
  deriving DecidableEq, Repr

/-- A die-to-die link (01 R17, R19; 11 Table 1): spare lanes left in each direction, lost beyond its spares. -/
structure D2D where
  spares : Vector Nat 2
  lost : Bool
  deriving DecidableEq, Repr

/-- A collective descriptor as accepted (09 Table 4). -/
structure CollDesc where
  op : Nat
  inFmt : Nat
  wire : Nat
  outFmt : Nat
  axes : BitVec 8
  rnd : Nat
  locality : Nat
  waitEn : Bool
  doneEn : Bool
  phase : BitVec 16
  src : Nat
  dst : Nat
  count : Nat
  elemBase : BitVec 64
  tensorId : BitVec 32
  opid : BitVec 32
  waitCounter : BitVec 16
  doneCounter : BitVec 16
  waitValue : BitVec 32
  doneInc : Int
  job : Nat
  stream : Nat
  command : BitVec 32
  deriving DecidableEq, Repr

/-- A running collective (09 R330 to R339): the axes still to do, whether it gathers, the range of this axis step with its wire
values and their poison, the ranges of the axis steps done, the lines received and sent each way on this step, the bytes granted to
the neighbours on it. -/
structure CollRun where
  desc : CollDesc
  steps : List Nat
  gather : Bool
  lo : Nat
  hi : Nat
  vals : List (BitVec 128)
  poisons : List Bool
  rxPlus : List (Line × Bool)
  rxMinus : List (Line × Bool)
  sentPlus : Nat
  sentMinus : Nat
  givenPlus : Nat
  givenMinus : Nat
  ranges : List (Nat × Nat × Nat)
  finished : Bool
  deriving DecidableEq, Repr

/-- A Kiln descriptor as accepted (05 Table 4) with its hyperparameter block (05 Table 5). -/
structure KilnDesc where
  w : Nat
  rem : Nat
  m : Nat
  q : Nat
  g : List Nat
  shadow : Nat
  elemBase : BitVec 64
  count : Nat
  perStack : Nat
  tensorId : BitVec 32
  phase : BitVec 16
  mask : BitVec 16
  ratio : Nat
  op : Nat
  mode : Nat
  gFmt : Nat
  shadowFmt : Nat
  uses : Nat
  frozen : Bool
  clip : Bool
  decay : Bool
  waitEn : Bool
  doneEn : Bool
  waitCounter : BitVec 16
  doneCounter : BitVec 16
  waitValue : BitVec 32
  lr : BitVec 32
  beta1 : BitVec 32
  beta2 : BitVec 32
  eps : BitVec 32
  wd : BitVec 32
  bc1 : BitVec 32
  bc2 : BitVec 32
  clipMax : BitVec 32
  deriving DecidableEq, Repr

/-- Stage of a Kiln part. -/
inductive PartStage where
  | waiting | finished
  deriving DecidableEq, Repr

/-- One Kiln datapath's part of a descriptor (05 R175): which stack, the element offset and count, its stage. -/
structure KilnPart where
  id : Nat
  desc : KilnDesc
  stack : Nat
  first : Nat
  count : Nat
  stage : PartStage
  job : Nat
  stream : Nat
  command : BitVec 32
  deriving DecidableEq, Repr

/-- Escapement phase (10 Table 3). -/
inductive EscPhase where
  | idle | compute | check | commit | replay | guest
  deriving DecidableEq, Repr

/-- A step record (10 Table 2). -/
structure StepRec where
  step : Word
  inwins : List (Nat × Nat)
  fprs : List (Nat × Nat)
  keyAddr : Nat
  axes : BitVec 8
  fpEn : Bool
  deriving DecidableEq, Repr

/-- A fingerprint record as the twin writes it (10 R358). -/
structure FpRec where
  step : Word
  run : Nat
  value : Word
  length : Word
  deriving DecidableEq, Repr

/-- A ledger record (10 Table 5); `pos` is the place of the answered request among the run's requests, for a READ_DATA
record, and `arg` the ARG of a recorded packet (10 R371); `hcrc` is HCRC as the share holds it, and `spoilt` says that an error has poisoned a
line of the payload there (10 R368). -/
structure LedgerRec where
  kind : Nat
  flags : BitVec 8
  stack : Nat
  run : Nat
  step : Word
  addr : Nat
  source : BitVec 32
  outSeq : BitVec 32
  ptype : Nat
  sub : Nat
  seq : Nat
  pos : Nat
  arg : BitVec 32
  payload : List Line
  hcrc : BitVec 32
  spoilt : Bool
  deriving DecidableEq, Repr

/-- A guest request that waits for CHECK (10 R372): the suspect, its step, its last committed step, its records. -/
structure GuestAsk where
  src : BitVec 17
  step : Word
  last : Word
  records : List GuestRec
  deriving DecidableEq, Repr

/-- What a guest run puts aside of the partner's own run (10 R372). -/
structure EscKeep where
  record : Option StepRec
  reasons : List Nat
  residues : List (Nat × ResidueSite)
  reported : BitVec 4
  ud : Word
  od : Word
  localRun : Bool
  deriving DecidableEq, Repr

/-- A racking list entry (11 Table 4). -/
structure RackRange where
  start : Nat
  length : Nat
  narrow : Bool
  twin : Bool
  deriving DecidableEq, Repr

/-- A block in the priority buffer (11 R398): its number and its 64 lines with their poison. -/
structure PrioBlock where
  block : Nat
  lines : List (Line × Bool)
  deriving DecidableEq, Repr

/-- A cellar slot header (11 Table 5). -/
structure CellarHdr where
  stack : Nat
  narrow : Bool
  ranges : List RackRange
  sender : BitVec 17
  serial : List Byte
  epoch : Word
  snapStep : Word
  length : Word
  dcrc : Word
  poisoned : Word
  valid : Bool
  deriving DecidableEq, Repr

/-- An event record (12 R456). -/
structure EventRec where
  seq : Word
  beats : Word
  code : BitVec 16
  obj : BitVec 16
  drill : Bool
  detail : Word
  deriving DecidableEq, Repr

/-- Device state (12 Table 8). -/
inductive DevState where
  | off | standby | idle | run | drain | reset | recovery | fault
  deriving DecidableEq, Repr

/-- State of an image slot (13 Table 8). -/
inductive SlotImage where
  | invalid | writing | verifying | pending | confirmed | failed
  deriving DecidableEq, Repr

/-- State of a supply input (14 Table 1). -/
structure Input where
  inRange : Bool
  switchClosed : Bool
  supplying : Bool
  volts : BitVec 32
  deriving DecidableEq, Repr

/-- A discrete input after its filter (14 R500). -/
structure PinIn where
  asserted : Bool
  chatter : Bool
  deriving DecidableEq, Repr

/-- The instruction register of the TAP (15 R520). (log 5, PRESUMED) -/
inductive TapInstr where
  | bypass | idcode | samplePreload | extest | extestPulse | extestTrain
  deriving DecidableEq, Repr

/-- What has left the device at its pins, oldest first: the model's own record of its outputs. (log 12, DESIGN CHOICE) -/
inductive Output where
  | packet (port : Option Nat) (p : Packet)
  | linkWord (port : Nat) (kind : Nat) (value : Nat)
  | card (port : Nat) (bytes : List Byte)
  | msix (vector : Nat)
  | fynen (t : Transport) (m : FynenMsg)
  | objectReply (obj : Nat) (mem : Nat) (code : BitVec 16)
  | barRead (data : List Byte) (ep : Bool) (ur : Bool)
  | unsupported (off : Nat)
  | neighbourAdvert (addr : BitVec 128)
  | tdo (bits : Nat) (value : Nat)
  | pcie (up : Bool)
  | guest (dst : BitVec 17) (kind : Nat) (ud : Word) (od : Word)
  | rackSums (dst : BitVec 17) (epoch : Word) (snap : Word) (sums : List Word)
  | epochSealed (dst : BitVec 17)
  | epochAbandoned (dst : BitVec 17)
  | memReply (addr : BitVec 42) (applied : Bool) (old : Option Line) (poison : Bool)
  deriving DecidableEq, Repr

/-- What a link sends in its codewords (08 R270): a packet with its number, a control word, a neighbour card as control words. -/
inductive LinkItem where
  | packet (n : BitVec 16) (k : Packet)
  | word (kind value : Nat)
  | card (bytes : List Byte)
  deriving DecidableEq, Repr

/-- A fabric port and its link (08). -/
structure Port where
  /-- Table 3 state (0x5001) (08 R275). Reset: 0. -/
  state : PortState
  /-- lanes declared failed since the last training (08 R272, R273). Reset: none. -/
  failedLanes : BitVec 9
  /-- lane replaced by L8 (08 R272). Reset: none (0x5006 default 0x00FF). -/
  swapped : Option Nat
  /-- lane swap in progress (08 R272). Reset: none. -/
  swapping : Option Nat
  /-- lanes flagged for margin (0x5007) (08 R274). Reset: none. -/
  flaggedLanes : BitVec 9
  /-- corrected symbols per lane in the present 2^20 codewords (0x5007) (08 R272). Reset: 0. -/
  corrected : Tbl Nat
  /-- codewords accepted in the present 2^20 (08 R272). Reset: 0. -/
  cwSeen : Nat
  /-- eye margins measured last (0x5007) (08 R274). Reset: none measured. -/
  margins : List (BitVec 32)
  /-- lane whose symbols the transmit direction stripes onto L8 (08 R272). Reset: none. -/
  txSwap : Option Nat
  /-- lanes the transmit direction has mapped out (08 R273). Reset: none. -/
  txOut : BitVec 9
  /-- trained since it last went DOWN (08 R276). Reset: no. -/
  trained : Bool
  /-- lanes that failed the lane test (08 R276). Reset: none. -/
  badLanes : BitVec 9
  /-- credits held per VC by the transmitter (08 R294). Reset: 0 until credit initialisation. -/
  credits : Vector Nat 2
  /-- receive buffers in use per VC (08 R294). Reset: 0. -/
  rxUsed : Vector Nat 2
  /-- receive buffers per VC with packets accepted over a link that was lost since (08 R300). Reset: 0. -/
  rxOld : Vector Nat 2
  /-- credits the receiver has still to return per VC (08 R307). Reset: 0. -/
  owed : Vector Nat 2
  /-- what the far end reported last in a credit audit, per VC; no entry = nothing outstanding (08 R307). Reset: none. -/
  report : List AuditReport
  /-- packets being forwarded per VC, with the receive port each came from (08 R296, R302). Reset: empty. -/
  txQ : Vector (List (Nat × Packet)) 2
  /-- injection queue, 64 packets per VC (08 R297). Reset: empty. -/
  injQ : Vector (List Packet) 2
  /-- retry buffer: packets and control words not acknowledged, in order, with the codeword that carries their last byte (08 R271). Reset: empty. -/
  retry : List (BitVec 12 × LinkItem)
  /-- number of the next packet sent (08 R271). Reset: 0 at link-up. -/
  txPkt : BitVec 16
  /-- number of the next packet accepted (08 R271). Reset: 0 at link-up. -/
  rxPkt : BitVec 16
  /-- number of the next codeword sent (08 R271). Reset: 0 at link-up. -/
  txCw : BitVec 12
  /-- bytes already in the codeword being filled (08 R270). Reset: 0 at link-up. -/
  txFill : Nat
  /-- number of the next codeword accepted (08 R271). Reset: 0 at link-up. -/
  rxCw : BitVec 12
  /-- codewords acknowledged by the far end (08 R271). Reset: 0 at link-up. -/
  ackCw : BitVec 12
  /-- request queue THROTTLED (08 R297). Reset: NORMAL. -/
  throttled : Bool
  /-- source units that have added a request in the present throttle interval (08 R297). Reset: none. -/
  added : List UnitId
  /-- VC that goes first when both can (08 R293). Reset: response VC first. -/
  turn : Nat
  /-- requester served last per VC (round robin) (08 R296). Reset: lower index wins first. -/
  lastReq : Vector Nat 2
  /-- expected-neighbour record as it reads (0x5004); none = reset values (08 R278). Reset: none written. -/
  expected : Option (List Byte)
  /-- management has written the record (08 R282). Reset: no. -/
  written : Bool
  /-- expected-neighbour record in force since the last training; none = reset values (08 R278). Reset: none written. -/
  inForce : Option (List Byte)
  /-- observed neighbour card (0x5005) (08 R279). Reset: 64 zero bytes. -/
  observed : List Byte
  /-- link-protocol version in use (08 R281). Reset: DESIGN CHOICE 2 (log 3). -/
  version : Nat
  /-- common feature bits (08 R281). Reset: DESIGN CHOICE 0 (log 3). -/
  features : BitVec 32
  /-- sibling port that carries this port's traffic (08 R301). Reset: none. -/
  detour : Option Nat
  /-- a handoff with the far end is in progress (08 R301). Reset: no. -/
  handoff : Bool
  /-- lost without handoff: its packets wait until the next table commit (08 R302). Reset: no. -/
  lostHeld : Bool
  /-- the replaced lane is good and serves as the spare (LANE_DROP drill) (11 R423). Reset: no. -/
  drilled : Bool
  /-- has carried traffic since link-up (08 R274). Reset: no. -/
  carried : Bool
  deriving DecidableEq, Repr

/-- Port after reset. -/
def Port.reset : Port where
  state := .disabled
  failedLanes := 0
  swapped := none
  swapping := none
  flaggedLanes := 0
  corrected := []
  cwSeen := 0
  margins := []
  txSwap := none
  txOut := 0
  trained := false
  badLanes := 0
  credits := Vector.replicate 2 0
  rxUsed := Vector.replicate 2 0
  rxOld := Vector.replicate 2 0
  owed := Vector.replicate 2 0
  report := []
  txQ := Vector.replicate 2 []
  injQ := Vector.replicate 2 []
  retry := []
  txPkt := 0
  rxPkt := 0
  txCw := 0
  txFill := 0
  rxCw := 0
  ackCw := 0
  throttled := false
  added := []
  turn := 1
  lastReq := Vector.replicate 2 12
  expected := none
  written := false
  inForce := none
  observed := []
  version := 2
  features := 0
  detour := none
  handoff := false
  lostHeld := false
  drilled := false
  carried := false

/-- Ports, routing, windows, sparge (08). -/
structure Fabric where
  /-- P0-P11 (08 R267). Reset: DISABLED code 0. -/
  ports : Vector Port 12
  /-- active floor routing table, 4 x 16 codes (0x5010.1); empty = reset table (08 R289). Reset: 08 R289 reset table. -/
  tableA : List (BitVec 2)
  /-- staged floor routing table (0x5010.0) (08 R304). Reset: 08 R289 reset table. -/
  tableS : List (BitVec 2)
  /-- active global plane table, 512 masks (0x5010.3); empty = reset table (08 R291). Reset: 08 R291 reset table. -/
  gA : List (BitVec 4)
  /-- staged global plane table (0x5010.2) (08 R304). Reset: 08 R291 reset table. -/
  gS : List (BitVec 4)
  /-- requests without a final response (08 R299). Reset: empty. -/
  requests : List Request
  /-- window table: destination, tokens outstanding (08 R298). Reset: empty. -/
  windows : List (BitVec 17 × Nat)
  /-- TAG of the next request (08 R284). Reset: DESIGN CHOICE 0 (log 3). -/
  nextTag : BitVec 16
  /-- sparge state (0x5011.1) (08 R305). Reset: 0 NONE. -/
  sparge : SpargeState
  /-- traffic since DRAINED (0x5011.2) (08 R305). Reset: 0. -/
  traffic : Bool
  /-- six die-to-die links, pairs 01 02 03 12 13 23 (01 R17, 11 Table 1). Reset: 4 spares per direction. -/
  d2d : Vector D2D 6
  /-- requests recorded as in doubt (08 R288). Reset: empty. -/
  inDoubt : List Request
  /-- requests that wait at their source for window tokens or for a sparge to end, oldest first (08 R298, R305). Reset: empty. -/
  waiting : List (Request × Packet)
  /-- inbound packets of the gated job that wait while a local run accepts none (10 R371). Reset: empty. -/
  inHeld : List Packet
  /-- responses that found their injection queue full (08 R297). Reset: empty. -/
  held : List Packet
  deriving DecidableEq, Repr

/-- Fabric after reset. -/
def Fabric.reset : Fabric where
  ports := Vector.replicate 12 Port.reset
  tableA := []
  tableS := []
  gA := []
  gS := []
  requests := []
  windows := []
  nextTag := 0
  sparge := .none
  traffic := false
  d2d := Vector.replicate 6 { spares := Vector.replicate 2 4, lost := false }
  inDoubt := []
  waiting := []
  inHeld := []
  held := []

/-- The four Grist engines (07 R261-R265). -/
structure Grist where
  /-- job scans and combines being served: core, engine, sequence (07 R265). Reset: empty. -/
  pending : List (Nat × Nat × BitVec 32)
  deriving DecidableEq, Repr

/-- Grist after reset. -/
def Grist.reset : Grist where
  pending := []

/-- A Kiln datapath (05). -/
structure KilnUnit where
  /-- parts accepted, in order (05 R178). Reset: empty. -/
  parts : List KilnPart
  /-- PART_SS, XA80 (05 R187). Reset: cleared (05 R188). -/
  partSS : BitVec 128
  /-- GLOBAL_SS, an ES128 value (05 R187). Reset: cleared. -/
  globalSS : BitVec 128
  /-- GLOBAL_SS valid (05 R187). Reset: invalid. -/
  globalValid : Bool
  /-- range table, 4,096 entries per step (05 R177). Reset: empty. -/
  ranges : List (Nat × Nat)
  deriving DecidableEq, Repr

/-- KilnUnit after reset. -/
def KilnUnit.reset : KilnUnit where
  parts := []
  partSS := 0
  globalSS := 0
  globalValid := false
  ranges := []

/-- A ratio-watch entry (05 R189, R191). -/
structure RatioEntry where
  /-- sum of squared updates, XA80 (05 R189). Reset: 0. -/
  sumD : BitVec 128
  /-- sum of squared weights, XA80 (05 R189). Reset: 0. -/
  sumW : BitVec 128
  /-- touched in the step (05 R190). Reset: no. -/
  touched : Bool
  /-- ratio of the step, FP32 (05 R190). Reset: DESIGN CHOICE 0 (log 3). -/
  rho : BitVec 32
  /-- running mean of log2 rho, FP32 (05 R191). Reset: DESIGN CHOICE 0 (log 3). -/
  mu : BitVec 32
  /-- consecutive deviating steps (05 R191). Reset: 0. -/
  dev : Nat
  /-- committed steps tested (05 R191). Reset: 0. -/
  seen : Nat
  deriving DecidableEq, Repr

/-- RatioEntry after reset. -/
def RatioEntry.reset : RatioEntry where
  sumD := 0
  sumW := 0
  touched := false
  rho := 0
  mu := 0
  dev := 0
  seen := 0

/-- Kiln datapaths and the ratio watch (05). -/
structure Kiln where
  /-- Kiln 0-11 (01 R16). Reset: empty. -/
  units : Vector KilnUnit 12
  /-- entry 1024q + id of the ratio watch (05 R189). Reset: cleared. -/
  ratio : Tbl RatioEntry
  /-- identifier of the next accepted descriptor (the model's own) (05 R178). Reset: 0. -/
  nextId : Nat
  /-- lines whose undo record has been written in the step (05 R184). Reset: none. -/
  written : List Nat
  /-- committed steps since start or restore, for the warm-up (05 R191). Reset: 0. -/
  warm : Nat
  deriving DecidableEq, Repr

/-- Kiln after reset. -/
def Kiln.reset : Kiln where
  units := Vector.replicate 12 KilnUnit.reset
  ratio := []
  nextId := 0
  written := []
  warm := 0

/-- The collective engines (09). -/
structure Coll where
  /-- descriptors queued, 32 (09 R327). Reset: empty. -/
  queue : List CollDesc
  /-- descriptors running, 8 (09 R327). Reset: empty. -/
  running : List CollRun
  /-- OPIDs of operations that have ended (09 R342). Reset: empty. -/
  ended : List (BitVec 32)
  /-- bytes granted to this device and not used: OPID, neighbour, bytes (09 R337). Reset: empty. -/
  grants : List (BitVec 32 × BitVec 17 × Nat)
  deriving DecidableEq, Repr

/-- Coll after reset. -/
def Coll.reset : Coll where
  queue := []
  running := []
  ended := []
  grants := []

/-- The Escapement (10). -/
structure Esc where
  /-- phase (0x3201.1) (10 R359). Reset: 0 IDLE. -/
  phase : EscPhase
  /-- current run (0x3201.8) (10 R384). Reset: 0. -/
  run : Nat
  /-- last committed step (0x3201.2) (10 R384). Reset: 0. -/
  committed : Word
  /-- open step record (10 R355). Reset: none. -/
  record : Option StepRec
  /-- profile in force, as SCSR PROFILE reads it (10 R348). Reset: 2 Assay (0x3200.0 default). -/
  profile : Nat
  /-- reasons of Table 6 raised for the run (10 R369). Reset: none. -/
  reasons : List Nat
  /-- residue events reported to the gates for the run: core, and bank or vector instruction (03 R112). Reset: none. -/
  residues : List (Nat × ResidueSite)
  /-- late reports counted against the next step (01 R25). Reset: none. -/
  late : List Nat
  /-- quarter gates that have reported (10 R361). Reset: none. -/
  reported : BitVec 4
  /-- fingerprint scans complete: quarter, value, length (10 R358). Reset: none. -/
  quarterFp : List (Nat × Word × Word)
  /-- device fingerprint value and length (10 R358). Reset: none. -/
  ownFp : Option (Word × Word)
  /-- fingerprint slot: the record the twin wrote last (10 R358). Reset: none. -/
  twinFp : Option FpRec
  /-- check deadline passed (10 R361). Reset: no. -/
  deadline : Bool
  /-- verdict: some true clean, some false suspect (10 R361). Reset: none. -/
  verdict : Option Bool
  /-- this device has contributed to the vote (10 R362). Reset: no. -/
  voted : Bool
  /-- update digest of the run (10 R357). Reset: 0. -/
  ud : Word
  /-- outbound digest of the run (10 R357). Reset: 0. -/
  od : Word
  /-- digests of earlier runs of the step (10 R374). Reset: none. -/
  seen : List (Word × Word)
  /-- the run is a local run (10 R371). Reset: no. -/
  localRun : Bool
  /-- local runs made for block overflow (10 R377). Reset: 0. -/
  overflowRuns : Nat
  /-- group replays of the step (10 R375). Reset: 0. -/
  rounds : Nat
  /-- ledger records of the step, oldest first (10 R364-R366). Reset: empty. -/
  ledger : List LedgerRec
  /-- a rollback is in progress (10 R370). Reset: no. -/
  rolling : Bool
  /-- endpoint whose step a guest run computes (10 R372). Reset: none. -/
  guestOf : Option (BitVec 17)
  /-- a guest request that waits for CHECK (10 R372). Reset: none. -/
  guestAsk : Option GuestAsk
  /-- what a guest run puts aside of this device's own run (10 R372). Reset: none. -/
  keep : Option EscKeep
  /-- the step has been counted as suspect (10 R384). Reset: no. -/
  found : Bool
  /-- local runs of the resolution in progress (10 R374). Reset: 0. -/
  resolveRuns : Nat
  /-- code with which a failed device stops (10 R378). Reset: 0. -/
  failCode : BitVec 16
  /-- outbound digest of run 0 of the vote round (10 R375). Reset: 0. -/
  odSent : Word
  /-- INPUT records kept for a group replay (10 R375). Reset: 0. -/
  kept : Nat
  /-- waiting for a guest digest or decline (10 R374). Reset: no. -/
  guestWait : Bool
  /-- outbound requests of the job sent in the run (10 Table 5). Reset: 0. -/
  outSeq : BitVec 32
  /-- assays open: original core, tile sequence (10 R361). Reset: none. -/
  assays : List (Nat × Nat)
  /-- bound test of the run complete (05 R190). Reset: no. -/
  ratioDone : Bool
  /-- the agreed run requires revoke (10 R375). Reset: no. -/
  revoke : Bool
  /-- the device has failed the step (10 R378). Reset: no. -/
  failVote : Bool
  /-- counters of the job at STEP_OPEN (10 R359). Reset: empty. -/
  snapshot : List (Nat × Counter)
  /-- barrier slots of the job at STEP_OPEN (10 R359). Reset: empty. -/
  snapSlots : List (Nat × Slot)
  /-- COMMANDS records of the step still to run again: stream, count, command (10 R371). Reset: empty. -/
  replay : List (Nat × BitVec 32 × Line)
  /-- INPUT records already applied in a local run (10 R371). Reset: 0. -/
  inputPos : Nat
  /-- stop of the gated job that waits for COMMIT to complete (10 R373). Reset: none. -/
  stopAfter : Option (BitVec 16)
  deriving DecidableEq, Repr

/-- Esc after reset. -/
def Esc.reset : Esc where
  phase := .idle
  run := 0
  committed := 0
  record := none
  profile := 2
  reasons := []
  residues := []
  late := []
  reported := 0
  quarterFp := []
  ownFp := none
  twinFp := none
  deadline := false
  verdict := none
  voted := false
  ud := 0
  od := 0
  seen := []
  localRun := false
  overflowRuns := 0
  rounds := 0
  ledger := []
  rolling := false
  guestOf := none
  guestAsk := none
  keep := none
  found := false
  resolveRuns := 0
  failCode := 0
  odSent := 0
  kept := 0
  guestWait := false
  outSeq := 0
  assays := []
  ratioDone := false
  revoke := false
  failVote := false
  snapshot := []
  snapSlots := []
  replay := []
  inputPos := 0
  stopAfter := none

/-- Racking, the cellar and restore (11). -/
structure Rack where
  /-- parts of the racking list that this device racks, read at the epoch start (11 R394). Reset: empty. -/
  list : List RackRange
  /-- racking state (0x6010.8) (11 R401). Reset: 0 none. -/
  state : Nat
  /-- number of the newest epoch started (11 Table 5). Reset: 0. -/
  epoch : Word
  /-- snapshot step of the epoch in progress (11 R396). Reset: 0. -/
  snap : Word
  /-- racked 4 KiB blocks copied in the epoch (11 R398). Reset: none. -/
  copied : List Nat
  /-- priority buffers: blocks read and not yet sent (11 R398). Reset: empty. -/
  prio : List PrioBlock
  /-- sender's CRC-64 sums per stack (11 R400). Reset: 0. -/
  sums : Vector Word 12
  /-- stacks whose header is written in the epoch (11 R400). Reset: none. -/
  sealedStacks : BitVec 12
  /-- cellar slot that this device's next epoch goes to, 0 A 1 B (11 R400). Reset: DESIGN CHOICE 0 (log 3). -/
  slot : Nat
  /-- headers: key 12*slot + stack (0x6011.0, .1) (11 R402). Reset: zeros. -/
  hdrs : Tbl CellarHdr
  /-- cellar region bytes: key (slot*12+stack)*2^34 + offset (11 R402). Reset: empty. -/
  payload : Mem
  /-- poisoned lines of the cellar region (11 R397). Reset: none. -/
  payloadPoison : List Nat
  /-- slot of the newest sealed epoch hosted; 2 none (11 R400). Reset: none. -/
  newest : Nat
  /-- slot that the addresses of the epoch being received name (11 R400). Reset: DESIGN CHOICE 0 (log 3). -/
  landing : Nat
  /-- the newest epoch was found clear at the commit of its snapshot step plus H (10 R382). Reset: no. -/
  clear : Bool
  /-- no epoch has been sealed since a cellar host was named (11 R401). Reset: no. -/
  unprotected : Bool
  /-- a trend alarm has been raised since the newest snapshot (10 R382). Reset: no. -/
  alarm : Bool
  /-- restore state (0x6011.4) (11 R406). Reset: 0 idle. -/
  restore : Nat
  /-- slot being restored (11 R406). Reset: DESIGN CHOICE 0 (log 3). -/
  restoreSlot : Nat
  deriving DecidableEq, Repr

/-- Rack after reset. -/
def Rack.reset : Rack where
  list := []
  state := 0
  epoch := 0
  snap := 0
  copied := []
  prio := []
  sums := Vector.replicate 12 0
  sealedStacks := 0
  slot := 0
  hdrs := []
  payload := []
  payloadPoison := []
  newest := 2
  landing := 0
  clear := false
  unprotected := false
  alarm := false
  restore := 0
  restoreSlot := 0

/-- What the Chronograph reads of a core (11 Table 7, 04 R157). -/
structure CoreDump where
  phys : Nat
  pc : Word
  group : BitVec 32
  async : BitVec 32
  sreg : Vector Word 32
  preg : Vector (BitVec 512) 8
  arrayQ : List ArrOp
  epiQ : List EpiOp
  banks : Vector Bank 8
  dma : Vector DmaEngine 2
  effects : EffectLog
  deriving DecidableEq, Repr

/-- The contents of the unit records of a dump (11 Table 7). -/
structure DumpUnits where
  streams : List Stream
  jobs : List Job
  sync : Sync
  cores : List CoreDump
  coll : Coll
  kiln : List KilnUnit
  esc : Esc
  rack : Rack
  ports : List Port
  hbm : List Stack
  deriving DecidableEq, Repr

/-- A dump that recorded nothing. -/
def DumpUnits.empty : DumpUnits :=
  { streams := [], jobs := [], sync := Sync.reset, cores := [], coll := Coll.reset, kiln := [], esc := Esc.reset, rack := Rack.reset, ports := [], hbm := [] }

/-- A Chronograph dump (11 R409 to R411): its number, trigger (a rung, 0 for a command, 5 for FAULT), cause, the units (kind, number) with a NO_ANSWER record,
whether its CRC holds, its eMMC slot, the beats and the coordinate in its header, the number of the free value that stands for what its units hold beside the
model's state, and what its records hold. -/
structure DumpRec where
  num : Nat
  trigger : Nat
  cause : Nat
  noAnswer : List (Nat × Nat)
  valid : Bool
  slot : Nat := 0
  beats : Nat := 0
  coord : Nat := 0
  rest : Nat := 0
  units : DumpUnits := DumpUnits.empty
  deriving DecidableEq, Repr

/-- Remontoire, health, drills and reset records (11). -/
structure Resil where
  /-- 160 physical cores, index 40q+p (01 R15). Reset: self-test passed, not retired. -/
  phys : Vector PhysCore 160
  /-- physical core (0-39) of each logical core, within its quarter (01 R14, R15). Reset: lowest-numbered passing core (01 R15). -/
  map : Vector Nat 144
  /-- logical cores waiting for a replacement, per order of detection (11 R388). Reset: empty. -/
  replQ : List Nat
  /-- logical cores whose replacement has been mapped and is waking (11 R388). Reset: empty. -/
  replacing : List Nat
  /-- health deductions in force: event kind, points, transient (11 R418). Reset: none. -/
  deductions : List (Nat × Nat × Bool)
  /-- kinds of transient deduction made since the last hour tick (11 R418). Reset: none. -/
  deducted : List Nat
  /-- drill in progress: 0 CORE_HANG 1 LANE_DROP 2 POISON 3 FALSE_ASSAY (11 R423). Reset: none. -/
  drill : Option Nat
  /-- what the drill in progress acts on (11 R423). Reset: DESIGN CHOICE 0 (log 3). -/
  drillTarget : Nat
  /-- kinds of drill of which a real event has occurred since the last hour tick (11 R423). Reset: none. -/
  recent : BitVec 4
  /-- the corrected symbols counted are above the warning level (11 R404, R418). Reset: no. -/
  corrWarned : Bool
  /-- a self-expulsion waits for the open step (11 R421). Reset: no. -/
  expelling : Bool
  /-- health score at the last hour tick (11 R404). Reset: 1000. -/
  hourScore : Nat
  /-- a health-drop warning has been raised since (11 R404). Reset: no. -/
  warned : Bool
  /-- eMMC dump slots written, newest first, at most 8 (11 R410, R411). Reset: empty. -/
  dumps : List DumpRec
  /-- dump of a warm reset, in T31 until the management core copies it to the eMMC (11 R411). Reset: none. -/
  t31Dump : Option DumpRec
  /-- rung of the reset in progress, 0 none (11 R412). Reset: none. -/
  resetRung : Nat
  /-- stacks recorded as lost for the reset in progress (06 R227). Reset: none. -/
  lostStacks : BitVec 12
  deriving DecidableEq, Repr

/-- Resil after reset. -/
def Resil.reset : Resil where
  phys := Vector.replicate 160 PhysCore.reset
  map := ⟨⟨(List.range 144).map (· % 36)⟩, by simp⟩
  replQ := []
  replacing := []
  deductions := []
  deducted := []
  drill := none
  drillTarget := 0
  recent := 0
  corrWarned := false
  expelling := false
  hourScore := 1000
  warned := false
  dumps := []
  t31Dump := none
  resetRung := 0
  lostStacks := 0

/-- The Fynen agent (12 R449-R456). -/
structure Fynen where
  /-- session epoch (0x1030.4) (12 R451). Reset: random: free value at power-on. -/
  epochId : Word
  /-- management key (kept encrypted in the eMMC) (12 R451, 13 R474). Reset: none installed. -/
  keyMgmt : Option (List Byte)
  /-- host key (12 R451, 13 R474). Reset: none installed. -/
  keyHost : Option (List Byte)
  /-- last SEQ accepted on the management key in the epoch (12 R451). Reset: none. -/
  seqMgmt : Option Word
  /-- last SEQ accepted on the host key (12 R451). Reset: none. -/
  seqHost : Option Word
  /-- most recently answered request and its response, 10BASE-T1S (12 R451). Reset: none. -/
  lastReqT1s : Option (FynenMsg × FynenMsg)
  /-- the same, mailbox (12 R451). Reset: none. -/
  lastReqMb : Option (FynenMsg × FynenMsg)
  /-- BLOB bytes staged (object, member, bytes), 10BASE-T1S (12 R453). Reset: none. -/
  stagedT1s : Option (Nat × Nat × List Byte)
  /-- the same, mailbox (12 R453). Reset: none. -/
  stagedMb : Option (Nat × Nat × List Byte)
  /-- event log, 1,024 records, newest first (0x1011.0) (12 R456). Reset: empty. -/
  log : List EventRec
  /-- newest event sequence (0x1011.1) (12 R456). Reset: 0. -/
  eventSeq : Word
  /-- Fynen is silent until firmware is verified again (11 R408). Reset: no. -/
  silent : Bool
  /-- EVENT messages not acknowledged: sequence, sends (12 R456). Reset: empty. -/
  unacked : List (Word × Nat)
  deriving DecidableEq, Repr

/-- Fynen after reset. -/
def Fynen.reset : Fynen where
  epochId := 0
  keyMgmt := none
  keyHost := none
  seqMgmt := none
  seqHost := none
  lastReqT1s := none
  lastReqMb := none
  stagedT1s := none
  stagedMb := none
  log := []
  eventSeq := 0
  silent := false
  unacked := []

/-- The keys of the vault (13 Table 1): the attestation seed, the RPMB key, the storage key and the KEM seeds d and z. -/
structure Vault where
  attestation : List Byte
  rpmb : List Byte
  storage : List Byte
  kemD : List Byte
  kemZ : List Byte
  deriving DecidableEq, Repr

/-- Boot, images, owner, attestation (13). -/
structure Boot where
  /-- boot count (RPMB) (13 R465). Reset: DESIGN CHOICE 0 (log 3). -/
  bootCount : Word
  /-- stored SVN (RPMB) (13 R465). Reset: DESIGN CHOICE 0 (log 3). -/
  storedSvn : BitVec 32
  /-- confirmed slot (RPMB) (13 R465). Reset: DESIGN CHOICE 0 (slot A) (log 3). -/
  confirmed : Nat
  /-- pending slot (RPMB) (13 R465). Reset: none. -/
  pending : Option Nat
  /-- tries left (RPMB) (13 R465). Reset: 0 (13 Table 8). -/
  tries : Nat
  /-- owner state (RPMB) (13 R473). Reset: 0 UNOWNED. -/
  owned : Bool
  /-- owner key hash (RPMB) (13 R465). Reset: 32 zero bytes. -/
  ownerHash : List Byte
  /-- REQUIRE_OWNER (RPMB) (13 R465). Reset: 0. -/
  requireOwner : Bool
  /-- next reserved HSS index (RPMB) (13 R477). Reset: DESIGN CHOICE 0 (log 3). -/
  nextIndex : Nat
  /-- next HSS index to use (13 R477). Reset: DESIGN CHOICE 0 (log 3). -/
  usedIndex : Nat
  /-- image slots A and B, 4 MiB each (13 R464). Reset: DESIGN CHOICE zeros (log 3). -/
  slots : Vector Mem 2
  /-- slot states (0x1110.6, .7) (13 R471). Reset: DESIGN CHOICE 0 INVALID (log 3). -/
  slotState : Vector SlotImage 2
  /-- open write session: slot, transport (13 R471, R472). Reset: none. -/
  session : Option (Nat × Transport)
  /-- write offset (0x1110.3) (13 R471). Reset: 0. -/
  offset : Nat
  /-- code of the last failed commit (0x1110.8) (13 R471). Reset: 0. -/
  failCode : BitVec 16
  /-- boot status (0x1100.0) (13 R478). Reset: 0. -/
  status : BitVec 16
  /-- booted slot (0x1100.1) (13 R478). Reset: 0xFF none. -/
  booted : Nat
  /-- BUILD of the booted image (13 Table 7). Reset: DESIGN CHOICE 0 (log 3). -/
  build : Word
  /-- helper data copy used (0x1100.4); 0 none yet (13 R462). Reset: DESIGN CHOICE 0 (log 3). -/
  helper : Nat
  /-- keys in the vault (13 Table 1) (13 R462, R463). Reset: none before the island powers up. -/
  vault : Option Vault
  /-- management and host key as the eMMC holds them: IV, key encrypted under the storage key, tag (13 R464, R474). Reset: none. -/
  keyStore : Vector (List Byte) 2
  /-- MACs of the two encrypted Fynen keys (RPMB) (13 R465, R474). Reset: none. -/
  keyMacs : Vector (List Byte) 2
  /-- island SRAM, 2 MiB: the management component, and the quarter component in its staging area (13 R461, R468). Reset: DESIGN CHOICE zeros (log 3). -/
  sram : Mem
  /-- quarter component at the start of the control-core area of each T31 (13 R468). Reset: DESIGN CHOICE empty (log 3). -/
  quarterFw : Vector (List Byte) 4
  /-- device nonce (0x1101.3) (13 R473). Reset: random: free value. -/
  nonce : List Byte
  /-- measurement M0 (13 R475). Reset: DESIGN CHOICE zeros (log 3). -/
  m0 : List Byte
  /-- measurement M1 (13 R475). Reset: DESIGN CHOICE zeros (log 3). -/
  m1 : List Byte
  /-- measurement M2 (13 R475). Reset: DESIGN CHOICE zeros (log 3). -/
  m2 : List Byte
  /-- measurement M3 (13 R475). Reset: DESIGN CHOICE zeros (log 3). -/
  m3 : List Byte
  /-- measurement M4 (13 R475). Reset: zero at boot. -/
  m4 : List Byte
  /-- attestation report (0x1120.1) (13 R476). Reset: DESIGN CHOICE empty (log 3). -/
  report : List Byte
  /-- attestation nonce writes the rate allows now (13 R476). Reset: 16. -/
  burst : Nat
  /-- configuration sealed (0x1010.6) (12 R452). Reset: 0. -/
  sealed : Bool
  deriving DecidableEq, Repr

/-- Boot after reset. -/
def Boot.reset : Boot where
  bootCount := 0
  storedSvn := 0
  confirmed := 0
  pending := none
  tries := 0
  owned := false
  ownerHash := List.replicate 32 0
  requireOwner := false
  nextIndex := 0
  usedIndex := 0
  slots := Vector.replicate 2 []
  slotState := Vector.replicate 2 .invalid
  session := none
  offset := 0
  failCode := 0
  status := 0
  booted := 0xFF
  build := 0
  helper := 0
  vault := none
  keyStore := Vector.replicate 2 []
  keyMacs := Vector.replicate 2 []
  sram := []
  quarterFw := Vector.replicate 4 []
  nonce := []
  m0 := List.replicate 32 0
  m1 := List.replicate 32 0
  m2 := List.replicate 32 0
  m3 := List.replicate 32 0
  m4 := List.replicate 32 0
  report := []
  burst := 16
  sealed := false

/-- Supply, clocks, thermal, discrete inputs, TAP (14, 15). -/
structure Power where
  /-- VIN_A (14 R481). Reset: absent. -/
  vinA : Input
  /-- VIN_B (14 R481). Reset: absent. -/
  vinB : Input
  /-- rails VQ VIO VHBM VCORE in regulation (bits 0-3) (14 R484). Reset: off. -/
  rails : BitVec 4
  /-- quarter PLLs locked, quarter clocks running (14 Table 3). Reset: stopped. -/
  quarterClocks : Bool
  /-- reference source (0x7030.0) (14 R486). Reset: 0 FAB_REFCLK. -/
  refOsc : Bool
  /-- FAB_REFCLK present and on frequency (14 R486). Reset: DESIGN CHOICE present (log 3). -/
  fabRefclk : Bool
  /-- Hairspring crystal good (01 R23). Reset: DESIGN CHOICE good (log 3). -/
  crystalOk : Bool
  /-- Fusee queue of logical cores: wakes, in order (14 R491). Reset: empty. -/
  fusee : List Nat
  /-- wakes for the Remontoire, in order (14 R491). Reset: empty. -/
  fuseeRemontoire : List Nat
  /-- entries into sleep, in order (14 R491). Reset: empty. -/
  fuseeSleep : List Nat
  /-- thermal step of each quarter (14 R497). Reset: 0. -/
  thermalStep : Vector Nat 4
  /-- power-limit step (0x7010.1) (14 R494). Reset: 0. -/
  powerStep : Nat
  /-- throttle step of each quarter (0x7020.4) (14 R497). Reset: 0. -/
  step : Vector Nat 4
  /-- junction sensor readings of each quarter, FP32 (14 R495). Reset: none read. -/
  sensors : Vector (List (BitVec 32)) 4
  /-- thermal trip in progress (14 R498). Reset: no. -/
  tripped : Bool
  /-- RESET_N filtered (14 R500). Reset: deasserted (15 R507 pull-up). -/
  resetN : PinIn
  /-- THROTTLE_N filtered (14 R500). Reset: deasserted. -/
  throttleN : PinIn
  /-- PRESENT_N filtered (14 R500, R501). Reset: DESIGN CHOICE asserted (module seated) (log 3). -/
  presentN : PinIn
  /-- last power-off with both inputs lost (0x7000.5) (14 R483). Reset: DESIGN CHOICE 0 (log 3). -/
  lostPower : Bool
  /-- MGMT_ID read at island power-up (15 R509). Reset: DESIGN CHOICE 0 (log 3). -/
  mgmtId : BitVec 3
  /-- input power, FP32 (0x7000.2) (14 R493). Reset: DESIGN CHOICE 0 (log 3). -/
  inputPower : BitVec 32
  /-- TAP instruction register (15 R520). Reset: PRESUMED IDCODE (IEEE 1149.1 Test-Logic-Reset) (log 5). -/
  tap : TapInstr
  /-- boundary cells preloaded (a stand-in for the boundary register) (15 R520). Reset: DESIGN CHOICE 0 (log 3). -/
  boundary : Word
  deriving DecidableEq, Repr

/-- Power after reset. -/
def Power.reset : Power where
  vinA := { inRange := false, switchClosed := false, supplying := false, volts := 0 }
  vinB := { inRange := false, switchClosed := false, supplying := false, volts := 0 }
  rails := 0
  quarterClocks := false
  refOsc := false
  fabRefclk := true
  crystalOk := true
  fusee := []
  fuseeRemontoire := []
  fuseeSleep := []
  thermalStep := Vector.replicate 4 0
  powerStep := 0
  step := Vector.replicate 4 0
  sensors := Vector.replicate 4 []
  tripped := false
  resetN := { asserted := false, chatter := false }
  throttleN := { asserted := false, chatter := false }
  presentN := { asserted := true, chatter := false }
  lostPower := false
  mgmtId := 0
  inputPower := 0
  tap := .idcode
  boundary := 0

/-- Device state (12 R445-R448). -/
structure Dev where
  /-- device state (0x1010.0) (12 R445). Reset: OFF (log 2). -/
  state : DevState
  /-- the Hairspring island is powered (01 R20). Reset: no. -/
  powered : Bool
  /-- state a drain leads to (12 Table 9). Reset: DESIGN CHOICE IDLE (log 3). -/
  afterDrain : DevState
  /-- 0x5000.1 (08 R282). Reset: 0. -/
  coordAssigned : Bool
  /-- 0x5000.0 (08 R282). Reset: 0. -/
  coord : BitVec 17
  /-- a power-on target of IDLE waits for PRESENT_N (14 R501). Reset: no. -/
  wantIdle : Bool
  /-- a rung-4 power cycle holds the device in STANDBY (12 Table 9, 11 R415). Reset: no. -/
  powerCycling : Bool
  /-- RESET_N holds the reset (14 Table 6). Reset: no. -/
  resetHeld : Bool
  deriving DecidableEq, Repr

/-- Dev after reset. -/
def Dev.reset : Dev where
  state := .off
  powered := false
  afterDrain := .idle
  coordAssigned := false
  coord := 0
  wantIdle := false
  powerCycling := false
  resetHeld := false

/-- The whole state of the block. -/
structure State where
  /-- commands that wait, first in first out (the model's own queue) (log 1). -/
  pending : List Instr
  /-- device state (12). -/
  dev : Dev
  /-- logical cores c0-c143 (01 R13). -/
  cores : Vector Core 144
  /-- Remontoire, health, drills, dumps (11). -/
  resil : Resil
  /-- device memory (06). -/
  mem : MemSys
  /-- counters and barriers (09). -/
  sync : Sync
  /-- streams 0-63 (12). -/
  streams : Vector Stream 64
  /-- jobs 0-7 (12). -/
  jobs : Vector Job 8
  /-- PCI Express function (12). -/
  host : HostPort
  /-- fabric (08). -/
  fabric : Fabric
  /-- Grist (07). -/
  grist : Grist
  /-- Kiln and ratio watch (05). -/
  kiln : Kiln
  /-- collective engines (09). -/
  coll : Coll
  /-- Escapement and ledger (10). -/
  esc : Esc
  /-- racking and cellar (11). -/
  rack : Rack
  /-- Fynen agent (12). -/
  fynen : Fynen
  /-- boot and security (13). -/
  boot : Boot
  /-- power, clocks, thermal, pins (14, 15). -/
  power : Power
  /-- numeric members of the object dictionary that differ from their default (12 R458): key 256*object + member. -/
  obj : Tbl Nat
  /-- BLOB and STR members of the object dictionary that differ from their default. -/
  blobs : Tbl (List Byte)
  /-- the host's memory beyond the PCIe link (the model's environment) (log 13). -/
  hostMem : Mem
  /-- lines of the host's memory whose data carry EP (the model's environment) (log 13). -/
  hostPoison : List Nat
  /-- what has left the device at its pins, oldest first (the model's own) (log 12). -/
  out : List Output
  /-- how many free values have been taken (the model's own) (log 10). -/
  free : Nat
  deriving DecidableEq, Repr

/-- Why the block stops with a fault. No command of this model raises one: the spec gives every command an effect. -/
inductive Fault where
  /-- Raised by no command; kept so that the type is inhabited. Safe: nothing is claimed about it. -/
  | none
  deriving DecidableEq, Repr

/-- Why a command has no meaning in the model. -/
inductive Refusal where
  /-- Raised by the arm of a command that the model gives no meaning yet, with its mnemonic. Safe: the block stops. -/
  | notModelled (mnemonic : String)
  deriving DecidableEq, Repr

/-- The block before power is applied for the first time (12 R445 Table 8: OFF): every part at its reset value. (log 2, DESIGN CHOICE; log 3, DESIGN CHOICE) -/
def State.reset : State where
  pending := []
  dev := Dev.reset
  cores := Vector.replicate 144 Core.reset
  resil := Resil.reset
  mem := MemSys.reset
  sync := Sync.reset
  streams := Vector.replicate 64 Stream.reset
  jobs := Vector.replicate 8 Job.reset
  host := HostPort.reset
  fabric := Fabric.reset
  grist := Grist.reset
  kiln := Kiln.reset
  coll := Coll.reset
  esc := Esc.reset
  rack := Rack.reset
  fynen := Fynen.reset
  boot := Boot.reset
  power := Power.reset
  obj := []
  blobs := []
  hostMem := []
  hostPoison := []
  out := []
  free := 0

end Sys2Proof.Machine
end

