-- ==== Sys2Proof/Machine/Table.lean ====
section
/-! DEFINITION. Sparse tables, sparse memory in its canonical form, sorted line sets and byte-order helpers: every read and write
of a table or a memory of the model goes through these. -/

namespace Sys2Proof.Machine

/-- What a table holds at a key. -/
def tget {α : Type} (d : α) : Tbl α → Nat → α
  | [], _ => d
  | (k, v) :: r, i => if i = k then v else tget d r i

/-- Write an entry in key order, whatever its value. -/
def tins {α : Type} : Tbl α → Nat → α → Tbl α
  | [], i, v => [(i, v)]
  | (k, w) :: r, i, v => if i < k then (i, v) :: (k, w) :: r else if i = k then (i, v) :: r else (k, w) :: tins r i v

/-- Remove an entry. -/
def tdel {α : Type} (t : Tbl α) (i : Nat) : Tbl α := t.filter (fun c => c.1 ≠ i)

/-- Write an entry; a default value removes it, so that equal tables are equal data. -/
def tset {α : Type} [DecidableEq α] (d : α) (t : Tbl α) (i : Nat) (v : α) : Tbl α :=
  if v = d then tdel t i else tins t i v

/-- The keys rise strictly and no entry equals what an unlisted address reads as (`u`). -/
abbrev Mem.wf (u : Nat → Byte) (m : Mem) : Prop :=
  m.Pairwise (fun a b => a.1 < b.1) ∧ ∀ c ∈ m, c.2 ≠ u c.1

/-- Read one byte of a memory whose unlisted addresses read as `u`. -/
def mget (u : Nat → Byte) (m : Mem) (a : Nat) : Byte := tget (u a) m a

/-- Write one byte, keeping the canonical form. -/
def mset (u : Nat → Byte) (m : Mem) (a : Nat) (b : Byte) : Mem := tset (u a) m a b

/-- Read `n` bytes from `a` up. -/
def mgetN (u : Nat → Byte) (m : Mem) (a : Nat) : Nat → List Byte
  | 0 => []
  | n + 1 => mget u m a :: mgetN u m (a + 1) n

/-- Write bytes from `a` up. -/
def msetN (u : Nat → Byte) : Mem → Nat → List Byte → Mem
  | m, _, [] => m
  | m, a, b :: r => msetN u (mset u m a b) (a + 1) r

/-- Drop every byte of a range, so that it reads as unlisted. -/
def mclear (m : Mem) (lo hi : Nat) : Mem := m.filter (fun c => c.1 < lo || hi ≤ c.1)

/-- What an unlisted byte of a memory with no other contents reads as: zero. (log 3, DESIGN CHOICE) -/
def zeroByte : Nat → Byte := fun _ => 0

/-- Exactly `n` bytes, padded with zeros. -/
def padTo (n : Nat) (b : List Byte) : List Byte := (b ++ List.replicate n 0).take n

/-- Little-endian value of a list of bytes (00 R8). -/
def leNat : List Byte → Nat
  | [] => 0
  | b :: r => b.toNat + 256 * leNat r

/-- The low `n` bytes of a value, little-endian. -/
def leBytes (v : Nat) : Nat → List Byte
  | 0 => []
  | n + 1 => BitVec.ofNat 8 v :: leBytes (v / 256) n

/-- Little-endian value of `n` bytes of a record from offset `o`. -/
def recNat (r : List Byte) (o n : Nat) : Nat := leNat ((r.drop o).take n)

/-- Whether the bytes `lo` to `hi - 1` of a record are zero. -/
def recZero (r : List Byte) (lo hi : Nat) : Bool := ((r.drop lo).take (hi - lo)).all (· == 0)

/-- Two's-complement value of the low `w` bits. -/
def sint (w : Nat) (v : Nat) : Int := if 2 * (v % 2 ^ w) < 2 ^ w then (v % 2 ^ w : Nat) else (v % 2 ^ w : Nat) - (2 ^ w : Nat)

/-- The low `w` bits of an integer. -/
def uint (w : Nat) (v : Int) : Nat := (v % (2 ^ w : Nat)).toNat

/-- Bits `[hi:lo]` of a number. -/
def bits (v hi lo : Nat) : Nat := v / 2 ^ lo % 2 ^ (hi + 1 - lo)

/-- A line as bytes. -/
def lineBytes (l : Line) : List Byte := leBytes l.toNat 64

/-- Bytes as a line. -/
def lineOf (b : List Byte) : Line := BitVec.ofNat 512 (leNat b)

/-- Add a number to a rising list without repeats. -/
def sadd : List Nat → Nat → List Nat
  | [], i => [i]
  | k :: r, i => if i < k then i :: k :: r else if i = k then k :: r else k :: sadd r i

/-- Remove a number from a rising list. -/
def sdel (l : List Nat) (i : Nat) : List Nat := l.filter (· ≠ i)

/-- Add or remove. -/
def sput (l : List Nat) (i : Nat) (b : Bool) : List Nat := if b then sadd l i else sdel l i

/-- A vector element by number, `d` outside. -/
def vget {α : Type} {n : Nat} (v : Vector α n) (i : Nat) (d : α) : α := v.toList.getD i d

/-- Replace a vector element by number; outside, nothing. -/
def vset {α : Type} {n : Nat} (v : Vector α n) (i : Nat) (x : α) : Vector α n :=
  if h : i < n then v.set i x h else v

/-- Update a vector element by number. -/
def vmod {α : Type} {n : Nat} (v : Vector α n) (i : Nat) (f : α → α) : Vector α n :=
  if h : i < n then v.set i (f v[i]) h else v

/-- Split a list into pieces of `n`; the fuel is the length. -/
def chunksAux {α : Type} (n : Nat) : Nat → List α → List (List α)
  | 0, _ => []
  | k + 1, l => if l.isEmpty then [] else l.take n :: chunksAux n k (l.drop n)

/-- Split a list into pieces of `n` (the last may be short). -/
def chunks {α : Type} (n : Nat) (l : List α) : List (List α) := chunksAux n l.length l

/-- Round up to a multiple. -/
def ceilDiv (a b : Nat) : Nat := (a + b - 1) / b

/-- The least `n` with `k ≤ 2 ^ n`. -/
def clog2 (k : Nat) : Nat := if k ≤ 1 then 0 else Nat.log2 (k - 1) + 1

/-- Collect the codes that apply. (log 40, DESIGN CHOICE) -/
def codes (l : List (Bool × Nat)) : List Nat := (l.filter (·.1)).map (·.2)

end Sys2Proof.Machine
end

