-- ==== Sys2Proof/Machine/Num.lean ====
section
/-! DEFINITION. The formats of 02: IEEE-style numbers (R37, R38), rounding (R56, R58, R59), exact sums, products and quotients,
block formats (R31 to R36, R65, R66) and their storage groups. -/

namespace Sys2Proof.Machine

/-- A rounding mode with the 16-bit random value of stochastic rounding (02 R56, R58). -/
inductive Rnd where
  | rne | rtz | sr (r : Nat)
  deriving DecidableEq, Repr

/-- An IEEE-style layout: exponent and fraction widths (02 Table 4). -/
structure Fmt where
  eb : Nat
  fb : Nat
  deriving DecidableEq, Repr

def fp32 : Fmt := ⟨8, 23⟩
def bf16 : Fmt := ⟨8, 7⟩
def fp16 : Fmt := ⟨5, 10⟩

/-- A number: NaN, an infinity, or sign, magnitude and exponent, of value magnitude times 2^exp. -/
inductive FVal where
  | nan
  | inf (neg : Bool)
  | fin (neg : Bool) (mag : Nat) (exp : Int)
  deriving DecidableEq, Repr

def FVal.zero : FVal := .fin false 0 0

def Fmt.bias (f : Fmt) : Nat := 2 ^ (f.eb - 1) - 1

/-- Exponent of the least subnormal. -/
def Fmt.qmin (f : Fmt) : Int := 1 - (f.bias : Int) - f.fb

def Fmt.infBits (f : Fmt) : Nat := (2 ^ f.eb - 1) * 2 ^ f.fb

def Fmt.signBit (f : Fmt) : Nat := 2 ^ (f.eb + f.fb)

/-- The canonical NaN (02 Table 4, R38). -/
def Fmt.nanBits (f : Fmt) : Nat := f.infBits + 2 ^ (f.fb - 1)

/-- The value of an encoding (02 R37). -/
def Fmt.decode (f : Fmt) (v : Nat) : FVal :=
  let fr := v % 2 ^ f.fb
  let e := v / 2 ^ f.fb % 2 ^ f.eb
  let s := v / 2 ^ (f.fb + f.eb) % 2 == 1
  if e = 2 ^ f.eb - 1 then (if fr = 0 then .inf s else .nan)
  else if e = 0 then .fin s fr f.qmin
  else .fin s (fr + 2 ^ f.fb) (f.qmin + e - 1)

/-- Round `mag * 2^e` to a multiple of `2^q`: the multiple, and whether a bit was lost (02 R56, R58). -/
def roundTo (mag : Nat) (e q : Int) (m : Rnd) : Nat × Bool :=
  if q ≤ e then (mag * 2 ^ (e - q).toNat, false)
  else
    let d := (q - e).toNat
    let n := mag / 2 ^ d
    let r := mag % 2 ^ d
    let up := match m with
      | .rne => decide (2 ^ d < 2 * r) || (decide (2 ^ d = 2 * r) && n % 2 == 1)
      | .rtz => false
      | .sr w => decide (2 ^ 16 ≤ r * 2 ^ 16 / 2 ^ d + w)
    (if up then n + 1 else n, r != 0)

/-- The magnitude bits of a rounded number, before overflow is resolved. -/
def Fmt.magBits (f : Fmt) (m : Rnd) (mag : Nat) (e : Int) : Nat :=
  let q := max ((Nat.log2 mag : Int) + e - f.fb) f.qmin
  (q - f.qmin).toNat * 2 ^ f.fb + (roundTo mag e q m).1

/-- Round a value to a format; the flag says that a finite value became an infinity (02 R59). -/
def Fmt.round (f : Fmt) (m : Rnd) : FVal → Nat × Bool
  | .nan => (f.nanBits, false)
  | .inf s => (f.infBits + (if s then f.signBit else 0), false)
  | .fin s mag e =>
    let sg := if s then f.signBit else 0
    if mag = 0 then (sg, false)
    else
      let b := f.magBits m mag e
      let ovf := decide (f.infBits ≤ f.magBits .rne mag e)
      match m with
      | .rtz => (sg + (if f.infBits ≤ b then f.infBits - 1 else b), false)
      | .rne => (sg + (if ovf then f.infBits else b), ovf)
      | .sr _ => (sg + (if ovf then f.infBits else if f.infBits ≤ b then f.infBits - 1 else b), ovf)

/-- Round to a format's bits. -/
def Fmt.enc (f : Fmt) (m : Rnd) (v : FVal) : Nat := (f.round m v).1

/-- Round to FP32 by RNE and read back. -/
def toF32 (v : FVal) : FVal := fp32.decode (fp32.enc .rne v)

/-- The FP32 number in a bit pattern. -/
def f32 (v : Nat) : FVal := fp32.decode v

def FVal.neg : FVal → FVal
  | .nan => .nan
  | .inf s => .inf (!s)
  | .fin s m e => .fin (!s) m e

def FVal.abs : FVal → FVal
  | .nan => .nan
  | .inf _ => .inf false
  | .fin _ m e => .fin false m e

def FVal.isNan : FVal → Bool
  | .nan => true
  | _ => false

def FVal.isInf : FVal → Bool
  | .inf _ => true
  | _ => false

def FVal.isFin : FVal → Bool
  | .fin .. => true
  | _ => false

/-- Signed value of a finite number at exponent `q`, which is at or below its own. -/
def FVal.at (q : Int) : FVal → Int
  | .fin s m e => (if s then -1 else 1) * ((m * 2 ^ (e - q).toNat : Nat) : Int)
  | _ => 0

def FVal.exp : FVal → Int
  | .fin _ _ e => e
  | _ => 0

/-- The number `v * 2^q`, +0 when `v` is zero (02 R46). -/
def FVal.ofInt (v q : Int) : FVal := .fin (decide (v < 0)) v.natAbs q

/-- Exact sum (02 R37): opposite infinities give NaN; a zero sum is +0 unless both addends are -0. -/
def FVal.add : FVal → FVal → FVal
  | .nan, _ => .nan
  | _, .nan => .nan
  | .inf a, .inf b => if a = b then .inf a else .nan
  | .inf a, _ => .inf a
  | _, .inf b => .inf b
  | .fin s m e, .fin t n g =>
    let q := min e g
    let v := FVal.at q (.fin s m e) + FVal.at q (.fin t n g)
    if v = 0 then .fin (s && t && m == 0 && n == 0) 0 0 else .ofInt v q

/-- Exact product. -/
def FVal.mul : FVal → FVal → FVal
  | .nan, _ => .nan
  | _, .nan => .nan
  | .inf a, .inf b => .inf (a != b)
  | .inf a, .fin t n _ => if n = 0 then .nan else .inf (a != t)
  | .fin s m _, .inf b => if m = 0 then .nan else .inf (s != b)
  | .fin s m e, .fin t n g => .fin (s != t) (m * n) (e + g)

/-- Exact fused multiply-add, to be rounded once. -/
def FVal.fma (a b c : FVal) : FVal := (a.mul b).add c

/-- A quotient with at least 96 significant bits and a sticky bit, so that any later rounding is correct. -/
def FVal.div : FVal → FVal → FVal
  | .nan, _ => .nan
  | _, .nan => .nan
  | .inf _, .inf _ => .nan
  | .inf a, .fin t _ _ => .inf (a != t)
  | .fin s _ _, .inf b => .fin (s != b) 0 0
  | .fin s m e, .fin t n g =>
    if n = 0 then (if m = 0 then .nan else .inf (s != t))
    else if m = 0 then .fin (s != t) 0 0
    else
      let k := 96 + Nat.log2 n
      let x := m * 2 ^ k
      .fin (s != t) (2 * (x / n) + (if x % n = 0 then 0 else 1)) (e - g - k - 1)

/-- Integer square root, bit by bit from bit `k` down. -/
def isqrtAux (n : Nat) : Nat → Nat → Nat
  | 0, r => r
  | k + 1, r => let t := r + 2 ^ k; isqrtAux n k (if t * t ≤ n then t else r)

def isqrt (n : Nat) : Nat := isqrtAux n (Nat.log2 n / 2 + 1) 0

/-- A square root with at least 64 significant bits and a sticky bit. -/
def FVal.sqrt : FVal → FVal
  | .nan => .nan
  | .inf s => if s then .nan else .inf false
  | .fin s m e =>
    if m = 0 then .fin s 0 0
    else if s then .nan
    else
      let k : Nat := if (e % 2) = 0 then 128 else 129
      let x := m * 2 ^ k
      let r := isqrt x
      .fin false (2 * r + (if r * r = x then 0 else 1)) ((e - k) / 2 - 1)

/-- Exact order of two numbers; none when either is NaN. Zeros compare equal. -/
def FVal.cmp : FVal → FVal → Option Ordering
  | .nan, _ => none
  | _, .nan => none
  | .inf a, .inf b => some (if a = b then .eq else if a then .lt else .gt)
  | .inf a, _ => some (if a then .lt else .gt)
  | _, .inf b => some (if b then .gt else .lt)
  | .fin s m e, .fin t n g =>
    let q := min e g
    some (compare (FVal.at q (.fin s m e)) (FVal.at q (.fin t n g)))

def FVal.lt (a b : FVal) : Bool := a.cmp b == some .lt
def FVal.eqv (a b : FVal) : Bool := a.cmp b == some .eq
def FVal.le (a b : FVal) : Bool := a.lt b || a.eqv b

def FVal.isNeg : FVal → Bool
  | .nan => false
  | .inf s => s
  | .fin s _ _ => s

/-- IEEE 754-2019 minimum (04 R127): NaN if either is NaN, -0 below +0. -/
def FVal.min (a b : FVal) : FVal :=
  if a.isNan || b.isNan then .nan else if a.lt b then a else if b.lt a then b else if a.isNeg then a else b

/-- IEEE 754-2019 maximum (04 R127). -/
def FVal.max (a b : FVal) : FVal :=
  if a.isNan || b.isNan then .nan else if b.lt a then a else if a.lt b then b else if a.isNeg then b else a

/-- Round to an integer and saturate between `lo` and `hi`; NaN gives 0 (04 R125, R128). -/
def FVal.toIntSat (m : Rnd) (lo hi : Int) : FVal → Int
  | .nan => 0
  | .inf s => if s then lo else hi
  | .fin s mag e =>
    let n : Int := (roundTo mag e 0 m).1
    let v := if s then -n else n
    if v < lo then lo else if hi < v then hi else v

/-- Floor of log2 of a non-zero finite magnitude. -/
def FVal.log2Floor : FVal → Int
  | .fin _ m e => (Nat.log2 m : Int) + e
  | _ => 0

def FVal.isZero : FVal → Bool
  | .fin _ m _ => m == 0
  | _ => false

/-- Flush a subnormal to zero of its sign (02 R72). -/
def flushSub (v : Nat) : Nat := if v / 2 ^ 23 % 256 = 0 then v / 2 ^ 31 % 2 * 2 ^ 31 else v

/-- The rounding of the LH4 (02 R72). -/
def lh4Round (v : FVal) : Nat := flushSub (fp32.enc .rne v)

/-! ## Block formats -/

/-- Significand width of a block format by its type code (02 Table 2, 04 Table 2): 4 MB8, 5 MB6, 6 MB4. -/
def mbWidth (t : Nat) : Nat := if t = 4 then 8 else if t = 5 then 6 else 4

/-- Block size. -/
def mbBlock (t : Nat) : Nat := if t = 6 then 16 else 32

/-- Bytes of the significand region of a group (02 Table 3). -/
def mbSigBytes (t : Nat) : Nat := 64 * mbWidth t

/-- Bytes of a storage group (02 Table 3). -/
def mbGroup (t : Nat) : Nat := mbSigBytes t + 512 / mbBlock t

def isBlock (t : Nat) : Bool := t == 4 || t == 5 || t == 6

/-- Element size of a type that is not a block format (04 Table 2). -/
def typeBytes (t : Nat) : Nat := if t = 1 ∨ t = 2 then 2 else if t = 7 then 16 else 4

/-- The IEEE layout of a type code. -/
def typeFmt (t : Nat) : Fmt := if t = 1 then bf16 else if t = 2 then fp16 else fp32

/-- The value of a significand with a block exponent; exponent 255 is NaN (02 R31). -/
def mbVal (sig : Int) (e : Nat) : FVal := if e = 255 then .nan else .ofInt sig ((e : Int) - 127)

/-- The significand of element `i` of a group's bytes (02 R34, R35). -/
def mbSig (t : Nat) (g : List Byte) (i : Nat) : Int :=
  if t = 4 then ((g.getD i 0).toInt)
  else
    let w := mbWidth t
    sint w ((List.range w).foldl (fun acc p => acc + 2 ^ p * ((g.getD (64 * p + i / 8) 0).toNat / 2 ^ (i % 8) % 2)) 0)

/-- The exponent of the block of element `i`. -/
def mbExp (t : Nat) (g : List Byte) (i : Nat) : Nat := (g.getD (mbSigBytes t + i / mbBlock t) 0).toNat

/-- One byte of a bit plane from eight significands. -/
def planeByte (p : Nat) (l : List Int) : Byte :=
  BitVec.ofNat 8 ((l.take 8).foldr (fun v acc => 2 * acc + uint 8 v / 2 ^ p % 2) 0)

/-- The bytes of a storage group from its 512 significands and its block exponents (02 R34, R35). -/
def mbPack (t : Nat) (sigs : List Int) (exps : List Nat) : List Byte :=
  let body := if t = 4 then sigs.map (fun v => BitVec.ofNat 8 (uint 8 v))
    else (List.range (mbWidth t)).flatMap (fun p => (chunks 8 sigs).map (planeByte p))
  body ++ exps.map (fun e => BitVec.ofNat 8 e)

/-- The largest magnitude of a list of finite values. -/
def maxMag : List FVal → FVal
  | [] => .zero
  | v :: r => let m := maxMag r; if m.lt v.abs then v.abs else m

/-- The block-maximum exponent before clamping (02 R65). -/
def ebm (w : Nat) (vals : List FVal) : Int :=
  let m := maxMag vals
  if m.isZero then 0 else m.log2Floor - (w - 2) + 127

/-- A block as written: significands, exponent, whether it overflowed (02 R66) or is a NaN block (02 R33). -/
structure BlockOut where
  sigs : List Int
  exp : Nat
  ovf : Bool
  nanBlock : Bool
  deriving DecidableEq, Repr

/-- One significand: rounded to the unit, clamped to the symmetric range (02 R32, R59, R65, R66); the flag is overflow. -/
def mbRound (w : Nat) (E : Nat) (m : Rnd) (v : FVal) : Int × Bool :=
  let lim : Nat := 2 ^ (w - 1) - 1
  match v with
  | .fin s mag e =>
    let q : Int := (E : Int) - 127
    let ovf := decide (2 ^ (w - 1) ≤ (roundTo mag e q .rtz).1)
    let n := if ovf then lim else min lim (roundTo mag e q m).1
    (if s then -(n : Int) else n, ovf)
  | _ => (0, false)

/-- Write a block under an exponent (02 R33, R65, R66); `modes` gives each element's rounding. -/
def mbBlockAt (w : Nat) (E : Nat) (vals : List (FVal × Rnd)) : BlockOut :=
  if vals.all (fun v => v.1.isFin) then
    let r := vals.map (fun v => mbRound w E v.2 v.1)
    { sigs := r.map Prod.fst, exp := E, ovf := r.any Prod.snd, nanBlock := false }
  else { sigs := vals.map (fun _ => 0), exp := 255, ovf := true, nanBlock := true }

/-- Clamp a block-maximum exponent to 0-254. -/
def clampE (e : Int) : Nat := if e < 0 then 0 else if 254 < e then 254 else e.toNat

/-- Write a block by the block-maximum recipe (02 R65). -/
def mbBlockMax (w : Nat) (vals : List (FVal × Rnd)) : BlockOut :=
  mbBlockAt w (clampE (ebm w (vals.map Prod.fst))) vals

/-- A whole group of 512 values (or fewer, padded under 02 R36) by the block-maximum recipe, and how many blocks overflowed. -/
def mbGroupMax (t : Nat) (vals : List (FVal × Rnd)) : List Byte × Nat :=
  let bs := (chunks (mbBlock t) vals).map (mbBlockMax (mbWidth t))
  let sigs := bs.flatMap (·.sigs)
  let exps := bs.map (·.exp)
  (mbPack t (sigs ++ List.replicate (512 - sigs.length) 0) (exps ++ List.replicate (512 / mbBlock t - exps.length) 0),
   (bs.filter (·.ovf)).length)

/-- The values of a group's first `n` elements. -/
def mbUnpack (t : Nat) (g : List Byte) (n : Nat) : List FVal :=
  (List.range n).map (fun i => mbVal (mbSig t g i) (mbExp t g i))

end Sys2Proof.Machine
end

