-- ==== Sys2Proof/Machine/Flags.lean ====
section
/-! DEFINITION. The flag and condition computations of the cores: branch conditions, scalar and vector compares, predicate logic
and the poison of results. -/

namespace Sys2Proof.Machine

/-- The condition of BR by FUNC (04 Table 5). -/
def brCond (f : Nat) (a b : Word) : Bool :=
  match f with
  | 0 => a == b
  | 1 => a != b
  | 2 => a.slt b
  | 3 => !a.slt b
  | 4 => a.ult b
  | _ => !a.ult b

/-- The condition of VCMP on numbers by FUNC (04 R127): NaN makes NE and UN true and every other condition false. -/
def cmpCond (f : Nat) (a b : FVal) : Bool :=
  match f, a.cmp b with
  | 1, none => true
  | 6, none => true
  | _, none => false
  | 0, some o => o == .eq
  | 1, some o => o != .eq
  | 2, some o => o == .lt
  | 3, some o => o != .gt
  | 4, some o => o == .gt
  | 5, some o => o != .lt
  | _, some _ => false

/-- The condition of VCMP on signed integers. -/
def cmpCondI (f : Nat) (a b : Int) : Bool :=
  match f with
  | 0 => a == b
  | 1 => a != b
  | 2 => decide (a < b)
  | 3 => decide (a ≤ b)
  | 4 => decide (b < a)
  | 5 => decide (b ≤ a)
  | _ => false

/-- PLOG by FUNC (04 Table 7). -/
def plogOp (f : Nat) (a b : BitVec 512) : BitVec 512 :=
  match f with
  | 0 => a &&& b
  | 1 => a ||| b
  | 2 => a ^^^ b
  | 3 => a &&& ~~~b
  | 4 => ~~~a
  | 5 => BitVec.allOnes 512
  | _ => 0

/-- Poison of a destination's segments: written segments take the poison of their sources, and a segment written only in part
keeps its own as well (03 R104). `touched` and `whole` say which segments have an active lane and only active lanes. -/
def segPoison (old src touched whole : BitVec 32) : BitVec 32 :=
  (old &&& ~~~whole) ||| (src &&& touched)

end Sys2Proof.Machine
end

