-- ==== Sys2Proof/Config.lean ====
section
/-! DEFINITION. The free values of the model and what one module fixes: constants without a body, of which nothing can be
evaluated or proved. Each is named in the assumption log. -/

namespace Sys2Proof.Config

/-- The n-th free value taken by a step (a random epoch or nonce, a count of time, a choice the spec leaves open). (log 9, DESIGN CHOICE; log 10, DESIGN CHOICE) -/
opaque freeValue : Nat → Nat

/-- What a byte of HBM holds after its contents were lost or re-assigned (06 R196, R205): by tag and address. (log 14, DESIGN CHOICE) -/
opaque freeHbmByte : Nat → Nat → Byte

/-- How the 768 granules of an aligned block of 192 KiB of the device-interleaved window reach the device's 768 pseudo-channels, one each, by block
(06 R198). (log 15, DESIGN CHOICE) -/
opaque deviceSpread : Nat → Equiv.Perm (Fin 768)

/-- The same for the 192 granules of a block of 48 KiB of a quarter's window and the quarter's pseudo-channels, by quarter and block. (log 15, DESIGN CHOICE) -/
opaque quarterSpread : Nat → Nat → Equiv.Perm (Fin 192)

/-- The same for the 64 granules of a block of 16 KiB of a stack and its pseudo-channels, by stack and block. (log 15, DESIGN CHOICE) -/
opaque stackSpread : Nat → Nat → Equiv.Perm (Fin 64)

/-- Where in the share of a stack each of its granules of an interleaved window lies (06 R196, R198): by D and Q in GiB and stack, for the
device-interleaved share and for the quarter-interleaved one, which has 2^22 granules of 256 bytes per GiB. (log 14, DESIGN CHOICE) -/
opaque devicePlacement (d q k : Nat) : Equiv.Perm (Fin (d * 4194304))
opaque quarterPlacement (d q k : Nat) : Equiv.Perm (Fin (q * 4194304))

/-- The hashes that place a line in a cache slice, its set and a combining slice of its quarter, by number of slices and line (06 R220, R221). (log 33, DESIGN CHOICE) -/
opaque cacheHash : Nat → Nat → Nat
opaque cacheSet : Nat → Nat
opaque combHash : Nat → Nat → Nat

/-- Whether a stack that wakes has been in self-refresh for more than 32,768 beats (14 R489). (log 27, DESIGN CHOICE) -/
opaque sleptLong : Nat → Bool

/-- Which of the lines that may leave a full cache set or a full adder buffer does so, by number of evictions (06 R221, R230). (log 33, DESIGN CHOICE) -/
opaque victim : Nat → Nat

/-- Whether, of two pairs of MAX_INDEX equal in value and index, the first comes from the lower rank, where the ring order does not tell (09 R336). (log 48, DESIGN CHOICE) -/
opaque tieLow : BitVec 128 → BitVec 128 → Bool

/-- The bytes of a BLOB member whose content the spec names but does not lay out, by object and content. (log 24, DESIGN CHOICE) -/
opaque layout : Nat → List Nat → List Byte

/-- What the device returns for a built-in table function or derivative where the bound of 03 R109 leaves a choice: slot, derivative, FP32
input. (log 17, DESIGN CHOICE) -/
opaque builtin : Nat → Bool → BitVec 32 → BitVec 32

/-- Serial number of the module, 16 characters (12 Table 14). (log 19, DESIGN CHOICE) -/
opaque serial : List Byte

/-- What the boot ROM holds (13 R461). (log 19, DESIGN CHOICE) -/
opaque rom : List Byte

/-- What the ROM reconstructs from the PUF SRAM with a copy of the helper data, and the check value stored with that copy, by copy (13 R462). (log 19, DESIGN CHOICE) -/
opaque pufSecret : Nat → List Byte
opaque helperCheck : Nat → List Byte

/-- The check of an HSS signature: public key, message, signature (13 R469). (log 19, DESIGN CHOICE) -/
opaque hssVerify : List Byte → List Byte → List Byte → Bool

/-- The check of an HSS signature under the key with a given SHA-256: key hash, message, signature (13 R473). (log 19, DESIGN CHOICE) -/
opaque ownerVerify : List Byte → List Byte → List Byte → Bool

/-- The device's HSS signature over a message at an index (13 R477). (log 19, DESIGN CHOICE) -/
opaque hssSign : Nat → List Byte → List Byte

/-- Kamober's root public key and the device's own HSS public key. (log 19, DESIGN CHOICE) -/
opaque kamoberKey : List Byte
opaque deviceKey : List Byte

/-- Kamober's endorsement key (13 R463, R473). -/
opaque endorsementKey : List Byte

/-- Kamober's endorsement record of the device key (13 R476). -/
opaque endorsement : List Byte

/-- The device's ML-KEM-768 encapsulation key, and decapsulation of a ciphertext (13 R474). -/
opaque mlkemKey : List Byte
opaque mlkemDecap : List Byte → List Byte

/-- AES-256-GCM decryption: key, nonce, associated data, ciphertext, tag; none when the tag fails (13 R474). (log 19, DESIGN CHOICE) -/
opaque aesGcmOpen : List Byte → List Byte → List Byte → List Byte → List Byte → Option (List Byte)

/-- AES-256-GCM encryption: key, nonce, associated data, plaintext; the ciphertext with its tag after it (13 R474). (log 19, DESIGN CHOICE) -/
opaque aesGcmSeal : List Byte → List Byte → List Byte → List Byte → List Byte

end Sys2Proof.Config
end

