-- ==== Sys2Proof/Machine/Crypto.lean ====
section
/-! DEFINITION. The check values of 07 Table 9, SHA-256 and HMAC (12 R451, 13), and the generator Threefry-2x64-20 (02 R60). -/

namespace Sys2Proof.Machine

/-- Reverse the low `n` bits. -/
def revBits (n v : Nat) : Nat := (List.range n).foldl (fun acc i => 2 * acc + v / 2 ^ i % 2) 0

/-- One bit of a most-significant-first CRC register of `w` bits. -/
def crcBit (w poly r : Nat) : Nat := if r / 2 ^ (w - 1) % 2 = 1 then (2 * r % 2 ^ w) ^^^ poly else 2 * r % 2 ^ w

def crcByte (w poly : Nat) (refl : Bool) (r : Nat) (b : Byte) : Nat :=
  let v := (if refl then revBits 8 b.toNat else b.toNat) * 2 ^ (w - 8)
  (List.range 8).foldl (fun r _ => crcBit w poly r) (r ^^^ v)

/-- Width, polynomial, initial value, reflection and final XOR of a check value (07 Table 9). -/
def crcParams (k : Nat) : Nat × Nat × Nat × Bool × Nat :=
  if k = 0 then (32, 0x04C11DB7, 0xFFFFFFFF, true, 0xFFFFFFFF)
  else if k = 1 then (32, 0x1EDC6F41, 0xFFFFFFFF, true, 0xFFFFFFFF)
  else (64, 0x42F0E1EBA9EA3693, 0, false, 0)

/-- The register of a check value (07 R262, CONTINUE). -/
def crcResume (k v : Nat) : Nat :=
  let p := crcParams k
  let x := v ^^^ p.2.2.2.2
  if p.2.2.2.1 then revBits p.1 x else x

def crcFinish (k r : Nat) : Nat :=
  let p := crcParams k
  (if p.2.2.2.1 then revBits p.1 r else r) ^^^ p.2.2.2.2

/-- The check value of bytes that follow those of an earlier value. -/
def crcFrom (k v : Nat) (bs : List Byte) : Nat :=
  let p := crcParams k
  crcFinish k (bs.foldl (crcByte p.1 p.2.1 p.2.2.2.1) (crcResume k v))

/-- The check value of bytes (07 Table 9): 0 CRC-32, 1 CRC-32C, 2 CRC-64. -/
def crc (k : Nat) (bs : List Byte) : Nat :=
  let p := crcParams k
  crcFinish k (bs.foldl (crcByte p.1 p.2.1 p.2.2.2.1) p.2.2.1)

def crc32c (bs : List Byte) : Nat := crc 1 bs

def crc64 (bs : List Byte) : Nat := crc 2 bs

/-- Multiply a CRC register by x modulo the polynomial, `n` bits of zeros, by squaring (07 R264): the fuel bounds the bits of `n`. -/
def gfMul (w poly a b : Nat) : Nat :=
  (List.range w).foldl (fun acc i => let s := crcBit w poly acc; if b / 2 ^ (w - 1 - i) % 2 = 1 then s ^^^ a else s) 0

def gfPowAux (w poly : Nat) : Nat → Nat → Nat → Nat → Nat
  | 0, _, _, acc => acc
  | f + 1, n, base, acc => gfPowAux w poly f (n / 2) (gfMul w poly base base) (if n % 2 = 1 then gfMul w poly acc base else acc)

/-- x^(8 n) modulo the polynomial. -/
def gfShift (w poly n : Nat) : Nat := gfPowAux w poly (Nat.log2 (8 * n) + 1) (8 * n) 2 1

/-- The check value of two byte strings one after the other, from their values and the second's length (07 R264). -/
def crcCombine (k v1 v2 len2 : Nat) : Nat :=
  let p := crcParams k
  let init := p.2.2.1
  let r1 := crcResume k v1
  let r2 := crcResume k v2
  crcFinish k (gfMul p.1 p.2.1 (r1 ^^^ init) (gfShift p.1 p.2.1 len2) ^^^ r2)

/-! ## SHA-256 -/

abbrev W32 := BitVec 32

def rotr (x : W32) (n : Nat) : W32 := (x >>> n) ||| (x <<< (32 - n))

/-- Floor of the `e`-th root of `n`, bit by bit from bit `k` down. -/
def rootAux (e n : Nat) : Nat → Nat → Nat
  | 0, r => r
  | k + 1, r => rootAux e n k (if (r + 2 ^ k) ^ e ≤ n then r + 2 ^ k else r)

/-- The first 32 bits of the fraction of the `e`-th root of a number below 1,024: SHA-256 takes its constants from roots of primes. -/
def rootFraction (e p : Nat) : W32 := BitVec.ofNat 32 (rootAux e (p * 2 ^ (32 * e)) 37 0)

/-- The primes up to 311, which are 64. -/
def shaPrimes : List Nat := ((List.range 310).map (· + 2)).filter (fun n => (List.range 16).all (fun d => n % (d + 2) != 0 || n == d + 2))

/-- The round constants: cube roots. -/
def shaK : List W32 := shaPrimes.map (rootFraction 3)

/-- The start value: square roots. -/
def shaH0 : List W32 := (shaPrimes.take 8).map (rootFraction 2)

def beNat (bs : List Byte) : Nat := bs.foldl (fun acc b => 256 * acc + b.toNat) 0

/-- The exclusive OR of a word turned right by two amounts and turned or shifted right by a third. -/
def sigma (shift : Bool) (n : Nat × Nat × Nat) (x : W32) : W32 :=
  rotr x n.1 ^^^ rotr x n.2.1 ^^^ (if shift then x >>> n.2.2 else rotr x n.2.2)

/-- The next word of the message schedule from the 16 before it, newest first. -/
def nextWord (w : List W32) : W32 :=
  let at_ := fun i => w.getD (i - 1) 0
  at_ 16 + sigma true (7, 18, 3) (at_ 15) + at_ 7 + sigma true (17, 19, 10) (at_ 2)

/-- The words of the schedule still to be used, `n` of them, from the last 16, newest first. -/
def shaWords : Nat → List W32 → List W32
  | 0, w => w.reverse
  | n + 1, w => let o := w.reverse
    match o with
    | [] => []
    | x :: _ => x :: shaWords n (nextWord w :: w.take 15)

/-- The eight working words as two halves of four. -/
structure ShaState where
  a : Vector W32 4
  e : Vector W32 4
  deriving DecidableEq, Repr

/-- A word enters the top of a half, whose last word leaves. -/
def pushWord (x : W32) (v : Vector W32 4) : Vector W32 4 := #v[x, v[0], v[1], v[2]]

/-- Bits of the second word where the first is 1, of the third where it is 0; and the majority of three words. -/
def choose (x y z : W32) : W32 := z ^^^ (x &&& (y ^^^ z))
def majority (x y z : W32) : W32 := (x &&& (y ||| z)) ||| (y &&& z)

/-- One round, with the sum of its constant and its word. -/
def shaRound (s : ShaState) (kw : W32) : ShaState :=
  let t := s.e[3] + sigma false (6, 11, 25) s.e[0] + choose s.e[0] s.e[1] s.e[2] + kw
  { e := pushWord (s.a[3] + t) s.e, a := pushWord (t + sigma false (2, 13, 22) s.a[0] + majority s.a[0] s.a[1] s.a[2]) s.a }

/-- One block of 64 bytes. -/
def shaBlock (s : ShaState) (blk : List Byte) : ShaState :=
  let ws := shaWords 48 ((chunks 4 blk).map (fun b => BitVec.ofNat 32 (beNat b))).reverse
  let r := (List.zipWith (· + ·) shaK ws).foldl shaRound s
  { a := Vector.zipWith (· + ·) s.a r.a, e := Vector.zipWith (· + ·) s.e r.e }

def ShaState.start : ShaState :=
  let h := fun (i : Nat) => shaH0.getD i 0
  { a := Vector.ofFn (fun i => h i.val), e := Vector.ofFn (fun i => h (4 + i.val)) }

def beBytes (n v : Nat) : List Byte := (leBytes v n).reverse

/-- SHA-256. -/
def sha256 (m : List Byte) : List Byte :=
  let z := (119 - m.length % 64) % 64
  let padded := m ++ [0x80] ++ List.replicate z 0 ++ beBytes 8 (8 * m.length)
  let r := (chunks 64 padded).foldl shaBlock .start
  (r.a ++ r.e).toList.flatMap (fun w => beBytes 4 w.toNat)

/-- HMAC-SHA-256. -/
def hmac256 (key m : List Byte) : List Byte :=
  let k0 := if 64 < key.length then sha256 key else key
  let k := k0 ++ List.replicate (64 - k0.length) 0
  sha256 (k.map (· ^^^ 0x5c) ++ sha256 (k.map (· ^^^ 0x36) ++ m))

/-! ## The stochastic generator -/

def rotl64 (x : Word) (n : Nat) : Word := (x <<< n) ||| (x >>> (64 - n))

/-- Threefry-2x64 with 20 rounds (02 R60); its constants are those of the Random123 library. (log 18, PRESUMED) -/
def threefry (k0 k1 c0 c1 : Word) : Word × Word :=
  let k2 : Word := k0 ^^^ k1 ^^^ 0x1BD11BDAA9FC1A22
  let ks := [k0, k1, k2]
  (List.range 20).foldl (fun x i =>
    let a := x.1 + x.2
    let b := rotl64 x.2 ([16, 42, 12, 31, 16, 32, 24, 21].getD (i % 8) 0) ^^^ a
    if i % 4 = 3 then
      let j := i / 4 + 1
      (a + ks.getD (j % 3) 0, b + ks.getD ((j + 1) % 3) 0 + BitVec.ofNat 64 j)
    else (a, b)) (c0 + k0, c1 + k1)

/-- The 16-bit random value of an element (02 R60, Table 10). (log 18, PRESUMED) -/
def rand16 (step salt tensor phase domain elem : Nat) : Nat :=
  let o := threefry (BitVec.ofNat 64 step) (BitVec.ofNat 64 (salt % 2 ^ 32 * 2 ^ 32 + tensor % 2 ^ 32))
    (BitVec.ofNat 64 (elem % 2 ^ 64 / 8)) (BitVec.ofNat 64 (phase % 2 ^ 16 * 2 ^ 16 + domain))
  let lane := elem % 8
  (if lane < 4 then o.1.toNat / 2 ^ (16 * lane) else o.2.toNat / 2 ^ (16 * (lane - 4))) % 2 ^ 16

end Sys2Proof.Machine
end

