-- ==== Sys2Proof/Machine/Dict.lean ====
section
/-! DEFINITION. The Fynen object dictionary (12 R458 and the object tables of every chapter): one row per member or family of
members, with its type, access right, default, stated range, units and name. -/

namespace Sys2Proof.Machine

/-- A row of the dictionary. `type` and `access` are the codes of 12 Tables 10 and 11; `lo` and `hi` bound a write. -/
structure DictRow where
  obj : Nat
  memLo : Nat
  memHi : Nat
  type : Nat
  access : Nat
  dflt : Nat
  lo : Nat
  hi : Nat
  ranged : Bool
  blobLen : Nat
  units : String
  name : String
  deriving DecidableEq, Repr

/-- Objects 0x1000 to 0x10FF, part 0. -/
def dict10_0 : List DictRow := [
  ⟨0x1000, 0, 0, 9, 0, 0, 0, 0, false, 16, "", "Vendor Kamober"⟩,
  ⟨0x1000, 1, 1, 9, 0, 0, 0, 0, false, 16, "", "family Oreiska LH8"⟩,
  ⟨0x1000, 2, 2, 9, 0, 0, 0, 0, false, 16, "", "ordering code KMB-LH8-768L"⟩,
  ⟨0x1000, 3, 3, 9, 0, 0, 0, 0, false, 16, "", "development name Lenheup"⟩,
  ⟨0x1000, 4, 4, 9, 0, 0, 0, 0, false, 16, "", "Serial number, 16 characters"⟩,
  ⟨0x1000, 5, 5, 3, 0, 256, 0, 65535, false, 0, "", "Module revision"⟩,
  ⟨0x1000, 6, 6, 3, 0, 8094, 0, 65535, false, 0, "", "PCI Vendor ID, Device ID"⟩,
  ⟨0x1000, 7, 7, 3, 0, 384, 0, 65535, false, 0, "", "PCI Vendor ID, Device ID"⟩,
  ⟨0x1000, 8, 8, 3, 0, 1, 0, 65535, false, 0, "", "Fynen protocol version"⟩,
  ⟨0x1000, 9, 9, 9, 4, 0, 0, 0, false, 32, "", "Asset tag, 0-32 characters"⟩,
  ⟨0x1010, 0, 0, 2, 0, 0, 0, 255, false, 0, "", "Device state, Table 8"⟩,
  ⟨0x1010, 1, 1, 2, 3, 0, 1, 3, true, 0, "", "State request"⟩,
  ⟨0x1010, 2, 2, 4, 1, 10000, 1, 600000, true, 0, "ms", "Drain timeout (firmware policy),"⟩,
  ⟨0x1010, 3, 3, 2, 4, 2, 1, 2, true, 0, "", "Power-on target"⟩,
  ⟨0x1010, 4, 4, 3, 0, 0, 0, 65535, false, 0, "", "Cause of the last FAULT"⟩,
  ⟨0x1010, 5, 5, 2, 3, 0, 1, 1, true, 0, "", "Seal the configuration"⟩,
  ⟨0x1010, 6, 6, 1, 0, 0, 0, 1, false, 0, "", "Configuration sealed"⟩,
  ⟨0x1010, 7, 7, 5, 0, 0, 0, 18446744073709551615, false, 0, "beats", "Beats since power-on"⟩,
  ⟨0x1010, 8, 8, 5, 0, 0, 0, 18446744073709551615, false, 0, "changes", "State changes"⟩,
  ⟨0x1011, 0, 0, 10, 0, 0, 0, 0, false, 32768, "", "Event log, 1,024 records"⟩,
  ⟨0x1011, 1, 1, 5, 0, 0, 0, 18446744073709551615, false, 0, "", "Newest event sequence"⟩,
  ⟨0x1011, 2, 2, 5, 0, 0, 0, 18446744073709551615, false, 0, "events", "EVENT messages never acknowledge"⟩,
  ⟨0x1020, 0, 0, 3, 0, 64, 0, 65535, false, 0, "GiB", "BAR2 size"⟩,
  ⟨0x1020, 1, 1, 5, 2, 0, 0, 18446744073709551615, false, 0, "bytes", "BAR2 base B"⟩,
  ⟨0x1020, 2, 2, 2, 0, 8, 0, 255, false, 0, "lanes", "Link width"⟩,
  ⟨0x1020, 3, 3, 2, 0, 128, 0, 255, false, 0, "GT/s", "link rate"⟩,
  ⟨0x1020, 4, 4, 5, 0, 0, 0, 18446744073709551615, false, 0, "writes", "BAR writes discarded"⟩,
  ⟨0x1020, 5, 5, 5, 0, 0, 0, 18446744073709551615, false, 0, "writes", "Doorbell, CONTROL, COMP_HEAD and"⟩,
  ⟨0x1021, 0, 63, 10, 1, 0, 0, 0, false, 64, "", "Configuration of stream s, Table"⟩,
  ⟨0x1022, 0, 63, 1, 1, 0, 0, 1, false, 0, "", "Enable of stream s"⟩]

/-- Objects 0x1000 to 0x10FF, part 1. -/
def dict10_1 : List DictRow := [
  ⟨0x1023, 0, 7, 2, 0, 0, 0, 255, false, 0, "", "State of job j: 0 FREE, 1 ACTIVE"⟩,
  ⟨0x1024, 0, 7, 3, 0, 0, 0, 65535, false, 0, "", "Cause of the last stop of job j"⟩,
  ⟨0x1025, 0, 7, 2, 3, 0, 1, 2, true, 0, "", "Job command: 1 STOP, 2 RELEASE"⟩,
  ⟨0x1030, 0, 0, 2, 0, 0, 0, 255, false, 0, "", "PLCA node"⟩,
  ⟨0x1030, 1, 1, 10, 0, 0, 0, 0, false, 6, "", "MAC address"⟩,
  ⟨0x1030, 2, 2, 3, 0, 23118, 0, 65535, false, 0, "", "UDP port"⟩,
  ⟨0x1030, 3, 3, 2, 0, 0, 0, 255, false, 0, "", "Keys installed"⟩,
  ⟨0x1030, 4, 4, 5, 0, 0, 0, 18446744073709551615, false, 0, "", "Session epoch"⟩,
  ⟨0x1030, 5, 5, 5, 0, 0, 0, 18446744073709551615, false, 0, "requests", "Requests served"⟩,
  ⟨0x1030, 6, 6, 5, 0, 0, 0, 18446744073709551615, false, 0, "requests", "requests failing R451"⟩]

/-- Objects 0x1100 to 0x11FF, part 0. -/
def dict11_0 : List DictRow := [
  ⟨0x1100, 0, 0, 3, 0, 0, 0, 65535, false, 0, "", "Boot status"⟩,
  ⟨0x1100, 1, 1, 2, 0, 255, 0, 255, false, 0, "", "Booted slot"⟩,
  ⟨0x1100, 2, 2, 3, 0, 1, 0, 65535, false, 0, "", "ROM version"⟩,
  ⟨0x1100, 3, 3, 5, 0, 0, 0, 18446744073709551615, false, 0, "boots", "Boot count"⟩,
  ⟨0x1100, 4, 4, 2, 0, 0, 0, 255, false, 0, "", "Helper data copy used, 1 or 2"⟩,
  ⟨0x1101, 0, 0, 2, 0, 0, 0, 255, false, 0, "", "Owner state"⟩,
  ⟨0x1101, 1, 1, 10, 0, 0, 0, 0, false, 32, "", "Owner key hash"⟩,
  ⟨0x1101, 2, 2, 1, 0, 0, 0, 1, false, 0, "", "REQUIRE_OWNER"⟩,
  ⟨0x1101, 3, 3, 10, 0, 0, 0, 0, false, 32, "", "Device nonce"⟩,
  ⟨0x1101, 4, 4, 10, 3, 0, 0, 0, false, 8192, "", "Ownership request, Table 5"⟩,
  ⟨0x1102, 0, 0, 10, 3, 0, 0, 0, false, 8192, "", "Key install record (R474)"⟩,
  ⟨0x1102, 1, 1, 10, 0, 0, 0, 0, false, 16, "", "Key fingerprints"⟩,
  ⟨0x1110, 0, 0, 10, 0, 0, 0, 0, false, 1280, "", "Header of slot A, slot B, bytes "⟩,
  ⟨0x1110, 1, 1, 10, 0, 0, 0, 0, false, 1280, "", "Header of slot A, slot B, bytes "⟩,
  ⟨0x1110, 2, 2, 2, 3, 0, 0, 1, true, 0, "", "Open write session"⟩,
  ⟨0x1110, 3, 3, 4, 0, 0, 0, 4294967295, false, 0, "bytes", "Write offset"⟩,
  ⟨0x1110, 4, 4, 10, 3, 0, 0, 0, false, 1024, "", "Slot data, 4-1,024 bytes"⟩,
  ⟨0x1110, 5, 5, 2, 3, 0, 1, 1, true, 0, "", "Commit"⟩,
  ⟨0x1110, 6, 6, 2, 0, 0, 0, 255, false, 0, "", "State of slot A, slot B: 0 INVAL"⟩,
  ⟨0x1110, 7, 7, 2, 0, 0, 0, 255, false, 0, "", "State of slot A, slot B: 0 INVAL"⟩,
  ⟨0x1110, 8, 8, 3, 0, 0, 0, 65535, false, 0, "", "Code of the last failed commit"⟩,
  ⟨0x1110, 9, 9, 4, 0, 0, 0, 4294967295, false, 0, "", "Stored SVN"⟩,
  ⟨0x1110, 10, 10, 2, 0, 0, 0, 255, false, 0, "tries", "Tries left for the pending slot"⟩,
  ⟨0x1120, 0, 0, 10, 3, 0, 0, 0, false, 32, "", "Attestation nonce, 32 bytes"⟩,
  ⟨0x1120, 1, 1, 10, 0, 0, 0, 0, false, 5620, "", "Attestation report, Table 7"⟩,
  ⟨0x1120, 2, 2, 5, 0, 0, 0, 18446744073709551615, false, 0, "signatures", "HSS signatures remaining"⟩,
  ⟨0x1120, 3, 3, 10, 0, 0, 0, 0, false, 60, "", "Device HSS public key, 60 bytes"⟩,
  ⟨0x1120, 4, 4, 10, 0, 0, 0, 0, false, 1024, "", "Kamober endorsement record"⟩,
  ⟨0x1120, 5, 5, 10, 0, 0, 0, 0, false, 1184, "", "ML-KEM-768 encapsulation key, 1,"⟩,
  ⟨0x1120, 6, 6, 10, 0, 0, 0, 0, false, 160, "", "Measurements M0-M4"⟩]

/-- Objects 0x1100 to 0x11FF, part 1. -/
def dict11_1 : List DictRow := [
  ⟨0x1120, 7, 7, 5, 0, 0, 0, 18446744073709551615, false, 0, "reports", "Reports signed"⟩]

/-- Objects 0x2000 to 0x20FF, part 0. -/
def dict20_0 : List DictRow := [
  ⟨0x2000, 0, 0, 3, 0, 1, 0, 65535, false, 0, "", "Geometry layout version"⟩,
  ⟨0x2000, 1, 1, 3, 0, 10, 0, 65535, false, 0, "objects", "Number of geometry objects, incl"⟩,
  ⟨0x2001, 0, 0, 2, 0, 4, 0, 255, false, 0, "per device", "Quarters"⟩,
  ⟨0x2001, 1, 1, 2, 0, 36, 0, 255, false, 0, "per quarter", "Logical cores"⟩,
  ⟨0x2001, 2, 2, 2, 0, 40, 0, 255, false, 0, "per quarter", "Physical cores"⟩,
  ⟨0x2001, 3, 3, 3, 0, 144, 0, 65535, false, 0, "per device", "Logical cores"⟩,
  ⟨0x2002, 0, 0, 3, 0, 256, 0, 65535, false, 0, "cells", "Array rows"⟩,
  ⟨0x2002, 1, 1, 3, 0, 256, 0, 65535, false, 0, "cells", "Array columns"⟩,
  ⟨0x2002, 2, 2, 3, 0, 1024, 0, 65535, false, 0, "rows", "Largest logical tile M"⟩,
  ⟨0x2002, 3, 3, 3, 0, 1024, 0, 65535, false, 0, "columns", "Largest logical tile N"⟩,
  ⟨0x2002, 4, 4, 4, 0, 131072, 0, 4294967295, false, 0, "per core", "Accumulator entries"⟩,
  ⟨0x2002, 5, 5, 2, 0, 80, 0, 255, false, 0, "bits", "Exact accumulator width"⟩,
  ⟨0x2002, 6, 6, 2, 0, 40, 0, 255, false, 0, "bits", "Compact accumulator width"⟩,
  ⟨0x2003, 0, 0, 3, 0, 512, 0, 65535, false, 0, "per core", "Vector lanes, FP32"⟩,
  ⟨0x2003, 1, 1, 2, 0, 4, 0, 255, false, 0, "instructions per", "Scalar issue width"⟩,
  ⟨0x2003, 2, 2, 4, 0, 4194304, 0, 4294967295, false, 0, "bytes per core", "Local memory"⟩,
  ⟨0x2003, 3, 3, 2, 0, 64, 0, 255, false, 0, "per core", "Local memory banks"⟩,
  ⟨0x2003, 4, 4, 4, 0, 65536, 0, 4294967295, false, 0, "bytes per core", "Row-engine side memory"⟩,
  ⟨0x2003, 5, 5, 2, 0, 2, 0, 255, false, 0, "per core", "DMA engines"⟩,
  ⟨0x2004, 0, 0, 2, 0, 32, 0, 255, false, 0, "per quarter", "Tun slices"⟩,
  ⟨0x2004, 1, 1, 4, 0, 6291456, 0, 4294967295, false, 0, "bytes", "Tun slice size"⟩,
  ⟨0x2004, 2, 2, 3, 0, 256, 0, 65535, false, 0, "bytes per cycle", "Tun slice width"⟩,
  ⟨0x2005, 0, 0, 2, 0, 12, 0, 255, false, 0, "per device", "HBM stacks"⟩,
  ⟨0x2005, 1, 1, 2, 0, 3, 0, 255, false, 0, "per quarter", "HBM stacks"⟩,
  ⟨0x2005, 2, 2, 5, 0, 68719476736, 0, 18446744073709551615, false, 0, "bytes", "Stack capacity"⟩,
  ⟨0x2005, 3, 3, 2, 0, 32, 0, 255, false, 0, "per stack", "Channels"⟩,
  ⟨0x2005, 4, 4, 2, 0, 2, 0, 255, false, 0, "per channel", "Pseudo-channels"⟩,
  ⟨0x2005, 5, 5, 2, 0, 32, 0, 255, false, 0, "pins", "Pseudo-channel data width"⟩,
  ⟨0x2005, 6, 6, 4, 0, 10000, 0, 4294967295, false, 0, "Mbit/s per pin", "Data rate"⟩,
  ⟨0x2005, 7, 7, 2, 0, 16, 0, 255, false, 0, "per stack", "Spare data lanes"⟩]

/-- Objects 0x2000 to 0x20FF, part 1. -/
def dict20_1 : List DictRow := [
  ⟨0x2006, 0, 0, 2, 0, 12, 0, 255, false, 0, "per device", "Fabric ports"⟩,
  ⟨0x2006, 1, 1, 2, 0, 8, 0, 255, false, 0, "per device", "Floor ports"⟩,
  ⟨0x2006, 2, 2, 2, 0, 9, 0, 255, false, 0, "per port", "Lane pairs"⟩,
  ⟨0x2006, 3, 3, 2, 0, 8, 0, 255, false, 0, "per port", "Active lanes"⟩,
  ⟨0x2006, 4, 4, 3, 0, 400, 0, 65535, false, 0, "Gbit/s", "Lane rate"⟩,
  ⟨0x2006, 5, 5, 2, 0, 17, 0, 255, false, 0, "bits", "Endpoint address width"⟩,
  ⟨0x2006, 6, 6, 3, 0, 256, 0, 65535, false, 0, "devices", "Devices per floor"⟩,
  ⟨0x2007, 0, 0, 2, 0, 1, 0, 255, false, 0, "per quarter", "Collective engines"⟩,
  ⟨0x2007, 1, 1, 2, 0, 3, 0, 255, false, 0, "per quarter", "Kiln datapaths"⟩,
  ⟨0x2007, 2, 2, 2, 0, 1, 0, 255, false, 0, "per quarter", "Grist engines"⟩,
  ⟨0x2007, 3, 3, 2, 0, 1, 0, 255, false, 0, "per quarter", "Control cores"⟩,
  ⟨0x2008, 0, 0, 4, 0, 65536, 0, 4294967295, false, 0, "per device", "Sync counters"⟩,
  ⟨0x2008, 1, 1, 3, 0, 256, 0, 65535, false, 0, "per device", "Barrier slots"⟩,
  ⟨0x2008, 2, 2, 2, 0, 64, 0, 255, false, 0, "per device", "Streams"⟩,
  ⟨0x2008, 3, 3, 2, 0, 8, 0, 255, false, 0, "per device", "Jobs"⟩,
  ⟨0x2008, 4, 4, 3, 0, 256, 0, 65535, false, 0, "per device", "MSI-X vectors"⟩,
  ⟨0x2009, 0, 0, 4, 0, 1700000, 0, 4294967295, false, 0, "kHz", "Core clock"⟩,
  ⟨0x2009, 1, 1, 4, 0, 850000, 0, 4294967295, false, 0, "kHz", "Arithmetic clock"⟩,
  ⟨0x2009, 2, 2, 4, 0, 32768, 0, 4294967295, false, 0, "Hz", "Hairspring clock"⟩,
  ⟨0x2009, 3, 3, 4, 0, 48000, 0, 4294967295, false, 0, "kHz", "Management core clock"⟩,
  ⟨0x2009, 4, 4, 3, 0, 20, 0, 65535, false, 0, "us", "Core PLL lock time"⟩]

/-- Objects 0x3100 to 0x31FF, part 0. -/
def dict31_0 : List DictRow := [
  ⟨0x3100, 0, 0, 4, 2, 0, 0, 4294967295, false, 0, "", "Rounding salt"⟩,
  ⟨0x3100, 1, 1, 2, 0, 1, 0, 255, false, 0, "", "Generator identifier (1 = Threef"⟩,
  ⟨0x3101, 0, 0, 2, 2, 0, 0, 255, false, 0, "", "LH4 compatibility job mask, bit "⟩,
  ⟨0x3102, 0, 0, 2, 1, 1, 0, 1, true, 0, "", "Block-overflow policy (firmware "⟩,
  ⟨0x3102, 1, 1, 2, 1, 2, 0, 8, true, 0, "replays", "Overflow replay limit (firmware "⟩,
  ⟨0x3103, 0, 0, 5, 0, 0, 0, 18446744073709551615, false, 0, "blocks", "Block overflows"⟩,
  ⟨0x3103, 1, 1, 5, 0, 0, 0, 18446744073709551615, false, 0, "outputs", "Exact-mode outputs with spill se"⟩,
  ⟨0x3103, 2, 2, 5, 0, 0, 0, 18446744073709551615, false, 0, "outputs", "Compact-40 outputs with spill se"⟩,
  ⟨0x3103, 3, 3, 5, 0, 0, 0, 18446744073709551615, false, 0, "blocks or elemen", "Conversion overflows"⟩,
  ⟨0x3103, 4, 4, 5, 0, 0, 0, 18446744073709551615, false, 0, "steps", "Steps committed with saturated b"⟩,
  ⟨0x3103, 5, 5, 5, 0, 0, 0, 18446744073709551615, false, 0, "outputs", "Combinations written NaN because"⟩,
  ⟨0x3110, 0, 0, 2, 2, 0, 0, 255, false, 0, "", "Debug job mask, bit j = job j"⟩,
  ⟨0x3110, 1, 1, 3, 0, 1, 0, 65535, false, 0, "", "Built-in table set version"⟩,
  ⟨0x3110, 2, 2, 3, 0, 1024, 0, 65535, false, 0, "values of k per ", "Anchor network depth"⟩,
  ⟨0x3110, 3, 3, 3, 0, 520, 0, 65535, false, 0, "array cycles", "Array drain latency D"⟩,
  ⟨0x3110, 4, 4, 2, 3, 0, 0, 255, false, 0, "", "Resume a core halted at BRK (R15"⟩,
  ⟨0x3110, 5, 5, 10, 0, 0, 0, 0, false, 18, "", "Cores halted at BRK, bit n = cn"⟩,
  ⟨0x3120, 0, 0, 3, 0, 128, 0, 65535, false, 0, "elements per cyc", "Kiln rate"⟩,
  ⟨0x3120, 1, 1, 3, 0, 4096, 0, 65535, false, 0, "per datapath per", "Range table entries"⟩,
  ⟨0x3120, 2, 2, 2, 1, 1, 0, 1, true, 0, "", "Non-finite element policy (firmw"⟩,
  ⟨0x3120, 3, 3, 5, 0, 0, 0, 18446744073709551615, false, 0, "elements", "Remainder clamps"⟩,
  ⟨0x3120, 4, 4, 5, 0, 0, 0, 18446744073709551615, false, 0, "elements", "Non-finite elements"⟩,
  ⟨0x3120, 5, 5, 5, 0, 0, 0, 18446744073709551615, false, 0, "commands", "Kiln commands rejected"⟩,
  ⟨0x3121, 0, 0, 1, 1, 1, 0, 1, false, 0, "", "Bound test enable (firmware poli"⟩,
  ⟨0x3121, 1, 1, 8, 1, 1040187392, 1, 2139095039, true, 0, "", "RHO_MAX (firmware policy), finit"⟩,
  ⟨0x3121, 2, 2, 8, 1, 1031798784, 981467136, 1065353216, true, 0, "", "Trend weight alpha (firmware pol"⟩,
  ⟨0x3121, 3, 3, 8, 1, 1065353216, 1040187392, 1098907648, true, 0, "binades", "Trend band (firmware policy), 0."⟩,
  ⟨0x3121, 4, 4, 2, 1, 4, 1, 64, true, 0, "steps", "Trend steps (firmware policy), 1"⟩,
  ⟨0x3121, 5, 5, 3, 1, 64, 0, 65535, true, 0, "steps", "Trend warm-up (firmware policy),"⟩,
  ⟨0x3121, 6, 6, 3, 0, 1024, 0, 65535, false, 0, "per quarter", "Ratio entries"⟩]

/-- Objects 0x3100 to 0x31FF, part 1. -/
def dict31_1 : List DictRow := [
  ⟨0x3121, 7, 7, 5, 0, 0, 0, 18446744073709551615, false, 0, "entries", "Bound-test failures"⟩,
  ⟨0x3121, 8, 8, 5, 0, 0, 0, 18446744073709551615, false, 0, "alarms", "Trend alarms"⟩,
  ⟨0x3121, 9, 9, 5, 0, 0, 0, 18446744073709551615, false, 0, "entries", "Entries skipped with zero weight"⟩]

/-- Objects 0x3200 to 0x32FF, part 0. -/
def dict32_0 : List DictRow := [
  ⟨0x3200, 0, 0, 2, 1, 2, 0, 2, true, 0, "", "Checking profile (firmware polic"⟩,
  ⟨0x3200, 1, 1, 2, 1, 32, 8, 64, true, 0, "tiles", "Assay divisor (firmware policy)"⟩,
  ⟨0x3200, 2, 2, 2, 1, 1, 1, 3, true, 0, "quarters", "Assay core offset (firmware poli"⟩,
  ⟨0x3200, 3, 3, 1, 1, 0, 0, 1, false, 0, "", "Wide comparison enable (firmware"⟩,
  ⟨0x3200, 4, 4, 8, 1, 1015021568, 897581056, 1065353216, true, 0, "", "Wide disagreement threshold (fir"⟩,
  ⟨0x3201, 0, 0, 2, 2, 0, 0, 7, true, 0, "", "Gated job, 0-7"⟩,
  ⟨0x3201, 1, 1, 2, 0, 0, 0, 255, false, 0, "", "Escapement phase, Table 3"⟩,
  ⟨0x3201, 2, 2, 5, 0, 0, 0, 18446744073709551615, false, 0, "", "Last committed step"⟩,
  ⟨0x3201, 3, 3, 3, 1, 20, 1, 1000, true, 0, "ms", "Check deadline (firmware policy)"⟩,
  ⟨0x3201, 4, 4, 3, 1, 30, 1, 600, true, 0, "s", "Vote timeout (firmware policy), "⟩,
  ⟨0x3201, 5, 5, 2, 1, 4, 2, 8, true, 0, "runs", "Runs per step (firmware policy),"⟩,
  ⟨0x3201, 6, 6, 2, 1, 2, 0, 4, true, 0, "replays", "Group replays per step (firmware"⟩,
  ⟨0x3201, 7, 7, 1, 1, 1, 0, 1, false, 0, "", "Partner replay (firmware policy)"⟩,
  ⟨0x3201, 8, 8, 2, 0, 0, 0, 255, false, 0, "", "Current run"⟩,
  ⟨0x3201, 9, 9, 3, 1, 8, 1, 1024, true, 0, "steps", "Epoch clearance steps H (firmwar"⟩,
  ⟨0x3202, 0, 0, 3, 2, 2752, 256, 8192, true, 0, "MiB", "Ledger share per stack, 256-8,19"⟩,
  ⟨0x3202, 1, 1, 4, 0, 0, 0, 4294967295, false, 0, "MiB", "Ledger use in the last step, lar"⟩,
  ⟨0x3203, 1, 1, 2, 1, 1, 0, 3, true, 0, "", "Action for the reason of Table 6"⟩,
  ⟨0x3203, 2, 2, 2, 1, 1, 0, 3, true, 0, "", "Action for the reason of Table 6"⟩,
  ⟨0x3203, 5, 5, 2, 1, 1, 0, 3, true, 0, "", "Action for the reason of Table 6"⟩,
  ⟨0x3203, 6, 6, 2, 1, 1, 0, 3, true, 0, "", "Action for the reason of Table 6"⟩,
  ⟨0x3203, 7, 7, 2, 1, 0, 0, 3, true, 0, "", "Action for the reason of Table 6"⟩,
  ⟨0x3203, 8, 8, 2, 1, 1, 0, 3, true, 0, "", "Action for the reason of Table 6"⟩,
  ⟨0x3203, 9, 9, 2, 1, 2, 0, 3, true, 0, "", "Action for the reason of Table 6"⟩,
  ⟨0x3203, 10, 10, 2, 1, 3, 0, 3, true, 0, "", "Action for the reason of Table 6"⟩,
  ⟨0x3204, 0, 0, 5, 0, 0, 0, 18446744073709551615, false, 0, "steps", "Steps committed"⟩,
  ⟨0x3204, 1, 1, 5, 0, 0, 0, 18446744073709551615, false, 0, "steps", "Steps found suspect"⟩,
  ⟨0x3204, 2, 2, 5, 0, 0, 0, 18446744073709551615, false, 0, "runs", "Local runs"⟩,
  ⟨0x3204, 3, 3, 5, 0, 0, 0, 18446744073709551615, false, 0, "runs", "Guest runs hosted"⟩,
  ⟨0x3204, 4, 4, 5, 0, 0, 0, 18446744073709551615, false, 0, "replays", "Group replays"⟩]

/-- Objects 0x3200 to 0x32FF, part 1. -/
def dict32_1 : List DictRow := [
  ⟨0x3204, 5, 5, 5, 0, 0, 0, 18446744073709551615, false, 0, "tiles", "Tiles assayed"⟩,
  ⟨0x3204, 6, 6, 5, 0, 0, 0, 18446744073709551615, false, 0, "tiles", "Assay mismatches"⟩,
  ⟨0x3204, 7, 7, 5, 0, 0, 0, 18446744073709551615, false, 0, "tiles", "Assays abandoned"⟩,
  ⟨0x3204, 8, 8, 5, 0, 0, 0, 18446744073709551615, false, 0, "events", "Residue events"⟩,
  ⟨0x3204, 9, 9, 5, 0, 0, 0, 18446744073709551615, false, 0, "tiles", "Tiles over the wide threshold"⟩,
  ⟨0x3204, 10, 10, 5, 0, 0, 0, 18446744073709551615, false, 0, "stops", "Gated jobs stopped by the Escape"⟩,
  ⟨0x3204, 11, 11, 5, 0, 0, 0, 18446744073709551615, false, 0, "lines", "Lines restored poisoned at rollb"⟩]

/-- Objects 0x4000 to 0x40FF, part 0. -/
def dict40_0 : List DictRow := [
  ⟨0x4000, 0, 0, 2, 2, 24, 0, 63, true, 0, "GiB", "Device-interleaved share D per s"⟩,
  ⟨0x4000, 1, 1, 2, 2, 8, 0, 63, true, 0, "GiB", "Quarter-interleaved share Q per "⟩,
  ⟨0x4000, 2, 2, 2, 0, 12, 0, 255, false, 0, "GiB", "System tail T per stack"⟩,
  ⟨0x4000, 3, 3, 2, 0, 20, 0, 255, false, 0, "GiB", "Stack-local window per stack"⟩,
  ⟨0x4000, 4, 4, 3, 0, 256, 0, 65535, false, 0, "bytes", "Interleave granule"⟩,
  ⟨0x4001, 0, 11, 2, 2, 0, 0, 3, true, 0, "", "State of stack Hk: 0 ACTIVE, 1 S"⟩,
  ⟨0x4002, 0, 0, 5, 0, 0, 0, 18446744073709551615, false, 0, "symbols", "Corrected symbols"⟩,
  ⟨0x4002, 1, 1, 5, 0, 0, 0, 18446744073709551615, false, 0, "lines", "Lines poisoned by uncorrectable "⟩,
  ⟨0x4002, 2, 2, 5, 0, 0, 0, 18446744073709551615, false, 0, "lines", "Of those, found by patrol scrub"⟩,
  ⟨0x4002, 3, 3, 2, 1, 8, 1, 72, true, 0, "hours", "Patrol period (firmware policy),"⟩,
  ⟨0x4002, 4, 4, 5, 0, 0, 0, 18446744073709551615, false, 0, "events", "Poison consumptions"⟩,
  ⟨0x4002, 5, 5, 5, 0, 0, 0, 18446744073709551615, false, 0, "reads", "Host reads of poisoned lines"⟩,
  ⟨0x4003, 0, 11, 10, 0, 0, 0, 0, false, 1024, "", "Lane map of stack Hk: spare assi"⟩,
  ⟨0x4003, 12, 12, 3, 1, 16, 1, 65535, true, 0, "sectors per 32,7", "Pin flag threshold (firmware pol"⟩,
  ⟨0x4003, 13, 13, 2, 1, 1, 0, 1, true, 0, "", "Flagged-pin policy (firmware pol"⟩,
  ⟨0x4004, 0, 0, 8, 1, 1097859072, 1084227584, 1097859072, true, 0, "C", "Drift threshold (firmware policy"⟩,
  ⟨0x4004, 1, 1, 5, 0, 0, 0, 18446744073709551615, false, 0, "windows", "Retraining windows completed"⟩,
  ⟨0x4004, 2, 2, 3, 3, 0, 0, 383, true, 0, "", "Retrain request"⟩,
  ⟨0x4010, 0, 127, 2, 1, 0, 0, 2, true, 0, "", "Mode of slice Ts of quarter Qq: "⟩,
  ⟨0x4011, 0, 0, 4, 1, 8192, 256, 1048576, true, 0, "cycles", "Combining idle timeout, 256-1,04"⟩,
  ⟨0x4011, 1, 1, 2, 0, 12, 0, 255, false, 0, "ways", "Maximum KEEP ways per set"⟩,
  ⟨0x4011, 2, 2, 4, 0, 81920, 0, 4294967295, false, 0, "entries", "Combining entries per slice"⟩,
  ⟨0x4011, 3, 3, 2, 0, 0, 0, 255, false, 0, "", "Mode switch in progress, bit q ="⟩,
  ⟨0x4012, 0, 0, 5, 0, 0, 0, 18446744073709551615, false, 0, "accesses", "Tun cache hits"⟩,
  ⟨0x4012, 1, 1, 5, 0, 0, 0, 18446744073709551615, false, 0, "accesses", "Tun cache misses"⟩,
  ⟨0x4012, 2, 2, 5, 0, 0, 0, 18446744073709551615, false, 0, "entries", "Combining entries written as ful"⟩,
  ⟨0x4012, 3, 3, 5, 0, 0, 0, 18446744073709551615, false, 0, "entries", "Combining entries flushed by rea"⟩,
  ⟨0x4012, 4, 4, 5, 0, 0, 0, 18446744073709551615, false, 0, "lines", "Clean lines refetched after a Tu"⟩,
  ⟨0x4012, 5, 5, 5, 0, 0, 0, 18446744073709551615, false, 0, "lines", "Tun lines poisoned by Tun ECC er"⟩,
  ⟨0x4012, 6, 6, 5, 0, 0, 0, 18446744073709551615, false, 0, "entries", "Combining entries allocated"⟩]

/-- Objects 0x4000 to 0x40FF, part 1. -/
def dict40_1 : List DictRow := [
  ⟨0x4012, 7, 7, 5, 0, 0, 0, 18446744073709551615, false, 0, "entries", "Combining entries freed"⟩,
  ⟨0x4020, 0, 0, 2, 1, 0, 0, 11, true, 0, "", "Stack, 0-11; must be in TEST"⟩,
  ⟨0x4020, 1, 1, 5, 1, 18446744073709551615, 0, 18446744073709551615, false, 0, "", "Pseudo-channel mask; bit 2 x c +"⟩,
  ⟨0x4020, 2, 2, 2, 1, 2, 0, 6, true, 0, "", "Pattern"⟩,
  ⟨0x4020, 3, 3, 2, 1, 0, 0, 3, true, 0, "", "Access"⟩,
  ⟨0x4020, 4, 4, 2, 1, 50, 0, 100, true, 0, "%", "Read fraction, 0-100"⟩,
  ⟨0x4020, 5, 5, 5, 1, 0, 0, 18446744073709551615, false, 0, "bytes", "Length per pseudo-channel, a mul"⟩,
  ⟨0x4020, 6, 6, 4, 1, 1, 0, 4294967295, false, 0, "", "Seed of random patterns and addr"⟩,
  ⟨0x4020, 7, 7, 10, 1, 0, 0, 0, false, 64, "", "User line"⟩,
  ⟨0x4020, 8, 8, 2, 1, 0, 0, 1, true, 0, "", "ECC mode"⟩,
  ⟨0x4020, 9, 9, 2, 3, 0, 1, 2, true, 0, "", "Command"⟩,
  ⟨0x4021, 0, 63, 10, 0, 0, 0, 0, false, 32, "", "Checker result"⟩,
  ⟨0x4021, 64, 64, 2, 0, 0, 0, 255, false, 0, "", "Generator state"⟩,
  ⟨0x4021, 65, 65, 4, 0, 0, 0, 4294967295, false, 0, "MB/s", "Delivered data rate"⟩,
  ⟨0x4030, 0, 0, 5, 0, 0, 0, 18446744073709551615, false, 0, "requests", "Atomic requests received"⟩,
  ⟨0x4030, 1, 1, 5, 0, 0, 0, 18446744073709551615, false, 0, "requests", "Atomic requests applied"⟩,
  ⟨0x4030, 2, 2, 5, 0, 0, 0, 18446744073709551615, false, 0, "requests", "Atomic requests rejected"⟩,
  ⟨0x4030, 3, 3, 5, 0, 0, 0, 18446744073709551615, false, 0, "requests", "Of those applied, in ordered mod"⟩,
  ⟨0x4030, 4, 4, 5, 0, 0, 0, 18446744073709551615, false, 0, "elements", "Float adds that rounded to infin"⟩,
  ⟨0x4040, 0, 0, 5, 0, 0, 0, 18446744073709551615, false, 0, "descriptors", "DMA descriptors accepted"⟩,
  ⟨0x4040, 1, 1, 5, 0, 0, 0, 18446744073709551615, false, 0, "descriptors", "DMA descriptors rejected at issu"⟩,
  ⟨0x4040, 2, 2, 5, 0, 0, 0, 18446744073709551615, false, 0, "descriptors", "DMAs completed with a non-zero c"⟩,
  ⟨0x4040, 3, 3, 5, 0, 0, 0, 18446744073709551615, false, 0, "bytes", "Bytes written by DMA"⟩,
  ⟨0x4040, 4, 4, 5, 0, 0, 0, 18446744073709551615, false, 0, "blocks", "Blocks re-blocked with loss (R25"⟩,
  ⟨0x4040, 5, 5, 5, 0, 0, 0, 18446744073709551615, false, 0, "indices", "Indices wrapped, clamped or zero"⟩,
  ⟨0x4040, 6, 6, 2, 0, 4, 0, 255, false, 0, "descriptors", "Descriptors running per engine"⟩,
  ⟨0x4040, 7, 7, 2, 0, 16, 0, 255, false, 0, "requests", "Queue depth per engine"⟩,
  ⟨0x4050, 0, 0, 5, 0, 0, 0, 18446744073709551615, false, 0, "operations", "Job scans and combines completed"⟩,
  ⟨0x4050, 1, 1, 5, 0, 0, 0, 18446744073709551615, false, 0, "scans", "Device scans completed"⟩,
  ⟨0x4050, 2, 2, 5, 0, 0, 0, 18446744073709551615, false, 0, "bytes", "Bytes scanned"⟩]

/-- Objects 0x4000 to 0x40FF, part 2. -/
def dict40_2 : List DictRow := [
  ⟨0x4050, 3, 3, 5, 0, 0, 0, 18446744073709551615, false, 0, "scans", "Scans that met poison"⟩,
  ⟨0x4050, 4, 4, 3, 0, 512, 0, 65535, false, 0, "bytes per cycle ", "Grist rate"⟩]

/-- Objects 0x5000 to 0x50FF, part 0. -/
def dict50_0 : List DictRow := [
  ⟨0x5000, 0, 0, 11, 2, 0, 0, 131071, false, 0, "", "Coordinate (R282)"⟩,
  ⟨0x5000, 1, 1, 1, 0, 0, 0, 1, false, 0, "", "Coordinate assigned"⟩,
  ⟨0x5000, 2, 2, 3, 2, 1, 1, 512, true, 0, "floors", "Floors in the system, 1-512"⟩,
  ⟨0x5000, 3, 3, 2, 0, 2, 0, 255, false, 0, "", "Link-protocol version"⟩,
  ⟨0x5000, 4, 4, 2, 0, 1, 0, 255, false, 0, "", "Oldest link-protocol version"⟩,
  ⟨0x5000, 5, 5, 4, 0, 15, 0, 4294967295, false, 0, "", "Feature bits sent in cards"⟩,
  ⟨0x5001, 0, 11, 2, 0, 0, 0, 255, false, 0, "", "Port state, Table 3"⟩,
  ⟨0x5002, 0, 11, 1, 1, 1, 0, 1, false, 0, "", "Port enable"⟩,
  ⟨0x5003, 0, 11, 2, 3, 0, 1, 4, true, 0, "", "Port command: 1 retrain, 2 take "⟩,
  ⟨0x5004, 0, 11, 10, 1, 0, 0, 0, false, 32, "", "Expected-neighbour record, Table"⟩,
  ⟨0x5005, 0, 11, 10, 0, 0, 0, 0, false, 64, "", "Observed neighbour card, Table 4"⟩,
  ⟨0x5006, 0, 11, 3, 0, 255, 0, 65535, false, 0, "", "Active lanes, bit i = Li"⟩,
  ⟨0x5007, 0, 11, 10, 0, 0, 0, 0, false, 1024, "", "Lane record: corrected symbols p"⟩,
  ⟨0x5010, 0, 0, 10, 1, 0, 0, 0, false, 16, "", "Staged floor routing table, 4 x "⟩,
  ⟨0x5010, 1, 1, 10, 0, 0, 0, 0, false, 16, "", "Active floor routing table"⟩,
  ⟨0x5010, 2, 2, 10, 1, 0, 0, 0, false, 256, "", "Staged global plane table, 512 m"⟩,
  ⟨0x5010, 3, 3, 10, 0, 0, 0, 0, false, 256, "", "Active global plane table"⟩,
  ⟨0x5010, 4, 4, 2, 3, 0, 1, 1, true, 0, "", "Commit (R304)"⟩,
  ⟨0x5011, 0, 0, 2, 3, 0, 1, 1, true, 0, "", "Start sparge"⟩,
  ⟨0x5011, 1, 1, 2, 0, 0, 0, 255, false, 0, "", "Sparge state"⟩,
  ⟨0x5011, 2, 2, 1, 1, 0, 0, 0, true, 0, "", "Traffic since DRAINED; write 0 t"⟩,
  ⟨0x5011, 3, 3, 4, 1, 5000, 100, 1000000, true, 0, "us", "Sparge timeout (firmware policy)"⟩,
  ⟨0x5011, 4, 4, 5, 0, 0, 0, 18446744073709551615, false, 0, "sparges", "Sparges committed"⟩,
  ⟨0x5011, 5, 5, 5, 0, 0, 0, 18446744073709551615, false, 0, "sparges", "Sparges aborted"⟩,
  ⟨0x5020, 0, 0, 3, 0, 160, 0, 65535, false, 0, "packets", "Buffers per VC per receive port"⟩,
  ⟨0x5020, 1, 1, 2, 0, 2, 0, 255, false, 0, "credits", "Credits needed to enter a ring"⟩,
  ⟨0x5020, 2, 2, 4, 0, 262144, 0, 4294967295, false, 0, "bytes", "End-to-end window"⟩,
  ⟨0x5020, 3, 3, 3, 0, 4096, 0, 65535, false, 0, "windows", "Window table entries"⟩,
  ⟨0x5020, 4, 4, 2, 1, 48, 8, 63, true, 0, "packets", "Throttle high threshold (firmwar"⟩,
  ⟨0x5020, 5, 5, 2, 1, 16, 0, 62, true, 0, "packets", "Throttle low threshold (firmware"⟩]

/-- Objects 0x5000 to 0x50FF, part 1. -/
def dict50_1 : List DictRow := [
  ⟨0x5020, 6, 6, 3, 1, 8, 1, 1024, true, 0, "cycles", "Throttle interval (firmware poli"⟩,
  ⟨0x5020, 7, 7, 4, 1, 10000, 100, 2000000, true, 0, "us", "Response timeout (firmware polic"⟩,
  ⟨0x5021, 0, 0, 4, 1, 4096, 1, 1000000, true, 0, "symbols per 2^20", "Lane swap threshold (firmware po"⟩,
  ⟨0x5021, 1, 1, 3, 0, 10, 0, 65535, false, 0, "s", "Margin check delay"⟩,
  ⟨0x5021, 2, 2, 8, 1, 1041865114, 1028443341, 1056964608, true, 0, "fraction of eye ", "Margin threshold (firmware polic"⟩,
  ⟨0x5030, 0, 0, 5, 0, 0, 0, 18446744073709551615, false, 0, "audits", "Credit audits run"⟩,
  ⟨0x5030, 1, 1, 5, 0, 0, 0, 18446744073709551615, false, 0, "audits", "Credit audits failed"⟩,
  ⟨0x5030, 2, 2, 5, 0, 0, 0, 18446744073709551615, false, 0, "packets", "Packets sent"⟩,
  ⟨0x5030, 3, 3, 5, 0, 0, 0, 18446744073709551615, false, 0, "packets", "Packets received"⟩,
  ⟨0x5030, 4, 4, 5, 0, 0, 0, 18446744073709551615, false, 0, "packets", "NACKs sent"⟩,
  ⟨0x5030, 5, 5, 5, 0, 0, 0, 18446744073709551615, false, 0, "packets", "NACKs received"⟩,
  ⟨0x5030, 6, 6, 5, 0, 0, 0, 18446744073709551615, false, 0, "requests", "Requests in doubt"⟩,
  ⟨0x5030, 7, 7, 5, 0, 0, 0, 18446744073709551615, false, 0, "swaps", "Lane swaps"⟩,
  ⟨0x5030, 8, 8, 5, 0, 0, 0, 18446744073709551615, false, 0, "replays", "Link replays"⟩,
  ⟨0x5030, 9, 9, 5, 0, 0, 0, 18446744073709551615, false, 0, "packets", "Responses discarded"⟩,
  ⟨0x5030, 10, 10, 5, 0, 0, 0, 18446744073709551615, false, 0, "packets", "Packets stopped at the hop limit"⟩,
  ⟨0x5030, 11, 11, 5, 0, 0, 0, 18446744073709551615, false, 0, "requests", "Remote GST, CSIG and CADD errors"⟩,
  ⟨0x5030, 12, 12, 5, 0, 0, 0, 18446744073709551615, false, 0, "credits", "Credits retired with lost links"⟩,
  ⟨0x5030, 13, 13, 5, 0, 0, 0, 18446744073709551615, false, 0, "handoffs", "Link handoffs"⟩,
  ⟨0x5040, 0, 0, 3, 0, 256, 0, 65535, false, 0, "counters", "Counters per block"⟩,
  ⟨0x5040, 1, 1, 2, 0, 8, 0, 255, false, 0, "", "Barrier tree radix"⟩,
  ⟨0x5040, 2, 2, 5, 0, 0, 0, 18446744073709551615, false, 0, "adds", "Counter adds received"⟩,
  ⟨0x5040, 3, 3, 5, 0, 0, 0, 18446744073709551615, false, 0, "adds", "Counter adds applied"⟩,
  ⟨0x5040, 4, 4, 5, 0, 0, 0, 18446744073709551615, false, 0, "adds", "Counter adds rejected"⟩,
  ⟨0x5040, 5, 5, 5, 0, 0, 0, 18446744073709551615, false, 0, "adds", "Adds that saturated at 0xFFFF_FF"⟩,
  ⟨0x5040, 6, 6, 5, 0, 0, 0, 18446744073709551615, false, 0, "adds", "Adds that saturated at 0"⟩,
  ⟨0x5040, 7, 7, 5, 0, 0, 0, 18446744073709551615, false, 0, "events", "Counter blocks and slots orphane"⟩,
  ⟨0x5040, 8, 8, 5, 0, 0, 0, 18446744073709551615, false, 0, "phases", "Barrier phases completed"⟩,
  ⟨0x5041, 0, 255, 2, 0, 255, 0, 255, false, 0, "", "Owner of counter block b: job 0-"⟩,
  ⟨0x5042, 0, 255, 2, 0, 255, 0, 255, false, 0, "", "Owner of barrier slot s, as 0x50"⟩]

/-- Objects 0x5000 to 0x50FF, part 2. -/
def dict50_2 : List DictRow := [
  ⟨0x5050, 0, 0, 2, 0, 32, 0, 255, false, 0, "descriptors", "Collective descriptors queued pe"⟩,
  ⟨0x5050, 1, 1, 2, 0, 8, 0, 255, false, 0, "descriptors", "Collective descriptors running p"⟩,
  ⟨0x5050, 2, 2, 5, 0, 0, 0, 18446744073709551615, false, 0, "operations", "Collectives completed"⟩,
  ⟨0x5050, 3, 3, 5, 0, 0, 0, 18446744073709551615, false, 0, "operations", "Collectives aborted"⟩,
  ⟨0x5050, 4, 4, 5, 0, 0, 0, 18446744073709551615, false, 0, "elements", "ES128 results with KSAT set"⟩,
  ⟨0x5050, 5, 5, 5, 0, 0, 0, 18446744073709551615, false, 0, "elements", "ES128 window overflows"⟩,
  ⟨0x5050, 6, 6, 5, 0, 0, 0, 18446744073709551615, false, 0, "elements", "XA80 outputs written NaN for KSA"⟩,
  ⟨0x5060, 0, 0, 5, 0, 0, 0, 18446744073709551615, false, 0, "tokens", "Window tokens charged"⟩,
  ⟨0x5060, 1, 1, 5, 0, 0, 0, 18446744073709551615, false, 0, "tokens", "Window tokens returned"⟩,
  ⟨0x5060, 2, 2, 5, 0, 0, 0, 18446744073709551615, false, 0, "requests", "Remote requests sent"⟩,
  ⟨0x5060, 3, 3, 5, 0, 0, 0, 18446744073709551615, false, 0, "responses", "Final responses received"⟩,
  ⟨0x5060, 4, 4, 5, 0, 0, 0, 18446744073709551615, false, 0, "requests", "Remote requests received"⟩,
  ⟨0x5060, 5, 5, 5, 0, 0, 0, 18446744073709551615, false, 0, "responses", "Final responses sent"⟩,
  ⟨0x5060, 6, 6, 5, 0, 0, 0, 18446744073709551615, false, 0, "descriptors", "DMA descriptors completed"⟩,
  ⟨0x5060, 7, 7, 5, 0, 0, 0, 18446744073709551615, false, 0, "descriptors", "DMA descriptors stopped with the"⟩,
  ⟨0x5060, 8, 8, 4, 0, 0, 0, 4294967295, false, 0, "descriptors", "DMA descriptors queued or runnin"⟩,
  ⟨0x5060, 9, 9, 5, 0, 0, 0, 18446744073709551615, false, 0, "signals", "DMA completion signals raised"⟩,
  ⟨0x5060, 10, 10, 10, 0, 0, 0, 0, false, 1024, "", "Pool record"⟩,
  ⟨0x5060, 11, 11, 2, 3, 0, 1, 1, true, 0, "", "Run local audit"⟩,
  ⟨0x5060, 12, 12, 4, 0, 0, 0, 4294967295, false, 0, "", "Result of the last local audit, "⟩]

/-- Objects 0x6000 to 0x60FF, part 0. -/
def dict60_0 : List DictRow := [
  ⟨0x6000, 0, 0, 11, 2, 0, 0, 131071, false, 0, "", "Twin endpoint"⟩,
  ⟨0x6000, 1, 1, 1, 2, 0, 0, 1, false, 0, "", "twin configured"⟩,
  ⟨0x6000, 2, 2, 11, 2, 0, 0, 131071, false, 0, "", "Cellar partner endpoint"⟩,
  ⟨0x6000, 3, 3, 1, 2, 0, 0, 1, false, 0, "", "configured"⟩,
  ⟨0x6000, 4, 4, 11, 2, 0, 0, 131071, false, 0, "", "Sender whose cellar this device "⟩,
  ⟨0x6000, 5, 5, 1, 2, 0, 0, 1, false, 0, "", "configured"⟩,
  ⟨0x6000, 6, 6, 1, 1, 0, 0, 1, false, 0, "", "Guest runs from a cellar (firmwa"⟩,
  ⟨0x6001, 0, 0, 2, 0, 4, 0, 255, false, 0, "cores", "Spare cores remaining, Q0-Q3"⟩,
  ⟨0x6001, 1, 1, 2, 0, 4, 0, 255, false, 0, "cores", "Spare cores remaining, Q0-Q3"⟩,
  ⟨0x6001, 2, 2, 2, 0, 4, 0, 255, false, 0, "cores", "Spare cores remaining, Q0-Q3"⟩,
  ⟨0x6001, 3, 3, 2, 0, 4, 0, 255, false, 0, "cores", "Spare cores remaining, Q0-Q3"⟩,
  ⟨0x6001, 4, 4, 10, 0, 0, 0, 0, false, 36, "", "Core map of Q0-Q3: physical core"⟩,
  ⟨0x6001, 5, 5, 10, 0, 0, 0, 0, false, 36, "", "Core map of Q0-Q3: physical core"⟩,
  ⟨0x6001, 6, 6, 10, 0, 0, 0, 0, false, 36, "", "Core map of Q0-Q3: physical core"⟩,
  ⟨0x6001, 7, 7, 10, 0, 0, 0, 0, false, 36, "", "Core map of Q0-Q3: physical core"⟩,
  ⟨0x6001, 8, 8, 5, 0, 0, 0, 18446744073709551615, false, 0, "replacements", "Core replacements"⟩,
  ⟨0x6001, 9, 9, 2, 1, 2, 1, 255, true, 0, "events", "Residue events before replacemen"⟩,
  ⟨0x6001, 10, 10, 2, 1, 2, 1, 255, true, 0, "mismatches", "Assay mismatches before replacem"⟩,
  ⟨0x6001, 11, 11, 10, 0, 0, 0, 0, false, 1024, "", "Retired physical cores"⟩,
  ⟨0x6001, 12, 12, 3, 3, 0, 0, 65535, false, 0, "", "Retire command"⟩,
  ⟨0x6001, 13, 13, 2, 3, 0, 1, 1, true, 0, "", "Clear retired list"⟩,
  ⟨0x6010, 0, 0, 3, 2, 9472, 0, 16384, true, 0, "MiB", "Cellar region per stack, 0-16,38"⟩,
  ⟨0x6010, 1, 1, 5, 1, 0, 0, 18446744073709551615, false, 0, "", "Racking list address"⟩,
  ⟨0x6010, 2, 2, 3, 1, 0, 0, 2976, true, 0, "entries", "entries, 0-2,976"⟩,
  ⟨0x6010, 3, 3, 1, 1, 1, 0, 1, false, 0, "", "Narrow remainders (firmware poli"⟩,
  ⟨0x6010, 4, 4, 2, 1, 0, 0, 2, true, 0, "", "TWIN range racking (firmware pol"⟩,
  ⟨0x6010, 5, 5, 3, 1, 50, 1, 400, true, 0, "GB/s", "Racking rate limit (firmware pol"⟩,
  ⟨0x6010, 6, 6, 3, 1, 50, 1, 65535, true, 0, "steps", "Epoch interval (firmware policy)"⟩,
  ⟨0x6010, 7, 7, 5, 1, 0, 0, 18446744073709551615, false, 0, "step", "Extra epoch step; 0 = none"⟩,
  ⟨0x6010, 8, 8, 2, 0, 0, 0, 255, false, 0, "", "Racking state"⟩]

/-- Objects 0x6000 to 0x60FF, part 1. -/
def dict60_1 : List DictRow := [
  ⟨0x6010, 9, 9, 5, 0, 0, 0, 18446744073709551615, false, 0, "step", "Snapshot step of newest and olde"⟩,
  ⟨0x6010, 10, 10, 5, 0, 0, 0, 18446744073709551615, false, 0, "step", "Snapshot step of newest and olde"⟩,
  ⟨0x6010, 11, 11, 5, 0, 0, 0, 18446744073709551615, false, 0, "epochs", "Epochs sealed"⟩,
  ⟨0x6010, 12, 12, 5, 0, 0, 0, 18446744073709551615, false, 0, "epochs", "epochs skipped or abandoned"⟩,
  ⟨0x6010, 13, 13, 5, 0, 0, 0, 18446744073709551615, false, 0, "writes", "Writes held for priority copies"⟩,
  ⟨0x6010, 14, 14, 5, 0, 0, 0, 18446744073709551615, false, 0, "ns", "time held"⟩,
  ⟨0x6011, 0, 0, 10, 0, 0, 0, 0, false, 1536, "", "Header of slot A, slot B (Table "⟩,
  ⟨0x6011, 1, 1, 10, 0, 0, 0, 0, false, 1536, "", "Header of slot A, slot B (Table "⟩,
  ⟨0x6011, 2, 2, 11, 1, 0, 0, 131071, false, 0, "", "Restore target endpoint"⟩,
  ⟨0x6011, 3, 3, 2, 3, 0, 1, 3, true, 0, "", "Restore command"⟩,
  ⟨0x6011, 4, 4, 2, 0, 0, 0, 255, false, 0, "", "Restore state"⟩,
  ⟨0x6012, 0, 0, 3, 1, 64, 1, 65535, true, 0, "per 32,768 beats", "Warning"⟩,
  ⟨0x6012, 1, 1, 1, 1, 1, 0, 1, false, 0, "", "Warning"⟩,
  ⟨0x6012, 2, 2, 2, 1, 8, 1, 30, true, 0, "C", "Warning"⟩,
  ⟨0x6012, 3, 3, 3, 1, 100, 1, 1000, true, 0, "points per hour", "Warning"⟩,
  ⟨0x6020, 0, 63, 4, 1, 2000, 1, 3600000, true, 0, "ms", "Command timeout of stream s, 1-3"⟩,
  ⟨0x6020, 64, 64, 2, 1, 1, 0, 1, true, 0, "", "Unit hang action (firmware polic"⟩,
  ⟨0x6020, 65, 65, 5, 0, 0, 0, 18446744073709551615, false, 0, "events", "Watchdog expiries"⟩,
  ⟨0x6020, 66, 66, 5, 0, 0, 0, 18446744073709551615, false, 0, "events", "command timeouts"⟩,
  ⟨0x6030, 0, 0, 2, 3, 0, 1, 1, true, 0, "", "Dump without reset"⟩,
  ⟨0x6030, 1, 1, 5, 0, 0, 0, 18446744073709551615, false, 0, "", "Dumps written"⟩,
  ⟨0x6030, 2, 2, 2, 0, 0, 0, 255, false, 0, "", "newest eMMC slot 0-7"⟩,
  ⟨0x6030, 3, 3, 10, 0, 0, 0, 0, false, 1024, "", "Directory"⟩,
  ⟨0x6030, 8, 15, 10, 0, 0, 0, 0, false, 1024, "", "Dump in eMMC slot 0-7"⟩,
  ⟨0x6040, 0, 0, 2, 3, 0, 2, 4, true, 0, "", "Reset request"⟩,
  ⟨0x6040, 1, 1, 2, 0, 0, 0, 255, false, 0, "", "Last reset rung"⟩,
  ⟨0x6040, 2, 2, 3, 0, 0, 0, 65535, false, 0, "", "cause as an error code"⟩,
  ⟨0x6040, 3, 3, 5, 0, 0, 0, 18446744073709551615, false, 0, "events", "Function re-inits, warm resets, "⟩,
  ⟨0x6040, 4, 4, 5, 0, 0, 0, 18446744073709551615, false, 0, "events", "Function re-inits, warm resets, "⟩,
  ⟨0x6040, 5, 5, 5, 0, 0, 0, 18446744073709551615, false, 0, "events", "Function re-inits, warm resets, "⟩]

/-- Objects 0x6000 to 0x60FF, part 2. The score thresholds 0x6050.1 and 0x6050.2 end at 1000. (log 44, DESIGN CHOICE) -/
def dict60_2 : List DictRow := [
  ⟨0x6040, 6, 6, 3, 0, 0, 0, 65535, false, 0, "", "Stacks whose HBM was lost at the"⟩,
  ⟨0x6040, 7, 7, 5, 0, 0, 0, 18446744073709551615, false, 0, "step", "Step rolled back at the last res"⟩,
  ⟨0x6050, 0, 0, 3, 0, 1000, 0, 65535, false, 0, "points", "Health score"⟩,
  ⟨0x6050, 1, 1, 3, 1, 400, 0, 1000, true, 0, "points", "SICK and HEALTHY thresholds (fir"⟩,
  ⟨0x6050, 2, 2, 3, 1, 550, 0, 1000, true, 0, "points", "member 2 >= member 1 + 50"⟩,
  ⟨0x6050, 3, 3, 3, 1, 0, 0, 65535, false, 0, "expulsions", "Expulsion budget"⟩,
  ⟨0x6050, 4, 4, 2, 0, 0, 0, 255, false, 0, "", "Health state"⟩,
  ⟨0x6050, 5, 5, 10, 0, 0, 0, 0, false, 1024, "", "Deduction record"⟩,
  ⟨0x6050, 6, 6, 5, 0, 0, 0, 18446744073709551615, false, 0, "events", "Self-expulsions"⟩,
  ⟨0x6050, 7, 7, 2, 3, 0, 1, 1, true, 0, "", "Clear EXPELLED"⟩,
  ⟨0x6060, 0, 0, 1, 1, 1, 0, 1, false, 0, "", "Drills enable (firmware policy)"⟩,
  ⟨0x6060, 1, 1, 4, 1, 500, 1, 10000000, true, 0, "hours", "Mean interval of CORE_HANG, LANE"⟩,
  ⟨0x6060, 2, 2, 4, 1, 200, 1, 10000000, true, 0, "hours", "Mean interval of CORE_HANG, LANE"⟩,
  ⟨0x6060, 3, 3, 4, 1, 100, 1, 10000000, true, 0, "hours", "Mean interval of CORE_HANG, LANE"⟩,
  ⟨0x6060, 4, 4, 4, 1, 100000, 1, 10000000, true, 0, "hours", "Mean interval of CORE_HANG, LANE"⟩,
  ⟨0x6060, 5, 5, 5, 0, 0, 0, 18446744073709551615, false, 0, "drills", "Drills run"⟩,
  ⟨0x6060, 6, 6, 5, 0, 0, 0, 18446744073709551615, false, 0, "drills", "drills failed"⟩]

/-- Objects 0x7000 to 0x70FF, part 0. -/
def dict70_0 : List DictRow := [
  ⟨0x7000, 0, 0, 8, 0, 0, 0, 4294967295, false, 0, "V", "VIN_A voltage"⟩,
  ⟨0x7000, 1, 1, 8, 0, 0, 0, 4294967295, false, 0, "V", "VIN_B voltage"⟩,
  ⟨0x7000, 2, 2, 8, 0, 0, 0, 4294967295, false, 0, "W", "Input power, average of the last"⟩,
  ⟨0x7000, 3, 3, 2, 0, 0, 0, 255, false, 0, "", "Input state"⟩,
  ⟨0x7000, 4, 4, 5, 0, 0, 0, 18446744073709551615, false, 0, "events", "Switchovers"⟩,
  ⟨0x7000, 5, 5, 1, 0, 0, 0, 1, false, 0, "", "Last power-off with both inputs "⟩,
  ⟨0x7010, 0, 0, 3, 1, 2400, 600, 2400, true, 0, "W", "Power limit (firmware policy), 6"⟩,
  ⟨0x7010, 1, 1, 2, 0, 0, 0, 255, false, 0, "steps", "Power-limit step"⟩,
  ⟨0x7011, 0, 0, 4, 1, 200, 10, 100000, true, 0, "us", "Core idle time before sleep (fir"⟩,
  ⟨0x7011, 1, 1, 4, 1, 50, 1, 10000, true, 0, "us", "Tun slice idle time before sleep"⟩,
  ⟨0x7011, 2, 2, 4, 1, 1000, 10, 1000000, true, 0, "us", "Stack idle time before self-refr"⟩,
  ⟨0x7011, 3, 3, 8, 0, 1125515264, 0, 4294967295, false, 0, "A/us", "Core slew limit"⟩,
  ⟨0x7011, 4, 4, 8, 0, 1115291648, 0, 4294967295, false, 0, "A", "Charge per core wake"⟩,
  ⟨0x7011, 5, 5, 5, 0, 0, 0, 18446744073709551615, false, 0, "wakes", "Wakes granted"⟩,
  ⟨0x7020, 0, 0, 2, 1, 95, 70, 100, true, 0, "C", "Throttle target (firmware policy"⟩,
  ⟨0x7020, 1, 1, 2, 1, 97, 70, 104, true, 0, "C", "Alert threshold (firmware policy"⟩,
  ⟨0x7020, 2, 2, 8, 0, 0, 0, 4294967295, false, 0, "C", "Hottest junction"⟩,
  ⟨0x7020, 3, 3, 8, 0, 0, 0, 4294967295, false, 0, "C", "Hottest HBM stack"⟩,
  ⟨0x7020, 4, 4, 4, 0, 0, 0, 4294967295, false, 0, "steps", "Throttle step, bits [8q + 7"⟩,
  ⟨0x7020, 5, 5, 2, 1, 16, 1, 31, true, 0, "steps", "THROTTLE_N step (firmware policy"⟩,
  ⟨0x7020, 6, 6, 5, 0, 0, 0, 18446744073709551615, false, 0, "events", "Thermal trips"⟩,
  ⟨0x7020, 7, 7, 2, 1, 0, 0, 31, true, 0, "steps", "Firmware step floor, 0-31"⟩,
  ⟨0x7030, 0, 0, 2, 0, 0, 0, 255, false, 0, "", "Reference source"⟩,
  ⟨0x7030, 1, 1, 2, 0, 0, 0, 255, false, 0, "", "Filtered inputs"⟩,
  ⟨0x7030, 2, 2, 5, 0, 0, 0, 18446744073709551615, false, 0, "events", "Chatter events"⟩,
  ⟨0x7030, 3, 3, 5, 0, 0, 0, 18446744073709551615, false, 0, "pulses", "RESET_N pulses ignored"⟩]

/-- The dictionary. -/
def dict : List DictRow :=
  dict10_0 ++ dict10_1 ++ dict11_0 ++ dict11_1 ++ dict20_0 ++ dict20_1 ++ dict31_0 ++ dict31_1 ++ dict32_0 ++ dict32_1 ++ dict40_0 ++ dict40_1 ++ dict40_2 ++ dict50_0 ++ dict50_1 ++ dict50_2 ++ dict60_0 ++ dict60_1 ++ dict60_2 ++ dict70_0

/-- The row of a member. -/
def dictRow (o m : Nat) : Option DictRow := dict.find? (fun r => r.obj == o && r.memLo ≤ m && m ≤ r.memHi)

/-- Whether an object number has an object. -/
def dictHas (o : Nat) : Bool := dict.any (fun r => r.obj == o)

/-- Default of a numeric member. -/
def dictDefault (o m : Nat) : Nat := match dictRow o m with
  | some r => r.dflt
  | none => 0

end Sys2Proof.Machine
end

