-- ==== Sys2Proof/Machine/Exact.lean ====
section
/-! DEFINITION. Exact accumulation (02 R41 to R49), compact-40 (R53, R54), MAX and MIN (03 R92, R93), the LH4 reduction
(R71, R72) and the XA80 form (R48). -/

namespace Sys2Proof.Machine

/-- The array's view of a number of an IEEE-style format (02 R41): significand with hidden bit and its exponent. -/
def Elem.ofIeee (f : Fmt) (v : Nat) : Elem :=
  match f.decode v with
  | .nan => { nan := true, inf := false, neg := false, mag := 0, exp := 0 }
  | .inf s => { nan := false, inf := true, neg := s, mag := 0, exp := 0 }
  | .fin s m e => { nan := false, inf := false, neg := s, mag := m, exp := e }

/-- The array's view of a block element (02 R31, R41). -/
def Elem.ofBlock (sig : Int) (e : Nat) : Elem :=
  { nan := e == 255, inf := false, neg := decide (sig < 0), mag := sig.natAbs, exp := (e : Int) - 127 }

/-- The number an element stands for. -/
def Elem.val (x : Elem) : FVal := if x.nan then .nan else if x.inf then .inf x.neg else .fin x.neg x.mag x.exp

/-- A product term: its special flags, whether it is left out of the anchor, its sign, magnitude and exponent (02 R41, R45). -/
structure Term where
  nan : Bool
  pinf : Bool
  ninf : Bool
  special : Bool
  neg : Bool
  p : Nat
  e : Int
  deriving DecidableEq, Repr

/-- The exact product of two elements (02 R41, R45). -/
def Term.mul (a b : Elem) : Term :=
  let sp := a.nan || b.nan || a.inf || b.inf
  let zero := (!a.inf && !a.nan && a.mag == 0) || (!b.inf && !b.nan && b.mag == 0)
  let nan := a.nan || b.nan || (sp && zero)
  let neg := a.neg != b.neg
  { nan := nan, pinf := sp && !nan && !neg, ninf := sp && !nan && neg, special := sp, neg := neg,
    p := a.mag * b.mag, e := a.exp + b.exp }

/-- A single value as a term (03 R106). -/
def Term.one (a : Elem) : Term :=
  { nan := a.nan, pinf := a.inf && !a.nan && !a.neg, ninf := a.inf && !a.nan && a.neg, special := a.nan || a.inf,
    neg := a.neg, p := a.mag, e := a.exp }

/-- An exact partial sum: window, anchor (-512 when it holds no reduction), number of terms, flags (02 R43, R47, R48). -/
structure Win where
  w : Int
  a : Int
  k : Nat
  nan : Bool
  pinf : Bool
  ninf : Bool
  spill : Bool
  deriving DecidableEq, Repr

/-- A sum of no terms. -/
def Win.zero : Win := { w := 0, a := -512, k := 0, nan := false, pinf := false, ninf := false, spill := false }

/-- Exponent of the window's least significant bit (02 R43). -/
def lam (a : Int) (k : Nat) : Int := a + (max 16 (clog2 k) : Nat) - 78

def Win.lam (x : Win) : Int := Machine.lam x.a x.k

/-- `v * 2^e` truncated toward zero to a multiple of `2^q`, and whether a non-zero bit was lost. -/
def truncTo (v : Int) (e q : Int) : Int × Bool :=
  if q ≤ e then (v * ((2 ^ (e - q).toNat : Nat) : Int), false)
  else
    let d := 2 ^ (q - e).toNat
    let n : Int := (v.natAbs / d : Nat)
    (if v < 0 then -n else n, v.natAbs % d != 0)

/-- The anchor of a list of terms: the largest `e + m` of those that are not special (02 R42). -/
def anchor (m : Nat) (ts : List Term) : Int :=
  ts.foldl (fun a t => if t.special then a else max a (t.e + m)) (-512)

/-- Add one term to a window at exponent `q` (02 R43, R45). -/
def Win.addTerm (q : Int) (x : Win) (t : Term) : Win :=
  let r := truncTo (if t.neg then -(t.p : Int) else t.p) t.e q
  { x with
    w := if t.special then x.w else x.w + r.1
    nan := x.nan || t.nan
    pinf := x.pinf || t.pinf
    ninf := x.ninf || t.ninf
    spill := x.spill || (!t.special && r.2) }

/-- The exact reduction of a list of terms (02 R42, R43). -/
def reduceExact (m : Nat) (ts : List Term) : Win :=
  let a := anchor m ts
  let k := ts.length
  ts.foldl (Win.addTerm (lam a k)) { Win.zero with a := a, k := k }

/-- Combine parts (02 R49): none when the counts pass 2^32 - 1; the flag says that the window would not fit. -/
def combine (parts : List Win) : Option (Win × Bool) :=
  let ps := parts.filter (fun p => p.k != 0)
  let k := (ps.map (·.k)).sum
  if 2 ^ 32 - 1 < k then none
  else
    let a := ps.foldl (fun a p => max a p.a) (-512)
    let q := lam a k
    let rs := ps.map (fun p => truncTo p.w p.lam q)
    let w := rs.foldl (fun s r => s + r.1) 0
    let ok := decide (-(2 ^ 79 : Int) ≤ w ∧ w < 2 ^ 79)
    some ({ w := if ok then w else 0, a := a, k := k
            nan := ps.any (·.nan) || !ok, pinf := ps.any (·.pinf), ninf := ps.any (·.ninf)
            spill := ps.any (·.spill) || rs.any (·.2) }, !ok)

/-- The value of a window: flags first, then window times 2^lambda (02 R45, R46). -/
def Win.val (x : Win) : FVal :=
  if x.nan || (x.pinf && x.ninf) then .nan
  else if x.pinf then .inf false
  else if x.ninf then .inf true
  else .ofInt x.w x.lam

/-- A tag in exact mode (02 Table 7). -/
def Win.tag (x : Win) : Nat :=
  (if x.ninf then 2 ^ 15 else 0) + (if x.pinf then 2 ^ 14 else 0) + (if x.nan then 2 ^ 13 else 0) +
    (if x.spill then 2 ^ 12 else 0) + uint 10 x.a

/-- An accumulator entry that holds an exact sum. -/
def Win.entry (x : Win) : AccEntry := { entry := BitVec.ofNat 80 (uint 80 x.w), tag := BitVec.ofNat 16 x.tag }

/-- Read an exact-mode entry back with the bank's K. -/
def Win.ofEntry (k : Nat) (e : AccEntry) : Win :=
  let t := e.tag.toNat
  { w := e.entry.toInt, a := sint 10 t, k := k, ninf := t.testBit 15, pinf := t.testBit 14, nan := t.testBit 13, spill := t.testBit 12 }

/-- The XA80 form (02 Table 8). -/
def Win.xa80 (x : Win) : Nat :=
  uint 80 x.w + 2 ^ 80 * (uint 10 x.a + 2 ^ 10 * ((if x.spill then 1 else 0) + (if x.nan then 2 else 0) +
    (if x.pinf then 4 else 0) + (if x.ninf then 8 else 0)) + 2 ^ 14 * (x.k % 2 ^ 32))

/-- Read an XA80 element (02 Table 8). -/
def Win.ofXa80 (v : Nat) : Win :=
  { w := sint 80 v, a := sint 10 (v / 2 ^ 80), k := bits v 125 94, ninf := v.testBit 93, pinf := v.testBit 92
    nan := v.testBit 91, spill := v.testBit 90 }

/-- A compact-40 value: significand, exponent, flags (02 R53). -/
structure Compact where
  sig : Int
  exp : Int
  nan : Bool
  pinf : Bool
  ninf : Bool
  spill : Bool
  deriving DecidableEq, Repr

def Compact.zero : Compact := { sig := 0, exp := 0, nan := false, pinf := false, ninf := false, spill := false }

/-- Add a pass sum and round to a 30-bit significand, to nearest-even (02 R54). The rule leaves open which exponent a value takes that fits in
fewer bits: here the significand always fills its 30 bits, and zero has exponent 0. (log 44, DESIGN CHOICE) -/
def Compact.addPass (c : Compact) (x : Win) : Compact :=
  let q := min c.exp x.lam
  let v := c.sig * ((2 ^ (c.exp - q).toNat : Nat) : Int) + x.w * ((2 ^ (x.lam - q).toNat : Nat) : Int)
  let p : Int := if v = 0 then 0 else (Nat.log2 v.natAbs : Int) + q - 28
  let r := roundTo v.natAbs q p .rne
  let carry := decide (2 ^ 29 ≤ r.1)
  let n : Int := if carry then (r.1 / 2 : Nat) else r.1
  { sig := if v < 0 then -n else n, exp := if v = 0 then 0 else if carry then p + 1 else p
    nan := c.nan || x.nan, pinf := c.pinf || x.pinf, ninf := c.ninf || x.ninf, spill := c.spill || x.spill || r.2 }

def Compact.val (c : Compact) : FVal :=
  if c.nan || (c.pinf && c.ninf) then .nan
  else if c.pinf then .inf false
  else if c.ninf then .inf true
  else .ofInt c.sig c.exp

/-- The 40 bits and the 8-bit tag (02 R53). -/
def Compact.enc (c : Compact) : Nat × Nat :=
  (uint 30 c.sig * 2 ^ 10 + uint 10 c.exp,
   (if c.ninf then 128 else 0) + (if c.pinf then 64 else 0) + (if c.nan then 32 else 0) + (if c.spill then 16 else 0))

def Compact.dec (v t : Nat) : Compact :=
  { sig := sint 30 (v / 2 ^ 10), exp := sint 10 v, ninf := t.testBit 7, pinf := t.testBit 6, nan := t.testBit 5, spill := t.testBit 4 }

/-- Reduce in compact-40: fold passes of `kp` terms, in ascending order (02 R54). -/
def reduceCompact (m kp : Nat) (ts : List Term) : Compact :=
  (chunks kp ts).foldl (fun c p => c.addPass (reduceExact m p)) .zero

/-- A MAX or MIN winner (03 R92, R93). -/
structure Best where
  has : Bool
  nan : Bool
  inf : Bool
  neg : Bool
  mag : Nat
  exp : Int
  idx : Nat
  /-- a +infinity, a -infinity was among the terms (02 R47) -/
  pinf : Bool
  ninf : Bool
  deriving DecidableEq, Repr

def Best.none : Best := { has := false, nan := false, inf := false, neg := false, mag := 0, exp := 0, idx := 0, pinf := false, ninf := false }

/-- The value of a winner; a winner of value zero is +0 (02 R46). -/
def Best.val (b : Best) : FVal := if b.nan then .nan else if b.inf then .inf b.neg else if b.mag = 0 then .zero else .fin b.neg b.mag b.exp

/-- Take one more term: the first NaN wins for good; otherwise the strictly better exact value (03 R92). Infinities among the terms are kept
whichever term wins (R93). -/
def Best.take (mx : Bool) (b : Best) (t : Term) (idx : Nat) : Best :=
  let n : Best := { has := true, nan := t.nan, inf := t.pinf || t.ninf, neg := t.neg, mag := if t.special then 0 else t.p, exp := t.e, idx := idx
                    pinf := t.pinf, ninf := t.ninf }
  let w := if !b.has then n else if b.nan then b else if n.nan then n
    else if (if mx then b.val.lt n.val else n.val.lt b.val) then n else b
  { w with pinf := b.pinf || t.pinf, ninf := b.ninf || t.ninf }

/-- Reduce by MAX or MIN from an index base. -/
def reduceBest (mx : Bool) (base : Nat) (ts : List Term) : Best :=
  (ts.zipIdx).foldl (fun b x => b.take mx x.1 (base + x.2)) .none

/-- A MAX or MIN entry (03 Table 5, R93). Of a winner that is a NaN the table gives no SIGN, MAG and EXP: the sign of the product, 0 and 0. (log 44, DESIGN CHOICE) -/
def Best.entry (b : Best) : AccEntry :=
  if b.has then
    { entry := BitVec.ofNat 80 ((if b.neg then 2 ^ 79 else 0) + b.mag * 2 ^ 31 +
        (if b.nan then 0 else if b.inf then 0x1FF else uint 10 b.exp) * 2 ^ 21 + b.idx % 2 ^ 21)
      tag := BitVec.ofNat 16 ((if b.ninf then 2 ^ 15 else 0) + (if b.pinf then 2 ^ 14 else 0) + (if b.nan then 2 ^ 13 else 0)) }
  else AccEntry.reset

/-- Read a MAX or MIN entry. -/
def Best.ofEntry (e : AccEntry) : Best :=
  let v := e.entry.toNat
  let t := e.tag.toNat
  { has := true, nan := t.testBit 13, inf := bits v 30 21 == 0x1FF && bits v 78 31 == 0, neg := v.testBit 79, mag := bits v 78 31
    exp := sint 10 (v / 2 ^ 21), idx := v % 2 ^ 21, pinf := t.testBit 14, ninf := t.testBit 15 }

/-- Pairwise sums of one level of the LH4 tree (02 R71). -/
def lh4Pairs : List Nat → List Nat
  | a :: b :: r => lh4Round ((f32 a).add (f32 b)) :: lh4Pairs r
  | l => l

/-- The LH4 tree over 32 products (02 R71). -/
def lh4Tree (v : List Nat) : Nat := (lh4Pairs (lh4Pairs (lh4Pairs (lh4Pairs (lh4Pairs v))))).headD 0

/-- The LH4 reduction (02 R71, R72): FP32 bits. Every input is first taken to FP32, and what is then subnormal becomes zero: whether a number
that is subnormal only in FP16 is one is left open. (log 44, DESIGN CHOICE) -/
def reduceLh4 (ts : List (Elem × Elem)) : Nat :=
  let ps := ts.map (fun t => lh4Round ((f32 (lh4Round t.1.val)).mul (f32 (lh4Round t.2.val))))
  (chunks 32 ps).foldl (fun tot g => lh4Round ((f32 tot).add (f32 (lh4Tree (g ++ List.replicate (32 - g.length) 0))))) 0

/-- Exponent bound of a product of two formats (02 Table 6): none when they are no pair. -/
def pairM (a b : Nat) : Option Nat :=
  if a = 4 ∧ b = 4 then some 14
  else if (a = 4 ∧ b = 5) ∨ (a = 5 ∧ b = 4) then some 12
  else if a = 5 ∧ b = 5 then some 10
  else if a = 6 ∧ b = 6 then some 6
  else if a = 1 ∧ b = 1 then some 16
  else if a = 2 ∧ b = 2 then some 22
  else if a = 0 ∧ b = 0 then some 48
  else none

/-- Values of *k* of one pass (03 Table 1). -/
def pairKp (a : Nat) : Nat := if a = 0 then 64 else if a = 1 ∨ a = 2 then 128 else 256

/-- Columns of one fold (03 Table 1). -/
def pairNp (a : Nat) : Nat := if a = 0 then 64 else if a = 1 ∨ a = 2 then 128 else if a = 6 then 512 else 256

/-- Significand width with hidden bit of an IEEE type code (03 R106). -/
def sigWidth (t : Nat) : Nat := if t = 1 then 8 else if t = 2 then 11 else 24

end Sys2Proof.Machine
end

