-- ==== Sys2Proof/Machine/Ops.lean ====
section
/-! DEFINITION. The named operations over the parts of the state: reading and updating one part, numeric object members and
statistics, outputs, free values, events and interrupts, the address map of device memory with its reads and raw writes, and
sync counters. -/

namespace Sys2Proof.Machine

/-! ## Parts -/

def State.core (s : State) (c : Nat) : Core := vget s.cores c Core.reset
def State.setCore (s : State) (c : Nat) (x : Core) : State := { s with cores := vset s.cores c x }
def State.modCore (s : State) (c : Nat) (f : Core → Core) : State := s.setCore c (f (s.core c))
def State.stream (s : State) (i : Nat) : Stream := vget s.streams i Stream.reset
def State.setStream (s : State) (i : Nat) (x : Stream) : State := { s with streams := vset s.streams i x }
def State.modStream (s : State) (i : Nat) (f : Stream → Stream) : State := s.setStream i (f (s.stream i))
def State.job (s : State) (j : Nat) : Job := vget s.jobs j Job.reset
def State.setJob (s : State) (j : Nat) (x : Job) : State := { s with jobs := vset s.jobs j x }
def State.modJob (s : State) (j : Nat) (f : Job → Job) : State := s.setJob j (f (s.job j))
def State.port (s : State) (p : Nat) : Port := vget s.fabric.ports p Port.reset
def State.setPort (s : State) (p : Nat) (x : Port) : State := { s with fabric := { s.fabric with ports := vset s.fabric.ports p x } }
def State.modPort (s : State) (p : Nat) (f : Port → Port) : State := s.setPort p (f (s.port p))
def State.stack (s : State) (k : Nat) : Stack := vget s.mem.hbm k Stack.reset
def State.setStack (s : State) (k : Nat) (x : Stack) : State := { s with mem := { s.mem with hbm := vset s.mem.hbm k x } }
def State.modStack (s : State) (k : Nat) (f : Stack → Stack) : State := s.setStack k (f (s.stack k))

/-- Job of the stream whose program a core runs. -/
def State.jobOf (s : State) (c : Nat) : Nat := (s.stream (s.core c).stream).job

def State.modMem (s : State) (f : MemSys → MemSys) : State := { s with mem := f s.mem }

/-- Run an operation for each element of a list, in order. -/
def State.each {α : Type} (s : State) (l : List α) (f : State → α → State) : State := l.foldl f s

/-- Quarter of a logical core (01 R14). -/
def coreQuarter (c : Nat) : Nat := c / 36

/-! ## Registers -/

/-- A scalar register; s0 reads as zero (04 R118). -/
def Core.s (x : Core) (i : Nat) : Word := if i = 0 then 0 else vget x.sreg i 0

def Core.sp (x : Core) (i : Nat) : Bool := i != 0 && x.sPoison.getLsbD i

/-- Write a scalar register with its poison; a write to s0 is discarded (04 R118). -/
def Core.setS (x : Core) (i : Nat) (v : Word) (p : Bool) : Core :=
  if i = 0 then x
  else { x with sreg := vset x.sreg i v
                sPoison := if p then x.sPoison ||| BitVec.twoPow 32 i else x.sPoison &&& ~~~(BitVec.twoPow 32 i) }

def Core.v (x : Core) (i : Nat) : BitVec 16384 := vget x.vreg i 0

def Core.vp (x : Core) (i : Nat) : BitVec 32 := vget x.vPoison i 0

def Core.setV (x : Core) (i : Nat) (v : BitVec 16384) (p : BitVec 32) : Core :=
  { x with vreg := vset x.vreg i v, vPoison := vset x.vPoison i p }

/-- A predicate; p0 reads as ones (04 R118). -/
def Core.p (x : Core) (i : Nat) : BitVec 512 := if i = 0 then BitVec.allOnes 512 else vget x.preg i 0

def Core.setP (x : Core) (i : Nat) (v : BitVec 512) : Core := if i = 0 then x else { x with preg := vset x.preg i v }

/-- Segments with at least one active lane, and segments with only active lanes. -/
def touchedSegs (p : BitVec 512) : BitVec 32 :=
  BitVec.ofNat 32 ((List.range 32).foldr (fun i acc => 2 * acc + (if p.toNat / 2 ^ (16 * i) % 2 ^ 16 = 0 then 0 else 1)) 0)

def wholeSegs (p : BitVec 512) : BitVec 32 :=
  BitVec.ofNat 32 ((List.range 32).foldr (fun i acc => 2 * acc + (if p.toNat / 2 ^ (16 * i) % 2 ^ 16 = 2 ^ 16 - 1 then 1 else 0)) 0)

/-- The next instruction. -/
def Core.next (x : Core) : Core := { x with pc := x.pc + 16 }

/-! ## Objects and statistics -/

/-- A numeric member as stored (12 R458). -/
def State.objGet (s : State) (o m : Nat) : Nat := tget (dictDefault o m) s.obj (256 * o + m)

def State.objSet (s : State) (o m v : Nat) : State :=
  { s with obj := tset (dictDefault o m) s.obj (256 * o + m) v }

/-- Count in a statistic; it saturates at 2^64 - 1 (12 R459). -/
def State.bump (s : State) (o m n : Nat) : State := s.objSet o m (min (2 ^ 64 - 1) (s.objGet o m + n))

def State.blobGet (s : State) (o m : Nat) : List Byte := tget [] s.blobs (256 * o + m)

def State.blobSet (s : State) (o m : Nat) (v : List Byte) : State :=
  { s with blobs := tset [] s.blobs (256 * o + m) v }

/-! ## Outputs, free values, interrupts, events -/

def State.emit (s : State) (x : Output) : State := { s with out := s.out ++ [x] }

/-- Answer of an object write. (log 12, DESIGN CHOICE) -/
def State.reply (s : State) (o m code : Nat) : State := s.emit (.objectReply o m (BitVec.ofNat 16 code))

/-- Take the next free value: nothing constrains it. (log 9, DESIGN CHOICE; log 10, DESIGN CHOICE) -/
def State.takeFree (s : State) : Nat × State := (Config.freeValue s.free, { s with free := s.free + 1 })

/-- Whether MSI-X messages can be sent: the link is up, MSI-X is enabled and the function is not masked (12 R430). (log 4, PRESUMED) -/
def HostPort.msixSends (h : HostPort) : Bool := h.linkUp && h.msixOn && !h.funcMask

/-- AER records an error in its uncorrectable status (12 R429, Table 1): bit 12 a poisoned TLP received, bit 20 an Unsupported Request. (log 4, PRESUMED) -/
def State.aerReport (s : State) (bit : Nat) : State := { s with host := { s.host with aer := s.host.aer ||| BitVec.twoPow 32 bit } }

/-- Raise an MSI-X vector (12 R430): sent when messages are and the vector is not masked, otherwise pending. (log 4, PRESUMED) -/
def State.msix (s : State) (v : Nat) : State :=
  if s.host.msixSends && !s.host.msixMask.contains v then s.emit (.msix v)
  else { s with host := { s.host with msixPend := sadd s.host.msixPend v } }

/-- Send the pending vectors that are not masked, while messages are sent. (log 4, PRESUMED) -/
def State.msixFlush (s : State) : State :=
  if s.host.msixSends then
    let go := s.host.msixPend.filter (fun v => !s.host.msixMask.contains v)
    State.each { s with host := { s.host with msixPend := s.host.msixPend.filter s.host.msixMask.contains } } go (fun s v => s.emit (.msix v))
  else s

/-- The bytes of a Fynen message from byte 0 to the end of VALUE (12 Table 10). -/
def msgBody (m : FynenMsg) : List Byte :=
  leBytes m.format.toNat 2 ++ leBytes m.kind.toNat 1 ++ leBytes m.flags.toNat 1 ++ leBytes m.requestId.toNat 4 ++
  leBytes m.seq.toNat 8 ++ leBytes m.object.toNat 2 ++ leBytes m.member.toNat 1 ++ leBytes m.type.toNat 1 ++
  leBytes m.status.toNat 2 ++ leBytes m.length.toNat 2 ++ leBytes m.offset.toNat 8 ++ m.value

/-- The TAG of a message under a key in the session epoch (12 R451). -/
def fynenTag (key : List Byte) (epoch : Word) (m : FynenMsg) : List Byte :=
  (hmac256 key (leBytes epoch.toNat 8 ++ msgBody m)).take 16

/-- Tag a message when there is a key, setting AUTH. -/
def msgWithTag (m : FynenMsg) (key : Option (List Byte)) (epoch : Word) : FynenMsg :=
  match key with
  | some k => let m' := { m with flags := m.flags ||| 1 }; { m' with tag := fynenTag k epoch m' }
  | none => m

/-- The 32 bytes of an event record (12 R456). -/
def EventRec.bytes (e : EventRec) : List Byte :=
  leBytes e.seq.toNat 8 ++ leBytes e.beats.toNat 8 ++ leBytes e.code.toNat 2 ++ leBytes e.obj.toNat 2 ++
  [if e.drill then 1 else 0, 0, 0, 0] ++ leBytes e.detail.toNat 8

/-- The EVENT message of a record (12 R456); its REQUEST_ID is the record's sequence number. -/
def EventRec.message (e : EventRec) : FynenMsg :=
  { format := 1, kind := 5, flags := 0, requestId := e.seq.setWidth 32, seq := e.seq, object := 0x1011, member := 0
    type := 10, status := 0, length := 32, offset := 0, value := e.bytes, tag := [] }

/-- Whether Fynen is silent: in OFF and RESET (12 Table 8), before the island is up, and until its firmware is verified again (11 R408). -/
def State.fynenSilent (s : State) : Bool :=
  s.dev.state == .off || s.dev.state == .reset || (s.dev.state == .standby && !s.dev.powered) || s.fynen.silent

/-- Raise an event (12 R456): logged, posted, signalled on vector 255, and sent to node 0, or later when Fynen is silent (14 R500). (log 9, DESIGN CHOICE) -/
def State.event (s : State) (code obj detail : Nat) (drill : Bool := false) : State :=
  let f := s.takeFree
  let s := f.2
  let e : EventRec := { seq := s.fynen.eventSeq + 1, beats := BitVec.ofNat 64 f.1, code := BitVec.ofNat 16 code
                        obj := BitVec.ofNat 16 obj, drill := drill, detail := BitVec.ofNat 64 detail }
  let sent := if s.fynenSilent then 0 else 1
  let s := { s with fynen := { s.fynen with log := (e :: s.fynen.log).take 1024, eventSeq := e.seq
                                            unacked := s.fynen.unacked ++ [(e.seq, sent)] } }
  let s := s.msix 255
  if sent = 0 then s else s.emit (.fynen .t1s (msgWithTag e.message s.fynen.keyMgmt s.fynen.epochId))

/-- An event whose DETAIL the spec leaves open: a free value. (log 11, DESIGN CHOICE) -/
def State.eventD (s : State) (code obj : Nat) (drill : Bool := false) : State :=
  let f := s.takeFree
  f.2.event code obj (f.1 % 2 ^ 64) drill

/-- Bits numbered from 0. -/
def bitsOf (n : Nat) (f : Nat → Bool) : Nat := (List.range n).foldl (fun a i => if f i then a + 2 ^ i else a) 0

/-- The codes of the device (12 Table 15 and the class tables it names): the first of each run, and how many follow on from it. (log 11, DESIGN CHOICE) -/
def codeRuns : List (Nat × Nat) :=
  [(0x0101, 10), (0x0201, 7), (0x0301, 13), (0x0401, 23), (0x0480, 1), (0x04FE, 1), (0x0501, 1), (0x0601, 2), (0x0701, 14), (0x0801, 1), (0x0901, 1),
   (0x0903, 6), (0x0A01, 9), (0x0B01, 8), (0x0C01, 16), (0x0D01, 3)]

def deviceCodes : List Nat := codeRuns.flatMap (fun r => (List.range r.2).map (r.1 + ·))

/-- An error code that the spec leaves open: free among those of the device (12 R460). (log 11, DESIGN CHOICE) -/
def openCode (n : Nat) : Nat := deviceCodes.getD (n % deviceCodes.length) 0x0101

/-- An event whose CODE and DETAIL the spec leaves open: free values. (log 11, DESIGN CHOICE) -/
def State.eventOpen (s : State) (obj : Nat) : State :=
  let f := s.takeFree
  f.2.eventD (openCode f.1) obj

/-! ## Health (11 R418 to R422) -/

/-- The health score. -/
def State.health (s : State) : Nat := 1000 - (s.resil.deductions.map (fun d => d.2.1)).sum

/-- A warning event of the reference firmware (11 R404). -/
def State.warning (s : State) : State := s.eventOpen 0x6012

/-- A spare has been consumed (11 R404). -/
def State.spareUsed (s : State) : State := if s.objGet 0x6012 1 = 1 then s.warning else s

/-- The health state follows the score (11 R419, R422); a device SICK with no budget is DEGRADED_SERVE, raises an event and a warning. -/
def State.healthUpdate (s : State) : State :=
  let h := s.objGet 0x6050 4
  let v := s.health
  if h = 3 then s
  else if h = 0 then
    if v < s.objGet 0x6050 1 then
      if s.objGet 0x6050 3 = 0 then ((s.objSet 0x6050 4 2).eventOpen 0x6050).warning else s.objSet 0x6050 4 1
    else s
  else if s.objGet 0x6050 2 ≤ v && !s.resil.expelling then s.objSet 0x6050 4 0
  else s

/-- The warning for a fall of the score within the hour (11 R404), once an hour. -/
def State.healthWarn (s : State) : State :=
  if !s.resil.warned && decide (s.health + s.objGet 0x6012 3 ≤ s.resil.hourScore) then
    State.warning { s with resil := { s.resil with warned := true } }
  else s

/-- Deduct points for an event of 11 Table 11; during a drill none is made (11 R418). (log 35, DESIGN CHOICE) -/
def State.deduct (s : State) (kind points : Nat) (transient : Bool) : State :=
  if s.resil.drill.isSome then s
  else { s with resil := { s.resil with
      deductions := s.resil.deductions ++ [(kind, points, transient)]
      deducted := if transient then sadd s.resil.deducted kind else s.resil.deducted } }.healthUpdate.healthWarn

/-- A lasting deduction for a condition that counts once while it lasts. -/
def State.deductLasting (s : State) (kind points : Nat) : State :=
  if s.resil.deductions.any (fun d => d.1 == kind && !d.2.2) then s else s.deduct kind points false

/-- A real event of a kind of drill: no drill of that kind runs until an hour has passed (11 R423). (log 35, DESIGN CHOICE) -/
def State.realEvent (s : State) (kind : Nat) : State :=
  { s with resil := { s.resil with recent := s.resil.recent ||| BitVec.twoPow 4 kind } }

/-- The condition of a lasting deduction clears: the deductions of its kind go. -/
def State.undeduct (s : State) (kind : Nat) : State :=
  { s with resil := { s.resil with deductions := s.resil.deductions.filter (fun d => d.1 != kind || d.2.2) } }.healthUpdate

/-! ## Throttling -/

/-- The highest of the four step demands of a quarter (14 R497); a thermal trip holds step 31 (R498). -/
def State.demand (s : State) (q : Nat) : Nat :=
  if s.power.tripped then 31
  else max (max (vget s.power.thermalStep q 0) s.power.powerStep) (max (if s.power.throttleN.asserted || s.power.throttleN.chatter then s.objGet 0x7020 5 else 0) (s.objGet 0x7020 7))

/-- Each quarter runs at its demand. (log 27, DESIGN CHOICE) -/
def State.throttle (s : State) : State :=
  { s with power := { s.power with step := ⟨⟨(List.range 4).map s.demand⟩, by simp⟩ } }

/-! ## Writes of object members -/

/-- Whether the island is up and its vault has no keys: the device has no identity (13 R463). -/
def State.noIdentity (s : State) : Bool := s.dev.powered && s.boot.vault.isNone

/-- Whether an object is served in the present state (12 R457, 13 R462): the ROM serves few, and fewer still when the vault has no keys. (log 21, DEDUCED) -/
def State.serves (s : State) (o : Nat) : Bool :=
  let geometry := decide (0x2000 ≤ o ∧ o ≤ 0x2009)
  if s.noIdentity then geometry || o == 0x1000 || o == 0x1100
  else match s.dev.state with
  | .standby | .recovery => geometry || o == 0x1000 || o == 0x1010 || o == 0x1030 || decide (0x1100 ≤ o ∧ o < 0x2000)
  | _ => true

/-- Why the state of the device stops a write of a member (12 R446, R457); 0 when it does not. (log 21, DEDUCED) -/
def State.writeStop (s : State) (o m : Nat) : Nat :=
  if !s.serves o then 0x010A
  else if s.dev.state = .fault ∧ ¬(m = 0 ∧ (o = 0x6040 ∨ o = 0x6030)) then 0x0205
  else 0

/-- A write of an object member that has a row of its own: silent Fynen takes none; what the state of the device stops is answered. -/
def State.objectRow (s : State) (o m : Nat) (f : State → State) : State :=
  if s.fynenSilent then s
  else
    let c := s.writeStop o m
    if c = 0 then f s else s.reply o m c

/-! ## The address map (06 R193 to R195) -/

def GiB : Nat := 2 ^ 30
def MiB : Nat := 2 ^ 20

/-- Where a local physical address lies. -/
inductive Home where
  | hbm (stack : Nat)
  | scratch (quarter slice : Nat)
  | localMem (core off : Nat)
  deriving DecidableEq, Repr

/-- Bytes of the firmware area of a stack's system tail (06 R195: 12 GiB under the defaults). (log 34, DESIGN CHOICE) -/
def firmwareMiB : Nat := 64

/-- Bytes of the system tail of each stack (06 R195). (log 34, DESIGN CHOICE) -/
def State.tailBytes (s : State) : Nat := (s.objGet 0x3202 0 + s.objGet 0x6010 0 + firmwareMiB) * MiB

/-- Whether a stack is in TEST or FAILED, so that no window reaches it (06 R211, R216). -/
def State.stackOut (s : State) (k : Nat) : Bool := (s.stack k).state == .test || (s.stack k).state == .failed

def State.anyStackOut (s : State) : Bool := (List.range 12).any s.stackOut

/-- The pseudo-channel of the device that a granule of the device-interleaved window reaches, 64 times the stack plus the pseudo-channel in it:
every aligned block of 768 granules reaches each once (06 R198). (log 15, DESIGN CHOICE) -/
def devicePlace (a : Nat) : Nat := (Config.deviceSpread (a / 196608) ⟨a % 196608 / 256, by omega⟩).val

/-- The same in the quarter-interleaved window of a quarter, by the offset in the window: 192 granules, counted from the quarter's first stack. (log 15, DESIGN CHOICE) -/
def quarterPlace (q o : Nat) : Nat := (Config.quarterSpread q (o / 49152) ⟨o % 49152 / 256, by omega⟩).val

/-- The same in the slot of a stack, by the offset in the stack: 64 granules. (log 15, DESIGN CHOICE) -/
def stackPlace (k o : Nat) : Nat := (Config.stackSpread k (o / 16384) ⟨o % 16384 / 256, by omega⟩).val

/-- The pseudo-channel, 0 to 63, of a line of an HBM window in its stack. (log 15, DESIGN CHOICE) -/
def pcOf (ln : Nat) : Nat :=
  let a := 64 * ln
  if a < 2 ^ 40 then devicePlace a % 64
  else if a < 2 ^ 41 then quarterPlace ((a - 2 ^ 40) / 2 ^ 38) ((a - 2 ^ 40) % 2 ^ 38) % 64
  else stackPlace ((a - 2 ^ 41) / 2 ^ 36) ((a - 2 ^ 41) % 2 ^ 36)

/-- Whether the mode switch in progress takes a slice out of scratchpad mode: later accesses are unassigned (06 Table 8). -/
def State.scratchLeaves (s : State) (q sl : Nat) : Bool := match vget s.mem.tunSwitch q [] with
  | (t, mode) :: _ => t == sl && mode != 2
  | [] => false

/-- Where the address map puts a local physical address (06 Table 1), whatever state its stacks are in; none when it is unassigned. (log 15, DESIGN CHOICE) -/
def State.mapped (s : State) (a : Nat) : Option Home :=
  let D := s.objGet 0x4000 0 * GiB
  let Q := s.objGet 0x4000 1 * GiB
  if a < 2 ^ 40 then
    if a < 12 * D then some (.hbm (devicePlace a / 64)) else none
  else if a < 2 ^ 41 then
    let q := (a - 2 ^ 40) / 2 ^ 38
    let o := (a - 2 ^ 40) % 2 ^ 38
    if o < 3 * Q then some (.hbm (3 * q + quarterPlace q o / 64)) else none
  else if a < 0x30000000000 then
    let k := (a - 2 ^ 41) / 2 ^ 36
    let o := (a - 2 ^ 41) % 2 ^ 36
    if k < 12 ∧ D + Q ≤ o ∧ o + s.tailBytes < 64 * GiB then some (.hbm k) else none
  else if a < 0x31000000000 then
    let q := (a - 0x30000000000) / 2 ^ 28
    let sl := (a - 0x30000000000) % 2 ^ 28 / 2 ^ 23
    if q < 4 ∧ a % 2 ^ 23 < 6 * MiB ∧ vget s.mem.tunMode (32 * q + sl) 0 = 2 ∧ s.scratchLeaves q sl = false then some (.scratch q sl) else none
  else
    let n := (a - 0x31000000000) / 2 ^ 22
    if n < 144 then some (.localMem n (a % 2 ^ 22)) else none

/-- The home of a local physical address; none when it is unassigned, as an interleaved window is while any stack is in TEST or FAILED, and a
stack-local one while its own is (06 R211, R216). -/
def State.home (s : State) (a : Nat) : Option Home :=
  match s.mapped a with
  | some (.hbm k) => if (if a < 2 ^ 41 then s.anyStackOut else s.stackOut k) then none else some (.hbm k)
  | h => h

/-- The home quarter of a place (06 R199). -/
def Home.quarter : Home → Nat
  | .hbm k => k / 3
  | .scratch q _ => q
  | .localMem c _ => coreQuarter c

/-- The window of an address by number, to tell whether a range lies in one (06 Table 1); none when unassigned. -/
def State.window (s : State) (a : Nat) : Option Nat :=
  match s.home a with
  | none => none
  | some (.hbm _) => some (if a < 2 ^ 40 then 0 else if a < 2 ^ 41 then 1 + (a - 2 ^ 40) / 2 ^ 38 else 5 + (a - 2 ^ 41) / 2 ^ 36)
  | some (.scratch q sl) => some (17 + 32 * q + sl)
  | some (.localMem c _) => some (145 + c)

/-- Whether a range of bytes is assigned and lies within one window. -/
def State.inOneWindow (s : State) (a n : Nat) : Bool :=
  n == 0 || (match s.window a, s.window (a + n - 1) with
    | some x, some y => x == y
    | _, _ => false)

/-- The local physical address of a local-form global address; none for any other form (06 R193). -/
def localForm (g : Nat) : Option Nat := if g < 2 ^ 42 then some g else none

/-- Endpoint and local address of a remote-form address; none when it is no remote form (08 R283, Table 6). -/
def remoteForm (g : Nat) : Option (Nat × Nat) :=
  if bits g 63 62 = 1 ∧ bits g 61 59 = 0 then some (bits g 58 42, g % 2 ^ 42) else none

/-! ## Reading and raw writing of device memory -/

/-- What a byte that nothing has written reads as (06 R194, R196). (log 14, DESIGN CHOICE) -/
def State.unlisted (s : State) (a : Nat) : Byte :=
  if s.mem.hbm.toList.all (fun k => k.fill == 0) then 0
  else match s.mapped a with
    | some (.hbm k) => if (s.stack k).fill = 0 then 0 else Config.freeHbmByte (s.stack k).fill a
    | _ => 0

/-- The combining entry of a line, in the home quarter's Tun (06 R220). -/
def State.combEntry (s : State) (q ln : Nat) : Option CombEntry := (vget s.mem.comb q []).find? (fun e => e.line == ln)

/-- Merge the selected bytes of a line into another. -/
def mergeLine (old new : Line) (mask : BitVec 64) : Line :=
  lineOf ((List.range 64).map (fun i => if mask.getLsbD i then new.extractLsb' (8 * i) 8 else old.extractLsb' (8 * i) 8))

/-- Every byte selected. -/
def fullMask : BitVec 64 := BitVec.allOnes 64

/-- A line of device memory by its line number, with its poison, as any reader sees it (06 R207, R221). -/
def State.line (s : State) (ln : Nat) : Line × Bool :=
  match s.home (64 * ln) with
  | none => (0, false)
  | some (.localMem c o) => (lineOf (mgetN zeroByte (s.core c).lmem o 64), (s.core c).lPoison.contains (o / 64))
  | some (.scratch _ _) => (lineOf (mgetN zeroByte s.mem.cells (64 * ln) 64), s.mem.poison.contains ln)
  | some (.hbm k) =>
    let d := lineOf (mgetN s.unlisted s.mem.cells (64 * ln) 64)
    match s.combEntry (k / 3) ln with
    | some e => (mergeLine d e.data e.mask, s.mem.poison.contains ln || e.poison)
    | none => (d, s.mem.poison.contains ln)

/-- Bytes of device memory from a local physical address. -/
def State.view (s : State) (a n : Nat) : List Byte :=
  ((((List.range (ceilDiv (a % 64 + n) 64)).flatMap (fun i => lineBytes (s.line (a / 64 + i)).1)).drop (a % 64)).take n)

/-- Whether any line of a range is poisoned. -/
def State.viewPoison (s : State) (a n : Nat) : Bool :=
  n != 0 && (List.range (ceilDiv (a % 64 + n) 64)).any (fun i => (s.line (a / 64 + i)).2)

/-- Write the selected bytes of a line of HBM to its store with its poison. -/
def State.putHbm (s : State) (ln : Nat) (d : Line) (mask : BitVec 64) (poison : Bool) : State :=
  let m := mergeLine (lineOf (mgetN s.unlisted s.mem.cells (64 * ln) 64)) d mask
  { s with mem := { s.mem with cells := msetN s.unlisted s.mem.cells (64 * ln) (lineBytes m)
                               poison := sput s.mem.poison ln (poison || (mask != fullMask && s.mem.poison.contains ln)) } }

/-- Write the selected bytes of a line to its store with its poison: a full clean write clears poison, a partial write keeps it (06 R207). -/
def State.putLine (s : State) (ln : Nat) (d : Line) (mask : BitVec 64) (poison : Bool) : State :=
  match s.home (64 * ln) with
  | none => s
  | some (.localMem c o) =>
    let x := s.core c
    let m := mergeLine (lineOf (mgetN zeroByte x.lmem o 64)) d mask
    s.setCore c { x with lmem := msetN zeroByte x.lmem o (lineBytes m)
                         lPoison := sput x.lPoison (o / 64) (poison || (mask != fullMask && x.lPoison.contains (o / 64))) }
  | some (.scratch _ _) =>
    let m := mergeLine (lineOf (mgetN zeroByte s.mem.cells (64 * ln) 64)) d mask
    { s with mem := { s.mem with cells := msetN zeroByte s.mem.cells (64 * ln) (lineBytes m)
                                 poison := sput s.mem.poison ln (poison || (mask != fullMask && s.mem.poison.contains ln)) } }
  | some (.hbm _) => s.putHbm ln d mask poison

/-- The copy that HBM or a scratchpad slice holds of a line goes bad: its bytes are free, and it is poisoned. -/
def State.poisonStored (s : State) (ln : Nat) : State :=
  let t := s.mem.fillNext
  let d := (List.range 64).map (fun i => Config.freeHbmByte t (64 * ln + i))
  s.modMem (fun m => { m with cells := msetN s.unlisted m.cells (64 * ln) d, poison := sadd m.poison ln, fillNext := t + 1 })

/-- Poison a line where it is stored; its data bytes are then undefined (06 R205), so they become free bytes. -/
def State.poisonLine (s : State) (ln : Nat) : State :=
  match s.mapped (64 * ln) with
  | none => s
  | some (.localMem c o) => s.modCore c (fun x => { x with lPoison := sadd x.lPoison (o / 64) })
  | some _ => s.poisonStored ln

/-! ## HBM accesses and their errors (06 R202 to R205, R211, R212) -/

/-- Queue a channel for retraining, once (06 R212, R213). (log 35, DESIGN CHOICE) -/
def State.queueRetrain (s : State) (k ch : Nat) : State :=
  s.modStack k (fun x => if x.retrainQ.contains ch then x else { x with retrainQ := x.retrainQ ++ [ch] })

/-- Whether two FP32 temperatures differ by at least a threshold. -/
def driftReached (a b t : BitVec 32) : Bool := (f32 t.toNat).le (((f32 a.toNat).add (f32 b.toNat).neg).abs)

/-- The channels of a stack whose temperature has moved from their stamp by the drift threshold (06 R213). -/
def State.drifted (s : State) (k : Nat) : List Nat :=
  (List.range 32).filter (fun c => driftReached ((s.stack k).stamps.getD c 0) (s.stack k).temp (BitVec.ofNat 32 (s.objGet 0x4004 0)))

/-- The drift check of a stack (06 R213). -/
def State.checkDrift (s : State) (k : Nat) : State := s.each (s.drifted k) (fun s c => s.queueRetrain k c)

/-- A drift check is made every 32 beats, so 1,024 of them end the 32,768 beats in which a stack counts corrections (06 R212, R213). (log 35, DESIGN CHOICE) -/
def Stack.ticked (x : Stack) : Stack := if x.checks < 1023 then { x with checks := x.checks + 1 } else { x with checks := 0, pinCounts := [] }

/-- Open the retraining window of an ACTIVE stack for its first queued channel (06 R214). -/
def State.openWindow (s : State) (k : Nat) : State :=
  let x := s.stack k
  match x.retrainQ, x.window, x.state with
  | c :: r, none, .active => s.setStack k { x with retrainQ := r, window := some { chan := c, slices := 0, offline := false, complete := false }, state := .retrain }
  | _, _, _ => s

/-- A stack leaves self-refresh (14 R489): after a long stay it is checked for drift first, and a window opens when the drift calls for one; how long
it stayed is free. (log 27, DESIGN CHOICE) -/
def State.wakeStack (s : State) (k : Nat) : State :=
  if (s.stack k).state = .selfRefresh then
    let t := s.mem.fillNext
    let s := (s.modStack k (fun x => { x with state := .active })).modMem (fun m => { m with fillNext := t + 1 })
    if Config.sleptLong t && !(s.drifted k).isEmpty then (s.checkDrift k).openWindow k else s
  else s

/-- Count a correction against its pin (06 R204, R212): at the flag threshold the pin is flagged, once, and, under the default policy, its
channel queued; when the counts of the device rise above the warning
level the health score is lowered and a warning raised (11 R404, R418). (log 35, DESIGN CHOICE) -/
def State.pinCorrected (s : State) (k ch pin : Nat) : State :=
  let key := 128 * ch + pin
  let n := tget 0 (s.stack k).pinCounts key + 1
  let s := s.modStack k (fun x => { x with pinCounts := tset 0 x.pinCounts key n })
  let above := decide (s.objGet 0x6012 0 < (s.mem.hbm.toList.map (fun (x : Stack) => (x.pinCounts.map (·.2)).sum)).sum)
  let s := if above && !s.resil.corrWarned then (s.deduct 4 20 true).warning else s
  let s : State := { s with resil := { s.resil with corrWarned := above } }
  if s.objGet 0x4003 12 ≤ n && !(s.stack k).flagged.contains (ch, pin) then
    let s := s.modStack k (fun x => { x with flagged := x.flagged ++ [(ch, pin)] })
    if s.objGet 0x4003 13 = 1 then s.queueRetrain k ch else s
  else s

/-- The pins of a pseudo-channel that are in error in every sector: one in service as ECC-covered, one whose lane has changed until the background
rewrite is over (06 R211, R212). -/
def Stack.badPins (x : Stack) (pc : Nat) : List Nat := ((x.eccCovered ++ x.rewriting).filter (fun p => p.1 == pc)).map (·.2)

/-- Bytes of a line that one of its sectors holds. -/
def sectorMask (sector : Nat) : BitVec 64 := if sector = 0 then 0xFFFFFFFF else 0xFFFFFFFF00000000

/-- Whether a Tun slice or an adder holds the line whole, so that accesses do not reach HBM (06 R221, R230). -/
def State.heldAbove (s : State) (ln : Nat) : Bool := s.mem.adder.contains ln || (match s.mapped (64 * ln) with
  | some (.hbm k) => (vget s.mem.cache (k / 3) []).any (fun (x : CacheLine) => x.line == ln)
  | _ => false)

/-- A line is found uncorrectable in HBM (06 R205): counted when it was not poisoned before, and poisoned; where the Tun or an adder holds the
line, its copy there stays good. (log 46, DESIGN CHOICE) -/
def State.hbmUncorrectable (s : State) (ln : Nat) (scrub : Bool) : State :=
  let known := s.mem.poison.contains ln || s.mem.hidden.contains ln
  let s := if known then s else (s.bump 0x4002 1 1).bump 0x4002 2 (if scrub then 1 else 0)
  if s.heldAbove ln then s.modMem (fun m => { m with hidden := sadd m.hidden ln })
  else if (s.mapped (64 * ln)).isNone then s
  else s.poisonStored ln

/-- A sector whose error went undetected: its bytes become free ones (06 R203), unless the line is held above. (log 46, DESIGN CHOICE) -/
def State.scrambleSector (s : State) (ln sector : Nat) : State :=
  if s.heldAbove ln then s
  else
    let t := s.mem.fillNext
    let d := lineOf ((List.range 64).map (fun i => Config.freeHbmByte t (64 * ln + i)))
    let m := mergeLine (lineOf (mgetN s.unlisted s.mem.cells (64 * ln) 64)) d (sectorMask sector)
    s.modMem (fun m' => { m' with cells := msetN s.unlisted m'.cells (64 * ln) (lineBytes m), fillNext := t + 1 })

/-- What the code of a sector makes of the symbols in error (06 R203 to R205, R211): one is corrected and counted, in object 0x4002.0 unless its pin
is the ECC-covered one; two or three poison the line, and so do more, unless they go undetected. (log 46, DESIGN CHOICE) -/
def State.sectorError (s : State) (k ln sector : Nat) (pins : List Nat) (scrub : Bool) : State :=
  let pc := pcOf ln
  let x := s.stack k
  match (pins ++ x.badPins pc).eraseDups with
  | [] => s
  | [p] => (if x.eccCovered.contains (pc, p) then s else s.bump 0x4002 0 1).pinCorrected k (pc / 2) (36 * (pc % 2) + p)
  | _ :: l =>
    if l.length < 3 then s.hbmUncorrectable ln scrub
    else
      let f := s.takeFree
      if f.1 % 2 = 1 then f.2.scrambleSector ln sector else f.2.hbmUncorrectable ln scrub

/-- The symbols in error that a sector of a line holds. -/
def badSymbols (ln sector : Nat) (e : Nat × StoreError) : List Nat := match e.2 with
  | .hbm sec pins => if e.1 = ln ∧ sec.val = sector then pins.map (·.val) else []
  | _ => []

/-- Some sectors of a line are read in its stack, which leaves self-refresh for it (06 R202, 14 R489): what they hold in error, and the pins of the
pseudo-channel that are in error in every sector, are met (06 R203 to R205, R211, R212). (log 46, DESIGN CHOICE) -/
def State.readSectors (s : State) (k ln : Nat) (sectors : List Nat) (scrub : Bool) : State :=
  let s := s.wakeStack k
  if s.mem.errors.isEmpty && (s.stack k).eccCovered.isEmpty && (s.stack k).rewriting.isEmpty then s
  else
    let es := s.mem.errors
    (s.modMem (fun m => { m with errors := m.errors.filter (fun e => sectors.all (fun sec => (badSymbols ln sec e).isEmpty)) })).each sectors (fun s sec =>
      s.sectorError k ln sec (es.flatMap (badSymbols ln sec)) scrub)

/-- A line whose copy above is gone is read as HBM holds it (06 R206). (log 46, DESIGN CHOICE) -/
def State.unhide (s : State) (ln : Nat) : State :=
  if s.mem.hidden.contains ln then (s.modMem (fun m => { m with hidden := sdel m.hidden ln })).poisonStored ln else s

/-- An access fetches a line from its stack; an adder that holds the line serves it (06 R230). -/
def State.reachHbm (s : State) (k ln : Nat) : State :=
  if s.mem.adder.contains ln then s else ((s.unhide ln).readSectors k ln [0, 1] false)

/-- Blocks in the priority buffer of a quarter, which has 256 places (11 R398). -/
def State.prioUsed (s : State) (q : Nat) : Nat := (s.rack.prio.filter (fun (p : PrioBlock) => (4096 * p.block - 2 ^ 41) / 2 ^ 36 / 3 == q)).length

/-- Whether a full priority buffer holds the writes that need a place in it. -/
def State.prioFull (s : State) (q : Nat) : Bool := !s.rack.prio.isEmpty && decide (256 ≤ s.prioUsed q)

/-- Whether a write of a line meets a racked block that the epoch has not copied (11 R398). -/
def State.mustCopy (s : State) (ln : Nat) : Bool :=
  let b := ln / 64
  s.rack.state = 1 && s.rack.list.any (fun (r : RackRange) => decide (r.start ≤ 4096 * b ∧ 4096 * b < r.start + r.length)) && !s.rack.copied.contains b

/-- Whether a retraining slice has taken a channel, 32 times its stack plus its number, offline; from 384 on, whether the priority buffer of a quarter is
full. -/
def State.chanOffline (s : State) (c : Nat) : Bool := if 384 ≤ c then s.prioFull (c - 384) else match (s.stack (c / 32)).window with
  | some w => w.offline && w.chan == c % 32
  | none => false

/-- The stack of a stack-local address. -/
def stackOf (a : Nat) : Nat := (a - 2 ^ 41) / 2 ^ 36

/-- The stack of a line of a system tail, which no window reaches (06 R195). -/
def State.tailStack (s : State) (ln : Nat) : Option Nat :=
  let a := 64 * ln
  let o := (a - 2 ^ 41) % 2 ^ 36
  if 2 ^ 41 ≤ a ∧ stackOf a < 12 ∧ 64 * GiB ≤ o + s.tailBytes ∧ o < 64 * GiB then some (stackOf a) else none

/-- The channel of an HBM line, or of a line of a system tail. -/
def State.channelOf (s : State) (ln : Nat) : Option Nat := match s.home (64 * ln), s.tailStack ln with
  | some (.hbm k), _ => some (32 * k + pcOf ln / 2)
  | none, some k => some (32 * k + pcOf ln / 2)
  | _, _ => none

/-! ## Tun (06 R219 to R225) -/

/-- The slices of a quarter in a mode. -/
def State.slicesOf (s : State) (q m : Nat) : List Nat := (List.range 32).filter (fun i => vget s.mem.tunMode (32 * q + i) 0 == m)

/-- How many slices of a quarter are in a mode. -/
def State.slicesIn (s : State) (q m : Nat) : Nat := (s.slicesOf q m).length

/-- The cache slice of a line, by the first hash over the quarter's cache slices, and the set in it (06 R220, R221). (log 33, DESIGN CHOICE) -/
def State.cacheSet (s : State) (q ln : Nat) : Nat × Nat :=
  let l := s.slicesOf q 0
  (l.getD (Config.cacheHash l.length ln % l.length) 0, Config.cacheSet ln % 6144)

/-- The combining slice of a line, by the second hash (06 R220). (log 33, DESIGN CHOICE) -/
def State.combSlice (s : State) (q ln : Nat) : Nat :=
  let l := s.slicesOf q 1
  l.getD (Config.combHash l.length ln % l.length) 0

/-- Remove a combining entry. -/
def State.dropEntry (s : State) (q ln : Nat) : State :=
  if (s.combEntry q ln).isSome then
    (s.modMem (fun m => { m with comb := vmod m.comb q (fun l => l.filter (fun e => e.line != ln)) })).bump 0x4012 7 1
  else s

def State.cached (s : State) (q ln : Nat) : Bool := (vget s.mem.cache q []).any (fun (x : CacheLine) => x.line == ln)

/-- Whether the quarter's cache slices allocate: not while a switch out of cache mode is in progress (06 Table 8). -/
def State.allocates (s : State) (q : Nat) : Bool := s.slicesIn q 0 != 0 && (match vget s.mem.tunSwitch q [] with
  | (t, mode) :: _ => !(vget s.mem.tunMode (32 * q + t) 0 == 0 && mode != 0)
  | [] => true)

/-- The line that leaves a full set (06 R221): one marked to go first, else one that is not KEEP, else any; which of them is free. (log 33, DESIGN CHOICE) -/
def victimOf (l : List CacheLine) (n : Nat) : List Nat :=
  let first := l.filter (fun x => x.first)
  let plain := l.filter (fun x => !x.keep)
  let c := if !first.isEmpty then first else if !plain.isEmpty then plain else l
  ((c.drop (Config.victim n % c.length)).take 1).map (·.line)

/-- An uncorrectable error of the Tun's copy of a line (06 R225): a combining entry, a dirty line or a scratchpad line is poisoned, a clean line
is fetched again. -/
def State.tunError (s : State) (ln : Nat) : State := match s.mapped (64 * ln) with
  | some (.hbm k) =>
    let q := k / 3
    if (s.combEntry q ln).isSome then
      (s.modMem (fun m => { m with comb := vmod m.comb q (fun l => l.map (fun (c : CombEntry) => if c.line = ln then { c with poison := true } else c)) })).bump 0x4012 5 1
    else if (vget s.mem.cache q []).any (fun (c : CacheLine) => c.line == ln && c.dirty) then (s.poisonStored ln).bump 0x4012 5 1
    else if s.cached q ln then (s.bump 0x4012 4 1).reachHbm k ln
    else s
  | some (.scratch _ _) => (s.poisonStored ln).bump 0x4012 5 1
  | _ => s

/-- An access meets the errors of the Tun's copy of a line; a correctable one is corrected and written back (06 R225). -/
def State.meetTun (s : State) (ln : Nat) : State :=
  if s.mem.errors.isEmpty then s
  else
    let es := s.mem.errors.filter (fun e => e.1 == ln && (e.2 == .tun true || e.2 == .tun false))
    (s.modMem (fun m => { m with errors := m.errors.filter (fun e => !es.contains e) })).each es (fun s e => if e.2 = .tun false then s.tunError ln else s)

/-- What a write of the whole line in HBM replaces: its errors, and its poison there. -/
def State.clearErrors (s : State) (ln : Nat) : State :=
  if s.mem.errors.isEmpty && s.mem.hidden.isEmpty then s
  else s.modMem (fun m => { m with errors := m.errors.filter (fun e => e.1 != ln), hidden := sdel m.hidden ln })

/-- Flush a combining entry by read, merge and write (06 R224); its bytes are lost when the read finds the line uncorrectable. -/
def State.flushEntry (s : State) (q ln : Nat) : State :=
  match (s.meetTun ln).combEntry q ln, s.mapped (64 * ln) with
  | some e, some (.hbm k) =>
    let s := s.meetTun ln
    let t := s.reachHbm k ln
    let lost := t.mem.poison.contains ln && !s.mem.poison.contains ln
    (if lost then t.dropEntry q ln else (t.dropEntry q ln).putHbm ln e.data e.mask e.poison).bump 0x4012 3 1
  | _, _ => s

/-- A dirty line is written back from the Tun or an adder (06 R221, R230): the bytes below are already what every reader sees; the stack is reached,
and what HBM held of the line is replaced. -/
def State.writeBackLine (s : State) (ln : Nat) : State := match s.mapped (64 * ln) with
  | some (.hbm k) => (((s.meetTun ln).wakeStack k).clearErrors ln)
  | _ => s

/-- A line leaves the quarter's cache slices; a clean one leaves what HBM holds. (log 33, DESIGN CHOICE) -/
def State.evict (s : State) (q ln : Nat) : State :=
  let dirty := (vget s.mem.cache q []).any (fun (x : CacheLine) => x.line == ln && x.dirty)
  let s := if dirty then s.writeBackLine ln else s
  (s.modMem (fun m => { m with cache := vmod m.cache q (fun l => l.filter (fun (x : CacheLine) => x.line != ln)) })).unhide ln

/-- Allocate a line in the quarter's cache slices (06 R221): 16 ways, at most 12 of them KEEP, the victim written back. (log 33, DESIGN CHOICE) -/
def State.allocate (s : State) (q ln : Nat) (dirty keep : Bool) : State :=
  let all := vget s.mem.cache q []
  let set := if all.length < 12 then [] else all.filter (fun x => s.cacheSet q x.line == s.cacheSet q ln)
  let keep := keep && decide ((set.filter (fun x => x.keep)).length < 12)
  let out := if set.length < 16 then [] else victimOf set s.mem.evicted
  (s.each out (fun s l => s.evict q l)).modMem (fun m => { m with
    cache := vmod m.cache q (fun l => l ++ [{ line := ln, dirty := dirty, keep := keep, first := false }])
    evicted := m.evicted + out.length })

/-- A line that an access finds or brings into the quarter's cache slices (06 R221): a STREAM hit marks it to go first. (log 33, DESIGN CHOICE) -/
def State.cacheLine (s : State) (q ln : Nat) (dirty : Bool) (cls : Nat) : State :=
  if s.cached q ln then
    s.modMem (fun m => { m with cache := vmod m.cache q (fun l => l.map (fun (x : CacheLine) =>
      if x.line = ln then { x with dirty := x.dirty || dirty, first := x.first || cls == 1 } else x)) })
  else if s.allocates q then s.allocate q ln dirty (cls == 2) else s

/-- A hit or a miss of the quarter's cache slices, when it has any: an atomic counts neither, and an access that finds only a combining entry is a
miss. (log 33, DESIGN CHOICE) -/
def State.countCache (s : State) (q : Nat) (hit : Bool) : State := if s.slicesIn q 0 = 0 then s else s.bump 0x4012 (if hit then 0 else 1) 1

/-- An access to a line wakes the slices that look it up (14 R488). (log 33, DESIGN CHOICE) -/
def State.wakeSlices (s : State) (ln : Nat) : State :=
  if s.mem.tunAsleep.isEmpty then s
  else
    let on := match s.mapped (64 * ln) with
      | some (.hbm k) => [32 * (k / 3) + (s.cacheSet (k / 3) ln).1, 32 * (k / 3) + s.combSlice (k / 3) ln]
      | some (.scratch q sl) => [32 * q + sl]
      | _ => []
    s.modMem (fun m => { m with tunAsleep := m.tunAsleep.filter (fun x => !on.contains x) })

/-- What a read of a line does to the Tun (06 R221): a combining entry is merged, the merged line allocated and the entry freed; a hit is counted;
a miss allocates unless the class is STREAM. (log 33, DESIGN CHOICE) -/
def State.touchRead (s : State) (ln : Nat) (cls : Nat := 0) : State :=
  match s.home (64 * ln) with
  | some (.hbm k) =>
    let q := k / 3
    let s := (s.wakeSlices ln).meetTun ln
    match s.combEntry q ln with
    | some e => ((((s.reachHbm k ln).dropEntry q ln).putHbm ln e.data e.mask e.poison).countCache q false).cacheLine q ln true cls
    | none =>
      if s.cached q ln then (s.cacheLine q ln false cls).countCache q true
      else
        let s := (s.reachHbm k ln).countCache q false
        if cls = 1 then s else s.cacheLine q ln false cls
  | some (.scratch _ _) => (s.wakeSlices ln).meetTun ln
  | _ => s

/-- A read of a range through the Tun. -/
def State.touchRange (s : State) (a n : Nat) (cls : Nat := 0) : State :=
  if n = 0 then s else s.each (List.range (ceilDiv (a % 64 + n) 64)) (fun s i => s.touchRead (a / 64 + i) cls)

/-- Flush the oldest entry of a slice of which fewer than 5,120 entries are free (06 R224). (log 33, DESIGN CHOICE) -/
def State.combPressure (s : State) (q ln : Nat) : State :=
  let all := vget s.mem.comb q []
  if all.length ≤ 81920 - 5120 then s
  else
    let l := all.filter (fun e => s.combSlice q e.line == s.combSlice q ln)
    if l.length ≤ 81920 - 5120 then s
    else match l with
      | e :: _ => if (s.channelOf e.line).any s.chanOffline then s else s.flushEntry q e.line
      | [] => s

/-- A partial write of an HBM line that misses the cache merges into the combining buffer, or is a read and a write (06 R202, R221, R223). -/
def State.combineWrite (s : State) (k ln : Nat) (d : Line) (mask : BitVec 64) (poison : Bool) (cls : Nat := 0) : State :=
  let q := k / 3
  if s.slicesIn q 1 = 0 then ((s.reachHbm k ln).putLine ln d mask poison).cacheLine q ln true cls
  else
    let s := s.meetTun ln
    let old := s.combEntry q ln
    let e : CombEntry := match old with
      | some e => { line := ln, data := mergeLine e.data d mask, mask := e.mask ||| mask, poison := e.poison || poison }
      | none => { line := ln, data := mergeLine 0 d mask, mask := mask, poison := poison }
    let s := match old with
      | some _ => s.modMem (fun m => { m with comb := vmod m.comb q (fun l => l.map (fun (x : CombEntry) => if x.line = ln then e else x)) })
      | none => (s.modMem (fun m => { m with comb := vmod m.comb q (fun l => l ++ [e]) })).bump 0x4012 6 1
    if e.mask = fullMask then ((((s.wakeStack k).dropEntry q ln).clearErrors ln).putLine ln e.data fullMask e.poison).bump 0x4012 2 1
    else s.combPressure q ln

/-- The racked block that a write of a line meets before the epoch has copied it (11 R398): it is read, through its home Tun, into the priority
buffer and marked copied, and the held write is counted. How long it was held is a free value, up to 0.3 us while the buffer has another free
place. (log 35, DESIGN CHOICE) -/
def State.copyFirst (s : State) (ln : Nat) : State :=
  let b := ln / 64
  if s.mustCopy ln then
    let s := s.each (List.range 64) (fun s i => s.touchRead (64 * b + i) 1)
    let p : PrioBlock := { block := b, lines := (List.range 64).map (fun i => s.line (64 * b + i)) }
    let f := State.takeFree { s with rack := { s.rack with copied := sadd s.rack.copied b, prio := s.rack.prio ++ [p] } }
    (f.2.bump 0x6010 13 1).bump 0x6010 14 (if s.prioUsed (stackOf (64 * ln) / 3) < 255 then f.1 % 301 else f.1)
  else s

/-- A write of the selected bytes of a line through its home quarter (06 R199, R202, R221, R223): fabric, collective and memory-side accesses, whose class
the spec does not state, are NORMAL; an entry that a full-line write replaces counts in object 0x4012.7 alone. (log 33, DESIGN CHOICE) -/
def State.tunWrite (s : State) (ln : Nat) (d : Line) (mask : BitVec 64) (poison : Bool) (cls : Nat := 0) : State :=
  if mask = 0 then s
  else match s.home (64 * ln) with
  | some (.hbm k) =>
    let q := k / 3
    let s := ((s.copyFirst ln).wakeSlices ln).countCache q (s.cached q ln)
    if mask = fullMask then
      let s := if s.cached q ln || s.allocates q then s else s.wakeStack k
      (((s.dropEntry q ln).clearErrors ln).putLine ln d mask poison).cacheLine q ln true cls
    else if s.cached q ln then ((s.meetTun ln).putLine ln d mask poison).cacheLine q ln true cls
    else s.combineWrite k ln d mask poison cls
  | some (.scratch _ _) =>
    let s := s.wakeSlices ln
    (if mask = fullMask then s.clearErrors ln else s.meetTun ln).putLine ln d mask poison
  | _ => s.putLine ln d mask poison

/-- A device scan by Grist is counted: its bytes, and whether it met poison (07 R266). -/
def State.deviceScan (s : State) (bytes : Nat) (poisoned : Bool) : State :=
  ((s.bump 0x4050 1 1).bump 0x4050 2 bytes).bump 0x4050 3 (if poisoned then 1 else 0)

/-! ## Channels that a retraining slice has taken offline (06 R214, R215) -/

/-- Lines of a range of bytes. -/
def linesIn (a n : Nat) : List Nat := if n = 0 then [] else (List.range (ceilDiv (a % 64 + n) 64)).map (fun i => a / 64 + i)

/-- Whether any channel is offline or priority buffer full, or requests wait that were for one. -/
def State.retraining (s : State) : Bool :=
  !s.mem.deferred.isEmpty || (List.range 4).any s.prioFull || s.mem.hbm.toList.any (fun (x : Stack) => (x.window.map (fun (w : RetrainWin) => w.offline)).getD false)

/-- The channel that a read of a line needs; none when the line lies in a cache slice. -/
def State.missChan (s : State) (ln : Nat) : Option Nat := match s.home (64 * ln) with
  | some (.hbm k) => if s.cached (k / 3) ln then none else some (32 * k + pcOf ln / 2)
  | _ => none

/-- A place in the priority buffer that a write needs first (11 R398). -/
def State.prioChan (s : State) (ln : Nat) : Option Nat :=
  if s.mustCopy ln && s.prioFull (stackOf (64 * ln) / 3) then some (384 + stackOf (64 * ln) / 3) else none

/-- What an atomic of a line needs: its channel, or the place in the priority buffer. -/
def State.adderChan (s : State) (ln : Nat) : Option Nat := (s.prioChan ln).or (s.channelOf ln)

/-- What a write of a line needs: a place in a full priority buffer, or its channel; none when the quarter's Tun takes it. -/
def State.writeChan (s : State) (ln : Nat) (mask : BitVec 64) : Option Nat := match s.home (64 * ln) with
  | some (.hbm k) =>
    let q := k / 3
    if (s.prioChan ln).isSome then s.prioChan ln
    else if s.cached q ln || s.slicesIn q (if mask = fullMask then 0 else 1) != 0 then none else some (32 * k + pcOf ln / 2)
  | _ => none

/-- Whether a unit's accesses must wait: a channel that one of them needs is offline, or requests that came before wait for it (06 R214). (log 47, DESIGN CHOICE) -/
def State.offline (s : State) (lines : List Nat) (need : Nat → Option Nat) : Bool :=
  s.retraining && (lines.filterMap need).any (fun c => s.chanOffline c || (!s.mem.serving && s.mem.deferred.any (fun d => d.2.contains c)))

/-- The requests of a command: they go on at once, or wait with the command while a channel that one of them needs is offline and, in their order of
arrival, behind those that wait for a channel of theirs (06 R214, R215). (log 47, DESIGN CHOICE) -/
def State.access (s : State) (c : Instr) (lines : List Nat) (need : Nat → Option Nat) (f : State → State) : State :=
  if !s.retraining || s.mem.serving then f s
  else
    let ch := lines.filterMap s.channelOf ++ (lines.filterMap need).filter (fun c => 384 ≤ c)
    if s.offline lines need || s.mem.deferred.any (fun d => d.2.any ch.contains) then s.modMem (fun m => { m with deferred := m.deferred ++ [(c, ch)] })
    else f s

/-- The first waiting command whose channels are all online and for which no earlier one waits. (log 47, DESIGN CHOICE) -/
def firstReady {α : Type} (off : Nat → Bool) : List (α × List Nat) → List Nat → Option (α × List Nat)
  | [], _ => none
  | d :: r, seen => if d.2.any (fun c => off c || seen.contains c) then firstReady off r (seen ++ d.2) else some d

/-! ## Sync counters (09) -/

def State.counter (s : State) (n : Nat) : Counter := tget Counter.reset s.sync.counters (n % 65536)

def State.setCounter (s : State) (n : Nat) (x : Counter) : State :=
  { s with sync := { s.sync with counters := tset Counter.reset s.sync.counters (n % 65536) x } }

/-- Owner of a counter block: a job, 0xFE orphaned, 0xFF free (09 R310). -/
def State.blockOwner (s : State) (b : Nat) : Nat := tget 0xFF s.sync.owners b

def State.setBlockOwner (s : State) (b o : Nat) : State := { s with sync := { s.sync with owners := tset 0xFF s.sync.owners b o } }

def State.counterOwner (s : State) (n : Nat) : Nat := s.blockOwner (n % 65536 / 256)

/-- The add of 09 R311 on one counter. -/
def Counter.add (c : Counter) (a : Int) : Counter :=
  let v := (c.val.toNat : Int) + a
  if 0xFFFFFFFF < v then { c with val := 0xFFFFFFFF, ovf := true }
  else if v < 0 then { c with val := 0, unf := true }
  else { c with val := BitVec.ofNat 32 v.toNat }

/-- An add to a counter (09 R311, R315): a free or orphaned block takes none. -/
def State.counterAdd (s : State) (n : Nat) (a : Int) : State :=
  let s := s.bump 0x5040 2 1
  if s.counterOwner n < 8 then
    let c := s.counter n
    let v := (c.val.toNat : Int) + a
    let s := (s.setCounter n (c.add a)).bump 0x5040 3 1
    if 0xFFFFFFFF < v then s.bump 0x5040 5 1 else if v < 0 then s.bump 0x5040 6 1 else s
  else s.bump 0x5040 4 1

def State.slot (s : State) (n : Nat) : Slot := tget Slot.reset s.sync.slots n

def State.setSlot (s : State) (n : Nat) (x : Slot) : State := { s with sync := { s.sync with slots := tset Slot.reset s.sync.slots n x } }

def State.slotOwner (s : State) (n : Nat) : Nat := tget 0xFF s.sync.slotOwners n

def State.setSlotOwner (s : State) (n o : Nat) : State := { s with sync := { s.sync with slotOwners := tset 0xFF s.sync.slotOwners n o } }

/-- The rounding salt: object 0x3100.0 of this device, in a guest run too, so that a partner with another salt departs from the suspect (02
R60, R63). -/
def State.salt (s : State) : Nat := s.objGet 0x3100 0

/-! ## Checks reported to a quarter gate (01 R25, 10 R361, R369) -/

/-- A reason of 10 Table 6 raised in a quarter: for the run, or, after that quarter's gate has reported, as a late report
(reason 7) that counts against the next step (01 R25). (log 41, DESIGN CHOICE) -/
def State.reason (s : State) (q code : Nat) : State :=
  if s.esc.reported.getLsbD q then { s with esc := { s.esc with late := s.esc.late ++ [code, 7] } }
  else { s with esc := { s.esc with reasons := s.esc.reasons ++ [code] } }

/-- The gated job (10 R354). -/
def State.gatedJob (s : State) : Nat := s.objGet 0x3201 0

end Sys2Proof.Machine
end

