-- ==== Sys2Proof/Machine/Ledger.lean ====
section
/-! DEFINITION. The step ledger and the run digests (10 R357, R364 to R371): records and their sizes, what a rollback restores. -/

namespace Sys2Proof.Machine

/-- Whether a step of the gated job is open, so that its traffic is digested and recorded (10 R357, R366). -/
def State.stepOpenFor (s : State) (j : Nat) : Bool := j == s.gatedJob && s.esc.record.isSome

/-- A local run of the gated job is in progress (10 R371). -/
def State.inLocalRun (s : State) : Bool := s.esc.localRun && s.esc.record.isSome && (s.esc.phase == .compute || s.esc.phase == .guest)

/-- An infinity that a unit of a quarter has made from finite terms for the gated job is reported to its gate as an overflow (02 R59). (log 44, DESIGN CHOICE) -/
def State.infReport (s : State) (q job : Nat) (inf : Bool) : State := if inf && s.stepOpenFor job then s.reason q 3 else s

/-- The step number as the STEP register reads it (04 Table 6): that of the open step, else of the last committed one. -/
def State.stepNumber (s : State) : Word := match s.esc.record with
  | some r => r.step
  | none => s.esc.committed

def State.modEsc (s : State) (f : Esc → Esc) : State := { s with esc := f s.esc }

/-- Bytes of one record in its share: header and payload (10 R365). (log 29, DESIGN CHOICE) -/
def LedgerRec.size (r : LedgerRec) : Nat := 64 + 64 * r.payload.length

/-- Bytes 0 to 59 of a record's header (10 Table 5). -/
def LedgerRec.header (r : LedgerRec) : List Byte :=
  leBytes r.kind 1 ++ leBytes r.flags.toNat 1 ++ leBytes r.stack 1 ++ leBytes r.run 1 ++ leBytes (64 * r.payload.length) 4 ++ leBytes r.step.toNat 8 ++
  leBytes r.addr 8 ++ leBytes r.source.toNat 4 ++ leBytes r.outSeq.toNat 4 ++ leBytes r.seq 8 ++ leBytes r.ptype 1 ++ leBytes r.sub 1 ++ leBytes 0 18

/-- HCRC: CRC-32C over bytes 0 to 59 of the header (10 Table 5). -/
def LedgerRec.crc (r : LedgerRec) : BitVec 32 := BitVec.ofNat 32 (crc32c r.header)

/-- A record as it is written, with its HCRC. -/
def LedgerRec.closed (r : LedgerRec) : LedgerRec := { r with hcrc := r.crc }

/-- Whether a record can be used for a replay: its HCRC is right and no line of its payload has gone bad in the share. An UNDO record that has restores
poisoned lines (10 R370), and an INPUT record whose packet came poisoned, which its flag says, is consumed by the run (10 R380). (log 29, DESIGN CHOICE) -/
def LedgerRec.usable (r : LedgerRec) : Bool := r.hcrc == r.crc && (r.kind == 6 || !r.spoilt)

/-- Whether the step holds a record that cannot be used for a replay (10 R368). -/
def State.ledgerBad (s : State) : Bool := s.esc.ledger.any (fun (r : LedgerRec) => !r.usable)

/-- Bytes in use in the share of a stack, with its header page (10 R364). -/
def State.shareUsed (s : State) (k : Nat) : Nat :=
  4096 + ((s.esc.ledger.filter (fun (r : LedgerRec) => r.stack == k)).map LedgerRec.size).sum

/-- Bytes of a ledger share (10 R364). -/
def State.shareSize (s : State) : Nat := s.objGet 0x3202 0 * MiB

/-- Whether an INPUT record of a whole-line write, a COLL DATA packet or READ_DATA continues one: of the same operation or request (10 R366). -/
def LedgerRec.follows (r n : LedgerRec) : Bool := match r.ptype with
  | 4 => r.arg == n.arg
  | 17 => r.pos == n.pos
  | t => r.sub == 0 && (t == 0 || t == 0xFF)

/-- Whether an INPUT packet continues a record: same source, consecutive addresses, same OUT_SEQ, up to 64 lines (10 R366). -/
def LedgerRec.joins (r n : LedgerRec) : Bool :=
  r.kind == 5 && n.kind == 5 && r.stack == n.stack && r.source == n.source && r.outSeq == n.outSeq && r.ptype == n.ptype &&
  r.sub == n.sub && r.run == n.run && r.flags == n.flags && r.follows n && !r.payload.isEmpty && !n.payload.isEmpty &&
  r.addr + 64 * r.payload.length == n.addr && decide (r.payload.length + n.payload.length ≤ 64)

/-- Add to the last record where it continues it, otherwise write a new record. -/
def ledgerPut : List LedgerRec → LedgerRec → List LedgerRec
  | [], n => [n]
  | [r], n => if r.joins n then [LedgerRec.closed { r with payload := r.payload ++ n.payload }] else [r, n]
  | r :: rs, n => r :: ledgerPut rs n

/-- Write a record of the open step; the flag says that it was not written: it did not fit (10 R367), or its stack is in TEST or FAILED, so that no
access reaches the share (06 R216). (log 29, DESIGN CHOICE) -/
def State.ledgerAdd (s : State) (r : LedgerRec) : State × Bool :=
  let k := (s.esc.ledger.filter (fun (x : LedgerRec) => x.stack == r.stack)).length
  let n : LedgerRec := { r with run := s.esc.run, step := (s.esc.record.map (·.step)).getD 0, seq := k }
  let l := ledgerPut s.esc.ledger n.closed
  let t := s.modEsc (fun e => { e with ledger := l })
  if s.shareSize < t.shareUsed r.stack || s.stackOut r.stack then (s, true) else (t, false)

/-- A record with no fields beyond its kind, stack, address and payload. (log 29, DESIGN CHOICE) -/
def plainRec (kind stack addr : Nat) (payload : List Line) : LedgerRec :=
  { kind := kind, flags := 0, stack := stack, run := 0, step := 0, addr := addr, source := 0, outSeq := 0, ptype := 0, sub := 0
    seq := 0, pos := 0, arg := 0, payload := payload, hcrc := 0, spoilt := false }

/-- The stack whose share takes the INPUT record of a destination (10 R366). -/
def State.inputStack (s : State) (a : Nat) : Nat :=
  match s.home a with
  | some (.hbm k) => k
  | some h => 3 * h.quarter
  | none => 0

/-- Whether an address lies in an input window of the open step (10 R366). -/
def State.inWindow (s : State) (a : Nat) : Bool :=
  match s.esc.record with
  | some r => r.inwins.any (fun w => decide (w.1 ≤ a ∧ a < w.1 + w.2))
  | none => false

/-- An INPUT record (10 R366). (log 29, DESIGN CHOICE) -/
def inputRec (stack addr : Nat) (source : BitVec 32) (outSeq : BitVec 32) (ptype sub pos : Nat) (arg : BitVec 32) (poison : Bool)
    (payload : List Line) : LedgerRec :=
  { plainRec 5 stack addr payload with source := source, outSeq := outSeq, ptype := ptype, sub := sub, pos := pos, arg := arg
                                       flags := if poison then 1 else 0 }

/-! ## Digests (10 R357) -/

/-- Bits of a packet's header (08 Table 7). -/
def packetHeader (p : Packet) : Nat :=
  p.addr.toNat + 2 ^ 42 * p.rsv.toNat + 2 ^ 76 * p.arg.toNat + 2 ^ 108 * p.tag.toNat + 2 ^ 124 * p.status.toNat +
  2 ^ 132 * p.sub.toNat + 2 ^ 136 * p.hops.toNat + 2 ^ 142 * p.poison.toNat + 2 ^ 146 * p.len.toNat +
  (if p.plane then 2 ^ 149 else 0) + 2 ^ 150 * p.order.toNat + (if p.vc then 2 ^ 152 else 0) + 2 ^ 153 * p.type.toNat +
  2 ^ 158 * p.src.toNat + 2 ^ 175 * p.dst.toNat

/-- What a packet adds to the outbound digest. (log 29, DESIGN CHOICE) -/
def odOf (p : Packet) : Word :=
  let h := leBytes (packetHeader { p with plane := false, hops := 0, tag := 0, poison := 0 }) 24
  if p.payload.isEmpty then BitVec.ofNat 64 (crc64 h)
  else p.payload.foldl (fun acc l => acc + BitVec.ofNat 64 (crc64 (h ++ lineBytes l))) 0

/-- What a line write of Kiln adds to the update digest. (log 29, DESIGN CHOICE) -/
def udOf (ln : Nat) (d : Line) : Word := BitVec.ofNat 64 (crc64 (leBytes (64 * ln) 8 ++ lineBytes d))

/-- Whether the guest run of another device's step is in progress (10 R372). -/
def State.guesting (s : State) : Bool := s.esc.phase == .guest && s.esc.guestOf.isSome

/-! ## Rollback (10 R370) -/

/-- Put a line back as it was, whatever the combining buffer holds for it. (log 29, DESIGN CHOICE) -/
def State.undoLine (s : State) (ln : Nat) (d : Line) (bad : Bool) : State :=
  match s.home (64 * ln) with
  | some h => (s.dropEntry h.quarter ln).putLine ln d fullMask bad
  | none => s

/-- Restore the lines of one UNDO record; a poisoned record restores poisoned lines, counted in object 0x3204.11. -/
def State.undo (s : State) (r : LedgerRec) : State :=
  let bad := r.flags.getLsbD 0 || r.spoilt
  let s := s.each r.payload.zipIdx (fun s (x : Line × Nat) => s.undoLine (r.addr / 64 + x.2) x.1 bad)
  if bad then s.bump 0x3204 11 r.payload.length else s

/-- Clear the norm and ratio sums of a step (05 R188, R189). -/
def State.clearSums (s : State) : State :=
  { s with kiln := { s.kiln with
      units := s.kiln.units.map (fun (u : KilnUnit) => { u with partSS := 0, globalSS := 0, globalValid := false })
      ratio := s.kiln.ratio.map (fun e => (e.1, { e.2 with sumD := 0, sumW := 0, touched := false })) } }

/-- The counters of a job, as STEP_OPEN snapshots them (10 R359). -/
def State.jobCounters (s : State) (j : Nat) : List (Nat × Counter) := s.sync.counters.filter (fun c => s.counterOwner c.1 == j)

/-- The barrier slots of a job. -/
def State.jobSlots (s : State) (j : Nat) : List (Nat × Slot) := s.sync.slots.filter (fun x => s.slotOwner x.1 == j)

/-- Restore the job's counters, flags and barrier phases from the STEP record (10 R370). -/
def State.restoreCounters (s : State) : State :=
  let j := s.gatedJob
  let s := { s with sync := { s.sync with counters := s.sync.counters.filter (fun c => s.counterOwner c.1 != j) } }
  let s := s.each s.esc.snapshot (fun s c => if s.counterOwner c.1 = j then s.setCounter c.1 c.2 else s)
  s.each s.esc.snapSlots (fun s x => if s.slotOwner x.1 = j then s.setSlot x.1 x.2 else s)

/-- The memory and synchronisation part of a rollback; a record whose HCRC fails says nothing of the lines it covered (10 R368). -/
def State.rollbackData (s : State) : State :=
  ((s.each (s.esc.ledger.filter (fun (r : LedgerRec) => r.kind == 6 && r.hcrc == r.crc)) State.undo).clearSums).restoreCounters

/-- Release every record of the step, keeping the highest use of a share in object 0x3202.1 (10 R363, R367). -/
def State.releaseLedger (s : State) : State :=
  let top := (List.range 12).foldl (fun m k => max m (s.shareUsed k)) 0
  let s := s.objSet 0x3202 1 (ceilDiv top MiB)
  { s with esc := { s.esc with ledger := [], snapshot := [], snapSlots := [], replay := [], inputPos := 0 }
           kiln := { s.kiln with written := [], units := s.kiln.units.map (fun (u : KilnUnit) => { u with ranges := [] }) } }

/-- Packets kept waiting by a local run are taken again (10 R371). -/
def State.releaseIn (s : State) : State :=
  let l := s.fabric.inHeld
  ({ s with fabric := { s.fabric with inHeld := [] } }).each l (fun s p => s.emit (.packet none p))

/-- The Escapement back to IDLE with no step open; the fingerprint slot keeps what the twin wrote. -/
def State.escIdle (s : State) : State :=
  (s.modEsc (fun e => { Esc.reset with committed := e.committed, profile := e.profile, late := e.late, twinFp := e.twinFp
                                       ledger := e.ledger })).releaseIn

end Sys2Proof.Machine
end

