-- ==== Sys2Proof/Machine/FabricOps.lean ====
section
/-! DEFINITION. What every sender of packets shares (08): the packet and its trailer, planes and routes, injection, window tokens,
requests and responses, and the device-group grid (09 R318). -/

namespace Sys2Proof.Machine

/-! ## Packets -/

def State.modFabric (s : State) (f : Fabric → Fabric) : State := { s with fabric := f s.fabric }

/-- The trailer: CRC-32C over header and payload with HOPS and PLANE zero (08 R284). -/
def packetCrc (p : Packet) : BitVec 32 :=
  BitVec.ofNat 32 (crc32c (leBytes (packetHeader { p with hops := 0, plane := false }) 24 ++ p.payload.flatMap lineBytes))

def packetSeal (p : Packet) : Packet := { p with crc := packetCrc p }

/-- Whether the trailer is right (08 R284). -/
def packetCrcOk (p : Packet) : Bool := packetCrc p == p.crc

/-- A packet any of whose lines is poisoned, with every line poisoned, as a link without LINE_POISON carries it (08 R281); a trailer that was right
is formed again. -/
def packetAllPoison (p : Packet) : Packet :=
  if p.poison = 0 then p else if packetCrcOk p then packetSeal { p with poison := 15 } else { p with poison := 15 }

/-- The plane that ORDER selects (08 R286): class 1 hashes DST and SRC, class 0 also ADDR bits [41:8]. (log 16, DESIGN CHOICE) -/
def planeOf (p : Packet) : Bool :=
  let h := p.dst.toNat + 2 ^ 17 * p.src.toNat
  if p.order = 1 then crc32c (leBytes h 5) % 2 == 1
  else crc32c (leBytes (h + 2 ^ 34 * (p.addr.toNat / 256)) 9) % 2 == 1

/-- A packet of this device before it has its plane and trailer. -/
def blankPacket (dst src : BitVec 17) (type : Nat) (order : BitVec 2) (tag : BitVec 16) : Packet :=
  { dst := dst, src := src, type := BitVec.ofNat 5 type, vc := decide (16 ≤ type), order := order, plane := false, len := 0, poison := 0
    hops := 0, sub := 0, status := 0, tag := tag, arg := 0, rsv := 0, addr := 0, payload := [], crc := 0 }

/-- POISON bits of payload lines. -/
def poisonBits (l : List Bool) : BitVec 4 := BitVec.ofNat 4 (l.foldr (fun b acc => 2 * acc + if b then 1 else 0) 0)

/-- Put payload lines with their poison into a packet. -/
def packetLoad (p : Packet) (lines : List Line) (poison : List Bool) : Packet :=
  { p with len := BitVec.ofNat 3 lines.length, payload := lines, poison := poisonBits poison }

/-! ## Coordinates and routes (08 R283, R289, R291) -/

/-- The device's endpoint, once assigned (08 R282). -/
def State.ep (s : State) : Option (BitVec 17) := if s.dev.coordAssigned then some s.dev.coord else none

def epX (e : BitVec 17) : Nat := e.toNat % 16
def epY (e : BitVec 17) : Nat := e.toNat / 16 % 16
def epFloor (e : BitVec 17) : Nat := e.toNat / 256

/-- The reset direction code for a coordinate seen from another (08 R289). -/
def resetCode (c s : Nat) : Nat :=
  let d := (c + 16 - s) % 16
  if d = 0 then 2 else if d ≤ 8 then 0 else 1

/-- The code of a floor table for plane, dimension (false X) and coordinate. -/
def State.floorCode (s : State) (e : BitVec 17) (plane dimY : Bool) (c : Nat) : Nat :=
  if s.fabric.tableA.isEmpty then resetCode c (if dimY then epY e else epX e)
  else (s.fabric.tableA.getD (16 * ((if plane then 2 else 0) + (if dimY then 1 else 0)) + c) 3).toNat

/-- The mask of global planes for a floor (08 R291). -/
def State.floorMask (s : State) (f : Nat) : Nat :=
  if s.fabric.gA.isEmpty then (if f < s.objGet 0x5000 2 then 15 else 0) else (s.fabric.gA.getD f 0).toNat

/-- Where a packet goes next. -/
inductive Route where
  | eject | port (p : Nat) | unreachable
  deriving DecidableEq, Repr

/-- The routing rule (08 R289, R291). -/
def State.route (s : State) (p : Packet) : Route :=
  match s.ep with
  | none => .unreachable
  | some e =>
    if p.dst = e then .eject
    else if epFloor p.dst ≠ epFloor e then
      let planes := (List.range 4).filter (fun g => (s.floorMask (epFloor p.dst)).testBit g)
      if planes.isEmpty then .unreachable
      else .port (8 + planes.getD ((epFloor p.dst + 5 * epX e + 3 * epY e) % planes.length) 0)
    else
      let dimY := epX p.dst == epX e
      let code := s.floorCode e p.plane dimY (if dimY then epY p.dst else epX p.dst)
      if 2 ≤ code then .unreachable
      else .port ((if p.plane then 4 else 0) + (if dimY then 2 else 0) + code)

/-- The port that really carries what is routed to a port: its sibling while it is detoured (08 R301). -/
def State.carrier (s : State) (p : Nat) : Nat := (s.port p).detour.getD p

/-! ## Injection (08 R297, R305) -/

def vcIndex (p : Packet) : Nat := if p.vc then 1 else 0

/-- The THROTTLED state of a request queue follows its thresholds (08 R297). -/
def State.throttleUpdate (s : State) (p : Nat) : State :=
  let n := (vget (s.port p).injQ 0 []).length
  s.modPort p (fun x => { x with throttled := if s.objGet 0x5020 4 < n then true else if n < s.objGet 0x5020 5 then false else x.throttled })

/-- A NACK packet for a request (08 R287). (log 30, DESIGN CHOICE) -/
def nackFor (src : BitVec 17) (q : Packet) (status : Nat) : Packet :=
  packetSeal { blankPacket q.src src 31 q.order q.tag with status := BitVec.ofNat 8 status }

/-- Give a packet of this device to its injection queue, to this device itself, or, where no route exists, a request's answer
0x05 to its source; an undeliverable response is discarded and counted (08 R282, R283, R287, R289). -/
def State.inject (s : State) (p : Packet) : State :=
  let p := packetSeal { p with plane := planeOf p }
  match s.route p with
  | .eject => s.emit (.packet none p)
  | .unreachable => if p.vc then s.bump 0x5030 9 1 else s.emit (.packet none (nackFor p.dst p 5))
  | .port q =>
    let q := s.carrier q
    if (vget (s.port q).injQ (vcIndex p) []).length < 64 then
      (s.modPort q (fun x => { x with injQ := vmod x.injQ (vcIndex p) (fun l => l ++ [p]) })).throttleUpdate q
    else s.modFabric (fun f => { f with held := f.held ++ [p] })

/-- Put responses that found a full injection queue into it, in order. -/
def State.refill (s : State) : State :=
  let h := s.fabric.held
  (s.modFabric (fun f => { f with held := [] })).each h State.inject

/-! ## Requests and window tokens (08 R298) -/

/-- Tokens outstanding to a destination. -/
def State.tokensOut (s : State) (d : BitVec 17) : Nat := ((s.fabric.windows.find? (fun w => w.1 == d)).map (·.2)).getD 0

/-- Whether a request finds its tokens and a window. -/
def State.windowRoom (s : State) (d : BitVec 17) (n : Nat) : Bool :=
  decide (s.tokensOut d + n ≤ 4096) && (s.fabric.windows.any (fun w => w.1 == d) || decide (s.fabric.windows.length < 4096))

/-- Change the tokens outstanding to a destination; a window with none is freed. -/
def State.setTokens (s : State) (d : BitVec 17) (n : Nat) : State :=
  s.modFabric (fun f => { f with windows := (f.windows.filter (fun w => w.1 != d)) ++ (if n = 0 then [] else [(d, n)]) })

/-- A TAG no request in flight uses, from the next one on. -/
def State.freeTag (s : State) : BitVec 16 :=
  let used := fun (t : BitVec 16) => s.fabric.requests.any (fun (r : Request) => r.tag == t)
  if used s.fabric.nextTag then
    (((List.range 65536).map (fun i => s.fabric.nextTag + BitVec.ofNat 16 i)).find? (fun t => !used t)).getD s.fabric.nextTag
  else s.fabric.nextTag

/-- Whether a packet counts in the outbound digest (10 R357): WRITE, ATOMIC, SIGNAL, COLL DATA, but not the votes. -/
def inOd (p : Packet) : Bool :=
  p.type == 0 || p.type == 2 || p.type == 3 || (p.type == 4 && p.sub == 0 && decide (p.arg.toNat < 0xFFFF0000))

/-- A packet of the Escapement's commit vote (10 R362). -/
def votePacket (p : Packet) : Bool := p.type == 4 && decide (0xFFFF0000 ≤ p.arg.toNat)

/-- Whether a request counts in OUT_SEQ: those that a local run issues too, so that the count places the INPUT records in it (10 R365, R371). Grants and
aborts of collectives and barrier messages do not. (log 39, DESIGN CHOICE) -/
def inRun (p : Packet) : Bool := decide (p.type.toNat < 4) || (p.type == 4 && p.sub == 0)

/-- Whether a request stays in the device, because a local run of its job digests it or completes it from a record (10 R371). -/
def State.staysIn (s : State) (r : Request) (p : Packet) : Bool := s.stepOpenFor r.job && s.inLocalRun && !votePacket p && inRun p

/-- Whether a record that a group replay kept answers the READ that is sent next: it completes the request that has the same position among the
run's requests (10 R371, R375). -/
def State.readKept (s : State) (p : Packet) : Bool :=
  p.type == 1 && s.esc.phase == .compute && ((s.esc.ledger.filter (fun (r : LedgerRec) => r.kind == 5)).take s.esc.kept |>.drop s.esc.inputPos).any
    (fun r => r.ptype == 17 && r.pos == s.esc.outSeq.toNat)

/-- Send one request: charge its tokens, give it a TAG, count it, digest it for the gated job; in a local run nothing leaves the
device (10 R371): the request is acknowledged at once, or a READ waits for its INPUT record, as one does whose record a group replay kept. A guest run digests packets as its suspect's (10 R372). -/
def State.sendNow (s : State) (r : Request) (p : Packet) : State :=
  let tag := s.freeTag
  let p := { p with tag := tag }
  let g := s.stepOpenFor r.job && !votePacket p
  let kept := g && s.readKept p
  let r := { r with tag := tag, pos := s.esc.outSeq.toNat }
  let s := (s.setTokens r.dst (s.tokensOut r.dst + r.tokens)).modFabric (fun f => { f with requests := f.requests ++ [r], nextTag := tag + 1 })
  let s := (s.bump 0x5060 0 r.tokens).bump 0x5060 2 1
  let s := if g then s.modEsc (fun e => { e with outSeq := if inRun p then e.outSeq + 1 else e.outSeq, od := if inOd p then e.od + odOf (match e.guestOf with
    | some g => { p with src := g }
    | none => p) else e.od }) else s
  if s.staysIn r p then
    if p.type = 1 then s
    else s.emit (.packet none (packetSeal (blankPacket (s.ep.getD 0) r.dst (16 + p.type.toNat) p.order tag)))
  else if kept then s
  else s.inject p

/-- The source unit of a request: a core, a DMA engine, a collective engine, or another sender (08 R297). -/
def UnitId.source : UnitId → UnitId
  | .dma c e _ => .dma c e 0
  | .coll _ => .coll 0
  | .barrier _ => .coll 0
  | u => u

/-- The port whose injection queue a packet of this device enters; none where it leaves through no port (08 R282, R283, R286, R301). -/
def State.exitPort (s : State) (p : Packet) : Option Nat := match s.route { p with plane := planeOf p } with
  | .port q => some (s.carrier q)
  | _ => none

/-- Whether the injection queue of a request's port takes it: a sparge admits no request, a full queue none, and a THROTTLED one no second request of
a unit in one throttle interval. A request that needs no queue, or that a local run answers in the device, always goes (08 R297, R305; 10 R371). -/
def State.mayInject (s : State) (r : Request) (p : Packet) : Bool := match s.exitPort p with
  | none => true
  | some q =>
    let x := s.port q
    s.staysIn r p ||
    (s.fabric.sparge != .draining && s.fabric.sparge != .drained && decide ((vget x.injQ 0 []).length < 64) && !(x.throttled && x.added.contains r.unit.source))

/-- A THROTTLED queue remembers which units have added a request in the present interval (08 R297). -/
def State.noteAdded (s : State) (r : Request) (p : Packet) : State := match s.exitPort p with
  | none => s
  | some q => s.modPort q (fun x => if x.throttled then { x with added := x.added ++ [r.unit.source] } else x)

/-- Send the waiting requests that find their tokens and room in the injection queue, in order to each destination (08 R297, R298, R305). -/
def State.pump (s : State) : State :=
  let w := s.fabric.waiting
  (s.modFabric (fun f => { f with waiting := [] })).each w (fun s (x : Request × Packet) =>
    if s.windowRoom x.1.dst x.1.tokens && s.mayInject x.1 x.2 && !s.fabric.waiting.any (fun y => y.1.dst == x.1.dst) then (s.noteAdded x.1 x.2).sendNow x.1 x.2
    else s.modFabric (fun f => { f with waiting := f.waiting ++ [x] }))

/-- A throttle interval has passed: every unit may add a request again (08 R297). (log 1, DESIGN CHOICE; log 26, DESIGN CHOICE) -/
def State.nextInterval (s : State) : State :=
  if s.fabric.ports.toList.all (fun (x : Port) => x.added.isEmpty) then s
  else (s.each (List.range 12) (fun s p => s.modPort p (fun x => { x with added := [] }))).pump

/-- Issue a request of a unit. -/
def State.request (s : State) (r : Request) (p : Packet) : State :=
  (s.modFabric (fun f => { f with waiting := f.waiting ++ [(r, p)] })).pump

/-- A request record before it is sent. -/
def newRequest (dst : BitVec 17) (kind : Nat) (unit : UnitId) (job stream tokens : Nat) : Request :=
  { tag := 0, dst := dst, kind := kind, unit := unit, job := job, stream := stream, tokens := tokens, lines := 0, got := 0, addr := 0
    reg := 0, pos := 0 }

/-- Return the tokens of a request at its first final outcome and forget it (08 R298, R299). -/
def State.closeRequest (s : State) (r : Request) : State :=
  let s := s.setTokens r.dst (s.tokensOut r.dst - r.tokens)
  let s := s.modFabric (fun f => { f with requests := f.requests.filter (fun (x : Request) => x.tag != r.tag) })
  (s.bump 0x5060 1 r.tokens).pump

/-- Answer a request (08 R284, R286): the response takes the request's class. -/
def State.respond (s : State) (q : Packet) (type status : Nat) (lines : List Line) (poison : List Bool) (addr : BitVec 42) (final : Bool) : State :=
  let p := packetLoad { blankPacket q.src (s.ep.getD q.dst) type q.order q.tag with status := BitVec.ofNat 8 status, addr := addr } lines poison
  let s := if final then s.bump 0x5060 5 1 else s
  let s := if type = 31 then s.bump 0x5030 4 1 else s
  s.inject p

/-- Answer with a NACK (08 R287). -/
def State.nackTo (s : State) (q : Packet) (status : Nat) : State := s.respond q 31 status [] [] 0 true

/-! ## The device-group grid (09 R318, R323, R330) -/

/-- Axes of a mask, ascending. -/
def axesOf (m : BitVec 8) : List Nat := (List.range 8).filter m.getLsbD

def GroupTable.p (t : GroupTable) (a : Nat) : Nat := (t.axes.getD a (1, 0)).1

def GroupTable.rank (t : GroupTable) (a : Nat) : Nat := (t.axes.getD a (1, 0)).2

/-- Grid position of the device with given ranks. -/
def GroupTable.posOf (t : GroupTable) (rank : Nat → Nat) : Nat :=
  ((List.range 8).foldl (fun acc a => (acc.1 + rank a * acc.2, acc.2 * t.p a)) (0, 1)).1

/-- Number of participants over some axes. -/
def GroupTable.size (t : GroupTable) (l : List Nat) : Nat := l.foldl (fun n a => n * t.p a) 1

/-- This device's number among the participants over some axes. -/
def GroupTable.index (t : GroupTable) (l : List Nat) : Nat := (l.foldl (fun acc a => (acc.1 + t.rank a * acc.2, acc.2 * t.p a)) (0, 1)).1

/-- Ranks of participant `i` over some axes. -/
def GroupTable.ranksOf (t : GroupTable) : List Nat → Nat → Nat → Nat
  | [], _, a => t.rank a
  | x :: r, i, a => if a = x then i % t.p x else t.ranksOf r (i / t.p x) a

/-- The endpoint at a grid position; none when its line is poisoned. A table of one device names this device. -/
def State.gridEp (s : State) (t : GroupTable) (pos : Nat) : Option (BitVec 17) :=
  if t.g = 1 then s.ep
  else if s.viewPoison (t.grid + 4 * pos) 4 then none
  else some (BitVec.ofNat 17 (leNat (s.view (t.grid + 4 * pos) 4)))

/-- The endpoint of participant `i` over some axes. -/
def State.memberEp (s : State) (t : GroupTable) (l : List Nat) (i : Nat) : Option (BitVec 17) := s.gridEp t (t.posOf (t.ranksOf l i))

/-- Tree neighbours of a participant (09 R323): parent, then children. -/
def treeNeighbours (n i : Nat) : List Nat :=
  (if i = 0 then [] else [(i - 1) / 8]) ++ (List.range 8).filterMap (fun k => if 8 * i + k + 1 < n then some (8 * i + k + 1) else none)

/-- A SYNC packet to a participant of a slot (09 R342). -/
def State.sendSync (s : State) (job slot sub phase : Nat) (dst : BitVec 17) : State :=
  s.request (newRequest dst 5 (.barrier slot) job 64 1)
    { blankPacket dst (s.ep.getD 0) 5 0 0 with sub := BitVec.ofNat 4 sub, arg := BitVec.ofNat 32 phase, addr := BitVec.ofNat 42 slot }

/-- SYNC messages to the tree neighbours of a group-kind slot, but for one. -/
def State.syncNeighbours (s : State) (job slot sub phase : Nat) (x : Slot) (skip : Option (BitVec 17)) : State :=
  let t := (s.job job).table
  let l := axesOf x.axes
  s.each (treeNeighbours (t.size l) (t.index l)) (fun s i =>
    match s.memberEp t l i with
    | some d => if some d = skip then s else s.sendSync job slot sub phase d
    | none => s)

/-- A COLL packet to a neighbour (09 R342), of ORDER class 1 (R337). -/
def State.sendColl (s : State) (job stream : Nat) (opid : BitVec 32) (sub : Nat) (addr : Nat) (lines : List Line) (poison : List Bool)
    (dst : BitVec 17) : State :=
  s.request (newRequest dst 4 (.coll opid) job stream 1)
    (packetLoad { blankPacket dst (s.ep.getD 0) 4 1 0 with sub := BitVec.ofNat 4 sub, arg := opid, addr := BitVec.ofNat 42 addr } lines poison)

/-- The ring neighbours of this device on an axis: rank - 1 and rank + 1 (09 R337). -/
def State.ringEp (s : State) (t : GroupTable) (a : Nat) (plus : Bool) : Option (BitVec 17) :=
  let p := t.p a
  s.gridEp t (t.posOf (fun x => if x = a then (t.rank a + (if plus then 1 else p - 1)) % p else t.rank x))

end Sys2Proof.Machine
end

