-- ==== Sys2Proof/Machine/JobOps.lean ====
section
/-! DEFINITION. Streams, jobs and failures that every chapter uses: completion records (12 R443, R444), ending a command, stopping a
job (12 R437), poison consumption (06 R209), the health score (11 R418 to R422), device states and dumps, and requests that fail
(08 R288). -/

namespace Sys2Proof.Machine

/-! ## Completion records -/

/-- A completion record with nothing but its command and kind. -/
def plainDone (command : BitVec 32) (kind : Nat) (error : BitVec 16) (detail : Word) : HeldRecord :=
  { command := command, kind := kind, error := error, async := 0, core := 0xFFFF, pc := 0, instr := 0, detail := detail, flags := 0, irqNow := false }

/-- The 64 bytes of a record (12 Table 7). (log 9, DESIGN CHOICE) -/
def HeldRecord.bytes (r : HeldRecord) (beats : Nat) (phase : Bool) : List Byte :=
  leBytes r.command.toNat 4 ++ leBytes r.error.toNat 2 ++ leBytes r.kind 1 ++ leBytes r.flags.toNat 1 ++ leBytes r.async.toNat 4 ++
  leBytes r.core.toNat 2 ++ leBytes 0 2 ++ leBytes r.pc.toNat 8 ++ leBytes r.instr.toNat 16 ++ leBytes r.detail.toNat 8 ++
  leBytes beats 8 ++ leBytes 0 7 ++ [if phase then 1 else 0]

/-- Raise the stream's interrupt and start counting afresh (12 R432). -/
def State.streamIrq (s : State) (i : Nat) : State :=
  (s.modStream i (fun x => { x with unsignalled := 0 })).msix (s.stream i).vector.toNat

/-- A command ended in error: its stream stops, and RETRY can name it (12 R436). -/
def Stream.failsAt (x : Stream) (n : BitVec 32) : Stream :=
  { x with state := if x.state = .disabled then .disabled else .stopped, failed := if x.failed.contains n then x.failed else x.failed ++ [n] }

/-- Write a record into the ring (12 R443). A record that cannot reach the host leaves the stream STOPPED with 0x030D (12 R431). (log 13, DESIGN CHOICE) -/
def State.writeRecord (s : State) (i : Nat) (r : HeldRecord) : State :=
  let x := s.stream i
  if !s.host.linkUp then
    s.modStream i (fun x => { x.failsAt r.command with lastError := 0x030D })
  else
    let n := x.compTail.toNat
    let e := max 1 x.compEntries.toNat
    let f := s.takeFree
    let s := { f.2 with hostMem := msetN zeroByte f.2.hostMem (x.compBase.toNat + 64 * (n % e)) (r.bytes f.1 (n / e % 2 == 0)) }
    let s := s.modStream i (fun x => { x with compTail := x.compTail + 1, unsignalled := x.unsignalled + 1
                                              lastError := if r.kind = 1 ∨ r.kind = 2 then r.error else x.lastError })
    if r.kind ≠ 0 || r.irqNow || x.modTime == 0 || decide (x.modCount.toNat ≤ x.unsignalled + 1) then s.streamIrq i else s

/-- Whether the completion ring is full (12 R444). -/
def Stream.ringFull (x : Stream) : Bool := x.compTail - x.compHead == x.compEntries

/-- Report a record: held while the ring is full or others are held (12 R444). -/
def State.putRecord (s : State) (i : Nat) (r : HeldRecord) : State :=
  let x := s.stream i
  if s.host.linkUp && (x.ringFull || !x.held.isEmpty) then s.modStream i (fun x => { x with held := x.held ++ [r] })
  else s.writeRecord i r

/-- READY or RUNNING as commands remain (12 R436). -/
def Stream.refresh (x : Stream) : Stream :=
  if x.state = .ready ∨ x.state = .running then
    { x with state := if x.progress.isEmpty && x.head == x.tail && x.redo.isNone then .ready else .running }
  else x

/-- FLAGS of a command (12 Table 5). -/
def CmdRun.flags (c : CmdRun) : Nat := c.raw.toNat / 256 % 256

/-- End a command (12 R436, R443): its record is reported unless it is SILENT and done, or runs again from the ledger, whose record
stands; an error stops the stream. -/
def State.endCommand (s : State) (i : Nat) (c : CmdRun) (r : HeldRecord) : State :=
  let s := s.modStream i (fun x =>
    let x := { x with progress := x.progress.filter (fun (y : CmdRun) => y.count != c.count || y.replay != c.replay) }
    if r.kind = 0 then x else x.failsAt c.count)
  let s := if c.replay && r.kind == 0 then s
    else if r.kind = 0 ∧ c.flags.testBit 1 then s
    else s.putRecord i { r with irqNow := c.flags.testBit 3, flags := if c.remoteErr then 1 else 0 }
  s.modStream i Stream.refresh

/-- The command of a stream with a given count that is in progress. -/
def State.inProgress (s : State) (i : Nat) (n : BitVec 32) : Option CmdRun :=
  (s.stream i).progress.find? (fun (c : CmdRun) => c.count == n)

/-- The cores of a LAUNCH on which it has begun. -/
def CmdRun.begun (c : CmdRun) : List Nat := c.cores.filter (fun n => !c.ops.contains n)

/-- Remote error of a command: one of its LAUNCH cores reported one (08 R288). -/
def State.withRemote (s : State) (c : CmdRun) : CmdRun := { c with remoteErr := c.remoteErr || c.begun.any (fun n => (s.core n).remoteErr) }

/-- OR of the ASYNC registers of a LAUNCH's cores (12 R441). -/
def State.asyncOf (s : State) (l : List Nat) : BitVec 32 := l.foldl (fun a n => a ||| (s.core n).async) 0

/-- A record with what a core fault of the command carries (12 R443, 04 R122): the lowest-numbered core that faulted, its PC, its
instruction and its detail. -/
def State.withFault (s : State) (c : CmdRun) (r : HeldRecord) : HeldRecord :=
  match c.begun.find? (fun n => (s.core n).fault.isSome) with
  | some n => match (s.core n).fault with
    | some f => { r with core := BitVec.ofNat 16 n, pc := f.pc, instr := f.instr, detail := f.detail }
    | none => r
  | none => r

/-! ## Device state, dumps -/

/-- Move to a device state, counted in object 0x1010.8. -/
def State.setDev (s : State) (d : DevState) : State :=
  if s.dev.state = d then s else { s with dev := { s.dev with state := d } }.bump 0x1010 8 1

/-- What the Chronograph reads of a core (11 Table 7, 04 R157). -/
def Core.dumped (x : Core) (phys : Nat) : CoreDump :=
  { phys := phys, pc := x.pc, group := x.group, async := x.async, sreg := x.sreg, preg := x.preg, arrayQ := x.arrayQ, epiQ := x.epiQ
    banks := x.banks, dma := x.dma, effects := x.effects }

/-- The contents of the unit records of a dump (11 Table 7): of the physical cores, those that are mapped. (log 45, DESIGN CHOICE) -/
def State.dumpUnits (s : State) : DumpUnits :=
  { streams := s.streams.toList, jobs := s.jobs.toList, sync := s.sync
    cores := s.cores.toList.zipIdx.map (fun (x : Core × Nat) => x.1.dumped (40 * coreQuarter x.2 + vget s.resil.map x.2 0))
    coll := s.coll, kiln := s.kiln.units.toList, esc := s.esc, rack := s.rack, ports := s.fabric.ports.toList, hbm := s.mem.hbm.toList }

/-- Units of each record kind (11 Table 7). -/
def unitsOfKind : Nat → Nat
  | 1 => 1
  | 2 => 1
  | 3 => 4
  | 4 => 1
  | 5 => 160
  | 6 => 4
  | 7 => 12
  | 8 => 1
  | 9 => 4
  | 10 => 12
  | 11 => 12
  | 12 => 4
  | _ => 0

/-- Whether the units of a kind have no power: those of a quarter while VQ is off, physical cores while VCORE, ports while VIO and stacks while VHBM is (11 R409,
14 Table 3). -/
def State.unpowered (s : State) (kind : Nat) : Bool :=
  let off := fun (r : Nat) => !s.power.rails.getLsbD r
  match kind with
  | 1 | 2 | 4 | 8 => false
  | 5 => off 0 || off 3
  | 10 => off 0 || off 1
  | 11 => off 0 || off 2
  | _ => off 0

/-- The units that give the Chronograph no answer because they have no power. -/
def State.silentUnits (s : State) : List (Nat × Nat) :=
  (List.range 13).flatMap (fun k => if s.unpowered k then (List.range (unitsOfKind k)).map (fun n => (k, n)) else [])

/-- The eMMC slot of the next dump: one not yet written, else the oldest (11 R411). -/
def Resil.nextSlot (r : Resil) : Nat :=
  if r.dumps.length < 8 then ((List.range 8).find? (fun n => !r.dumps.any (fun d => d.slot == n))).getD 0 else (r.dumps.getLast?.map (·.slot)).getD 0

/-- A dump goes into the eMMC. -/
def State.storeDump (s : State) (d : DumpRec) : State :=
  let s := { s with resil := { s.resil with dumps := (d :: s.resil.dumps).take 8 } }
  (s.bump 0x6030 1 1).objSet 0x6030 2 d.slot

/-- The management core copies the dump that T31 holds into the eMMC (11 R411). -/
def State.copyDump (s : State) : State := match s.resil.t31Dump with
  | none => s
  | some d => State.storeDump { s with resil := { s.resil with t31Dump := none } } d

/-- A Chronograph dump (11 R409 to R411). That of a warm reset stays in T31 until the device is back; any other is in the eMMC when the command ends. -/
def State.dump (s : State) (trigger cause : Nat) : State :=
  let s := s.copyDump
  let b := s.takeFree
  let r := b.2.takeFree
  let d : DumpRec := {
    num := s.objGet 0x6030 1 + 1, trigger := trigger, cause := cause, noAnswer := s.silentUnits, valid := true, slot := s.resil.nextSlot, beats := b.1
    coord := (if s.dev.coordAssigned then 2 ^ 31 else 0) + s.dev.coord.toNat, rest := r.1, units := s.dumpUnits }
  if trigger = 3 then { r.2 with resil := { r.2.resil with t31Dump := some d } } else r.2.storeDump d

/-! ## Programs of cores -/

/-- Banks that a tile occupies (03 R87). -/
def TileRec.banks (t : TileRec) : Nat := ceilDiv (t.m * t.n) (16384 * (if t.compact then 2 else 1))

/-- Whether an assay that has started and not drained holds a bank of the core (10 R350). -/
def Core.assayHolds (x : Core) (b : Nat) : Bool :=
  x.assays.any (fun (a : AssayRec) => a.started && a.digest.isNone && a.bank ≤ b && decide (b < a.bank + a.tile.banks))

/-- A core with no program: queues, banks, ranges, table slots and waits cleared (03 R90, 12 R437, R441); assays of other cores' tiles
stay. -/
def Core.clear (x : Core) : Core :=
  { x with run := .idle, wait := .none, stall := .none, tables := Vector.replicate 4 none
           banks := Vector.ofFn (fun (i : Fin 8) => if x.assayHolds i.val then x.banks[i] else Bank.reset)
           acc := x.acc.filter (fun e => x.assayHolds (e.1 / 16384)), arrayQ := [], current := none, folds := 0, done := [], unclaimed := [], epiQ := [], draining := none, drainOut := []
           loadBusy := false, ranges := [], assayMark := false
           skip := 0, skipCadds := [], skipNext := [] }

/-- The snapshot of a core at its present state with a given next PC and group (04 R152). -/
def Core.snap (x : Core) (pc : Word) (group : BitVec 32) : Snapshot :=
  { pc := pc, sreg := x.sreg, sPoison := x.sPoison, vreg := x.vreg, vPoison := x.vPoison, preg := x.preg, regions := x.regions
    tables := x.tables, group := group }

/-- The start state of a program (12 R441); its start is a usable boundary (11 R389). (log 28, DEDUCED) -/
def Core.launch (x : Core) (stream : Nat) (command : BitVec 32) (pc a0 a1 : Word) : Core :=
  let y := { x.clear with
    run := .running, stream := stream, command := command, pc := pc
    sreg := vset (vset (Vector.replicate 32 0) 1 a0) 2 a1, sPoison := 0, vreg := Vector.replicate 32 0, vPoison := Vector.replicate 32 0
    preg := Vector.replicate 8 0, regions := Vector.replicate 16 Region.reset, async := 0, fault := none, remoteErr := false
    effects := { count := 0, cadds := [] }, icache := [], residues := 0 }
  { y with bounds := [{ Boundary.reset with snap := y.snap pc x.group, closed := true, saved := true }] }

/-- Work arrives for a core (14 R488, R491): a sleeping core queues a wake at the Fusee, a core queued to sleep stays awake. -/
def State.wakeCore (s : State) (c : Nat) : State :=
  match (s.core c).sleep with
  | .asleep =>
    let s := s.modCore c (fun x => { x with sleep := .wakeQueued })
    { s with power := { s.power with fusee := s.power.fusee ++ [c] } }
  | .sleepQueued =>
    let s := s.modCore c (fun x => { x with sleep := .awake })
    { s with power := { s.power with fuseeSleep := s.power.fuseeSleep.filter (· ≠ c) } }
  | _ => s

/-- Whether a core belongs to a LAUNCH in progress that has begun on it. -/
def State.coreBusy (s : State) (c : Nat) : Bool :=
  (List.range 64).any (fun i => (s.stream i).progress.any (fun (r : CmdRun) => r.cores.contains c && !r.ops.contains c))

/-- Begin the waiting LAUNCHes on the cores that have become free (12 R441). -/
def State.beginWaiting (s : State) : State :=
  s.each (List.range 64) (fun s i =>
    s.each (s.stream i).progress (fun s r =>
      s.each r.ops (fun s c =>
        if s.coreBusy c then s
        else
          let b := lineBytes r.raw
          let s := s.modStream i (fun x => { x with progress := x.progress.map (fun (y : CmdRun) =>
            if y.count = r.count ∧ y.replay = r.replay then { y with ops := y.ops.filter (· ≠ c) } else y) })
          (s.modCore c (fun x => x.launch i r.count (BitVec.ofNat 64 (recNat b 40 8)) (BitVec.ofNat 64 (recNat b 48 8))
            (BitVec.ofNat 64 (recNat b 56 8)))).wakeCore c)))

/-- End a wait of a core with a status (04 R150). -/
def Core.release (x : Core) (status : Nat) : Core :=
  match x.wait with
  | .counter _ _ _ rd _ => ({ x with wait := .none }.setS rd.toNat (BitVec.ofNat 64 status) false).next
  | .barrier _ _ rd _ => ({ x with wait := .none }.setS rd.toNat (BitVec.ofNat 64 status) false).next
  | .none => x
  | _ => { x with wait := .none }.next

/-- Whether a core waits on a counter of a block, or on a slot. -/
def Core.waitsBlock (x : Core) (b : Nat) : Bool := match x.wait with
  | .counter n _ _ _ _ => n.toNat / 256 == b
  | _ => false

def Core.waitsSlot (x : Core) (n : Nat) : Bool := match x.wait with
  | .barrier m _ _ _ => m.toNat == n
  | _ => false

/-- Release the waiters of an orphaned block with status 2, and discard the descriptors that wait on it (09 R317). -/
def State.orphanBlock (s : State) (b : Nat) : State :=
  let s := s.each (List.range 144) (fun s c => if (s.core c).waitsBlock b then s.modCore c (fun x => x.release 2) else s)
  let hit := fun (en : Bool) (n : BitVec 16) => en && n.toNat / 256 == b
  { s with
    kiln := { s.kiln with units := s.kiln.units.map (fun (u : KilnUnit) =>
      { u with parts := u.parts.filter (fun (p : KilnPart) => !(p.stage == .waiting && hit p.desc.waitEn p.desc.waitCounter)) }) }
    coll := { s.coll with queue := s.coll.queue.filter (fun (d : CollDesc) => !hit d.waitEn d.waitCounter) } }

/-- Release the waiters of an orphaned slot with status 2 (09 R317, R324). -/
def State.orphanWaiters (s : State) (n : Nat) : State :=
  s.each (List.range 144) (fun s c => if (s.core c).waitsSlot n then s.modCore c (fun x => x.release 2) else s)

/-! ## Drills (11 R424) -/

/-- A drill whose outcome departs from 11 Table 12 (11 R424). -/
def State.drillFails (s : State) : State :=
  let s : State := { s with resil := { s.resil with drill := none } }
  let f := (s.bump 0x6060 6 1).takeFree
  (f.2.eventD (openCode f.1) 0x6060 true).deduct 12 100 true

/-! ## Stopping a job -/

/-- A DMA engine without the descriptors of a job, and how many those were. -/
def DmaEngine.drop (e : DmaEngine) (j : Nat) : DmaEngine × Nat :=
  let q := e.queue.filter (fun (r : DmaReq) => r.job != j)
  let r := e.running.filter (fun (x : DmaRun) => x.req.job != j)
  ({ e with queue := q, running := r }, e.queue.length + e.running.length - q.length - r.length)

/-- Release the ranges of a tile that a holder number names: 4 * number for operands, + 1 for what the epilogue reads, + 2 for what it
writes (04 R142). -/
def Core.freeRanges (x : Core) (holder : Nat) : Core := { x with ranges := x.ranges.filter (fun (r : RangeEntry) => r.holder != holder) }

/-- Whether a tile has still to stream on its original core. -/
def Core.unstreamed (x : Core) (seq : Nat) : Bool :=
  x.arrayQ.any (fun q => match q with
    | .tile t => t.seq == seq
    | _ => false)

/-- The assays of a core become others; the banks that no assay holds any more are FREE, their entries in the reset state (03 R90). -/
def Core.setAssays (x : Core) (l : List AssayRec) : Core :=
  let y := { x with assays := l }
  let freed := fun i => x.assayHolds i && !y.assayHolds i
  { y with banks := Vector.ofFn (fun (i : Fin 8) => if freed i.val then Bank.reset else x.banks[i])
           acc := x.acc.filter (fun e => !freed (e.1 / 16384)) }

/-- Drop the assays for which `f` holds. -/
def Core.dropAssays (x : Core) (f : AssayRec → Bool) : Core := x.setAssays (x.assays.filter (fun a => !f a))

/-- An assay leaves its core, with its banks and the ranges that it held. -/
def State.dropAssay (s : State) (c : Nat) (a : AssayRec) : State :=
  let s := s.modCore c (fun x => x.dropAssays (fun (r : AssayRec) => r.origin == a.origin && r.tile.seq == a.tile.seq))
  let o := s.core a.origin
  let live := o.unstreamed a.tile.seq || (o.current.map (fun (t : TileRec) => t.seq)) == some a.tile.seq
  let s := if live then s else s.modCore a.origin (fun o => o.freeRanges (4 * a.tile.seq))
  let s := if a.originDigest.isSome then s.modCore a.origin (fun o => o.freeRanges (4 * a.tile.seq + 1)) else s
  s.modEsc (fun e => { e with assays := e.assays.filter (fun p => p != (a.origin, a.tile.seq)) })

/-- Whether a core holds tiles of a job, queued, streaming, COMPLETE or draining. -/
def Core.worksFor (x : Core) (j : Nat) : Bool :=
  x.arrayQ.any (fun q => match q with
    | .tile t => t.job == j
    | _ => false) || (x.current.toList ++ x.done ++ (x.draining.map (·.1)).toList).any (fun (t : TileRec) => t.job == j)

/-- A core whose program, or whose work, is a job's returns every bank: an assay of another job that holds some of them is abandoned (03 R90, 10 R350). (log 45, DESIGN CHOICE) -/
def State.abandonFor (s : State) (c j : Nat) : State :=
  s.each ((s.core c).assays.filter (fun (a : AssayRec) => a.started && a.tile.job != j)) (fun s a => (s.dropAssay c a).bump 0x3204 7 1)

/-- Stop what a core does for a job: its program, its tiles, whether or not the program still runs, its DMAs and its assays (03 R90). -/
def State.stopCore (s : State) (c j : Nat) : State :=
  let mine := ((s.core c).run != .idle && s.jobOf c == j) || ((s.core c).run == .idle && (s.core c).worksFor j)
  let s := if mine then s.abandonFor c j else s
  let x := s.core c
  let d0 := (vget x.dma 0 DmaEngine.reset).drop j
  let d1 := (vget x.dma 1 DmaEngine.reset).drop j
  let x := { x with dma := vset (vset x.dma 0 d0.1) 1 d1.1 }
  let x := if mine then x.clear else x
  let x := x.dropAssays (fun (a : AssayRec) => a.tile.job == j)
  let s := if x = s.core c then s else s.setCore c x
  if d0.2 + d1.2 = 0 then s else s.bump 0x5060 7 (d0.2 + d1.2)

/-- End the collectives of a job: ABORT to the ring neighbours of each axis of each running one (09 R340). -/
def State.abortColl (s : State) (r : CollRun) : State :=
  let t := (s.job r.desc.job).table
  let s := s.each (axesOf r.desc.axes) (fun s a =>
    s.each [false, true] (fun s d => match s.ringEp t a d with
      | some e => if t.p a = 1 then s else s.sendColl r.desc.job r.desc.stream r.desc.opid 2 0 [] [] e
      | none => s))
  s.bump 0x5050 3 1

/-- Orphan the counter blocks and barrier slots of a job (09 R317, R324). -/
def State.orphan (s : State) (j : Nat) : State :=
  let blocks := (s.sync.owners.filter (fun x => x.2 == j)).map (·.1)
  let slots := (s.sync.slotOwners.filter (fun x => x.2 == j)).map (·.1)
  let s := s.each blocks (fun s b =>
    let s := (s.setBlockOwner b 0xFE).orphanBlock b
    { s with sync := { s.sync with orphanOf := tins s.sync.orphanOf b j } })
  let s := s.each slots (fun s n =>
    let x := s.slot n
    let s := if x.group then s.syncNeighbours j n 2 0 x none else s
    let s := ((s.setSlot n { x with state := .orphaned }).setSlotOwner n 0xFE).orphanWaiters n
    { s with sync := { s.sync with orphanOf := tins s.sync.orphanOf (256 + n) j } })
  s.bump 0x5040 7 (blocks.length + slots.length)

/-- What the Escapement does when its job stops (10 R359, R370, R373): a guest run is declined, the step is rolled back and its
ledger released. -/
def State.escStopped (s : State) : State :=
  match s.esc.phase with
  | .idle => s
  | .commit => s
  | .guest =>
    let g := s.esc.guestOf
    let s := ((s.rollbackData).releaseLedger).escIdle
    match g with
    | some e => s.emit (.guest e 2 0 0)
    | none => s
  | _ => ((s.rollbackData).releaseLedger).escIdle

/-- The gated job stops: a FALSE_ASSAY drill in progress has failed (11 R424). -/
def State.gatedStopped (s : State) : State := (if s.resil.drill = some 3 then s.drillFails else s).escStopped

/-- A command in progress completes with kind STOPPED and the cause (12 R437). -/
def State.stopCommand (s : State) (i : Nat) (cause : BitVec 16) (c : CmdRun) : State :=
  let c := s.withRemote c
  s.putRecord i { s.withFault c (plainDone c.count 2 cause 0) with
    async := s.asyncOf c.begun
    irqNow := c.flags.testBit 3
    flags := if c.remoteErr then 1 else 0 }

/-- A stream of a stopped job: STOPPED, its commands in progress complete with the cause, the others discarded (12 R437). -/
def State.stopStream (s : State) (i j : Nat) (cause : BitVec 16) : State :=
  let x := s.stream i
  if x.state = .disabled ∨ x.job ≠ j then s
  else
    let s := s.setStream i { x with state := .stopped, redo := none, progress := []
                                    discarded := x.discarded + (x.tail - x.head) }
    s.each x.progress (fun s c => s.stopCommand i cause c)

/-- The work of a stopped job on the fabric, Kiln and the collective engine ends; its runs abort (09 R340). -/
def State.endWork (s : State) (j : Nat) : State :=
    let s := s.modFabric (fun f => { f with
      requests := f.requests.map (fun (r : Request) => if r.job = j then { r with unit := .gone } else r)
      waiting := f.waiting.filter (fun x => x.1.job != j) })
    let s := { s with kiln := { s.kiln with units := s.kiln.units.map (fun (u : KilnUnit) =>
      { u with parts := u.parts.filter (fun (p : KilnPart) => p.job != j) }) } }
    let runs := s.coll.running.filter (fun (r : CollRun) => r.desc.job == j)
    let mine := s.coll.queue.filter (fun (d : CollDesc) => d.job == j) ++ runs.map (·.desc)
    let s := { s with coll := { s.coll with grants := s.coll.grants.filter (fun g => !mine.any (fun (d : CollDesc) => d.opid == g.1))
                                            queue := s.coll.queue.filter (fun (d : CollDesc) => d.job != j)
                                            running := s.coll.running.filter (fun (r : CollRun) => r.desc.job != j)
                                            ended := runs.map (fun (r : CollRun) => r.desc.opid) ++ (s.coll.queue.filter (fun (d : CollDesc) => d.job == j)).map (fun (d : CollDesc) => d.opid) ++ s.coll.ended } }
    s.each runs State.abortColl

/-- Stop an ACTIVE job (12 R437): its streams STOPPED, its commands in progress complete with the cause, the others discarded, its
work on every unit ended, its counters and barriers orphaned, its collectives aborted; the first cause is kept. -/
def State.stopJobNow (s : State) (j : Nat) (cause : BitVec 16) : State :=
  if (s.job j).state ≠ .active then s
  else
    let s := s.modJob j (fun x => { x with state := .stopped, cause := cause })
    let s := s.each (List.range 64) (fun s i => s.stopStream i j cause)
    let s := s.each (List.range 144) (fun s c => s.stopCore c j)
    let s := ((s.endWork j).orphan j).beginWaiting
    if j = s.gatedJob then s.gatedStopped else s

/-- A job stops; a stop of the gated job in COMMIT waits for the commit to complete (10 R373). -/
def State.stopJob (s : State) (j : Nat) (cause : BitVec 16) : State :=
  if j = s.gatedJob ∧ s.esc.phase = .commit ∧ (s.job j).state = .active then
    s.modEsc (fun e => { e with stopAfter := some (e.stopAfter.getD cause) })
  else s.stopJobNow j cause

def State.stopAll (s : State) (cause : BitVec 16) : State := s.each (List.range 8) (fun s j => s.stopJob j cause)

/-- A stop of the gated job by the Escapement, counted in object 0x3204.10. -/
def State.escStop (s : State) (cause : BitVec 16) : State :=
  if (s.job s.gatedJob).state = .active then (s.bump 0x3204 10 1).stopJob s.gatedJob cause else s

/-- Write a ledger record; one that does not fit stops the gated job with 0x0A01 (10 R367). -/
def State.record (s : State) (r : LedgerRec) : State :=
  let x := s.ledgerAdd r
  if x.2 then x.1.escStop 0x0A01 else x.1

/-- Write INPUT records, then go on; when one does not fit, the job stops and nothing further is written or acknowledged (10 R366, R367). -/
def State.recordThen (s : State) (l : List LedgerRec) (f : State → State) : State :=
  let x := l.foldl (fun (acc : State × Bool) r => if acc.2 then acc else acc.1.ledgerAdd r) (s, false)
  if x.2 then x.1.escStop 0x0A01 else f x.1

/-- A poison consumption (06 R209): logged and counted; the job stops, 0x0A03 for the gated job with a step open (10 R379), and its step
is not committable; a unit that works for no job raises an event. (log 32, DEDUCED) -/
def State.consume (s : State) (line unit stream job : Nat) (drill : Bool := false) : State :=
  let s := { s with mem := { s.mem with poisonLog := { line := line, unit := unit, stream := stream, job := job } :: s.mem.poisonLog } }
  let s := (if drill then s else s.realEvent 2).bump 0x4002 4 1
  if job < 8 then
    if (s.job job).state = .active then
      (s.modJob job (fun x => { x with uncommittable := true })).stopJob job (if s.stepOpenFor job then 0x0A03 else 0x0501)
    else s
  else s.event 0x0501 0x4002 (64 * line) drill

/-- Entry into FAULT (12 R445): every job stops with 0x0D02, the Chronograph runs, the cause is kept. -/
def State.enterFault (s : State) (cause : Nat) : State :=
  if s.dev.state = .off ∨ s.dev.state = .fault then s
  else
    let s := s.stopAll 0x0D02
    let s := s.dump 5 cause
    (s.objSet 0x1010 4 cause).setDev .fault

/-! ## Requests that fail (08 R288) -/

/-- A request in doubt: recorded, and its job stops with actions 2 and 3 of 06 R209. -/
def State.inDoubt (s : State) (r : Request) : State :=
  let s := (s.modFabric (fun f => { f with inDoubt := f.inDoubt ++ [r] })).bump 0x5030 6 1
  if r.job < 8 then (s.modJob r.job (fun x => { x with uncommittable := if x.state = .active then true else x.uncommittable })).stopJob r.job 0x0602 else s

/-- READs of a core's GLD without a final response, sent or waiting. -/
def State.readsOut (s : State) (c : Nat) : List Request :=
  (s.fabric.requests ++ s.fabric.waiting.map (·.1)).filter (fun (r : Request) => r.unit == .core c && r.kind == 1)

/-- Requests whose source no longer waits for them. -/
def State.forgetRequests (s : State) (f : Request → Bool) : State :=
  s.modFabric (fun b => { b with
    requests := b.requests.map (fun (r : Request) => if f r then { r with unit := .gone } else r)
    waiting := b.waiting.map (fun (x : Request × Packet) => if f x.1 then ({ x.1 with unit := .gone }, x.2) else x) })

/-- GSTs of a core that are not acknowledged, by number (04 R147, R151); a GST to another device travels as several WRITEs. -/
def State.gstsOut (s : State) (c : Nat) : List Nat :=
  ((s.fabric.requests ++ s.fabric.waiting.map (·.1)).filter (fun (r : Request) => r.unit == .core c && r.kind == 0)).foldl (fun l r => sadd l r.reg) []

/-- CSIGs of a core that are not acknowledged, by number. -/
def State.csigsOut (s : State) (c : Nat) : List Nat :=
  ((s.fabric.requests ++ s.fabric.waiting.map (·.1)).filter (fun (r : Request) => r.unit == .core c && r.kind == 3)).foldl (fun l r => sadd l r.reg) []

/-- A running descriptor of a DMA engine. -/
def State.modRun (s : State) (c e : Nat) (seq : BitVec 32) (f : DmaRun → DmaRun) : State :=
  s.modCore c (fun x => { x with dma := vmod x.dma e (fun d =>
    { d with running := d.running.map (fun (r : DmaRun) => if r.req.seq = seq then f r else r) }) })

/-- An epoch is abandoned or lost: counted; the one sealed before it for this cellar host, if any, stands (11 R400, R401). (log 25, DESIGN CHOICE) -/
def State.rackAbandon (s : State) : State :=
  if s.rack.state = 1 ∨ s.rack.state = 2 then
    State.bump { s with rack := { s.rack with state := if s.rack.unprotected then 5 else 4, prio := [] } } 0x6010 12 1
  else s

/-- A request ends without success: in doubt for status 0x08, otherwise resolved by its source unit; a partner that answers racking traffic with 0x01 does
not name this device (11 R392). (log 36, DESIGN CHOICE) -/
def State.failRequest (s : State) (r : Request) (status : Nat) : State :=
  if status = 8 then (if r.unit = .racking then s.rackAbandon else s).inDoubt r
  else match r.unit with
  | .core c =>
    if r.kind = 1 then
      (s.modCore c (fun x => match x.wait with
        | .gld rd _ => { x.setV rd.toNat (x.v rd.toNat) (BitVec.allOnes 32) with wait := .none }
        | _ => x)).forgetRequests (fun (q : Request) => q.unit == .core c && q.kind == 1)
    else
      let s := s.modCore c (fun x => { x with remoteErr := true })
      (s.bump 0x5030 11 1).event 0x0601 0x5030 r.stream
  | .dma c e seq => s.modRun c e seq (fun x => { x with waiting := x.waiting - 1, code := if x.code = 0 then (if status = 6 then 0x070D else 0x070B) else x.code })
  | .racking =>
    if s.rack.state ≠ 1 ∧ s.rack.state ≠ 2 then s
    else if status = 1 then s.rackAbandon.eventD 0x0B08 0x6010
    else s.rackAbandon
  | .restore => { s with rack := { s.rack with restore := 4 } }
  | _ => s

end Sys2Proof.Machine
end

