-- ==== Sys2Proof/Machine/CoreOps.lean ====
section
/-! DEFINITION. What every core instruction shares: the instruction word, registers with their poison, local memory, the checks at
issue in the order of 04 R122, a core fault, stalls, effect instructions (R154) and lanes. -/

namespace Sys2Proof.Machine

/-! ## The instruction word -/

/-- The 16 bytes of a general instruction (04 Table 1). -/
def genWord (op : Nat) (w : GenFields) : BitVec 128 :=
  BitVec.ofNat 128 (op + 2 ^ 8 * w.pred.toNat + 2 ^ 11 * w.func.toNat + 2 ^ 16 * w.d.toNat + 2 ^ 21 * w.a.toNat +
    2 ^ 26 * w.b.toNat + 2 ^ 31 * w.c.toNat + 2 ^ 36 * w.type.toNat + 2 ^ 40 * w.rnd.toNat + 2 ^ 42 * w.x.toNat +
    2 ^ 46 * w.rsv.toNat + 2 ^ 64 * w.imm.toNat)

/-- The 16 bytes of TILE (04 Table 8). -/
def tileWord (t : TileFields) : BitVec 128 :=
  BitVec.ofNat 128 (0x40 + 2 ^ 11 * t.b0.toNat + (if t.mode then 2 ^ 14 else 0) + 2 ^ 15 * t.kind.toNat +
    (if t.epi then 2 ^ 17 else 0) + (if t.active then 2 ^ 18 else 0) + 2 ^ 20 * t.mm1.toNat + 2 ^ 30 * t.nm1.toNat +
    2 ^ 40 * t.ra.toNat + 2 ^ 45 * t.rb.toNat + 2 ^ 50 * t.rk.toNat + 2 ^ 55 * t.rx.toNat + 2 ^ 60 * t.re.toNat +
    2 ^ 65 * t.ri.toNat + 2 ^ 70 * (t.rsv.toNat / 2 ^ 10) + 2 ^ 8 * (t.rsv.toNat % 8) + 2 ^ 19 * (t.rsv.toNat / 8 % 2))

/-- Which fields an instruction uses (04 R117); `imm` is how many low bits of IMM its entry names. -/
structure Uses where
  func : Bool := true
  d : Bool := false
  a : Bool := false
  b : Bool := false
  c : Bool := false
  pred : Bool := false
  type : Bool := false
  rnd : Bool := false
  x : Bool := false
  imm : Nat := 0

/-- A reserved or unused field is not zero: code 0x02 (04 R116, R117). (log 32, DEDUCED; log 40, DESIGN CHOICE) -/
def Uses.bad (u : Uses) (w : GenFields) : Bool :=
  w.rsv != 0 || (!u.func && w.func != 0) || (!u.d && w.d != 0) || (!u.a && w.a != 0) || (!u.b && w.b != 0) ||
  (!u.c && w.c != 0) || (!u.pred && w.pred != 0) || (!u.type && w.type != 0) || (!u.rnd && w.rnd != 0) ||
  (!u.x && w.x != 0) || w.imm.toNat / 2 ^ u.imm != 0

/-- The word of a row that stands for one of an opcode's `funcs` functions: a reserved FUNC stays what it is. (log 8, DESIGN CHOICE) -/
def withFunc (w : GenFields) (func funcs : Nat) : GenFields :=
  if w.func.toNat < funcs then { w with func := BitVec.ofNat 5 func } else w

/-- The rounding mode of an instruction (04 Table 3). -/
def rndOf (r : Nat) : Rnd := if r = 1 then .rtz else .rne

/-! ## Lanes -/

/-- Element `i` of width `w` of a vector. -/
def lane (w : Nat) (v : BitVec 16384) (i : Nat) : Nat := v.toNat / 2 ^ (w * i) % 2 ^ w

/-- All elements of width `w`. -/
def lanes (w : Nat) (v : BitVec 16384) : List Nat := (List.range (16384 / w)).map (lane w v)

/-- A vector from its elements of width `w`. -/
def vecOf (w : Nat) (l : List Nat) : BitVec 16384 :=
  BitVec.ofNat 16384 (l.foldr (fun x acc => 2 ^ w * acc + x % 2 ^ w) 0)

/-- Elements for the active positions, old ones elsewhere. -/
def blend (w : Nat) (act : Nat → Bool) (old : BitVec 16384) (new : List Nat) : BitVec 16384 :=
  vecOf w ((new.zipIdx).map (fun x => if act x.2 then x.1 else lane w old x.2))

/-- Whether element `i` of width `w` is active under a predicate (04 R121). -/
def activeAt (p : BitVec 512) (w i : Nat) : Bool := p.getLsbD (if w = 16 then i / 2 else i)

/-- Write the active lanes of a vector register with the poison of the sources. -/
def Core.putV (x : Core) (d : Nat) (p : BitVec 512) (v : BitVec 16384) (src : BitVec 32) : Core :=
  x.setV d v (segPoison (x.vp d) src (touchedSegs p) (wholeSegs p))

/-- Lines of a GLD from segment `g0` up: the active lanes take them with their poison (04 R147). -/
def Core.takeSegs (x : Core) (rd : Nat) (p : BitVec 512) (g0 : Nat) (lines : List (Line × Bool)) : Core :=
  lines.zipIdx.foldl (fun (y : Core) (l : (Line × Bool) × Nat) =>
    let g := g0 + l.2
    let here := p &&& BitVec.ofNat 512 (0xFFFF * 2 ^ (16 * g))
    y.putV rd here (blend 32 (fun i => here.getLsbD i) (y.v rd) (lanes 32 (BitVec.ofNat 16384 (l.1.1.toNat * 2 ^ (512 * g)))))
      (if l.1.2 then BitVec.twoPow 32 g else 0)) x

/-! ## Local memory of a core -/

def lmemSize : Nat := 2 ^ 22

def Core.lread (x : Core) (a n : Nat) : List Byte := mgetN zeroByte x.lmem a n

def Core.lpoison (x : Core) (a n : Nat) : Bool := n != 0 && x.lPoison.any (fun l => a / 64 ≤ l && l ≤ (a + n - 1) / 64)

/-- Write bytes with their poison: a line written whole and clean is cleared, a line written in part keeps its poison (03 R104). -/
def Core.lwrite (x : Core) (a : Nat) (b : List Byte) (poison : Bool) : Core :=
  let n := b.length
  if n = 0 then x
  else
    let lo := a / 64
    let hi := (a + n - 1) / 64
    let wholeLine := fun l => decide (a ≤ 64 * l ∧ 64 * l + 64 ≤ a + n)
    let keep := x.lPoison.filter (fun l => l < lo || hi < l || !wholeLine l)
    { x with lmem := msetN zeroByte x.lmem a b
             lPoison := if poison then (List.range (hi + 1 - lo)).foldl (fun ps i => sadd ps (lo + i)) keep else keep }

/-- Whether a range in flight overlaps, with a write on either side (03 R103). -/
def Core.conflict (x : Core) (lo hi : Nat) (write : Bool) : Bool :=
  x.ranges.any (fun r => r.lo < hi && lo < r.hi && (write || r.write))

/-- Whether all 16 entries of the tracker are held (03 R103). -/
def Core.tracked (x : Core) : Bool := decide (16 ≤ x.ranges.length)

/-- Whether an instruction that writes ranges must wait: for a free entry, and for what it overlaps (03 R103). -/
def Core.writeStall (x : Core) (l : List (Nat × Nat)) : Bool := x.tracked || l.any (fun p => x.conflict p.1 (p.1 + p.2) true)

/-! ## Faults, consumption and issue -/

/-- The other cores of the LAUNCH of a core that still run, and those halted at a BRK, stop issuing (12 R441): the spec does not say whether such a halt
ends, and the model ends it (04 R157). A core on which the LAUNCH has not begun no longer belongs to it. (log 7, DESIGN CHOICE) -/
def State.stopSiblings (s : State) (c : Nat) : State :=
  let x := s.core c
  let s := s.modStream x.stream (fun y => { y with progress := y.progress.map (fun (z : CmdRun) =>
    if z.count = x.command ∧ z.cores.contains c = true then { z with cores := z.begun, ops := [] } else z) })
  s.each (List.range 144) (fun s i =>
    let y := s.core i
    if i ≠ c ∧ y.stream = x.stream ∧ y.command = x.command ∧ (y.run = .running ∨ y.run = .brk) then s.setCore i { y with run := .stopped, wait := .none }
    else s)

/-- A core fault (04 R122): the core stops its stream's program and records code, PC and instruction; nothing else changes. -/
def State.coreFault (s : State) (c code : Nat) (word : BitVec 128) (detail : Nat) : State :=
  let x := s.core c
  (s.setCore c { x with run := .faulted, stall := .none, fault := some { code := BitVec.ofNat 16 code, pc := x.pc, instr := word, detail := BitVec.ofNat 64 detail } }).stopSiblings c

/-- A consumption of poison by a core (03 R104, 06 R209): the unit is the core's number. (log 7, DESIGN CHOICE; log 32, DEDUCED) -/
def State.coreConsume (s : State) (c line : Nat) : State :=
  let x := s.core c
  s.consume line c x.stream (s.stream x.stream).job

/-- Line number in the core's local-memory window (06 Table 1). -/
def lmemLine (c l : Nat) : Nat := (0x31000000000 + c * lmemSize) / 64 + l

/-- What an instruction is checked for at issue (04 R122): scalar registers and vector segments whose poison makes it fault, those
whose poison it consumes, local lines it reads, the codes that apply, the detail a fault carries, and why it must wait. -/
structure Issue where
  addrS : List Nat := []
  addrV : List (Nat × BitVec 32) := []
  dataS : List Nat := []
  dataV : List (Nat × BitVec 32) := []
  reads : List (Nat × Nat) := []
  faults : List Nat := []
  detail : Nat := 0
  stall : Stall := .none

def Core.poisonS (x : Core) (l : List Nat) : Bool := l.any x.sp

def Core.poisonV (x : Core) (l : List (Nat × BitVec 32)) : Bool := l.any (fun r => x.vp r.1 &&& r.2 != 0)

/-- Local lines of a list of ranges that are poisoned. -/
def Core.poisonedLines (x : Core) (l : List (Nat × Nat)) : List Nat :=
  x.lPoison.filter (fun p => l.any (fun r => r.2 != 0 && r.1 / 64 ≤ p && p ≤ (r.1 + r.2 - 1) / 64))

/-- The line of the instruction at the PC. -/
def Core.fetchLine (x : Core) : Nat := x.pc.toNat / 64

/-- Whether the instruction cache holds the line of the next instruction: it is then as it was when it was fetched (04 R158). -/
def Core.cachedFetch (x : Core) : Bool := x.icache.contains x.fetchLine

/-- The lines the cache holds once the next instruction has been fetched: 64 KiB, the oldest leaving first. (log 45, DESIGN CHOICE) -/
def Core.fetched (x : Core) : List Nat := if x.cachedFetch then x.icache else (x.icache ++ [x.fetchLine]).drop (x.icache.length - 1023)

/-- A core fetches the line of its next instruction through its home Tun, unless its instruction cache holds it (06 R199). (log 33, DESIGN CHOICE) -/
def State.fetch (s : State) (c : Nat) : State := if (s.core c).cachedFetch then s else s.touchRead (s.core c).fetchLine

/-- Whether the fetch waits for a channel that a retraining slice has taken offline (06 R214). (log 47, DESIGN CHOICE) -/
def State.fetchWaits (s : State) (c : Nat) : Bool := !(s.core c).cachedFetch && s.offline [(s.core c).fetchLine] s.missChan

/-- A core as an instruction that issues finds it: fetched, with no stall. -/
def Core.go (x : Core) : Core := { x with stall := .none, icache := x.fetched }

/-- Issue an instruction on a core: the checks of 04 R115, R122 and R159 in their order, then a wait, then its effect, then the
consumption of the poison that it read. A core that does not run, that waits or that is fenced is given no instruction. (log 7, DESIGN CHOICE) -/
def State.issue (s : State) (c : Nat) (word : BitVec 128) (i : Issue) (eff : State → State) : State :=
  let x := s.core c
  if x.run ≠ .running ∨ x.wait ≠ .none ∨ x.sleep ≠ .awake ∨ x.fenced = true then s
  else if !x.cachedFetch && ((localForm x.pc.toNat).bind s.home).isNone then s.coreFault c 0x09 0 0
  else if s.fetchWaits c then s
  else
  let s := s.fetch c
  if !x.cachedFetch && (s.line x.fetchLine).2 then (s.coreFault c 0x15 word 0).coreConsume c x.fetchLine
  else if x.poisonS i.addrS || x.poisonV i.addrV then (s.coreFault c 0x0A word 0).coreConsume c 0
  else match i.faults.min? with
    | some f => s.coreFault c f word i.detail
    | none =>
      if i.stall ≠ .none then s.setCore c { x.go with stall := i.stall }
      else
        let t := eff (s.setCore c x.go)
        let ls := x.poisonedLines i.reads
        let t := t.each ls (fun t l => t.coreConsume c (lmemLine c l))
        if x.poisonS i.dataS || x.poisonV i.dataV then t.coreConsume c 0 else t

/-- An effect on the core alone that then goes on to the next instruction. (log 7, DESIGN CHOICE) -/
def coreStep (c : Nat) (f : Core → Core) (s : State) : State := s.modCore c (fun x => (f x).next)

/-- Effect instructions of a group (04 R154): whether this one would pass a limit. -/
def Core.groupFull (x : Core) (cadd : Bool) : Bool :=
  x.skip == 0 && (4096 ≤ x.effects.count || (cadd && 64 ≤ x.effects.cadds.length))

/-- An effect instruction (04 R154): a replacement treats the recorded ones as no-ops, a CADD among them returning its recorded
value into `rd`; any other is counted, with the value a CADD returned. -/
def State.effect (s : State) (c : Nat) (rd : Option Nat) (eff : State → State × Word) (pz : Bool := false) : State :=
  let x := s.core c
  if x.skip ≠ 0 then
    let y := { x with skip := x.skip - 1 }
    match rd with
    | some d => s.setCore c ({ y with skipCadds := x.skipCadds.drop 1 }.setS d (x.skipCadds.headD 0) false).next
    | none => s.setCore c y.next
  else
    let r := eff s
    let s := r.1.modCore c (fun x =>
      { x with effects := { count := x.effects.count + 1
                            cadds := if rd.isSome then x.effects.cadds ++ [r.2] else x.effects.cadds } })
    match rd with
    | some d => s.modCore c (fun x => (x.setS d r.2 pz).next)
    | none => s.modCore c Core.next

end Sys2Proof.Machine
end

