-- ==== Sys2Proof/Machine/MemSide.lean ====
section
/-! DEFINITION. Memory-side arithmetic (06 R228 to R233): the operations, the masks they allow, and one request applied exactly once. -/

namespace Sys2Proof.Machine

/-- Element bits of an operation number (06 Table 9, 07 R259). -/
def adderWidth (op : Nat) : Nat := match op with
  | 1 => 64
  | 3 => 16
  | 7 => 64
  | _ => 32

def adderCas (op : Nat) : Bool := op == 6 || op == 7

/-- Whether an element mask is allowed: at least one element, exactly one for CAS, none beyond the line (06 R228). -/
def adderMaskOk (op mask : Nat) : Bool :=
  let n := ((List.range 32).filter mask.testBit).length
  decide (op < 8) && decide (mask < 2 ^ (512 / adderWidth op)) && decide (0 < n) && (!adderCas op || n == 1)

/-- One element: the result, and whether a finite float sum became an infinity (06 R229). -/
def adderElem (op old x cmp : Nat) : Nat × Bool :=
  let w := adderWidth op
  match op with
  | 0 => ((old + x) % 2 ^ 32, false)
  | 1 => ((old + x) % 2 ^ 64, false)
  | 2 => fp32.round .rne ((fp32.decode old).add (fp32.decode x))
  | 3 => bf16.round .rne ((bf16.decode old).add (bf16.decode x))
  | 4 => (if sint 32 old < sint 32 x then x else old, false)
  | 5 => (if sint 32 x < sint 32 old then x else old, false)
  | _ => (if old = cmp % 2 ^ w then x else old, false)

/-- All elements of a line, and how many float sums became infinities. -/
def adderLine (op mask : Nat) (old x cmp : Line) : Line × Nat :=
  let w := adderWidth op
  let es := (List.range (512 / w)).map (fun i =>
    let f := fun (l : Line) => l.toNat / 2 ^ (w * i) % 2 ^ w
    if mask.testBit i then adderElem op (f old) (f x) (f cmp) else (f old, false))
  (BitVec.ofNat 512 (es.foldr (fun e acc => 2 ^ w * acc + e.1) 0), (es.filter (·.2)).length)

/-- What an accepted request answers. -/
structure AdderOut where
  old : Line
  poison : Bool
  deriving DecidableEq, Repr

/-- A line enters the buffer of its adder, 32 lines for each pseudo-channel; one of a full buffer is written back (06 R230). (log 33, DESIGN CHOICE) -/
def State.bufferLine (s : State) (k ln : Nat) : State :=
  if s.mem.adder.contains ln then s
  else
    let t := s.reachHbm k ln
    let same := if t.mem.adder.length < 32 then [] else t.mem.adder.filter (fun l => t.mapped (64 * l) == some (.hbm k) && pcOf l == pcOf ln)
    let out := if same.length < 32 then [] else (same.drop (Config.victim t.mem.evicted % same.length)).take 1
    (t.each out State.writeBackLine).modMem (fun m => { m with adder := sadd (m.adder.filter (fun l => !out.contains l)) ln, evicted := m.evicted + out.length })

/-- One request at an adder (06 R228 to R233): none when it is rejected. ADD, MAX and MIN with a poisoned line or operand poison the
line; a poisoned CAS writes nothing and returns the old value marked poisoned. -/
def State.adder (s : State) (op mask ln : Nat) (x cmp : Line) (poison ordered : Bool) : State × Option AdderOut :=
  let s := s.bump 0x4030 0 1
  match s.home (64 * ln) with
  | some (.hbm k) =>
    if !adderMaskOk op mask then (s.bump 0x4030 2 1, none)
    else
      let q := k / 3
      let s := (((s.wakeSlices ln).meetTun ln).flushEntry q ln).evict q ln
      let s := s.bufferLine k ln
      let old := s.line ln
      let bad := old.2 || poison
      let s := (s.bump 0x4030 1 1).bump 0x4030 3 (if ordered then 1 else 0)
      if adderCas op && bad then (s, some { old := old.1, poison := true })
      else
        let r := adderLine op mask old.1 x cmp
        (((s.copyFirst ln).putLine ln r.1 fullMask bad).bump 0x4030 4 r.2, some { old := old.1, poison := bad && adderCas op })
  | _ => (s.bump 0x4030 2 1, none)

/-- MEMORY_SIDE_REQUEST (06 R228, R233): a request reaches its pseudo-channel adder, which acknowledges or rejects it to its source once it has
applied; a CAS returns the old line. A poisoned CAS is consumed by the job that issued it (R208). (log 12, DESIGN CHOICE) -/
def execMemorySideRequest (r : AtomicReq) (s : State) : Host.Outcome State Fault Refusal :=
  let ln := r.addr.toNat / 64
  .next (s.access (.memorySideRequest r) [ln] s.adderChan (fun s =>
    let x := s.adder r.op.toNat r.mask.toNat ln r.operands r.compares r.poison false
    let t := x.1.emit (.memReply r.addr x.2.isSome (match x.2 with
      | some o => if adderCas r.op.toNat then some o.old else none
      | none => none) ((x.2.map (fun (o : AdderOut) => o.poison)).getD false))
    match x.2, r.job with
    | some o, some j => if o.poison then t.consume ln 461 64 j else t
    | _, _ => t))

/-- ADDER_LINE_IDLE_WRITEBACK (06 R230). -/
def execAdderLineIdleWriteback (line : BitVec 36) (s : State) : Host.Outcome State Fault Refusal :=
  .next (if s.mem.adder.contains line.toNat then (s.writeBackLine line.toNat).modMem (fun m => { m with adder := sdel m.adder line.toNat }) else s)

/-- Write bytes through the home quarter, line by line; a line that `bad` names comes poisoned. -/
def State.tunBytes (s : State) (a : Nat) (b : List Byte) (bad : Nat → Bool) (cls : Nat := 0) : State :=
  if b.isEmpty then s
  else s.each (List.range (ceilDiv (a % 64 + b.length) 64)) (fun s i =>
    let ln := a / 64 + i
    let o := if i = 0 then a % 64 else 0
    let st := 64 * ln + o - a
    let d := (b.drop st).take (64 - o)
    s.tunWrite ln (lineOf (List.replicate o 0 ++ d)) (BitVec.ofNat 64 ((2 ^ d.length - 1) * 2 ^ o)) (bad ln) cls)

/-- The effect on memory and counters of an INPUT record of a local run (10 R371): a WRITE, a host write or an ATOMIC applies to memory, a
SIGNAL to its counter. -/
def State.applyInput (s : State) (r : LedgerRec) : State :=
  let bad := r.flags.getLsbD 0
  match r.ptype with
  | 0 => match r.sub with
    | 0 => s.each r.payload.zipIdx (fun s (x : Line × Nat) => s.tunWrite (r.addr / 64 + x.2) x.1 fullMask bad)
    | _ => s.each (r.payload.drop 1).zipIdx (fun s (x : Line × Nat) =>
        s.tunWrite (r.addr / 64 + x.2) x.1 ((r.payload.getD 0 0).extractLsb' (64 * x.2) 64) bad)
  | 0xFF => s.each r.payload.zipIdx (fun s (x : Line × Nat) => s.tunWrite (r.addr / 64 + x.2) x.1 fullMask bad)
  | 2 => (s.adder r.sub r.arg.toNat (r.addr / 64) (r.payload.getD 0 0) (r.payload.getD 1 0) bad false).1
  | 3 => s.counterAdd r.addr r.arg.toInt
  | _ => s

end Sys2Proof.Machine
end

