-- ==== Sys2Proof/Machine/StreamOps.lean ====
section
/-! DEFINITION. How a stream takes its next command (12 R435, R439, R440) and what its checks share. -/

namespace Sys2Proof.Machine

/-- The next command of a stream: its count, its bytes, whether it runs again from the ledger, whether RETRY asked for it. -/
structure NextCmd where
  count : BitVec 32
  raw : Line
  replay : Bool
  redo : Bool
  deriving DecidableEq, Repr

/-- The 64 bytes in the slot of a command (12 R433). -/
def Stream.slotLine (x : Stream) (n : BitVec 32) : Line := lineOf (mgetN zeroByte x.window (64 * (n.toNat % 4096)) 64)

/-- The command a stream takes next: from the ledger while its step runs again (10 R371), the one RETRY names, or the one at HEAD. -/
def State.nextCmd (s : State) (i : Nat) : Option NextCmd :=
  let x := s.stream i
  match s.esc.replay.find? (fun r => r.1 == i) with
  | some r => some { count := r.2.1, raw := r.2.2, replay := true, redo := false }
  | none =>
    match x.redo with
    | some n => some { count := n, raw := x.slotLine n, replay := false, redo := true }
    | none => if x.head = x.tail then none else some { count := x.head, raw := x.slotLine x.head, replay := false, redo := false }

def NextCmd.bytes (n : NextCmd) : List Byte := lineBytes n.raw
def NextCmd.op (n : NextCmd) : Nat := n.raw.toNat % 256
def NextCmd.flags (n : NextCmd) : Nat := n.raw.toNat / 256 % 256

/-- Whether the device's state lets a command start (12 Table 8, R434, R447): in DRAIN only commands written before the request, and
no STEP_OPEN. (log 43, DEDUCED) -/
def State.devStarts (s : State) (i : Nat) (n : NextCmd) : Bool :=
  match s.dev.state with
  | .run => true
  | .drain => n.op != 0x10 && (n.replay || n.redo || decide ((n.count - (s.stream i).drainLimit).toNat ≥ 2 ^ 31))
  | _ => false

/-- Whether a counter condition of a command or descriptor holds. -/
def State.countReached (s : State) (n : BitVec 16) (v : BitVec 32) : Bool := decide (v.toNat ≤ (s.counter n.toNat).val.toNat)

/-- Whether a WAIT_EN condition lets a command start; a counter not owned is left to the checks. -/
def State.waitMet (s : State) (i : Nat) (n : NextCmd) : Bool :=
  let c := n.raw.toNat / 2 ^ 16 % 2 ^ 16
  !n.flags.testBit 2 || s.counterOwner c != (s.stream i).job || decide (n.raw.toNat / 2 ^ 32 % 2 ^ 32 ≤ (s.counter c).val.toNat)

/-- Whether the next command of a stream may start (12 R435, R436, R444; 10 R360: after STEP_END only a STEP_OPEN). (log 43, DEDUCED) -/
def State.mayStart (s : State) (i : Nat) (n : NextCmd) : Bool :=
  let x := s.stream i
  (x.state == .ready || x.state == .running) && (s.job x.job).state == .active && x.held.isEmpty && decide (x.progress.length < 16) &&
  (match x.progress.getLast? with
    | some c => c.flags.testBit 0
    | none => true) &&
  (n.replay || !(x.stepEnded && x.job == s.gatedJob && n.op != 0x10)) &&
  s.devStarts i n && s.waitMet i n

/-- Codes of a header (12 Table 5, R440): reserved fields, TIMEOUT, an unowned WAIT_COUNTER, and bytes the opcode does not use. -/
def State.headerCodes (s : State) (i : Nat) (n : NextCmd) (used : List (Nat × Nat)) : List Nat :=
  let b := n.bytes
  let reserved := decide (n.flags / 16 ≠ 0) || !recZero b 12 16 ||
    (List.range 48).any (fun k => !used.any (fun u => u.1 ≤ k + 16 && k + 16 < u.2) && b.getD (k + 16) 0 != 0)
  (if reserved then [0x0302] else []) ++ (if 3600000 < recNat b 8 4 then [0x0303] else []) ++
  (if n.flags.testBit 2 && s.counterOwner (recNat b 2 2) != (s.stream i).job then [0x0306] else [])

/-- Take the next command of a stream off its window, the ledger's list or the retry request. -/
def State.takeCmd (s : State) (i : Nat) (n : NextCmd) : State :=
  let s := if n.replay then s.modEsc (fun e => { e with replay := e.replay.eraseP (fun r => r.1 == i) })
    else s.modStream i (fun x => if n.redo then { x with redo := none } else { x with head := x.head + 1 })
  s.modStream i (fun x => ({ x with progress := x.progress ++ [({ count := n.count, raw := n.raw, cores := [], ops := [], remoteErr := false, detail := 0, replay := n.replay } : CmdRun)] }).refresh)

/-- What a command's own checks and effect answer: the codes that reject it, the lines of poisoned records that it consumed, what a rejection
counts, and the effect with the DETAIL of its record. -/
structure CmdPlan where
  codes : List Nat
  poison : List Nat := []
  rejected : State → State := id
  eff : State → State × Nat

/-- The record in device memory that a command names: address and bytes (12 Table 6). -/
def recordSpan (b : List Byte) : Option (Nat × Nat) := match recNat b 0 1 with
  | 0x08 => some (recNat b 16 8, 128)
  | 0x0A => some (recNat b 24 8, 32)
  | 0x10 => some (recNat b 16 8, 64)
  | 0x12 => some (recNat b 16 8, 128 * min 4096 (recNat b 24 4))
  | 0x13 => some (recNat b 16 8, 64)
  | _ => none

/-- A record at a local-form address: its bytes. -/
def State.recordAt (s : State) (g size : Nat) : List Byte := match localForm g with
  | some a => s.view a size
  | none => List.replicate size 0

/-- What the record of a STEP_OPEN or KILN command names and the stream reads with it: input windows, fingerprint ranges and keys, or hyperparameters. -/
def State.namedSpans (s : State) (b : List Byte) : List (Nat × Nat) :=
  let g := recNat b 16 8
  match recNat b 0 1 with
  | 0x10 =>
    let r := s.recordAt g 64
    [(recNat r 8 8, 16 * min 64 (recNat r 32 2)), (recNat r 16 8, 16 * min 1024 (recNat r 36 2)), (recNat r 24 8, if recNat r 24 8 = 0 then 0 else 64)]
  | 0x12 => (List.range (min 4096 (recNat b 24 4))).map (fun j => (recNat (s.recordAt (g + 128 * j) 128) 112 8, 64))
  | _ => []

/-- Read a range of one window through its home Tun. -/
def State.touchSpan (s : State) (x : Nat × Nat) : State := if (localForm x.1).isSome && s.inOneWindow x.1 x.2 then s.touchRange x.1 x.2 else s

/-- A stream reads the record of a command, and what it names, through its home Tun (06 R199). -/
def State.touchRecord (s : State) (b : List Byte) : State := match recordSpan b with
  | some x =>
    let t := s.touchSpan x
    t.each (t.namedSpans b) State.touchSpan
  | none => s

/-- Start the next command of a stream when it is the one this row runs (12 R435, R440): a rejected command has no effect and ends
with its code; a poisoned record is consumed; an accepted command of the gated job is recorded in COMPUTE (10 R366), and one whose record does not fit
has no effect (10 R367). -/
def State.startCmd (s : State) (i : Nat) (pick : List Byte → Bool) (used : List (Nat × Nat)) (plan : State → Nat → List Byte → NextCmd → CmdPlan) : State :=
  match s.nextCmd i with
  | none => s
  | some n =>
    if !pick n.bytes || !s.mayStart i n then s
    else
      let s := s.touchRecord n.bytes
      let job := (s.stream i).job
      let p := plan s job n.bytes n
      let s := s.takeCmd i n
      let c : CmdRun := { count := n.count, raw := n.raw, cores := [], ops := [], remoteErr := false, detail := 0, replay := n.replay }
      if !p.poison.isEmpty then s.each p.poison (fun s l => s.consume l 460 i job)
      else match (s.headerCodes i n used ++ p.codes).min? with
      | some e => (p.rejected s).endCommand i c (plainDone n.count 1 (BitVec.ofNat 16 e) 0)
      | none =>
        s.recordThen (if job = s.gatedJob ∧ s.esc.phase = .compute ∧ n.replay = false then
            [{ plainRec 3 0 0 [n.raw] with source := BitVec.ofNat 32 i, arg := n.count }] else []) (fun s =>
          let r := p.eff s
          r.1.modStream i (fun x => { x with progress := x.progress.map (fun (y : CmdRun) =>
            if y.count = n.count ∧ y.replay = n.replay then { y with detail := BitVec.ofNat 64 r.2 } else y) }))

/-- Lines of a range that are poisoned. -/
def State.poisonedIn (s : State) (a n : Nat) : List Nat :=
  if n = 0 then [] else ((List.range (ceilDiv (a % 64 + n) 64)).map (fun k => a / 64 + k)).filter (fun l => (s.line l).2)

/-- Codes of a record address: boundary, then one window (12 Table 15). -/
def State.addrCodes (s : State) (g size align : Nat) : List Nat :=
  (if g % align ≠ 0 then [0x0304] else []) ++
  (match localForm g with
    | none => [0x0305]
    | some a => if s.inOneWindow a size then [] else [0x0305])

/-- Poisoned lines of a record when its address is good. -/
def State.recordPoison (s : State) (g size align : Nat) : List Nat := match localForm g with
  | some a => if (s.addrCodes g size align).isEmpty then s.poisonedIn a size else []
  | none => []

end Sys2Proof.Machine
end

