-- ==== Sys2Proof/Machine/Func.lean ====
section
/-! DEFINITION. The built-in functions of the table unit (03 R109, Table 8): reference values that are computed far beyond the stated
bound, and the value that the device returns, which is free within that bound. -/

namespace Sys2Proof.Machine

/-! ## Fixed point with 192 fraction bits -/

/-- The number one. -/
def fxOne : Int := 2 ^ 192

def fxMul (a b : Int) : Int := a * b / fxOne
def fxDiv (a b : Int) : Int := a * fxOne / b

/-- An FP32 number, all of whose bits fit. -/
def fxOf (v : FVal) : Int := v.at (-192)

/-- The number at a fixed-point value. -/
def fxVal (a : Int) : FVal := .ofInt a (-192)

/-- The square root of a value that is not negative. -/
def fxSqrt (a : Int) : Int := (isqrt (a * fxOne).toNat : Nat)

/-- The sum of `n` terms `p / w k`, where each next `p` comes from `step`. -/
def fxSeries (n : Nat) (p : Int) (step : Nat → Int → Int) (w : Nat → Int) : Int :=
  ((List.range n).foldl (fun (x : Int × Int) k => (x.1 + x.2 / w k, step k x.2)) (0, p)).1

/-- The odd powers of `z` over their exponents: the inverse hyperbolic tangent, or with alternating signs the inverse tangent. -/
def fxOddPowers (alternate : Bool) (z : Int) : Int :=
  fxSeries 72 z (fun _ p => fxMul (fxMul p z) z) (fun k => if alternate && k % 2 == 1 then -(2 * k + 1) else 2 * k + 1)

/-- ln 2 and π. -/
def fxLn2 : Int := 2 * fxOddPowers false (fxOne / 3)
def fxPi : Int := 16 * fxOddPowers true (fxOne / 5) - 4 * fxOddPowers true (fxOne / 239)

/-- The natural logarithm of a value from 1 to 2. -/
def fxLn (m : Int) : Int := 2 * fxOddPowers false (fxDiv (m - fxOne) (m + fxOne))

/-- The exponential of a value from 0 to 1. -/
def fxExpUnit (t : Int) : Int := fxSeries 48 fxOne (fun k p => fxMul p t / (k + 1)) (fun _ => 1)

/-- The exponential of minus a value that is not negative; it vanishes beyond 256. -/
def fxExpNeg (a : Int) : Int :=
  if 256 * fxOne ≤ a then 0
  else
    let n := a / fxLn2 + 1
    fxExpUnit (n * fxLn2 - a) / 2 ^ n.toNat

/-- The exponential of a value that is not negative. -/
def fxExp (a : Int) : Int := let n := a / fxLn2; fxExpUnit (a - n * fxLn2) * 2 ^ n.toNat

/-- The logistic function. -/
def fxSigmoid (x : Int) : Int :=
  let e := fxExpNeg x.natAbs
  if 0 ≤ x then fxDiv fxOne (fxOne + e) else fxDiv e (fxOne + e)

/-- The error function: its series of positive terms over exp(z²); beyond 10 it is 1 to within 2^-149. -/
def fxErf (z : Int) : Int :=
  let a : Int := z.natAbs
  let zz := fxMul a a
  let v := if 10 * fxOne ≤ a then fxOne
    else fxDiv (2 * fxDiv (fxSeries 640 a (fun k p => 2 * fxMul p zz / (2 * k + 3)) (fun _ => 1)) (fxExp zz)) (fxSqrt fxPi)
  if 0 ≤ z then v else -v

/-- The normal distribution function, and its density. -/
def fxPhi (x : Int) : Int := (fxOne + fxErf (fxDiv x (fxSqrt (2 * fxOne)))) / 2
def fxDensity (x : Int) : Int := fxDiv (fxExpNeg (fxMul x x / 2)) (fxSqrt (2 * fxPi))

/-- Twice the argument of the tanh form of GELU, and its derivative: sqrt(8/π) * (x + 0.044715 x³). -/
def fxGeluArg (x : Int) : Int := fxMul (fxSqrt (fxDiv (8 * fxOne) fxPi)) (x + 44715 * fxMul (fxMul x x) x / 1000000)
def fxGeluSlope (x : Int) : Int := fxMul (fxSqrt (fxDiv (8 * fxOne) fxPi)) (fxOne + 134145 * fxMul x x / 1000000)

/-! ## The functions of Table 8 -/

/-- 2^x: the whole part of x goes into the exponent; beyond 512 every result is infinite or vanishes. -/
def exp2Of (v : FVal) : FVal :=
  let x := max (-512 * fxOne) (min (512 * fxOne) (fxOf v))
  let n := x / fxOne
  .ofInt (fxExpUnit (fxMul (x - n * fxOne) fxLn2)) (n - 192)

/-- log2 of a positive number. (log 39, DESIGN CHOICE) -/
def log2Of (v : FVal) : FVal :=
  match v with
  | .fin _ m e =>
    let k := Nat.log2 m
    fxVal ((e + k) * fxOne + fxDiv (fxLn ((m * 2 ^ (192 - k) : Nat) : Int)) fxLn2)
  | _ => .nan

def natF (n : Nat) : FVal := .ofInt n 0
def halfF : FVal := .fin false 1 (-1)

/-- The value of a function or of its derivative at a finite number; none where Table 8's function has no value. -/
def builtinAt (slot : Nat) (deriv : Bool) (v : FVal) : Option FVal :=
  let x := fxOf v
  let inv := (natF 1).div v
  match slot, deriv with
  | 0, false => some (exp2Of v)
  | 0, true => some ((exp2Of v).mul (fxVal fxLn2))
  | 1, false => if v.isZero || v.isNeg then none else some (log2Of v)
  | 1, true => if v.isZero then none else some ((natF 1).div (v.mul (fxVal fxLn2)))
  | 2, false => if v.isZero then none else some inv
  | 2, true => if v.isZero then none else some ((natF 1).div (v.mul v)).neg
  | 3, false => if v.isZero || v.isNeg then none else some inv.sqrt
  | 3, true => if v.isZero || v.isNeg then none else some (halfF.mul ((natF 1).div (v.mul (v.mul v))).sqrt).neg
  | 4, false => if v.isZero then some .zero else if v.isNeg then none else some v.sqrt
  | 4, true => if v.isZero || v.isNeg then none else some (halfF.mul inv.sqrt)
  | 5, false => some (fxVal (fxSigmoid x))
  | 5, true => some (fxVal (fxMul (fxSigmoid x) (fxSigmoid (-x))))
  | 6, false => some (fxVal (let e := fxExpNeg (2 * x.natAbs); let t := fxDiv (fxOne - e) (fxOne + e); if 0 ≤ x then t else -t))
  | 6, true => some (fxVal (4 * fxMul (fxSigmoid (2 * x)) (fxSigmoid (-2 * x))))
  | 7, false => some (fxVal (fxMul x (fxPhi x)))
  | 7, true => some (fxVal (fxPhi x + fxMul x (fxDensity x)))
  | 8, false => some (fxVal (fxMul x (fxSigmoid (fxGeluArg x))))
  | 8, true =>
    let s := fxSigmoid (fxGeluArg x)
    let t := fxSigmoid (-fxGeluArg x)
    some (fxVal (s + fxMul x (fxMul (fxMul s t) (fxGeluSlope x))))
  | 9, false => some (fxVal (fxMul x (fxSigmoid x)))
  | 9, true => some (fxVal (fxMul (fxSigmoid x) (fxOne + fxMul x (fxSigmoid (-x)))))
  | 10, false => some (fxVal ((if 0 ≤ x then x else 0) + fxLn (fxOne + fxExpNeg x.natAbs)))
  | 10, true => some (fxVal (fxSigmoid x))
  | 11, false => some (fxVal (fxErf x))
  | _, _ => some (fxVal (2 * fxDiv (fxExpNeg (fxMul x x)) (fxSqrt fxPi)))

/-- What a function tends to at an infinity (R109): a number, zero from below, or nothing where it has no limit. -/
inductive Limit where
  | to (v : FVal)
  | zeroBelow
  | none
  deriving DecidableEq, Repr

/-- The limit at the infinity of a sign. -/
def builtinLimit (slot : Nat) (deriv neg : Bool) : Limit :=
  match slot, deriv, neg with
  | 0, _, false => .to (.inf false)
  | 1, false, false => .to (.inf false)
  | 1, true, false => .to .zero
  | 1, true, true => .zeroBelow
  | 2, false, false => .to .zero
  | 2, _, _ => .zeroBelow
  | 3, false, false => .to .zero
  | 3, true, false => .zeroBelow
  | 4, false, false => .to (.inf false)
  | 4, true, false => .to .zero
  | 5, false, false => .to (natF 1)
  | 6, false, n => .to (if n then (natF 1).neg else natF 1)
  | 11, false, n => .to (if n then (natF 1).neg else natF 1)
  | 10, false, false => .to (.inf false)
  | 10, true, false => .to (natF 1)
  | 1, false, true => .none
  | 3, _, true => .none
  | 4, _, true => .none
  | 7, d, n => if n then .zeroBelow else .to (if d then natF 1 else .inf false)
  | 8, d, n => if n then .zeroBelow else .to (if d then natF 1 else .inf false)
  | 9, d, n => if n then .zeroBelow else .to (if d then natF 1 else .inf false)
  | _, _, _ => .to .zero

/-- Whether a result keeps the bound of R109 on a reference value: relative error 2^-22 from magnitude 2^-100 up, absolute error 2^-122
below. The error of the reference is taken off. -/
def builtinBound (ref r : FVal) : Bool :=
  let tol := if ref.abs.lt (.fin false 1 (-100)) then (FVal.fin false 1 (-122)).add (.fin true 1 (-140)) else ref.abs.mul ((FVal.fin false 1 (-22)).add (.fin true 1 (-50)))
  r.isFin && (r.add ref.neg).abs.le tol

/-- A built-in function of an FP32 number that is no NaN (03 R109): within the bound the device's value is free; where the spec states no
result it is free altogether. -/
def builtinEval (slot : Nat) (deriv : Bool) (v : FVal) : FVal :=
  let free := f32 (Config.builtin slot deriv (BitVec.ofNat 32 (fp32.enc .rne v))).toNat
  match v with
  | .inf neg => match builtinLimit slot deriv neg with
    | .to l => l
    | .zeroBelow => .fin free.isNeg 0 0
    | .none => free
  | _ => match builtinAt slot deriv v with
    | none => free
    | some ref => if builtinBound ref free then free else toF32 ref

end Sys2Proof.Machine
end

