-- ==== Sys2Proof/Machine/Scalar.lean ====
section
/-! DEFINITION. The scalar instructions (04 R125, R126), NOP, HALT and an unassigned opcode (R116). -/

namespace Sys2Proof.Machine

/-- SALU and SALUI by FUNC (04 Table 5); shifts use bits [5:0] of the count; division as 04 R125 states its corners. -/
def saluOp (f : Nat) (a b : Word) : Word :=
  let sh := b.toNat % 64
  match f with
  | 0 => a + b
  | 1 => a - b
  | 2 => a &&& b
  | 3 => a ||| b
  | 4 => a ^^^ b
  | 5 => a <<< sh
  | 6 => a >>> sh
  | 7 => a.sshiftRight sh
  | 8 => if a.slt b then 1 else 0
  | 9 => if a.ult b then 1 else 0
  | 10 => if a.slt b then a else b
  | 11 => if a.slt b then b else a
  | 12 => a * b
  | 13 => BitVec.ofInt 64 (a.toInt * b.toInt / (2 ^ 64 : Int))
  | 14 => BitVec.ofNat 64 (a.toNat * b.toNat / 2 ^ 64)
  | 15 => if b = 0 then BitVec.allOnes 64 else BitVec.ofInt 64 (a.toInt.tdiv b.toInt)
  | 16 => if b = 0 then BitVec.allOnes 64 else BitVec.ofNat 64 (a.toNat / b.toNat)
  | 17 => if b = 0 then a else BitVec.ofInt 64 (a.toInt.tmod b.toInt)
  | _ => if b = 0 then a else BitVec.ofNat 64 (a.toNat % b.toNat)

/-- SFP by FUNC (04 Table 5): an FP32 result lies in bits [31:0] with zeros above; FCMP writes 1 or 0; FCVT.F2I gives INT64. (log 41, DESIGN CHOICE) -/
def sfpOp (f : Nat) (m : Rnd) (a b c : Word) : Word :=
  let x := f32 (a.toNat % 2 ^ 32)
  let y := f32 (b.toNat % 2 ^ 32)
  let z := f32 (c.toNat % 2 ^ 32)
  let r := fun v => BitVec.ofNat 64 (fp32.enc m v)
  match f with
  | 0 => r (x.add y)
  | 1 => r (x.add y.neg)
  | 2 => r (x.mul y)
  | 3 => r (x.fma y z)
  | 4 => r (x.min y)
  | 5 => r (x.max y)
  | 6 => r (.ofInt a.toInt 0)
  | 7 => BitVec.ofInt 64 (x.toIntSat m (-(2 ^ 63)) (2 ^ 63 - 1))
  | 8 => if x.lt y then 1 else 0
  | _ => if x.eqv y then 1 else 0

/-- SALU (04 R125). -/
def execSalu (c : Fin 144) (w : GenFields) (s : State) : Host.Outcome State Fault Refusal :=
  let a := w.a.toNat
  let b := w.b.toNat
  .next (s.issue c (genWord 0x01 w)
    { dataS := [a, b], faults := codes [(({ d := true, a := true, b := true } : Uses).bad w, 0x02), (decide (18 < w.func.toNat), 0x03)] }
    (coreStep c (fun x => x.setS w.d.toNat (saluOp w.func.toNat (x.s a) (x.s b)) (x.sp a || x.sp b))))

/-- SALUI (04 R125). -/
def execSalui (c : Fin 144) (w : GenFields) (s : State) : Host.Outcome State Fault Refusal :=
  let a := w.a.toNat
  .next (s.issue c (genWord 0x02 w)
    { dataS := [a], faults := codes [(({ d := true, a := true, imm := 64 } : Uses).bad w, 0x02), (decide (18 < w.func.toNat), 0x03)] }
    (coreStep c (fun x => x.setS w.d.toNat (saluOp w.func.toNat (x.s a) w.imm) (x.sp a))))

/-- SLI (04 R125). -/
def execSli (c : Fin 144) (w : GenFields) (s : State) : Host.Outcome State Fault Refusal :=
  .next (s.issue c (genWord 0x03 w)
    { faults := codes [(({ d := true, imm := 64 } : Uses).bad w, 0x02), (decide (w.func ≠ 0), 0x03)] }
    (coreStep c (fun x => x.setS w.d.toNat w.imm false)))

/-- The scalar registers that SFP reads by FUNC. -/
def sfpSources (f a b c : Nat) : List Nat := if f = 6 ∨ f = 7 then [a] else if f = 3 then [a, b, c] else [a, b]

/-- SFP (04 R125, R120). -/
def execSfp (c : Fin 144) (w : GenFields) (s : State) : Host.Outcome State Fault Refusal :=
  let f := w.func.toNat
  let src := sfpSources f w.a.toNat w.b.toNat w.c.toNat
  .next (s.issue c (genWord 0x04 w)
    { dataS := src, faults := codes [(({ d := true, a := true, b := true, c := true, rnd := true } : Uses).bad w, 0x02),
        (decide (9 < f) || decide (1 < w.rnd.toNat), 0x03)] }
    (coreStep c (fun x => x.setS w.d.toNat
      (sfpOp f (rndOf w.rnd.toNat) (x.s w.a.toNat) (x.s w.b.toNat) (x.s w.c.toNat)) (x.poisonS src))))

/-- Access size of SLD and SST by FUNC. -/
def memSize (f : Nat) : Nat := match f with
  | 0 => 1
  | 1 => 2
  | 2 => 4
  | 3 => 8
  | 4 => 1
  | 5 => 2
  | _ => 4

/-- SLD (04 R125): zero- or sign-extended. -/
def execSld (c : Fin 144) (w : GenFields) (s : State) : Host.Outcome State Fault Refusal :=
  let x := s.core c
  let f := w.func.toNat
  let n := memSize f
  let a := (x.s w.a.toNat + w.imm).toNat
  let bad := decide (lmemSize < a + n)
  .next (s.issue c (genWord 0x05 w)
    { addrS := [w.a.toNat], reads := if bad then [] else [(a, n)]
      faults := codes [(({ d := true, a := true, imm := 64 } : Uses).bad w, 0x02), (decide (6 < f), 0x03), (decide (a % n ≠ 0), 0x08), (bad, 0x09)]
      stall := if x.conflict a (a + n) false then .tracker else .none }
    (coreStep c (fun x =>
      let v := leNat (x.lread a n)
      x.setS w.d.toNat (if f < 4 then BitVec.ofNat 64 v else BitVec.ofInt 64 (sint (8 * n) v)) (x.lpoison a n))))

/-- SST (04 R125): the low bytes of sB; stored poison poisons the line (03 R104). -/
def execSst (c : Fin 144) (w : GenFields) (s : State) : Host.Outcome State Fault Refusal :=
  let x := s.core c
  let f := w.func.toNat
  let n := memSize f
  let a := (x.s w.a.toNat + w.imm).toNat
  .next (s.issue c (genWord 0x06 w)
    { addrS := [w.a.toNat], dataS := [w.b.toNat]
      faults := codes [(({ a := true, b := true, imm := 64 } : Uses).bad w, 0x02), (decide (3 < f), 0x03), (decide (a % n ≠ 0), 0x08), (decide (lmemSize < a + n), 0x09)]
      stall := if x.writeStall [(a, n)] then .tracker else .none }
    (coreStep c (fun x => x.lwrite a (leBytes (x.s w.b.toNat).toNat n) (x.sp w.b.toNat))))

/-- A control register (04 Table 6); CYCLE is a count of time, a free value. -/
def State.csr (s : State) (c n : Nat) : Word :=
  let x := s.core c
  match n with
  | 0 => BitVec.ofNat 64 (Config.freeValue s.free)
  | 1 => BitVec.ofNat 64 c
  | 2 => BitVec.ofNat 64 (256 * coreQuarter c + vget s.resil.map c 0)
  | 3 => BitVec.ofNat 64 x.stream
  | 4 => BitVec.ofNat 64 (s.stream x.stream).job
  | 5 => s.stepNumber
  | 6 => x.group.setWidth 64
  | 7 => x.async.setWidth 64
  | _ => BitVec.ofNat 64 s.esc.profile

/-- SCSR in both forms: READ, and READ AND CLEAR, which also clears ASYNC. A reserved FUNC faults (04 R116). (log 9, DESIGN CHOICE) -/
def State.scsr (s : State) (c : Nat) (w : GenFields) (clear : Bool) : State :=
  let w' := withFunc w (if clear then 1 else 0) 2
  s.issue c (genWord 0x07 w')
    { faults := codes [(({ d := true, imm := 64 } : Uses).bad w', 0x02), (decide (1 < w'.func.toNat) || decide (8 < w.imm.toNat), 0x03)] }
    (fun s =>
      let v := s.csr c w.imm.toNat
      let s := if w.imm = 0 then s.takeFree.2 else s
      coreStep c (fun x => { x.setS w.d.toNat v false with async := if clear then 0 else x.async }) s)

/-- SCSR READ (04 R125, Table 6). -/
def execScsrRead (c : Fin 144) (w : GenFields) (s : State) : Host.Outcome State Fault Refusal := .next (s.scsr c w false)

/-- SCSR READ AND CLEAR (04 R125, Table 6). (log 8, DESIGN CHOICE) -/
def execScsrReadAndClear (c : Fin 144) (w : GenFields) (s : State) : Host.Outcome State Fault Refusal := .next (s.scsr c w true)

/-- A PC-relative target (04 Table 5). -/
def relTarget (pc imm : Word) : Word := pc + BitVec.ofInt 64 (16 * sint 32 imm.toNat)

/-- BR (04 R125): a condition from a poisoned register faults (03 R104). -/
def execBr (c : Fin 144) (w : GenFields) (s : State) : Host.Outcome State Fault Refusal :=
  .next (s.issue c (genWord 0x08 w)
    { addrS := [w.a.toNat, w.b.toNat]
      faults := codes [(({ a := true, b := true, imm := 32 } : Uses).bad w, 0x02), (decide (5 < w.func.toNat), 0x03)] }
    (fun s => s.modCore c (fun x =>
      if brCond w.func.toNat (x.s w.a.toNat) (x.s w.b.toNat) then { x with pc := relTarget x.pc w.imm } else x.next)))

/-- JAL (04 R125). -/
def execJal (c : Fin 144) (w : GenFields) (s : State) : Host.Outcome State Fault Refusal :=
  .next (s.issue c (genWord 0x09 w)
    { faults := codes [(({ d := true, imm := 32 } : Uses).bad w, 0x02), (decide (w.func ≠ 0), 0x03)] }
    (fun s => s.modCore c (fun x => { x.setS w.d.toNat (x.pc + 16) false with pc := relTarget x.pc w.imm })))

/-- JR (04 R125, R115): a target off a multiple of 16 faults with the PC of the JR. -/
def execJr (c : Fin 144) (w : GenFields) (s : State) : Host.Outcome State Fault Refusal :=
  let t := (s.core c).s w.a.toNat
  .next (s.issue c (genWord 0x0A w)
    { addrS := [w.a.toNat]
      faults := codes [(({ a := true } : Uses).bad w, 0x02), (decide (w.func ≠ 0), 0x03), (decide (t.toNat % 16 ≠ 0), 0x08)] }
    (fun s => s.modCore c (fun x => { x with pc := t })))

/-- NOP (04 R125). -/
def execNop (c : Fin 144) (w : GenFields) (s : State) : Host.Outcome State Fault Refusal :=
  .next (s.issue c (genWord 0x0C w)
    { faults := codes [(({} : Uses).bad w, 0x02), (decide (w.func ≠ 0), 0x03)] } (coreStep c id))

/-- An ACCFREE claim enters the epilogue queue (04 R126, R141). -/
def claimOp (u : Nat × Nat) : EpiOp := { seq := u.1, b0 := u.2, block := none }

/-- Work of a core that HALT waits for (04 R126): array queue, epilogue queue, DMAs. -/
def Core.quiet (x : Core) : Bool :=
  x.arrayQ.isEmpty && x.current.isNone && x.epiQ.isEmpty && x.draining.isNone && x.done.isEmpty && !x.loadBusy &&
  x.dma.toList.all (fun e => e.queue.isEmpty && e.running.isEmpty)

/-- HALT_COMPLETE (04 R126): the core's program is complete. -/
def execHaltComplete (c : Fin 144) (s : State) : Host.Outcome State Fault Refusal :=
  let x := s.core c
  .next (if x.run = .running ∧ x.wait = .halt ∧ x.quiet = true ∧ s.gstsOut c = [] ∧ s.csigsOut c = [] then s.setCore c { x with run := .ended, wait := .none } else s)

/-- The opcodes the chapter assigns (04 R116). -/
def assignedOps : List Nat :=
  [0x01, 0x02, 0x03, 0x04, 0x05, 0x06, 0x07, 0x08, 0x09, 0x0A, 0x0B, 0x0C, 0x20, 0x21, 0x22, 0x23, 0x24, 0x25, 0x26, 0x27, 0x28,
   0x29, 0x2A, 0x2B, 0x2C, 0x2D, 0x2E] ++
  [0x40, 0x41, 0x42, 0x43, 0x44, 0x45, 0x46, 0x50, 0x51, 0x52, 0x53, 0x54, 0x60, 0x62, 0x63, 0x64, 0x70, 0x71, 0x72, 0x73, 0x74,
   0x75, 0x76, 0x80, 0x81, 0x82, 0x83]

/-- An instruction word with an unassigned opcode faults with code 0x01 (04 R116); a word whose opcode is assigned is no event
of this row. -/
def execIllegalOpcode (c : Fin 144) (word : BitVec 128) (s : State) : Host.Outcome State Fault Refusal :=
  .next (if assignedOps.contains (word.toNat % 256) then s else s.issue c word { faults := [0x01] } id)

end Sys2Proof.Machine
end

