-- ==== Sys2Proof/Machine/Vector.lean ====
section
/-! DEFINITION. The vector and table instructions (04 R127 to R134). -/

namespace Sys2Proof.Machine

/-- Width of an element type in a register. -/
def elW (t : Nat) : Nat := if t = 1 ∨ t = 2 then 16 else 32

/-- Segment of element `i` of width `w`. -/
def segOf (w i : Nat) : Nat := i / (512 / w)

/-- Segments that hold an element for which `f` holds. -/
def segMask (w : Nat) (f : Nat → Bool) : BitVec 32 :=
  BitVec.ofNat 32 ((List.range 32).foldr (fun g acc => 2 * acc + (if (List.range (512 / w)).any (fun i => f (512 / w * g + i)) then 1 else 0)) 0)

/-- Write the elements for which `f` gives a value, with its poison; other elements keep their value, and a segment that is not
written whole keeps its own poison too (03 R104). -/
def Core.putEls (x : Core) (d w : Nat) (f : Nat → Option (Nat × Bool)) : Core :=
  let old := x.v d
  let new := vecOf w ((List.range (16384 / w)).map (fun i => match f i with
    | some v => v.1
    | none => lane w old i))
  let some' := segMask w (fun i => (f i).isSome)
  let part := segMask w (fun i => (f i).isNone)
  let psn := segMask w (fun i => match f i with
    | some v => v.2
    | none => false)
  x.setV d new (segPoison (x.vp d) psn some' (~~~part))

/-- The number an element of a type stands for (INT32 as an integer). -/
def elVal (t v : Nat) : FVal := if t = 3 then .ofInt (sint 32 v) 0 else (typeFmt t).decode v

/-- A number as an element of a type: rounded, or an integer that saturates, NaN giving 0 (04 R128). -/
def elEnc (t : Nat) (m : Rnd) (v : FVal) : Nat :=
  if t = 3 then uint 32 (v.toIntSat m (-(2 ^ 31)) (2 ^ 31 - 1)) else (typeFmt t).enc m v

/-- VFP by FUNC (04 Table 7): one rounding. -/
def vfpOp (f t : Nat) (m : Rnd) (a b c : Nat) : Nat :=
  let x := elVal t a
  let y := elVal t b
  let z := elVal t c
  let r := match f with
    | 0 => x.add y
    | 1 => x.add y.neg
    | 2 => x.mul y
    | 3 => x.fma y z
    | 4 => x.fma y z.neg
    | 5 => x.min y
    | 6 => x.max y
    | 7 => x.abs
    | _ => x.neg
  (typeFmt t).enc m r

/-- The vector registers that VFP reads by FUNC. -/
def vfpSources (f a b c : Nat) : List Nat := if f = 3 ∨ f = 4 then [a, b, c] else if f = 7 ∨ f = 8 then [a] else [a, b]

/-- VINT by FUNC: wrapping, shift counts in bits [4:0]. -/
def vintOp (f a b : Nat) : Nat :=
  let x : BitVec 32 := BitVec.ofNat 32 a
  let y : BitVec 32 := BitVec.ofNat 32 b
  let sh := y.toNat % 32
  (match f with
    | 0 => x + y
    | 1 => x - y
    | 2 => x * y
    | 3 => x &&& y
    | 4 => x ||| y
    | 5 => x ^^^ y
    | 6 => x <<< sh
    | 7 => x >>> sh
    | 8 => x.sshiftRight sh
    | 9 => if x.slt y then x else y
    | _ => if x.slt y then y else x).toNat

/-- A lane-by-lane operation on registers of one width: the value of each active element from those of the sources. -/
def lanewise (c w d : Nat) (p : BitVec 512) (src : List Nat) (op : List Nat → Nat) (s : State) : State :=
  coreStep c (fun x =>
    let vs := src.map x.v
    let ps := src.foldl (fun m r => m ||| x.vp r) 0
    x.putEls d w (fun i => if activeAt p w i then some (op (vs.map (fun v => lane w v i)), ps.getLsbD (segOf w i)) else none)) s

/-- The segments of registers that active lanes read. -/
def readSegs (p : BitVec 512) (src : List Nat) : List (Nat × BitVec 32) := src.map (fun r => (r, touchedSegs p))

/-- A residue event of a core, in a bank or in a vector instruction (03 R112, 10 R348): counted, and charged to the physical core; for the
gated job it is reported to the gate of the core's quarter with what it arose in; for another job the completion of its stream reports it. -/
def State.residueEvent (s : State) (c job : Nat) (w : ResidueSite) : State :=
  let s := s.bump 0x3204 8 1
  let n := 40 * coreQuarter c + vget s.resil.map c 0
  let s := { s with resil := { s.resil with phys := vmod s.resil.phys n (fun x => { x with residues := x.residues + 1 }) } }
  if job = s.gatedJob then
    if s.esc.record.isSome then (s.modEsc (fun e => { e with residues := e.residues ++ [(c, w)] })).reason (coreQuarter c) 1 else s
  else s.modCore c (fun x => { x with residues := x.residues + 1 })

/-- VFP (04 R127), with the residue checker's outcome (03 R112), which runs when the profile is not Open. -/
def execVfp (c : Fin 144) (w : GenFields) (residue : Bool) (s : State) : Host.Outcome State Fault Refusal :=
  let f := w.func.toNat
  let t := w.type.toNat
  let p := (s.core c).p w.pred.toNat
  let src := vfpSources f w.a.toNat w.b.toNat w.c.toNat
  .next (s.issue c (genWord 0x20 w)
    { dataV := readSegs p src
      faults := codes [(({ d := true, a := true, b := true, c := true, pred := true, type := true, rnd := true } : Uses).bad w, 0x02),
        (decide (8 < f) || decide (2 < t) || decide (1 < w.rnd.toNat), 0x03)] }
    (fun s =>
      let s := lanewise c (elW t) w.d.toNat p src (fun l => vfpOp f t (rndOf w.rnd.toNat) (l.getD 0 0) (l.getD 1 0) (l.getD 2 0)) s
      if residue && (f == 3 || f == 4) && s.esc.profile != 0 then s.residueEvent c (s.jobOf c) (.vector (genWord 0x20 w)) else s))

/-- VINT (04 R127). -/
def execVint (c : Fin 144) (w : GenFields) (s : State) : Host.Outcome State Fault Refusal :=
  let f := w.func.toNat
  let p := (s.core c).p w.pred.toNat
  let src := [w.a.toNat, w.b.toNat]
  .next (s.issue c (genWord 0x21 w)
    { dataV := readSegs p src
      faults := codes [(({ d := true, a := true, b := true, pred := true, type := true } : Uses).bad w, 0x02),
        (decide (10 < f) || decide (w.type ≠ 3), 0x03)] }
    (lanewise c 32 w.d.toNat p src (fun l => vintOp f (l.getD 0 0) (l.getD 1 0))))

/-- VCMP (04 R127): bits of inactive lanes are 0; a field that names a predicate has zero bits [4:3] (R118). (log 40, DESIGN CHOICE) -/
def execVcmp (c : Fin 144) (w : GenFields) (s : State) : Host.Outcome State Fault Refusal :=
  let f := w.func.toNat
  let t := w.type.toNat
  let p := (s.core c).p w.pred.toNat
  let half := w.x.toNat % 2
  .next (s.issue c (genWord 0x22 w)
    { dataV := readSegs p [w.a.toNat, w.b.toNat]
      faults := codes [(({ d := true, a := true, b := true, pred := true, type := true, x := true } : Uses).bad w || decide (7 < w.d.toNat), 0x02),
        (decide (6 < f) || decide (3 < t) || decide (1 < w.x.toNat), 0x03)] }
    (coreStep c (fun x =>
      let e := fun i => if elW t = 16 then 2 * i + half else i
      let bit := fun i =>
        let a := lane (elW t) (x.v w.a.toNat) (e i)
        let b := lane (elW t) (x.v w.b.toNat) (e i)
        p.getLsbD i && (if t = 3 then cmpCondI f (sint 32 a) (sint 32 b) else cmpCond f (elVal t a) (elVal t b))
      x.setP w.d.toNat (BitVec.ofNat 512 ((List.range 512).foldr (fun i acc => 2 * acc + (if bit i then 1 else 0)) 0)))))

/-- Whether VCVT accepts a pair of types (04 R128). -/
def vcvtPair (a b : Nat) : Bool := (a < 4 && b < 4) || (a < 3 && isBlock b) || (isBlock a && b < 3)

/-- The conversions of VCVT among element types (04 R128). -/
def vcvtElems (x : Core) (w : GenFields) (p : BitVec 512) : Core :=
  let t := w.type.toNat
  let u := w.x.toNat
  let f := w.func.toNat
  let va := x.v w.a.toNat
  let pa := x.vp w.a.toNat
  let conv := fun v => if t = u then v else elEnc u (rndOf w.rnd.toNat) (elVal t v)
  if elW t = elW u then
    x.putEls w.d.toNat (elW u) (fun i => if activeAt p (elW u) i then some (conv (lane (elW t) va i), pa.getLsbD (segOf (elW t) i)) else none)
  else if elW u = 16 then
    x.putEls w.d.toNat 16 (fun j => let i := j - 512 * f
      if j / 512 = f ∧ p.getLsbD i = true then some (conv (lane 32 va i), pa.getLsbD (segOf 32 i)) else none)
  else
    x.putEls w.d.toNat 32 (fun i => let j := 512 * f + i
      if p.getLsbD i then some (conv (lane 16 va j), pa.getLsbD (segOf 16 j)) else none)

/-- Whether VCVT among element types makes an infinity from a finite number in an active element (02 R59). -/
def vcvtInf (x : Core) (w : GenFields) (p : BitVec 512) : Bool :=
  let t := w.type.toNat
  let u := w.x.toNat
  let va := x.v w.a.toNat
  let one := fun v => t != u && u != 3 && ((typeFmt u).round (rndOf w.rnd.toNat) (elVal t v)).2
  if elW t = elW u then (List.range (16384 / elW t)).any (fun i => activeAt p (elW t) i && one (lane (elW t) va i))
  else elW u == 16 && (List.range 512).any (fun i => p.getLsbD i && one (lane 32 va i))

/-- A register as bytes, and bytes as a register. -/
def vecBytes (v : BitVec 16384) : List Byte := leBytes v.toNat 2048

def bytesVec (b : List Byte) : BitVec 16384 := BitVec.ofNat 16384 (leNat (b.take 2048))

/-- A vector to a block format by the block-maximum recipe: one group from FP32, two from a 16-bit type (04 R128). -/
def toBlocks (t u : Nat) (m : Rnd) (v : BitVec 16384) : BitVec 16384 × Nat :=
  let els := (lanes (elW t) v).map (fun e => (elVal t e, m))
  let gs := (chunks 512 els).map (mbGroupMax u)
  (bytesVec (gs.flatMap (fun g => g.1 ++ List.replicate (1024 - g.1.length) 0)), (gs.map (·.2)).sum)

/-- A register in block layout to an element type (04 R128), each with whether it became an infinity. -/
def fromBlocks (t u : Nat) (m : Rnd) (v : BitVec 16384) : List (Nat × Bool) :=
  let b := vecBytes v
  let vals := if elW u = 32 then mbUnpack t b 512 else mbUnpack t b 512 ++ mbUnpack t (b.drop 1024) 512
  vals.map ((typeFmt u).round m)

/-- The 64-byte segments of a register in block layout that hold element `i`: its significand, or its bit planes, and its exponent (02 Table 3). -/
def blockSegs (t i : Nat) : List Nat :=
  let g := 16 * (i / 512)
  if t = 4 then [g + i % 512 / 64, g + 8] else (List.range (mbWidth t + 1)).map (g + ·)

/-- Segments as a mask. -/
def segSet (l : List Nat) : BitVec 32 := l.foldl (fun m g => m ||| BitVec.twoPow 32 g) 0

/-- Segments of a register in block layout that a conversion to element type `u` reads for its active elements. -/
def fromSegs (t u : Nat) (p : BitVec 512) : BitVec 32 :=
  segSet (((List.range (16384 / elW u)).filter (activeAt p (elW u))).flatMap (blockSegs t))

/-- Poison of a conversion to a block format: an element's segment poisons the segments that hold the element, and since every block has its
exponent among them, those of its group's exponents. (log 44, DESIGN CHOICE) -/
def toSegs (t u : Nat) (pa : BitVec 32) : BitVec 32 :=
  segSet (((List.range (16384 / elW t)).filter (fun i => pa.getLsbD (segOf (elW t) i))).flatMap (blockSegs u))

/-- Block overflows of a unit of a quarter that works for a job (02 R66): counted, and a reason when the job is the gated one. -/
def State.blockOverflow (s : State) (q job n : Nat) : State :=
  if n = 0 then s
  else
    let s := s.bump 0x3103 0 n
    if job = s.gatedJob ∧ s.esc.record.isSome = true then s.reason q 3 else s

/-- VCVT (04 R128): an infinity made from a finite number is reported (02 R59). From a block format an element takes the poison of the segments that hold it, and those segments are read. (log 44, DESIGN CHOICE) -/
def execVcvt (c : Fin 144) (w : GenFields) (s : State) : Host.Outcome State Fault Refusal :=
  let t := w.type.toNat
  let u := w.x.toNat
  let blk := isBlock t || isBlock u
  let p := if isBlock u then BitVec.allOnes 512 else (s.core c).p w.pred.toNat
  let segs := if isBlock u then BitVec.allOnes 32 else if isBlock t then fromSegs t u p
    else if elW t = elW u then touchedSegs p
    else if elW t = 16 then segMask 16 (fun j => j / 512 == w.func.toNat && p.getLsbD (j - 512 * w.func.toNat))
    else touchedSegs p
  .next (s.issue c (genWord 0x23 w)
    { dataV := [(w.a.toNat, segs)]
      faults := codes [(({ d := true, a := true, pred := true, type := true, rnd := true, x := true } : Uses).bad w, 0x02),
        (!vcvtPair t u || decide (1 < w.rnd.toNat) || decide (1 < w.func.toNat) ||
          ((blk || elW t == elW u) && w.func != 0), 0x03)] }
    (fun s =>
      let x := s.core c
      let m := rndOf w.rnd.toNat
      let pa := x.vp w.a.toNat
      if isBlock u then
        let r := toBlocks t u m (x.v w.a.toNat)
        (coreStep c (fun x => x.setV w.d.toNat r.1 (toSegs t u pa)) s).blockOverflow (coreQuarter c) (s.stream x.stream).job r.2
      else if isBlock t then
        let l := fromBlocks t u m (x.v w.a.toNat)
        (coreStep c (fun x => x.putEls w.d.toNat (elW u) (fun i => if activeAt p (elW u) i then some ((l.getD i (0, false)).1, (blockSegs t i).any pa.getLsbD) else none)) s).infReport
          (coreQuarter c) (s.jobOf c) (l.zipIdx.any (fun y => activeAt p (elW u) y.2 && y.1.2))
      else (coreStep c (fun x => vcvtElems x w p) s).infReport (coreQuarter c) (s.jobOf c) (vcvtInf x w p)))

/-- VPERM (04 R127). -/
def execVperm (c : Fin 144) (w : GenFields) (s : State) : Host.Outcome State Fault Refusal :=
  let x := s.core c
  let p := x.p w.pred.toNat
  let idx := fun i => lane 32 (x.v w.b.toNat) i % 512
  .next (s.issue c (genWord 0x24 w)
    { dataV := [(w.b.toNat, touchedSegs p), (w.a.toNat, segMask 32 (fun j => (List.range 512).any (fun i => p.getLsbD i && idx i == j)))]
      faults := codes [(({ d := true, a := true, b := true, pred := true } : Uses).bad w, 0x02), (decide (w.func ≠ 0), 0x03)] }
    (coreStep c (fun x => x.putEls w.d.toNat 32 (fun i => if p.getLsbD i then
      some (lane 32 (x.v w.a.toNat) (idx i), (x.vp w.a.toNat).getLsbD (segOf 32 (idx i)) || (x.vp w.b.toNat).getLsbD (segOf 32 i)) else none))))

/-- The terms of a VRED sum (04 R129, 03 R106): one value, or an FP32 product. -/
def vredTerms (f t : Nat) (a b : List Nat) : Nat × List Term :=
  let one := fun v => Elem.ofIeee (typeFmt t) v
  let wide := fun v => Elem.ofIeee fp32 (fp32.enc .rne (elVal t v))
  if f = 0 then (sigWidth t, a.map (fun v => Term.one (one v)))
  else if f = 1 then (48, a.map (fun v => Term.mul (wide v) (wide v)))
  else (48, (a.zip b).map (fun v => Term.mul (wide v.1) (wide v.2)))

/-- MAX or MIN of the active elements with the winner's index (04 R129). (log 20, DEDUCED) -/
def vredBest (mx : Bool) (t : Nat) (a : List (Nat × Nat)) : Nat × Nat :=
  if t = 3 then
    match a with
    | [] => (if mx then uint 64 (-(2 ^ 31)) else 2 ^ 31 - 1, 0xFFFFFFFF)
    | h :: r =>
      let b := r.foldl (fun best v => if (if mx then decide (sint 32 best.1 < sint 32 v.1) else decide (sint 32 v.1 < sint 32 best.1)) then v else best) h
      (uint 64 (sint 32 b.1), b.2)
  else
    let b := a.foldl (fun best v => best.take mx (Term.one (Elem.ofIeee (typeFmt t) v.1)) v.2) Best.none
    if b.has then (fp32.enc .rne b.val, b.idx) else (fp32.infBits + (if mx then fp32.signBit else 0), 0xFFFFFFFF)

/-- VRED (04 R129): a sum that becomes an infinity from finite terms is reported (02 R59). (log 20, DEDUCED; log 41, DESIGN CHOICE) -/
def execVred (c : Fin 144) (w : GenFields) (s : State) : Host.Outcome State Fault Refusal :=
  let f := w.func.toNat
  let t := w.type.toNat
  let p := (s.core c).p w.pred.toNat
  let src := if f = 2 then [w.a.toNat, w.b.toNat] else [w.a.toNat]
  .next (s.issue c (genWord 0x25 w)
    { dataV := readSegs p src
      faults := codes [(({ d := true, a := true, b := true, c := true, pred := true, type := true } : Uses).bad w, 0x02),
        (decide (4 < f) || decide (3 < t) || (t == 3 && (f == 1 || f == 2)), 0x03)] }
    (fun s =>
      let pick := fun (x : Core) r => (((lanes (elW t) (x.v r)).zipIdx).filter (fun e => activeAt p (elW t) e.2))
      let ts := vredTerms f t ((pick (s.core c) w.a.toNat).map (·.1)) ((pick (s.core c) w.b.toNat).map (·.1))
      (coreStep c (fun x =>
      let a := pick x w.a.toNat
      let pz := x.poisonV (readSegs p src)
      if f < 3 then
        let v := if t = 3 then uint 64 (sint 32 ((a.map (·.1)).sum)) else fp32.enc .rne (reduceExact ts.1 ts.2).val
        x.setS w.d.toNat (BitVec.ofNat 64 v) pz
      else
        let r := vredBest (f == 3) t a
        (x.setS w.d.toNat (BitVec.ofNat 64 r.1) pz).setS w.c.toNat (BitVec.ofNat 64 r.2) pz) s).infReport (coreQuarter c) (s.jobOf c)
          (f < 3 && t != 3 && (fp32.round .rne (reduceExact ts.1 ts.2).val).2)))

/-- The 64-byte segments of a 2,048-byte access that active lanes use. -/
def segRanges (p : BitVec 512) (a : Nat) : List (Nat × Nat) :=
  ((List.range 32).filter (fun g => (touchedSegs p).getLsbD g)).map (fun g => (a + 64 * g, 64))

/-- VLD (04 R127): a lane of a poisoned line is written with the line's poison, and reading it consumes it. -/
def execVld (c : Fin 144) (w : GenFields) (s : State) : Host.Outcome State Fault Refusal :=
  let x := s.core c
  let p := x.p w.pred.toNat
  let a := (x.s w.a.toNat + w.imm).toNat
  let bad := decide (lmemSize < a + 2048)
  .next (s.issue c (genWord 0x26 w)
    { addrS := [w.a.toNat], reads := if bad then [] else segRanges p a
      faults := codes [(({ d := true, a := true, pred := true, imm := 64 } : Uses).bad w, 0x02), (decide (w.func ≠ 0), 0x03), (decide (a % 64 ≠ 0), 0x08), (bad, 0x09)]
      stall := if x.conflict a (a + 2048) false then .tracker else .none }
    (coreStep c (fun x =>
      let v := bytesVec (x.lread a 2048)
      x.putEls w.d.toNat 32 (fun i => if p.getLsbD i then some (lane 32 v i, x.lpoison (a + 4 * i) 4) else none))))

/-- Store the active lanes of a register to a core's local memory: each line with the poison of its segment (03 R104). -/
def storeLanes (x : Core) (a : Nat) (v : BitVec 16384) (vp : BitVec 32) (p : BitVec 512) : Core :=
  (List.range 32).foldl (fun x g =>
    let m := p.toNat / 2 ^ (16 * g) % 2 ^ 16
    if m = 0 then x
    else if m = 2 ^ 16 - 1 then x.lwrite (a + 64 * g) (((vecBytes v).drop (64 * g)).take 64) (vp.getLsbD g)
    else (List.range 16).foldl (fun x i => if m / 2 ^ i % 2 = 1 then x.lwrite (a + 64 * g + 4 * i) (leBytes (lane 32 v (16 * g + i)) 4) (vp.getLsbD g) else x) x) x

/-- VST (04 R127). -/
def execVst (c : Fin 144) (w : GenFields) (s : State) : Host.Outcome State Fault Refusal :=
  let x := s.core c
  let p := x.p w.pred.toNat
  let a := (x.s w.a.toNat + w.imm).toNat
  .next (s.issue c (genWord 0x27 w)
    { addrS := [w.a.toNat], dataV := readSegs p [w.b.toNat]
      faults := codes [(({ a := true, b := true, pred := true, imm := 64 } : Uses).bad w, 0x02), (decide (w.func ≠ 0), 0x03), (decide (a % 64 ≠ 0), 0x08),
        (decide (lmemSize < a + 2048), 0x09)]
      stall := if x.writeStall [(a, 2048)] then .tracker else .none }
    (coreStep c (fun x => storeLanes x a (x.v w.b.toNat) (x.vp w.b.toNat) p)))

/-- VBCAST (04 R127). -/
def execVbcast (c : Fin 144) (w : GenFields) (s : State) : Host.Outcome State Fault Refusal :=
  let p := (s.core c).p w.pred.toNat
  .next (s.issue c (genWord 0x28 w)
    { dataS := [w.a.toNat]
      faults := codes [(({ d := true, a := true, pred := true } : Uses).bad w, 0x02), (decide (w.func ≠ 0), 0x03)] }
    (coreStep c (fun x => x.putEls w.d.toNat 32 (fun i => if p.getLsbD i then some ((x.s w.a.toNat).toNat % 2 ^ 32, x.sp w.a.toNat) else none))))

/-- VMOVS (04 R127). -/
def execVmovs (c : Fin 144) (w : GenFields) (s : State) : Host.Outcome State Fault Refusal :=
  let i := w.imm.toNat % 512
  .next (s.issue c (genWord 0x29 w)
    { dataV := [(w.a.toNat, segMask 32 (fun j => j == i))]
      faults := codes [(({ d := true, a := true, imm := 64 } : Uses).bad w, 0x02), (decide (w.func ≠ 0), 0x03)] }
    (coreStep c (fun x => x.setS w.d.toNat (BitVec.ofNat 64 (lane 32 (x.v w.a.toNat) i)) ((x.vp w.a.toNat).getLsbD (segOf 32 i)))))

/-- PLOG (04 R127, R118). -/
def execPlog (c : Fin 144) (w : GenFields) (s : State) : Host.Outcome State Fault Refusal :=
  .next (s.issue c (genWord 0x2A w)
    { faults := codes [(({ d := true, a := true, b := true } : Uses).bad w || decide (7 < w.d.toNat) || decide (7 < w.a.toNat) || decide (7 < w.b.toNat), 0x02),
        (decide (6 < w.func.toNat), 0x03)] }
    (coreStep c (fun x => x.setP w.d.toNat (plogOp w.func.toNat (x.p w.a.toNat) (x.p w.b.toNat)))))

/-! ## Gather and scatter -/

/-- What an index becomes (04 R130): an element, nothing (zero-fill), or out of range in fault mode. -/
inductive Index where
  | elem (j : Nat)
  | skip
  | bad
  deriving DecidableEq, Repr

/-- Handle an index under a bound and a mode (04 R130). -/
def resolveIndex (mode L : Nat) (j : Int) : Index :=
  if 0 ≤ j ∧ j < L then .elem j.toNat
  else match mode with
    | 0 => .bad
    | 1 => if L = 0 then .bad else .elem (j % (L : Int)).toNat
    | 2 => if L = 0 then .bad else if j < 0 then .elem 0 else .elem (L - 1)
    | _ => .skip

/-- The index register lane of element `i`: 16-bit types take the second 512 indices from the next register (04 R131). -/
def Core.indexAt (x : Core) (vb i : Nat) : Int := sint 32 (lane 32 (x.v (vb + i / 512)) (i % 512))

/-- The active elements of a gather or scatter with what their indices become. -/
def Core.indices (x : Core) (t mode L vb : Nat) (p : BitVec 512) : List (Nat × Index) :=
  ((List.range (16384 / elW t)).filter (activeAt p (elW t))).map (fun i => (i, resolveIndex mode L (x.indexAt vb i)))

/-- Index segments that active elements read. -/
def indexSegs (t vb : Nat) (p : BitVec 512) : List (Nat × BitVec 32) :=
  if elW t = 16 then [(vb, segMask 32 (fun i => activeAt p 16 i)), (vb + 1, segMask 32 (fun i => activeAt p 16 (512 + i)))]
  else [(vb, touchedSegs p)]

/-- The addresses that resolved indices name. -/
def indexAddrs (a size : Nat) (l : List (Nat × Index)) : List (Nat × Nat) :=
  l.filterMap (fun e => match e.2 with
    | .elem j => some (e.1, a + j * size)
    | _ => none)

/-- The codes of a gather or scatter (04 R130 to R132). -/
def indexFaults (t mode L vb a : Nat) (ix : List (Nat × Index)) : List (Bool × Nat) :=
  [(decide (3 < t) || decide (3 < mode) || (elW t == 16 && vb % 2 == 1), 0x03),
   (decide (mode ≤ 3) && (indexAddrs a (typeBytes t) ix).any (fun e => decide (lmemSize < e.2 + typeBytes t)), 0x09),
   (decide (mode < 3) && (L == 0 || ix.any (fun e => e.2 == .bad)), 0x12)]

/-- VGATHER (04 R130, R131): it needs one entry of the tracker, which it gives back at once (R142). -/
def execVgather (c : Fin 144) (w : GenFields) (s : State) : Host.Outcome State Fault Refusal :=
  let x := s.core c
  let t := w.type.toNat
  let p := x.p w.pred.toNat
  let a := (x.s w.a.toNat).toNat
  let L := (x.s w.c.toNat).toNat
  let ix := x.indices t w.x.toNat L w.b.toNat p
  let ad := indexAddrs a (typeBytes t) ix
  let fs := codes ((({ d := true, a := true, b := true, c := true, pred := true, type := true, x := true } : Uses).bad w, 0x02) ::
    (decide (w.func ≠ 0), 0x03) :: indexFaults t w.x.toNat L w.b.toNat a ix)
  .next (s.issue c (genWord 0x2B w)
    { addrS := [w.a.toNat, w.c.toNat], addrV := indexSegs t w.b.toNat p
      reads := if fs.isEmpty then ad.map (fun e => (e.2, typeBytes t)) else []
      faults := fs
      stall := if x.tracked || ad.any (fun e => x.conflict e.2 (e.2 + typeBytes t) false) then .tracker else .none }
    (coreStep c (fun x => x.putEls w.d.toNat (elW t) (fun i =>
      if activeAt p (elW t) i then
        match ad.find? (fun e => e.1 == i) with
        | some e => some (leNat (x.lread e.2 (typeBytes t)), x.lpoison e.2 (typeBytes t))
        | none => some (0, false)
      else none))))

/-- Both forms of VSCATTER (04 R132): lanes apply in ascending order, so the highest lane's store stays and adds round one by one. A reserved
FUNC faults (R116). -/
def State.vscatter (s : State) (c : Nat) (w : GenFields) (add : Bool) : State :=
  let x := s.core c
  let t := w.type.toNat
  let n := typeBytes t
  let p := x.p w.pred.toNat
  let a := (x.s w.a.toNat).toNat
  let L := (x.s w.d.toNat).toNat
  let ix := x.indices t w.x.toNat L w.b.toNat p
  let ad := indexAddrs a n ix
  let w' := withFunc w (if add then 1 else 0) 2
  let fs := codes ((({ d := true, a := true, b := true, c := true, pred := true, type := true, x := true } : Uses).bad w', 0x02) ::
    (decide (1 < w'.func.toNat) || (add && t != 0 && t != 3), 0x03) :: indexFaults t w.x.toNat L w.b.toNat a ix)
  s.issue c (genWord 0x2C w')
    { addrS := [w.a.toNat, w.d.toNat], addrV := indexSegs t w.b.toNat p, dataV := readSegs p [w.c.toNat]
      reads := if add && fs.isEmpty then ad.map (fun e => (e.2, n)) else []
      faults := fs
      stall := if x.writeStall (ad.map (fun e => (e.2, n))) then .tracker else .none }
    (coreStep c (fun x => ad.foldl (fun y e =>
      let v := lane (elW t) (x.v w.c.toNat) e.1
      let old := leNat (y.lread e.2 n)
      let r := if add then (if t = 3 then (old + v) % 2 ^ 32 else fp32.enc .rne ((f32 old).add (f32 v))) else v
      y.lwrite e.2 (leBytes r n) ((x.vp w.c.toNat).getLsbD (segOf (elW t) e.1))) x))

/-- VSCATTER STORE (04 R132). -/
def execVscatterStore (c : Fin 144) (w : GenFields) (s : State) : Host.Outcome State Fault Refusal := .next (s.vscatter c w false)

/-- VSCATTER ADD (04 R132). (log 8, DESIGN CHOICE) -/
def execVscatterAdd (c : Fin 144) (w : GenFields) (s : State) : Host.Outcome State Fault Refusal := .next (s.vscatter c w true)

/-! ## The table unit -/

/-- Word `i` of a table image. -/
def TableImage.w (t : TableImage) (i : Nat) : Nat := (t.words.getD i 0).toNat

/-- One FP32 step. -/
def fl (v : FVal) : FVal := toF32 v

/-- The evaluation of a loadable slot (03 R110): FP32 by RNE at every step. -/
def TableImage.lookup (t : TableImage) (deriv : Bool) (x : FVal) : FVal :=
  let lo := f32 (t.w 0)
  let hi := f32 (t.w 1)
  let o := if deriv then 6 else 2
  if x.isNan then .nan
  else if x.lt lo then fl ((f32 (t.w o)).fma x (f32 (t.w (o + 1))))
  else if hi.le x then fl ((f32 (t.w (o + 2))).fma x (f32 (t.w (o + 3))))
  else
    let sc := fl ((FVal.ofInt 256 0).div (fl (hi.add lo.neg)))
    let u := fl ((fl (x.add lo.neg)).mul sc)
    let i := (min 255 (u.toIntSat .rtz 0 (2 ^ 31))).toNat
    let d := fl (u.add (FVal.ofInt (-(i : Int)) 0))
    let b := 16 + (if deriv then 768 else 0) + 3 * i
    fl (d.fma (fl (d.fma (f32 (t.w (b + 2))) (f32 (t.w (b + 1))))) (f32 (t.w b)))

/-- Evaluate a table slot on an FP32 number (03 R109, R110; 04 R133). (log 17, DESIGN CHOICE) -/
def tableEval (x : Core) (slot : Nat) (deriv : Bool) (v : FVal) : FVal :=
  if v.isNan then .nan
  else if slot < 12 then builtinEval slot deriv v
  else match vget x.tables (slot - 12) none with
    | some t => t.lookup deriv v
    | none => .nan

/-- VTBL (04 R133). -/
def execVtbl (c : Fin 144) (w : GenFields) (s : State) : Host.Outcome State Fault Refusal :=
  let t := w.type.toNat
  let x := s.core c
  let p := x.p w.pred.toNat
  .next (s.issue c (genWord 0x2D w)
    { dataV := readSegs p [w.a.toNat]
      faults := codes [(({ d := true, a := true, pred := true, type := true, imm := 4 } : Uses).bad w, 0x02),
        (decide (1 < w.func.toNat) || decide (2 < t), 0x03)] }
    (lanewise c (elW t) w.d.toNat p [w.a.toNat] (fun l =>
      (typeFmt t).enc .rne (tableEval x (w.imm.toNat % 16) (w.func == 1) (elVal t (l.getD 0 0))))))

/-- Whether TBLLD's header is valid (03 R110). -/
def tableHeaderOk (b : List Byte) : Bool :=
  let lo := f32 (recNat b 0 4)
  let hi := f32 (recNat b 4 4)
  lo.isFin && hi.isFin && lo.lt hi && recZero b 40 64

/-- TBLLD (04 R134). -/
def execTblld (c : Fin 144) (w : GenFields) (s : State) : Host.Outcome State Fault Refusal :=
  let x := s.core c
  let a := (x.s w.a.toNat).toNat
  let slot := w.imm.toNat % 16
  let bad := decide (lmemSize < a + 6208)
  let busy := x.conflict a (a + 6208) false
  .next (s.issue c (genWord 0x2E w)
    { addrS := [w.a.toNat], reads := if bad then [] else [(a, 6208)]
      faults := codes [(({ a := true, imm := 4 } : Uses).bad w, 0x02), (decide (w.func ≠ 0) || decide (slot < 12), 0x03), (decide (a % 64 ≠ 0), 0x08), (bad, 0x09),
        (!busy && !bad && !tableHeaderOk (x.lread a 64), 0x0E)]
      stall := if busy then .tracker else .none }
    (coreStep c (fun x =>
      let image : TableImage := { words := (chunks 4 (x.lread a 6208)).map (fun b => BitVec.ofNat 32 (leNat b)) }
      { x with tables := vset x.tables (slot - 12) (some image) })))

end Sys2Proof.Machine
end

