-- ==== Sys2Proof/Machine/Operands.lean ====
section
/-! DEFINITION. The operand forms that lie in local memory: operand views (04 Table 9), epilogue blocks (04 Table 10), row control
blocks (04 Table 13), the elements of a stored row, and the gradient exponent of 02 R67 and R68. A byte reader `get` gives the
bytes of an address and a length. -/

namespace Sys2Proof.Machine

/-- Bytes of one stored row of `n` elements (04 R136). -/
def rowBytes (fmt n : Nat) : Nat := if isBlock fmt then ceilDiv n 512 * mbGroup fmt else n * typeBytes fmt

/-- The operand element at position `i` of a stored row at address `a`. -/
def storedElem (get : Nat → Nat → List Byte) (fmt a i : Nat) : Elem :=
  if isBlock fmt then
    let g := get (a + i / 512 * mbGroup fmt) (mbGroup fmt)
    Elem.ofBlock (mbSig fmt g (i % 512)) (mbExp fmt g (i % 512))
  else Elem.ofIeee (typeFmt fmt) (leNat (get (a + i * typeBytes fmt) (typeBytes fmt)))

/-! ## Operand views -/

/-- Stored rows of a view, and the elements of each (04 R136). -/
def View.storedRows (v : View) : Nat := if v.trans then v.cols else v.rows
def View.storedCols (v : View) : Nat := if v.trans then v.rows else v.cols

/-- The element in row `r` and column `c` of a view. -/
def View.elem (get : Nat → Nat → List Byte) (v : View) (r c : Nat) : Elem :=
  if v.trans then storedElem get v.fmt (v.base + c * v.pitch) r else storedElem get v.fmt (v.base + r * v.pitch) c

/-- The byte range of each stored row. -/
def View.rowRanges (v : View) : List (Nat × Nat) :=
  (List.range v.storedRows).map (fun r => (v.base + r * v.pitch, rowBytes v.fmt v.storedCols))

/-- The first byte of a view and the byte after its last. -/
def View.span (v : View) : Nat × Nat := (v.base, v.base + (v.storedRows - 1) * v.pitch + rowBytes v.fmt v.storedCols)

/-- The view in 16 bytes (04 Table 9). -/
def viewOf (b : List Byte) (rows cols : Nat) : View :=
  { base := recNat b 0 4, pitch := recNat b 4 4, fmt := recNat b 8 1, trans := recNat b 9 1 % 2 == 1, rows := rows, cols := cols }

/-- Whether a transposed read is forbidden (04 R136). -/
def View.badTrans (v : View) : Bool :=
  v.trans && (v.fmt == 5 || v.fmt == 6 || v.fmt == 7 || (v.fmt == 4 && decide (512 < v.storedCols)))

/-- The codes of a view read from an address (04 R116, R136, R137). -/
def viewCodes (addr : Nat) (b : List Byte) (v : View) : List (Bool × Nat) :=
  [(decide (addr % 16 ≠ 0) || decide (v.base % 64 ≠ 0) || decide (v.pitch % 64 ≠ 0), 0x08),
   (decide (lmemSize < addr + 16) || (decide (v.fmt < 8) && decide (0 < v.rows ∧ 0 < v.cols) && decide (lmemSize < v.span.2)), 0x09),
   (decide (2 ≤ recNat b 9 1) || !recZero b 10 16, 0x02),
   (decide (7 < v.fmt) || decide (v.pitch < rowBytes v.fmt v.storedCols), 0x03),
   (v.badTrans, 0x16)]

/-! ## Epilogue blocks -/

/-- The epilogue block in 128 bytes (04 Table 10) with the value of its scale register. -/
def epiOf (b : List Byte) (sv : BitVec 32) : EpiRec :=
  { dstBase := recNat b 0 4, dstPitch := recNat b 4 4, dstFmt := recNat b 8 1, rnd := recNat b 9 1, scaleKind := recNat b 10 1, scaleVal := sv
    biasKind := recNat b 12 1, biasFmt := recNat b 13 1, actEn := recNat b 14 1 / 128 == 1, actSlot := recNat b 14 1 % 16
    tensorKind := recNat b 15 1, scaleAddr := recNat b 16 4, biasAddr := recNat b 20 4, secBase := recNat b 24 4, secPitch := recNat b 28 4
    secFmt := recNat b 32 1, secEn := recNat b 33 1 % 2 == 1, phase := BitVec.ofNat 16 (recNat b 34 2), tensorId := BitVec.ofNat 32 (recNat b 36 4)
    origin := BitVec.ofNat 64 (recNat b 40 8), rowStride := BitVec.ofNat 64 (recNat b 48 8), colStride := BitVec.ofNat 64 (recNat b 56 8)
    carryBase := recNat b 64 4, carryFirst := BitVec.ofNat 64 (recNat b 68 8) }

/-- Whether stages 3 to 5 of 03 Table 6 are selected. -/
def EpiRec.stages (e : EpiRec) : Bool := e.scaleKind != 0 || e.biasKind != 0 || e.actEn

/-- Element index of output (m, n) (04 R138). -/
def EpiRec.index (e : EpiRec) (m n : Nat) : Nat := (e.origin + BitVec.ofNat 64 m * e.rowStride + BitVec.ofNat 64 n * e.colStride).toNat

/-- Whether a gradient exponent applies (02 R64). -/
def EpiRec.gradient (e : EpiRec) : Bool := isBlock e.dstFmt && e.tensorKind == 4

/-- Number of the block that column `n` of row `m` starts or lies in (04 R138). -/
def EpiRec.block (e : EpiRec) (m n : Nat) : Nat := e.index m n / mbBlock e.dstFmt

/-- Local address of a block's carry slots (04 R138). -/
def EpiRec.carryAddr (e : EpiRec) (b : Nat) : Int := e.carryBase + 2 * ((b : Int) - e.carryFirst.toNat)

/-- Addresses of the carry slots of every block of an m by n tile. -/
def EpiRec.carryAddrs (e : EpiRec) (m n : Nat) : List Int :=
  if e.gradient then
    (List.range m).flatMap (fun r => (List.range (ceilDiv n (mbBlock e.dstFmt))).map (fun b => e.carryAddr (e.block r (b * mbBlock e.dstFmt))))
  else []

/-- Whether a range of local memory is outside it. -/
def outside (a n : Nat) : Bool := decide (lmemSize < a + n)

/-- The codes of an epilogue block at an address for a tile of a given shape (04 R139, R116, 03 R96). -/
def epiCodes (addr : Nat) (b : List Byte) (e : EpiRec) (m n kind : Nat) (compact compat : Bool) : List (Bool × Nat) :=
  let sreg := recNat b 11 1
  let bs := mbBlock e.dstFmt
  let cs := e.carryAddrs m n
  [(decide (addr % 64 ≠ 0) || decide (e.dstBase % 64 ≠ 0) || decide (e.dstPitch % 64 ≠ 0)
      || (decide (2 ≤ e.scaleKind) && decide (e.scaleAddr % 4 ≠ 0))
      || (e.biasKind != 0 && decide (e.biasAddr % (if e.biasFmt = 1 then 2 else 4) ≠ 0))
      || (e.secEn && (decide (e.secBase % 64 ≠ 0) || decide (e.secPitch % 64 ≠ 0)))
      || (e.gradient && decide (e.carryBase % 2 ≠ 0)), 0x08),
   (outside addr 128 || (decide (e.dstFmt < 8) && outside (e.dstBase + (m - 1) * e.dstPitch) (rowBytes e.dstFmt n))
      || (e.scaleKind == 2 && outside e.scaleAddr (4 * m)) || (e.scaleKind == 3 && outside e.scaleAddr (4 * n))
      || (e.biasKind == 1 && outside e.biasAddr (typeBytes e.biasFmt * m)) || (e.biasKind == 2 && outside e.biasAddr (typeBytes e.biasFmt * n))
      || (e.secEn && decide (e.secFmt < 4) && outside (e.secBase + (m - 1) * e.secPitch) (typeBytes e.secFmt * n))
      || cs.any (fun a => decide (a < 0) || decide ((lmemSize : Int) - 2 < a)), 0x09),
   (decide (recNat b 14 1 / 16 % 8 ≠ 0) || decide (2 ≤ recNat b 33 1) || !recZero b 76 128 || (e.scaleKind != 1 && sreg != 0), 0x02),
   (decide (7 < e.dstFmt) || decide (2 < e.rnd) || decide (3 < e.scaleKind) || decide (31 < sreg) || decide (2 < e.biasKind)
      || decide (1 < e.biasFmt) || decide (4 < e.tensorKind) || decide (7 < e.secFmt), 0x03),
   ((e.dstFmt == 7 && (e.stages || compact || kind != 0)) || (kind != 0 && e.stages) || (isBlock e.dstFmt && e.tensorKind == 0)
      || (e.secEn && !(if kind = 0 then e.actEn && decide (e.secFmt < 3) else e.secFmt == 3)), 0x0C),
   (isBlock e.dstFmt && (e.colStride != 1 || decide (e.origin.toNat % bs ≠ 0) || decide (e.rowStride.toNat % bs ≠ 0)), 0x0B),
   (compat && (e.rnd == 2 || e.dstFmt == 5 || e.dstFmt == 6 || e.dstFmt == 7), 0x10)]

/-- The ranges that the epilogue reads, scale and bias, and the combine input. -/
def EpiRec.readSpans (e : EpiRec) (m n : Nat) : List (Nat × Nat) :=
  (if e.scaleKind = 2 then [(e.scaleAddr, e.scaleAddr + 4 * m)] else if e.scaleKind = 3 then [(e.scaleAddr, e.scaleAddr + 4 * n)] else []) ++
  (if e.biasKind = 1 then [(e.biasAddr, e.biasAddr + typeBytes e.biasFmt * m)]
   else if e.biasKind = 2 then [(e.biasAddr, e.biasAddr + typeBytes e.biasFmt * n)] else [])

/-- The ranges that the epilogue writes: destination, second destination, carry slots (04 R142). -/
def EpiRec.writeSpans (e : EpiRec) (m n : Nat) : List (Nat × Nat) :=
  let cs := e.carryAddrs m n
  [(e.dstBase, e.dstBase + (m - 1) * e.dstPitch + rowBytes e.dstFmt n)] ++
  (if e.secEn then [(e.secBase, e.secBase + (m - 1) * e.secPitch + typeBytes e.secFmt * n)] else []) ++
  (match cs with
   | [] => []
   | a :: r => [((r.foldl min a).toNat, (r.foldl max a).toNat + 2)])

/-! ## The gradient exponent (02 R67, R68) -/

/-- The exponent one binade above a block's maximum, at most 254. -/
def nextExp (w : Nat) (vals : List FVal) : Nat := min 254 (clampE (min 254 (ebm w vals)) + 1)

/-- A gradient block at a step of given parity: the block as written and its two carry slots after. -/
def gradBlock (w : Nat) (odd : Bool) (slots : Nat × Nat) (vals : List (FVal × Rnd)) : BlockOut × (Nat × Nat) :=
  let cur := if odd then slots.2 else slots.1
  let up := nextExp w (vals.map Prod.fst)
  let used := if cur = 0xFF then up else cur
  let b := mbBlockAt w used vals
  let zero := vals.all (fun v => v.1.isZero)
  let nxt := if b.nanBlock then cur else if zero then used else up
  let now := if b.ovf && !b.nanBlock then up else cur
  (b, if odd then (nxt, now) else (now, nxt))

/-- A block of a tensor kind: by the block maximum, or, for a gradient, by its carried exponent (02 R64). -/
def recipeBlock (w : Nat) (gradient odd : Bool) (slots : Nat × Nat) (vals : List (FVal × Rnd)) : BlockOut × (Nat × Nat) :=
  if gradient then gradBlock w odd slots vals else (mbBlockMax w vals, slots)

/-- The bytes of one block of a group at address `ga`: block number in the group, significands, exponent (02 R34, R35). -/
def blockPieces (fmt ga kb : Nat) (sigs : List Int) (e : Nat) : List (Nat × List Byte) :=
  let bs := mbBlock fmt
  let sg := sigs ++ List.replicate (bs - sigs.length) 0
  (if fmt = 4 then [(ga + kb * bs, sg.map (fun v => BitVec.ofNat 8 (uint 8 v)))]
   else (List.range (mbWidth fmt)).map (fun p => (ga + 64 * p + kb * bs / 8, (chunks 8 sg).map (planeByte p)))) ++
  [(ga + mbSigBytes fmt + kb, [BitVec.ofNat 8 e])]

/-! ## Row control blocks -/

/-- A row control block as read at issue (04 Table 13). -/
structure RowRec where
  x : Nat
  y : Nat
  dy : Nat
  gain : Nat
  bias : Nat
  dgain : Nat
  dbias : Nat
  len : Nat
  rows : Nat
  xPitch : Nat
  yPitch : Nat
  slot : Nat
  fmt : Nat
  gainEn : Bool
  biasEn : Bool
  eps : Nat
  deriving DecidableEq, Repr

/-- The row control block in 64 bytes. -/
def rowRecOf (b : List Byte) : RowRec :=
  { x := recNat b 0 4, y := recNat b 4 4, dy := recNat b 8 4, gain := recNat b 12 4, bias := recNat b 16 4, dgain := recNat b 20 4
    dbias := recNat b 24 4, len := recNat b 28 4, rows := recNat b 32 4, xPitch := recNat b 36 4, yPitch := recNat b 40 4
    slot := recNat b 44 2, fmt := recNat b 46 1, gainEn := recNat b 47 1 % 2 == 1, biasEn := recNat b 47 1 / 2 % 2 == 1, eps := recNat b 48 4 }

end Sys2Proof.Machine
end

