-- ==== Sys2Proof/Machine/Tile.lean ====
section
/-! DEFINITION. The array, the accumulators and the epilogue (03 R75 to R98, R113; 04 R135 to R142) with the tile assay
(10 R349 to R353): the instructions, and the events by which tiles stream, accumulate and drain. -/

namespace Sys2Proof.Machine

/-! ## Results of a tile -/

/-- The result of one output: an exact window, a compact-40 value, a MAX or MIN winner, or the FP32 bits of the LH4 mode. -/
inductive OutRes where
  | win (w : Win)
  | comp (c : Compact)
  | best (b : Best)
  | bits (v : Nat)
  deriving DecidableEq, Repr

/-- Columns of one fold, and column folds, of a tile (03 R83). -/
def TileRec.np (t : TileRec) : Nat := pairNp t.viewA.fmt
def TileRec.folds (t : TileRec) : Nat := ceilDiv t.n t.np

/-- Exponent bound of the products of a tile (02 Table 6). -/
def TileRec.bound (t : TileRec) (st : Option Stationary) : Nat :=
  (pairM t.viewA.fmt (match st with
    | some x => x.fmtB
    | none => (t.viewB.map (fun (v : View) => v.fmt)).getD t.viewA.fmt)).getD 0

/-- The pairs of elements that output (m, n) multiplies, in ascending k (03 R76). -/
def TileRec.pairs (t : TileRec) (get : Nat → Nat → List Byte) (st : Option Stationary) (m n : Nat) : List (Elem × Elem) :=
  (List.range t.k).map (fun k => (t.viewA.elem get m k,
    match st with
    | some x => x.elems.getD (k * t.n + n) { nan := false, inf := false, neg := false, mag := 0, exp := 0 }
    | none => match t.viewB with
      | some v => v.elem get k n
      | none => { nan := false, inf := false, neg := false, mag := 0, exp := 0 }))

/-- The reduction of one output (02 R42, R54, R71; 03 R92). -/
def TileRec.reduce (t : TileRec) (get : Nat → Nat → List Byte) (st : Option Stationary) (m n : Nat) : OutRes :=
  let ps := t.pairs get st m n
  let ts := ps.map (fun p => Term.mul p.1 p.2)
  if t.kind = 1 ∨ t.kind = 2 then .best (reduceBest (t.kind == 1) t.idxBase ts)
  else if t.compat then .bits (reduceLh4 ps)
  else if t.compact then .comp (reduceCompact (t.bound st) (pairKp t.viewA.fmt) ts)
  else .win (reduceExact (t.bound st) ts)

/-- Every output in order of m * N + n. -/
def TileRec.results (t : TileRec) (get : Nat → Nat → List Byte) (st : Option Stationary) : List OutRes :=
  (List.range (t.m * t.n)).map (fun i => t.reduce get st (i / t.n) (i % t.n))

/-- The entry that holds one output outside compact-40; the LH4 result occupies the low 32 bits. (log 44, DESIGN CHOICE) -/
def OutRes.entry : OutRes → AccEntry
  | .win w => w.entry
  | .best b => b.entry
  | .bits v => { entry := BitVec.ofNat 80 v, tag := 0 }
  | .comp _ => AccEntry.reset

/-- The entries of a list of outputs (03 R88, R93; 02 R53). In compact-40 the tag of the even output stands in bits 7 to 0. (log 44, DESIGN CHOICE) -/
def packEntries (compact : Bool) (l : List OutRes) : List AccEntry :=
  if compact then
    (chunks 2 l).map (fun p =>
      let c := p.map (fun r => match r with
        | .comp x => x.enc
        | _ => (0, 0))
      { entry := BitVec.ofNat 80 ((c.getD 0 (0, 0)).1 + 2 ^ 40 * (c.getD 1 (0, 0)).1)
        tag := BitVec.ofNat 16 ((c.getD 0 (0, 0)).2 + 2 ^ 8 * (c.getD 1 (0, 0)).2) })
  else l.map OutRes.entry

/-- Read output `i` back from a tile's entries. (log 41, DESIGN CHOICE) -/
def TileRec.result (t : TileRec) (ent : Nat → AccEntry) (i : Nat) : OutRes :=
  if t.kind = 1 ∨ t.kind = 2 then .best (Best.ofEntry (ent i))
  else if t.compat then .bits ((ent i).entry.toNat % 2 ^ 32)
  else if t.compact then
    let e := ent (i / 2)
    .comp (Compact.dec (e.entry.toNat / 2 ^ (40 * (i % 2)) % 2 ^ 40) (e.tag.toNat / 2 ^ (8 * (i % 2)) % 2 ^ 8))
  else .win (Win.ofEntry t.k (ent i))

/-- Put entries into the accumulators of a core from a bank on. -/
def accPut (acc : Tbl AccEntry) (bank : Nat) (l : List AccEntry) : Tbl AccEntry :=
  let lo := 16384 * bank
  acc.filter (fun e => e.1 < lo) ++
    (l.zipIdx.map (fun e => (lo + e.2, e.1))).filter (fun (e : Nat × AccEntry) => e.2 ≠ AccEntry.reset) ++
    acc.filter (fun e => lo + l.length ≤ e.1)

/-- Return the entries of `n` banks to their reset state (03 R90). -/
def accClear (acc : Tbl AccEntry) (bank n : Nat) : Tbl AccEntry := acc.filter (fun e => e.1 < 16384 * bank || 16384 * (bank + n) ≤ e.1)

/-- Set the banks of a tile. -/
def setBanks (v : Vector Bank 8) (b n : Nat) (f : Bank → Bank) : Vector Bank 8 :=
  Vector.ofFn (fun (i : Fin 8) => if b ≤ i.val ∧ i.val < b + n then f v[i] else v[i])

/-! ## The epilogue (03 Table 6) -/

/-- What the epilogue works from: the tile and its block, local memory as the drain reads it, the carry slots, the tables, the rounding
salt, the entries, and the first free value of a tile whose combined LH4 results the spec does not state. -/
structure EpiIn where
  t : TileRec
  e : EpiRec
  get : Nat → Nat → List Byte
  carry : Nat → Byte
  tbl : Core
  salt : Nat
  ent : Nat → AccEntry

/-- One output on its way through the stages: its value before stage 7, its exact window, whether it is left unwritten, the
pre-activation, the index, and what it reports. -/
structure OutVal where
  val : FVal
  xa : Nat
  skip : Bool
  pre : FVal
  idx : Nat
  ovf : Bool
  spill : Bool
  misfit : Bool

/-- Round to FP32, and whether a finite value became infinite. -/
def round32 (v : FVal) : FVal × Bool := let r := fp32.round .rne v; (fp32.decode r.1, r.2)

/-- Stage 1: combine with the XA80 input (03 R91). -/
def EpiIn.combined (i : EpiIn) (r : OutRes) (m n : Nat) : Option (OutRes × Bool) :=
  match i.t.combine, r with
  | some v, .win w =>
    match Machine.combine [w, Win.ofXa80 (leNat (i.get (v.base + m * v.pitch + 16 * n) 16))] with
    | some c => some (.win c.1, c.2)
    | none => none
  | some v, .bits _ =>
    let c := Win.ofXa80 (leNat (i.get (v.base + m * v.pitch + 16 * n) 16))
    if 2 ^ 32 - 1 < i.t.k + c.k then none else some (.bits (Config.freeValue (i.t.freeBase + m * i.t.n + n) % 2 ^ 32), false)
  | _, _ => some (r, false)

/-- The value of stage 2, its spill flag, and its index. (log 41, DESIGN CHOICE) -/
def OutRes.value : OutRes → FVal × Bool × Nat
  | .win w => (w.val, w.spill, 0)
  | .comp c => (c.val, c.spill, 0)
  | .best b => (b.val, false, b.idx)
  | .bits v => (f32 v, false, 0)

/-- Stage 3: scale and bias, one rounding when both are selected (03 R95). -/
def EpiIn.affine (i : EpiIn) (m n : Nat) (x : FVal) : FVal :=
  let e := i.e
  let sc := if e.scaleKind = 1 then f32 e.scaleVal.toNat else f32 (leNat (i.get (e.scaleAddr + 4 * (if e.scaleKind = 2 then m else n)) 4))
  let bi := (typeFmt e.biasFmt).decode (leNat (i.get (e.biasAddr + typeBytes e.biasFmt * (if e.biasKind = 1 then m else n)) (typeBytes e.biasFmt)))
  if e.scaleKind ≠ 0 ∧ e.biasKind ≠ 0 then x.fma sc bi else if e.scaleKind ≠ 0 then x.mul sc else if e.biasKind ≠ 0 then x.add bi else x

/-- Stages 1 to 5 of one output. -/
def EpiIn.outVal (i : EpiIn) (m n : Nat) : OutVal :=
  match i.combined (i.t.result i.ent (m * i.t.n + n)) m n with
  | none => { val := .zero, xa := 0, skip := true, pre := .zero, idx := 0, ovf := false, spill := false, misfit := false }
  | some (r, misfit) =>
    let v := r.value
    let xa := match r with
      | .win w => w.xa80
      | _ => 0
    if i.e.stages then
      let a := round32 v.1
      let b := round32 (i.affine m n a.1)
      let c := if i.e.actEn then tableEval i.tbl i.e.actSlot false b.1 else b.1
      { val := c, xa := xa, skip := false, pre := b.1, idx := v.2.2
        ovf := a.2 || b.2 || (b.1.isFin && !c.isFin && !c.isNan), spill := v.2.1, misfit := misfit }
    else { val := v.1, xa := xa, skip := false, pre := v.1, idx := v.2.2, ovf := false, spill := v.2.1, misfit := misfit }

/-- The rounding of stage 7 of one output (02 R60, R61: domain 0). -/
def EpiIn.rnd (i : EpiIn) (m n : Nat) : Rnd :=
  if i.e.rnd = 0 then .rne else if i.e.rnd = 1 then .rtz
  else .sr (rand16 i.t.step.toNat i.salt i.e.tensorId.toNat i.e.phase.toNat 0 (i.e.index m n))

/-- What an epilogue produces: pieces of the destinations, pieces of the carry plane, whether an output overflowed to infinity, block
overflows, outputs with spill, misfits, whether an output was left unwritten, and each output with its BF16 form. -/
structure EpiOut where
  dst : List (Nat × List Byte)
  carry : List (Nat × List Byte)
  ovf : Bool
  blocks : Nat
  spills : Nat
  misfits : Nat
  async : Bool
  wide : List (FVal × FVal)

def EpiOut.none : EpiOut := { dst := [], carry := [], ovf := false, blocks := 0, spills := 0, misfits := 0, async := false, wide := [] }

def EpiOut.join (a b : EpiOut) : EpiOut :=
  { dst := a.dst ++ b.dst, carry := a.carry ++ b.carry, ovf := a.ovf || b.ovf, blocks := a.blocks + b.blocks, spills := a.spills + b.spills
    misfits := a.misfits + b.misfits, async := a.async || b.async, wide := a.wide ++ b.wide }

/-- The second destination of an output: the pre-activation, or the index (04 R139), and whether it became an infinity (02 R59). -/
def EpiIn.second (i : EpiIn) (m n : Nat) (v : OutVal) : List (Nat × List Byte) × Bool :=
  let sz := typeBytes i.e.secFmt
  let r := if i.t.kind = 0 then (typeFmt i.e.secFmt).round .rne v.pre else (v.idx, false)
  if i.e.secEn && !v.skip then ([(i.e.secBase + m * i.e.secPitch + n * sz, leBytes r.1 sz)], r.2) else ([], false)

/-- What an output reports whatever its destination. -/
def OutVal.report (v : OutVal) : EpiOut :=
  { EpiOut.none with ovf := v.ovf, spills := if v.spill then 1 else 0, misfits := if v.misfit then 1 else 0, async := v.skip }

/-- An output to a destination that is no block format. -/
def EpiIn.plainOut (i : EpiIn) (m n : Nat) : EpiOut :=
  let v := i.outVal m n
  let f := i.e.dstFmt
  let r := if f = 7 then (v.xa, false) else if f = 3 then (elEnc 3 (i.rnd m n) v.val, false) else (typeFmt f).round (i.rnd m n) v.val
  let sec := i.second m n v
  { v.report with
    dst := (if v.skip then [] else [(i.e.dstBase + m * i.e.dstPitch + n * typeBytes f, leBytes r.1 (typeBytes f))]) ++ sec.1
    ovf := v.ovf || (!v.skip && r.2) || sec.2 }

/-- One block of a row of a block-format destination, from column `n0` with `cnt` columns (03 R96): a block that holds an output left
unwritten keeps its bytes and its carry slots (03 R91). (log 41, DESIGN CHOICE) -/
def EpiIn.blockOut (i : EpiIn) (m n0 cnt : Nat) : EpiOut :=
  let f := i.e.dstFmt
  let bs := mbBlock f
  let vs := (List.range cnt).map (fun j => i.outVal m (n0 + j))
  let secs := (vs.zipIdx).map (fun v => i.second m (n0 + v.2) v.1)
  let sec := secs.flatMap (·.1)
  let rep := (vs.map OutVal.report).foldl EpiOut.join { EpiOut.none with ovf := secs.any (·.2) }
  if vs.any (·.skip) then { rep with dst := sec }
  else
    let b := i.e.block m n0
    let ca := (i.e.carryAddr b).toNat
    let sl := ((i.carry ca).toNat, (i.carry (ca + 1)).toNat)
    let items := (vs.zipIdx).map (fun v => (v.1.val, i.rnd m (n0 + v.2)))
    let r := recipeBlock (mbWidth f) i.e.gradient (i.t.step.toNat % 2 == 1) sl items
    let ga := i.e.dstBase + m * i.e.dstPitch + n0 / 512 * mbGroup f
    { rep with
      dst := blockPieces f ga (n0 % 512 / bs) r.1.sigs r.1.exp ++ sec
      carry := if i.e.gradient then [(ca, [BitVec.ofNat 8 r.2.1, BitVec.ofNat 8 r.2.2])] else []
      blocks := if r.1.ovf then 1 else 0
      wide := (vs.zip r.1.sigs).map (fun v => (mbVal v.2 r.1.exp, bf16.decode (bf16.enc .rne v.1.val))) }

/-- The blocks of a row's last group that lie wholly in padding, written with a short last block (02 R36, 03 R96). (log 41, DESIGN CHOICE) -/
def EpiIn.padOut (i : EpiIn) (m : Nat) : EpiOut :=
  let f := i.e.dstFmt
  let bs := mbBlock f
  let n := i.t.n
  if n % bs = 0 then EpiOut.none
  else
    let ga := i.e.dstBase + m * i.e.dstPitch + n / 512 * mbGroup f
    { EpiOut.none with
      dst := ((List.range (512 / bs)).filter (fun kb => decide (ceilDiv (n % 512) bs ≤ kb))).flatMap (fun kb => blockPieces f ga kb [] 0) }

/-- What the epilogue produces for one column fold (03 R83, R97). -/
def EpiIn.fold (i : EpiIn) (j : Nat) : EpiOut :=
  let n0 := j * i.t.np
  let n1 := min i.t.n (n0 + i.t.np)
  let bs := mbBlock i.e.dstFmt
  (List.range i.t.m).foldl (fun o m =>
    let row := if isBlock i.e.dstFmt then
        (List.range (ceilDiv (n1 - n0) bs)).map (fun b => i.blockOut m (n0 + b * bs) (min bs (n1 - n0 - b * bs))) ++
          (if n1 = i.t.n then [i.padOut m] else [])
      else (List.range (n1 - n0)).map (fun n => i.plainOut m (n0 + n))
    row.foldl EpiOut.join o) EpiOut.none

/-- Bytes by address from pieces; a later piece wins. -/
def pieceBytes (t : Tbl Byte) (l : List (Nat × List Byte)) : Tbl Byte :=
  l.foldl (fun t p => p.2.zipIdx.foldl (fun t b => tins t (p.1 + b.2) b.1) t) t

/-- The lines that a byte table touches, rising. -/
def touchedLines (t : Tbl Byte) : List Nat := t.foldl (fun l b => sadd l (b.1 / 64)) []

/-- Write a byte table to local memory, line by line, with the bank poison flag (03 R94 stage 8, R104). -/
def Core.writeTable (x : Core) (t : Tbl Byte) (poison : Bool) : Core :=
  (touchedLines t).foldl (fun x l =>
    let bs := t.filter (fun b => b.1 / 64 == l)
    if bs.length = 64 then x.lwrite (64 * l) (bs.map (·.2)) poison
    else bs.foldl (fun x b => x.lwrite b.1 [b.2] poison) x) x

/-- The output digest of a tile of core `c` (10 R352). -/
def outputDigest (c : Nat) (t : Tbl Byte) (poison : Bool) : Word :=
  (touchedLines t).foldl (fun d l =>
    d + BitVec.ofNat 64 (crc64 (leBytes (64 * lmemLine c l) 8 ++ (List.range 64).map (fun k => tget 0 t (64 * l + k)) ++
      [if poison then 1 else 0]))) 0

/-- The statistic of 10 R353 exceeds the threshold: sums in exact form rounded to FP32, then an FP32 quotient and root. -/
def wideExceeds (l : List (FVal × FVal)) (threshold : Nat) : Bool :=
  let sq := fun (v : FVal) => let e := Elem.ofIeee fp32 (fp32.enc .rne v); Term.mul e e
  let num := toF32 (reduceExact 48 (l.map (fun v => sq (v.1.add v.2.neg)))).val
  let den := toF32 (reduceExact 48 (l.map (fun v => sq v.2))).val
  (f32 threshold).lt (toF32 (toF32 (num.div den)).sqrt)

/-! ## The stationary registers (03 R77 to R80) -/

/-- Format pair and shape of a stationary operand. -/
def Stationary.key (x : Stationary) : Nat × Nat × Nat × Nat := (x.fmtA, x.fmtB, x.k, x.n)

/-- The keys of the folds that a tile leaves in the active and the loading registers. -/
def TileRec.foldKeys (t : TileRec) (fb : Nat) (act : Nat × Nat × Nat × Nat) : (Nat × Nat × Nat × Nat) × (Nat × Nat × Nat × Nat) :=
  let kp := pairKp t.viewA.fmt
  let ps := ceilDiv t.k kp
  let key := fun f => (t.viewA.fmt, fb, min kp (t.k - f % ps * kp), min t.np (t.n - f / ps * t.np))
  let f := ps * t.folds
  (key (f - 1), if 1 < f then key (f - 2) else act)

/-- The stationary operand that will be active behind the array queue, by its key (04 R137). -/
def Core.statAhead (x : Core) : Nat × Nat × Nat × Nat :=
  (x.arrayQ.foldl (fun p q => match q with
    | .tile t => if t.active then p else t.foldKeys ((t.viewB.map (fun (v : View) => v.fmt)).getD 0) p.1
    | .stld v f => (p.1, (f, v.fmt, v.rows, v.cols))
    | .swap => (p.2, p.1)) (x.statActive.key, x.statLoading.key)).1

/-- Elements of a part of a view in k-major order. -/
def loadFold (get : Nat → Nat → List Byte) (v : View) (k0 k1 n0 n1 : Nat) : List Elem :=
  (List.range (k1 - k0)).flatMap (fun k => (List.range (n1 - n0)).map (fun n => v.elem get (k0 + k) (n0 + n)))

/-- The byte ranges of the elements `c0` to `c1 - 1` of a stored row at `a`: of a block format the significands, or whole bit planes, and the exponents
of their groups (02 R34, R35). -/
def partRanges (fmt a c0 c1 : Nat) : List (Nat × Nat) :=
  if isBlock fmt then
    ((List.range (ceilDiv c1 512)).filter (fun g => decide (c0 < 512 * g + 512))).flatMap (fun g =>
      let ga := a + g * mbGroup fmt
      let lo := c0 - 512 * g
      let hi := min 512 (c1 - 512 * g)
      [if fmt = 4 then (ga + lo, hi - lo) else (ga, mbSigBytes fmt), (ga + mbSigBytes fmt + lo / mbBlock fmt, ceilDiv hi (mbBlock fmt) - lo / mbBlock fmt)])
  else [(a + c0 * typeBytes fmt, (c1 - c0) * typeBytes fmt)]

/-- The byte ranges of a part of a view. -/
def View.partRanges (v : View) (k0 k1 n0 n1 : Nat) : List (Nat × Nat) :=
  if v.trans then (List.range (n1 - n0)).flatMap (fun n => Machine.partRanges v.fmt (v.base + (n0 + n) * v.pitch) k0 k1)
  else (List.range (k1 - k0)).flatMap (fun k => Machine.partRanges v.fmt (v.base + (k0 + k) * v.pitch) n0 n1)

/-- Fold number `f` of a tile as the loader loads it (03 R83), with the poison of the lines that it reads (03 R104). -/
def TileRec.foldOf (t : TileRec) (x : Core) (v : View) (f : Nat) : Stationary :=
  let kp := pairKp t.viewA.fmt
  let ps := ceilDiv t.k kp
  let k0 := f % ps * kp
  let n0 := f / ps * t.np
  let k1 := min t.k (k0 + kp)
  let n1 := min t.n (n0 + t.np)
  { fmtA := t.viewA.fmt, fmtB := v.fmt, k := k1 - k0, n := n1 - n0, elems := loadFold x.lread v k0 k1 n0 n1
    poison := !(x.poisonedLines (v.partRanges k0 k1 n0 n1)).isEmpty }

/-- The stationary registers after a tile has streamed (03 R78, R80). -/
def Core.afterFolds (x : Core) (t : TileRec) : Core :=
  match t.viewB with
  | none => x
  | some v =>
    let f := ceilDiv t.k (pairKp t.viewA.fmt) * t.folds
    { x with statActive := t.foldOf x v (f - 1)
             statLoading := if 1 < f then t.foldOf x v (f - 2) else x.statActive }

/-- One entry leaves the array queue; every boundary behind it has one less to wait for (04 R153). -/
def Core.popArray (x : Core) : Core :=
  { x with arrayQ := x.arrayQ.drop 1, bounds := x.bounds.map (fun (b : Boundary) => { b with work := { b.work with arr := b.work.arr - 1 } }) }

/-- SWAPs at the head of the queue exchange the registers of every cell (03 R79), and an STLD at the head starts to load. -/
def Core.settleArray : Nat → Core → Core
  | 0, x => x
  | n + 1, x => match x.arrayQ with
    | .swap :: _ => (({ x with statActive := x.statLoading, statLoading := x.statActive } : Core).popArray).settleArray n
    | .stld _ _ :: _ => { x with loadBusy := true }
    | _ => x

def Core.settle (x : Core) : Core := x.settleArray x.arrayQ.length

/-! ## Issue -/

def rangeEntries (l : List (Nat × Nat)) (write : Bool) (holder : Nat) : List RangeEntry :=
  l.map (fun r => { lo := r.1, hi := r.2, write := write, holder := holder })

/-- Whether an instruction that takes range entries must wait (03 R103, 04 R142). -/
def Core.rangeStall (x : Core) (l : List RangeEntry) : Bool :=
  l.any (fun r => x.conflict r.lo r.hi r.write) || decide (16 < x.ranges.length + l.length)

/-- A tile that the core still holds, by its number. -/
def Core.tileBy (x : Core) (seq : Nat) : Option TileRec :=
  (x.arrayQ.filterMap (fun q => match q with
    | .tile t => if t.seq = seq then some t else none
    | _ => none) ++ (x.current.toList ++ x.done).filter (fun (t : TileRec) => t.seq == seq)).head?

/-- Whether a queued tile will take a bank (04 R140). -/
def Core.awaited (x : Core) (b : Nat) : Bool :=
  x.arrayQ.any (fun q => match q with
    | .tile t => t.b0 ≤ b && decide (b < t.b0 + t.banks)
    | _ => false)

/-- Whether a tile of the gated job is sampled for assay (10 R349). -/
def assaySampled (step run core seq divisor : Nat) : Bool :=
  (crc32c (leBytes step 8 ++ leBytes run 1 ++ leBytes core 1 ++ leBytes seq 4)) % (max 1 divisor) == 0

/-- The assay core of a core (10 R350). -/
def State.assayCore (s : State) (c : Nat) : Nat := (c + 36 * s.objGet 0x3200 2) % 144

/-- Enter an assay of a tile into its assay core's fifth slot (10 R350), behind assays that still wait for that slot; the core wakes for it, or does not go to
sleep (14 R488, R491). (log 45, DESIGN CHOICE) -/
def State.openAssay (s : State) (c : Nat) (t : TileRec) : State :=
  let x := s.core c
  let cs := match t.epi with
    | some e => (e.carryAddrs t.m t.n).flatMap (fun a => [(a.toNat, (x.lread a.toNat 1).headD 0), (a.toNat + 1, (x.lread (a.toNat + 1) 1).headD 0)])
    | none => []
  let a : AssayRec := { tile := t, origin := c, carry := cs, stat := none, originDigest := none, claimed := t.epi.isSome, started := false, bank := 0, ahead := [], combine := [], poison := false, digest := none }
  ((s.modCore (s.assayCore c) (fun y => { y with assays := y.assays ++ [a] })).wakeCore (s.assayCore c)).modEsc (fun e => { e with assays := e.assays ++ [(c, t.seq)] })

/-- Update the assay record of a tile wherever it waits. -/
def State.modAssay (s : State) (c seq : Nat) (f : AssayRec → AssayRec) : State :=
  s.each (List.range 144) (fun s i =>
    if (s.core i).assays.any (fun (a : AssayRec) => a.origin == c && a.tile.seq == seq) then
      s.modCore i (fun y => { y with assays := y.assays.map (fun (a : AssayRec) => if a.origin = c ∧ a.tile.seq = seq then f a else a) })
    else s)

/-- The assay record of a tile, if one is open. -/
def State.assayOf (s : State) (c seq : Nat) : Option AssayRec :=
  ((List.range 144).flatMap (fun i => (s.core i).assays)).find? (fun (a : AssayRec) => a.origin == c && a.tile.seq == seq)

/-- The tile in the fields of a TILE, with everything that it captures at issue (04 R135, R137). -/
def State.tileOf (s : State) (c : Nat) (w : TileFields) : TileRec :=
  let x := s.core c
  let m := w.mm1.toNat + 1
  let n := w.nm1.toNat + 1
  let k := (x.s w.rk.toNat).toNat
  let ra := (x.s w.ra.toNat).toNat
  let rb := (x.s w.rb.toNat).toNat
  let re := (x.s w.re.toNat).toNat
  let eb := x.lread re 128
  let job := (s.stream x.stream).job
  let key := (s.stepNumber, s.esc.run)
  let sq := if x.seqKey = key then x.stepSeq else 0
  let gated := s.stepOpenFor job
  { seq := x.tileSeq, m := m, n := n, k := k, kind := w.kind.toNat, compact := w.mode, b0 := w.b0.toNat
    viewA := viewOf (x.lread ra 16) m k
    viewB := if w.active then none else some (viewOf (x.lread rb 16) k n)
    active := w.active
    combine := if w.rx = 0 then none else some (viewOf (x.lread (x.s w.rx.toNat).toNat 16) m n)
    idxBase := if w.kind = 0 then 0 else (x.s w.ri.toNat).toNat
    epi := if w.epi then some (epiOf eb ((x.s (recNat eb 11 1)).setWidth 32)) else none
    compat := (s.objGet 0x3101 0).testBit job
    step := s.stepNumber, job := job, stream := x.stream, stepSeq := sq
    assay := (x.assayMark && s.esc.profile != 0) ||
      (s.esc.profile == 2 && gated && assaySampled s.stepNumber.toNat s.esc.run c sq (s.objGet 0x3200 1))
    freeBase := s.free }

/-- The codes of a TILE (04 R135 to R137). (log 40, DESIGN CHOICE) -/
def tileCodes (x : Core) (w : TileFields) (t : TileRec) : List (Bool × Nat) :=
  let fa := t.viewA.fmt
  let outs := t.m * t.n
  let fb := match t.viewB with
    | some v => v.fmt
    | none => x.statAhead.2.1
  let ra := (x.s w.ra.toNat).toNat
  let rb := (x.s w.rb.toNat).toNat
  let rx := (x.s w.rx.toNat).toNat
  let re := (x.s w.re.toNat).toNat
  [(w.rsv != 0 || (!w.epi && w.re != 0) || (w.active && w.rb != 0), 0x02),
   (w.kind == 3 || (w.epi && w.re == 0), 0x03),
   (t.k == 0 || decide (2 ^ 32 - 1 < t.k) || decide ((if w.mode then 262144 else 131072) < outs)
      || ((w.kind == 1 || w.kind == 2) && decide (2097152 < t.k + t.idxBase)), 0x04),
   (decide (8 < t.b0 + t.banks), 0x05),
   (decide (fa < 8) && decide (fb < 8) && (pairM fa fb).isNone && !w.active, 0x16),
   (w.active && (decide (x.statAhead ≠ (fa, fb, t.k, t.n)) || (pairM fa fb).isNone || decide (pairKp fa < t.k) || decide (t.np < t.n)), 0x07),
   (w.rx != 0 && (w.mode || w.kind != 0 || (t.combine.map (fun (v : View) => v.fmt)) != some 7), 0x0C),
   ((w.kind == 1 || w.kind == 2) && w.mode, 0x03),
   (t.compat && (fa == 5 || fa == 6 || fb == 5 || fb == 6 || w.mode), 0x10)] ++
  viewCodes ra (x.lread ra 16) t.viewA ++
  (match t.viewB with
   | some v => viewCodes rb (x.lread rb 16) v
   | none => []) ++
  (match t.combine with
   | some v => viewCodes rx (x.lread rx 16) v
   | none => []) ++
  (match t.epi with
   | some e => epiCodes re (x.lread re 128) e t.m t.n t.kind t.compact t.compat
   | none => [])

/-- The range entries of a TILE: operands, what its epilogue reads, what it writes (04 R142). -/
def TileRec.entries (t : TileRec) : List RangeEntry :=
  rangeEntries (t.viewA.span :: (match t.viewB with
    | some v => [v.span]
    | none => [])) false (4 * t.seq) ++
  rangeEntries ((match t.combine with
    | some v => [v.span]
    | none => []) ++ (match t.epi with
    | some e => e.readSpans t.m t.n
    | none => [])) false (4 * t.seq + 1) ++
  (match t.epi with
   | some e => rangeEntries (e.writeSpans t.m t.n) true (4 * t.seq + 2)
   | none => [])

/-- TILE (04 R135 to R137, R141, R142; 10 R349, R350); its records are read once no write in flight covers them. -/
def execTile (c : Fin 144) (t : TileFields) (s : State) : Host.Outcome State Fault Refusal :=
  let x := s.core c
  let r := s.tileOf c t
  let re := (x.s t.re.toNat).toNat
  let sreg := recNat (x.lread re 128) 11 1
  let recs := [((x.s t.ra.toNat).toNat, 16)] ++ (if t.active then [] else [((x.s t.rb.toNat).toNat, 16)]) ++
    (if t.rx = 0 then [] else [((x.s t.rx.toNat).toNat, 16)]) ++ (if t.epi then [(re, 128)] else [])
  let busy := recs.any (fun p => x.conflict p.1 (p.1 + p.2) false)
  .next (s.issue c (tileWord t)
    { addrS := [t.ra.toNat, t.rk.toNat] ++ (if t.active then [] else [t.rb.toNat]) ++ [t.rx.toNat] ++
        (if t.epi then [t.re.toNat] ++ (if recNat (x.lread re 128) 10 1 = 1 then [sreg] else []) else []) ++ (if t.kind = 0 then [] else [t.ri.toNat])
      reads := recs
      faults := if busy then [] else codes (tileCodes x t r)
      stall := if 4 ≤ x.arrayQ.length then .arrayQueue else if t.epi && decide (4 ≤ x.epiQ.length) then .epilogueQueue
        else if x.rangeStall r.entries || busy then .tracker else .none }
    (fun s =>
      let r : TileRec := { r with freeBase := s.free }
      let s := s.modCore c (fun x =>
        (({ x with
            arrayQ := x.arrayQ ++ [.tile r], tileSeq := x.tileSeq + 1, stepSeq := r.stepSeq + 1, seqKey := (r.step, s.esc.run)
            assayMark := false, ranges := x.ranges ++ r.entries
            epiQ := if r.epi.isSome then x.epiQ ++ [{ seq := r.seq, b0 := r.b0, block := r.epi }] else x.epiQ
            unclaimed := if r.epi.isSome then x.unclaimed else x.unclaimed ++ [(r.seq, r.b0)] } : Core).settle).next)
      let s := if r.compat && r.combine.isSome then { s with free := s.free + r.m * r.n } else s
      if r.assay then s.openAssay c r else s))

/-- STLD (04 R140): the stationary operand of one fold. -/
def execStld (c : Fin 144) (w : GenFields) (s : State) : Host.Outcome State Fault Refusal :=
  let x := s.core c
  let a := (x.s w.a.toNat).toNat
  let k := (x.s w.b.toNat).toNat
  let n := (x.s w.c.toNat).toNat
  let f := w.type.toNat
  let v := viewOf (x.lread a 16) k n
  let es := rangeEntries [v.span] false (4 * x.tileSeq + 3)
  .next (s.issue c (genWord 0x41 w)
    { addrS := [w.a.toNat, w.b.toNat, w.c.toNat], reads := [(a, 16)]
      faults := if x.conflict a (a + 16) false then [] else codes ([(({ func := false, a := true, b := true, c := true, type := true } : Uses).bad w, 0x02), (decide (7 < f), 0x03),
        (decide (f < 8) && decide (v.fmt < 8) && (pairM f v.fmt).isNone, 0x16),
        (k == 0 || n == 0 || ((pairM f v.fmt).isSome && (decide (pairKp f < k) || decide (pairNp f < n))), 0x04)] ++ viewCodes a (x.lread a 16) v)
      stall := if 4 ≤ x.arrayQ.length then .arrayQueue else if x.rangeStall es || x.conflict a (a + 16) false then .tracker else .none }
    (coreStep c (fun x => ({ x with arrayQ := x.arrayQ ++ [.stld v f], tileSeq := x.tileSeq + 1, ranges := x.ranges ++ es } : Core).settle)))

/-- SWAP (03 R79). -/
def execSwap (c : Fin 144) (w : GenFields) (s : State) : Host.Outcome State Fault Refusal :=
  .next (s.issue c (genWord 0x42 w)
    { faults := codes [(({ func := false } : Uses).bad w, 0x02)]
      stall := if 4 ≤ (s.core c).arrayQ.length then .arrayQueue else .none }
    (coreStep c (fun x => ({ x with arrayQ := x.arrayQ ++ [.swap] } : Core).settle)))

/-- The oldest unclaimed tile whose first bank is named (04 R141). -/
def Core.claimOf (x : Core) (b : Nat) : Option (Nat × Nat) := x.unclaimed.find? (fun u => u.2 == b)

/-- A claim enters the epilogue queue. -/
def Core.claim (x : Core) (u : Nat × Nat) (block : Option EpiRec) : Core :=
  { x with unclaimed := x.unclaimed.filter (fun v => v.1 != u.1), epiQ := x.epiQ ++ [{ seq := u.1, b0 := u.2, block := block }] }

/-- A claim becomes known to the assay of its tile, which captures the carry slots. (log 41, DESIGN CHOICE) -/
def State.claimAssay (s : State) (c seq : Nat) (block : Option EpiRec) : State :=
  let x := s.core c
  match s.assayOf c seq with
  | none => s
  | some a =>
    let cs := match block with
      | some e => (e.carryAddrs a.tile.m a.tile.n).flatMap (fun p => [(p.toNat, (x.lread p.toNat 1).headD 0), (p.toNat + 1, (x.lread (p.toNat + 1) 1).headD 0)])
      | none => []
    s.modAssay c seq (fun a => { a with claimed := true, carry := cs, tile := { a.tile with epi := block } })

/-- EPI (04 R139 to R142). -/
def execEpi (c : Fin 144) (w : GenFields) (s : State) : Host.Outcome State Fault Refusal :=
  let x := s.core c
  let a := (x.s w.a.toNat).toNat
  let b := x.lread a 128
  let sreg := recNat b 11 1
  let e := epiOf b ((x.s sreg).setWidth 32)
  let u := x.claimOf (w.imm.toNat % 8)
  let t := u.bind (fun v => x.tileBy v.1)
  let m := (t.map (fun (t : TileRec) => t.m)).getD 1
  let n := (t.map (fun (t : TileRec) => t.n)).getD 1
  let seq := (u.map (·.1)).getD 0
  let es := rangeEntries (e.readSpans m n) false (4 * seq + 1) ++ rangeEntries (e.writeSpans m n) true (4 * seq + 2)
  .next (s.issue c (genWord 0x43 w)
    { addrS := [w.a.toNat] ++ (if recNat b 10 1 = 1 then [sreg] else []), reads := [(a, 128)]
      faults := if x.conflict a (a + 128) false then [] else codes ([(({ func := false, a := true, imm := 3 } : Uses).bad w, 0x02), (t.isNone, 0x06)] ++
        epiCodes a b e m n ((t.map (fun (t : TileRec) => t.kind)).getD 0) ((t.map (fun (t : TileRec) => t.compact)).getD false)
          ((t.map (fun (t : TileRec) => t.compat)).getD false))
      stall := if 4 ≤ x.epiQ.length then .epilogueQueue else if x.rangeStall es || x.conflict a (a + 128) false then .tracker else .none }
    (fun s => match u with
      | some v => (coreStep c (fun x => { x.claim v (some e) with ranges := x.ranges ++ es }) s).claimAssay c v.1 (some e)
      | none => s))

/-- ACCFREE (04 R140, R141). -/
def execAccfree (c : Fin 144) (w : GenFields) (s : State) : Host.Outcome State Fault Refusal :=
  let x := s.core c
  let u := x.claimOf (w.imm.toNat % 8)
  .next (s.issue c (genWord 0x44 w)
    { faults := codes [(({ func := false, imm := 3 } : Uses).bad w, 0x02), (u.isNone, 0x06)]
      stall := if 4 ≤ x.epiQ.length then .epilogueQueue else .none }
    (fun s => match u with
      | some v => (coreStep c (fun x => x.claim v none) s).claimAssay c v.1 none
      | none => s))

/-- The ACCFREE claims that HALT makes (04 R126): the oldest unclaimed tiles, as many as the epilogue queue has room for. -/
def State.haltClaims (s : State) (c : Nat) : State :=
  let x := s.core c
  let room := 4 - x.epiQ.length
  let s := s.setCore c { x with epiQ := x.epiQ ++ (x.unclaimed.take room).map claimOp, unclaimed := x.unclaimed.drop room }
  s.each (x.unclaimed.take room) (fun s u => s.claimAssay c u.1 none)

/-- HALT (04 R126): unclaimed tiles are claimed as by ACCFREE, in the order in which they issued, each taking an epilogue queue
entry; while the queue is full HALT stays at its PC, and once every tile is claimed it waits for the core's work to complete. (log 41, DESIGN CHOICE) -/
def execHalt (c : Fin 144) (w : GenFields) (s : State) : Host.Outcome State Fault Refusal :=
  .next (s.issue c (genWord 0x0B w) { faults := codes [(({ func := false } : Uses).bad w, 0x02)] }
    (fun s => (s.haltClaims c).modCore c (fun x =>
      if x.unclaimed.isEmpty then { x with wait := .halt }.next else { x with stall := .epilogueQueue })))

/-- Whether every bank of a mask is FREE and no issued tile awaits it (04 R140). -/
def Core.banksFree (x : Core) (mask : BitVec 8) : Bool :=
  (List.range 8).all (fun b => !mask.getLsbD b || ((vget x.banks b Bank.reset).state == .free && !x.awaited b))

/-- ACCWAIT (04 R140). -/
def execAccwait (c : Fin 144) (w : GenFields) (s : State) : Host.Outcome State Fault Refusal :=
  let mask : BitVec 8 := w.imm.setWidth 8
  .next (s.issue c (genWord 0x45 w)
    { faults := codes [(({ func := false, imm := 8 } : Uses).bad w, 0x02), (mask == 0, 0x03)] }
    (fun s => s.modCore c (fun x => if x.banksFree mask then x.next else { x with wait := .banks mask })))

/-- ACCWAIT_RELEASE (04 R140). -/
def execAccwaitRelease (c : Fin 144) (s : State) : Host.Outcome State Fault Refusal :=
  let x := s.core c
  .next (match x.wait with
    | .banks mask => if x.banksFree mask then s.setCore c (x.release 0) else s
    | _ => s)

/-- The record of 16 bytes that ACCRD gives for an entry (03 Table 10). -/
def accRecord (k : Nat) (e : AccEntry) : Nat := e.entry.toNat + 2 ^ 80 * e.tag.toNat + 2 ^ 96 * (k % 2 ^ 32)

/-- ACCRD (03 R113, 04 R140). -/
def execAccrd (c : Fin 144) (w : GenFields) (s : State) : Host.Outcome State Fault Refusal :=
  let x := s.core c
  let b := w.imm.toNat % 8
  let bank := vget x.banks b Bank.reset
  let first := (x.s w.a.toNat).toNat
  .next (s.issue c (genWord 0x46 w)
    { addrS := [w.a.toNat]
      faults := codes [(({ func := false, d := true, a := true, imm := 3 } : Uses).bad w, 0x02), (decide (16256 < first), 0x03),
        (bank.state == .free && x.awaited b, 0x06), (!(s.objGet 0x3110 0).testBit (s.stream x.stream).job, 0x0D)]
      stall := if bank.state = .accumulating then .bank else .none }
    (coreStep c (fun x =>
      let v := (List.range 128).foldr (fun i acc => 2 ^ 128 * acc + accRecord bank.k (if bank.state = .free then AccEntry.reset else tget AccEntry.reset x.acc (16384 * b + first + i))) 0
      x.setV w.d.toNat (BitVec.ofNat 16384 v) (if bank.poison then BitVec.allOnes 32 else 0))))

/-! ## Streaming and accumulation -/

/-- The banks that a tile needs are FREE (03 R87). -/
def Core.banksReady (x : Core) (t : TileRec) : Bool := (List.range t.banks).all (fun i => (vget x.banks (t.b0 + i) Bank.reset).state == .free)

/-- The header of a tile's banks while it accumulates (03 R86). -/
def TileRec.header (t : TileRec) (poison : Bool) : Bank :=
  { state := .accumulating, m := t.m, n := t.n, k := t.k, compact := t.compact, kind := t.kind, poison := poison, tile := t.seq }

/-- The lowest run of FREE banks that fits a tile. -/
def Core.freeRun (x : Core) (n : Nat) : Option Nat :=
  (List.range (9 - n)).find? (fun b => (List.range n).all (fun i => (vget x.banks (b + i) Bank.reset).state == .free))

/-- The local ranges that a tile's operands read. -/
def TileRec.operandRanges (t : TileRec) : List (Nat × Nat) :=
  t.viewA.rowRanges ++ (match t.viewB with
    | some v => v.rowRanges
    | none => [])

/-- The oldest assay that has not started, where a free run of banks fits it: it goes before the program's queue head (10 R350). One on the active
stationary operand has to wait until the original has streamed. -/
def Core.assayNext (x : Core) : Option (AssayRec × Nat) :=
  match x.assays.find? (fun (a : AssayRec) => !a.started) with
  | some a => if a.tile.active && a.stat.isNone then none else (x.freeRun a.tile.banks).map (fun b => (a, b))
  | none => none

/-- A residue event of the array in one of a tile's banks from `b` up; which one is free (03 R112). (log 41, DESIGN CHOICE) -/
def State.arrayResidue (s : State) (c b : Nat) (t : TileRec) : State :=
  let f := s.takeFree
  f.2.residueEvent c t.job (.bank (b + f.1 % t.banks))

/-- TILE_ENTER_ARRAY (03 R87): the tile at the queue head streams once the array is free for it and its banks are FREE, and no assay goes before it; its
results are formed as R41 to R54, R71 and R92 say. A residue event of the array (03 R112) is reported when the checker runs. -/
def execTileEnterArray (c : Fin 144) (residue : Bool) (s : State) : Host.Outcome State Fault Refusal :=
  let x := s.core c
  .next (match x.arrayQ with
    | .tile t :: _ =>
      if x.current.isSome || !x.banksReady t || x.assayNext.isSome then s
      else
        let st := if t.active then some x.statActive else none
        let lines := x.poisonedLines t.operandRanges
        let poison := !lines.isEmpty || (t.active && x.statActive.poison)
        let ents := packEntries t.compact (t.results x.lread st)
        let y := { x.popArray with current := some t, folds := 0, acc := accPut x.acc t.b0 ents, banks := setBanks x.banks t.b0 t.banks (fun _ => t.header poison) }
        let y := if t.active then y else y.afterFolds t
        let s := s.setCore c y.settle
        let s := if t.active then s.modAssay c t.seq (fun a => { a with stat := st }) else s
        let s := if residue && s.esc.profile != 0 then s.arrayResidue c t.b0 t else s
        s.each lines (fun s l => s.consume (lmemLine c l) c t.stream t.job)
    | _ => s)

/-- STATIONARY_LOAD_COMPLETE (03 R77). -/
def execStationaryLoadComplete (c : Fin 144) (s : State) : Host.Outcome State Fault Refusal :=
  let x := s.core c
  .next (match x.arrayQ with
    | .stld v f :: _ =>
      if !x.loadBusy then s
      else
        let lines := x.poisonedLines v.rowRanges
        let y := { x.popArray with
          loadBusy := false
          statLoading := { fmtA := f, fmtB := v.fmt, k := v.rows, n := v.cols, elems := loadFold x.lread v 0 v.rows 0 v.cols, poison := !lines.isEmpty }
          ranges := x.ranges.eraseP (fun (r : RangeEntry) => r.lo == v.span.1 && r.hi == v.span.2 && r.holder % 4 == 3) }
        let s := s.setCore c y.settle
        s.each lines (fun s l => s.coreConsume c (lmemLine c l))
    | _ => s)

/-- The epilogue's view of a tile on a core. -/
def State.epiIn (s : State) (c : Nat) (t : TileRec) (e : EpiRec) : EpiIn :=
  let x := s.core c
  { t := t, e := e, get := x.lread, carry := fun a => (x.lread a 1).headD 0, tbl := x, salt := s.salt
    ent := fun i => tget AccEntry.reset x.acc (16384 * t.b0 + i) }

/-- Local lines that the epilogue of a tile reads: combine input (whose poison marks the bank), scale and bias. -/
def TileRec.combineRanges (t : TileRec) : List (Nat × Nat) := match t.combine with
  | some v => v.rowRanges
  | none => []

/-- Entries whose outputs have all been drained once `f` column folds have (03 R90). -/
def TileRec.drainedEntry (t : TileRec) (f e : Nat) : Bool :=
  let i := e - 16384 * t.b0
  16384 * t.b0 ≤ e && decide (e < 16384 * (t.b0 + t.banks)) &&
    (if t.compact then decide ((2 * i) % t.n / t.np < f) && decide ((2 * i + 1) % t.n / t.np < f) else decide (i % t.n / t.np < f))

/-- Count and report what an epilogue found (02 R49, R59, R66; 03 R91). (log 41, DESIGN CHOICE) -/
def State.epiReport (s : State) (c : Nat) (t : TileRec) (o : EpiOut) : State :=
  let s := s.bump 0x3103 (if t.compact then 2 else 1) o.spills
  let s := s.bump 0x3103 5 o.misfits
  let s := if o.async then s.modCore c (fun x => { x with async := x.async ||| 1 }) else s
  (s.blockOverflow (coreQuarter c) t.job o.blocks).infReport (coreQuarter c) t.job o.ovf

/-- Drain the column folds from `f0` up to `f1` of the tile in the epilogue (03 R94, R97). -/
def State.drainFolds (s : State) (c f0 f1 : Nat) : State :=
  match (s.core c).draining with
  | none => s
  | some (t, none) => s.modCore c (fun x => { x with acc := x.acc.filter (fun a => !t.drainedEntry f1 a.1) })
  | some (t, some e) =>
    let x := s.core c
    let i := s.epiIn c t e
    let bad := x.poisonedLines t.combineRanges
    let side := x.poisonedLines ((e.readSpans t.m t.n).map (fun r => (r.1, r.2 - r.1)) ++ (e.carryAddrs t.m t.n).map (fun a => (a.toNat, 2)))
    let o := (List.range (f1 - f0)).foldl (fun o j => o.join (i.fold (f0 + j))) EpiOut.none
    let poison := (vget x.banks t.b0 Bank.reset).poison || !bad.isEmpty
    let x := if bad.isEmpty then x else { x with banks := setBanks x.banks t.b0 t.banks (fun b => { b with poison := true }) }
    let x := x.writeTable (pieceBytes [] o.dst) poison
    let x := x.writeTable (pieceBytes [] o.carry) poison
    let x := { x with acc := x.acc.filter (fun a => !t.drainedEntry f1 a.1), drainOut := pieceBytes x.drainOut o.dst }
    let s := (s.setCore c x).epiReport c t o
    s.each (bad ++ side) (fun s l => s.consume (lmemLine c l) c t.stream t.job)

/-- COLUMN_FOLD_COMPLETE (03 R83, R97): the last update of a column fold lands; a drain in progress goes on with it. (log 6, DESIGN CHOICE) -/
def execColumnFoldComplete (c : Fin 144) (s : State) : Host.Outcome State Fault Refusal :=
  let x := s.core c
  .next (match x.current with
    | some t =>
      if t.folds ≤ x.folds then s
      else
        let s := s.setCore c { x with folds := x.folds + 1 }
        if (x.draining.map (fun d => d.1.seq)) = some t.seq then s.drainFolds c x.folds (x.folds + 1) else s
    | none => s)

/-- Whether a tile's assay has still to read the operands (10 R350). -/
def State.assayReads (s : State) (c seq : Nat) : Bool := match s.assayOf c seq with
  | some a => !a.started
  | none => false

/-- TILE_ACCUMULATION_COMPLETE (03 R86): every update has landed. -/
def execTileAccumulationComplete (c : Fin 144) (s : State) : Host.Outcome State Fault Refusal :=
  let x := s.core c
  .next (match x.current with
    | some t =>
      let dr := (x.draining.map (fun d => d.1.seq)) == some t.seq
      let s := if dr then s.drainFolds c x.folds t.folds else s
      let keep := s.assayReads c t.seq
      s.modCore c (fun x =>
        let y : Core := { x with
          current := none, folds := 0, done := if dr then x.done else x.done ++ [t]
          banks := if dr then x.banks else setBanks x.banks t.b0 t.banks (fun b => { b with state := .complete }) }
        if keep then y else y.freeRanges (4 * t.seq))
    | none => s)

/-! ## Draining -/

/-- The tile that the epilogue serves next: the first claimed one in order of completion, else the one that streams, once its first
column fold has landed (03 R97, 04 R141). -/
def Core.nextDrain (x : Core) : Option (TileRec × EpiOp × Nat) :=
  let op := fun (t : TileRec) => x.epiQ.find? (fun (e : EpiOp) => e.seq == t.seq)
  match x.done.findSome? (fun t => (op t).map (fun e => (t, e, t.folds))) with
  | some r => some r
  | none => match x.current with
    | some t => if x.folds = 0 then none else (op t).map (fun e => (t, e, x.folds))
    | none => none

/-- Whether an assay is one whose drain the epilogue would serve: its tile has been claimed, and it has not drained. -/
def AssayRec.drains (a : AssayRec) : Bool := a.started && a.claimed && a.digest.isNone

/-- The assay whose drain comes before that of a tile: its banks were COMPLETE first (10 R350). (log 45, DESIGN CHOICE) -/
def Core.assayBefore (x : Core) (seq : Nat) : Option AssayRec := x.assays.find? (fun (a : AssayRec) => a.drains && !a.ahead.contains seq)

/-- The assay that the epilogue serves next: the oldest whose banks were COMPLETE before those of the program's next tile. -/
def Core.nextAssay (x : Core) : Option AssayRec := match x.nextDrain with
  | some n => x.assayBefore n.1.seq
  | none => x.assays.find? AssayRec.drains

/-- EPILOGUE_DRAIN_START (03 R97); an assay whose banks were COMPLETE earlier goes first (10 R350). A bank is DRAINING
from then on, also while later folds are accumulated. (log 44, DESIGN CHOICE) -/
def execEpilogueDrainStart (c : Fin 144) (s : State) : Host.Outcome State Fault Refusal :=
  let x := s.core c
  .next (if x.draining.isSome || x.nextAssay.isSome then s
    else match x.nextDrain with
      | none => s
      | some (t, e, f) =>
        let y := { x with
          draining := some (t, e.block), drainOut := [], epiQ := x.epiQ.filter (fun (o : EpiOp) => o.seq != t.seq)
          done := x.done.filter (fun (o : TileRec) => o.seq != t.seq), banks := setBanks x.banks t.b0 t.banks (fun b => { b with state := .draining }) }
        (s.setCore c y).drainFolds c 0 f)

/-! ## What an assay finds (10 R352) -/

/-- Charge a physical core, the one mapped to a logical core, with a mismatch (10 R352). -/
def State.chargeMismatch (s : State) (c : Nat) : State :=
  let p := 40 * coreQuarter c + vget s.resil.map c 0
  { s with resil := { s.resil with phys := vmod s.resil.phys p (fun x => { x with mismatches := x.mismatches + 1 }) } }

/-- A check event of the gated job that belongs to no open step, or to an earlier one, counts against the next step, or the open one, and is a late
report as well (01 R25). (log 41, DESIGN CHOICE) -/
def State.lateReason (s : State) (q code : Nat) : State :=
  if s.esc.record.isNone || s.esc.reported.getLsbD q then s.modEsc (fun e => { e with late := e.late ++ [code, 7] })
  else s.modEsc (fun e => { e with reasons := e.reasons ++ [code, 7] })

/-- The two digests differ: an ASSAY reason in the original's quarter, counted, both physical cores charged (10 R352). -/
def State.assayMismatch (s : State) (c origin : Nat) (t : TileRec) : State :=
  let s := (((s.bump 0x3204 6 1).chargeMismatch origin).chargeMismatch c).realEvent 3
  if t.job ≠ s.gatedJob then s
  else if (s.esc.record.map (fun (r : StepRec) => r.step)) = some t.step then s.reason (coreQuarter origin) 2
  else s.lateReason (coreQuarter origin) 2

/-- Both digests of an assay on core `c` are there: it ends, and they are compared (10 R352). -/
def State.assayJudge (s : State) (c : Nat) (a : AssayRec) (own origin : Word) : State :=
  let s := s.dropAssay c a
  if own = origin then s else s.assayMismatch c a.origin a.tile

/-- The assay of a tile that has drained before its original is judged once the original's digest is there. -/
def State.assayMeets (s : State) (c seq : Nat) (origin : Word) : State :=
  s.each (List.range 144) (fun s i =>
    match (s.core i).assays.find? (fun (a : AssayRec) => a.origin == c && a.tile.seq == seq) with
    | some a => match a.digest with
      | some own => s.assayJudge i a own origin
      | none => s
    | none => s)

/-- EPILOGUE_DRAIN_COMPLETE (03 R90): the banks become FREE in the reset state, the ranges are released, and an assayed tile's digest
is formed (10 R352). -/
def execEpilogueDrainComplete (c : Fin 144) (s : State) : Host.Outcome State Fault Refusal :=
  let x := s.core c
  .next (match x.draining with
    | some (t, _) =>
      if (x.current.map (fun (u : TileRec) => u.seq)) = some t.seq then s
      else
        let d := outputDigest c x.drainOut (vget x.banks t.b0 Bank.reset).poison
        let a := (s.assayOf c t.seq).isSome
        let y := { x with draining := none, drainOut := [], banks := setBanks x.banks t.b0 t.banks (fun _ => Bank.reset), acc := accClear x.acc t.b0 t.banks }
        let y := y.freeRanges (4 * t.seq + 2)
        let y := if s.assayReads c t.seq then y else y.freeRanges (4 * t.seq + 1)
        let s := s.setCore c y
        if a then (s.modAssay c t.seq (fun r => { r with originDigest := some d })).assayMeets c t.seq d else s
    | none => s)

/-! ## The tile assay (10 R349 to R353) -/

/-- Bytes of local memory, by address. -/
def Core.held (x : Core) (l : List (Nat × Nat)) : Tbl Byte :=
  pieceBytes [] (l.map (fun r => (r.1, x.lread r.1 r.2)))

/-- ASSAY_TILE_START (10 R350): the oldest assay that has not started takes the lowest free run of banks and streams its operands, the combine
input among them, from the original core's local memory; the ranges are then released. A tile on the active stationary operand starts once
the original has streamed. Whether the residue checker finds a difference in what the array computes here is free: the row has no operand for it (03
R112). (log 41, DESIGN CHOICE) -/
def execAssayTileStart (c : Fin 144) (s : State) : Host.Outcome State Fault Refusal :=
  let x := s.core c
  .next (match x.assayNext with
    | none => s
    | some (a, b) =>
        let o := s.core a.origin
        if x.sleep ≠ .awake ∨ x.fenced = true ∨ x.current.isSome = true then s
        else
          let lines := o.poisonedLines a.tile.operandRanges
          let poison := !lines.isEmpty || (a.stat.map (fun (t : Stationary) => t.poison)).getD false
          let ents := packEntries a.tile.compact (a.tile.results o.lread a.stat)
          let y := { x with acc := accPut x.acc b ents, banks := setBanks x.banks b a.tile.banks (fun _ => a.tile.header poison)
                            assays := x.assays.map (fun (r : AssayRec) => if r.origin = a.origin ∧ r.tile.seq = a.tile.seq then { r with started := true, bank := b, ahead := x.done.map (·.seq), combine := o.held a.tile.combineRanges, poison := !(o.poisonedLines a.tile.combineRanges).isEmpty } else r) }
          let s := s.setCore c y
          let live := o.unstreamed a.tile.seq || (o.current.map (fun (t : TileRec) => t.seq)) == some a.tile.seq
          let s := if live then s else s.modCore a.origin (fun o => o.freeRanges (4 * a.tile.seq))
          let s := if a.originDigest.isSome then s.modCore a.origin (fun o => o.freeRanges (4 * a.tile.seq + 1)) else s
          let f := s.takeFree
          let s := if s.esc.profile != 0 && f.1 % 2 == 1 then f.2.arrayResidue c b a.tile else f.2
          s.each lines (fun s l => s.consume (lmemLine a.origin l) c a.tile.stream a.tile.job))

/-- A byte source that takes some bytes from a table. -/
def overlayBytes (t : Tbl Byte) (get : Nat → Nat → List Byte) (a n : Nat) : List Byte :=
  (get a n).zipIdx.map (fun b => ((t.find? (fun e => e.1 == a + b.2)).map (·.2)).getD b.1)

/-- ASSAY_TILE_COMPLETE (10 R350, R352, R353): the drain of the assay that the epilogue serves next ends; it writes nothing, its banks become FREE, and
the two digests are compared once the original has drained too. -/
def execAssayTileComplete (c : Fin 144) (s : State) : Host.Outcome State Fault Refusal :=
  let x := s.core c
  .next (match if x.draining.isSome then none else x.nextAssay with
    | none => s
    | some a =>
      let o := match a.tile.epi with
        | none => EpiOut.none
        | some e =>
          let i := s.epiIn a.origin a.tile e
          let i : EpiIn := { i with ent := fun k => tget AccEntry.reset x.acc (16384 * a.bank + k), get := overlayBytes a.combine i.get, carry := fun p => tget 0 a.carry p }
          (List.range a.tile.folds).foldl (fun o j => o.join (i.fold j)) EpiOut.none
      let poison := (vget x.banks a.bank Bank.reset).poison || a.poison
      let d := outputDigest a.origin (pieceBytes [] o.dst) poison
      let s := s.bump 0x3204 5 1
      let s := if s.objGet 0x3200 3 ≠ 0 && !o.wide.isEmpty && wideExceeds o.wide (s.objGet 0x3200 4) then s.bump 0x3204 9 1 else s
      match a.originDigest with
      | some e => s.assayJudge c a d e
      | none => s.modCore c (fun x => x.setAssays (x.assays.map (fun (r : AssayRec) => if r.origin = a.origin ∧ r.tile.seq = a.tile.seq then { r with digest := some d } else r))))

/-- ASSAY_ABANDON (10 R350): an assay that has not started streaming although its original is complete. -/
def execAssayAbandon (c : Fin 144) (s : State) : Host.Outcome State Fault Refusal :=
  .next (match (s.core c).assays.find? (fun (a : AssayRec) => !a.started) with
    | none => s
    | some a =>
      let o := s.core a.origin
      if o.unstreamed a.tile.seq || (o.current.map (fun (t : TileRec) => t.seq)) == some a.tile.seq then s
      else (s.dropAssay c a).bump 0x3204 7 1)

end Sys2Proof.Machine
end

