-- ==== Sys2Proof/Machine/Streams.lean ====
section
/-! DEFINITION. Streams, jobs and their commands (12 R432 to R444): doorbell, control, configuration, LAUNCH, MARKER, HOST_COPY,
completion, stop and release. -/

namespace Sys2Proof.Machine

/-- A write to the doorbell page that is discarded (12 R434, R436, R444). -/
def State.doorDiscard (s : State) : State := s.bump 0x1020 5 1

/-- A TAIL write is accepted for an enabled stream within the bounds of 12 R434; otherwise it is discarded with event 0x030C. -/
def State.tailWrite (s : State) (i : Nat) (v : BitVec 32) : State :=
  let x := s.stream i
  if x.state ≠ .disabled ∧ (v - x.tail).toNat < 2 ^ 31 ∧ (v - x.head).toNat ≤ 4096 then s.setStream i { x with tail := v }.refresh
  else s.doorDiscard.eventD 0x030C 0x1020

/-- DOORBELL_TAIL_WRITE: a BAR0 write reaches the device while the link is up. -/
def execDoorbellTailWrite (i : Fin 64) (v : BitVec 32) (s : State) : Host.Outcome State Fault Refusal :=
  .next (if s.host.linkUp then s.tailWrite i v else s)

/-- Write the held records while the ring has room, oldest first (12 R444). -/
def State.releaseHeld (s : State) (i : Nat) : State :=
  let h := (s.stream i).held
  (s.modStream i (fun x => { x with held := [] })).each h (fun s r => s.putRecord i r)

/-- A COMP_HEAD write above COMP_TAIL or behind its previous value is discarded (12 R444). -/
def State.compHeadWrite (s : State) (i : Nat) (v : BitVec 32) : State :=
  let x := s.stream i
  if (v - x.compHead).toNat ≤ (x.compTail - x.compHead).toNat then (s.setStream i { x with compHead := v }).releaseHeld i
  else s.doorDiscard

/-- COMP_HEAD_WRITE. -/
def execCompHeadWrite (i : Fin 64) (v : BitVec 32) (s : State) : Host.Outcome State Fault Refusal :=
  .next (if s.host.linkUp then s.compHeadWrite i v else s)

/-- Leave STOPPED (12 R436): the stream is READY, or RUNNING when commands remain. -/
def Stream.resume (x : Stream) : Stream := { x with state := .ready }.refresh

/-- A CONTROL write outside STOPPED, or while the job is STOPPED, is discarded (12 R436). -/
def State.control (s : State) (i : Nat) (f : Stream → Stream) : State :=
  let x := s.stream i
  if x.state = .stopped ∧ (s.job x.job).state ≠ .stopped then s.setStream i (f x).resume else s.doorDiscard

/-- The earliest of the commands that ended in error, one whose retry has not started among them: HEAD has passed them all. -/
def Stream.earliest (x : Stream) : Option (BitVec 32) :=
  (x.failed ++ x.redo.toList).foldl (fun best n => match best with
    | some b => some (if (n - x.head).toNat < (b - x.head).toNat then n else b)
    | none => some n) none

/-- RETRY (12 R436): the earliest command that ended in error starts again. -/
def State.retry (s : State) (i : Nat) : State :=
  s.control i (fun x => { x with redo := x.earliest, failed := (x.failed ++ x.redo.toList).filter (fun n => some n != x.earliest) })

/-- SKIP (12 R436). -/
def State.skip (s : State) (i : Nat) : State := s.control i (fun x => { x with redo := none, failed := [] })

/-- FLUSH (12 R436): every command that has not started is discarded. -/
def State.flush (s : State) (i : Nat) : State :=
  s.control i (fun x => { x with redo := none, failed := [], discarded := x.discarded + (x.tail - x.head), head := x.tail })

/-- CONTROL_RETRY. -/
def execControlRetry (i : Fin 64) (s : State) : Host.Outcome State Fault Refusal := .next (if s.host.linkUp then s.retry i else s)

/-- CONTROL_SKIP. -/
def execControlSkip (i : Fin 64) (s : State) : Host.Outcome State Fault Refusal := .next (if s.host.linkUp then s.skip i else s)

/-- CONTROL_FLUSH. -/
def execControlFlush (i : Fin 64) (s : State) : Host.Outcome State Fault Refusal := .next (if s.host.linkUp then s.flush i else s)

/-- A configuration write outside DISABLED is rejected with 0x0205 (12 R432); a value that is not 64 bytes is outside its range; one with a reserved
byte that is not zero is illegal (00 R12, 12 R452). -/
def State.streamConfig (s : State) (i : Nat) (cfg : List Byte) : State × Nat :=
  let x := s.stream i
  if x.state ≠ .disabled then (s, 0x0205)
  else if cfg.length ≠ 64 then (s, 0x0201)
  else if !(recZero cfg 15 16 && recZero cfg 24 64) then (s, 0x0202)
  else (s.setStream i { x with
      compBase := BitVec.ofNat 64 (recNat cfg 0 8), compEntries := BitVec.ofNat 32 (recNat cfg 8 4), vector := BitVec.ofNat 16 (recNat cfg 12 2)
      job := recNat cfg 14 1, modCount := BitVec.ofNat 32 (recNat cfg 16 4), modTime := BitVec.ofNat 32 (recNat cfg 20 4), cfgRaw := cfg }, 0)

/-- STREAM_CONFIG_WRITE (12 R432). -/
def execStreamConfigWrite (i : Fin 64) (cfg : List Byte) (s : State) : Host.Outcome State Fault Refusal :=
  .next (s.objectRow 0x1021 i (fun s =>
    let r := s.streamConfig i cfg
    (r.1.reply 0x1021 i r.2)))

/-- The check of a configuration at enable (12 R432, Table 3). -/
def Stream.cfgCode (x : Stream) : Nat :=
  let e := x.compEntries.toNat
  if x.compBase.toNat % 4096 ≠ 0 ∨ e < 64 ∨ 65536 < e ∨ e ≠ 2 ^ Nat.log2 e ∨ 253 < x.vector.toNat ∨ 7 < x.job ∨ x.modCount.toNat < 1 ∨
    65536 < x.modCount.toNat ∨ 1000000 < x.modTime.toNat then 0x0201
  else if !(recZero x.cfgRaw 15 16 && recZero x.cfgRaw 24 64) then 0x0202
  else 0

/-- Enable a stream (12 R432, R437): its job becomes ACTIVE; a stream enabled into a STOPPED job is STOPPED. -/
def State.streamEnable (s : State) (i : Nat) : State × Nat :=
  let x := s.stream i
  if x.state ≠ .disabled then (s, 0)
  else if x.cfgCode ≠ 0 then (s, x.cfgCode)
  else
    let j := s.job x.job
    let s := s.setStream i { x with state := if j.state = .stopped then .stopped else .ready
                                    tail := 0, head := 0, compHead := 0, compTail := 0, discarded := 0, progress := [], failed := [], redo := none
                                    held := [], unsignalled := 0, drainLimit := 0, stepEnded := false }
    (if j.state = .free then s.setJob x.job { j with state := .active } else s, 0)

/-- STREAM_ENABLE (12 R432). -/
def execStreamEnable (i : Fin 64) (s : State) : Host.Outcome State Fault Refusal :=
  .next (s.objectRow 0x1022 i (fun s =>
    let r := s.streamEnable i
    (r.1.reply 0x1022 i r.2)))

/-- Free every counter block and barrier slot of a job, owned or orphaned (12 R437, R438). -/
def State.freeOwned (s : State) (j : Nat) : State :=
  let s := s.orphan j
  let ks := (s.sync.orphanOf.filter (fun x => x.2 == j)).map (·.1)
  s.each ks (fun s k =>
    let s := if k < 256 then s.setBlockOwner k 0xFF else (s.setSlotOwner (k - 256) 0xFF).setSlot (k - 256) Slot.reset
    { s with sync := { s.sync with orphanOf := tdel s.sync.orphanOf k } })

/-- Disable a stream (12 R432, R437): not while a command is in progress; the last one frees its job. -/
def State.streamDisable (s : State) (i : Nat) : State × Nat :=
  let x := s.stream i
  if x.state = .disabled then (s, 0)
  else if !x.progress.isEmpty then (s, 0x0205)
  else
    let s := s.setStream i { x with state := .disabled }
    if (List.range 64).all (fun k => (s.stream k).state == .disabled || (s.stream k).job != x.job) then
      ((s.freeOwned x.job).modJob x.job (fun y => { y with state := .free, uncommittable := false }), 0)
    else (s, 0)

/-- STREAM_DISABLE (12 R437). -/
def execStreamDisable (i : Fin 64) (s : State) : Host.Outcome State Fault Refusal :=
  .next (s.objectRow 0x1022 i (fun s =>
    let r := s.streamDisable i
    (r.1.reply 0x1022 i r.2)))

/-- Cores of a mask. -/
def coresOf (mask : Nat) : List Nat := (List.range 144).filter mask.testBit

/-- LAUNCH (12 R441): each core of the mask starts the program, at once when it is free, later when it runs another stream; a core
that sleeps is woken. -/
def execLaunch (i : Fin 64) (s : State) : Host.Outcome State Fault Refusal :=
  .next (s.startCmd i (fun b => recNat b 0 1 == 0x01) [(16, 34), (40, 64)] (fun s _ b n =>
    let mask := recNat b 16 18
    let cores := coresOf mask
    { codes := codes [(decide (mask = 0 ∨ 2 ^ 144 ≤ mask), 0x0303), (decide (recNat b 40 8 % 16 ≠ 0), 0x0304), (cores.any (fun c => (s.core c).offline), 0x0B01)]
      eff := fun s =>
        let s := s.modStream i (fun x => { x with progress := x.progress.map (fun (y : CmdRun) =>
          if y.count = n.count ∧ y.replay = n.replay then { y with cores := cores, ops := cores } else y) })
        (s.beginWaiting, 0) }))

/-- MARKER (12 Table 6): adds INC to a counter of the job. -/
def execMarker (i : Fin 64) (s : State) : Host.Outcome State Fault Refusal :=
  .next (s.startCmd i (fun b => recNat b 0 1 == 0x02) [(16, 18), (20, 24)] (fun s job b _ =>
    let n := recNat b 16 2
    let inc := sint 32 (recNat b 20 4)
    { codes := codes [(decide (inc = -(2 ^ 31)), 0x0303), (decide (inc ≠ 0) && s.counterOwner n != job, 0x0306)]
      eff := fun s => (if inc = 0 then s else s.counterAdd n inc, 0) }))

/-- The bytes of a line that a range has, as a write mask. -/
def bytesIn (a n ln : Nat) : BitVec 64 := BitVec.ofNat 64 (bitsOf 64 (fun k => decide (a ≤ 64 * ln + k ∧ 64 * ln + k < a + n)))

/-- A line with the bytes that data at an address puts into it. -/
def lineFrom (a : Nat) (data : List Byte) (ln : Nat) : Line :=
  lineOf ((List.range 64).map (fun k => if a ≤ 64 * ln + k then data.getD (64 * ln + k - a) 0 else 0))

/-- The part of a range of `n` bytes at `a` that lies in a line: its first byte and their number. -/
def lineSpan (a n ln : Nat) : Nat × Nat :=
  let lo := max a (64 * ln)
  (lo, min (a + n) (64 * ln + 64) - lo)

/-- Device-to-host bytes with the poison of their lines as EP on the host's lines (12 R442): a host line is bad when a poisoned one gave a byte to it. -/
def State.copyOut (s : State) (host dev n : Nat) : State :=
  let s := s.touchRange dev n
  let bad := fun (h : Nat) =>
    let p := lineSpan host n h
    s.viewPoison (dev + (p.1 - host)) p.2
  { s with hostMem := msetN zeroByte s.hostMem host (s.view dev n)
           hostPoison := (linesIn host n).foldl (fun l h => sput l h (bad h)) s.hostPoison }

/-- A host write of lines into device memory (12 R429, R442): a line that comes with EP is poisoned, and one in an input window of the gated job
is recorded first (10 R366); the flag says that the record did not fit, and that nothing was written (10 R367). (log 13, DESIGN CHOICE) -/
def State.hostLine (s : State) (ln : Nat) (d : Line) (mask : BitVec 64) (ep : Bool) : State × Bool :=
  let t := s.tunWrite ln d mask ep
  if s.esc.record.isSome && s.inWindow (64 * ln) then
    let x := s.ledgerAdd (inputRec (s.inputStack (64 * ln)) (64 * ln) 0x80000000 s.esc.outSeq 0xFF 0 0 0 ep [(t.line ln).1])
    if x.2 then (x.1.escStop 0x0A01, true) else (x.1.tunWrite ln d mask ep, false)
  else (t, false)

/-- Host writes of lines, up to one whose record does not fit. -/
def State.hostLines (s : State) (l : List Nat) (f : State → Nat → State × Bool) : State :=
  (l.foldl (fun (acc : State × Bool) k => if acc.2 then acc else f acc.1 k) (s, false)).1

/-- Host-to-device bytes. -/
def State.copyIn (s : State) (host dev n : Nat) : State :=
  s.hostLines (linesIn dev n) (fun s ln =>
    let p := lineSpan dev n ln
    let from_ := host + (p.1 - dev)
    s.hostLine ln (lineFrom p.1 (mgetN zeroByte s.hostMem from_ p.2) ln) (bytesIn dev n ln) ((linesIn from_ p.2).any s.hostPoison.contains))

/-- HOST_COPY (12 R442). `fail` says that the host answered with an error after that many bytes had moved: the command then ends with
0x030D, and those bytes remain; a host that cannot be reached ends it with nothing moved (R431). (log 13, DESIGN CHOICE) -/
def execHostCopy (i : Fin 64) (fail : Option (BitVec 32)) (s : State) : Host.Outcome State Fault Refusal :=
  .next (s.startCmd i (fun b => recNat b 0 1 == 0x03 && !(s.offline (linesIn (recNat b 24 8) (recNat b 32 4)) s.adderChan)) [(16, 37)] (fun s _ b n =>
    let dev := recNat b 24 8
    let len := recNat b 32 4
    let dir := recNat b 36 1
    let moved := if !s.host.linkUp then 0 else match fail with
      | some f => min len (f.toNat / 64 * 64)
      | none => len
    { codes := codes [(decide (len = 0 ∨ len % 64 ≠ 0 ∨ 1 < dir), 0x0303)] ++ s.addrCodes dev len 1
      eff := fun s =>
        let s := if dir = 1 then s.copyOut (recNat b 16 8) dev moved else s.copyIn (recNat b 16 8) dev moved
        if s.host.linkUp && fail.isNone then (s, moved)
        else match s.inProgress i n.count with
          | some c => (s.endCommand i c (plainDone c.count 1 0x030D (BitVec.ofNat 64 moved)), moved)
          | none => (s, moved) }))

/-- The opcodes of 12 Table 6. -/
def streamOps : List Nat := [0x01, 0x02, 0x03, 0x08, 0x09, 0x0A, 0x10, 0x11, 0x12, 0x13]

/-- A command with a reserved opcode is rejected with 0x0301 (12 R440). -/
def execReservedCommand (i : Fin 64) (s : State) : Host.Outcome State Fault Refusal :=
  .next (s.startCmd i (fun b => !streamOps.contains (recNat b 0 1)) [(16, 64)] (fun _ _ _ _ => { codes := [0x0301], eff := fun s => (s, 0) }))

/-- The completion record of a LAUNCH all of whose cores have ended (12 R441, R443): done, its DETAIL counting the residue events of its cores
when the job is not the gated one (10 R348), or the fault of the lowest-numbered core. (log 45, DESIGN CHOICE) -/
def State.launchDone (s : State) (c : CmdRun) : HeldRecord :=
  let r : HeldRecord := { plainDone c.count 0 0 (BitVec.ofNat 64 ((c.cores.map (fun n => (s.core n).residues)).sum)) with async := s.asyncOf c.cores }
  match (c.cores.find? (fun n => (s.core n).fault.isSome)).bind (fun n => (s.core n).fault) with
  | some f => { s.withFault c r with kind := 1, error := 0x0400 + f.code }
  | none => r

/-- Whether the array, epilogue and DMA work that a core's program queued has run to completion (04 R122). A tile that nothing claims has no more
work, nor has one that waits for its banks. (log 45, DESIGN CHOICE) -/
def Core.workDone (x : Core) : Bool :=
  x.current.isNone && x.draining.isNone && x.nextDrain.isNone && !x.loadBusy && x.dma.toList.all (fun (e : DmaEngine) => e.queue.isEmpty && e.running.isEmpty) &&
  (match x.arrayQ with
    | .tile t :: _ => !x.banksReady t && x.assays.isEmpty
    | l => l.isEmpty)

/-- Whether every core of a LAUNCH has ended, with the work that it queued (12 R441, 04 R122). -/
def State.launchOver (s : State) (c : CmdRun) : Bool :=
  c.ops.isEmpty && c.cores.all (fun n => (s.core n).run != .running && (s.core n).run != .brk && (s.core n).workDone)

/-- A command completes (12 R443): LAUNCH once its cores have ended, KILN and COLLECTIVE once their descriptors have, STEP_OPEN, STEP_END and the
others once their effect is in place. -/
def execCommandComplete (i : Fin 64) (n : BitVec 32) (s : State) : Host.Outcome State Fault Refusal :=
  .next (match s.inProgress i n with
    | none => s
    | some c =>
      let c := s.withRemote c
      match c.raw.toNat % 256 with
      | 0x01 => if s.launchOver c then
          ((s.endCommand i c (s.launchDone c)).each c.cores (fun s k =>
            if (s.core k).run = .idle then s else s.modCore k (fun x => { x with run := .idle }))).beginWaiting
        else s
      | 0x12 => if s.kiln.units.toList.any (fun u => u.parts.any (fun p => p.stream == i && p.command == c.count)) then s
        else if c.ops = [0x80] then s.endCommand i c (plainDone c.count 1 0x0480 0)
        else s.endCommand i c (plainDone c.count 0 0 0)
      | 0x13 => if s.coll.queue.any (fun d => d.stream == i && d.command == c.count) ||
            s.coll.running.any (fun r => r.desc.stream == i && r.desc.command == c.count) then s
        else if c.ops = [3] then s.endCommand i c (plainDone c.count 3 0x0801 0)
        else s.endCommand i c (plainDone c.count 0 0 0)
      | _ => s.endCommand i c (plainDone c.count 0 0 c.detail))

/-- The oldest unsignalled record has waited MOD_TIME (12 R432). -/
def execInterruptModerationTimeout (i : Fin 64) (s : State) : Host.Outcome State Fault Refusal :=
  .next (if (s.stream i).unsignalled = 0 then s else s.streamIrq i)

/-- STOP of a job (12 R437). -/
def execJobStop (j : Fin 8) (s : State) : Host.Outcome State Fault Refusal :=
  .next (s.objectRow 0x1025 j (fun s =>
    ((s.stopJob j 0x0D03).reply 0x1025 j 0)))

/-- RELEASE of a STOPPED job (12 R438). -/
def State.jobRelease (s : State) (j : Nat) : State :=
  let s := s.freeOwned j
  let s := s.each (List.range 64) (fun s i =>
    let x := s.stream i
    if x.state = .disabled ∨ x.job ≠ j then s else s.setStream i { x with head := x.tail, state := .ready, failed := [], redo := none })
  let on := (List.range 64).any (fun i => (s.stream i).state != .disabled && (s.stream i).job == j)
  s.modJob j (fun x => { x with state := if on then .active else .free, table := GroupTable.reset, uncommittable := false })

/-- JOB_RELEASE (12 R438). -/
def execJobRelease (j : Fin 8) (s : State) : Host.Outcome State Fault Refusal :=
  .next (s.objectRow 0x1025 j (fun s =>
    (if (s.job j).state = .stopped then (s.jobRelease j).reply 0x1025 j 0 else s.reply 0x1025 j 0x0205)))

end Sys2Proof.Machine
end

