-- ==== Sys2Proof/Machine/Port.lean ====
section
/-! DEFINITION. Fabric ports and links (08 R269 to R282, R294 to R307; 01 R19): training and cards, lanes, retry, credits, arbitration,
loss and handoff, sparge and table commits, die-to-die links. -/

namespace Sys2Proof.Machine

/-! ## Port facts -/

/-- Whether a port carries packets. (log 43, DEDUCED) -/
def Port.carries (x : Port) : Bool := x.state == .up || x.state == .degraded

/-- The far-end port that Table 1 implies for a floor port (08 R267). -/
def farPort (p : Nat) : Nat := if p % 2 = 0 then p + 1 else p - 1

/-- The endpoint that Table 1 implies behind a floor port (08 R267, R278). -/
def farEp (e : BitVec 17) (p : Nat) : Nat :=
  let step := if p % 2 = 0 then 1 else 15
  let x := if p / 2 % 2 = 0 then (epX e + step) % 16 else epX e
  let y := if p / 2 % 2 = 1 then (epY e + step) % 16 else epY e
  256 * epFloor e + 16 * y + x

/-- An expected-neighbour record, or its reset values where none has been written (08 R278). -/
def State.recordOr (s : State) (p : Nat) (r : Option (List Byte)) : List Byte :=
  match r with
  | some r => r
  | none =>
    if p < 8 then leBytes (farEp s.dev.coord p) 4 ++ leBytes (farPort p) 1 ++ leBytes 0 27
    else leBytes 0 5 ++ leBytes 1 1 ++ leBytes 0 26

/-- The expected-neighbour record of a port as it reads (08 R278). -/
def State.expectedRec (s : State) (p : Nat) : List Byte := s.recordOr p (s.port p).expected

/-- The record in force: a record written while the port carries packets is not, until the next training (08 R278). -/
def State.recordInForce (s : State) (p : Nat) : List Byte := s.recordOr p (s.port p).inForce

/-- Lanes in service: L0 to L7 but the failed and swapped, with L8 where it replaces one (object 0x5006). -/
def Port.lanes (x : Port) : Nat :=
  (List.range 9).foldl (fun m i => if (if i = 8 then x.swapped.isSome else !x.failedLanes.getLsbD i && x.swapped != some i) then m + 2 ^ i else m) 0

def Port.laneCount (x : Port) : Nat := ((List.range 9).filter (fun i => x.lanes.testBit i)).length

/-- The lanes over which symbols are striped: L0 to L7 in order, without those mapped out; L8 takes the place of the lane it replaces (08 R269,
Table 2). -/
def stripeOver (swapped : Option Nat) (out : BitVec 9) : List Nat :=
  (List.range 8).filterMap (fun i => if swapped = some i then some 8 else if out.getLsbD i then none else some i)

/-- The lane that carried symbol `j` of a codeword: round-robin from the first lane on, beginning anew in every codeword (08 R269). -/
def Port.laneOf (x : Port) (j : Nat) : Nat :=
  let l := stripeOver x.swapped x.failedLanes
  l.getD (j % l.length) 8

/-- Symbols that RS(136,128) corrects in one codeword (08 R269). -/
def rsCorrects : Nat := 4

/-- The device's neighbour card on a port (08 Table 4). -/
def State.card (s : State) (p : Nat) : List Byte :=
  let x := s.port p
  let serial := (Config.serial ++ List.replicate 16 0).take 16
  let b := leBytes 1 2 ++ leBytes 2 1 ++ leBytes 1 1 ++ leBytes 0xF 4 ++ leBytes ((if s.dev.coordAssigned then 2 ^ 31 else 0) + s.dev.coord.toNat) 4 ++
    leBytes p 2 ++ leBytes 0 1 ++ leBytes x.laneCount 1 ++ serial ++ leBytes x.lanes 2 ++ leBytes 0 26
  b ++ leBytes (crc32c b) 4

/-- The codeword that will carry the last of `n` bytes sent now (08 R270). -/
def Port.lastOf (x : Port) (n : Nat) : BitVec 12 := x.txCw + BitVec.ofNat 12 ((x.txFill + n - 1) / 160)

/-- Bytes go onto the link back to back; 160 fill a codeword. They stay in the retry buffer until they are acknowledged (08 R270, R271). -/
def Port.fill (x : Port) (n : Nat) (i : LinkItem) : Port :=
  { x with txCw := x.txCw + BitVec.ofNat 12 ((x.txFill + n) / 160), txFill := (x.txFill + n) % 160, retry := x.retry ++ [(x.lastOf n, i)] }

/-- The card goes out as control words: in the codewords of a link that is up, and during the exchange before they are numbered (08 R276, R277). -/
def State.sendCard (s : State) (p : Nat) : State :=
  let c := s.card p
  (s.modPort p (fun x => if x.carries || x.state == .parked then x.fill 64 (.card c) else x)).emit (.card p c)

/-- What goes out again when it is resent. -/
def LinkItem.again (p : Nat) (i : LinkItem) : Output := match i with
  | .packet _ k => .packet (some p) k
  | .word kind value => .linkWord p kind value
  | .card b => .card p b

/-- The packets of a retry buffer with their numbers. -/
def Port.unacked (x : Port) : List (BitVec 16 × Packet) := x.retry.filterMap (fun r => match r.2 with
  | .packet n k => some (n, k)
  | _ => none)

/-- A control word of 8 bytes on a link (08 R270): 0 link acknowledgement, 1 negative acknowledgement, 2 credit return, 3 swap request, 4 swap
marker, 5 last packet accepted (handoff), 6 audit report, 7 mapping-out request. Idle words take what is left: `Port.ackUpTo`. -/
def State.word (s : State) (p kind value : Nat) : State := (s.modPort p (fun x => x.fill 8 (.word kind value))).emit (.linkWord p kind value)

/-- Free a receive buffer and return its credit (08 R271). Packets accepted over a link that was lost go first, and their credits were retired with it (08
R300). (log 26, DESIGN CHOICE) -/
def State.freeBuffer (s : State) (r v : Nat) : State :=
  let x := s.port r
  if r < 12 ∧ 0 < vget x.rxOld v 0 then s.setPort r { x with rxOld := vset x.rxOld v (vget x.rxOld v 0 - 1) }
  else if r < 12 ∧ 0 < vget x.rxUsed v 0 then (s.setPort r { x with rxUsed := vset x.rxUsed v (vget x.rxUsed v 0 - 1) }).word r 2 v else s

/-- A NACK that this device sends for a packet it can carry no further (08 R302, R309). -/
def State.answerNack (s : State) (k : Packet) (status : Nat) : State := (s.bump 0x5030 4 1).inject (nackFor (s.ep.getD 0) k status)

/-! ## Loss of a link (08 R300 to R302) -/

/-- Answer what was sent on a lost link and never acknowledged: requests are in doubt, responses discarded and counted (08 R287, R302). -/
def State.loseRetry (s : State) (p : Nat) : State :=
  let ps := (s.port p).unacked.map (·.2)
  (s.modPort p (fun x => { x with retry := [] })).each ps (fun s k => if k.vc then s.bump 0x5030 9 1 else s.answerNack k 8)

/-- Packets for a port whose link is lost without handoff wait until the next table commit; in its transmit queue they hold no receive buffer, so
that the rest of the fabric can drain (08 R302, R305). (log 49, DEDUCED) -/
def State.holdBack (s : State) (p : Nat) : State :=
  let x := s.port p
  if x.lostHeld then s
  else (s.setPort p { x with lostHeld := true }).each (x.txQ.toList.zipIdx.flatMap (fun l => l.1.map (fun e => (e.1, l.2)))) (fun s e => s.freeBuffer e.1 e.2)

/-- A link is lost without handoff (08 R302). -/
def State.loseLink (s : State) (p : Nat) : State := (s.loseRetry p).holdBack p

/-- The port of the other plane in the same direction (08 R301). -/
def sibling (p : Nat) : Nat := if p < 4 then p + 4 else p - 4

/-- A carrying port goes DOWN: its credits are retired and counted, and what it has accepted stays in its receive buffers; a floor port whose sibling is UP
hands off over it when both ends can, naming the last packet it accepted; a handoff that this port was to carry cannot end (08 R300 to R302). -/
def State.portDown (s : State) (p : Nat) : State :=
  let x := s.port p
  let s := s.bump 0x5030 12 (vget x.credits 0 0 + vget x.credits 1 0)
  let q := sibling p
  let off := decide (p < 8) && (s.port q).state == .up && x.features.getLsbD 1 && x.carries
  let s := s.setPort p { x with state := .down, credits := Vector.replicate 2 0, owed := Vector.replicate 2 0, handoff := off
                                rxUsed := Vector.replicate 2 0, rxOld := x.rxOld.zipWith (· + ·) x.rxUsed
                                trained := false, swapping := none }
  let s := if s.resil.drill = some 1 ∧ s.resil.drillTarget = p then s.drillFails else s
  if off then s.word q 5 (x.rxPkt - 1).toNat
  else
    let s := if p < 8 && (s.port q).handoff then (s.modPort q (fun y => { y with handoff := false })).loseLink q else s
    s.loseLink p

/-- LINK_LOST (08 R300). -/
def execLinkLost (p : Fin 12) (s : State) : Host.Outcome State Fault Refusal :=
  let x := s.port p
  .next (if x.carries ∨ x.state = .parked then s.portDown p
    else if x.state = .disabled ∨ x.state = .failed ∨ x.state = .down then s
    else s.setPort p { x with state := .detect })

/-- HANDOFF_EXCHANGE (08 R301): the far end accepted packets up to number `last`; every later packet of the retry buffer, then the queued
ones, move in order to the sibling, whose ring they enter; from now on it carries the lost port's traffic. -/
def execHandoffExchange (p : Fin 12) (last : BitVec 16) (s : State) : Host.Outcome State Fault Refusal :=
  let x := s.port p
  .next (if !x.handoff then s
    else
      let after := (x.unacked.filter (fun r => decide (0 < (r.1 - last).toNat ∧ (r.1 - last).toNat < 2 ^ 15))).map (·.2)
      let moved := fun (v : Nat) => (after.filter (fun k => vcIndex k == v)).map (fun k => (p.val, k)) ++ vget x.txQ v [] ++
        (vget x.injQ v []).map (fun k => (p.val, k))
      let s := s.setPort p { x with retry := [], txQ := Vector.replicate 2 [], injQ := Vector.replicate 2 [], handoff := false, detour := some (sibling p) }
      (s.modPort (sibling p) (fun y => { y with txQ := vset (vset y.txQ 0 (vget y.txQ 0 [] ++ moved 0)) 1 (vget y.txQ 1 [] ++ moved 1) })).bump 0x5030 13 1)

/-! ## Training (08 R275, R276) -/

/-- Management sends a port back to training: a carrying port loses its link first. -/
def State.portRetrain (s : State) (p : Nat) : State :=
  let s := if (s.port p).carries || (s.port p).state == .parked then s.portDown p else s
  s.modPort p (fun x => { x with state := .detect })

/-- PORT_ENABLE_WRITE: object 0x5002.p. -/
def execPortEnableWrite (p : Fin 12) (on : Bool) (s : State) : Host.Outcome State Fault Refusal :=
  .next (s.objectRow 0x5002 p (fun s =>
    let s := s.objSet 0x5002 p (if on then 1 else 0)
    let x := s.port p
    ((if on then (if x.state = .disabled then s.setPort p { x with state := .detect } else s)
      else
        let s := if x.carries || x.state == .parked then s.portDown p else s
        s.modPort p (fun x => { x with state := .disabled })).reply 0x5002 p 0)))

/-- PORT_RETRAIN: object 0x5003.p = 1. -/
def execPortRetrain (p : Fin 12) (s : State) : Host.Outcome State Fault Refusal :=
  .next (s.objectRow 0x5003 p (fun s =>
    (if (s.port p).state = .disabled then s.reply 0x5003 p 0x0205 else (s.portRetrain p).reply 0x5003 p 0)))

/-- PORT_TAKE_DOWN: object 0x5003.p = 2. -/
def execPortTakeDown (p : Fin 12) (s : State) : Host.Outcome State Fault Refusal :=
  .next (s.objectRow 0x5003 p (fun s =>
    let x := s.port p
    (if x.state = .disabled then s.reply 0x5003 p 0x0205
      else (if x.carries ∨ x.state = .parked then s.portDown p else (s.setPort p { x with state := .down }).holdBack p).reply 0x5003 p 0)))

/-- FAR_END_DETECT: energy on at least seven lanes. While the device is in reset its transmitters are in electrical idle, and no port trains (08 R275). -/
def execFarEndDetect (p : Fin 12) (s : State) : Host.Outcome State Fault Refusal :=
  .next (s.modPort p (fun x => if x.state = .detect ∧ s.dev.state ≠ .reset then { x with state := .training } else x))

/-- PORT_DOWN_RETRY (08 Table 3): every 32,768 beats. -/
def execPortDownRetry (p : Fin 12) (s : State) : Host.Outcome State Fault Refusal :=
  .next (s.modPort p (fun x => if x.state = .down then { x with state := .detect } else x))

/-- LINK_TRAINING_COMPLETE (08 R276, R282): each failed lane of L0 to L7 is replaced by L8, two failed lanes leave seven, three fail the
port; lane deductions of an earlier link end, and a spare that is used is a warning (11 R404); without a coordinate the port stops. -/
def execLinkTrainingComplete (p : Fin 12) (badLanes : BitVec 9) (s : State) : Host.Outcome State Fault Refusal :=
  let x := s.port p
  .next (if x.state ≠ .training ∨ s.dev.state = .reset then s
    else
      let bad := (List.range 9).filter badLanes.getLsbD
      let low := bad.filter (fun i => decide (i < 8))
      if 3 ≤ bad.length then s.setPort p { x with state := .failed, badLanes := badLanes }
      else
        let swap := if bad.contains 8 then none else low.head?
        let out : BitVec 9 := low.foldl (fun m i => if swap = some i then m else m ||| BitVec.twoPow 9 i) 0
        let y : Port := { x with badLanes := badLanes, trained := true, swapped := swap, swapping := none, drilled := false, flaggedLanes := 0, corrected := []
                                 cwSeen := 0, failedLanes := out, txSwap := swap, txOut := out, inForce := x.expected
                                 txPkt := 0, rxPkt := 0, txCw := 0, rxCw := 0, ackCw := 0, txFill := 0, carried := false
                                 state := if s.dev.coordAssigned then .cardExchange else .noCoord }
        let s := ((s.setPort p y).undeduct (5 + 256 * p.val)).undeduct (6 + 256 * p.val)
        let s := if swap.isSome then s.spareUsed else s
        if s.dev.coordAssigned then s.sendCard p else s)

/-- Whether the two cards speak a common link protocol, and the features they share (08 R281). -/
def cardVersion (c : List Byte) : Option (Nat × Nat) :=
  let v := min 2 (recNat c 2 1)
  let f := Nat.land 0xF (recNat c 4 4)
  if v < max 1 (recNat c 3 1) ∨ f % 2 = 0 then none
  else if v = 2 ∧ Nat.land f 6 ≠ 6 then none
  else some (v, f)

/-- Whether a card matches the expected record (08 R279 step 3). -/
def cardMatches (e c : List Byte) : Bool :=
  let kind := recNat c 14 1
  kind == recNat e 5 1 &&
  (kind != 0 || (recNat c 8 4 / 2 ^ 31 == 1 && recNat c 8 4 % 2 ^ 17 == recNat e 0 4 % 2 ^ 17 && recNat c 12 2 == recNat e 4 1)) &&
  (recNat e 6 1 % 2 == 0 || (c.drop 16).take 16 == (e.drop 8).take 16)

/-- A matched port carries packets, with the credits of 08 R294; one whose link is detoured, or being handed off, is PARKED (R279). Seven lanes lower the
health score (R273; 11 Table 11). -/
def State.portMatched (s : State) (p : Nat) : State :=
  let s := s.modPort p (fun x => { x with
    state := if x.detour.isSome || x.handoff then .parked else if x.laneCount < 8 then .degraded else .up
    credits := Vector.replicate 2 160, rxUsed := Vector.replicate 2 0, owed := Vector.replicate 2 0, report := [] })
  if (s.port p).laneCount < 8 then s.deductLasting (5 + 256 * p) 100 else s

/-- Compare a received card (08 R279). -/
def State.compareCard (s : State) (p : Nat) (c : List Byte) : State :=
  let s := s.modPort p (fun x => { x with observed := c })
  match cardVersion c with
  | none => s.modPort p (fun x => { x with state := .versionMismatch })
  | some (v, f) =>
    let s := s.modPort p (fun x => { x with version := v, features := BitVec.ofNat 32 f })
    if cardMatches (s.recordInForce p) c then s.portMatched p else s.modPort p (fun x => { x with state := .miswired })

/-- Whether a card differs from the previous one in a byte that counts (08 R277). -/
def cardDiffers (a b : List Byte) : Bool := (List.range 60).any (fun i => i != 15 && i != 32 && i != 33 && a.getD i 0 != b.getD i 0)

/-- NEIGHBOUR_CARD_RECEIVED (08 R277, R279). A carrying port takes the link DOWN for a changed card and compares that: one that matches enters UP
again. -/
def execNeighbourCardReceived (p : Fin 12) (card : List Byte) (s : State) : Host.Outcome State Fault Refusal :=
  let x := s.port p
  let good := card.length == 64 && recNat card 0 2 == 1 && recNat card 60 4 == crc32c (card.take 60)
  .next (match x.state with
    | .cardExchange => if good then s.compareCard p card else s.sendCard p
    | .miswired => if good then s.compareCard p card else s
    | .versionMismatch => if good then s.compareCard p card else s
    | .up | .degraded | .parked =>
      if !good then s
      else if cardDiffers x.observed card then (s.portDown p).compareCard p card
      else s.modPort p (fun y => { y with observed := card })
    | _ => s)

/-- CARD_RESEND: every 32,768 beats while the port is trained and matched. -/
def execCardResend (p : Fin 12) (s : State) : Host.Outcome State Fault Refusal :=
  .next (if (s.port p).carries ∨ (s.port p).state = .parked then s.sendCard p else s)

/-- PORT_ADOPT: object 0x5003.p = 3 (08 R280). -/
def execPortAdopt (p : Fin 12) (s : State) : Host.Outcome State Fault Refusal :=
  .next (s.objectRow 0x5003 p (fun s =>
    let x := s.port p
    let c := x.observed
    let e := s.recordInForce p
    let ok := if p.val < 8 then recNat c 8 4 / 2 ^ 31 == 1 && recNat c 8 4 % 2 ^ 17 == recNat e 0 4 % 2 ^ 17 && recNat c 12 2 == farPort (sibling p)
      else recNat c 14 1 == 1
    (if x.state ≠ .miswired then s.reply 0x5003 p 0x0205
      else if !ok then s.reply 0x5003 p 0x0207
      else
        let r := leBytes (recNat c 8 4 % 2 ^ 17) 4 ++ leBytes (recNat c 12 2) 1 ++ leBytes (recNat c 14 1) 1 ++ (e.drop 6).take 2 ++ (c.drop 16).take 16 ++ leBytes 0 8
        ((s.modPort p (fun y => { y with expected := some r, inForce := some r })).portMatched p).reply 0x5003 p 0)))

/-- COORDINATE_WRITE: object 0x5000.0, in IDLE; a record that management has not written, an adopted one too, is reset (08 R282). -/
def State.coordWrite (s : State) (v : Nat) : State × Nat :=
  if s.dev.state ≠ .idle then (s, 0x0203)
  else if 2 ^ 17 ≤ v then (s, 0x0202)
  else
    let s := { s with dev := { s.dev with coord := BitVec.ofNat 17 v, coordAssigned := true } }
    (s.each (List.range 12) (fun s p =>
      let s := s.modPort p (fun x => if x.written then x else { x with expected := none, inForce := none })
      if (s.port p).state = .disabled then s else s.portRetrain p), 0)

/-- COORDINATE_WRITE (08 R282). -/
def execCoordinateWrite (v : BitVec 32) (s : State) : Host.Outcome State Fault Refusal :=
  .next (s.objectRow 0x5000 0 (fun s =>
    let r := s.coordWrite v.toNat
    (r.1.reply 0x5000 0 r.2)))

/-! ## Lanes (08 R272 to R274) -/

/-- A lane fails (08 R272, R273): swapped for the free spare (L8, or the lane that a drill has
left as the spare), else the port goes on with seven lanes, else DOWN. The far transmitter is asked for the swap or the mapping-out. -/
def State.laneFails (s : State) (p lane : Nat) : State :=
  let x := s.port p
  let busy := (x.swapped.isSome && !x.drilled) || x.swapping.isSome || x.badLanes.getLsbD 8 || x.failedLanes.getLsbD 8
  if !x.carries ∨ x.failedLanes.getLsbD lane = true ∨ x.swapping = some lane then s
  else if lane = 8 ∧ x.swapped = none then s.setPort p { x with failedLanes := x.failedLanes ||| BitVec.twoPow 9 8 }
  else if x.swapped = some lane then s.setPort p { x with drilled := false }
  else if lane = 8 ∧ x.drilled = true then
    ((s.setPort p { x with swapped := none, drilled := false, failedLanes := x.failedLanes ||| BitVec.twoPow 9 8 }).word p 1 x.rxCw.toNat).word p 3 lane
  else if !busy then ((s.setPort p { x with swapping := some lane, drilled := false }).word p 1 x.rxCw.toNat).word p 3 lane
  else
    let dead := match x.swapped with
      | some i => if lane = 8 then i else lane
      | none => lane
    let out := if lane = 8 then BitVec.twoPow 9 dead ||| BitVec.twoPow 9 8 else BitVec.twoPow 9 dead
    let y : Port := { x with failedLanes := x.failedLanes ||| out, swapped := if lane = 8 then none else x.swapped }
    if y.laneCount < 7 then (s.setPort p y).portDown p
    else (((s.setPort p { y with state := .degraded }).word p 1 x.rxCw.toNat).word p 7 dead).deductLasting (5 + 256 * p) 100

/-- LANE_FAILURE. -/
def execLaneFailure (p : Fin 12) (lane : Fin 9) (s : State) : Host.Outcome State Fault Refusal := .next ((s.realEvent 1).laneFails p lane)

/-- The transmit direction after a request: the lane's symbols go onto L8 from the next codeword on, or, for L8 itself, back to the lane it
replaced; a lane mapped out carries none (08 R273, Table 2). -/
def Port.restripe (x : Port) (lane : Fin 9) (mapOut : Bool) : Port :=
  if mapOut then { x with txSwap := if x.txSwap = some lane.val then none else x.txSwap, txOut := x.txOut ||| BitVec.twoPow 9 lane }
  else { x with txSwap := if lane.val = 8 then none else some lane.val }

/-- SWAP_REQUEST: this end transmits: it sends the swap marker and stripes anew (08 Table 2). A mapping-out leaves the port DEGRADED; with fewer than
seven lanes this direction has failed too, and the port goes DOWN (08 R273). -/
def execSwapRequest (p : Fin 12) (ask : LaneRequest) (s : State) : Host.Outcome State Fault Refusal :=
  let x := s.port p
  let y := x.restripe ask.lane ask.mapOut
  .next (if !x.carries then s
    else if (stripeOver y.txSwap y.txOut).length < 7 then (s.setPort p y).portDown p
    else if ask.mapOut then ((s.setPort p { y with state := .degraded }).word p 4 ask.lane).deductLasting (5 + 256 * p.val) 100
    else (s.setPort p y).word p 4 ask.lane)

/-- SWAP_MARKER: this end asked for the swap: L8 now carries the lane (08 Table 2); after a drill the lane is the spare (11 R423). -/
def execSwapMarker (p : Fin 12) (lane : Fin 9) (s : State) : Host.Outcome State Fault Refusal :=
  let x := s.port p
  let drill := s.resil.drill == some 1 && s.resil.drillTarget == p.val
  .next (if x.swapping = some lane.val then
      let s := (s.setPort p { x with swapping := none, swapped := some lane, drilled := drill }).bump 0x5030 7 1
      if drill then { s with resil := { s.resil with drill := none } } else s.spareUsed
    else s)

/-- MARGIN_CHECK (08 R274): 10 s after the port first carries traffic, every lane in service and the spare: a lane that the spare cannot replace, the
spare itself among them, is flagged. -/
def execMarginCheck (p : Fin 12) (margins : List (BitVec 32)) (s : State) : Host.Outcome State Fault Refusal :=
  let x := s.port p
  let m := fun i => f32 (margins.getD i 0).toNat
  let spare := x.swapped.isNone && x.swapping.isNone && !x.badLanes.getLsbD 8 && !x.failedLanes.getLsbD 8
  let low := (List.range 9).filter (fun i => (x.lanes.testBit i || (i == 8 && spare)) && (m i).lt (f32 (s.objGet 0x5021 2)))
  .next (if !x.carries ∨ x.carried = false then s
    else (s.setPort p { x with margins := margins }).each low (fun s i =>
      let y := s.port p
      if y.swapped.isNone && y.swapping.isNone && !y.badLanes.getLsbD 8 && !y.failedLanes.getLsbD 8 && (m i).lt (m 8) then s.laneFails p i
      else (s.setPort p { y with flaggedLanes := y.flaggedLanes ||| BitVec.twoPow 9 i }).deduct (6 + 256 * p.val) 20 false))

/-! ## Codewords, retry, credits (08 R270, R271, R294) -/

/-- Corrections are counted by the lane that carried the symbol; the count begins anew every 2^20 codewords (08 R269, R272). (log 26, DESIGN CHOICE) -/
def Port.countFixes (x : Port) (fixes : List (Fin 136)) : Port :=
  let full := decide (2 ^ 20 ≤ x.cwSeen)
  { x with cwSeen := if full then 1 else x.cwSeen + 1
           corrected := fixes.foldl (fun t j => tset 0 t (x.laneOf j) (tget 0 t (x.laneOf j) + 1)) (if full then [] else x.corrected) }

/-- CODEWORD_RECEIVED: while a lane swap is in progress everything is discarded (08 Table 2). An intact codeword in sequence is acknowledged, its packets take receive buffers, its corrections are counted by
lane; a duplicate is acknowledged and discarded. One with more wrong symbols than the code corrects is discarded as uncorrectable (08 R269). -/
def execCodewordReceived (p : Fin 12) (n : BitVec 12) (fixes : List (Fin 136)) (packets : List Packet) (s : State) : Host.Outcome State Fault Refusal :=
  let x := s.port p
  .next (if !x.carries || x.swapping.isSome then s
    else if rsCorrects < fixes.length then s.word p 1 x.rxCw.toNat
    else if n ≠ x.rxCw then (if (x.rxCw - n).toNat < 2048 then s.word p 0 n.toNat else s)
    else
      let k := fun (v : Nat) => (packets.filter (fun q => vcIndex q == v)).length
      let y := x.countFixes fixes
      let s := s.setPort p { y with rxCw := x.rxCw + 1, rxPkt := x.rxPkt + BitVec.ofNat 16 packets.length
                                    rxUsed := vset (vset x.rxUsed 0 (vget x.rxUsed 0 0 + k 0)) 1 (vget x.rxUsed 1 0 + k 1) }
      let s := s.word p 0 n.toNat
      s.each ((List.range 9).filter (fun l => fixes.any (fun j => x.laneOf j == l) && s.objGet 0x5021 0 ≤ tget 0 y.corrected l))
        (fun s l => (s.realEvent 1).laneFails p l))

/-- CODEWORD_UNCORRECTABLE: discarded with everything after it, and named in a negative acknowledgement. -/
def execCodewordUncorrectable (p : Fin 12) (_n : BitVec 12) (s : State) : Host.Outcome State Fault Refusal :=
  let x := s.port p
  .next (if x.carries then s.word p 1 x.rxCw.toNat else s)

/-- Whether `n` can be the next codeword that the far end waits for: not before what it has acknowledged (08 R271). -/
def Port.fresh (x : Port) (n : BitVec 12) : Bool := decide ((n - x.ackCw).toNat ≤ 2048)

/-- Whether codeword `c` is before `n`, both after what is acknowledged. -/
def Port.before (x : Port) (c n : BitVec 12) : Bool := decide ((c - x.ackCw).toNat < (n - x.ackCw).toNat)

/-- The far end has accepted every codeword before `n`: the retry buffer drops them. Where `n` is after the codeword being filled, that one and
those up to `n` have gone out filled with idle words (08 R270, R271). (log 26, DESIGN CHOICE) -/
def Port.ackUpTo (x : Port) (n : BitVec 12) : Port :=
  let y := { x with retry := x.retry.filter (fun r => !x.before r.1 n), ackCw := n }
  if x.before x.txCw n then { y with txCw := n, txFill := 0 } else y

/-- LINK_ACK_RECEIVED: cumulative; the retry buffer drops what is acknowledged; an acknowledgement of what is already acknowledged changes nothing. -/
def execLinkAckReceived (p : Fin 12) (n : BitVec 12) (s : State) : Host.Outcome State Fault Refusal :=
  .next (s.modPort p (fun x => if x.fresh (n + 1) then x.ackUpTo (n + 1) else x))

/-- LINK_NACK_RECEIVED: resend from that codeword, packets and control words, without charging credits again. -/
def execLinkNackReceived (p : Fin 12) (n : BitVec 12) (s : State) : Host.Outcome State Fault Refusal :=
  let x := s.port p
  let y := x.ackUpTo n
  .next (if !x.carries || !x.fresh n then s
    else ((s.setPort p y).each y.retry (fun s r => s.emit (r.2.again p.val))).bump 0x5030 8 1)

/-- CREDIT_RETURN. -/
def execCreditReturn (p : Fin 12) (vc : Fin 2) (n : BitVec 8) (s : State) : Host.Outcome State Fault Refusal :=
  .next (s.modPort p (fun x => if x.carries then { x with credits := vset x.credits vc (min 160 (vget x.credits vc 0 + n.toNat)) } else x))

/-- Whether a packet from requester `r` (12 the injection queue) continues along its ring through port `p`: it came in on the opposite
port (08 R295). -/
def continues (r p : Nat) : Bool := decide (r < 8) && r == farPort p

/-- Credits that a packet from requester `r` needs on port `p` (08 R295). -/
def creditsNeeded (r p : Nat) : Nat := if p < 8 ∧ !continues r p then 2 else 1

/-- The requester's first packet on a port and VC. -/
def Port.first (x : Port) (v r : Nat) : Option Packet :=
  if r = 12 then (vget x.injQ v []).head? else ((vget x.txQ v []).find? (fun e => e.1 == r)).map (·.2)

/-- Take the requester's first packet off its queue. -/
def Port.takeFirst (x : Port) (v r : Nat) : Port :=
  if r = 12 then { x with injQ := vmod x.injQ v (fun l => l.drop 1) } else { x with txQ := vmod x.txQ v (fun l => l.eraseP (fun e => e.1 == r)) }

/-- Bytes of a packet on the link (08 R284). -/
def packetSize (p : Packet) : Nat := 28 + 64 * p.payload.length

/-- The codeword that will carry the last byte of a packet sent now (08 R270). -/
def Port.lastCw (x : Port) (k : Packet) : BitVec 12 := x.lastOf (packetSize k)

/-- Whether the retry buffer of 64 KiB has room for the codewords of a packet, beside those not yet acknowledged (08 R271). -/
def Port.retryRoom (x : Port) (k : Packet) : Bool := decide (160 * ((x.lastCw k - x.ackCw).toNat + 1) ≤ 65536)

/-- The requester whose packet goes next on a virtual channel, and the packet: round robin among those that hold the credits of R295 and find room in
the retry buffer (08 R271, R295, R296). -/
def Port.choice (x : Port) (p v : Nat) : Option (Nat × Packet) :=
  ((List.range 13).map (fun i => (vget x.lastReq v 12 + 1 + i) % 13)).findSome? (fun r => match x.first v r with
    | some k => if creditsNeeded r p ≤ vget x.credits v 0 && x.retryRoom k then some (r, k) else none
    | none => none)

/-- The channel that the link serves when asked to serve `vc`: it alternates when both can go (08 R293). -/
def Port.channel (x : Port) (p vc : Nat) : Nat := if (x.choice p 0).isSome && (x.choice p 1).isSome then x.turn else vc

/-- PACKET_TRANSMIT: one packet leaves and enters the retry buffer; a receive buffer it leaves is freed. Nothing leaves a port whose packets wait
for a table commit (08 R302), nor any port while the device is in reset or FAULT (08 R275). -/
def execPacketTransmit (p : Fin 12) (vc : Fin 2) (s : State) : Host.Outcome State Fault Refusal :=
  let x := s.port p
  let v := x.channel p vc
  .next (if !x.carries || x.lostHeld || s.dev.state == .fault || s.dev.state == .reset then s else match x.choice p v with
    | none => s
    | some (r, k) =>
      let k := if x.features.getLsbD 2 then k else packetAllPoison k
      let y := { (x.takeFirst v r).fill (packetSize k) (.packet x.txPkt k) with
        credits := vset x.credits v (vget x.credits v 0 - 1), lastReq := vset x.lastReq v r, turn := 1 - v, carried := true
        txPkt := x.txPkt + 1 }
      let s := ((s.setPort p y).emit (.packet (some p.val) k)).bump 0x5030 2 1
      if r = 12 then ((s.throttleUpdate p).refill).pump else s.freeBuffer r v)

/-! ## Sparge, table commit, credit audit (08 R304 to R307) -/

/-- SPARGE_START: object 0x5011.0 = 1. -/
def execSpargeStart (s : State) : Host.Outcome State Fault Refusal :=
  .next (s.objectRow 0x5011 0 (fun s =>
    ((s.modFabric (fun f => { f with sparge := .draining })).reply 0x5011 0 0)))

/-- Whether the conditions 1 and 3 of 08 R305 for DRAINED hold. -/
def State.drained (s : State) : Bool :=
  s.fabric.windows.isEmpty && s.fabric.ports.toList.all (fun (x : Port) =>
    x.state == .down || (x.rxUsed.toList.all (· == 0) && x.txQ.toList.all List.isEmpty && x.injQ.toList.all List.isEmpty))

/-- Whether a port passes a credit audit: held credits, those that the receiver reports that it has still to return and those in flight are 160
(08 R307). -/
def Port.auditPasses (x : Port) : Bool := (List.range 2).all (fun v =>
  let a := x.report.getD v { free := 160, owed := 0, flight := 0 }
  vget x.credits v 0 + a.owed.toNat + a.flight.toNat == 160)

/-- This end's own audit report of a channel: free buffers and credits still to return (08 R307). (log 26, DESIGN CHOICE) -/
def Port.auditValue (x : Port) (v : Nat) : Nat := 65536 * v + 256 * (160 - vget x.rxUsed v 0) + vget x.owed v 0

/-- A credit audit of a link: both ends report; a failed one is counted, raises a fabric-fault event and retrains the port (08 R307). (log 26, DESIGN CHOICE) -/
def State.creditAudit (s : State) (p : Nat) : State :=
  let x := s.port p
  let s := ((s.word p 6 (x.auditValue 0)).word p 6 (x.auditValue 1)).bump 0x5030 0 1
  if x.auditPasses then s else ((s.bump 0x5030 1 1).eventOpen 0x5030).portRetrain p

/-- Ports whose links are audited: those UP, DEGRADED or PARKED (08 R305). -/
def State.auditedPorts (s : State) : List Nat := (List.range 12).filter (fun p => (s.port p).carries || (s.port p).state == .parked)

/-- The far end's reports for the audit that a sparge runs: the row carries none, so they are free values (08 R307). (log 26, DESIGN CHOICE) -/
def State.freshReport (s : State) (p : Nat) : State :=
  let f := s.takeFree
  let v := fun (i : Nat) => BitVec.ofNat 8 (f.1 / 256 ^ i)
  f.2.modPort p (fun x => { x with report := [{ free := v 0, owed := v 1, flight := v 2 }, { free := v 3, owed := v 4, flight := v 5 }] })

/-- SPARGE_DRAINED: the credit audit of every link runs, and when all pass the state is DRAINED (08 R305, R307). -/
def execSpargeDrained (s : State) : Host.Outcome State Fault Refusal :=
  .next (if s.fabric.sparge = .draining ∧ s.drained = true then
      let l := s.auditedPorts
      let s := s.each l State.freshReport
      let t := s.each l State.creditAudit
      if l.all (fun p => (s.port p).auditPasses) then t.modFabric (fun f => { f with sparge := .drained }) else t
    else s)

/-- SPARGE_TIMEOUT: injection resumes under the unchanged tables. -/
def execSpargeTimeout (s : State) : Host.Outcome State Fault Refusal :=
  .next (if s.fabric.sparge = .draining then ((s.modFabric (fun f => { f with sparge := .aborted })).bump 0x5011 5 1).pump else s)

/-- TABLE_COMMIT: object 0x5010.4 = 1, only while DRAINED. -/
def execTableCommit (s : State) : Host.Outcome State Fault Refusal :=
  .next (s.objectRow 0x5010 4 (fun s =>
    (if s.fabric.sparge ≠ .drained then s.reply 0x5010 4 0x0205
      else
        let s := s.modFabric (fun f => { f with tableA := f.tableS, gA := f.gS, sparge := .none })
        let s := s.each (List.range 12) (fun s p => if (s.port p).carries then s else s.holdBack p)
        let wait := (s.fabric.ports.toList.filter (·.lostHeld)).flatMap (fun (x : Port) => x.injQ.toList.flatten ++ (x.txQ.toList.flatten.map (·.2)))
        let s := s.each (List.range 12) (fun s p => s.modPort p (fun x =>
          let x := if x.lostHeld then { x with injQ := Vector.replicate 2 [], txQ := Vector.replicate 2 [], lostHeld := false } else x
          { x with detour := none, state := if x.state = .parked then (if x.laneCount < 8 then .degraded else .up) else x.state }))
        let s := s.each wait (fun s k => match s.route k with
          | .port q => s.modPort q (fun x => { x with injQ := vmod x.injQ (vcIndex k) (fun l => l ++ [k]) })
          | _ => if k.vc then s.bump 0x5030 9 1 else s.answerNack k 5)
        ((s.bump 0x5011 4 1).pump).reply 0x5010 4 0)))

/-- PORT_CREDIT_AUDIT: object 0x5003.p = 4, with what the receiver reports per VC (08 R307). (log 26, DESIGN CHOICE) -/
def execPortCreditAudit (p : Fin 12) (report : List AuditReport) (s : State) : Host.Outcome State Fault Refusal :=
  .next (s.objectRow 0x5003 p (fun s =>
    (if (s.port p).carries ∨ (s.port p).state = .parked then ((s.reply 0x5003 p 0).modPort p (fun x => { x with report := report })).creditAudit p else s.reply 0x5003 p 0x0205)))

/-! ## Die-to-die links (01 R17, R19) -/

/-- The two quarters of link `l`. -/
def d2dEnds (l : Nat) : Nat × Nat := match l with
  | 0 => (0, 1)
  | 1 => (0, 2)
  | 2 => (0, 3)
  | 3 => (1, 2)
  | 4 => (1, 3)
  | _ => (2, 3)

/-- A link with every spare and every lane. -/
def D2D.reset : D2D where
  spares := Vector.replicate 2 4
  lost := false

/-- A link is lost beyond its spares: its traffic is detoured; a second lost link of one quarter puts the device in FAULT. -/
def State.d2dLost (s : State) (l : Nat) : State :=
  let x := vget s.fabric.d2d l D2D.reset
  if x.lost then s
  else
    let s := (s.modFabric (fun f => { f with d2d := vset f.d2d l { x with lost := true } })).deduct (7 + 256 * l) 200 false
    let lost := (List.range 6).filter (fun i => (vget s.fabric.d2d i D2D.reset).lost)
    let twice := (List.range 4).any (fun q => decide (2 ≤ (lost.filter (fun i => (d2dEnds i).1 == q || (d2dEnds i).2 == q)).length))
    if twice then
      let f := s.takeFree
      f.2.enterFault (openCode f.1)
    else s

/-- D2D_LANE_FAILURE in one direction: a spare lane of that direction replaces it while one is left. -/
def execD2dLaneFailure (l : D2dSide) (s : State) : Host.Outcome State Fault Refusal :=
  let x := vget s.fabric.d2d l.link D2D.reset
  let n := vget x.spares l.dir 0
  .next (if n = 0 then s.d2dLost l.link else (s.modFabric (fun f => { f with d2d := vset f.d2d l.link { x with spares := vset x.spares l.dir (n - 1) } })).spareUsed)

/-- D2D_LINK_LOSS. -/
def execD2dLinkLoss (l : Fin 6) (s : State) : Host.Outcome State Fault Refusal := .next (s.d2dLost l)

end Sys2Proof.Machine
end

