-- ==== Sys2Proof/Machine/RackOps.lean ====
section
/-! DEFINITION. What racking and the cellar share (11 R394 to R403): the racking list, the place of a block in the cellar, sending a block,
the epoch start, and the cellar region of a host. -/

namespace Sys2Proof.Machine

/-! ## The list (11 R394, R395) -/

/-- A racking list entry from its 16 bytes, and whether it breaks Table 4. -/
def rackEntry (b : List Byte) : RackRange × Bool :=
  let r : RackRange := { start := recNat b 0 8, length := recNat b 8 5, narrow := (recNat b 13 1).testBit 0, twin := (recNat b 13 1).testBit 1 }
  (r, decide (r.start % 4096 ≠ 0 ∨ r.length = 0 ∨ r.length % 4096 ≠ 0 ∨ 4 ≤ recNat b 13 1) || !recZero b 14 16)

/-- The part of a range that this device racks (11 R395): its half when split racking shares a TWIN range. -/
def State.rackPart (s : State) (r : RackRange) : Option RackRange :=
  if !r.twin then some r
  else match s.objGet 0x6010 4 with
  | 2 => some r
  | 1 =>
    let b := r.length / 4096
    let h := ceilDiv b 2
    if s.dev.coord.toNat < s.objGet 0x6000 0 then some { r with length := 4096 * h }
    else if b = h then none else some { r with start := r.start + 4096 * h, length := 4096 * (b - h) }
  | _ => none

/-- Bytes of a range in a cellar slot (11 R402, R403). -/
def packedBytes (on : Bool) (r : RackRange) : Nat := if r.narrow && on then r.length / 2 else r.length

def State.narrowOn (s : State) : Bool := s.objGet 0x6010 3 == 1

/-- Bytes of one cellar slot per stack (11 R399). -/
def State.slotBytes (s : State) : Nat := s.objGet 0x6010 0 * MiB / 2

/-- Whether ranges overlap. -/
def rangesOverlap : List RackRange → Bool
  | [] => false
  | r :: l => l.any (fun x => decide (x.start < r.start + r.length ∧ r.start < x.start + x.length)) || rangesOverlap l

/-- The racking list is read through its home Tun (06 R199). -/
def State.touchList (s : State) : State :=
  let n := s.objGet 0x6010 2
  match localForm (s.objGet 0x6010 1) with
  | some a => if s.inOneWindow a (16 * n) then s.touchRange a (16 * n) else s
  | none => s

/-- The list as read at an epoch start: the parts that this device racks; none when it breaks a rule (11 R394). -/
def State.rackList (s : State) : Option (List RackRange) :=
  let n := s.objGet 0x6010 2
  match localForm (s.objGet 0x6010 1) with
  | none => none
  | some a =>
    if !s.inOneWindow a (16 * n) || s.viewPoison a (16 * n) then none
    else
      let es := (chunks 16 (s.view a (16 * n))).map rackEntry
      let rs := es.map (·.1)
      let parts := rs.filterMap s.rackPart
      let bad := es.any (·.2) || rangesOverlap rs || rs.any (fun r => s.window r.start != some (5 + stackOf r.start) || !s.inOneWindow r.start r.length) ||
        (List.range 12).any (fun k => decide (248 < (rs.filter (fun r => stackOf r.start == k)).length ∨
          s.slotBytes < 4096 + ((parts.filter (fun r => stackOf r.start == k)).map (packedBytes s.narrowOn)).sum))
      if bad then none else some parts

/-! ## Places in the cellar (11 R399, R402) -/

/-- First byte of the cellar region of a stack: the tail holds ledger, cellar, firmware area in this order. (log 34, DESIGN CHOICE) -/
def State.cellarBase (s : State) (k : Nat) : Nat := 2 ^ 41 + 2 ^ 36 * k + 64 * GiB - s.tailBytes + s.shareSize

/-- Blocks of a range, by number. -/
def RackRange.blocks (r : RackRange) : List Nat := (List.range (r.length / 4096)).map (fun i => r.start / 4096 + i)

/-- Every racked block of a stack with its offset in the payload and whether it is narrowed, in directory order. -/
def rackPlaces (on : Bool) (l : List RackRange) : List (Nat × Nat × Bool) :=
  (l.foldl (fun (acc : Nat × List (Nat × Nat × Bool)) (r : RackRange) =>
    let n := if r.narrow && on then 2048 else 4096
    (acc.1 + packedBytes on r, acc.2 ++ r.blocks.zipIdx.map (fun (x : Nat × Nat) => (x.1, acc.1 + n * x.2, r.narrow && on)))) (0, [])).2

/-- Every racked block of a stack, in ascending address order (11 R397). -/
def State.rackBlocks (s : State) (k : Nat) : List Nat :=
  ((s.rack.list.filter (fun (r : RackRange) => stackOf r.start == k)).flatMap RackRange.blocks).mergeSort (fun a b => decide (a ≤ b))

/-! ## Narrowing (11 R403) -/

/-- Bits [7:4] of each remainder, two to a byte. -/
def narrowBytes : List Byte → List Byte
  | a :: b :: r => BitVec.ofNat 8 (a.toNat / 16 + b.toNat / 16 * 16) :: narrowBytes r
  | _ => []

/-- A narrowed byte as two remainders. -/
def widenBytes (l : List Byte) : List Byte :=
  l.flatMap (fun b => [BitVec.ofNat 8 (b.toNat % 16 * 16 + 8), BitVec.ofNat 8 (b.toNat / 16 * 16 + 8)])

/-- Two lines as one narrowed line. -/
def narrowLines : List (Line × Bool) → List (Line × Bool)
  | a :: b :: r => (lineOf (narrowBytes (lineBytes a.1 ++ lineBytes b.1)), a.2 || b.2) :: narrowLines r
  | _ => []

/-- A narrowed line as two lines. -/
def widenLines (l : List (Line × Bool)) : List (Line × Bool) :=
  l.flatMap (fun x => let b := widenBytes (lineBytes x.1); [(lineOf (b.take 64), x.2), (lineOf (b.drop 64), x.2)])

/-! ## Sending (11 R397, R400) -/

/-- Device traffic: WRITE packets of ORDER class 0, up to four lines each. -/
def State.sendLines (s : State) (dst : BitVec 17) (unit : UnitId) (a : Nat) (l : List (Line × Bool)) : State :=
  s.each (chunks 4 l).zipIdx (fun s (x : List (Line × Bool) × Nat) =>
    let at_ := a + 256 * x.2
    s.request { newRequest dst 0 unit 8 64 x.1.length with addr := at_, lines := x.1.length }
      (packetLoad { blankPacket dst (s.ep.getD 0) 0 0 0 with addr := BitVec.ofNat 42 at_ } (x.1.map (·.1)) (x.1.map (·.2))))

/-- The last block has been copied: the sender sends its sums (11 R400). -/
def State.rackAdvance (s : State) : State :=
  if s.rack.state = 1 ∧ s.rack.prio.isEmpty = true ∧ s.rack.copied.length = (s.rack.list.map (fun (r : RackRange) => r.length / 4096)).sum then
    State.emit { s with rack := { s.rack with state := 2 } }
      (.rackSums (BitVec.ofNat 17 (s.objGet 0x6000 2)) s.rack.epoch s.rack.snap s.rack.sums.toList)
  else s

/-- Send a block to its place in the partner's cellar and add it to the stack's sum: CRC-64 over its address there and its payload as sent. -/
def State.rackSend (s : State) (b : Nat) (lines : List (Line × Bool)) : State :=
  let k := stackOf (4096 * b)
  match (rackPlaces s.narrowOn (s.rack.list.filter (fun (r : RackRange) => stackOf r.start == k))).find? (fun x => x.1 == b) with
  | none => s
  | some (_, off, narrow) =>
    let l := if narrow then narrowLines lines else lines
    let a := s.cellarBase k + s.rack.slot * s.slotBytes + 4096 + off
    let crc := BitVec.ofNat 64 (crc64 (leBytes a 8 ++ l.flatMap (fun x => lineBytes x.1)))
    let s := { s with rack := { s.rack with sums := vmod s.rack.sums k (fun x => x + crc) } }
    (s.sendLines (BitVec.ofNat 17 (s.objGet 0x6000 2)) .racking a l).rackAdvance

/-- The epoch start at the COMMIT of a step (11 R396): skipped, counted and reported with 0x0B07 when the list breaks a rule, the last epoch is
not sealed, or it has not been cleared (10 R382). -/
def State.startEpoch (s : State) (step : Word) : State :=
  let due := step.toNat % s.objGet 0x6010 6 == 0 || (s.objGet 0x6010 7 != 0 && step.toNat == s.objGet 0x6010 7)
  if !due || s.objGet 0x6000 3 == 0 || s.objGet 0x6010 2 == 0 then s
  else
  let s := s.touchList
  match if s.rack.state = 0 ∨ s.rack.state = 4 ∨ s.rack.state = 5 then s.rackList else none with
  | none => (s.bump 0x6010 12 1).eventD 0x0B07 0x6010
  | some l =>
    State.rackAdvance { s with rack := { s.rack with list := l, state := 1, epoch := s.rack.epoch + 1, snap := step, copied := [], prio := []
                                                     sums := Vector.replicate 12 0, alarm := false, clear := false } }

/-! ## The cellar host (11 R400, R402) -/

/-- Slot, stack and offset in the slot of an address in the cellar region. -/
def State.cellarPlace (s : State) (a : Nat) : Option (Nat × Nat × Nat) :=
  let k := stackOf a
  let n := s.slotBytes
  if 2 ^ 41 ≤ a ∧ k < 12 ∧ s.cellarBase k ≤ a ∧ a < s.cellarBase k + 2 * n then some ((a - s.cellarBase k) / n, k, (a - s.cellarBase k) % n) else none

/-- Key of a byte of a slot in the cellar's store. -/
def cellarKey (slot k off : Nat) : Nat := (slot * 12 + k) * 2 ^ 34 + off

/-- The slot that holds no newest sealed epoch. -/
def Rack.writeSlot (x : Rack) : Nat := if x.newest = 0 then 1 else 0

/-- Where a WRITE to an address of the cellar region lands: in the slot that holds no newest sealed epoch, whichever slot the address names, since nothing
tells a sender which one that is (11 R400, R401). (log 34, DESIGN CHOICE) -/
def State.cellarAt (s : State) (a : Nat) : Nat := match s.cellarPlace a with
  | some (_, k, off) => s.cellarBase k + s.rack.writeSlot * s.slotBytes + off
  | none => a

/-- Whether a WRITE comes from the sender that this device hosts, to its cellar region on a stack that is neither in TEST nor FAILED (06 R216). -/
def State.cellarTakes (s : State) (src : BitVec 17) (a : Nat) : Bool :=
  s.objGet 0x6000 5 == 1 && s.objGet 0x6000 4 == src.toNat && (match s.cellarPlace a with
    | some p => !s.stackOut p.2.1
    | none => false)

/-- A header of zeros. -/
def CellarHdr.zero : CellarHdr :=
  { stack := 0, narrow := false, ranges := [], sender := 0, serial := [], epoch := 0, snapStep := 0, length := 0, dcrc := 0, poisoned := 0, valid := false }

/-- Store one line of a slot, its stack leaving self-refresh for it; the slot's headers are zeroed before any block of an epoch lands. -/
def State.cellarPut (s : State) (a : Nat) (d : Line) (poison : Bool) : State := match s.cellarPlace a with
  | none => s
  | some (named, k, off) =>
    let slot := s.rack.writeSlot
    let s := (s.wakeStack k).clearErrors (s.cellarAt a / 64)
    { s with rack := { s.rack with
        landing := named
        hdrs := s.rack.hdrs.filter (fun x => x.1 / 12 != slot)
        sealedStacks := if s.rack.hdrs.any (fun x => x.1 / 12 == slot) then 0 else s.rack.sealedStacks
        payload := msetN zeroByte s.rack.payload (cellarKey slot k off) (lineBytes d)
        payloadPoison := sput s.rack.payloadPoison (cellarKey slot k off / 64) poison } }

/-- Lines of a slot's payload from an offset. -/
def State.cellarLines (s : State) (slot k off n : Nat) : List (Line × Bool) :=
  (List.range (n / 64)).map (fun i =>
    let a := cellarKey slot k (4096 + off + 64 * i)
    (lineOf (mgetN zeroByte s.rack.payload a 64), s.rack.payloadPoison.contains (a / 64)))

/-- The header of a slot on a stack. -/
def State.cellarHdr (s : State) (slot k : Nat) : CellarHdr := tget CellarHdr.zero s.rack.hdrs (12 * slot + k)

/-- The blocks that a slot restores: address in the sender's memory and its lines (11 R403, R406). -/
def State.cellarBlocks (s : State) (slot : Nat) : List (Nat × List (Line × Bool)) :=
  (List.range 12).flatMap (fun k =>
    let h := s.cellarHdr slot k
    (rackPlaces h.narrow h.ranges).map (fun x =>
      (4096 * x.1, if x.2.2 then widenLines (s.cellarLines slot k x.2.1 2048) else s.cellarLines slot k x.2.1 4096)))

/-- Whether a slot is valid on every stack: its headers stand and a rescan of each payload matches (11 R401). -/
def State.slotValid (s : State) (slot : Nat) : Bool :=
  (List.range 12).all (fun k =>
    let h := s.cellarHdr slot k
    h.valid && h.dcrc == BitVec.ofNat 64 (crc64 ((s.cellarLines slot k 0 h.length.toNat).flatMap (fun x => lineBytes x.1))))

end Sys2Proof.Machine
end

