-- ==== Sys2Proof/Machine/Packets.lean ====
section
/-! DEFINITION. Packets that reach this device (08 R283 to R291, R299, R522; 10 R366, R371): arrival, forwarding, WRITE, READ, ATOMIC and
SIGNAL requests, and the responses that need nothing but their request. -/

namespace Sys2Proof.Machine

/-! ## Arrival -/

/-- A packet arrives on any port while DRAINED: the sparge drains again and the traffic flag is set (08 R305). -/
def State.spargeTraffic (s : State) : State :=
  if s.fabric.sparge = .drained then s.modFabric (fun f => { f with sparge := .draining, traffic := true }) else s

/-- Whether a port delivers a packet of a channel: it carries traffic, or holds packets that it accepted before its link was lost (08 R300). -/
def State.delivers (s : State) (i : Nat) (p : Packet) : Bool := (s.port i).carries || decide (0 < vget (s.port i).rxOld (vcIndex p) 0)

/-- Whether a packet has come through a port that delivers it, or inside this device, and is for this device. -/
def State.forMe (s : State) (via : Option (Fin 12)) (p : Packet) : Bool := match via with
  | none => true
  | some i => s.delivers i p && s.ep == some p.dst

/-- Accept a packet: counted, its receive buffer freed. -/
def State.arrive (s : State) (via : Option (Fin 12)) (p : Packet) : State := match via with
  | none => s
  | some i => ((s.bump 0x5030 3 1).freeBuffer i (vcIndex p)).spargeTraffic

/-- The packet as the device reads it: on a link without LINE_POISON any POISON bit poisons every line (08 R281). -/
def State.readIn (s : State) (via : Option (Fin 12)) (p : Packet) : Packet := match via with
  | some i => if (s.port i).features.getLsbD 2 then p else packetAllPoison p
  | none => p

/-- Whether payload line `i` is poisoned. -/
def packetLinePoison (p : Packet) (i : Nat) : Bool := p.poison.getLsbD i

/-- Whether a request breaks the header rules that every request shares (08 Table 7). -/
def packetHeaderBad (p : Packet) : Bool :=
  p.rsv != 0 || p.vc || decide (2 ≤ p.order.toNat) || p.status != 0 || decide (4 < p.len.toNat) || p.payload.length != p.len.toNat

/-- A request whose type and SUB this row takes: arrival, trailer, header; a good one goes on to its own checks. -/
def State.requestIn (s : State) (via : Option (Fin 12)) (p : Packet) (mine : Bool) (f : State → Packet → State) : State :=
  if !mine || !s.forMe via p then s
  else
    let q := s.readIn via p
    let s := (s.arrive via p).bump 0x5060 4 1
    if !packetCrcOk p then s.nackTo p 3
    else if packetHeaderBad q then s.nackTo p 2
    else f s q

/-- A response: arrival, trailer, its request by TAG; one that matches no request is discarded and counted (08 R285, R287, R299). -/
def State.responseIn (s : State) (via : Option (Fin 12)) (p : Packet) (mine : Bool) (kind : Option Nat) (f : State → Packet → Request → State) : State :=
  if !mine || !s.forMe via p then s
  else
    let q := s.readIn via p
    let s := s.arrive via p
    if !packetCrcOk p then s.bump 0x5030 9 1
    else match s.fabric.requests.find? (fun (r : Request) => r.tag == p.tag && (kind.isNone || kind == some r.kind)) with
      | none => s.bump 0x5030 9 1
      | some r => f s q r

/-! ## Forwarding (08 R285, R289 to R291) -/

/-- A packet that goes no further: a request is answered, a response discarded; its buffer is freed. -/
def State.deadEnd (s : State) (r : Nat) (p : Packet) (status : Nat) : State :=
  let s := s.freeBuffer r (vcIndex p)
  if p.vc then s.bump 0x5030 9 1 else s.respond p 31 status [] [] 0 false

/-- Across a plane swap that has been adopted a packet takes the plane of the port it came in by, whose ring it goes on in (08 R280, R289). -/
def State.onRing (s : State) (i : Fin 12) (p : Packet) : Packet :=
  if i.val < 8 ∧ recNat (s.recordInForce i) 4 1 = farPort (sibling i) then { p with plane := decide (4 ≤ i.val) } else p

/-- PACKET_FORWARD: to the transmit queue of the route's port, or of its sibling while it is detoured; where the packet has to wait for a table
commit it gives its receive buffer back (08 R289, R301, R302). (log 30, DESIGN CHOICE) -/
def execPacketForward (i : Fin 12) (p : Packet) (s : State) : Host.Outcome State Fault Refusal :=
  .next (if !s.delivers i p || s.ep.isNone || s.ep == some p.dst then s
    else
      let p := s.readIn (some i) p
      let s := (s.bump 0x5030 3 1).spargeTraffic
      if 8 ≤ i.val then s.deadEnd i p 7
      else if p.hops = 63 then (s.bump 0x5030 10 1).deadEnd i p 4
      else match s.route (s.onRing i p) with
        | .port q =>
          let p := { p with hops := p.hops + 1, plane := if q < 8 then decide (4 ≤ q) else p.plane }
          let c := s.carrier q
          let t := s.modPort c (fun x => { x with txQ := vmod x.txQ (vcIndex p) (fun l => l ++ [(i.val, p)]) })
          if (s.port c).lostHeld then t.freeBuffer i (vcIndex p) else t
        | _ => s.deadEnd i p 5)

/-! ## Requests of other devices -/

/-- Whether a local run keeps an inbound packet of the gated job waiting (10 R371). (log 30, DESIGN CHOICE) -/
def State.localHold (s : State) (ofJob : Bool) : Bool := ofJob && s.inLocalRun

/-- Keep a packet until the local run ends; it counts as received when it is accepted. (log 30, DESIGN CHOICE) -/
def State.holdIn (s : State) (p : Packet) : State :=
  (s.objSet 0x5060 4 (s.objGet 0x5060 4 - 1)).modFabric (fun f => { f with inHeld := f.inHeld ++ [p] })

/-- A request's accesses to memory: while they wait for a channel that a retraining slice has taken offline, the packet is taken again later, and
counts as received then (06 R214). (log 47, DESIGN CHOICE) -/
def State.accessIn (s : State) (c : Instr) (lines : List Nat) (need : Nat → Option Nat) (f : State → State) : State :=
  let t := s.access c lines need f
  if t.mem.deferred.length = s.mem.deferred.length then t else t.objSet 0x5060 4 (t.objGet 0x5060 4 - 1)

/-- Lines a request touches are all assigned. -/
def State.linesAssigned (s : State) (a n : Nat) : Bool := (List.range n).all (fun i => (s.home (a + 64 * i)).isSome)

/-- Whether any of `n` lines lies in an input window of the open step. -/
def State.linesInWindow (s : State) (a n : Nat) : Bool := s.esc.record.isSome && (List.range n).any (fun i => s.inWindow (a + 64 * i))

/-- INPUT records of the full lines of a WRITE, one per line in a window; neighbours share a record (10 R366). -/
def State.writeRecs (s : State) (p : Packet) : List LedgerRec :=
  if s.esc.record.isNone then []
  else p.payload.zipIdx.filterMap (fun (x : Line × Nat) =>
    let a := p.addr.toNat + 64 * x.2
    if s.inWindow a then some (inputRec (s.inputStack a) a (p.src.setWidth 32) s.esc.outSeq 0 0 0 0 (packetLinePoison p x.2) [x.1]) else none)

/-- WRITE with SUB 0, into memory or, from the sender that this device hosts, into its cellar (11 R397); a reserved SUB and a reserved request TYPE are answered here with status 0x02 (08 R285, R287). -/
def execWritePacket (via : Option (Fin 12)) (p : Packet) (s : State) : Host.Outcome State Fault Refusal :=
  .next (s.requestIn via p ((p.type == 0 && p.sub != 1) || decide (6 ≤ p.type.toNat ∧ p.type.toNat < 16)) (fun s q =>
    let a := q.addr.toNat
    if q.type ≠ 0 ∨ q.sub ≠ 0 ∨ q.arg ≠ 0 ∨ q.len = 0 ∨ a % 64 ≠ 0 then s.nackTo p 2
    else if (List.range q.payload.length).all (fun i => s.cellarTakes q.src (a + 64 * i)) then
      s.accessIn (.writePacket none q) ((linesIn a (64 * q.payload.length)).map (fun ln => s.cellarAt (64 * ln) / 64)) s.channelOf (fun s =>
        (s.each q.payload.zipIdx (fun s (x : Line × Nat) => s.cellarPut (a + 64 * x.2) x.1 (packetLinePoison q x.2))).respond p 16 0 [] [] 0 true)
    else if !s.linesAssigned a q.payload.length then s.nackTo p 1
    else if s.localHold (s.linesInWindow a q.payload.length) then s.holdIn q
    else s.accessIn (.writePacket none q) (linesIn a (64 * q.payload.length)) (fun ln => s.writeChan ln fullMask) (fun s => s.recordThen (s.writeRecs q) (fun s =>
      (s.each q.payload.zipIdx (fun s (x : Line × Nat) => s.tunWrite (a / 64 + x.2) x.1 fullMask (packetLinePoison q x.2))).respond p 16 0 [] [] 0 true))))

/-- The 64-bit mask of data line `i` of a masked WRITE (08 R522). -/
def maskOf (m : Line) (i : Nat) : BitVec 64 := m.extractLsb' (64 * i) 64

/-- Whether a masked WRITE breaks 08 R522. -/
def packetMaskBad (p : Packet) : Bool :=
  decide (p.len.toNat < 2) || (p.payload.getD 0 0).toNat / 2 ^ (64 * (p.len.toNat - 1)) != 0 || packetLinePoison p 0

/-- MASKED_WRITE: exactly the selected bytes are written. -/
def execMaskedWrite (via : Option (Fin 12)) (p : Packet) (s : State) : Host.Outcome State Fault Refusal :=
  .next (s.requestIn via p (p.type == 0 && p.sub == 1) (fun s q =>
    let a := q.addr.toNat
    let n := q.payload.length - 1
    let m := q.payload.getD 0 0
    if q.arg ≠ 0 ∨ a % 64 ≠ 0 ∨ packetMaskBad q = true then s.nackTo p 2
    else if !s.linesAssigned a n then s.nackTo p 1
    else if s.localHold (s.linesInWindow a n) then s.holdIn q
    else s.accessIn (.maskedWrite none q) (linesIn a (64 * n)) (fun ln => s.writeChan ln (maskOf m (ln - a / 64))) (fun s =>
      let bad := (List.range n).any (fun i => packetLinePoison q (i + 1))
      s.recordThen (if s.linesInWindow a n then [inputRec (s.inputStack a) a (q.src.setWidth 32) s.esc.outSeq 0 1 0 0 bad q.payload] else []) (fun s =>
        (s.each (q.payload.drop 1).zipIdx (fun s (x : Line × Nat) =>
          s.tunWrite (a / 64 + x.2) x.1 (maskOf m x.2) (packetLinePoison q (x.2 + 1)))).respond p 16 0 [] [] 0 true))))

/-- READ: READ_DATA packets of up to four lines, the last one final; poison travels with the lines (08 R284). -/
def execReadPacket (via : Option (Fin 12)) (p : Packet) (s : State) : Host.Outcome State Fault Refusal :=
  .next (s.requestIn via p (p.type == 1) (fun s q =>
    let a := q.addr.toNat
    let n := q.arg.toNat
    if q.sub ≠ 0 ∨ q.len ≠ 0 ∨ n = 0 ∨ 32 < n ∨ a % 64 ≠ 0 then s.nackTo p 2
    else if !s.linesAssigned a n then s.nackTo p 1
    else s.accessIn (.readPacket none q) (linesIn a (64 * n)) s.missChan (fun s =>
      let s := s.touchRange a (64 * n)
      s.each (List.range (ceilDiv n 4)) (fun s k =>
        let l := ((List.range (min 4 (n - 4 * k))).map (fun i => s.line (a / 64 + 4 * k + i)))
        s.respond p 17 0 (l.map (·.1)) (l.map (·.2)) (BitVec.ofNat 42 (256 * k)) (k + 1 == ceilDiv n 4)))))

/-- ATOMIC: applied once by the line's adder (06 R228, R232, R233); CAS returns the old line. One refused here for its mask never comes to the adder,
so it counts in neither object 0x4030.0 nor 0x4030.2. (log 30, DESIGN CHOICE) -/
def execAtomicPacket (via : Option (Fin 12)) (p : Packet) (s : State) : Host.Outcome State Fault Refusal :=
  .next (s.requestIn via p (p.type == 2) (fun s q =>
    let a := q.addr.toNat
    let op := q.sub.toNat
    let bad := (List.range q.payload.length).any (packetLinePoison q)
    if a % 64 ≠ 0 ∨ adderMaskOk op q.arg.toNat = false ∨ q.payload.length ≠ (if adderCas op then 2 else 1) then s.nackTo p 2
    else if s.localHold (s.linesInWindow a 1) then s.holdIn q
    else s.accessIn (.atomicPacket none q) [a / 64] s.adderChan (fun s => s.recordThen (if s.linesInWindow a 1 then [inputRec (s.inputStack a) a (q.src.setWidth 32) s.esc.outSeq 2 op 0 q.arg bad q.payload] else []) (fun s =>
      let r := s.adder op q.arg.toNat (a / 64) (q.payload.getD 0 0) (q.payload.getD 1 0) bad false
      match r.2 with
      | none => r.1.nackTo p 6
      | some o => if adderCas op then r.1.respond p 18 0 [o.old] [o.poison] 0 true else r.1.respond p 18 0 [] [] 0 true))))

/-- SIGNAL (09 R315): the add, then the acknowledgement; a free or orphaned block takes none. -/
def execSignalPacket (via : Option (Fin 12)) (p : Packet) (s : State) : Host.Outcome State Fault Refusal :=
  .next (s.requestIn via p (p.type == 3) (fun s q =>
    let n := q.addr.toNat
    let mine := s.esc.record.isSome && s.counterOwner n == s.gatedJob
    if q.sub ≠ 0 ∨ q.len ≠ 0 ∨ 65536 ≤ n then s.nackTo p 2
    else if s.localHold mine then s.holdIn q
    else if 8 ≤ s.counterOwner n then (s.counterAdd n 0).nackTo p 1
    else s.recordThen (if mine then [inputRec (3 * (n / 16384)) n (q.src.setWidth 32) s.esc.outSeq 3 0 0 q.arg false []] else []) (fun s =>
      (s.counterAdd n q.arg.toInt).respond p 19 0 [] [] 0 true)))

/-! ## Responses -/

/-- A request has its final response: its tokens return (08 R298). (log 30, DESIGN CHOICE) -/
def State.finish (s : State) (r : Request) : State := (s.bump 0x5060 3 1).closeRequest r

/-- One of a DMA's requests has been resolved. -/
def State.dmaAnswered (s : State) (c e : Nat) (seq : BitVec 32) : State := s.modRun c e seq (fun x => { x with waiting := x.waiting - 1 })

/-- WRITE_ACK. -/
def execWriteAck (via : Option (Fin 12)) (p : Packet) (s : State) : Host.Outcome State Fault Refusal :=
  .next (s.responseIn via p (p.type == 16) (some 0) (fun s _ r =>
    let s := s.finish r
    match r.unit with
    | .dma c e n => s.dmaAnswered c e n
    | _ => s))

/-- Lines of a READ that arrive at the byte offset `off`: a GLD register takes them with their poison, its core going on once every READ of
the GLD has ended; an engine keeps them until it moves its data; the last lines complete the request. -/
def State.deliver (s : State) (r : Request) (off : Nat) (lines : List (Line × Bool)) : State :=
  let got := r.got + lines.length
  let last := decide (r.lines ≤ got)
  let s := match r.unit with
    | .core c => s.modCore c (fun x => match x.wait with
      | .gld rd p =>
        let y := x.takeSegs rd.toNat (x.p p.toNat) (r.reg + off / 64) lines
        if last && (s.readsOut c).all (fun (q : Request) => q.tag == r.tag) then { y with wait := .none } else y
      | _ => x)
    | .dma c e n => s.modRun c e n (fun x => { x with
        waiting := if last then x.waiting - 1 else x.waiting
        fetched := x.fetched ++ lines.zipIdx.map (fun (l : (Line × Bool) × Nat) => ({ ep := r.dst, addr := r.addr + off + 64 * l.2, data := l.1.1, poison := l.1.2 } : Fetched)) })
    | _ => s
  if last then s.finish r
  else s.modFabric (fun f => { f with requests := f.requests.map (fun (x : Request) => if x.tag = r.tag then { x with got := got } else x) })

/-- The stack whose share takes the records of a request's data: the first of the requester's quarter (10 R366). -/
def Request.share (r : Request) : Nat := match r.unit with
  | .core c => 3 * coreQuarter c
  | .dma c _ _ => 3 * coreQuarter c
  | _ => 0

/-- READ_DATA: recorded for a request of the gated job, then delivered; the last packet is final (08 R284, 10 R366). -/
def execReadData (via : Option (Fin 12)) (p : Packet) (s : State) : Host.Outcome State Fault Refusal :=
  .next (s.responseIn via p (p.type == 17) (some 1) (fun s q r =>
    let off := q.addr.toNat
    let l := q.payload.zipIdx.map (fun (x : Line × Nat) => (x.1, packetLinePoison q x.2))
    s.recordThen (if s.stepOpenFor r.job then l.zipIdx.map (fun x =>
        inputRec r.share (r.addr + off + 64 * x.2) (q.src.setWidth 32) s.esc.outSeq 17 0 r.pos (BitVec.ofNat 32 (off + 64 * x.2)) x.1.2 [x.1.1]) else [])
      (fun s => s.deliver r off l)))

/-- ATOMIC_RESP: a CAS returns its old line to the engine; one marked poisoned is consumed by the job that issued it (06 R208, R232). -/
def execAtomicResp (via : Option (Fin 12)) (p : Packet) (s : State) : Host.Outcome State Fault Refusal :=
  .next (s.responseIn via p (p.type == 18) (some 2) (fun s q r =>
    let s := s.finish r
    match r.unit with
    | .dma c e n =>
      let s := s.modRun c e n (fun x => { x with waiting := x.waiting - 1, fetched := x.fetched ++ (match q.payload with
        | l :: _ => [{ ep := r.dst, addr := r.addr, data := l, poison := packetLinePoison q 0 }]
        | [] => []) })
      if packetLinePoison q 0 && !q.payload.isEmpty then s.consume (r.addr / 64) (144 + 2 * c + e) r.stream r.job else s
    | _ => s))

/-- SIGNAL_ACK. -/
def execSignalAck (via : Option (Fin 12)) (p : Packet) (s : State) : Host.Outcome State Fault Refusal :=
  .next (s.responseIn via p (p.type == 19) (some 3) (fun s _ r =>
    let s := s.finish r
    match r.unit with
    | .dma c e n => s.dmaAnswered c e n
    | _ => s))

/-- COLL_ACK. -/
def execCollAck (via : Option (Fin 12)) (p : Packet) (s : State) : Host.Outcome State Fault Refusal :=
  .next (s.responseIn via p (p.type == 20) (some 4) (fun s _ r => s.finish r))

/-- SYNC_ACK. -/
def execSyncAck (via : Option (Fin 12)) (p : Packet) (s : State) : Host.Outcome State Fault Refusal :=
  .next (s.responseIn via p (p.type == 21) (some 5) (fun s _ r => s.finish r))

/-- NACK (08 R287, R288): the source unit resolves the request by its status. A response of a reserved TYPE is discarded and counted. (log 30, DESIGN CHOICE) -/
def execNack (via : Option (Fin 12)) (p : Packet) (s : State) : Host.Outcome State Fault Refusal :=
  .next (s.responseIn via p (decide (22 ≤ p.type.toNat)) (if p.type = 31 then none else some 99) (fun s q r =>
    let s := (s.bump 0x5030 5 1).bump 0x5060 3 (if q.status = 8 then 0 else 1)
    (s.closeRequest r).failRequest r q.status.toNat))

/-- RESPONSE_TIMEOUT (08 R299): the request is in doubt; its tokens return now. -/
def execResponseTimeout (tag : BitVec 16) (s : State) : Host.Outcome State Fault Refusal :=
  .next (match s.fabric.requests.find? (fun (r : Request) => r.tag == tag) with
    | none => s
    | some r => (s.closeRequest r).inDoubt r)

end Sys2Proof.Machine
end

