-- ==== Sys2Proof/Machine/Barrier.lean ====
section
/-! DEFINITION. Barriers (09 R320 to R324): phases of a slot, the tree of a group-kind slot, and the SYNC packets (R342). -/

namespace Sys2Proof.Machine

/-! ## Phases -/

/-- The axes, the participants and this device's number among them. -/
structure SlotTree where
  table : GroupTable
  axes : List Nat
  n : Nat
  me : Nat
  deriving DecidableEq, Repr

def State.slotTree (s : State) (i : Nat) : SlotTree :=
  let t := (s.job (s.slotOwner i)).table
  let l := axesOf (s.slot i).axes
  { table := t, axes := l, n := t.size l, me := t.index l }

/-- The children of participant `i` of `n` (09 R323). -/
def treeKids (n i : Nat) : List Nat := (List.range 8).filterMap (fun k => if 8 * i + k + 1 < n then some (8 * i + k + 1) else none)

/-- Send a SYNC message of a slot to a participant. -/
def State.syncTo (s : State) (i sub phase part : Nat) : State :=
  let t := s.slotTree i
  match s.memberEp t.table t.axes part with
  | some d => s.sendSync (s.slotOwner i) i sub phase d
  | none => s

/-- A phase completes (09 R321, R322): the number rises, the slot opens, arrivals held for the next phase count. -/
def State.slotComplete (s : State) (i : Nat) : State :=
  let x := s.slot i
  (s.setSlot i { x with state := .opened, phase := x.phase + 1, arrived := x.next, next := 0, sent := false
                        kids := x.kids.filter (fun k => k.2 != x.phase) }).bump 0x5040 8 1

/-- Complete a phase and release the children of a group-kind slot. -/
def State.slotRelease (s : State) (i : Nat) : State :=
  let x := s.slot i
  let t := s.slotTree i
  let s := if x.group then s.each (treeKids t.n t.me) (fun s k => s.syncTo i 1 x.phase.toNat k) else s
  s.slotComplete i

/-- One look at a slot: every core has arrived; a group-kind slot then needs its children, and its parent's release. In a local run, which takes no packet of
its job (10 R371), the group has passed the phase already, so that the arrivals here complete it. (log 39, DESIGN CHOICE) -/
def State.slotStep (s : State) (i : Nat) : State :=
  let x := s.slot i
  if (x.state ≠ .opened ∧ x.state ≠ .localDone) ∨ x.mask = 0 ∨ x.arrived &&& x.mask ≠ x.mask then s
  else if !x.group || (s.inLocalRun && s.slotOwner i == s.gatedJob) then s.slotComplete i
  else
    let t := s.slotTree i
    let s := s.setSlot i { x with state := .localDone }
    if (treeKids t.n t.me).all (fun k => x.kids.contains (k, x.phase)) then
      if t.me = 0 then s.slotRelease i
      else if x.sent then s
      else (s.setSlot i { x with state := .localDone, sent := true }).syncTo i 0 x.phase.toNat ((t.me - 1) / 8)
    else s

/-- Look again after a phase has completed, since held arrivals may complete the next one. -/
def State.slotTry (s : State) (i : Nat) : State := (s.slotStep i).slotStep i

/-- The arrival of a core (09 R321, R322). -/
def State.slotArrive (s : State) (i c : Nat) : State :=
  let x := s.slot i
  let b := BitVec.twoPow 144 c
  let y := if x.arrived.getLsbD c then { x with next := x.next ||| b } else { x with arrived := x.arrived ||| b }
  (s.setSlot i { y with everArrived := y.everArrived ||| b }).slotTry i

/-- The phase for which a core waits; none when its latest arrival's phase has completed (09 R322). -/
def Slot.waitPhase (x : Slot) (c : Nat) : Option (BitVec 32) :=
  if x.next.getLsbD c then some (x.phase + 1)
  else if x.arrived.getLsbD c then some x.phase
  else if x.everArrived.getLsbD c then none
  else some x.phase

/-- Whether a phase has completed. -/
def Slot.past (x : Slot) (phase : BitVec 32) : Bool := decide (0 < (x.phase - phase).toInt)

/-! ## SYNC packets -/

/-- A slot becomes orphaned by a message of its tree: it tells its other neighbours, and its waiters end with status 2 (09 R324). -/
def State.slotOrphaned (s : State) (i : Nat) (source : BitVec 17) : State :=
  let x := s.slot i
  let j := s.slotOwner i
  let s := s.syncNeighbours j i 2 0 x (some source)
  let s := (((s.setSlot i { x with state := .orphaned }).setSlotOwner i 0xFE).orphanWaiters i).bump 0x5040 7 1
  { s with sync := { s.sync with orphanOf := tins s.sync.orphanOf (256 + i) j } }

/-- A SYNC request: its fields (09 Table 7); a slot that is no group-kind slot in use is answered 0x01. -/
def State.syncIn (s : State) (via : Option (Fin 12)) (p : Packet) (mine : Bool) (f : State → Packet → Nat → Option State) : State :=
  s.requestIn via p (p.type == 5 && mine) (fun s q =>
    let i := q.addr.toNat
    if 3 ≤ q.sub.toNat ∨ q.len ≠ 0 ∨ 256 ≤ i ∨ (q.sub = 2 ∧ q.arg ≠ 0) then s.nackTo p 2
    else if (s.slot i).state = .free ∨ (s.slot i).group = false then s.nackTo p 1
    else if s.localHold (s.stepOpenFor (s.slotOwner i)) then s.holdIn q
    else match f s q i with
      | some s => s.respond p 21 0 [] [] 0 true
      | none => s.nackTo p 1)

/-- SYNC_ARRIVE: recorded for its phase; one for a later phase is held, one for a phase that has completed changes nothing. Reserved SUB
values are answered here. -/
def execSyncArrive (via : Option (Fin 12)) (p : Packet) (s : State) : Host.Outcome State Fault Refusal :=
  .next (s.syncIn via p (p.sub != 1 && p.sub != 2) (fun s q i =>
    let x := s.slot i
    let t := s.slotTree i
    if x.state = .orphaned then some s
    else match (treeKids t.n t.me).find? (fun k => s.memberEp t.table t.axes k == some q.src) with
      | none => none
      | some k =>
        if x.past q.arg || x.kids.contains (k, q.arg) then some s
        else some ((s.setSlot i { x with kids := x.kids ++ [(k, q.arg)] }).slotTry i)))

/-- SYNC_RELEASE: the phase completes and the release goes to the children. -/
def execSyncRelease (via : Option (Fin 12)) (p : Packet) (s : State) : Host.Outcome State Fault Refusal :=
  .next (s.syncIn via p (p.sub == 1) (fun s q i =>
    let x := s.slot i
    if x.state = .localDone ∧ x.sent = true ∧ x.phase = q.arg then some ((s.slotRelease i).slotTry i) else some s))

/-- SYNC_ORPHAN. -/
def execSyncOrphan (via : Option (Fin 12)) (p : Packet) (s : State) : Host.Outcome State Fault Refusal :=
  .next (s.syncIn via p (p.sub == 2) (fun s q i => if (s.slot i).state = .orphaned then some s else some (s.slotOrphaned i q.src)))

end Sys2Proof.Machine
end

