-- ==== Sys2Proof/Machine/Hbm.lean ====
section
/-! DEFINITION. HBM stacks, their training, the traffic generator, Tun slices and the BAR2 window (06 R203 to R226, 12 R429, 14 R488). -/

namespace Sys2Proof.Machine

/-! ## Errors and the patrol scrubber (06 R203 to R206) -/

/-- Errors arise in stored lines; the next access to each meets them. (log 46, DESIGN CHOICE) -/
def State.arise (s : State) (l : List MemError) : State :=
  s.modMem (fun m => { m with errors := m.errors ++ l.map (fun (e : MemError) => (e.line.toNat, e.error)) })

/-- Spoil the record of a stack's share that covers a byte offset in it, records standing one after the other: its HCRC no longer fits, or a line of its
payload is poisoned (10 R364, R365, R368). (log 46, DESIGN CHOICE) -/
def poisonRec (k : Nat) : Nat → Nat → List LedgerRec → List LedgerRec
  | _, _, [] => []
  | off, o, r :: l =>
    if r.stack ≠ k then r :: poisonRec k off o l
    else if off < o + 64 then { r with hcrc := ~~~r.crc } :: l
    else if off < o + r.size then { r with spoilt := true } :: l
    else r :: poisonRec k off (o + r.size) l

/-- A poisoned line of a tail: what the cellar holds there is poisoned, with free bytes; so is the ledger record there, after the header page of the
share (10 R364, R370), and any other line of the tail. (log 46, DESIGN CHOICE) -/
def State.poisonTail (s : State) (ln : Nat) : State := match s.cellarPlace (64 * ln) with
  | none =>
    let k := stackOf (64 * ln)
    let off := (64 * ln - 2 ^ 41) % 2 ^ 36 + s.tailBytes - 64 * GiB
    if 4096 ≤ off ∧ off < s.shareUsed k then s.modEsc (fun e => { e with ledger := poisonRec k off 4096 e.ledger })
    else s.modMem (fun m => { m with poison := sadd m.poison ln })
  | some (slot, k, off) =>
    let t := s.mem.fillNext
    let key := cellarKey slot k off
    ({ s with rack := { s.rack with payload := msetN zeroByte s.rack.payload key ((List.range 64).map (fun i => Config.freeHbmByte t (64 * ln + i)))
                                    payloadPoison := sadd s.rack.payloadPoison (key / 64) } }).modMem (fun m => { m with fillNext := t + 1 })

/-- The scrubber reads one line of a stack and meets its errors; a line of the tail is poisoned where its unit keeps it. -/
def State.scrubLine (s : State) (k ln sector : Nat) : State :=
  let t := s.readSectors k ln [sector] true
  if (s.mapped (64 * ln)).isNone && s.objGet 0x4002 2 != t.objGet 0x4002 2 then t.poisonTail ln else t

/-- PATROL_SCRUB (06 R206): one sector of a stack; one in self-refresh is not scrubbed (14 R489). The scrubber works below the Tun. (log 46, DESIGN CHOICE) -/
def execPatrolScrub (line : BitVec 36) (sector : Fin 2) (arisen : List MemError) (s : State) : Host.Outcome State Fault Refusal :=
  let ln := line.toNat
  let s := s.arise arisen
  .next (match s.mapped (64 * ln), s.tailStack ln with
    | some (.hbm k), _ => if (s.stack k).state = .selfRefresh then s else s.scrubLine k ln sector
    | none, some k => if (s.stack k).state = .selfRefresh then s else s.scrubLine k ln sector
    | _, _ => s)

/-! ## Retraining (06 R212 to R215) -/

/-- DRIFT_CHECK (06 R213), every 32 beats. -/
def execDriftCheck (k : Fin 12) (s : State) : Host.Outcome State Fault Refusal := .next ((s.checkDrift k).modStack k Stack.ticked)

/-- RETRAIN_REQUEST: a write to object 0x4004.2. -/
def execRetrainRequest (v : BitVec 16) (s : State) : Host.Outcome State Fault Refusal :=
  .next (s.objectRow 0x4004 2 (fun s =>
    (if v.toNat < 384 then (s.queueRetrain (v.toNat / 32) (v.toNat % 32)).reply 0x4004 2 0 else s.reply 0x4004 2 0x0201)))

/-- RETRAIN_WINDOW_OPEN (06 R214): one window per stack. -/
def execRetrainWindowOpen (k : Fin 12) (s : State) : Host.Outcome State Fault Refusal :=
  .next (s.openWindow k)

/-- RETRAIN_SLICE_START: at most 80 slices in a window. -/
def execRetrainSliceStart (k : Fin 12) (s : State) : Host.Outcome State Fault Refusal :=
  let x := s.stack k
  .next (match x.window with
    | some w => if w.offline || w.complete || decide (80 ≤ w.slices) then s
      else s.setStack k { x with window := some { w with slices := w.slices + 1, offline := true } }
    | none => s)

/-- RETRAIN_SLICE_END. -/
def execRetrainSliceEnd (k : Fin 12) (s : State) : Host.Outcome State Fault Refusal :=
  let x := s.stack k
  .next (match x.window with
    | some w => s.setStack k { x with window := some { w with offline := false } }
    | none => s)

/-- The outcome of training a channel (06 R210 to R212, Table 4, Table 5): pins that are on a spare stay there; the spare data lane of the channel's
pair takes the first failed or flagged pin, whose stored symbols are then wrong until the background rewrite; a failed command lane takes the
channel's spare; what is left over covers a pseudo-channel by ECC or fails the stack. (log 35, DESIGN CHOICE) -/
def Stack.train (x : Stack) (ch : Nat) (bad : List Nat) (cmdOk : Bool) : Stack :=
  let pair := ch / 2
  let side := 72 * (ch % 2)
  let loose := fun (p : Nat) => !x.dataSpares.contains (pair, side + p)
  let flagged := (x.flagged.filter (fun p => p.1 == ch)).map (·.2)
  let want := (bad ++ flagged.filter (fun p => !bad.contains p)).filter loose
  let take := if x.dataSpares.any (fun p => p.1 == pair) then [] else want.take 1
  let left := bad.filter (fun p => !take.contains p)
  let inPc := fun (h : Nat) => left.filter (fun p => p / 36 == h)
  let cmdSpare := x.cmdSpares.contains ch
  let failed := decide (2 ≤ (inPc 0).length ∨ 2 ≤ (inPc 1).length) || (!cmdOk && cmdSpare)
  let at_ := fun (p : Nat) => (2 * ch + p / 36, p % 36)
  { x with dataSpares := x.dataSpares ++ take.map (fun p => (pair, side + p)), cmdSpares := if cmdOk || cmdSpare then x.cmdSpares else x.cmdSpares ++ [ch]
           eccCovered := x.eccCovered.filter (fun p => p.1 / 2 != ch) ++ (if failed then [] else left.map at_)
           rewriting := x.rewriting ++ take.map at_, flagged := x.flagged.filter (fun p => !(p.1 == ch && take.contains p.2))
           pinCounts := take.foldl (fun t p => tset 0 t (128 * ch + p) 0) x.pinCounts
           stamps := x.stamps.set ch x.temp, state := if failed then .failed else x.state }

/-- What the device makes of a channel that it has trained (06 R211; 11 R404, R418): the score follows the ECC-covered pseudo-channels, spares are
reported as consumed, and a stack that fails is reported with its channel and puts the device in FAULT; the codes are left open. (log 11, DESIGN CHOICE) -/
def State.trainChannel (s : State) (k ch : Nat) (bad : List Nat) (cmdOk : Bool) : State :=
  let x := s.stack k
  let y := x.train ch bad cmdOk
  let s := s.setStack k y
  let s := if y.dataSpares.length + y.cmdSpares.length = x.dataSpares.length + x.cmdSpares.length then s else s.spareUsed
  let was := x.eccCovered.map (·.1)
  let now := y.eccCovered.map (·.1)
  let s := s.each (was.filter (fun p => !now.contains p)) (fun s p => s.undeduct (3 + 256 * (64 * k + p)))
  let s := s.each (now.filter (fun p => !was.contains p)) (fun s p => s.deduct (3 + 256 * (64 * k + p)) 100 false)
  if y.state = .failed then
    let f := s.takeFree
    let g := (f.2.event (openCode f.1) 0x4001 (32 * k + ch)).takeFree
    g.2.enterFault (openCode g.1)
  else s

/-- RETRAIN_COMPLETE (06 R214): the new lane map takes effect, the stamp is written, and a changed map starts the background rewrite;
`ok` says that every command lane passed. -/
def execRetrainComplete (k : Fin 12) (badPins : List (Fin 72)) (ok : Bool) (s : State) : Host.Outcome State Fault Refusal :=
  .next (match (s.stack k).window with
    | some w =>
      if w.offline || w.complete then s
      else ((s.modStack k (fun x => { x with window := some { w with complete := true } })).bump 0x4004 1 1).trainChannel k w.chan (badPins.map (·.val)) ok
    | none => s)

/-- RETRAIN_WINDOW_CLOSE. -/
def execRetrainWindowClose (k : Fin 12) (s : State) : Host.Outcome State Fault Refusal :=
  let x := s.stack k
  .next (match x.window with
    | some w => if w.complete then s.setStack k { x with window := none, state := if x.state = .retrain then .active else x.state } else s
    | none => s)

/-- LANE_REWRITE_COMPLETE (06 R212). -/
def execLaneRewriteComplete (k : Fin 12) (pc : Fin 64) (s : State) : Host.Outcome State Fault Refusal :=
  .next (s.modStack k (fun x => { x with rewriting := x.rewriting.filter (fun p => p.1 != pc.val) }))

/-! ## TEST and the traffic generator (06 R216 to R218) -/

/-- Whether the generator runs on a stack. -/
def State.generatorOn (s : State) (k : Nat) : Bool := s.mem.tgState == 1 && s.objGet 0x4020 0 == k

/-- STACK_ENTER_TEST: object 0x4001.k = 3, in IDLE; a retraining window is aborted. -/
def execStackEnterTest (k : Fin 12) (s : State) : Host.Outcome State Fault Refusal :=
  .next (s.objectRow 0x4001 k (fun s =>
    (if s.dev.state ≠ .idle then s.reply 0x4001 k 0x0203
      else if (s.stack k).state = .failed then s.reply 0x4001 k 0x0205
      else (s.modStack k (fun x => { x with state := .test, window := none })).reply 0x4001 k 0)))

/-- STACK_LEAVE_TEST: object 0x4001.k = 0 starts the zero fill (06 R216); while the traffic generator runs on the stack the write is refused with 0x0206,
which the spec does not say. (log 6, DESIGN CHOICE) -/
def execStackLeaveTest (k : Fin 12) (s : State) : Host.Outcome State Fault Refusal :=
  .next (s.objectRow 0x4001 k (fun s =>
    (if s.dev.state ≠ .idle then s.reply 0x4001 k 0x0203
      else if s.generatorOn k then s.reply 0x4001 k 0x0206
      else match (s.stack k).state with
        | .test => (s.modStack k (fun x => { x with zeroFilling := true })).reply 0x4001 k 0
        | .failed => s.reply 0x4001 k 0x0205
        | _ => s.reply 0x4001 k 0)))

/-- Drop what the windows of a stack hold: bytes, what the Tun and the adders hold of them, errors, and poison when asked. -/
def State.dropStack (s : State) (k : Nat) (poison : Bool) : State :=
  let here := fun a => s.mapped a == some (Home.hbm k)
  let s := s.each ((vget s.mem.comb (k / 3) []).filter (fun (e : CombEntry) => here (64 * e.line))) (fun s e => s.dropEntry (k / 3) e.line)
  s.modMem (fun m => { m with
    cells := m.cells.filter (fun c => !here c.1), poison := if poison then m.poison.filter (fun l => !here (64 * l)) else m.poison
    adder := m.adder.filter (fun l => !here (64 * l)), errors := m.errors.filter (fun e => !here (64 * e.1)), hidden := m.hidden.filter (fun l => !here (64 * l))
    cache := vmod m.cache (k / 3) (fun l => l.filter (fun (c : CacheLine) => !here (64 * c.line))) })

/-- Drop what the cellar region in the tail of a stack holds (06 R195, 11 R399). -/
def State.dropTail (s : State) (k : Nat) : State :=
  let s := s.modMem (fun m => { m with errors := m.errors.filter (fun e => s.tailStack e.1 != some k) })
  { s with rack := { s.rack with payload := s.rack.payload.filter (fun c => c.1 / 2 ^ 34 % 12 != k)
                                 payloadPoison := s.rack.payloadPoison.filter (fun l => l / 2 ^ 28 % 12 != k)
                                 hdrs := s.rack.hdrs.filter (fun x => x.1 % 12 != k)
                                 sealedStacks := s.rack.sealedStacks &&& ~~~(BitVec.twoPow 12 k) } }

/-- STACK_ZERO_FILL_COMPLETE: every line reads zero with clean codes, and the stack is ACTIVE. -/
def execStackZeroFillComplete (k : Fin 12) (s : State) : Host.Outcome State Fault Refusal :=
  .next (if (s.stack k).zeroFilling && (s.stack k).state == .test then
      ((s.modStack k (fun x => { x with zeroFilling := false, state := .active, fill := 0 })).dropStack k true).dropTail k
    else s)

/-- Contents of a stack's windows that nothing fixes from now on: free bytes under a fresh tag (06 R196, R216). (log 14, DESIGN CHOICE) -/
def State.freshStack (s : State) (k : Nat) : State :=
  let t := s.mem.fillNext
  ((s.modStack k (fun x => { x with fill := t })).modMem (fun m => { m with fillNext := t + 1 })).dropStack k false

/-- TRAFFIC_GENERATOR_START: the stack must be in TEST. -/
def execTrafficGeneratorStart (s : State) : Host.Outcome State Fault Refusal :=
  .next (s.objectRow 0x4020 9 (fun s =>
    let k := s.objGet 0x4020 0
    (if s.mem.tgState = 1 then s.reply 0x4020 9 0x0206
      else if (s.stack k).state ≠ .test ∨ (s.stack k).zeroFilling = true then s.reply 0x4020 9 0x0205
      else (((s.modMem (fun m => { m with tgState := 1, tgRes := [] })).freshStack k).dropTail k).reply 0x4020 9 0)))

/-- TRAFFIC_GENERATOR_STOP. -/
def execTrafficGeneratorStop (s : State) : Host.Outcome State Fault Refusal :=
  .next (s.objectRow 0x4020 9 (fun s =>
    ((if s.mem.tgState = 1 then s.modMem (fun m => { m with tgState := 3 }) else s).reply 0x4020 9 0)))

/-- TRAFFIC_GENERATOR_DONE (06 R218): the rate and the checker's records of the pseudo-channels in the mask, of a run that ended or that was
stopped. -/
def execTrafficGeneratorDone (rate : BitVec 32) (results : List (List Byte)) (s : State) : Host.Outcome State Fault Refusal :=
  .next (if s.mem.tgState = 1 ∨ (s.mem.tgState = 3 ∧ s.mem.tgRes.isEmpty = true) then
      let mask := s.objGet 0x4020 1
      s.modMem (fun m => { m with tgState := if m.tgState = 1 then 2 else 3, tgRate := rate
                                  tgRes := ((results.take 64).zipIdx.filter (fun r => mask.testBit r.2)).map (fun r => (r.2, r.1)) })
    else s)

/-- STACK_SELF_REFRESH_ENTRY (14 R488): an ACTIVE stack with no window open. -/
def execStackSelfRefreshEntry (k : Fin 12) (s : State) : Host.Outcome State Fault Refusal :=
  .next (s.modStack k (fun x => if x.state = .active ∧ x.window = none then { x with state := .selfRefresh } else x))

/-- STACK_WAKE (14 R489). -/
def execStackWake (k : Fin 12) (s : State) : Host.Outcome State Fault Refusal := .next (s.wakeStack k)

/-! ## Tun modes (06 R226) -/

/-- A write to object 0x4010: IDLE and RUN only; T31 and mode 3 are out of range; the mode the slice has changes nothing. -/
def State.tunModeWrite (s : State) (q t mode : Nat) : State × Nat :=
  if s.dev.state ≠ .idle ∧ s.dev.state ≠ .run then (s, 0x0205)
  else if t = 31 ∨ 2 < mode then (s, 0x0201)
  else if vget s.mem.tunMode (32 * q + t) 0 = mode ∧ (vget s.mem.tunSwitch q []).all (fun x => x.1 != t) then (s, 0)
  else (s.modMem (fun m => { m with tunSwitch := vmod m.tunSwitch q (fun l => l ++ [(t, mode)]) }), 0)

/-- TUN_MODE_WRITE (06 R226). -/
def execTunModeWrite (q : Fin 4) (t : Fin 32) (mode : BitVec 8) (s : State) : Host.Outcome State Fault Refusal :=
  .next (s.objectRow 0x4010 (32 * q + t) (fun s =>
    let r := s.tunModeWrite q t mode.toNat
    (r.1.reply 0x4010 (32 * q + t) r.2)))

/-- First address of a scratchpad slice (06 Table 1). -/
def scratchBase (q t : Nat) : Nat := 0x30000000000 + q * 2 ^ 28 + t * 2 ^ 23

/-- Flush every combining entry of a quarter (06 R224). (log 33, DESIGN CHOICE) -/
def State.flushAll (s : State) (q : Nat) : State := s.each (vget s.mem.comb q []) (fun s (e : CombEntry) => s.flushEntry q e.line)

/-- Write back and invalidate the cache slices of a quarter. -/
def State.dropCache (s : State) (q : Nat) : State := s.each (vget s.mem.cache q []) (fun s (x : CacheLine) => s.evict q x.line)

/-- Empty a scratchpad slice: zero-filled on entry, lost on leaving (06 R222). -/
def State.clearScratch (s : State) (q t : Nat) : State :=
  let lo := scratchBase q t
  let hi := lo + 6 * MiB
  s.modMem (fun m => { m with cells := mclear m.cells lo hi, poison := m.poison.filter (fun l => decide (64 * l < lo ∨ hi ≤ 64 * l)) })

/-- TUN_MODE_SWITCH_COMPLETE: the actions of 06 Table 8 and the new arrangement. -/
def execTunModeSwitchComplete (q : Fin 4) (s : State) : Host.Outcome State Fault Refusal :=
  .next (match vget s.mem.tunSwitch q [] with
    | [] => s
    | (t, mode) :: r =>
      let old := vget s.mem.tunMode (32 * q + t) 0
      let s := if old = mode then s else if old = 0 then s.dropCache q else if old = 1 then s.flushAll q else s.clearScratch q t
      let s := s.modMem (fun m => { m with tunSwitch := vset m.tunSwitch q r, tunMode := vset m.tunMode (32 * q + t) mode })
      if mode = 2 ∧ old ≠ 2 then s.clearScratch q t else s)

/-- COMBINING_IDLE_FLUSH (06 R224); it waits for a channel that is offline. -/
def execCombiningIdleFlush (q : Fin 4) (line : BitVec 36) (s : State) : Host.Outcome State Fault Refusal :=
  .next (if (s.combEntry q line.toNat).isSome then s.access (.combiningIdleFlush q line) [line.toNat] s.channelOf (fun s => s.flushEntry q line.toNat) else s)

/-- TUN_SLICE_SLEEP (14 R488): T0 to T30, and no slice that holds a combining entry. -/
def execTunSliceSleep (q : Fin 4) (t : Fin 32) (s : State) : Host.Outcome State Fault Refusal :=
  let entries := vget s.mem.tunMode (32 * q + t) 0 == 1 && (vget s.mem.comb q []).any (fun (e : CombEntry) => s.combSlice q e.line == t.val)
  .next (if t.val = 31 ∨ entries = true then s else s.modMem (fun m => { m with tunAsleep := sadd m.tunAsleep (32 * q + t) }))

/-- TUN_SLICE_WAKE. -/
def execTunSliceWake (q : Fin 4) (t : Fin 32) (s : State) : Host.Outcome State Fault Refusal :=
  .next (s.modMem (fun m => { m with tunAsleep := sdel m.tunAsleep (32 * q + t) }))

/-! ## BAR2 (12 R429) -/

/-- Whether every byte of a range is assigned. -/
def State.assigned (s : State) (a n : Nat) : Bool :=
  (List.range (ceilDiv (a % 64 + n) 64)).all (fun i => (s.home (64 * (a / 64 + i))).isSome)

/-- The local address that a BAR2 offset reaches. -/
def State.barAddr (s : State) (off : Word) : Nat := s.objGet 0x1020 1 + off.toNat

/-- BAR2_READ: a poisoned line completes with EP set, counted; an unassigned address completes as an Unsupported Request. Errors that have arisen in
memory by then are met. -/
def execBar2Read (off : Word) (len : BitVec 13) (arisen : List MemError) (s : State) : Host.Outcome State Fault Refusal :=
  let a := s.barAddr off
  let s := s.arise arisen
  .next (if !s.host.linkUp then s
    else if !s.assigned a len.toNat then s.emit (.barRead [] false true)
    else s.access (.bar2Read off len []) (linesIn a len.toNat) s.missChan (fun s =>
      let s := s.touchRange a len.toNat
      let bad := s.viewPoison a len.toNat
      (if bad then s.bump 0x4002 5 1 else s).emit (.barRead (s.view a len.toNat) bad false)))

/-- BAR2_WRITE: EP poisons every line touched; a write in an input window of the gated job is recorded; a write to an unassigned
address is discarded, counted and reported. -/
def execBar2Write (off : Word) (data : List Byte) (ep : Bool) (s : State) : Host.Outcome State Fault Refusal :=
  let a := s.barAddr off
  let n := data.length
  .next (if !s.host.linkUp ∨ n = 0 then s
    else if !s.assigned a n then ((s.bump 0x1020 4 1).aerReport 20).emit (.unsupported off.toNat)
    else s.access (.bar2Write off data ep) (linesIn a n) (fun ln => s.writeChan ln (bytesIn a n ln)) (fun s =>
      (if ep then s.aerReport 12 else s).hostLines (linesIn a n) (fun s ln => s.hostLine ln (lineFrom a data ln) (bytesIn a n ln) ep)))

end Sys2Proof.Machine
end

