-- ==== Sys2Proof/Machine/SyncCmd.lean ====
section
/-! DEFINITION. The stream commands that assign counters, barriers and device groups (09 R310, R318 to R320; 12 Table 6) and the local audit
(09 R344). -/

namespace Sys2Proof.Machine

/-- The lowest free counter block. -/
def State.lowestFree (s : State) : Option Nat := (List.range 256).find? (fun b => s.blockOwner b == 0xFF)

/-- Assign a block: every counter reads 0 with its flags clear (09 R310). -/
def State.assignBlock (s : State) (b j : Nat) : State :=
  let s := s.setBlockOwner b j
  { s with sync := { s.sync with counters := s.sync.counters.filter (fun c => c.1 / 256 ≠ b) } }

/-- SYNC_ALLOC with OP 0; an OP above 1 is a value outside Table 6. -/
def execSyncAllocAssign (i : Fin 64) (s : State) : Host.Outcome State Fault Refusal :=
  .next (s.startCmd i (fun b => recNat b 0 1 == 0x09 && recNat b 16 1 != 1) [(16, 17), (18, 20)] (fun s job b _ =>
    let op := recNat b 16 1
    let n := recNat b 18 2
    let pick := if n = 0xFFFF then s.lowestFree else if s.blockOwner n = 0xFF then some n else none
    { codes := codes [(decide (op ≠ 0) || decide (255 < n ∧ n ≠ 0xFFFF), 0x0303), (pick.isNone, 0x0307)]
      eff := fun s => match pick with
        | some b => (s.assignBlock b job, b)
        | none => (s, 0) }))

/-- Orphan one block, unless it is orphaned already, and free it (12 Table 6). -/
def State.freeBlock (s : State) (b : Nat) : State :=
  let n := if s.blockOwner b = 0xFE then 0 else 1
  let s := ((s.setBlockOwner b 0xFE).orphanBlock b).bump 0x5040 7 n
  let s := s.setBlockOwner b 0xFF
  { s with sync := { s.sync with orphanOf := tdel s.sync.orphanOf b } }

/-- SYNC_ALLOC with OP 1: the job must own the block (09 R310). -/
def execSyncAllocFree (i : Fin 64) (s : State) : Host.Outcome State Fault Refusal :=
  .next (s.startCmd i (fun b => recNat b 0 1 == 0x09 && recNat b 16 1 == 1) [(16, 17), (18, 20)] (fun s job b _ =>
    let n := recNat b 18 2
    let own := s.blockOwner n == job || (s.blockOwner n == 0xFE && tget 8 s.sync.orphanOf n == job)
    { codes := codes [(decide (255 < n), 0x0303), (!own, 0x0306)], eff := fun s => (s.freeBlock n, n) }))

/-- Codes of a barrier configuration record (09 Table 2). -/
def barrierRecordCodes (r : List Byte) : List Nat :=
  let kind := recNat r 18 1
  codes [(!recZero r 20 32 || decide (1 < kind), 0x0302), (decide (recNat r 0 18 = 0) || decide (kind = 0 ∧ recNat r 19 1 ≠ 0), 0x0303)]

/-- Whether an arrival is pending on a slot. -/
def Slot.arrivals (x : Slot) : Bool := x.arrived != 0 || x.next != 0 || !x.kids.isEmpty

/-- The codes of 09 R320 for configuring a slot. -/
def State.slotCodes (s : State) (n job : Nat) : List Nat :=
  let x := s.slot n
  match x.state with
  | .free => []
  | .opened => if s.slotOwner n ≠ job then [0x0306] else if x.arrivals then [0x0308] else []
  | _ => [0x0308]

/-- BARRIER_SETUP with OP 0 (09 R320): the phase number restarts at 0 with no arrival. -/
def execBarrierSetupConfigure (i : Fin 64) (s : State) : Host.Outcome State Fault Refusal :=
  .next (s.startCmd i (fun b => recNat b 0 1 == 0x0A && recNat b 16 1 != 1) [(16, 18), (24, 32)] (fun s job b _ =>
    let n := recNat b 17 1
    let g := recNat b 24 8
    let r := s.recordAt g 32
    let a := s.addrCodes g 32 32
    { codes := (if recNat b 16 1 ≠ 0 then [0x0303] else []) ++ a ++ (if a.isEmpty then barrierRecordCodes r else []) ++ s.slotCodes n job
      poison := s.recordPoison g 32 32
      eff := fun s =>
        let x : Slot := { Slot.reset with state := .opened, mask := BitVec.ofNat 144 (recNat r 0 18), group := recNat r 18 1 == 1, axes := BitVec.ofNat 8 (recNat r 19 1) }
        ((s.setSlot n x).setSlotOwner n job, n) }))

/-- Orphan a slot, telling its tree neighbours, and free it (12 Table 6, 09 R324). -/
def State.freeSlot (s : State) (n job : Nat) : State :=
  let x := s.slot n
  let s := if x.group && x.state != .orphaned then s.syncNeighbours job n 2 0 x none else s
  let s := ((s.orphanWaiters n).bump 0x5040 7 (if x.state = .orphaned then 0 else 1)).setSlot n Slot.reset
  let s := s.setSlotOwner n 0xFF
  { s with sync := { s.sync with orphanOf := tdel s.sync.orphanOf (256 + n) } }

/-- BARRIER_SETUP with OP 1. -/
def execBarrierSetupFree (i : Fin 64) (s : State) : Host.Outcome State Fault Refusal :=
  .next (s.startCmd i (fun b => recNat b 0 1 == 0x0A && recNat b 16 1 == 1) [(16, 18)] (fun s job b _ =>
    let n := recNat b 17 1
    let own := s.slotOwner n == job || (s.slotOwner n == 0xFE && tget 8 s.sync.orphanOf (256 + n) == job)
    { codes := codes [(!own, 0x0306)], eff := fun s => (s.freeSlot n job, n) }))

/-- A device-group table from its 128 bytes (09 Table 1). -/
def groupTableOf (r : List Byte) : GroupTable :=
  { axes := (List.range 8).map (fun a => (recNat r (8 * a) 4, recNat r (8 * a + 4) 4)), grid := recNat r 64 8, g := recNat r 76 4 }

/-- Whether a device-group table is rejected with 0x0309 (09 R318, R319). -/
def State.groupTableBad (s : State) (r : List Byte) : Bool :=
  let t := groupTableOf r
  let pos := t.posOf t.rank
  let bad := t.axes.any (fun a => a.1 == 0 || decide (a.1 ≤ a.2)) || t.size (List.range 8) != t.g || decide (t.g < 1 ∨ 131072 < t.g) ||
    !recZero r 72 76 || !recZero r 80 128
  bad || (match s.ep with
    | none => t.g != 1
    | some e =>
      decide (t.grid % 64 ≠ 0) || decide (2 ^ 41 ≤ t.grid) || !s.inOneWindow t.grid (4 * t.g) || s.viewPoison (t.grid + 4 * pos) 4 ||
      leNat (s.view (t.grid + 4 * pos) 4) != e.toNat)

/-- JOB_SETUP (09 R319): an EXPELLED device rejects it (11 R421). -/
def execJobSetup (i : Fin 64) (s : State) : Host.Outcome State Fault Refusal :=
  .next (s.startCmd i (fun b => recNat b 0 1 == 0x08) [(16, 24)] (fun s job b _ =>
    let g := recNat b 16 8
    let r := s.recordAt g 128
    let a := s.addrCodes g 128 64
    { codes := a ++ (if a.isEmpty && s.groupTableBad r then [0x0309] else []) ++ (if s.objGet 0x6050 4 = 3 then [0x0B02] else [])
      poison := s.recordPoison g 128 64
      eff := fun s =>
        (s.modJob job (fun x => { x with table := groupTableOf r, fresh := true }), 0) }))

/-! ## The local audit (09 R343, R344) -/

/-- DMA descriptors queued and running (object 0x5060.8). -/
def State.dmaBusy (s : State) : Nat :=
  (s.cores.toList.map (fun (x : Core) => (x.dma.toList.map (fun (e : DmaEngine) => e.queue.length + e.running.length)).sum)).sum

/-- Lines in the buffer of the adder that serves a line (06 R230). -/
def State.adderUse (s : State) (ln : Nat) : Nat :=
  (s.mem.adder.filter (fun l => s.mapped (64 * l) == s.mapped (64 * ln) && pcOf l == pcOf ln)).length

/-- Row `i` of 09 Table 8 fails; row 0 is the header. Row 1 is the credit audit of every link (08 R307). -/
def State.auditRow (s : State) (i : Nat) : Bool :=
  let o := fun m => s.objGet 0x5060 m
  match i with
  | 1 => s.auditedPorts.any (fun p => !(s.port p).auditPasses)
  | 2 => !s.fabric.windows.isEmpty || o 0 != o 1 + (s.fabric.windows.map (·.2)).sum
  | 3 => s.objGet 0x4012 6 != s.objGet 0x4012 7 + (s.mem.comb.toList.map List.length).sum ||
      (List.range 4).any (fun q => decide (81920 * s.slicesIn q 1 < (vget s.mem.comb q []).length))
  | 4 => s.fabric.ports.toList.any (fun (p : Port) => p.rxUsed.toList.any (fun n => decide (160 < n))) ||
      s.cores.toList.any (fun (x : Core) => x.dma.toList.any (fun (e : DmaEngine) => decide (16 < e.queue.length ∨ 4 < e.running.length))) ||
      decide (32 < s.coll.queue.length ∨ 8 < s.coll.running.length) || s.mem.adder.any (fun l => decide (32 < s.adderUse l))
  | 5 => s.objGet 0x5040 2 != s.objGet 0x5040 3 + s.objGet 0x5040 4
  | 6 => o 2 != o 3 + s.objGet 0x5030 6 + s.fabric.requests.length
  | 7 => o 4 != o 5
  | 8 => s.objGet 0x4030 0 != s.objGet 0x4030 1 + s.objGet 0x4030 2
  | 9 => s.objGet 0x4040 0 != o 6 + o 7 + s.dmaBusy || o 9 != s.sync.dmaSignals
  | _ => false

/-- A write of 1 to object 0x5060.11: accepted only while DRAINED with no descriptor queued or running (09 R344). -/
def execAuditRun (s : State) : Host.Outcome State Fault Refusal :=
  .next (s.objectRow 0x5060 11 (fun s =>
    let busy := s.dmaBusy != 0 || s.kiln.units.toList.any (fun u => !u.parts.isEmpty) || !s.coll.queue.isEmpty || !s.coll.running.isEmpty
    (if s.fabric.sparge ≠ .drained ∨ busy = true then s.reply 0x5060 11 0x0205
      else
        let r := (List.range 10).foldl (fun acc i => if s.auditRow i then acc + 2 ^ i else acc) 0
        let s := s.each s.auditedPorts State.creditAudit
        let s := (s.objSet 0x5060 12 r).reply 0x5060 11 0
        if r = 0 then s else (s.eventOpen 0x5060).deduct 9 300 true)))

end Sys2Proof.Machine
end

