-- ==== Sys2Proof/Machine/Coll.lean ====
section
/-! DEFINITION. The collective engines (09 R327 to R342): descriptors, the ring steps of a reduction and of its all-gather, ES128, the
COLL packets, completion, and the INPUT records that a local run takes from the ledger (10 R371). -/

namespace Sys2Proof.Machine

/-! ## ES128 (09 R333, R334) -/

/-- An exact partial sum on the wire, with its count's saturation. -/
structure Es128 where
  win : Win
  ksat : Bool
  deriving DecidableEq, Repr

def Es128.ofBits (v : Nat) : Es128 := { win := Win.ofXa80 v, ksat := v.testBit 126 }

def Es128.bits (x : Es128) : Nat := x.win.xa80 + (if x.ksat then 2 ^ 126 else 0)

/-- Exponent of the window's least significant bit: a saturated count takes g = 48. -/
def Es128.lam (x : Es128) : Int := if x.ksat then x.win.a + 48 - 78 else x.win.lam

/-- The value, as the flags and the window give it. -/
def Es128.val (x : Es128) : FVal :=
  if x.win.nan || (x.win.pinf && x.win.ninf) then .nan
  else if x.win.pinf then .inf false
  else if x.win.ninf then .inf true
  else .ofInt x.win.w x.lam

/-- Combine values with the saturating count; the flag says that the window would not fit. -/
def Es128.combine (parts : List Es128) : Es128 × Bool :=
  let ps := parts.filter (fun p => p.win.k != 0)
  let k := (ps.map (·.win.k)).sum
  let sat := decide (2 ^ 32 - 1 < k) || ps.any (·.ksat)
  let a := ps.foldl (fun a p => max a p.win.a) (-512)
  let k' := min k (2 ^ 32 - 1)
  let q := if sat then a + 48 - 78 else Machine.lam a k'
  let rs := ps.map (fun p => truncTo p.win.w p.lam q)
  let w := rs.foldl (fun s r => s + r.1) 0
  let ok := decide (-(2 ^ 79 : Int) ≤ w ∧ w < 2 ^ 79)
  ({ win := { w := if ok then w else 0, a := a, k := if sat then 2 ^ 32 - 1 else k', nan := ps.any (·.win.nan) || !ok
              pinf := ps.any (·.win.pinf), ninf := ps.any (·.win.ninf), spill := ps.any (·.win.spill) || rs.any (·.2) }
     ksat := sat }, !ok)

/-! ## Descriptors (09 R328, R329) -/

/-- A descriptor from its 64 bytes. -/
def collDescOf (r : List Byte) (job stream : Nat) (command : BitVec 32) : CollDesc :=
  let m := recNat r 5 1
  { op := recNat r 0 1, inFmt := recNat r 1 1, wire := recNat r 2 1, outFmt := recNat r 3 1, axes := BitVec.ofNat 8 (recNat r 4 1)
    rnd := m % 4, locality := m / 4 % 4, waitEn := m.testBit 4, doneEn := m.testBit 5, phase := BitVec.ofNat 16 (recNat r 6 2)
    src := recNat r 8 8, dst := recNat r 16 8, count := recNat r 24 8, elemBase := BitVec.ofNat 64 (recNat r 32 8)
    tensorId := BitVec.ofNat 32 (recNat r 40 4), opid := BitVec.ofNat 32 (recNat r 44 4), waitCounter := BitVec.ofNat 16 (recNat r 48 2)
    doneCounter := BitVec.ofNat 16 (recNat r 50 2), waitValue := BitVec.ofNat 32 (recNat r 52 4), doneInc := sint 32 (recNat r 56 4)
    job := job, stream := stream, command := command }

/-- Whether OP and the formats are a combination of 09 R328, R329, R335, R336. -/
def CollDesc.formatsOk (d : CollDesc) : Bool :=
  let i := d.inFmt
  let o := d.outFmt
  match d.op with
  | 2 => d.wire == 0 && i == o && (i == 0 || i == 1 || i == 2 || i == 3 || i == 7)
  | 3 => i == 7 && d.wire == 3 && o == 7 && d.count == 1 && d.src == 0 && d.dst == 0
  | 4 => i == 0 && o == 0 && d.wire == 0
  | _ => decide (d.op < 2) && (match d.wire with
    | 0 => (i == 0 || i == 1) && (o == 0 || o == 1)
    | 1 => i == 1 && o == 1
    | 2 => i == 3 && o == 3
    | 3 => (i == 7 || i == 0 || i == 1) && (o == 0 || o == 1 || o == 7)
    | _ => false)

/-- A chunk of a range (09 R330). -/
def collChunk (lo hi p c : Nat) : Nat × Nat :=
  let n := ceilDiv (hi - lo) p
  (lo + min (c * n) (hi - lo), lo + min ((c + 1) * n) (hi - lo))

/-- The owned range of a device (09 R330). -/
def CollDesc.owned (d : CollDesc) (t : GroupTable) : Nat × Nat :=
  (axesOf d.axes).foldl (fun r a => collChunk r.1 r.2 (t.p a) (t.rank a)) (0, d.count)

/-- Offset of the indices of MAX_INDEX behind its values (09 R336). -/
def indexOff (n : Nat) : Nat := ceilDiv (4 * n) 64 * 64

/-- Byte ranges that a descriptor reads and writes. -/
def CollDesc.spans (d : CollDesc) (t : GroupTable) : List (Nat × Nat) :=
  let o := d.owned t
  let ib := typeBytes d.inFmt
  let ob := typeBytes d.outFmt
  match d.op with
  | 3 => []
  | 4 => [(d.src, indexOff d.count + 4 * d.count), (d.dst, indexOff d.count + 8 * d.count)]
  | 2 => [(d.src + ib * o.1, ib * (o.2 - o.1)), (d.dst, ob * d.count)]
  | 1 => [(d.src, ib * d.count), (d.dst, ob * (o.2 - o.1))]
  | _ => [(d.src, ib * d.count), (d.dst, ob * d.count)]

/-- The codes that reject a descriptor; an OPID of the Escapement's is reserved (10 R362, R12). -/
def State.collCodes (s : State) (d : CollDesc) (r : List Byte) : List Nat :=
  let t := (s.job d.job).table
  let bad := !recZero r 60 64 || decide (64 ≤ recNat r 5 1) || decide (4 < d.op ∨ 3 < d.wire ∨ d.rnd = 3 ∨ d.locality = 3) || d.axes == 0 ||
    decide (d.count = 0 ∨ 2 ^ 40 < d.count ∨ d.src % 64 ≠ 0 ∨ d.dst % 64 ≠ 0 ∨ 2 ^ 42 ≤ d.src ∨ 2 ^ 42 ≤ d.dst) ||
    decide (d.doneInc = -(2 ^ 31)) || decide (0xFFFF0000 ≤ d.opid.toNat) || !d.formatsOk || s.coll.queue.any (fun (x : CollDesc) => x.job == d.job && x.opid == d.opid) ||
    s.coll.running.any (fun (x : CollRun) => x.desc.job == d.job && x.desc.opid == d.opid)
  codes [(bad || !(d.spans t).all (fun x => s.inOneWindow x.1 x.2), 0x030B),
    ((d.waitEn && s.counterOwner d.waitCounter.toNat != d.job) || (d.doneEn && s.counterOwner d.doneCounter.toNat != d.job), 0x0306)]

/-- COLLECTIVE (09 R327, R328): a command that finds 32 descriptors queued waits. -/
def execCollective (i : Fin 64) (s : State) : Host.Outcome State Fault Refusal :=
  .next (if 32 ≤ s.coll.queue.length then s
    else s.startCmd i (fun b => recNat b 0 1 == 0x13) [(16, 24)] (fun s job b n =>
      let g := recNat b 16 8
      let r := s.recordAt g 64
      let a := s.addrCodes g 64 64
      let d := collDescOf r job i n.count
      { codes := a ++ (if a.isEmpty then s.collCodes d r else [])
        poison := s.recordPoison g 64 64
        eff := fun s => ({ s with coll := { s.coll with queue := s.coll.queue ++ [d], ended := s.coll.ended.filter (· != d.opid) } }, 0) }))

/-! ## Ring steps (09 R330, R331, R337) -/

/-- What one device sends on an axis step one way: chunk and half, in order. With two ranks both halves go to the one neighbour. -/
def sendPlan (p r : Nat) (gather plus : Bool) : List (Nat × Bool) :=
  if p ≤ 1 then []
  else if p = 2 then (if plus then [(if gather then r else 1 - r, true), (if gather then r else 1 - r, false)] else [])
  else (List.range (p - 1)).map (fun k =>
    let o := if gather then k else k + 1
    if plus then ((r + p - o) % p, true) else ((r + o) % p, false))

/-- What it receives: what the neighbour behind it sends. -/
def recvPlan (p r : Nat) (gather plus : Bool) : List (Nat × Bool) := sendPlan p ((if plus then r + p - 1 else r + 1) % p) gather plus

/-- The elements of a chunk half (09 R331). -/
def halfRange (lo hi p : Nat) (x : Nat × Bool) : Nat × Nat :=
  let c := collChunk lo hi p x.1
  let m := c.1 + ceilDiv (c.2 - c.1) 2
  if x.2 then (c.1, m) else (m, c.2)

/-- The axis step a run is in: axis, size, rank. -/
def State.ringAxis (s : State) (r : CollRun) : Option (Nat × Nat × Nat) := match r.steps with
  | [] => none
  | a :: _ => let t := (s.job r.desc.job).table; some (a, t.p a, t.rank a)

/-- Bytes of an element on the wire (09 R329, R332, R336). -/
def CollRun.wireBytes (r : CollRun) : Nat :=
  if r.desc.op = 4 then 16
  else if r.desc.op = 2 then typeBytes r.desc.inFmt
  else if r.gather then typeBytes r.desc.outFmt
  else match r.desc.wire with
    | 1 => 2
    | 3 => 16
    | _ => 4

/-- The lines that carry a range of elements, with their poison. -/
def CollRun.pack (r : CollRun) (x : Nat × Nat) : List (Line × Bool) :=
  let w := r.wireBytes
  let n := 64 / w
  let vs := ((r.vals.zip r.poisons).drop (x.1 - r.lo)).take (x.2 - x.1)
  (chunks n vs).map (fun c => (lineOf (c.flatMap (fun e => leBytes e.1.toNat w)), c.any (·.2)))

/-- How many lines a range takes. -/
def CollRun.linesOf (r : CollRun) (x : Nat × Nat) : Nat := ceilDiv ((x.2 - x.1) * r.wireBytes) 64

/-- How many items of a plan are whole in the first `n` lines. -/
def CollRun.whole (r : CollRun) (p : Nat) : List (Nat × Bool) → Nat → Nat
  | [], _ => 0
  | x :: l, n => let k := r.linesOf (halfRange r.lo r.hi p x); if k ≤ n then 1 + r.whole p l (n - k) else 0

/-- Lines of a plan. -/
def CollRun.planLines (r : CollRun) (p : Nat) (l : List (Nat × Bool)) : Nat := (l.map (fun x => r.linesOf (halfRange r.lo r.hi p x))).sum

/-- Whether the pair that has arrived comes from a lower rank than this device's own, as far as the ring order tells (09 R331, R336): the ranks that have
had a part in it are those before this one in the order of the item's chunk. None where ranks on both sides have. (log 48, DESIGN CHOICE) -/
def lowerRank (p rank : Nat) (x : Nat × Bool) : Option Bool :=
  if x.2 then (if x.1 < rank ∨ x.1 + 1 = p then some true else if rank = 0 then some false else none)
  else (if rank < x.1 ∨ x.1 = 0 then some false else if rank + 1 = p then some true else none)

/-- A pair of MAX_INDEX with the canonical NaN for a NaN (02 R38). -/
def nanPair (a : BitVec 128) : BitVec 128 :=
  if (f32 (a.toNat % 2 ^ 32)).isNan then BitVec.ofNat 128 (a.toNat / 2 ^ 32 * 2 ^ 32 + fp32.nanBits) else a

/-- The pair that wins of two (09 R336); `low` says that the first comes from the lower rank. A NaN is written as the canonical one (02 R38). -/
def maxPair (low : Bool) (a b : BitVec 128) : BitVec 128 :=
  let va := f32 (a.toNat % 2 ^ 32)
  let vb := f32 (b.toNat % 2 ^ 32)
  let ia := sint 64 (a.toNat / 2 ^ 64)
  let ib := sint 64 (b.toNat / 2 ^ 64)
  let byIdx := if ia < ib then a else if ib < ia then b else if low then a else b
  if va.isNan && vb.isNan then nanPair byIdx
  else if va.isNan then nanPair a
  else if vb.isNan then nanPair b
  else if vb.lt va then a
  else if va.lt vb then b
  else byIdx

/-- Add one wire value to the sum that arrived (09 R331); the flags count an ES128 window overflow, and tell an infinity made from finite terms (02 R59). -/
def collAdd (d : CollDesc) (low : Bool) (acc own : BitVec 128) : BitVec 128 × Bool × Bool :=
  if d.op = 4 then (maxPair low acc own, false, false)
  else match d.wire with
    | 0 => let r := fp32.round .rne ((f32 acc.toNat).add (f32 own.toNat)); (BitVec.ofNat 128 r.1, false, r.2)
    | 1 => let r := bf16.round .rne ((bf16.decode acc.toNat).add (bf16.decode own.toNat)); (BitVec.ofNat 128 r.1, false, r.2)
    | 2 => (BitVec.ofNat 128 ((acc.toNat + own.toNat) % 2 ^ 32), false, false)
    | _ => let r := Es128.combine [Es128.ofBits acc.toNat, Es128.ofBits own.toNat]; (BitVec.ofNat 128 r.1.bits, r.2, false)

/-- Replace a range of the values a run holds. -/
def CollRun.put (r : CollRun) (lo : Nat) (l : List (BitVec 128 × Bool)) : CollRun :=
  let k := lo - r.lo
  { r with vals := r.vals.take k ++ l.map (·.1) ++ r.vals.drop (k + l.length), poisons := r.poisons.take k ++ l.map (·.2) ++ r.poisons.drop (k + l.length) }

/-- Elements from the lines that carried them. -/
def CollRun.unpack (r : CollRun) (n : Nat) (l : List (Line × Bool)) : List (BitVec 128 × Bool) :=
  let w := r.wireBytes
  ((l.flatMap (fun x => (chunks w ((lineBytes x.1).take (64 / w * w))).map (fun b => (BitVec.ofNat 128 (leNat b), x.2))))).take n

/-- An item has arrived whole: combined with this device's values, or kept in an all-gather; the count is of window overflows, the flag tells an infinity
made from finite terms. The wire does not carry the rank that a pair of MAX_INDEX comes from (09 R336): where the ring order does not tell, a free value
decides a tie. -/
def CollRun.combineItem (r : CollRun) (p rank : Nat) (x : Nat × Bool) (lines : List (Line × Bool)) : CollRun × Nat × Bool :=
  let h := halfRange r.lo r.hi p x
  let got := r.unpack (h.2 - h.1) lines
  if r.gather then (r.put h.1 got, 0, false)
  else
    let own := ((r.vals.zip r.poisons).drop (h.1 - r.lo)).take (h.2 - h.1)
    let sums := (got.zip own).map (fun g =>
      (collAdd r.desc ((lowerRank p rank x).getD (Config.tieLow g.1.1 g.2.1)) g.1.1 g.2.1, g.1.2 || g.2.2))
    (r.put h.1 (sums.map (fun e => (e.1.1, e.2))), (sums.filter (fun e => e.1.2.1)).length, sums.any (fun e => e.1.2.2))

/-- Combine the items `k` onward up to `n` from the lines that have arrived. -/
def CollRun.combineItems (p rank : Nat) (lines : List (Line × Bool)) : List (Nat × Bool) → Nat → CollRun × Nat × Bool → CollRun × Nat × Bool
  | _, 0, r => r
  | [], _, r => r
  | x :: l, n + 1, (r, c, i) =>
    let k := r.linesOf (halfRange r.lo r.hi p x)
    let y := r.combineItem p rank x (lines.take k)
    CollRun.combineItems p rank (lines.drop k) l n (y.1, c + y.2.1, i || y.2.2)

/-! ## A running operation -/

def State.modCollRun (s : State) (job : Nat) (opid : BitVec 32) (f : CollRun → CollRun) : State :=
  { s with coll := { s.coll with running := s.coll.running.map (fun (r : CollRun) => if r.desc.job = job ∧ r.desc.opid = opid then f r else r) } }

/-- The running operation of a job with an OPID, which is distinct only within the job (09 R328). -/
def State.collRun (s : State) (job : Nat) (opid : BitVec 32) : Option CollRun :=
  s.coll.running.find? (fun (r : CollRun) => r.desc.job == job && r.desc.opid == opid)

/-- Bytes granted by a neighbour and not used. -/
def State.granted (s : State) (opid : BitVec 32) (e : BitVec 17) : Nat :=
  ((s.coll.grants.filter (fun g => g.1 == opid && g.2.1 == e)).map (·.2.2)).sum

def State.setGrant (s : State) (opid : BitVec 32) (e : BitVec 17) (n : Nat) : State :=
  { s with coll := { s.coll with grants := s.coll.grants.filter (fun g => g.1 != opid || g.2.1 != e) ++ (if n = 0 then [] else [(opid, e, n)]) } }

/-- Send what may go one way, against the neighbour's grants (09 R337); a local run needs none (10 R371). -/
def State.ringSend (s : State) (job : Nat) (opid : BitVec 32) (plus : Bool) : State := match s.collRun job opid with
  | none => s
  | some r => match s.ringAxis r with
    | none => s
    | some (a, p, rank) =>
      let plan := sendPlan p rank r.gather plus
      match s.ringEp (s.job r.desc.job).table a plus with
      | none => s
      | some e =>
        let got := r.whole p (recvPlan p rank r.gather plus) (if plus then r.rxPlus else r.rxMinus).length
        let items := if p = 2 then plan else plan.take (1 + got)
        let free := s.inLocalRun && r.desc.job == s.gatedJob && decide (opid.toNat < 0xFFFF0000)
        let sent := if plus then r.sentPlus else r.sentMinus
        let all := items.flatMap (fun x => r.pack (halfRange r.lo r.hi p x))
        let budget := if free then all.length else s.granted opid e / 64
        let go := (all.drop sent).take budget
        if go.isEmpty then s
        else
          let s := if free then s else s.setGrant opid e (s.granted opid e - 64 * go.length)
          let s := s.modCollRun r.desc.job opid (fun x => if plus then { x with sentPlus := sent + go.length } else { x with sentMinus := sent + go.length })
          s.each (chunks 4 go).zipIdx (fun s (x : List (Line × Bool) × Nat) =>
            s.sendColl r.desc.job r.desc.stream opid 0 (64 * (sent + 4 * x.2)) (x.1.map (·.1)) (x.1.map (·.2)) e)

/-- Grant buffer space to the neighbour that sends one way, 64 KiB at a time, at most 256 KiB outstanding (09 R337); the last grant of an axis step is
what is left, so that every grant is consumed (09 R339). (log 48, DESIGN CHOICE) -/
def State.ringGrant (s : State) (job : Nat) (opid : BitVec 32) (plus : Bool) : Nat → State
  | 0 => s
  | k + 1 => match s.collRun job opid with
    | none => s
    | some r => match s.ringAxis r with
      | none => s
      | some (a, p, rank) =>
        let total := 64 * r.planLines p (recvPlan p rank r.gather plus)
        let given := if plus then r.givenPlus else r.givenMinus
        let unit := min 65536 (total - given)
        if unit = 0 ∨ 262144 < given + unit - 64 * (if plus then r.rxPlus else r.rxMinus).length ∨ (s.inLocalRun = true ∧ r.desc.job = s.gatedJob ∧ opid.toNat < 0xFFFF0000) then s
        else match s.ringEp (s.job r.desc.job).table a (!plus) with
          | none => s
          | some e =>
            let s := s.modCollRun r.desc.job opid (fun x => if plus then { x with givenPlus := given + unit } else { x with givenMinus := given + unit })
            (s.sendColl r.desc.job r.desc.stream opid 1 unit [] [] e).ringGrant job opid plus k

/-- Whether an axis step is over: all received, all sent. -/
def State.ringDone (s : State) (r : CollRun) : Bool := match s.ringAxis r with
  | none => false
  | some (_, p, rank) => [false, true].all (fun d =>
      (if d then r.rxPlus else r.rxMinus).length == r.planLines p (recvPlan p rank r.gather d) &&
      (if d then r.sentPlus else r.sentMinus) == r.planLines p (sendPlan p rank r.gather d))

/-- The rounding mode of an output element (09 R332): SR in domain 4. -/
def State.collRnd (s : State) (d : CollDesc) (i : Nat) : Rnd := match d.rnd with
  | 0 => .rne
  | 1 => .rtz
  | _ => .sr (rand16 s.stepNumber.toNat s.salt d.tensorId.toNat d.phase.toNat 4 (d.elemBase.toNat + i))

/-- An element rounded to OUT_FORMAT (09 R332), a NaN as the canonical one also where no addition was made (02 R38); the flag says that a finite value has
become an infinity. -/
def State.collRoundOne (s : State) (d : CollDesc) (i : Nat) (x : BitVec 128) : BitVec 128 × Bool :=
  let m := s.collRnd d i
  let put := fun (r : Nat × Bool) => (BitVec.ofNat 128 r.1, r.2)
  let v := match d.wire with
    | 0 => f32 x.toNat
    | 1 => bf16.decode x.toNat
    | 3 => (Es128.ofBits x.toNat).val
    | _ => .nan
  if (d.wire = 0 ∨ d.wire = 3) ∧ d.outFmt = 1 then put (bf16.round m v)
  else if (d.wire = 0 ∨ d.wire = 3) ∧ d.outFmt = 0 then put (fp32.round m v)
  else if d.wire = 1 then put (bf16.round m v)
  else (x, false)

/-- The owned range rounded once to OUT_FORMAT (09 R332); whether an infinity was made from finite terms. -/
def State.collRound (s : State) (r : CollRun) : CollRun × Bool :=
  let d := r.desc
  if d.op = 2 ∨ d.op = 3 ∨ d.op = 4 then (r, false)
  else
    let y := r.vals.zipIdx.map (fun (x : BitVec 128 × Nat) => s.collRoundOne d (r.lo + x.2) x.1)
    ({ r with vals := y.map (·.1) }, y.any (·.2))

/-- An infinity that a collective of the gated job made from finite terms is reported to the gate of the output's quarter (02 R59). (log 48, DESIGN CHOICE) -/
def State.collReport (s : State) (d : CollDesc) (inf : Bool) : State :=
  s.infReport (((s.home d.dst).map Home.quarter).getD 0) d.job inf

/-- Elements of a range whose count has saturated. -/
def CollRun.ksats (r : CollRun) : Nat :=
  if r.desc.op = 2 ∨ r.desc.op = 4 ∨ r.desc.wire ≠ 3 then 0 else (r.vals.filter (fun v => v.getLsbD 126)).length

/-- An output element as memory holds it: an XA80 element with KSAT is written with NAN set (09 R334). -/
def outXa80 (v : Nat) : Nat :=
  let x := Es128.ofBits v
  if x.ksat then { x.win with nan := true }.xa80 else v % 2 ^ 126

/-- Bytes of elements of a range for memory, and the byte offsets of the poisoned ones. -/
def CollRun.bytesOut (r : CollRun) : List Byte :=
  if r.desc.op = 4 then r.vals.flatMap (fun v => leBytes v.toNat 4)
  else
    let w := typeBytes r.desc.outFmt
    r.vals.flatMap (fun v => leBytes (if r.desc.outFmt = 7 ∧ r.desc.op ≠ 2 then outXa80 v.toNat else v.toNat) w)

/-- Write elements at an address; a line that takes a poisoned element is poisoned (09 R338). -/
def State.collWrite (s : State) (a w : Nat) (b : List Byte) (poisons : List Bool) (cls : Nat) : State :=
  let hot := poisons.zipIdx.filterMap (fun (x : Bool × Nat) => if x.1 then some x.2 else none)
  s.tunBytes a b (fun ln => hot.any (fun i => (a + w * i) / 64 == ln || (a + w * i + w - 1) / 64 == ln)) cls

/-- The result is written (09 R332, R335, R336). -/
def State.collOutput (s : State) (r : CollRun) : State :=
  let d := r.desc
  if 0xFFFF0000 ≤ d.opid.toNat then s
  else
  let n := if d.outFmt = 7 ∧ d.op < 2 then r.ksats else 0
  let s := s.bump 0x5050 6 n
  match d.op with
  | 3 =>
    let v := r.vals.headD 0
    { s with kiln := { s.kiln with units := s.kiln.units.map (fun (u : KilnUnit) => { u with globalSS := v, globalValid := true }) } }
  | 4 =>
    let s := s.collWrite d.dst 4 r.bytesOut r.poisons d.locality
    s.collWrite (d.dst + indexOff d.count) 8 (r.vals.flatMap (fun v => leBytes (v.toNat / 2 ^ 64) 8)) r.poisons d.locality
  | _ => s.collWrite d.dst (typeBytes d.outFmt) r.bytesOut r.poisons d.locality

/-- The next axis step: the range shrinks to the owned chunk, or grows to the range of the step that the all-gather undoes. -/
def State.ringNext (s : State) (r : CollRun) : State :=
  let fresh := fun (x : CollRun) => { x with rxPlus := [], rxMinus := [], sentPlus := 0, sentMinus := 0, givenPlus := 0, givenMinus := 0 }
  let set := fun (s : State) (x : CollRun) => s.modCollRun r.desc.job r.desc.opid (fun _ => x)
  let grow := fun (x : CollRun) (rs : List (Nat × Nat × Nat)) => match rs with
    | [] => { x with steps := [], finished := true }
    | (_, lo, hi) :: _ =>
      let n := x.lo - lo
      let m := hi - x.hi
      { fresh x with lo := lo, hi := hi, vals := List.replicate n 0 ++ x.vals ++ List.replicate m 0
                     poisons := List.replicate n false ++ x.poisons ++ List.replicate m false, steps := rs.map (·.1), ranges := rs }
  match s.ringAxis r with
  | none => s
  | some (a, p, rank) =>
    if r.gather then
      let x := grow r (r.ranges.drop 1)
      let s := set s x
      if x.finished then s.collOutput x else s
    else
      let c := collChunk r.lo r.hi p rank
      let x := { fresh r with lo := c.1, hi := c.2, vals := (r.vals.drop (c.1 - r.lo)).take (c.2 - c.1), poisons := (r.poisons.drop (c.1 - r.lo)).take (c.2 - c.1)
                              steps := r.steps.drop 1, ranges := (a, r.lo, r.hi) :: r.ranges }
      if !x.steps.isEmpty then set s x
      else
        let s := s.bump 0x5050 4 x.ksats
        let y := s.collRound x
        let s := s.collReport r.desc y.2
        let x := y.1
        if r.desc.op = 1 then (set s { x with finished := true }).collOutput x
        else set s (grow { x with gather := true } x.ranges)

/-- Whether the axis step that is over is the last one, after which the result is written. -/
def CollRun.lastStep (r : CollRun) : Bool := if r.gather then r.ranges.length ≤ 1 else r.desc.op == 1 && r.steps.length ≤ 1

/-- Whether the result of an operation waits, because a line of it lies on a channel that a retraining slice has taken offline (06 R214, R215). (log 48, DESIGN CHOICE) -/
def State.outputWaits (s : State) (r : CollRun) : Bool :=
  r.lastStep && s.retraining && s.offline ((r.desc.spans (s.job r.desc.job).table |>.drop 1).flatMap (fun x => linesIn x.1 x.2)) (fun ln => s.writeChan ln 1)

/-- Go on with an operation as far as it can: send, grant, and take the next axis step when one is over. -/
def State.ringAdvance (s : State) (job : Nat) (opid : BitVec 32) : Nat → State
  | 0 => s
  | k + 1 =>
    let s := (((s.ringSend job opid true).ringSend job opid false).ringGrant job opid true 4).ringGrant job opid false 4
    match s.collRun job opid with
    | none => s
    | some r => if !r.finished && s.ringDone r && !s.outputWaits r then (s.ringNext r).ringAdvance job opid k else s

/-! ## Start (09 R327, R335, R338) -/

/-- Element `i` of the input on the wire, with its poison. -/
def State.collInput (s : State) (d : CollDesc) (i : Nat) : BitVec 128 × Bool :=
  let w := typeBytes d.inFmt
  let v := leNat (s.view (d.src + w * i) w)
  let bad := s.viewPoison (d.src + w * i) w
  if d.op = 4 then
    let a := d.src + indexOff d.count + 4 * i
    (nanPair (BitVec.ofNat 128 (v + 2 ^ 64 * uint 64 (sint 32 (leNat (s.view a 4)) + d.elemBase.toInt))), bad || s.viewPoison a 4)
  else if d.op = 2 then (BitVec.ofNat 128 v, bad)
  else match d.wire with
    | 0 => (BitVec.ofNat 128 (if d.inFmt = 1 then v * 2 ^ 16 else v), bad)
    | 3 => (BitVec.ofNat 128 (if d.inFmt = 7 then v % 2 ^ 126 else (reduceExact (sigWidth d.inFmt) [Term.one (Elem.ofIeee (typeFmt d.inFmt) v)]).xa80), bad)
    | _ => (BitVec.ofNat 128 v, bad)

/-- The run of a descriptor as it starts, and its ES128 overflows. -/
def State.collBegin (s : State) (d : CollDesc) : CollRun × Nat :=
  let t := (s.job d.job).table
  let axes := axesOf d.axes
  let o := d.owned t
  let r : CollRun := { desc := d, steps := axes, gather := false, lo := 0, hi := d.count, vals := [], poisons := [], rxPlus := [], rxMinus := []
                       sentPlus := 0, sentMinus := 0, givenPlus := 0, givenMinus := 0, ranges := [], finished := false }
  let load := fun (lo hi : Nat) => (List.range (hi - lo)).map (fun i => s.collInput d (lo + i))
  match d.op with
  | 3 =>
    let p := Es128.combine (s.kiln.units.toList.map (fun (u : KilnUnit) => Es128.ofBits (u.partSS.toNat % 2 ^ 126)))
    ({ r with vals := [BitVec.ofNat 128 p.1.bits], poisons := [false] }, if p.2 then 1 else 0)
  | 2 =>
    -- an all-gather undoes the axis steps that led to the owned range
    let rs := (axes.foldl (fun (acc : (Nat × Nat) × List (Nat × Nat × Nat)) a => (collChunk acc.1.1 acc.1.2 (t.p a) (t.rank a), (a, acc.1.1, acc.1.2) :: acc.2)) ((0, d.count), [])).2
    let l := load o.1 o.2
    match rs with
    | [] => ({ r with finished := true }, 0)
    | (_, lo, hi) :: _ =>
      ({ r with gather := true, lo := lo, hi := hi, ranges := rs, steps := rs.map (·.1)
                vals := List.replicate (o.1 - lo) 0 ++ l.map (·.1) ++ List.replicate (hi - o.2) 0
                poisons := List.replicate (o.1 - lo) false ++ l.map (·.2) ++ List.replicate (hi - o.2) false }, 0)
  | _ => let l := load 0 d.count; ({ r with vals := l.map (·.1), poisons := l.map (·.2) }, 0)

/-- The lines of GRID that a run needs (09 R319). -/
def gridLines (t : GroupTable) (axes : List Nat) : List Nat :=
  if t.g = 1 then []
  else ((axes.filter (fun a => t.p a != 1)).flatMap (fun a => [false, true].map (fun d =>
    t.posOf (fun x => if x = a then (t.rank a + (if d then 1 else t.p a - 1)) % t.p a else t.rank x)))).map (fun pos => (t.grid + 4 * pos) / 64)

/-- Enough steps for any operation. -/
def ringFuel : Nat := 24

/-- Whether the WAIT condition of a descriptor holds. -/
def CollDesc.ready (d : CollDesc) (s : State) : Bool := !d.waitEn || s.countReached d.waitCounter d.waitValue

/-- Start the descriptor at the head of the queue (09 R327, R328) when it is of this operation and one of eight places is free. -/
def State.collStart (s : State) (op : Nat) (opid : BitVec 32) : State := match s.coll.queue with
  | [] => s
  | d :: q =>
    let waits := s.retraining && s.offline ((d.spans (s.job d.job).table |>.take 1).flatMap (fun x => linesIn x.1 x.2)) s.missChan
    if d.op ≠ op ∨ d.opid ≠ opid ∨ 8 ≤ s.coll.running.length ∨ d.ready s = false ∨ waits = true then s
    else
      let ls := gridLines (s.job d.job).table (axesOf d.axes)
      let s := s.each ls (fun s ln => s.touchRead ln d.locality)
      let hot := ls.filter (fun ln => (s.line ln).2)
      if !hot.isEmpty then s.each (hot.take 1) (fun s l => s.consume l 444 d.stream d.job)
      else
        let s := s.each (d.spans (s.job d.job).table |>.take 1) (fun s x => s.touchRange x.1 x.2 d.locality)
        let r := s.collBegin d
        let s := s.bump 0x5050 5 r.2
        ({ s with coll := { s.coll with queue := q, running := s.coll.running ++ [r.1] } }).ringAdvance d.job opid ringFuel

/-! ## COLL packets and the records of a local run -/

/-- Lines of a neighbour land in their granted space: `plus` from the rank below. A run that ends a step goes on. -/
def State.collLand (s : State) (r : CollRun) (plus : Bool) (off : Nat) (lines : List (Line × Bool)) : State := match s.ringAxis r with
  | none => s
  | some (_, p, rank) =>
    let plan := recvPlan p rank r.gather plus
    let rx := if plus then r.rxPlus else r.rxMinus
    if off ≠ 64 * rx.length ∨ r.planLines p plan < rx.length + lines.length then s
    else
      let rx' := rx ++ lines
      let before := r.whole p plan rx.length
      let after := r.whole p plan rx'.length
      let skip := r.planLines p (plan.take before)
      let y := CollRun.combineItems p rank (rx'.drop skip) (plan.drop before) (after - before) (r, 0, false)
      let x := if plus then { y.1 with rxPlus := rx' } else { y.1 with rxMinus := rx' }
      (((s.bump 0x5050 5 y.2.1).collReport r.desc y.2.2).modCollRun r.desc.job r.desc.opid (fun _ => x)).ringAdvance r.desc.job r.desc.opid ringFuel

/-- The way in which a device sends to this one on the axis step of a run: true from the rank below. -/
def State.collWay (s : State) (r : CollRun) (source : BitVec 17) : Option Bool := match s.ringAxis r with
  | none => none
  | some (a, p, _) =>
    let t := (s.job r.desc.job).table
    if s.ringEp t a false = some source then some true
    else if p ≠ 2 ∧ s.ringEp t a true = some source then some false
    else none

/-- The running operation that a packet is for: the first with its OPID to which its source is a ring neighbour, else the first with its OPID. A COLL
packet names no job (09 Table 7). (log 48, DESIGN CHOICE) -/
def State.collFor (s : State) (opid : BitVec 32) (source : BitVec 17) : Option CollRun :=
  let l := s.coll.running.filter (fun (r : CollRun) => r.desc.opid == opid)
  (l.find? (fun r => (s.collWay r source).isSome)).or l.head?

/-- The descriptor, queued or running, that an ABORT ends: found in the same way, over every axis. -/
def State.collDescFor (s : State) (opid : BitVec 32) (source : BitVec 17) : Option CollDesc :=
  let l := (s.coll.queue ++ s.coll.running.map (·.desc)).filter (fun (d : CollDesc) => d.opid == opid)
  (l.find? (fun d => (axesOf d.axes).any (fun a => [false, true].any (fun w => s.ringEp (s.job d.job).table a w == some source)))).or l.head?

/-- One INPUT record of a local run takes effect (10 R371). -/
def State.takeInput (s : State) (r : LedgerRec) : State :=
  let bad := r.flags.getLsbD 0
  let lines := r.payload.map (fun l => (l, bad))
  match r.ptype with
  | 17 => match s.fabric.requests.find? (fun (q : Request) => q.kind == 1 && q.pos == r.pos && s.stepOpenFor q.job) with
    | some q => s.deliver q r.arg.toNat lines
    | none => s
  | 4 => match s.collFor r.arg (r.source.setWidth 17) with
    | some c => match s.collWay c (r.source.setWidth 17) with
      | some way => s.collLand c way r.addr lines
      | none => s
    | none => s
  | _ => s.applyInput r

/-- The INPUT records of the run in progress: those marked GUEST while a guest run computes, the others otherwise (10 R372). -/
def State.inputs (s : State) : List LedgerRec :=
  s.esc.ledger.filter (fun (r : LedgerRec) => r.kind == 5 && r.flags.getLsbD 1 == s.guesting)

/-- Whether records wait to be applied: those of a local run, and those that a group replay kept (10 R371, R375). -/
def State.appliesInputs (s : State) : Bool := s.inLocalRun || (s.esc.phase == .compute && decide (s.esc.inputPos < s.esc.kept))

/-- Apply every record that is due, in ledger order: one once the run has issued OUT_SEQ outbound requests (10 R371). -/
def State.applyInputs (s : State) : Nat → State
  | 0 => s
  | k + 1 =>
    if !s.appliesInputs then s
    else match (s.inputs.drop s.esc.inputPos).head? with
      | none => s
      | some r =>
        if s.esc.outSeq.toNat < r.outSeq.toNat then s
        else ((s.modEsc (fun e => { e with inputPos := e.inputPos + 1 })).takeInput r).applyInputs k

/-- Apply the records that are due after a command that may have sent requests. -/
def State.settle (s : State) : State := if s.appliesInputs then s.applyInputs (s.esc.ledger.length + 1) else s

/-- Whether a COLL packet is for an operation of the gated job with a step open; the commit vote is not one (10 R371). -/
def State.collOfStep (s : State) (q : Packet) : Bool :=
  decide (q.arg.toNat < 0xFFFF0000) && (s.collDescFor q.arg q.src).any (fun (d : CollDesc) => s.stepOpenFor d.job)

/-- A COLL request: its fields (09 Table 7); a local run of its job keeps it waiting (10 R371); READY and DATA for an operation that has ended are acknowledged and discarded; a request for an unknown
one, and ABORT for an ended one, is answered 0x01 (09 R342). -/
def State.collIn (s : State) (via : Option (Fin 12)) (p : Packet) (mine : Bool) (f : State → Packet → State) : State :=
  s.requestIn via p (p.type == 4 && mine) (fun s q =>
    let known := (s.collFor q.arg q.src).isSome || s.coll.queue.any (fun (d : CollDesc) => d.opid == q.arg)
    if 3 ≤ q.sub.toNat ∨ (q.sub = 0 ∧ q.len = 0) ∨ (q.sub ≠ 0 ∧ q.len ≠ 0) ∨ (q.sub = 2 ∧ q.addr ≠ 0) then s.nackTo p 2
    else if s.localHold (s.collOfStep q) then s.holdIn q
    else if known then f s q
    else if q.sub ≠ 2 ∧ s.coll.ended.contains q.arg = true then s.respond p 20 0 [] [] 0 true
    else s.nackTo p 1)

/-- COLL_DATA: recorded for an operation of the gated job (10 R366), combined, acknowledged. Reserved SUB values are answered here. -/
def execCollData (via : Option (Fin 12)) (p : Packet) (s : State) : Host.Outcome State Fault Refusal :=
  .next (s.collIn via p (p.sub != 1 && p.sub != 2) (fun s q => match s.collFor q.arg q.src with
    | none => s.nackTo p 1
    | some r =>
      let mine := s.stepOpenFor r.desc.job && decide (q.arg.toNat < 0xFFFF0000)
      match s.collWay r q.src with
        | none => s.nackTo p 1
        | some way =>
          let l := q.payload.zipIdx.map (fun (x : Line × Nat) => (x.1, packetLinePoison q x.2))
          s.recordThen (if mine then l.zipIdx.map (fun x => inputRec (s.inputStack r.desc.dst) (q.addr.toNat + 64 * x.2) (q.src.setWidth 32) s.esc.outSeq 4 0 0 q.arg x.1.2 [x.1.1]) else [])
            (fun s => ((s.collLand r way q.addr.toNat l)).respond p 20 0 [] [] 0 true)))

/-- COLL_READY: bytes granted (09 R337). -/
def execCollReady (via : Option (Fin 12)) (p : Packet) (s : State) : Host.Outcome State Fault Refusal :=
  .next (s.collIn via p (p.sub == 1) (fun s q =>
    let j := ((s.collFor q.arg q.src).map (fun (r : CollRun) => r.desc.job)).getD 0
    ((s.setGrant q.arg q.src (s.granted q.arg q.src + q.addr.toNat)).ringAdvance j q.arg ringFuel).respond p 20 0 [] [] 0 true))

/-- The operation (job, OPID) leaves the engines; grants for its OPID go unless an operation of another job with that OPID is left. -/
def Coll.remove (x : Coll) (job : Nat) (opid : BitVec 32) : Coll :=
  let q := x.queue.filter (fun (d : CollDesc) => d.job != job || d.opid != opid)
  let r := x.running.filter (fun (y : CollRun) => y.desc.job != job || y.desc.opid != opid)
  let left := q.any (fun (d : CollDesc) => d.opid == opid) || r.any (fun (y : CollRun) => y.desc.opid == opid)
  { queue := q, running := r, ended := opid :: x.ended, grants := if left then x.grants else x.grants.filter (fun g => g.1 != opid) }

/-- End an operation without its result: the command of its stream ends orphaned (09 R340). -/
def State.collDrop (s : State) (d : CollDesc) : State :=
  State.modStream { s with coll := s.coll.remove d.job d.opid } d.stream (fun x => { x with progress := x.progress.map (fun (c : CmdRun) =>
    if c.count = d.command ∧ c.raw.toNat % 256 = 0x13 then { c with ops := [3] } else c) })

/-- COLL_ABORT: forwarded once to the other neighbour on the axis; the operation ends (09 R340). -/
def execCollAbort (via : Option (Fin 12)) (p : Packet) (s : State) : Host.Outcome State Fault Refusal :=
  .next (s.collIn via p (p.sub == 2) (fun s q =>
    let s := match s.collDescFor q.arg q.src with
      | none => s
      | some d => State.collDrop (
        let t := (s.job d.job).table
        s.each (axesOf d.axes) (fun s a =>
          let lo := s.ringEp t a false
          let hi := s.ringEp t a true
          let dst := if t.p a ≤ 2 then none else if lo = some q.src then hi else if hi = some q.src then lo else none
          match dst with
          | some e => s.sendColl d.job d.stream d.opid 2 0 [] [] e
          | none => s)) d
    (s.bump 0x5050 3 1).respond p 20 0 [] [] 0 true))

/-- The operations of an OPID whose result waited for a channel go on (06 R214). (log 48, DESIGN CHOICE) -/
def State.collResume (s : State) (opid : BitVec 32) : State :=
  s.each (s.coll.running.filter (fun (r : CollRun) => r.desc.opid == opid)) (fun s r => s.ringAdvance r.desc.job opid ringFuel)

/-- COLLECTIVE_COMPLETE (09 R339): DONE_INC is added once. Where no operation of this OPID has written its result yet, one whose result waited for a
channel writes it. -/
def execCollectiveComplete (opid : BitVec 32) (s : State) : Host.Outcome State Fault Refusal :=
  .next (match s.coll.running.find? (fun (r : CollRun) => r.desc.opid == opid && r.finished) with
    | none => s.collResume opid
    | some r =>
      if 0xFFFF0000 ≤ opid.toNat then s
      else
        let s := { s with coll := s.coll.remove r.desc.job opid }
        let s := s.bump 0x5050 2 1
        if r.desc.doneEn then s.counterAdd r.desc.doneCounter.toNat r.desc.doneInc else s)

/-- ALL_REDUCE. -/
def execAllReduce (opid : BitVec 32) (s : State) : Host.Outcome State Fault Refusal := .next (s.collStart 0 opid).settle

/-- REDUCE_SCATTER. -/
def execReduceScatter (opid : BitVec 32) (s : State) : Host.Outcome State Fault Refusal := .next (s.collStart 1 opid).settle

/-- ALL_GATHER. -/
def execAllGather (opid : BitVec 32) (s : State) : Host.Outcome State Fault Refusal := .next (s.collStart 2 opid).settle

/-- NORM_SUM. -/
def execNormSum (opid : BitVec 32) (s : State) : Host.Outcome State Fault Refusal := .next (s.collStart 3 opid).settle

/-- MAX_INDEX. -/
def execMaxIndex (opid : BitVec 32) (s : State) : Host.Outcome State Fault Refusal := .next (s.collStart 4 opid).settle

end Sys2Proof.Machine
end

