-- ==== Sys2Proof/Machine/KilnMath.lean ====
section
/-! DEFINITION. The arithmetic of a Kiln datapath on one 512-element group (05 R172, R179 to R183, R187 to R190): exact use-sums, the update
of an element, weight rounding, the moments and the shadow copy as written, and the clip factor. -/

namespace Sys2Proof.Machine

/-- Bytes of an array of `n` elements (02 R36). -/
def arrayBytes (fmt n : Nat) : Nat := if isBlock fmt then ceilDiv n 512 * mbGroup fmt else n * typeBytes fmt

/-- One gradient value as a term (05 R172). -/
def gradTerm (fmt : Nat) (b : List Byte) (j : Nat) : Term :=
  if fmt = 4 then .one (.ofBlock (mbSig 4 b j) (mbExp 4 b j))
  else .one (.ofIeee (typeFmt fmt) (recNat b (typeBytes fmt * j) (typeBytes fmt)))

/-- Exponent bound of a gradient term. -/
def gradM (fmt : Nat) : Nat := if fmt = 4 then 7 else sigWidth fmt

/-- The use-sum of element `j` of a group, rounded once to FP32 (05 R172). -/
def useSum (fmt : Nat) (uses : List (List Byte)) (j : Nat) : FVal := toF32 (reduceExact (gradM fmt) (uses.map (fun b => gradTerm fmt b j))).val

/-- The square of an FP32 value as one exact product term (05 R187, R189). -/
def squareTerm (v : FVal) : Win :=
  let e := Elem.ofIeee fp32 (fp32.enc .rne v)
  reduceExact 48 [.mul e e]

/-- A sum of squares as it grows: its XA80 value, the windows that would not fit, whether a count passed its range (02 R49). -/
structure SquareSum where
  win : Win
  misfits : Nat
  refused : Bool
  deriving DecidableEq, Repr

def SquareSum.of (v : BitVec 128) : SquareSum := { win := Win.ofXa80 v.toNat, misfits := 0, refused := false }

/-- Add the square of a value into an XA80 sum (02 R49). A count that would pass its range leaves the sum unchanged. -/
def SquareSum.add (a : SquareSum) (v : FVal) : SquareSum := match combine [a.win, squareTerm v] with
  | some r => { a with win := r.1, misfits := a.misfits + if r.2 then 1 else 0 }
  | none => { a with refused := true }

def SquareSum.bits (a : SquareSum) : BitVec 128 := BitVec.ofNat 128 a.win.xa80

/-- Exponent of the BF16 spacing at a value (02 R58). -/
def bfSpacing (v : FVal) : Int := if v.isZero then bf16.qmin else max bf16.qmin (v.log2Floor - 7)

/-- Whether a value lies beyond the largest finite BF16 magnitude (05 R183). -/
def beyondBf16 (v : FVal) : Bool := !v.isFin || (bf16.decode 0x7F7F).lt v.abs

/-- What the update of one element writes (05 R179, R180). -/
structure ElemOut where
  w : Nat
  r : Int
  m : FVal
  q : FVal
  delta : FVal
  clamped : Bool
  deriving DecidableEq, Repr

/-- The FP32 step of an update: delta, and the new moments (05 R179). (log 38, DESIGN CHOICE) -/
def kilnDelta (d : KilnDesc) (c g w m q : FVal) : FVal × FVal × FVal × FVal :=
  let b1 := f32 d.beta1.toNat
  let b2 := f32 d.beta2.toNat
  let one := f32 0x3F800000
  let ob1 := toF32 (one.add b1.neg)
  let ob2 := toF32 (one.add b2.neg)
  let g := toF32 (g.mul c)
  let m' := toF32 (b1.fma m (toF32 (ob1.mul g)))
  let q' := toF32 (toF32 (b2.fma (toF32 (q.mul q)) (toF32 (ob2.mul (toF32 (g.mul g)))))).sqrt
  let den := toF32 ((toF32 (q'.mul (f32 d.bc2.toNat))).add (f32 d.eps.toNat))
  let dd := toF32 ((toF32 (m'.mul (f32 d.bc1.toNat))).div den)
  let dd := if d.decay then toF32 ((f32 d.wd.toNat).fma w dd) else dd
  ((toF32 ((f32 d.lr.toNat).mul dd)).neg, dd, m', q')

/-- The update of one element: none when it is non-finite (05 R183). `rnd` is the mode of a weight that is not carried. (log 38, DESIGN CHOICE) -/
def kilnElem (d : KilnDesc) (c : Option FVal) (g : FVal) (wBits : Nat) (r : Int) (m q : FVal) (rnd : Rnd) : Option ElemOut :=
  match c with
  | none => none
  | some c =>
    let w := bf16.decode wBits
    let x := kilnDelta d c g w m q
    if !g.isFin || !x.2.1.isFin || !x.1.isFin then none
    else if d.mode = 2 then
      let t := toF32 (x.1.add (.ofInt r (bfSpacing w - 8)))
      let full := toF32 (w.add t)
      if beyondBf16 full then none
      else
        let w' := bf16.enc .rne full
        let v := bf16.decode w'
        let rest := (full.add v.neg).mul (.fin false 1 (8 - bfSpacing v))
        let n := rest.toIntSat .rne (-128) 127
        some { w := w', r := n, m := x.2.2.1, q := x.2.2.2, delta := x.1, clamped := rest.toIntSat .rne (-256) 256 != n }
    else
      let full := w.add x.1
      if beyondBf16 full then none
      else some { w := bf16.enc rnd full, r := r, m := x.2.2.1, q := x.2.2.2, delta := x.1, clamped := false }

/-- A significand that stands for an unchanged element at a new block exponent (05 R183): exact where the value fits; otherwise the spec states
no result, and it is free among the significands that 02 R32 allows. (log 38, DESIGN CHOICE) -/
def keptSig (sig : Int) (e e' : Nat) (free : Nat) : Int :=
  if e' = e then sig
  else
    let v : Int := if e' < e then sig * ((2 ^ (e - e') : Nat) : Int) else sig / ((2 ^ (e' - e) : Nat) : Int)
    if (if e' < e then true else v * ((2 ^ (e' - e) : Nat) : Int) == sig) && decide (v.natAbs ≤ 127) then v else (free % 255 : Nat) - 127

/-- One block of a moment as written (05 R181, R183): exponent and rounding from the elements written; a block with none is unchanged. The flag
is block overflow. -/
def momentBlock (old : List Int) (e : Nat) (new : List (Option FVal × Rnd)) (free : Nat → Nat) : List Int × Nat × Bool :=
  let ws := new.filterMap (·.1)
  if ws.isEmpty then (old, e, false)
  else if !ws.all (·.isFin) then (List.replicate 32 0, 255, true)
  else
    let e' := clampE (ebm 8 ws)
    let r := (new.zip old).zipIdx.map (fun (x : ((Option FVal × Rnd) × Int) × Nat) => match x.1.1.1 with
      | some v => mbRound 8 e' x.1.1.2 v
      | none => (keptSig x.1.2 e e' (free x.2), false))
    (r.map (·.1) ++ List.replicate (32 - r.length) 0, e', r.any (·.2))

/-- A group of a moment as written, and its block overflows: `old` the stored group, `new` the elements that are not padding. (log 38, DESIGN CHOICE) -/
def momentGroup (old : List Byte) (new : List (Option FVal × Rnd)) (free : Nat → Nat) : List Byte × Nat :=
  let bs := (chunks 32 new).zipIdx.map (fun (x : List (Option FVal × Rnd) × Nat) =>
    momentBlock ((List.range 32).map (fun i => mbSig 4 old (32 * x.2 + i))) (mbExp 4 old (32 * x.2)) x.1 (fun i => free (32 * x.2 + i)))
  let sigs := bs.flatMap (·.1)
  let exps := bs.map (fun b => b.2.1)
  (mbPack 4 (sigs ++ List.replicate (512 - sigs.length) 0) (exps ++ List.replicate (16 - exps.length) 0), (bs.filter (fun b => b.2.2)).length)

/-- The clip factor (05 R187, R188): none when every element is non-finite. -/
def clipFactor (d : KilnDesc) (globalSS : BitVec 128) : Option FVal :=
  if !d.clip then some (f32 0x3F800000)
  else
    let x := Es128.ofBits globalSS.toNat
    let v := toF32 x.val
    if x.win.nan || x.win.pinf || x.win.ninf || !v.isFin then none
    else
      let n := toF32 v.sqrt
      let m := f32 d.clipMax.toNat
      some (if n.le m then f32 0x3F800000 else toF32 (m.div n))

/-- The warm-up of the trend test starts afresh, at device start and after a restore (05 R191): each entry takes its next ratio as its mean,
and no deviation is counted. (log 45, DESIGN CHOICE) -/
def Kiln.restartTrend (k : Kiln) : Kiln :=
  { k with warm := 0, ratio := (k.ratio.map (fun (x : Nat × RatioEntry) => (x.1, { x.2 with seen := 0, dev := 0 }))).filter (fun (x : Nat × RatioEntry) => x.2 ≠ RatioEntry.reset) }

/-- The ratio of an entry (05 R190); none when the exact sum of its squared weights is zero. -/
def ratioOf (sumD sumW : BitVec 128) : Option FVal :=
  let w := (Win.ofXa80 sumW.toNat).val
  if w.isZero then none else some (toF32 (toF32 ((toF32 (Win.ofXa80 sumD.toNat).val).div (toF32 w))).sqrt)

end Sys2Proof.Machine
end

