-- ==== Sys2Proof/Machine/Kiln.lean ====
section
/-! DEFINITION. The Kiln datapaths (05 R172 to R189): the KILN command with its whole-command checks, a part's UPDATE and NORM, and the
completion of a descriptor. -/

namespace Sys2Proof.Machine

/-! ## The command (05 R175 to R178) -/

/-- A descriptor from its 128 bytes (05 Table 4) with its 64-byte hyperparameter block (05 Table 5). -/
def kilnDescOf (r h : List Byte) : KilnDesc :=
  let fl := recNat r 103 1
  { w := recNat r 0 8, rem := recNat r 8 8, m := recNat r 16 8, q := recNat r 24 8, g := (List.range 4).map (fun u => recNat r (32 + 8 * u) 8)
    shadow := recNat r 64 8, elemBase := BitVec.ofNat 64 (recNat r 72 8), count := recNat r 80 4, perStack := recNat r 84 4
    tensorId := BitVec.ofNat 32 (recNat r 88 4), phase := BitVec.ofNat 16 (recNat r 92 2), mask := BitVec.ofNat 16 (recNat r 94 2)
    ratio := recNat r 96 2, op := recNat r 98 1, mode := recNat r 99 1, gFmt := recNat r 100 1, shadowFmt := recNat r 101 1, uses := recNat r 102 1
    frozen := fl.testBit 0, clip := fl.testBit 1, decay := fl.testBit 2, waitEn := fl.testBit 3, doneEn := fl.testBit 4
    waitCounter := BitVec.ofNat 16 (recNat r 104 2), doneCounter := BitVec.ofNat 16 (recNat r 106 2), waitValue := BitVec.ofNat 32 (recNat r 108 4)
    lr := BitVec.ofNat 32 (recNat h 0 4), beta1 := BitVec.ofNat 32 (recNat h 4 4), beta2 := BitVec.ofNat 32 (recNat h 8 4)
    eps := BitVec.ofNat 32 (recNat h 12 4), wd := BitVec.ofNat 32 (recNat h 16 4), bc1 := BitVec.ofNat 32 (recNat h 20 4)
    bc2 := BitVec.ofNat 32 (recNat h 24 4), clipMax := BitVec.ofNat 32 (recNat h 28 4) }

/-- Stacks of the mask, ascending. -/
def KilnDesc.stacksOf (d : KilnDesc) : List Nat := (List.range 12).filter d.mask.getLsbD

/-- The parts: stack, first element, count (05 R175). -/
def KilnDesc.parts (d : KilnDesc) : List (Nat × Nat × Nat) :=
  let n := d.stacksOf.length
  d.stacksOf.zipIdx.map (fun (x : Nat × Nat) => (x.1, x.2 * d.perStack, if x.2 + 1 = n then d.count - (n - 1) * d.perStack else d.perStack))

/-- The address in stack `k` that corresponds to an address in the lowest stack of the mask (05 R175). -/
def KilnDesc.inStack (d : KilnDesc) (a k : Nat) : Nat := a + 2 ^ 36 * (k - d.stacksOf.headD 0)

/-- The arrays of a descriptor: address and bytes for `n` elements. -/
def KilnDesc.arrays (d : KilnDesc) (n : Nat) : List (Nat × Nat) :=
  [(d.w, 2 * n), (d.m, arrayBytes 4 n), (d.q, arrayBytes 4 n)] ++ (d.g.take d.uses).map (fun a => (a, arrayBytes d.gFmt n)) ++
  (if d.mode = 2 then [(d.rem, n)] else []) ++ (if d.shadow = 0 then [] else [(d.shadow, arrayBytes d.shadowFmt n)])

/-- Whether an FP32 field is finite and within a bound. -/
def finiteFrom (v : BitVec 32) (lo : FVal) (strict : Bool) : Bool :=
  let x := f32 v.toNat
  x.isFin && (if strict then lo.lt x else lo.le x)

/-- Whether a field lies outside Table 4 or Table 5, or a reserved field is set (05 R177). -/
def KilnDesc.malformed (d : KilnDesc) (r h : List Byte) : Bool :=
  let one := f32 0x3F800000
  recNat r 103 1 ≥ 32 || d.mask.toNat ≥ 4096 || !recZero r 120 128 || !recZero h 32 64 || (d.g.drop d.uses).any (· != 0) ||
  d.count == 0 || d.perStack == 0 || d.perStack % 512 != 0 || decide (d.uses < 1 ∨ 4 < d.uses) || decide (1023 < d.ratio ∧ d.ratio ≠ 0xFFFF) ||
  decide (1 < d.op ∨ 2 < d.mode) || !(d.gFmt == 0 || d.gFmt == 1 || d.gFmt == 4) || (if d.shadow = 0 then d.shadowFmt != 0 else !isBlock d.shadowFmt) ||
  ((d.mode == 2) != (d.rem != 0)) || recNat r 112 8 % 64 != 0 ||
  !finiteFrom d.lr .zero false || !finiteFrom d.beta1 .zero false || !(f32 d.beta1.toNat).lt one || !finiteFrom d.beta2 .zero false || !(f32 d.beta2.toNat).lt one ||
  !finiteFrom d.eps .zero true || !finiteFrom d.wd .zero false || !finiteFrom d.bc1 one false || !finiteFrom d.bc2 one false ||
  (d.clip && !finiteFrom d.clipMax .zero true)

/-- Whether an array of a descriptor is misplaced: not on 64 bytes, or not wholly in the stack-local window of each stack (05 R177). -/
def State.kilnMisplaced (s : State) (d : KilnDesc) : Bool :=
  d.parts.any (fun p => (d.arrays p.2.2).any (fun a =>
    let x := d.inStack a.1 p.1
    a.1 % 64 != 0 || s.window x != some (5 + p.1) || !s.inOneWindow x a.2))

/-- The weight range of each part of an UPDATE descriptor: stack, address, bytes. A NORM of the same step names the same weights (R187). -/
def KilnDesc.weights (d : KilnDesc) : List (Nat × Nat × Nat) :=
  if d.op = 0 then d.parts.map (fun p => (p.1, d.inStack d.w p.1, 2 * p.2.2)) else []

/-- Whether weight ranges overlap, or a range table of 4,096 entries overflows (05 R177). (log 38, DESIGN CHOICE) -/
def State.kilnRangesBad (s : State) : List KilnDesc → List (Nat × Nat × Nat) → Bool
  | [], l => (List.range 12).any (fun k =>
      decide (4096 < (vget s.kiln.units k KilnUnit.reset).ranges.length + (l.filter (fun x => x.1 == k)).length))
  | d :: ds, l =>
    d.weights.any (fun x => l.any (fun y => y.1 == x.1 && decide (x.2.1 < y.2.1 + y.2.2 ∧ y.2.1 < x.2.1 + x.2.2)) ||
      (vget s.kiln.units x.1 KilnUnit.reset).ranges.any (fun y => decide (x.2.1 < y.1 + y.2 ∧ y.1 < x.2.1 + x.2.2))) ||
    s.kilnRangesBad ds (l ++ d.weights)

/-- The hyperparameter block copied when descriptor `j` of a command was accepted: a command that runs again takes the copies that follow its
own COMMANDS record (05 R176). -/
def State.hparamCopy (s : State) (i : Nat) (n : NextCmd) (j : Nat) : Option Line :=
  if !n.replay then none
  else
    let own := s.esc.ledger.filter (fun (r : LedgerRec) => (r.kind == 3 || r.kind == 4) && r.source.toNat == i && r.flags.getLsbD 1 == s.guesting)
    let cmds := (own.filter (fun (r : LedgerRec) => r.kind == 3)).length
    let at_ := cmds - (s.esc.replay.filter (fun x => x.1 == i)).length
    let after := (own.foldl (fun (acc : Nat × List Line) (r : LedgerRec) =>
      if r.kind = 3 then (acc.1 + 1, acc.2) else if acc.1 = at_ + 1 then (acc.1, acc.2 ++ r.payload) else acc) (0, [])).2
    after[j]?

/-- The descriptors of a command: record and hyperparameter block. -/
def State.kilnRecords (s : State) (i : Nat) (n : NextCmd) (g count : Nat) : List (List Byte × List Byte) :=
  (List.range count).map (fun j =>
    let r := s.recordAt (g + 128 * j) 128
    (r, match s.hparamCopy i n j with
      | some l => lineBytes l
      | none => s.recordAt (recNat r 112 8) 64))

/-- Accept a checked descriptor: its hyperparameters enter the ledger and its parts join their datapaths; where the record does not fit, neither they nor those
of a later descriptor do (10 R367). (log 38, DESIGN CHOICE) -/
def State.kilnAccept (s : State) (i job : Nat) (n : NextCmd) (r h : List Byte) : State :=
  let d := kilnDescOf r h
  if s.esc.record.isNone then s
  else
  s.recordThen (if n.replay then []
    else [{ plainRec 4 (s.inputStack (recNat r 112 8)) (recNat r 112 8) [lineOf h] with source := BitVec.ofNat 32 i }]) (fun s =>
  let id := s.kiln.nextId
  let units := d.parts.foldl (fun (u : Vector KilnUnit 12) p => vmod u p.1 (fun (x : KilnUnit) =>
    { x with
      parts := x.parts ++ [{ id := id, desc := d, stack := p.1, first := p.2.1, count := p.2.2, stage := .waiting, job := job, stream := i, command := n.count }]
      ranges := x.ranges ++ (if d.op = 0 then [(d.inStack d.w p.1, 2 * p.2.2)] else []) })) s.kiln.units
  { s with kiln := { s.kiln with nextId := id + 1, units := units } })

/-- KILN (05 R177, R178): accepted only in COMPUTE; a job that the Escapement does not gate is rejected (10 R354). A rejected command is counted
in object 0x3120.5. -/
def execKiln (i : Fin 64) (s : State) : Host.Outcome State Fault Refusal :=
  let job := (s.stream i).job
  .next (if job = s.gatedJob ∧ s.esc.phase ≠ .compute ∧ s.inLocalRun = false then s
    else s.startCmd i (fun b => recNat b 0 1 == 0x12) [(16, 28)] (fun s job b n =>
      let g := recNat b 16 8
      let count := recNat b 24 4
      if count < 1 ∨ 4096 < count then { codes := [0x0303], eff := fun s => (s, 0), rejected := fun s => s.bump 0x3120 5 1 }
      else
      let a := s.addrCodes g (128 * count) 64
      let rs := s.kilnRecords i n g count
      let ds := rs.map (fun x => kilnDescOf x.1 x.2)
      let bad := rs.any (fun x =>
          let d := kilnDescOf x.1 x.2
          d.malformed x.1 x.2 || !(s.addrCodes (recNat x.1 112 8) 64 64).isEmpty ||
          ceilDiv d.count d.perStack != d.stacksOf.length || s.kilnMisplaced d || (d.op == 1 && (vget s.kiln.units 0 KilnUnit.reset).globalValid)) ||
        s.kilnRangesBad ds []
      let unowned := ds.any (fun d => (d.waitEn && s.counterOwner d.waitCounter.toNat != job) || (d.doneEn && s.counterOwner d.doneCounter.toNat != job))
      { codes := a ++ (if a.isEmpty then codes [(bad, 0x030A), (unowned, 0x0306)] else []) ++ (if job = s.gatedJob then [] else [0x0A07])
        poison := s.recordPoison g (128 * count) 64 ++
          (if a.isEmpty && !n.replay then rs.flatMap (fun x => s.recordPoison (recNat x.1 112 8) 64 64) else [])
        rejected := fun s => s.bump 0x3120 5 1
        eff := fun s => (s.each rs (fun s x => s.kilnAccept i job n x.1 x.2), 0) }))

/-! ## One part -/

def State.kilnUnit (s : State) (k : Nat) : KilnUnit := vget s.kiln.units k KilnUnit.reset

def State.modKiln (s : State) (k : Nat) (f : KilnUnit → KilnUnit) : State := { s with kiln := { s.kiln with units := vmod s.kiln.units k f } }

/-- A part whose counter condition holds, and, with CLIP_EN, whose global sum is valid (05 R178, R187). -/
def State.kilnReady (s : State) (k id op : Nat) : Option KilnPart :=
  (s.kilnUnit k).parts.find? (fun (p : KilnPart) => p.id == id && p.stage == .waiting && p.desc.op == op &&
    (!p.desc.waitEn || s.countReached p.desc.waitCounter p.desc.waitValue) &&
    (p.desc.frozen || p.desc.op == 1 || !p.desc.clip || (s.kilnUnit k).globalValid))

/-- A part has ended. -/
def State.kilnEnd (s : State) (k id : Nat) : State :=
  s.modKiln k (fun u => { u with parts := u.parts.map (fun (p : KilnPart) => if p.id = id then { p with stage := .finished } else p) })

/-- Range of an array that holds elements `lo` to `lo + n - 1` of a part, whole groups for a block format. -/
def groupRange (fmt a lo n : Nat) : Nat × Nat :=
  if isBlock fmt then (a + lo / 512 * mbGroup fmt, mbGroup fmt) else (a + typeBytes fmt * lo, typeBytes fmt * n)

/-- Ranges that a group reads: the gradients, and for an UPDATE W, M, Q and R. -/
def KilnPart.reads (p : KilnPart) (lo n : Nat) : List (Nat × Nat) :=
  let d := p.desc
  ((d.g.take d.uses).map (fun a => groupRange d.gFmt (d.inStack a p.stack) lo n)) ++
  (if d.op = 1 then []
   else [groupRange 1 (d.inStack d.w p.stack) lo n, groupRange 4 (d.inStack d.m p.stack) lo n, groupRange 4 (d.inStack d.q p.stack) lo n] ++
     (if d.mode = 2 then [(d.inStack d.rem p.stack + lo, n)] else []))

/-- The arrays that an UPDATE changes and that an undo record covers: first and last line of the part's share. -/
def KilnPart.undoArrays (p : KilnPart) : List (Nat × Nat) :=
  let d := p.desc
  ([(d.w, 2 * p.count), (d.m, arrayBytes 4 p.count), (d.q, arrayBytes 4 p.count)] ++ (if d.mode = 2 then [(d.rem, p.count)] else [])).map (fun a =>
    (d.inStack a.1 p.stack / 64, (d.inStack a.1 p.stack + a.2 - 1) / 64))

/-- Read the lines from `ln` to `last` that no record covers yet and that are not poisoned, at most `fuel`, through their home Tun. -/
def State.undoSpan (s : State) (last : Nat) : Nat → Nat → State × List Nat
  | 0, _ => (s, [])
  | fuel + 1, ln =>
    if last < ln || s.kiln.written.contains ln then (s, [])
    else
      let s := s.touchRead ln 1
      if (s.line ln).2 then (s, [])
      else let r := s.undoSpan last fuel (ln + 1); (r.1, ln :: r.2)

/-- Write the UNDO record that a line needs before its first write of the step, with up to 63 lines of the array that follow it (05 R184,
10 R366); the flag says that it did not fit (10 R367). -/
def undoFirst (p : KilnPart) (x : State × Bool) (ln : Nat) : State × Bool :=
  if x.2 || x.1.kiln.written.contains ln then x
  else
    let last := ((p.undoArrays.find? (fun a => decide (a.1 ≤ ln ∧ ln ≤ a.2))).map (·.2)).getD ln
    let u := x.1.undoSpan last 64 ln
    let y := u.1.ledgerAdd { plainRec 6 p.stack (64 * ln) (u.2.map (fun l => (u.1.line l).1)) with flags := if u.1.guesting then 2 else 0 }
    if y.2 then (y.1.escStop 0x0A01, true)
    else ({ y.1 with kiln := { y.1.kiln with written := u.2.foldl (fun w l => sadd w l) y.1.kiln.written } }, false)

/-- Lines of some byte ranges. -/
def linesOf (l : List (Nat × Nat)) : List Nat :=
  (l.flatMap (fun a => (List.range ((a.1 + a.2 - 1) / 64 + 1 - a.1 / 64)).map (fun i => a.1 / 64 + i))).eraseDups

/-- A combination that 02 R49 rejects is reported by the KILN command: it then ends with code 0x0480, the combine overflow of a core. (log 44, DESIGN CHOICE) -/
def State.kilnOver (s : State) (p : KilnPart) (refused : Bool) : State :=
  if refused then s.modStream p.stream (fun x => { x with progress := x.progress.map (fun (c : CmdRun) => if c.count = p.command then { c with ops := [0x80] } else c) })
  else s

/-- The ratio-watch sums of a group (05 R189): delta squared and the weight before the update squared. -/
def State.ratioAdd (s : State) (p : KilnPart) (l : List (FVal × FVal)) : State :=
  if p.desc.ratio = 0xFFFF ∨ l = [] then s
  else
    let key := 1024 * (p.stack / 3) + p.desc.ratio
    let e := tget RatioEntry.reset s.kiln.ratio key
    let d := l.foldl (fun a x => a.add x.1) (SquareSum.of e.sumD)
    let w := l.foldl (fun a x => a.add x.2) (SquareSum.of e.sumW)
    let t := State.bump { s with kiln := { s.kiln with ratio := tset RatioEntry.reset s.kiln.ratio key { e with sumD := d.bits, sumW := w.bits, touched := true } } }
      0x3103 5 (d.misfits + w.misfits)
    t.kilnOver p (d.refused || w.refused)

/-- The arrays of a group are written, and the update digest takes their lines (10 R357). -/
def State.kilnStore (s : State) (outs : List ((Nat × Nat) × List Byte)) (lns : List Nat) : State :=
  let t := s.each outs (fun (t : State) (x : (Nat × Nat) × List Byte) => t.tunBytes x.1.1 x.2 (fun _ => false) 1)
  t.modEsc (fun e => { e with ud := lns.foldl (fun a ln => a + udOf ln (t.line ln).1) e.ud })

/-- The shadow copy of a group's new weights, and the block overflows of the group. -/
def State.kilnShadow (s : State) (p : KilnPart) (lo n : Nat) (wn : List Byte) (overflows : Nat) : State :=
  let d := p.desc
  let sh := mbGroupMax d.shadowFmt ((List.range n).map (fun j => (bf16.decode (recNat wn (2 * j) 2), Rnd.rne)))
  let t := if d.shadow = 0 then s else s.tunBytes (groupRange d.shadowFmt (d.inStack d.shadow p.stack) lo n).1 sh.1 (fun _ => false) 1
  t.blockOverflow (p.stack / 3) p.job (overflows + if d.shadow = 0 then 0 else sh.2)

/-- Clamped elements and elements left unchanged are counted; one of the latter raises reason 4. -/
def State.kilnTally (s : State) (k : Nat) (es : List (Option ElemOut)) : State :=
  let bad := (es.filter Option.isNone).length
  let t := (s.bump 0x3120 3 (es.filter (fun e => (e.map (·.clamped)).getD false)).length).bump 0x3120 4 bad
  if bad = 0 then t else t.reason (k / 3) 4

/-- The UPDATE of elements `lo` to `lo + n - 1` of a part, whose lines are free of poison (05 R179 to R184). -/
def State.kilnGroup (s : State) (p : KilnPart) (c : Option FVal) (lo n : Nat) : State × Bool :=
  let d := p.desc
  let k := p.stack
  let rd := fun (x : Nat × Nat) => s.view x.1 x.2
  let wr := groupRange 1 (d.inStack d.w k) lo n
  let mr := groupRange 4 (d.inStack d.m k) lo n
  let qr := groupRange 4 (d.inStack d.q k) lo n
  let rr := (d.inStack d.rem k + lo, n)
  let gs := (d.g.take d.uses).map (fun a => rd (groupRange d.gFmt (d.inStack a k) lo n))
  let wb := rd wr
  let mb := rd mr
  let qb := rd qr
  let rb := if d.mode = 2 then rd rr else []
  let elem := d.elemBase.toNat + p.first + lo
  let rnd := fun (phase dom j : Nat) => Rnd.sr (rand16 s.stepNumber.toNat s.salt d.tensorId.toNat phase dom (elem + j))
  let ph := d.phase.toNat
  let ph2 := (ph + 1) % 2 ^ 16
  let es := (List.range n).map (fun j => kilnElem d c (useSum d.gFmt gs j) (recNat wb (2 * j) 2) (sint 8 (rb.getD j 0).toNat)
    (mbVal (mbSig 4 mb j) (mbExp 4 mb j)) (mbVal (mbSig 4 qb j) (mbExp 4 qb j)) (if d.mode = 1 then rnd ph 1 j else .rne))
  let wn := es.zipIdx.flatMap (fun (x : Option ElemOut × Nat) => match x.1 with
    | some e => leBytes e.w 2
    | none => (wb.drop (2 * x.2)).take 2)
  let rn := es.zipIdx.map (fun (x : Option ElemOut × Nat) => match x.1 with
    | some e => BitVec.ofNat 8 (uint 8 e.r)
    | none => rb.getD x.2 0)
  let mn := momentGroup mb (es.zipIdx.map (fun (x : Option ElemOut × Nat) => (x.1.map (·.m), rnd ph 2 x.2))) (fun i => Config.freeValue (s.free + i))
  let qn := momentGroup qb (es.zipIdx.map (fun (x : Option ElemOut × Nat) => (x.1.map (·.q), rnd ph2 2 x.2))) (fun i => Config.freeValue (s.free + 512 + i))
  let outs := [(wr, wn), (mr, mn.1), (qr, qn.1)] ++ (if d.mode = 2 then [(rr, rn)] else [])
  let lns := linesOf (outs.map (·.1))
  let u := lns.foldl (fun x ln => undoFirst p x ln) ({ s with free := s.free + 1024 }, false)
  if u.2 then u
  else
    let t := ((u.1.kilnStore outs lns).kilnShadow p lo n wn (mn.2 + qn.2)).kilnTally k es
    (t.ratioAdd p (es.zipIdx.filterMap (fun (x : Option ElemOut × Nat) => x.1.map (fun e => (e.delta, bf16.decode (recNat wb (2 * x.2) 2))))), false)

/-- The groups of a part in ascending order until one meets poison, which is consumed (05 R184, R185), or its undo record does not fit. The flag
says that the part went to its end. -/
def State.kilnGroups (s : State) (p : KilnPart) (f : State → Nat → Nat → State × Bool) : List Nat → State × Bool
  | [] => (s, true)
  | g :: gs =>
    let lo := 512 * g
    let n := min 512 (p.count - lo)
    let s := s.each (p.reads lo n) (fun s x => s.touchRange x.1 x.2 1)
    match (linesOf (p.reads lo n)).find? (fun ln => (s.line ln).2) with
    | some ln => (s.consume ln (432 + p.stack) p.stream p.job, false)
    | none =>
      let r := f s lo n
      if r.2 then (r.1, false) else r.1.kilnGroups p f gs

/-- Whether a part must wait for a channel that a retraining slice has taken offline (06 R215). (log 47, DESIGN CHOICE) -/
def State.kilnWaits (s : State) (p : KilnPart) : Bool :=
  let d := p.desc
  let gs := (List.range (ceilDiv p.count 512)).map (fun g => (512 * g, min 512 (p.count - 512 * g)))
  let shadow := if d.op = 1 ∨ d.shadow = 0 then [] else gs.map (fun g => groupRange d.shadowFmt (d.inStack d.shadow p.stack) g.1 g.2)
  s.retraining && s.offline (linesOf (gs.flatMap (fun g => p.reads g.1 g.2) ++ shadow)) s.adderChan

/-- KILN_UPDATE (05 R173, R179): a frozen tensor's part does nothing but end. (log 6, DESIGN CHOICE) -/
def execKilnUpdate (k : Fin 12) (id : Nat) (s : State) : Host.Outcome State Fault Refusal :=
  .next (match s.kilnReady k id 0 with
    | none => s
    | some p =>
      if p.desc.frozen then s.kilnEnd k id
      else if s.kilnWaits p then s
      else
        let c := clipFactor p.desc (s.kilnUnit k).globalSS
        let r := s.kilnGroups p (fun s lo n => s.kilnGroup p c lo n) (List.range (ceilDiv p.count 512))
        if r.2 then r.1.kilnEnd k id else r.1)

/-- The squares of a group's use-sums enter PART_SS (05 R187). (log 38, DESIGN CHOICE) -/
def State.normGroup (s : State) (p : KilnPart) (lo n : Nat) : State × Bool :=
  let d := p.desc
  let gs := (d.g.take d.uses).map (fun a => let x := groupRange d.gFmt (d.inStack a p.stack) lo n; s.view x.1 x.2)
  let r := (List.range n).foldl (fun a j => a.add (useSum d.gFmt gs j)) (SquareSum.of (s.kilnUnit p.stack).partSS)
  (((s.modKiln p.stack (fun u => { u with partSS := r.bits })).bump 0x3103 5 r.misfits).kilnOver p r.refused, false)

/-- KILN_NORM (05 R173, R187). -/
def execKilnNorm (k : Fin 12) (id : Nat) (s : State) : Host.Outcome State Fault Refusal :=
  .next (match s.kilnReady k id 1 with
    | none => s
    | some p =>
      if p.desc.frozen then s.kilnEnd k id
      else if s.kilnWaits p then s
      else
        let r := s.kilnGroups p (fun s lo n => s.normGroup p lo n) (List.range (ceilDiv p.count 512))
        if r.2 then r.1.kilnEnd k id else r.1)

/-- KILN_DESCRIPTOR_COMPLETE (05 R178): every part has ended and its writes are in place; DONE_COUNTER rises once. -/
def execKilnDescriptorComplete (id : Nat) (s : State) : Host.Outcome State Fault Refusal :=
  let ps := s.kiln.units.toList.flatMap (fun (u : KilnUnit) => u.parts.filter (fun (p : KilnPart) => p.id == id))
  .next (match ps with
    | [] => s
    | p :: _ =>
      if ps.all (fun (x : KilnPart) => x.stage == .finished) then
        let s := { s with kiln := { s.kiln with units := s.kiln.units.map (fun (u : KilnUnit) => { u with parts := u.parts.filter (fun (x : KilnPart) => x.id != id) }) } }
        if p.desc.doneEn then s.counterAdd p.desc.doneCounter.toNat 1 else s
      else s)

end Sys2Proof.Machine
end

