-- ==== Sys2Proof/Machine/EscOps.lean ====
section
/-! DEFINITION. What the Escapement does between its commands (05 R190, R191; 10 R357 to R382): a run's start, rollback, CHECK and the bound test,
the verdict, resolution, the vote, COMMIT with the trend test and the epoch clearance, and guest runs. -/

namespace Sys2Proof.Machine

/-! ## Runs -/

/-- Streams of the gated job. -/
def State.gatedStreams (s : State) : List Nat :=
  (List.range 64).filter (fun i => (s.stream i).state != .disabled && (s.stream i).job == s.gatedJob)

/-- Discard the queued work of a job without stopping it (10 R370); the commit vote of the gate is not the job's work (10 R362). -/
def State.dropWork (s : State) (j : Nat) : State :=
  let s := s.each (List.range 144) (fun s c => s.stopCore c j)
  let s := s.modFabric (fun f => { f with
    requests := f.requests.map (fun (r : Request) => if r.job = j then { r with unit := .gone } else r)
    waiting := f.waiting.filter (fun x => x.1.job != j || votePacket x.2) })
  { s with kiln := { s.kiln with units := s.kiln.units.map (fun (u : KilnUnit) => { u with parts := u.parts.filter (fun (p : KilnPart) => p.job != j) }) }
           coll := { s.coll with queue := s.coll.queue.filter (fun (d : CollDesc) => d.job != j)
                                 running := s.coll.running.filter (fun (r : CollRun) => r.desc.job != j || 0xFFFF0000 ≤ r.desc.opid.toNat) } }

/-- Begin a run: digests, reports and sums start afresh, and every stream has its STEP_END to do (10 R359, 05 R188). -/
def State.beginRun (s : State) : State :=
  let s := (s.modEsc (fun e => { e with
    reasons := [], residues := [], reported := 0, quarterFp := [], ownFp := none, deadline := false, verdict := none, voted := false, ud := 0, od := 0
    outSeq := 0, inputPos := 0, assays := [], ratioDone := false, rolling := false, guestWait := false })).clearSums
  let s := { s with kiln := { s.kiln with units := s.kiln.units.map (fun (u : KilnUnit) => { u with ranges := [] }) } }
  s.each s.gatedStreams (fun s i => s.modStream i (fun x => { x with stepEnded := false }))

/-- Run the recorded commands again (10 R371): those of this device, or of the suspect in a guest run. -/
def State.runAgain (s : State) : State :=
  let l := s.esc.ledger.filter (fun (r : LedgerRec) => r.kind == 3 && r.flags.getLsbD 1 == s.guesting)
  (s.modEsc (fun e => { e with replay := l.map (fun (r : LedgerRec) => (r.source.toNat, r.arg, r.payload.headD 0)) })).settle

/-- Roll the step back and discard the job's work (10 R370). -/
def State.rollBack (s : State) : State := (s.dropWork s.gatedJob).rollbackData

/-! ## The step record (10 R355) -/

/-- Pairs of a list of 16-byte entries. -/
def pairsOf (b : List Byte) (n : Nat) : List (Nat × Nat) := (List.range n).map (fun i => (recNat b (16 * i) 8, recNat b (16 * i + 8) 8))

/-- A step record from its 64 bytes and its two lists. -/
def stepRecOf (r inw fpr : List Byte) : StepRec :=
  { step := BitVec.ofNat 64 (recNat r 0 8), inwins := pairsOf inw (recNat r 32 2), fprs := pairsOf fpr (recNat r 36 2), keyAddr := recNat r 24 8
    axes := BitVec.ofNat 8 (recNat r 38 1), fpEn := (recNat r 39 1).testBit 0 }

/-- Lines of bytes, the last padded with zeros. -/
def linesOfBytes (b : List Byte) : List Line := (chunks 64 b).map lineOf

/-- The job's counters and barrier phases as the STEP record's payload holds them: 16 bytes each. -/
def snapBytes (cs : List (Nat × Counter)) (ss : List (Nat × Slot)) : List Byte :=
  cs.flatMap (fun x => leBytes ((if x.2.ovf then 256 else 0) + (if x.2.unf then 512 else 0) + 2 ^ 16 * x.1 + 2 ^ 32 * x.2.val.toNat) 16) ++
  ss.flatMap (fun x => leBytes (1 + 2 ^ 16 * x.1 + 2 ^ 32 * x.2.phase.toNat) 16)

/-- Take the counters and phases of a STEP record's payload into the job's own blocks and slots. -/
def State.takeSnap (s : State) (b : List Byte) : State :=
  s.each (chunks 16 b) (fun s e =>
    let n := recNat e 2 2
    let v := BitVec.ofNat 32 (recNat e 4 4)
    if recNat e 0 1 = 1 then (if s.slotOwner n = s.gatedJob then s.setSlot n { s.slot n with phase := v } else s)
    else if s.counterOwner n = s.gatedJob then s.setCounter n { val := v, ovf := (recNat e 1 1).testBit 0, unf := (recNat e 1 1).testBit 1 } else s)

/-! ## Policy and reasons (10 R369) -/

/-- The action that policy gives a reason (10 Table 6). -/
def State.actionOf (s : State) (c : Nat) : Nat :=
  match c with
  | 3 => s.objGet 0x3102 0
  | 4 => s.objGet 0x3120 2
  | c => s.objGet 0x3203 c

/-- Reasons of the run with an action other than 0. -/
def State.actingReasons (s : State) : List Nat := s.esc.reasons.eraseDups.filter (fun c => s.actionOf c != 0)

def State.addReason (s : State) (c : Nat) : State := s.modEsc (fun e => { e with reasons := e.reasons ++ [c] })

/-! ## The bound test (05 R190) -/

/-- The bound test of every entry touched in the step; a failure is reported in its quarter. While the test is disabled (object 0x3121.0 = 0) no failure is
counted in object 0x3121.7 either. (log 39, DESIGN CHOICE) -/
def State.boundTest (s : State) : State :=
  let s := s.each s.kiln.ratio (fun s (x : Nat × RatioEntry) =>
    if !x.2.touched then s
    else
      let put := fun (s : State) (e : RatioEntry) => { s with kiln := { s.kiln with ratio := tset RatioEntry.reset s.kiln.ratio x.1 e } }
      match ratioOf x.2.sumD x.2.sumW with
      | none => State.bump (put s { x.2 with touched := false }) 0x3121 9 1
      | some v =>
        let s := put s { x.2 with rho := BitVec.ofNat 32 (fp32.enc .rne v) }
        if s.objGet 0x3121 0 = 1 ∧ (v.isNan || (f32 (s.objGet 0x3121 1)).lt v) = true then (s.bump 0x3121 7 1).reason (x.1 / 1024) 5 else s)
  s.modEsc (fun e => { e with ratioDone := true })

/-! ## Fingerprints (10 R358) -/

/-- Whether the run exchanges fingerprints: FP_EN, but not in the Open profile (10 R347, R358, R361). -/
def State.needsFp (s : State) : Bool := s.esc.profile != 0 && (match s.esc.record with
  | some r => r.fpEn
  | none => false)

/-- Whether the twin's record has arrived: of this run, or, while the step is resolved, of any run of it, since the twin makes no run of that number of
its own (10 R358, R374). (log 39, DESIGN CHOICE) -/
def State.twinHere (s : State) : Bool := match s.esc.twinFp with
  | some f => f.step == s.stepNumber && (f.run == s.esc.run % 256 || !s.esc.seen.isEmpty)
  | none => false

/-- A quarter's Grist scans its fingerprint ranges in list order; poison is a POISON_STATE reason. -/
def State.scanQuarter (s : State) (q : Nat) : State :=
  let rs := ((s.esc.record.map (·.fprs)).getD []).filter (fun r => stackOf r.1 / 3 == q)
  let s := s.each rs (fun s r =>
    let s := s.touchRange r.1 r.2
    let bad := s.viewPoison r.1 r.2
    let s := s.deviceScan r.2 bad
    if bad then s.addReason 10 else s)
  let b := rs.flatMap (fun r => s.view r.1 r.2)
  s.modEsc (fun e => { e with quarterFp := e.quarterFp ++ [(q, BitVec.ofNat 64 (crc64 b), BitVec.ofNat 64 b.length)] })

/-- The device gate combines the four quarter records in quarter order and sends the record to the twin's slot, the first line of its ledger
share of H0. -/
def State.sendFp (s : State) : State :=
  let part := fun q => ((s.esc.quarterFp.find? (fun x => x.1 == q)).map (·.2)).getD (0, 0)
  let v := (List.range 4).foldl (fun (acc : Nat × Nat) q =>
    let p := part q
    (if acc.2 = 0 then p.1.toNat else if p.2 = 0 then acc.1 else crcCombine 2 acc.1 p.1.toNat p.2.toNat, acc.2 + p.2.toNat)) (crc64 [], 0)
  let s := s.modEsc (fun e => { e with ownFp := some (BitVec.ofNat 64 v.1, BitVec.ofNat 64 v.2) })
  if s.objGet 0x6000 1 = 0 then s
  else
    let dst := BitVec.ofNat 17 (s.objGet 0x6000 0)
    let d := lineOf (leBytes s.stepNumber.toNat 8 ++ leBytes (s.esc.run % 256) 1 ++ leBytes v.1 8 ++ leBytes v.2 8)
    let a := 2 ^ 41 + 64 * GiB - s.tailBytes
    s.request { newRequest dst 0 .escapement 8 64 1 with addr := a }
      (packetLoad { blankPacket dst (s.ep.getD 0) 0 1 0 with addr := BitVec.ofNat 42 a } [d] [false])

/-! ## The vote (10 R362) -/

/-- OPID of a round's vote. (log 31, DESIGN CHOICE) -/
def State.voteOpid (s : State) : BitVec 32 := BitVec.ofNat 32 (0xFFFF0000 + (s.stepNumber.toNat * 8 + s.esc.rounds) % 65536)

/-- Contribute to the vote of the round: with COMMIT_AXES 0 the device votes alone, otherwise an ALL_REDUCE of two INT32 elements. (log 31, DESIGN CHOICE) -/
def State.castVote (s : State) (revoke fail : Bool) : State :=
  let s := s.modEsc (fun e => { e with verdict := some true, voted := true, revoke := revoke, failVote := fail })
  let axes := (s.esc.record.map (·.axes)).getD 0
  if axes = 0 then s
  else
    let op := s.voteOpid
    let d : CollDesc := { op := 0, inFmt := 3, wire := 2, outFmt := 3, axes := axes, rnd := 0, locality := 0, waitEn := false, doneEn := false, phase := 0
                          src := 0, dst := 0, count := 2, elemBase := 0, tensorId := 0, opid := op, waitCounter := 0, doneCounter := 0, waitValue := 0
                          doneInc := 0, job := s.gatedJob, stream := 64, command := 0 }
    let r : CollRun := { desc := d, steps := axesOf axes, gather := false, lo := 0, hi := 2, vals := [if revoke then 1 else 0, if fail then 1 else 0]
                         poisons := [false, false], rxPlus := [], rxMinus := [], sentPlus := 0, sentMinus := 0, givenPlus := 0, givenMinus := 0
                         ranges := [], finished := false }
    ({ s with coll := { s.coll with running := s.coll.running ++ [r], ended := s.coll.ended.filter (· != op) } }).ringAdvance s.gatedJob op ringFuel

/-- A device that has failed the step votes so (10 R374, R375, R378). (log 11, DESIGN CHOICE; log 39, DESIGN CHOICE) -/
def State.failStep (s : State) (code : BitVec 16) : State := ((s.modEsc (fun e => { e with failCode := code })).deduct 10 300 true).castVote false true

/-! ## The verdict and its resolution (10 R361, R374 to R377) -/

/-- Leave CHECK for REPLAY: a rollback begins, and the next run is local or live. -/
def State.toReplay (s : State) (isLocal : Bool) : State :=
  s.modEsc (fun e => { e with phase := .replay, rolling := true, localRun := isLocal, verdict := some false })

/-- The next local run of a resolution, up to the limit of object 0x3201.5 (10 R374). -/
def State.nextLocal (s : State) : State :=
  let r := s.esc.resolveRuns + 1
  if s.objGet 0x3201 5 ≤ r then s.failStep 0x0A02
  else (s.modEsc (fun e => { e with resolveRuns := r })).toReplay true

/-- The device that may compute a guest run: the twin, else the cellar partner (10 R372, 11 R393). -/
def State.partner (s : State) : Option (BitVec 17) :=
  if s.objGet 0x6000 1 = 1 then some (BitVec.ofNat 17 (s.objGet 0x6000 0))
  else if s.objGet 0x6000 3 = 1 then some (BitVec.ofNat 17 (s.objGet 0x6000 2))
  else none

/-- The twin's fingerprint record differs from the device's own (10 R358). (log 39, DESIGN CHOICE) -/
def State.checkTwin (s : State) : State :=
  match s.esc.twinFp, s.esc.ownFp with
  | some f, some o => if s.needsFp && s.twinHere && f.value != o.1 then s.addReason 6 else s
  | _, _ => s

/-- A step is counted as suspect once (10 R384). -/
def State.noteSuspect (s : State) (acts : List Nat) : State :=
  if acts.isEmpty || s.esc.found then s else (s.bump 0x3204 1 1).modEsc (fun e => { e with found := true })

/-- A reason whose action stops the device: code 0x0A03 for reason 10; the code of another is open. -/
def State.stopVerdict (s : State) (stops : List Nat) : State :=
  if stops.contains 10 then s.escStop 0x0A03
  else
    let f := s.takeFree
    f.2.escStop (BitVec.ofNat 16 (openCode f.1))

/-- A suspect run of a step with no other reason than those left (10 R374): a guest run where every action asks for one and a partner is there,
otherwise a local run. -/
def State.resolveFirst (s : State) (sus : List Nat) (d : Word × Word) : State :=
  let s := s.modEsc (fun e => { e with seen := [d], resolveRuns := 0, verdict := some false })
  match if sus.all (fun c => s.actionOf c == 1) then s.partner else none with
  | some p => (s.modEsc (fun e => { e with guestWait := true })).emit (.guest p 0 d.1 d.2)
  | none => s.nextLocal

/-- The verdict of a run that no earlier run of the step was compared with: a replay for block overflow, a clean vote, or a resolution. -/
def State.firstVerdict (s : State) (acts : List Nat) (d : Word × Word) : State :=
  let s := if s.esc.localRun then s else s.modEsc (fun e => { e with odSent := e.od })
  if acts.contains 3 && decide (s.esc.overflowRuns < s.objGet 0x3102 1) then
    (s.modEsc (fun e => { e with overflowRuns := e.overflowRuns + 1 })).toReplay true
  else
    let sus := acts.filter (· != 3)
    if sus.isEmpty then s.castVote (d.2 != s.esc.odSent) false else s.resolveFirst sus d

/-- The verdict of the device gate: a stop, a run that replaces the one in place, a resolution, or a contribution to the vote. A run that agrees with an
earlier one and is suspect itself, by a reason of its own or at its deadline, is resolved again (10 R376); a FINGERPRINT reason does not count there, since
the twin may be the one in error, nor does block overflow, whose runs R377 limits. (log 39, DESIGN CHOICE) -/
def State.decideVerdict (s : State) : State :=
  let s := s.checkTwin
  let d := (s.esc.ud, s.esc.od)
  let acts := s.actingReasons
  let s := s.noteSuspect acts
  let stops := acts.filter (fun c => s.actionOf c == 3)
  if !stops.isEmpty then s.stopVerdict stops
  else if !s.esc.seen.isEmpty then
    if s.esc.seen.contains d && (acts.filter (fun c => c != 3 && c != 6)).isEmpty then s.castVote (d.2 != s.esc.odSent) false
    else (s.modEsc (fun e => { e with seen := e.seen ++ [d] })).nextLocal
  else s.firstVerdict acts d

/-- Form the verdict once every quarter gate has reported and the twin's record has arrived. -/
def State.tryVerdict (s : State) : State :=
  if s.esc.phase = .check ∧ s.esc.verdict = none ∧ s.esc.reported = 15 ∧ (!s.needsFp || s.twinHere) = true then s.decideVerdict else s

/-- The check deadline: a quarter that has not reported is MISSING, a twin that has not is TWIN_SILENT (10 R361). -/
def State.passDeadline (s : State) : State :=
  if s.esc.phase = .check ∧ s.esc.verdict = none then
    let s := s.each ((List.range 4).filter (fun q => !s.esc.reported.getLsbD q)) (fun s _ => s.addReason 8)
    let s := if s.needsFp && !s.twinHere then s.addReason 9 else s
    (s.modEsc (fun e => { e with reported := 15 })).decideVerdict
  else s

/-! ## The end of COMPUTE (10 R360) and guest runs (10 R372) -/

/-- Whether everything the gated job issued has completed and every stream has executed STEP_END. -/
def State.computeOver (s : State) : Bool :=
  let j := s.gatedJob
  s.gatedStreams.all (fun i => (s.stream i).stepEnded) && s.esc.replay.isEmpty &&
  s.cores.toList.all (fun (x : Core) => (x.run == .idle || (s.stream x.stream).job != j) &&
    x.dma.toList.all (fun (e : DmaEngine) => e.queue.all (fun r => r.job != j) && e.running.all (fun r => r.req.job != j))) &&
  s.kiln.units.toList.all (fun (u : KilnUnit) => u.parts.all (fun (p : KilnPart) => p.job != j)) &&
  s.coll.queue.all (fun (d : CollDesc) => d.job != j) && s.coll.running.all (fun (r : CollRun) => r.desc.job != j || 0xFFFF0000 ≤ r.desc.opid.toNat)

/-- The ledger records of a guest request; the flag says that they do not fit. -/
def State.addGuest (s : State) (l : List GuestRec) : State × Bool :=
  l.foldl (fun (acc : State × Bool) g =>
    if acc.2 then acc
    else acc.1.ledgerAdd { plainRec g.kind g.stack g.addr g.payload with
      flags := 2 + (if g.poison then 1 else 0), source := g.source, outSeq := g.outSeq, ptype := g.ptype, sub := g.sub, pos := g.pos, arg := g.arg }) (s, false)

/-- The suspect's step record and what follows it in the payload of its STEP record. -/
def guestStep (l : List GuestRec) : StepRec × List Byte :=
  let b := ((l.find? (fun g => g.kind == 1)).map (fun g => g.payload.flatMap lineBytes)).getD []
  let r := b.take 64
  let ni := 64 * ceilDiv (16 * recNat r 32 2) 64
  let nf := 64 * ceilDiv (16 * recNat r 36 2) 64
  (stepRecOf r ((b.drop 64).take ni) ((b.drop (64 + ni)).take nf), b.drop (64 + ni + nf))

/-- A request answered with a decline. -/
def State.decline (s : State) (src : BitVec 17) : State := s.emit (.guest src 2 0 0)

/-- Whether the newest sealed epoch is one of a suspect at its last committed step, and every range of it lies in a stack-local window of this device's own
memory division (11 R393). -/
def State.epochFits (s : State) (a : GuestAsk) : Bool :=
  decide (s.rack.newest < 2) && (List.range 12).all (fun k =>
    let h := s.cellarHdr s.rack.newest k
    h.sender == a.src && h.snapStep == a.last && h.ranges.all (fun r => s.window r.start == some (5 + k) && s.inOneWindow r.start r.length))

/-- Whether this device may compute a guest run for another: for its twin, or for the sender whose cellar it hosts under 11 R393. Whether anything else uses
the addresses of an epoch no rule tells the device: a free value. -/
def State.mayHost (s : State) (a : GuestAsk) : Bool :=
  (s.objGet 0x6000 1 == 1 && s.objGet 0x6000 0 == a.src.toNat) ||
  (s.objGet 0x6000 5 == 1 && s.objGet 0x6000 4 == a.src.toNat && s.objGet 0x6000 6 == 1 && s.epochFits a && Config.freeValue s.free % 2 == 1)

/-- A step that needs a replay holds a record that cannot be used for one: the gated job stops with 0x0A06 (10 R368). -/
def State.unlessBad (s : State) (f : State → State) : State := if s.ledgerBad then s.escStop 0x0A06 else f s

/-- Answer a guest request in CHECK: declined, or this device's own run is put aside and rolled back and the suspect's step runs (10 R372). (log 39, DESIGN CHOICE) -/
def State.hostGuest (s : State) (a : GuestAsk) : State :=
  let twin := s.objGet 0x6000 1 == 1 && s.objGet 0x6000 0 == a.src.toNat
  let ok := s.mayHost a
  let s := { s with free := s.free + 1 }
  if s.objGet 0x3201 7 = 0 ∨ ok = false ∨ s.actingReasons ≠ [] ∨ s.esc.seen ≠ [] then s.decline a.src
  else
    let x := s.addGuest a.records
    if x.2 then s.decline a.src
    else if s.ledgerBad then (s.decline a.src).escStop 0x0A06
    else
      let s := x.1.bump 0x3204 3 1
      let k : EscKeep := { record := s.esc.record, reasons := s.esc.reasons, residues := s.esc.residues, reported := s.esc.reported, ud := s.esc.ud, od := s.esc.od, localRun := s.esc.localRun }
      let v := (s.esc.quarterFp, s.esc.ownFp, s.esc.deadline, s.esc.verdict, s.esc.voted)
      let s := s.rollBack.beginRun
      let g := guestStep a.records
      let s := s.modEsc (fun e => { e with phase := .guest, guestOf := some a.src, localRun := true, keep := some k, record := some g.1, kept := 0
                                           quarterFp := v.1, ownFp := v.2.1, deadline := v.2.2.1, verdict := v.2.2.2.1, voted := v.2.2.2.2 })
      let s := if twin then s
        else s.each (s.cellarBlocks s.rack.newest) (fun s b => s.each b.2.zipIdx (fun s (l : (Line × Bool) × Nat) =>
          s.tunWrite (b.1 / 64 + l.2) l.1.1 fullMask l.1.2))
      (s.takeSnap g.2).runAgain

/-- The guest run has ended: its digest goes back, and this device rolls back and runs its own step again (10 R372), unless that has a record it cannot use
(10 R368). -/
def State.guestEnd (s : State) (src : BitVec 17) : State :=
  let s := s.emit (.guest src 1 s.esc.ud s.esc.od)
  let v := (s.esc.quarterFp, s.esc.ownFp, s.esc.deadline, s.esc.verdict, s.esc.voted)
  State.unlessBad (s.modEsc (fun e => { e with guestOf := if s.ledgerBad then none else e.guestOf })) (fun s =>
  let s := (s.rollBack.beginRun).bump 0x3204 2 1
  (s.modEsc (fun e => { e with guestOf := none, record := (e.keep.map (·.record)).getD e.record, localRun := true
                               ledger := e.ledger.filter (fun (r : LedgerRec) => r.kind == 6 || !r.flags.getLsbD 1)
                               quarterFp := v.1, ownFp := v.2.1, deadline := v.2.2.1, verdict := v.2.2.2.1, voted := v.2.2.2.2 })).runAgain)

/-- This device's own step has run again: it must agree with its original, and CHECK goes on (10 R372). (log 39, DESIGN CHOICE) -/
def State.resumeCheck (s : State) (k : EscKeep) : State :=
  if (s.esc.ud, s.esc.od) ≠ (k.ud, k.od) then (s.deduct 10 300 true).escStop 0x0A02
  else
    let s := ((s.modEsc (fun e => { e with phase := .check })).boundTest.modEsc (fun e =>
      { e with reasons := k.reasons, residues := k.residues, reported := k.reported, localRun := k.localRun, keep := none })).releaseIn
    if s.esc.deadline then s.passDeadline else s.tryVerdict

/-- COMPUTE ends: the bound test runs, the deadline starts, and a guest request that waited is answered. -/
def State.enterCheck (s : State) : State :=
  let s := ((s.modEsc (fun e => { e with phase := .check })).boundTest).releaseIn
  match s.esc.guestAsk with
  | some a => (s.modEsc (fun e => { e with guestAsk := none })).hostGuest a
  | none => s

/-! ## COMMIT (10 R363, R382; 05 R191) -/

/-- log2 of a ratio as the trend test takes it (05 R191): of a positive number, rounded once to FP32; of any other the spec states none, FP32
bits that are free. (log 39, DESIGN CHOICE) -/
def log2Rho (rho : BitVec 32) (free : Nat) : FVal :=
  let v := f32 rho.toNat
  if v.isFin && !v.isNeg && !v.isZero then toF32 (log2Of v) else f32 free

/-- The trend test of one entry; the flag says that the alarm is raised. (log 39, DESIGN CHOICE) -/
def RatioEntry.trend (e : RatioEntry) (l alpha band : FVal) (steps : Nat) (warm : Bool) : RatioEntry × Bool :=
  let mu := f32 e.mu.toNat
  let put := fun (v : FVal) => BitVec.ofNat 32 (fp32.enc .rne v)
  let diff := toF32 (l.add mu.neg)
  let next := put (toF32 (mu.add (toF32 (alpha.mul diff))))
  if e.seen = 0 then ({ e with mu := put l, seen := 1 }, false)
  else if warm then ({ e with mu := next, seen := e.seen + 1 }, false)
  else if band.lt diff.abs then ({ e with dev := e.dev + 1, seen := e.seen + 1 }, e.dev + 1 == steps)
  else ({ e with dev := 0, mu := next, seen := e.seen + 1 }, false)

/-- The trend test after a commit (05 R191), firmware policy. -/
def State.trendTest (s : State) : State :=
  let warm := decide (s.kiln.warm < s.objGet 0x3121 5)
  let s := s.each s.kiln.ratio (fun s (x : Nat × RatioEntry) =>
    if !x.2.touched then s
    else
      let f := s.takeFree
      let s := f.2
      let r := x.2.trend (log2Rho x.2.rho (f.1 % 2 ^ 32)) (f32 (s.objGet 0x3121 2)) (f32 (s.objGet 0x3121 3)) (s.objGet 0x3121 4) warm
      let s := { s with kiln := { s.kiln with ratio := tset RatioEntry.reset s.kiln.ratio x.1 r.1 } }
      if r.2 then
        let s := (s.bump 0x3121 8 1).eventOpen 0x3121
        { s with rack := { s.rack with alarm := true } }
      else s)
  { s with kiln := { s.kiln with warm := s.kiln.warm + 1 } }

/-- The newest epoch is clear when, at the commit H steps after its snapshot, no alarm has been raised and no deviation is counted, whether it is sealed by
then or not; it is CLEARED once it is both (10 R382). One that is not clear there is judged again at every later commit, since no other could start
before. (log 39, DESIGN CHOICE) -/
def State.clearEpoch (s : State) (step : Word) : State :=
  let r := s.rack
  if r.state = 0 ∨ 4 ≤ r.state ∨ step.toNat < r.snap.toNat + s.objGet 0x3201 9 then s
  else
    let ok := r.clear || (!r.alarm && s.kiln.ratio.all (fun e => e.2.dev == 0))
    { s with rack := { r with clear := ok, state := if ok && r.state == 3 then 4 else r.state } }

/-- COMMIT completes: the step is committed, the ledger released, an epoch may start, and a stop that waited takes effect (10 R363, R373). A step with any
OVERFLOW reason counts in object 0x3103.4, also where an infinity from finite terms (02 R59) is the only one and no block saturated. (log 1, DESIGN CHOICE; log 39, DESIGN CHOICE) -/
def State.finishCommit (s : State) : State :=
  match s.esc.phase, s.esc.record with
  | .commit, some r =>
    let after := s.esc.stopAfter
    let s := (s.modEsc (fun e => { e with committed := r.step })).bump 0x3204 0 1
    let s := if s.esc.reasons.contains 3 then s.bump 0x3103 4 1 else s
    let s := if s.resil.drill = some 3 then { s with resil := { s.resil with drill := none } } else s
    let s := (((s.trendTest.clearEpoch r.step).startEpoch r.step).releaseLedger).escIdle
    match after with
    | some c => s.stopJobNow s.gatedJob c
    | none => s
  | _, _ => s

end Sys2Proof.Machine
end

