-- ==== Sys2Proof/Machine/RecoveryOps.lean ====
section
/-! DEFINITION. The Remontoire (01 R14, R15; 11 R387 to R391): the map of logical onto physical cores, fencing a failed core, choosing its
spare, and restoring the program on it. -/

namespace Sys2Proof.Machine

/-! ## Physical cores -/

/-- The physical core that a logical core runs on, numbered 40q + p. -/
def State.physOf (s : State) (c : Nat) : Nat := 40 * coreQuarter c + vget s.resil.map c 0

def State.phys (s : State) (n : Nat) : PhysCore := vget s.resil.phys n PhysCore.reset

def State.modResil (s : State) (f : Resil → Resil) : State := { s with resil := f s.resil }

def State.modPhys (s : State) (n : Nat) (f : PhysCore → PhysCore) : State := s.modResil (fun r => { r with phys := vmod r.phys n f })

/-- The logical core of quarter `q` that physical core `p` carries. -/
def State.carriedBy (s : State) (q p : Nat) : Option Nat := ((List.range 36).map (fun i => 36 * q + i)).find? (fun c => vget s.resil.map c 0 == p)

/-- Physical cores of a quarter that are neither mapped, failed nor retired, lowest first (11 R388). -/
def State.spares (s : State) (q : Nat) : List Nat :=
  (List.range 40).filter (fun p => !(s.phys (40 * q + p)).failed && !(s.phys (40 * q + p)).retired && (s.carriedBy q p).isNone)

/-- The map entry of a logical core that no physical core carries. -/
def unmapped : Nat := 255

/-- A quarter that cannot supply 36 logical cores is reported with its failing cores: an event that names object 0x6001, whose DETAIL holds the quarter
in its byte 0 and bit 8 + p for failing core p (01 R15). (log 11, DESIGN CHOICE) -/
def State.reportQuarter (s : State) (q : Nat) (good : List Nat) : State :=
  let f := s.takeFree
  f.2.event (openCode f.1) 0x6001 (q + 2 ^ 8 * bitsOf 40 (fun p => !good.contains p))

/-- The map after a self-test (01 R15): a listed core counts as failing (11 R391). A quarter with more than four failures puts the device in
FAULT; deductions for spares follow the new map (11 Table 11). `pass` says which physical cores passed. -/
def State.mapCores (s : State) (pass : Nat → Bool) : State :=
  let good := fun (q : Nat) => (List.range 40).filter (fun p => pass (40 * q + p) && !(s.phys (40 * q + p)).retired)
  let s := s.modResil (fun r => { r with
    phys := Vector.ofFn (fun (i : Fin 160) => { r.phys[i] with failed := !pass i.val, residues := 0, mismatches := 0 })
    map := Vector.ofFn (fun (i : Fin 144) => (good (coreQuarter i.val)).getD (i.val % 36) unmapped)
    replQ := [], replacing := []
    deductions := r.deductions.filter (fun d => decide (3 ≤ d.1 % 256)) })
  let s : State := { s with cores := s.cores.map (fun (x : Core) => { x with offline := false }) }
  let s := s.each (List.range 4) (fun s q =>
    let f := 40 - (good q).length
    let s := s.each (List.range (min f 4)) (fun s _ => (s.deduct 0 50 false).spareUsed)
    if f = 4 then s.deduct (1 + 256 * q) 150 false else s)
  let s := s.healthUpdate
  let short := (List.range 4).filter (fun q => decide ((good q).length < 36))
  if short.isEmpty then s
  else
    let f := (s.each short (fun s q => s.reportQuarter q (good q))).takeFree
    f.2.enterFault (openCode f.1)

/-! ## A failed core -/

/-- Abandon every assay that a core is the original of or runs (11 R388, 10 R350). -/
def State.abandonAssays (s : State) (c : Nat) : State :=
  s.each (List.range 144) (fun s d =>
    s.each ((s.core d).assays.filter (fun (a : AssayRec) => d == c || a.origin == c)) (fun s a => (s.dropAssay d a).bump 0x3204 7 1))

/-- Fence a core: issue stops, its array and epilogue queues are discarded (11 Table 3). -/
def Core.fence (x : Core) : Core :=
  { x with fenced := true, stall := .none, wait := .none, arrayQ := [], epiQ := [], current := none, draining := none, drainOut := [], ranges := []
           unclaimed := [], done := [], sleep := .wakeQueued }

/-- Take a core out of the Fusee's queues. -/
def State.unqueue (s : State) (c : Nat) : State :=
  { s with power := { s.power with fusee := s.power.fusee.filter (· ≠ c), fuseeRemontoire := s.power.fuseeRemontoire.filter (· ≠ c)
                                   fuseeSleep := s.power.fuseeSleep.filter (· ≠ c) } }

/-- Whether a drill took a core out of service (11 R423); the drill's target is the core plus 1000 times its physical core. -/
def State.drilled (s : State) (c : Nat) : Bool := s.resil.drill == some 0 && s.resil.drillTarget % 1000 == c

/-- A logical core without a spare goes OFFLINE, which is no sleep (14 R489), and every job with a stream on it stops (11 R391). -/
def State.goOffline (s : State) (c : Nat) : State :=
  let x := s.core c
  let s := s.setCore c { x with offline := true, fenced := false, sleep := .awake }
  let s := s.deduct (2 + 256 * c) 700 false
  let jobs := ((List.range 64).filter (fun i => (s.stream i).progress.any (fun (r : CmdRun) => r.cores.contains c))).map (fun i => (s.stream i).job)
  s.each jobs (fun s j => s.stopJob j 0x0B01)

/-- A quarter without a spare core costs health while it lasts (11 Table 11). -/
def State.noSpare (s : State) (q : Nat) : State := if (s.spares q).isEmpty then s.deductLasting (1 + 256 * q) 150 else s

/-- Map the lowest-numbered spare to a fenced core and queue its wake ahead of every other (11 R388). (log 35, DESIGN CHOICE) -/
def State.startReplacement (s : State) (c : Nat) : State :=
  let q := coreQuarter c
  match s.spares q with
  | [] => s.goOffline c
  | p :: _ =>
    let s := s.modResil (fun r => { r with map := vset r.map c p, replacing := r.replacing ++ [c] })
    let s := (s.modCore c (fun x => { x with sleep := .wakeQueued })).unqueue c
    let s := { s with power := { s.power with fuseeRemontoire := s.power.fuseeRemontoire ++ [c] } }
    if s.drilled c then s
    else
      ((s.deduct 0 50 false).spareUsed).noSpare q

/-- Start the replacement of the cores of a quarter that wait, in order of detection, while none of the quarter is under way (11 R388): one for which no spare
is left goes OFFLINE, and the next is served. -/
def State.serveQueue (s : State) (q : Nat) : State :=
  s.each (s.resil.replQ.filter (fun d => coreQuarter d == q)) (fun s d =>
    if s.resil.replacing.any (fun e => coreQuarter e == q) then s
    else (s.modResil (fun r => { r with replQ := r.replQ.filter (· ≠ d) })).startReplacement d)

/-- The core that a CORE_HANG drill has taken is back among the spares (11 R391). -/
def State.drilledBack (s : State) : State := s.modPhys (s.resil.drillTarget / 1000) (fun p => { p with failed := false })

/-- A core fails (11 R388): it is fenced and its physical core leaves service, listed unless a drill took it (R391). Replacements of one
quarter proceed one at a time, in order of detection; a spare that fails before it has resumed is replaced in its turn, and a drill whose spare fails has
failed (R424). -/
def State.coreFails (s : State) (c : Nat) : State :=
  let x := s.core c
  let again := s.resil.replacing.contains c
  if x.offline || (x.fenced && !again) then s
  else
    let s := if s.drilled c && s.physOf c != s.resil.drillTarget / 1000 then s.drilledBack.drillFails else s
    let drill := s.drilled c
    let s := (if drill then s else s.realEvent 0).modPhys (s.physOf c) (fun p => { p with failed := true, retired := p.retired || !drill })
    let s := ((s.abandonAssays c).modCore c Core.fence).unqueue c
    (s.modResil (fun r => { r with replacing := r.replacing.filter (· ≠ c), replQ := r.replQ ++ [c] })).serveQueue (coreQuarter c)

/-! ## Resuming (11 R389, 04 R153, R154) -/

/-- A replacement core: its stores zero, its banks FREE, and, when a program runs, the newest usable boundary restored with the effect
instructions that have left the core to be skipped. `async` is what its ASYNC register holds, which no rule says. (log 28, DEDUCED) -/
def Core.replaced (x : Core) (async : BitVec 32) : Core :=
  let y := { x.clear with
    icache := [], lmem := [], lPoison := [], side := [], acc := [], banks := Vector.replicate 8 Bank.reset
    statActive := Stationary.reset
    statLoading := Stationary.reset, saveBusy := false, fenced := false, sleep := .awake, async := async }
  if x.run = .running ∨ x.run = .brk then
    match x.bounds.span (fun b => !(b.closed && b.saved)) with
    | (newer, b :: older) =>
      let log := if newer.isEmpty then x.effects else b.log
      let later := if newer.isEmpty then [] else (newer.drop 1).reverse.map (·.log) ++ [x.effects]
      { y with run := .running, pc := b.snap.pc, sreg := b.snap.sreg, sPoison := b.snap.sPoison, vreg := b.snap.vreg, vPoison := b.snap.vPoison
               preg := b.snap.preg, regions := b.snap.regions, tables := b.snap.tables, group := b.snap.group, bounds := b :: older
               effects := log, skip := log.count, skipCadds := log.cadds, skipNext := later ++ x.skipNext }
    | (_, []) => { y with run := x.run }
  else { y with run := x.run }

/-- The spare has woken: the program resumes on it, the replacement is counted, a drill ends with its core back among the spares, and the next
replacement of the quarter starts. -/
def State.coreResumes (s : State) (c : Nat) : State :=
  if !s.resil.replacing.contains c || (s.core c).sleep != .awake then s
  else
    let f := s.takeFree
    let s := (f.2.modCore c (fun x => x.replaced (BitVec.ofNat 32 f.1))).bump 0x6001 8 1
    let s := s.modResil (fun r => { r with replacing := r.replacing.filter (· ≠ c) })
    let s := if s.drilled c then s.drilledBack.modResil (fun r => { r with drill := none }) else s
    s.serveQueue (coreQuarter c)

end Sys2Proof.Machine
end

