-- ==== Sys2Proof/Machine/ResetOps.lean ====
section
/-! DEFINITION. Resets and the loss of power (11 R409 to R415; 12 R445; 14 R483 to R485): what each rung of the recovery ladder keeps and
loses, the session epoch, and the PCI Express link. -/

namespace Sys2Proof.Machine

/-! ## Parts that a reset empties -/

/-- A core that has lost everything; its DMA sequence numbers count from power-on (07 R247). (log 35, DESIGN CHOICE) -/
def Core.lost (x : Core) : Core :=
  { Core.reset with dma := x.dma.map (fun (e : DmaEngine) => { DmaEngine.reset with nextSeq := e.nextSeq }), tileSeq := x.tileSeq, reqSeq := x.reqSeq
                    offline := x.offline }

/-- Every core loses its program, local memory and accumulators; the Fusee's queues empty. A core that is waking for the Remontoire stays so. -/
def State.loseCores (s : State) : State :=
  { s with cores := s.cores.map Core.lost, resil := { s.resil with replQ := [], replacing := [], drill := none }
           power := { s.power with fusee := [], fuseeRemontoire := [], fuseeSleep := [] } }

/-- Streams DISABLED, jobs FREE (12 Table 9); the cause of a job's last stop stays (object 0x1024), and the count of DMA signals stays as object 0x5060.9
does (09 R343, Table 8). -/
def State.loseStreams (s : State) : State :=
  { s with streams := Vector.replicate 64 Stream.reset, jobs := s.jobs.map (fun (j : Job) => { Job.reset with cause := j.cause })
           sync := { Sync.reset with dmaSignals := s.sync.dmaSignals }, grist := Grist.reset, coll := { Coll.reset with ended := s.coll.ended } }

/-- A slot is left INVALID, its header zero (13 R472). -/
def Boot.spoil (b : Boot) (i : Nat) : Boot :=
  { b with slotState := vset b.slotState i .invalid, slots := vmod b.slots i (fun m => mclear m 0 4096) }

/-- A write session of an image slot ends: the slot is left INVALID, with the header that came into it zeroed (13 R472). -/
def State.endSession (s : State) : State := match s.boot.session with
  | some (i, _) => { s with boot := Boot.spoil { s.boot with session := none } i }
  | none => s

/-- A power loss: so are a slot being written and one being verified. (log 37, DESIGN CHOICE) -/
def Boot.spoilOpen (b : Boot) : Boot :=
  ((List.range 2).filter (fun i => let x := vget b.slotState i .invalid; x == .writing || x == .verifying)).foldl Boot.spoil b

/-- A rung-2 reset clears the mailbox (12 R455). -/
def State.clearMailbox (s : State) : State :=
  { s with host := { s.host with mbReq := [], mbResp := [], ready := false, busy := false }, fynen := { s.fynen with stagedMb := none } }

/-- A new session epoch (12 R451): a fresh random value, SEQ afresh, the device nonce replaced (13 R473), any write session at an end (13
R472). -/
def State.newEpoch (s : State) : State :=
  let e := s.takeFree
  let n := e.2.takeFree
  let s := n.2
  State.endSession { s with
    fynen := { s.fynen with epochId := BitVec.ofNat 64 e.1, seqMgmt := none, seqHost := none, lastReqT1s := none, lastReqMb := none
                            stagedT1s := none, stagedMb := none, silent := false }
    boot := { s.boot with nonce := leBytes n.1 32 } }

/-- The PCI Express link goes up or down; it stays down while its reference clock is lost (14 R487). -/
def State.pcieLink (s : State) (up : Bool) : State :=
  let up := up && !s.host.refclkLost
  if s.host.linkUp = up then s else (State.emit { s with host := { s.host with linkUp := up } } (.pcie up)).msixFlush

/-- MSI-X after a reset of the PCI Express function: every vector masked, none pending, the function mask clear. (log 4, PRESUMED) -/
def State.msixReset (s : State) : State :=
  { s with host := { s.host with msixTable := [], msixMask := List.range 256, msixPend := [], funcMask := false, d3hot := false } }

/-- What the stop of the jobs has put into a port's injection queue leaves before its transmitters go idle: ORPHAN and ABORT reach the neighbours (09 R317,
R340; 11 Table 9). A port whose packets wait for a table commit sends nothing (08 R302). (log 36, DESIGN CHOICE) -/
def State.sendOut (s : State) (p : Nat) : State :=
  let x := s.port p
  let l := vget x.injQ 1 [] ++ vget x.injQ 0 []
  if !x.carries || x.lostHeld then s
  else ((s.setPort p { x with injQ := Vector.replicate 2 [] }).each l (fun s k => s.emit (.packet (some p) k))).bump 0x5030 2 l.length

/-- Every port of the fabric loses its link; an enabled one trains again when `retrain`. Nothing in flight is kept: a request without its final response is
recorded in doubt and its tokens count as returned, so that the sums of 09 Table 8 hold across the reset (09 R343). (log 36, DESIGN CHOICE) -/
def State.losePorts (s : State) (retrain : Bool) : State :=
  let s := s.each (List.range 12) (fun s p =>
    let s := if (s.port p).carries || (s.port p).state == .parked then s.portDown p else s
    s.modPort p (fun x => { Port.reset with expected := x.expected, written := x.written, inForce := x.expected
                                            state := if retrain && s.objGet 0x5002 p == 1 then .detect else .disabled }))
  let r := s.fabric.requests
  let s := (s.bump 0x5060 1 (r.foldl (fun n (q : Request) => n + q.tokens) 0)).bump 0x5030 6 r.length
  s.modFabric (fun f => { f with inDoubt := f.inDoubt ++ r, requests := [], windows := [], sparge := .none, traffic := false, waiting := [], inHeld := [], held := [] })

/-! ## Tun and HBM -/

/-- Before the stacks enter self-refresh: dirty lines and combining entries are written back (06 R227). -/
def State.writeBack (s : State) : State :=
  let s := s.each (List.range 4) (fun s q => (s.flushAll q).dropCache q)
  (s.each s.mem.adder State.writeBackLine).modMem (fun m => { m with adder := [] })

/-- Tun but T31 is lost, and every slice takes its reset mode (06 R219). -/
def State.loseTun (s : State) : State :=
  let s := s.each (List.range 4) (fun s q =>
    let s := s.each ((List.range 31).filter (fun t => vget s.mem.tunMode (32 * q + t) 0 == 2)) (fun s t => s.clearScratch q t)
    let n := (vget s.mem.comb q []).length
    (s.modMem (fun m => { m with comb := vset m.comb q [], cache := vset m.cache q [] })).bump 0x4012 7 n)
  s.modMem (fun m => { m with tunMode := MemSys.reset.tunMode, tunSwitch := Vector.replicate 4 [], tunAsleep := [], adder := [] })

/-- The contents of stacks are lost. (log 14, DESIGN CHOICE) -/
def State.loseStacks (s : State) (l : List Nat) : State := s.each l (fun s k => (s.freshStack k).dropTail k)

/-! ## The rungs (11 R412) -/

/-- Codes that no rule gives are free. (log 11, DESIGN CHOICE) -/
def State.causeOf (s : State) (c : Option Nat) : Nat × State := match c with
  | some n => (n, s)
  | none => let f := s.takeFree; (openCode f.1, f.2)

/-- Record a reset: its rung, its cause, and its counter in object 0x6040. -/
def State.resetRecord (s : State) (rung cause : Nat) : State :=
  ((s.objSet 0x6040 1 rung).objSet 0x6040 2 cause).bump 0x6040 (1 + rung) 1

/-- Stop every job with 0x0B03; a commit in progress completes first (10 R373). -/
def State.stopForReset (s : State) : State := (s.stopAll 0x0B03).finishCommit

/-- The device enters IDLE; a pending image that booted is confirmed by its first entry (13 R470). -/
def State.toIdle (s : State) : State :=
  let b := s.boot
  let svn := leNat (mgetN zeroByte (vget b.slots b.booted []) 8 4)
  State.setDev (if b.pending = some b.booted then
      { s with boot := { b with confirmed := b.booted, storedSvn := BitVec.ofNat 32 (max b.storedSvn.toNat svn), pending := none, tries := 0
                                slotState := vset b.slotState b.booted .confirmed } }
    else s) .idle

/-- Whether the device takes a rung-2 or rung-3 reset (12 Table 9). -/
def State.takesReset (s : State) : Bool := s.dev.state == .idle || s.dev.state == .run || s.dev.state == .drain

/-- The step that a reset rolls back (object 0x6040.7): the open one, unless it is in COMMIT, which completes; 0 when there is none (11 R412, R414). -/
def State.rolledStep (s : State) : Nat := match s.esc.record, s.esc.phase with
  | some _, .commit => 0
  | some r, _ => r.step.toNat
  | none, _ => 0

/-- Rung 2: the function is re-initialised and the device ends in IDLE (11 Table 8). (log 35, DESIGN CHOICE) -/
def State.reinit (s : State) (cause : Option Nat) : State :=
  let c := s.causeOf cause
  let open_ := s.rolledStep
  let s := ((c.2.dump 2 c.1).setDev .reset).stopForReset
  ((((s.loseCores.loseStreams.clearMailbox.endSession).resetRecord 2 c.1).objSet 0x6040 6 0).objSet 0x6040 7 open_).toIdle

/-- Rung 3 up to the run of the ROM (11 Table 9): jobs stopped, the open step rolled back from the ledger (its number kept for object 0x6040.7),
Tun written back, stacks in self-refresh, links down. A stack in TEST stays there, with no zero fill (06 R216). (log 6, DESIGN CHOICE; log 36, DESIGN CHOICE) -/
def State.warm (s : State) (cause : Option Nat) : State :=
  let c := s.causeOf cause
  let s := (c.2.dump 3 c.1).setDev .reset
  let open_ := s.rolledStep
  let s := (s.stopForReset.each (List.range 12) State.sendOut).rackAbandon
  let s := (s.writeBack.loseTun).modMem (fun m => { m with tgState := if m.tgState = 1 then 3 else m.tgState })
  let s := s.each (List.range 12) (fun s k => s.modStack k (fun x =>
    { x with state := if x.state = .failed ∨ x.state = .test then x.state else .selfRefresh, window := none, retrainQ := [], zeroFilling := false }))
  let s := ((s.losePorts true).pcieLink false).msixReset
  let s := ((s.loseCores.loseStreams.clearMailbox).resetRecord 3 c.1).objSet 0x6040 7 open_
  let s := s.modResil (fun r => { r with resetRung := 3, lostStacks := 0 })
  { s with boot := { s.boot with booted := 0xFF }
           kiln := { Kiln.reset with ratio := s.kiln.ratio }.restartTrend, fynen := { s.fynen with silent := false } }

/-- Every rail but VAON goes off: HBM, Tun, cores, streams and every unit lose their state (11 Table 8, 14 R484). (log 36, DESIGN CHOICE) -/
def State.fastOff (s : State) : State :=
  let s := (s.losePorts false).modFabric (fun f => { Fabric.reset with ports := f.ports, inDoubt := f.inDoubt, nextTag := f.nextTag })
  let s := (s.loseTun.loseStacks (List.range 12)).modMem (fun m => { MemSys.reset with
    cells := m.cells, poison := m.poison, hbm := m.hbm.map (fun (x : Stack) => { Stack.reset with fill := x.fill }), fillNext := m.fillNext, poisonLog := m.poisonLog })
  let s := ((s.pcieLink false).msixReset.clearMailbox).loseCores.loseStreams
  { s with cores := Vector.replicate 144 Core.reset, coll := Coll.reset, kiln := Kiln.reset, esc := Esc.reset
           rack := { Rack.reset with epoch := s.rack.epoch }
           power := { s.power with rails := 0, quarterClocks := false, thermalStep := Vector.replicate 4 0, powerStep := 0
                                   step := Vector.replicate 4 0, sensors := Vector.replicate 4 [] }
           boot := { s.boot with booted := 0xFF, quarterFw := Vector.replicate 4 [] } }

/-- Rung 4 (11 R415): a dump to the eMMC, the fast domains off, STANDBY; buddies are cleared, the coordinate stays. (log 36, DESIGN CHOICE) -/
def State.powerCycle (s : State) (cause : Option Nat) : State :=
  let c := s.causeOf cause
  let s := (c.2.dump 4 c.1).stopForReset.fastOff.endSession
  let s := s.each (List.range 6) (fun s m => s.objSet 0x6000 m 0)
  let s := ((s.resetRecord 4 c.1).objSet 0x6040 6 0xFFF).objSet 0x6040 7 0
  let s := s.modResil (fun r => { r with resetRung := 0 })
  State.setDev { s with dev := { s.dev with wantIdle := s.objGet 0x1010 3 == 2, powerCycling := true, resetHeld := false }
                        power := { s.power with tripped := false } } .standby

/-- Both inputs are gone (14 R483): OFF, with nothing kept but the eMMC: RPMB records, image slots, health score, retired list, power-on target,
Fynen keys and dumps, of which one not yet copied out of T31 leaves its slot invalid (11 R411). The counters of the model's own and the world outside stay. (log 27, DESIGN CHOICE) -/
def State.powerLost (s : State) : State :=
  let o := s.loseStacks (List.range 12)
  let r := State.reset
  let b := s.boot.spoilOpen
  { r with
    pending := s.pending, hostMem := s.hostMem, hostPoison := s.hostPoison, out := s.out, free := s.free
    mem := { r.mem with hbm := o.mem.hbm.map (fun (x : Stack) => { Stack.reset with fill := x.fill }), fillNext := o.mem.fillNext }
    resil := { r.resil with phys := s.resil.phys.map (fun (p : PhysCore) => { PhysCore.reset with retired := p.retired })
                            deductions := s.resil.deductions, hourScore := s.health
                            dumps := (s.resil.t31Dump.toList.map (fun (d : DumpRec) => { d with valid := false }) ++ s.resil.dumps).take 8 }
    fynen := { r.fynen with keyMgmt := s.fynen.keyMgmt, keyHost := s.fynen.keyHost }
    boot := { r.boot with bootCount := b.bootCount, storedSvn := b.storedSvn, confirmed := b.confirmed, pending := b.pending
                          tries := b.tries, owned := b.owned, ownerHash := b.ownerHash, requireOwner := b.requireOwner
                          nextIndex := b.nextIndex, usedIndex := b.nextIndex, slots := b.slots, slotState := b.slotState
                          keyStore := b.keyStore, keyMacs := b.keyMacs }
    power := { r.power with fabRefclk := s.power.fabRefclk, crystalOk := s.power.crystalOk, resetN := s.power.resetN, throttleN := s.power.throttleN
                            presentN := s.power.presentN, lostPower := true, tap := .idcode, vinA := s.power.vinA, vinB := s.power.vinB }
    host := { r.host with refclkLost := s.host.refclkLost }
    obj := tset (dictDefault 0x1010 3) [] (256 * 0x1010 + 3) (s.objGet 0x1010 3) }.healthUpdate

end Sys2Proof.Machine
end

