-- ==== Sys2Proof/Machine/BootOps.lean ====
section
/-! DEFINITION. Boot and security (13): the firmware image and its check, slot choice, the run of the ROM with its measurements, entry into
IDLE, ownership, key installation and the attestation report. -/

namespace Sys2Proof.Machine

def State.modBoot (s : State) (f : Boot → Boot) : State := { s with boot := f s.boot }

/-! ## The image (13 R466, R467) -/

def imageMax : Nat := 4 * MiB

/-- Bytes of an image slot. -/
def State.slotBytesAt (s : State) (i a n : Nat) : List Byte := mgetN zeroByte (vget s.boot.slots i []) a n

/-- A component: type, offset, length, digest, CRC-32C. -/
structure Component where
  type : Nat
  off : Nat
  len : Nat
  digest : List Byte
  check : Nat
  deriving DecidableEq, Repr

/-- Components of a header, and whether an entry breaks 13 Table 3. -/
def headerComponents (h : List Byte) : List Component × Bool :=
  let es := (List.range 16).map (fun i => (h.drop (256 + 64 * i)).take 64)
  let cs := es.map (fun e => ({ type := recNat e 0 1, off := recNat e 4 4, len := recNat e 8 4, digest := (e.drop 16).take 32, check := recNat e 48 4 } : Component))
  (cs.filter (fun c => c.type != 0), es.any (fun e => decide (2 < recNat e 0 1) || !recZero e 1 4 || !recZero e 12 16 || recNat e 52 4 != 0 || !recZero e 56 64))

/-- Whether two components overlap. -/
def Component.meets (a b : Component) : Bool := decide (a.off < b.off + b.len ∧ b.off < a.off + a.len)

def componentsMeet : List Component → Bool
  | [] => false
  | c :: r => r.any c.meets || componentsMeet r

/-- The signature block: Kamober's signature, the owner's, and where it ends; none when its lengths do not fit. -/
def State.signatures (s : State) (i : Nat) (h : List Byte) : Option (List Byte × List Byte × Nat) :=
  let o := recNat h 20 4
  let len := recNat h 16 4
  let n := recNat (s.slotBytesAt i o 4) 0 4
  if len < o + 4 + n then none
  else
    let k := s.slotBytesAt i (o + 4) n
    if recNat h 12 4 % 2 = 0 then some (k, [], o + 4 + n)
    else
      let p := o + 4 + n
      let m := recNat (s.slotBytesAt i p 4) 0 4
      if len < p + 4 + m then none else some (k, s.slotBytesAt i (p + 4) m, p + 4 + m)

/-- The check of a slot (13 R467): 0, or the first code of 13 Table 9 that applies, in the order of the rule. (log 37, DESIGN CHOICE) -/
def State.imageCode (s : State) (i : Nat) : Nat :=
  let h := s.slotBytesAt i 0 4096
  let len := recNat h 16 4
  let so := recNat h 20 4
  let cs := headerComponents h
  let signed := recNat h 12 4 % 2 == 1
  let one := fun (t n : Nat) => (cs.1.filter (fun c => c.type == t)).length == 1 && cs.1.all (fun c => c.type != t || decide (c.len ≤ n))
  let bad := recNat h 0 4 != 1 || !recZero h 4 8 || decide (2 ≤ recNat h 12 4) || decide (len < 4096 ∨ imageMax < len) ||
    so % 64 != 0 || decide (so < 4096 ∨ len ≤ so) || !recZero h 152 256 || !recZero h 1280 4096 || (!signed && !recZero h 92 152) || cs.2 ||
    !one 1 (1536 * 1024) || !one 2 (512 * 1024) || componentsMeet cs.1
  if bad then 0x0C03
  else match s.signatures i h with
    | none => 0x0C03
    | some (ks, os, fin) =>
      if cs.1.any (fun c => decide (c.off < 4096 ∨ len < c.off + c.len ∨ (c.off < fin ∧ so < c.off + c.len))) then 0x0C03
      else if sha256 ((h.drop 32).take 60) ≠ sha256 Config.kamoberKey then 0x0C04
      else if !Config.hssVerify ((h.drop 32).take 60) h ks then 0x0C05
      else if recNat h 8 4 < s.boot.storedSvn.toNat then 0x0C07
      else if cs.1.any (fun c => sha256 (s.slotBytesAt i c.off c.len) != c.digest) then 0x0C08
      else if !s.boot.owned then 0
      else if !signed then (if s.boot.requireOwner then 0x0C06 else 0)
      else if sha256 ((h.drop 92).take 60) ≠ s.boot.ownerHash then 0x0C06
      else if !Config.hssVerify ((h.drop 92).take 60) h os then 0x0C05
      else 0

/-- The component of a type of the image in a slot; without one, an empty one. -/
def State.component (s : State) (i t : Nat) : Component :=
  ((headerComponents (s.slotBytesAt i 0 4096)).1.find? (fun c => c.type == t)).getD { type := t, off := 0, len := 0, digest := [], check := 0 }

def State.componentBytes (s : State) (i t : Nat) : List Byte :=
  let c := s.component i t
  s.slotBytesAt i c.off c.len

/-! ## The key vault (13 R462, Table 1) -/

def ascii (t : String) : List Byte := t.toList.map (fun c => BitVec.ofNat 8 c.toNat)

/-- The keys derived from the device secret. (log 19, DESIGN CHOICE) -/
def Vault.derive (secret : List Byte) : Vault :=
  let key := fun t => hmac256 secret (ascii t)
  { attestation := key "hss", rpmb := key "rpmb", storage := key "store", kemD := key "kem-d", kemZ := key "kem-z" }

/-- The first copy of the helper data that gives a secret with the check value stored with it. (log 19, DESIGN CHOICE) -/
def helperCopy : Option Nat :=
  [1, 2].find? (fun i => sha256 (padTo 32 (Config.pufSecret i) ++ ascii "chk") == padTo 32 (Config.helperCheck i))

/-- The vault as the island powers up: what was read from the PUF SRAM gives a secret with one of the copies, or there is no identity. -/
def Boot.unlock (b : Boot) (read : Bool) : Boot := match helperCopy with
  | some i => if read then { b with vault := some (Vault.derive (padTo 32 (Config.pufSecret i))), helper := i } else { b with vault := none, helper := 0 }
  | none => { b with vault := none, helper := 0 }

/-! ## The run of the ROM (13 R468 to R470, R475) -/

/-- The 256 KiB of the boot ROM (13 R461). (log 19, DESIGN CHOICE) -/
def romImage : List Byte := padTo (262144) Config.rom

/-- The measurements at the start of a run of the ROM (13 R475): M0, and the others zero. -/
def Boot.measureRom (b : Boot) : Boot :=
  let zero : List Byte := List.replicate 32 0
  { b with m0 := sha256 romImage, m1 := zero, m2 := zero, m3 := zero, m4 := zero }

/-- Slots to try, with the RPMB records as they are written before the attempt (13 R469). -/
def Boot.slotsToTry (b : Boot) : Boot × List Nat := match b.pending with
  | some p => if 0 < b.tries then ({ b with tries := b.tries - 1 }, [p, b.confirmed]) else ({ b with pending := none }, [b.confirmed, 1 - b.confirmed])
  | none => (b, [b.confirmed, 1 - b.confirmed])

/-- The device enters RECOVERY with a boot status: no job is left, and the PCI Express link is up (12 Table 8). -/
def State.toRecovery (s : State) (status : Nat) : State :=
  ((s.modBoot (fun b => { b with status := BitVec.ofNat 16 status, booted := 0xFF })).setDev .recovery).pcieLink true

/-- The booted slot and its measurements (13 R475). -/
def Boot.handOver (b : Boot) (i : Nat) (h : List Byte) : Boot :=
  let state : List Byte := [if b.owned then 1 else 0]
  let flag : List Byte := [if b.requireOwner then 1 else 0]
  { b with booted := i, status := 0, build := BitVec.ofNat 64 (recNat h 24 8), m1 := sha256 h, m2 := sha256 (state ++ b.ownerHash)
           m3 := sha256 (leBytes i 1 ++ leBytes b.storedSvn.toNat 4 ++ flag) }

/-- The ROM's part of a boot: measurements, formed afresh (M1 to M3 stay zero when no image boots), RPMB records, the slot and its check. The second part
says whether an image is handed over to. (log 37, DESIGN CHOICE) -/
def State.romRun (s : State) (rpmb : Nat) : State × Bool :=
  let s := s.modBoot Boot.measureRom
  if rpmb = 1 then (s.toRecovery 0x0C02, false)
  else if rpmb = 2 then (s.toRecovery 0x0C10, false)
  else
    let r := s.boot.slotsToTry
    let s := s.modBoot (fun _ => { r.1 with bootCount := r.1.bootCount + 1 })
    match r.2.find? (fun i => s.imageCode i == 0) with
    | none => (s.toRecovery 0x0C0D, false)
    | some i =>
      let h := s.slotBytesAt i 0 4096
      (s.modBoot (fun b => { b.handOver i h with sram := msetN zeroByte b.sram 0 (s.componentBytes i 1) }), true)

/-- Entry into IDLE at the end of a boot. -/
def State.enterIdle (s : State) : State := State.toIdle { s with dev := { s.dev with wantIdle := false, powerCycling := false } }

/-- Training of every channel at power-on and at a warm reset (06 R210 to R212): what training finds, the flagged pins and the pseudo-channels that were
ECC-covered decide each channel's lane map; a channel of which nothing is found keeps its own. -/
def State.trainStacks (s : State) (bad : List TrainReport) : State :=
  s.each (List.range 12) (fun s k =>
    let s := s.modStack k (fun x => { x with stamps := List.replicate 32 x.temp, state := if x.state = .failed then .active else x.state })
    let x := s.stack k
    let here := bad.filter (fun (r : TrainReport) => r.stack.val == k)
    let todo := (List.range 32).filter (fun c => here.any (fun (r : TrainReport) => r.channel.val == c) || x.flagged.any (fun p => p.1 == c) || x.eccCovered.any (fun p => p.1 / 2 == c))
    s.each todo (fun s c => match here.find? (fun (r : TrainReport) => r.channel.val == c) with
      | some r => s.trainChannel k c (r.badPins.map (·.val)) r.cmdOk
      | none => s.trainChannel k c [] true))

/-- Enabled ports begin training (08 R275). -/
def State.enablePorts (s : State) : State :=
  s.each (List.range 12) (fun s p => if (s.port p).state = .disabled ∧ s.objGet 0x5002 p = 1 then s.modPort p (fun x => { x with state := .detect }) else s)

/-- A rail is enabled and in regulation: 0 VQ, 1 VIO, 2 VHBM, 3 VCORE; 4 the quarter clocks (14 Table 3). -/
def Power.enable (p : Power) (r : Nat) : Power := if r < 4 then { p with rails := p.rails ||| BitVec.twoPow 4 r } else { p with quarterClocks := true }

/-- The rails before one come up in the order of 14 Table 3, each checked before the next is enabled (14 R484). -/
def Power.upTo (p : Power) (r : Nat) : Power := (List.range r).foldl Power.enable p

/-- Rails in regulation and clocks running. -/
def Power.up (p : Power) : Power := p.upTo 5

/-- The reference of the PLLs is chosen afresh (14 R486): FAB_REFCLK when it is present; whether one that was lost has returned is free. -/
def State.pickRef (s : State) : State :=
  if s.power.fabRefclk then { s with power := { s.power with refOsc := false } }
  else
    let f := s.takeFree
    let there := f.1 % 2 == 1
    let s := f.2
    { s with power := { s.power with fabRefclk := there, refOsc := !there } }

/-- A boot that did not end in FAULT goes on to IDLE, but in a warm reset its completion does. -/
def State.bootEnds (s : State) : State := if s.dev.state = .fault ∨ s.dev.state = .reset then s else (s.pcieLink true).enterIdle

/-- Where the 512 KiB staging area of the island SRAM lies: above the most that a management component may have. (log 37, DESIGN CHOICE) -/
def stagingArea : Nat := 1572864

/-- The quarter component is staged and copied to T31 of every quarter, where Grist scans each copy (13 R468). A copy that does not pass is made once
more; how many are is free when the copies pass in the end. (log 37, DESIGN CHOICE) -/
def State.loadQuarters (s : State) (loadOk : Bool) : State × Bool :=
  let i := s.boot.booted
  let l := s.componentBytes i 2
  let ok := loadOk && crc32c l == (s.component i 2).check
  let f := s.takeFree
  let s := f.2.modBoot (fun b => { b with sram := msetN zeroByte b.sram stagingArea l, quarterFw := Vector.replicate 4 l })
  (s.each (List.range (if ok then 4 + f.1 % 5 else 8)) (fun s _ => s.deviceScan l.length false), ok)

/-- The firmware's part of a boot: rails and clocks, the quarters' copies (13 R468), core self-test and map (01 R15), training of stacks and
ports. -/
def State.bringUp (s : State) (loadOk : Bool) (bad : List TrainReport) (pass : Nat → Bool) : State :=
  let r := (State.pickRef { s with power := s.power.up }).throttle.loadQuarters loadOk
  let s := r.1
  if !r.2 then s.enterFault 0x0C09 else (((s.mapCores pass).trainStacks bad).enablePorts).bootEnds

/-! ## Ownership and keys (13 R473, R474) -/

/-- 32 fresh random bytes in the device nonce. (log 37, DESIGN CHOICE) -/
def State.newNonce (s : State) : State :=
  let f := s.takeFree
  f.2.modBoot (fun b => { b with nonce := leBytes f.1 32 })

def serialBytes : List Byte := padTo 16 Config.serial

/-- A U32 length and a signature at an offset, which end the record. -/
def recSignature (r : List Byte) (o : Nat) : Option (List Byte) :=
  if r.length < o + 4 ∨ r.length ≠ o + 4 + recNat r o 4 then none else some (r.drop (o + 4))

/-- The code of an ownership request (13 Table 5, Table 6). -/
def State.ownerCode (s : State) (r : List Byte) : Nat :=
  let op := recNat r 122 1
  let pub := (r.drop 60).take 60
  match recSignature r 128 with
  | none => 0x0201
  | some sig =>
    if !recZero r 0 12 || !recZero r 124 128 || recNat r 120 2 != 1 || decide (2 ≤ recNat r 123 1) || decide (op = 0 ∨ 3 < op) || (op == 3 && !recZero pub 0 60) then 0x0202
    else if (op == 1) == s.boot.owned then 0x0C0B
    else if (r.drop 12).take 32 ≠ s.boot.nonce ∨ (r.drop 44).take 16 ≠ serialBytes then 0x0C0A
    else
      let m := r.take 128
      let ok := match op with
        | 1 => Config.hssVerify pub m sig
        | 2 => Config.ownerVerify s.boot.ownerHash m sig
        | _ => Config.ownerVerify s.boot.ownerHash m sig || Config.hssVerify Config.endorsementKey m sig
      if ok then 0 else 0x0C05

/-- What the eMMC holds of the two Fynen keys is replaced, with its MACs in the RPMB under the RPMB key (13 R465, R474). -/
def State.storeKey (s : State) (i : Nat) (l : List Byte) : State :=
  let mac := if l.isEmpty then [] else ((s.boot.vault.map (fun v => hmac256 v.rpmb l)).getD [])
  s.modBoot (fun b => { b with keyStore := vset b.keyStore i l, keyMacs := vset b.keyMacs i mac })

/-- An ownership request: its effect when it passes; the nonce is replaced in any case. -/
def State.ownership (s : State) (r : List Byte) : State × Nat :=
  let code := s.ownerCode r
  let pub := (r.drop 60).take 60
  let s := if code ≠ 0 then s
    else if recNat r 122 1 = 3 then
      { s with boot := { s.boot with owned := false, ownerHash := List.replicate 32 0, requireOwner := false }
               fynen := { s.fynen with keyMgmt := none, keyHost := none, seqMgmt := none, seqHost := none } } |>.storeKey 0 [] |>.storeKey 1 []
    else s.modBoot (fun b => { b with owned := true, ownerHash := sha256 pub, requireOwner := (recNat r 123 1).testBit 0 })
  (s.newNonce, code)

/-- A Fynen key as the eMMC keeps it: a fresh IV, and the key encrypted under the storage key. (log 19, DESIGN CHOICE) -/
def State.sealKey (s : State) (i : Nat) (key : List Byte) : State :=
  let f := s.takeFree
  let iv := leBytes f.1 12
  f.2.storeKey i (iv ++ Config.aesGcmSeal ((s.boot.vault.map (·.storage)).getD []) iv [] key)

/-- Install a Fynen key (13 R474): its transport takes it at once, with no SEQ history. (log 37, DESIGN CHOICE) -/
def State.installKey (s : State) (r : List Byte) : State × Nat :=
  match recSignature r 1200 with
  | none => (s, 0x0201)
  | some sig =>
    if recNat r 0 2 ≠ 1 ∨ recNat r 3 1 ≠ 0 ∨ recNat r 2 1 = 0 ∨ 2 < recNat r 2 1 then (s, 0x0202)
    else if !s.boot.owned then (s, 0x0C0B)
    else if (r.drop 4).take 32 ≠ s.boot.nonce ∨ (r.drop 36).take 16 ≠ serialBytes then (s, 0x0C0A)
    else if !Config.ownerVerify s.boot.ownerHash (r.take 1200) sig then (s, 0x0C05)
    else match Config.aesGcmOpen (Config.mlkemDecap ((r.drop 52).take 1088)) ((r.drop 1140).take 12) (r.take 52) ((r.drop 1152).take 32) ((r.drop 1184).take 16) with
      | none => (s, 0x0C05)
      | some key =>
        (State.sealKey { s with fynen := if recNat r 2 1 = 1 then { s.fynen with keyMgmt := some key, seqMgmt := none } else { s.fynen with keyHost := some key, seqHost := none } }
          (recNat r 2 1 - 1) key, 0)

/-! ## Attestation (13 R475 to R477) -/

def measurements (b : Boot) : List Byte := b.m0 ++ b.m1 ++ b.m2 ++ b.m3 ++ b.m4

/-- The signed part of a report (13 Table 7). (log 9, DESIGN CHOICE) -/
def State.reportBytes (s : State) (nonce : List Byte) (beats : Nat) : List Byte :=
  let b := s.boot
  leBytes 1 4 ++ leBytes 5620 4 ++ serialBytes ++ leBytes 0 4 ++ leBytes ((if s.dev.coordAssigned then 2 ^ 31 else 0) + s.dev.coord.toNat) 4 ++
  nonce ++ leBytes beats 8 ++ leBytes b.bootCount.toNat 8 ++ leBytes b.storedSvn.toNat 4 ++ leBytes b.booted 1 ++ leBytes (if b.owned then 1 else 0) 1 ++
  leBytes (s.objGet 0x3200 0) 1 ++ leBytes ((if b.sealed then 1 else 0) + (if b.requireOwner then 2 else 0)) 1 ++ leBytes b.build.toNat 8 ++
  (if b.owned then b.ownerHash else List.replicate 32 0) ++ sha256 (padTo 1184 Config.mlkemKey) ++ measurements b ++ padTo 60 Config.deviceKey ++ leBytes 0 4

/-- A nonce write (13 R476, R477): within the rate, whose refill the passage of time gives, and while an index remains. An index block is
reserved before its first index is used. (log 37, DESIGN CHOICE) -/
def State.attest (s : State) (nonce : List Byte) : State × Nat :=
  if nonce.length ≠ 32 then (s, 0x0201)
  else
    let f := s.takeFree
    let burst := min 16 (s.boot.burst + f.1)
    if burst = 0 then (f.2, 0x0C0F)
    else if 2 ^ 25 ≤ s.boot.usedIndex then (f.2, 0x0C0E)
    else
      let g := f.2.takeFree
      let n := s.boot.usedIndex
      let m := s.reportBytes nonce g.1
      (g.2.modBoot (fun b => { b with
          burst := burst - 1, usedIndex := n + 1, nextIndex := if b.nextIndex ≤ n then 64 * (n / 64 + 1) else b.nextIndex
          report := m ++ padTo 5236 (Config.hssSign n m) }) |>.bump 0x1120 7 1, 0)

end Sys2Proof.Machine
end

