-- ==== Sys2Proof/Machine/Boot.lean ====
section
/-! DEFINITION. Boot, images, owner and attestation (13): one meaning per command. -/

namespace Sys2Proof.Machine

/-- ISLAND_POWER_UP (13 R462, R463; 15 R509; 08 R282): the island powers up after an input was applied: MGMT_ID is read, the coordinate is
cleared, the vault forms its keys or the device has no identity, and a power-on target of IDLE waits for the ROM. (log 2, DESIGN CHOICE) -/
def execIslandPowerUp (mgmtId : BitVec 3) (ok : Bool) (s : State) : Host.Outcome State Fault Refusal :=
  .next (if s.dev.state ≠ .standby ∨ s.dev.powered = true then s
    else
      let b := s.newEpoch.boot.unlock ok
      let s := s.newEpoch
      let ok := b.vault.isSome
      let s := { s with dev := { s.dev with powered := true, coordAssigned := false, coord := 0, wantIdle := ok && s.objGet 0x1010 3 == 2 }
                        power := { s.power with mgmtId := mgmtId }
                        boot := b.measureRom }
      if ok then s else s.toRecovery 0x0C01)

/-- Whether the ROM boots the device from STANDBY towards IDLE, with the module seated (14 R501). -/
def State.bootWanted (s : State) : Bool := s.dev.wantIdle && s.power.presentN.asserted

/-- Whether the ROM runs now: from STANDBY towards IDLE, in RECOVERY with a pending slot, in a warm reset, or as
the management core restarts (11 R408). (log 43, DEDUCED) -/
def State.romStarts (s : State) : Bool :=
  s.dev.powered && s.boot.vault.isSome && (s.fynen.silent || match s.dev.state with
    | .standby => s.bootWanted
    | .recovery => s.boot.pending.isSome
    | .reset => s.resil.resetRung == 3
    | _ => false)

/-- Whether the management core restarts alone, beside quarters that run on. -/
def State.restartsAlone (s : State) : Bool := s.fynen.silent && s.dev.state != .reset && s.dev.state != .standby && s.dev.state != .recovery

/-- ROM_BOOT (13 R468 to R470). `rpmb` is 0 when the RPMB answers and checks, 1 when a check fails, 2 when the eMMC does not answer; `loadOk`
says that the quarters' copies pass their Grist check; then the outcome of stack training and of the core self-test. (log 2, DESIGN CHOICE) -/
def execRomBoot (rpmb : Fin 3) (loadOk : Bool) (bad : List TrainReport) (coreOk : List (List Bool)) (s : State) : Host.Outcome State Fault Refusal :=
  .next (if !s.romStarts then s
    else
      let restart := s.restartsAlone
      let waits := s.dev.state == .standby && !s.bootWanted
      let s := if s.fynen.silent || s.dev.state == .reset || s.dev.powerCycling then s.newEpoch else s
      if waits then s.modBoot Boot.measureRom
      else
      let r := s.romRun rpmb
      if !r.2 || restart then r.1
      else r.1.bringUp loadOk bad (fun n => (coreOk.getD (n / 40) []).getD (n % 40) false))

/-! ## Images (13 R471, R472) -/

/-- Whether the objects of an image are served for writing. (log 37, DESIGN CHOICE) -/
def State.imageServes (s : State) : Bool := s.takesReset || (s.dev.state == .recovery && s.boot.vault.isSome)

/-- IMAGE_SESSION_OPEN (object 0x1110.2). -/
def execImageSessionOpen (t : Transport) (v : BitVec 8) (s : State) : Host.Outcome State Fault Refusal :=
  .next (s.objectRow 0x1110 2 (fun s =>
    let i := v.toNat
    (if 1 < i then s.reply 0x1110 2 0x0201
      else if !s.imageServes then s.reply 0x1110 2 0x0205
      else if s.boot.session.isSome ∨ (i = s.boot.confirmed ∧ s.dev.state ≠ .recovery) then s.reply 0x1110 2 0x0206
      else (s.modBoot (fun b => { b with session := some (i, t), offset := 0, slotState := vset b.slotState i .writing
                                         slots := vmod b.slots i (fun m => mclear m 0 4096) })).reply 0x1110 2 0)))

/-- IMAGE_SLOT_DATA (object 0x1110.4). -/
def execImageSlotData (t : Transport) (data : List Byte) (s : State) : Host.Outcome State Fault Refusal :=
  .next (s.objectRow 0x1110 4 (fun s =>
    let n := data.length
    (match s.boot.session with
      | none => s.reply 0x1110 4 0x0205
      | some (i, u) =>
        if u ≠ t then s.reply 0x1110 4 0x0206
        else if n < 4 ∨ 1024 < n ∨ n % 4 ≠ 0 then s.reply 0x1110 4 0x0201
        else if imageMax < s.boot.offset + n then s.reply 0x1110 4 0x0C0C
        else (s.modBoot (fun b => { b with slots := vmod b.slots i (fun m => msetN zeroByte m b.offset data), offset := b.offset + n })).reply 0x1110 4 0)))

/-- IMAGE_COMMIT (object 0x1110.5 = 1): not after the RPMB or the eMMC has failed (13 R465). -/
def execImageCommit (t : Transport) (s : State) : Host.Outcome State Fault Refusal :=
  .next (s.objectRow 0x1110 5 (fun s =>
    (match s.boot.session with
      | none => s.reply 0x1110 5 0x0205
      | some (i, u) =>
        if u ≠ t then s.reply 0x1110 5 0x0206
        else if s.dev.state = .recovery ∧ (s.boot.status = 0x0C02 ∨ s.boot.status = 0x0C10) then s.reply 0x1110 5 0x0205
        else (s.modBoot (fun b => { b with session := none, slotState := vset b.slotState i .verifying })).reply 0x1110 5 0)))

/-- IMAGE_VERIFY_COMPLETE. -/
def execImageVerifyComplete (x : Fin 2) (s : State) : Host.Outcome State Fault Refusal :=
  .next (if vget s.boot.slotState x .invalid ≠ .verifying then s
    else
      let c := s.imageCode x
      s.modBoot (fun b =>
        if c = 0 then { b with pending := some x, tries := 3, slotState := vset b.slotState x .pending }
        else { b with failCode := BitVec.ofNat 16 c, slotState := vset b.slotState x .failed }))

/-! ## Owner, keys, attestation -/

/-- The ownership request of a record whose OP byte is `op`. (log 8, DESIGN CHOICE) -/
def State.ownershipOp (s : State) (rec_ : List Byte) (op : Byte) : State :=
  let r := s.ownership (rec_.set 122 op)
  r.1.reply 0x1101 4 r.2

/-- OWNERSHIP_REGISTER. -/
def execOwnershipRegister (rec_ : List Byte) (s : State) : Host.Outcome State Fault Refusal :=
  .next (s.objectRow 0x1101 4 (fun s =>
    (s.ownershipOp rec_ 1)))

/-- OWNERSHIP_TRANSFER. -/
def execOwnershipTransfer (rec_ : List Byte) (s : State) : Host.Outcome State Fault Refusal :=
  .next (s.objectRow 0x1101 4 (fun s =>
    (s.ownershipOp rec_ 2)))

/-- OWNERSHIP_RELEASE. -/
def execOwnershipRelease (rec_ : List Byte) (s : State) : Host.Outcome State Fault Refusal :=
  .next (s.objectRow 0x1101 4 (fun s =>
    (s.ownershipOp rec_ 3)))

/-- KEY_INSTALL (object 0x1102.0). -/
def execKeyInstall (rec_ : List Byte) (s : State) : Host.Outcome State Fault Refusal :=
  .next (s.objectRow 0x1102 0 (fun s =>
    let r := s.installKey rec_
    (r.1.reply 0x1102 0 r.2)))

/-- ATTESTATION_NONCE (object 0x1120.0). -/
def execAttestationNonce (nonce : List Byte) (s : State) : Host.Outcome State Fault Refusal :=
  .next (s.objectRow 0x1120 0 (fun s =>
    let r := s.attest nonce
    (r.1.reply 0x1120 0 r.2)))

end Sys2Proof.Machine
end

