-- ==== Sys2Proof/Machine/Device.lean ====
section
/-! DEFINITION. Device states on request (12 R445 to R448): state requests and the drain. -/

namespace Sys2Proof.Machine

/-- Whether state requests are accepted: not while an EXTEST instruction is loaded (15 R521). -/
def State.extestLoaded (s : State) : Bool := match s.power.tap with
  | .extest | .extestPulse | .extestTrain => true
  | _ => false

/-- Begin a drain: the commands in the windows now are those that still start (12 R447). -/
def State.startDrain (s : State) (after : DevState) : State :=
  State.setDev { s with dev := { s.dev with afterDrain := after }, streams := s.streams.map (fun (x : Stream) => { x with drainLimit := x.tail }) } .drain

/-- Enter STANDBY: rails off, HBM contents lost (12 Table 9). -/
def State.toStandby (s : State) : State := (s.fastOff.endSession).setDev .standby

/-- STATE_REQUEST_STANDBY (object 0x1010.1 = 1). -/
def execStateRequestStandby (s : State) : Host.Outcome State Fault Refusal :=
  .next (s.objectRow 0x1010 1 (fun s =>
    (if s.extestLoaded then s.reply 0x1010 1 0x0205
      else match s.dev.state with
      | .idle => s.toStandby.reply 0x1010 1 0
      | .run => (s.startDrain .standby).reply 0x1010 1 0
      | .drain => State.reply { s with dev := { s.dev with afterDrain := .standby } } 0x1010 1 0
      | _ => s.reply 0x1010 1 0x0205)))

/-- STATE_REQUEST_IDLE (object 0x1010.1 = 2): from STANDBY it starts the boot, but not while PRESENT_N is deasserted (14 R501). -/
def execStateRequestIdle (s : State) : Host.Outcome State Fault Refusal :=
  .next (s.objectRow 0x1010 1 (fun s =>
    (if s.extestLoaded then s.reply 0x1010 1 0x0205
      else match s.dev.state with
      | .standby => if s.power.presentN.asserted then State.reply { s with dev := { s.dev with wantIdle := true } } 0x1010 1 0 else s.reply 0x1010 1 0x0907
      | .idle => s.reply 0x1010 1 0
      | .run => (s.startDrain .idle).reply 0x1010 1 0
      | .drain => State.reply { s with dev := { s.dev with afterDrain := .idle } } 0x1010 1 0
      | _ => s.reply 0x1010 1 0x0205)))

/-- STATE_REQUEST_RUN (object 0x1010.1 = 3): a function in D3hot stays in IDLE (12 R431). -/
def execStateRequestRun (s : State) : Host.Outcome State Fault Refusal :=
  .next (s.objectRow 0x1010 1 (fun s =>
    (if s.extestLoaded || s.host.d3hot then s.reply 0x1010 1 0x0205
      else match s.dev.state with
      | .idle | .drain => (s.setDev .run).reply 0x1010 1 0
      | .run => s.reply 0x1010 1 0
      | _ => s.reply 0x1010 1 0x0205)))

/-- Whether nothing can start and nothing runs (12 R447). -/
def State.quiet (s : State) : Bool :=
  (List.range 64).all (fun i =>
    let x := s.stream i
    x.progress.isEmpty && (x.state == .disabled || x.state == .stopped || (match s.nextCmd i with
      | some n => !s.devStarts i n
      | none => true))) &&
  (List.range 144).all (fun c => (s.core c).dma.toList.all (fun (e : DmaEngine) => e.queue.isEmpty && e.running.isEmpty)) &&
  s.kiln.units.toList.all (fun (u : KilnUnit) => u.parts.isEmpty) && s.coll.queue.isEmpty && s.coll.running.isEmpty &&
  s.esc.phase == .idle && s.rack.state != 1 && s.rack.state != 2

/-- The drain ends: IDLE, then STANDBY when that was requested. -/
def State.endDrain (s : State) : State :=
  let a := s.dev.afterDrain
  let s := s.toIdle
  if a = .standby then s.toStandby else s

/-- DRAIN_QUIET. -/
def execDrainQuiet (s : State) : Host.Outcome State Fault Refusal := .next (if s.dev.state = .drain ∧ s.quiet = true then s.endDrain else s)

/-- DRAIN_TIMEOUT: every job stops with 0x0D01, and the device is in IDLE, whatever the drain was to lead to (12 Table 9). -/
def execDrainTimeout (s : State) : Host.Outcome State Fault Refusal := .next (if s.dev.state = .drain then (s.stopAll 0x0D01).toIdle else s)

end Sys2Proof.Machine
end

