-- ==== Sys2Proof/Machine/SyncInstr.lean ====
section
/-! DEFINITION. The synchronisation instructions of a core (04 R149 to R151; 09 R311 to R317, R322) and the events that end their waits. -/

namespace Sys2Proof.Machine

/-- The counter that an instruction names (04 R149). -/
def State.counterOf (s : State) (c : Nat) (w : GenFields) : Nat := (w.imm.toNat % 65536 + ((s.core c).s w.a.toNat).toNat % 65536) % 65536

/-- A counter with its flags, as CADD and CRD return it (09 R313). -/
def counterWord (val : BitVec 32) (x : Counter) : Word :=
  BitVec.ofNat 64 (val.toNat + (if x.ovf then 2 ^ 32 else 0) + (if x.unf then 2 ^ 33 else 0))

/-- The signed 32-bit value in a scalar register. -/
def Core.add32 (x : Core) (r : Nat) : Int := sint 32 (x.s r).toNat

/-- CADD (04 R149, R154; 09 R311, R313, R316). (log 32, DEDUCED) -/
def execCadd (c : Fin 144) (w : GenFields) (s : State) : Host.Outcome State Fault Refusal :=
  let x := s.core c
  let n := s.counterOf c w
  .next (s.issue c (genWord 0x70 w)
    { addrS := [w.a.toNat], dataS := [w.b.toNat]
      faults := codes [(({ d := true, a := true, b := true, imm := 16 } : Uses).bad w, 0x02), (decide (w.func ≠ 0) || s.counterOwner n != s.jobOf c, 0x03),
        (x.groupFull true, 0x17)] }
    (fun s => s.effect c (some w.d.toNat) (fun s =>
      let old := s.counter n
      let s := s.counterAdd n (x.add32 w.b.toNat)
      (s, counterWord old.val (s.counter n))) (x.sp w.b.toNat)))

/-- CRD (04 R149; 09 R313, R316). -/
def execCrd (c : Fin 144) (w : GenFields) (s : State) : Host.Outcome State Fault Refusal :=
  let n := s.counterOf c w
  .next (s.issue c (genWord 0x72 w)
    { addrS := [w.a.toNat]
      faults := codes [(({ d := true, a := true, imm := 16 } : Uses).bad w, 0x02), (decide (w.func ≠ 0) || s.counterOwner n != s.jobOf c, 0x03)] }
    (coreStep c (fun x => x.setS w.d.toNat (counterWord (s.counter n).val (s.counter n)) false)))

/-- Whether a counter condition holds: at least, unsigned, or equal (04 R149, 09 R314). -/
def condHolds (v : BitVec 32) (eq : Bool) (lim : BitVec 32) : Bool := if eq then v == lim else decide (lim.toNat ≤ v.toNat)

/-- CWAIT (04 R149, R150): a condition that holds already ends it at once with status 0. -/
def execCwait (c : Fin 144) (w : GenFields) (s : State) : Host.Outcome State Fault Refusal :=
  let x := s.core c
  let n := s.counterOf c w
  let eq := w.func == 1
  let lim := (x.s w.b.toNat).setWidth 32
  .next (s.issue c (genWord 0x71 w)
    { addrS := [w.a.toNat, w.b.toNat, w.c.toNat]
      faults := codes [(({ d := true, a := true, b := true, c := true, imm := 16 } : Uses).bad w, 0x02),
        (decide (1 < w.func.toNat) || s.counterOwner n != s.jobOf c, 0x03)] }
    (fun s =>
      if condHolds (s.counter n).val eq lim then coreStep c (fun x => x.setS w.d.toNat 0 false) s
      else s.modCore c (fun x => { x with wait := .counter (BitVec.ofNat 16 n) eq lim w.d (x.s w.c.toNat != 0) })))

/-- CSIG (04 R149, R151, R154; 09 R315): an add on this device, or a SIGNAL to another one. (log 32, DEDUCED; log 40, DESIGN CHOICE) -/
def execCsig (c : Fin 144) (w : GenFields) (s : State) : Host.Outcome State Fault Refusal :=
  let x := s.core c
  let e := x.s w.a.toNat
  let here := e.getLsbD 63
  let n := w.imm.toNat % 65536
  let v := x.add32 w.b.toNat
  .next (s.issue c (genWord 0x76 w)
    { addrS := [w.a.toNat], dataS := [w.b.toNat]
      faults := codes [(({ a := true, b := true, imm := 16 } : Uses).bad w, 0x02), (decide (w.func ≠ 0) || decide (bits e.toNat 62 17 ≠ 0), 0x03),
        (x.groupFull false, 0x17)] }
    (fun s => s.effect c none (fun s =>
      if here then (s.counterAdd n v, 0)
      else
        let d : BitVec 17 := e.setWidth 17
        let s := s.modCore c (fun x => { x with reqSeq := x.reqSeq + 1 })
        (s.request { newRequest d 3 (.core c) (s.jobOf c) x.stream 1 with reg := x.reqSeq }
          { blankPacket d (s.ep.getD 0) 3 0 0 with arg := BitVec.ofInt 32 v, addr := BitVec.ofNat 42 n }, 0)))).settle

/-- BARRIVE (04 R149, R154; 09 R322). -/
def execBarrive (c : Fin 144) (w : GenFields) (s : State) : Host.Outcome State Fault Refusal :=
  let x := s.core c
  let i := w.imm.toNat % 256
  .next (s.issue c (genWord 0x73 w)
    { faults := codes [(({ imm := 8 } : Uses).bad w, 0x02),
        (decide (w.func ≠ 0) || s.slotOwner i != s.jobOf c || !(s.slot i).mask.getLsbD c, 0x03), (x.groupFull false, 0x17)]
      stall := if x.skip = 0 ∧ (s.slot i).next.getLsbD c = true then .barrierAhead else .none }
    (fun s => s.effect c none (fun s => (s.slotArrive i c, 0))))

/-- BARWAIT (04 R150; 09 R322): on a slot that became orphaned while the job owned it, status 2 at once. -/
def execBarwait (c : Fin 144) (w : GenFields) (s : State) : Host.Outcome State Fault Refusal :=
  let i := w.imm.toNat % 256
  let j := s.jobOf c
  let gone := (s.slot i).state == .orphaned && tget 8 s.sync.orphanOf (256 + i) == j
  .next (s.issue c (genWord 0x74 w)
    { addrS := [w.c.toNat]
      faults := codes [(({ d := true, c := true, imm := 8 } : Uses).bad w, 0x02), (decide (w.func ≠ 0) || (s.slotOwner i != j && !gone), 0x03)] }
    (fun s =>
      if gone then coreStep c (fun x => x.setS w.d.toNat 2 false) s
      else match (s.slot i).waitPhase c with
        | none => coreStep c (fun x => x.setS w.d.toNat 0 false) s
        | some p => s.modCore c (fun x => { x with wait := .barrier (BitVec.ofNat 8 i) p w.d (x.s w.c.toNat != 0) })))

/-! ## Fences (04 R151) -/

/-- No access of the core's array, loader, epilogue or row engine to local memory is outstanding. -/
def Core.localQuiet (x : Core) : Bool := x.arrayQ.isEmpty && x.current.isNone && !x.loadBusy && x.epiQ.isEmpty && x.draining.isNone

/-- Every GST, CSIG and CADD of the core has been acknowledged. -/
def State.globalQuiet (s : State) (c : Nat) : Bool := (s.gstsOut c).isEmpty && (s.csigsOut c).isEmpty

/-- Whether the condition of a fence holds. -/
def State.fenceDone (s : State) (c : Nat) (w : Wait) : Bool := match w with
  | .fenceLocal => (s.core c).localQuiet
  | .fenceGlobal => s.globalQuiet c
  | .fenceAll => (s.core c).localQuiet && s.globalQuiet c
  | _ => false

/-- A fence: it passes at once when its condition holds, otherwise it waits. The row gives FUNC. -/
def State.fence (s : State) (c : Nat) (w : GenFields) (func : Nat) (f : Wait) : State :=
  let w := { w with func := BitVec.ofNat 5 func }
  s.issue c (genWord 0x75 w) { faults := codes [(({} : Uses).bad w, 0x02), (decide (2 < func), 0x03)] }
    (fun s => if s.fenceDone c f then coreStep c id s else s.modCore c (fun x => { x with wait := f }))

/-- FENCE_LOCAL (04 R151). (log 8, DESIGN CHOICE) -/
def execFenceLocal (c : Fin 144) (w : GenFields) (s : State) : Host.Outcome State Fault Refusal := .next (s.fence c w 0 .fenceLocal)

/-- FENCE_GLOBAL (04 R151). -/
def execFenceGlobal (c : Fin 144) (w : GenFields) (s : State) : Host.Outcome State Fault Refusal := .next (s.fence c w 1 .fenceGlobal)

/-- FENCE ALL; a reserved FUNC is given to this row. -/
def execFenceAll (c : Fin 144) (w : GenFields) (s : State) : Host.Outcome State Fault Refusal :=
  .next (s.fence c w (max 2 w.func.toNat) .fenceAll)

/-- FENCE_RELEASE. -/
def execFenceRelease (c : Fin 144) (s : State) : Host.Outcome State Fault Refusal :=
  .next (if s.fenceDone c (s.core c).wait then s.modCore c (fun x => x.release 0) else s)

/-! ## The ends of waits (04 R150) -/

/-- CWAIT_SATISFIED (09 R314). (log 6, DESIGN CHOICE) -/
def execCwaitSatisfied (c : Fin 144) (s : State) : Host.Outcome State Fault Refusal :=
  .next (match (s.core c).wait with
    | .counter n eq v _ _ => if condHolds (s.counter n.toNat).val eq v then s.modCore c (fun x => x.release 0) else s
    | _ => s)

/-- CWAIT_LIMIT_EXPIRY: status 1; a wait without a limit has none. -/
def execCwaitLimitExpiry (c : Fin 144) (s : State) : Host.Outcome State Fault Refusal :=
  .next (match (s.core c).wait with
    | .counter _ _ _ _ lim => if lim then s.modCore c (fun x => x.release 1) else s
    | _ => s)

/-- BARWAIT_RELEASE (09 R322). -/
def execBarwaitRelease (c : Fin 144) (s : State) : Host.Outcome State Fault Refusal :=
  .next (match (s.core c).wait with
    | .barrier i p _ _ => if (s.slot i.toNat).past p then s.modCore c (fun x => x.release 0) else s
    | _ => s)

/-- BARWAIT_LIMIT_EXPIRY. -/
def execBarwaitLimitExpiry (c : Fin 144) (s : State) : Host.Outcome State Fault Refusal :=
  .next (match (s.core c).wait with
    | .barrier _ _ _ lim => if lim then s.modCore c (fun x => x.release 1) else s
    | _ => s)

end Sys2Proof.Machine
end

