-- ==== Sys2Proof/Machine/MemInstr.lean ====
section
/-! DEFINITION. The instructions that reach memory by global addresses and the region descriptors (04 R145, R147, R148; 03 R100). -/

namespace Sys2Proof.Machine

/-- Where a 2,048-byte access by a global address goes: this device, or an endpoint, with the local address there (06 R193, 08 R283). -/
inductive Reach where
  | bad
  | here (a : Nat)
  | there (e : BitVec 17) (a : Nat)
  deriving DecidableEq, Repr

/-- The form of a global address. -/
def reachOf (g : Nat) : Reach :=
  match localForm g with
  | some a => .here a
  | none => match remoteForm g with
    | some r => .there (BitVec.ofNat 17 r.1) r.2
    | none => .bad

/-- The segments with an active lane. -/
def segsOf (p : BitVec 512) : List Nat := (List.range 32).filter (touchedSegs p).getLsbD

/-- Whether a core's access faults with code 0x09: a form of no space, or a line that this device's map does not assign. -/
def State.unreachable (s : State) (r : Reach) (p : BitVec 512) : Bool := match r with
  | .bad => true
  | .here a => (s.home a).isNone || (segsOf p).any (fun g => (s.home (a + 64 * g)).isNone)
  | .there .. => false

/-- The runs of neighbouring segments in a rising list: first segment and number. -/
def segRuns : List Nat → List (Nat × Nat)
  | [] => []
  | g :: l => match segRuns l with
    | (h, n) :: r => if h = g + 1 then (g, n + 1) :: r else (g, 1) :: (h, n) :: r
    | [] => [(g, 1)]

/-- One READ of a GLD for each run of segments with active lanes: `reg` is the first segment (04 R121, R147). -/
def State.gldReads (s : State) (c : Nat) (e : BitVec 17) (a : Nat) (p : BitVec 512) : State :=
  s.each (segRuns (segsOf p)) (fun s g =>
    s.request { newRequest e 1 (.core c) (s.jobOf c) (s.core c).stream g.2 with lines := g.2, addr := a + 64 * g.1, reg := g.1 }
      { blankPacket e (s.ep.getD 0) 1 0 0 with arg := BitVec.ofNat 32 g.2, addr := BitVec.ofNat 42 (a + 64 * g.1) })

/-- GLD (04 R147): the active lanes take their lines with the poison, which is no consumption; from another device the core waits for the data. -/
def execGld (c : Fin 144) (w : GenFields) (s : State) : Host.Outcome State Fault Refusal :=
  let x := s.core c
  let p := x.p w.pred.toNat
  let g := (x.s w.a.toNat + w.imm).toNat
  let r := reachOf g
  .next (s.issue c (genWord 0x62 w)
    { addrS := [w.a.toNat]
      faults := codes [(({ d := true, a := true, pred := true, imm := 64 } : Uses).bad w, 0x02), (decide (w.func ≠ 0), 0x03), (decide (g % 64 ≠ 0), 0x08),
        (s.unreachable r p, 0x09)]
      stall := match r with
        | .here a => if s.offline ((segsOf p).map (fun i => a / 64 + i)) s.missChan then .memory else .none
        | _ => .none }
    (fun s => match r with
      | .here a =>
        let s := s.each (segsOf p) (fun s i => s.touchRead (a / 64 + i))
        coreStep c (fun x => x.takeSegs w.d.toNat p 0 ((List.range 32).map (fun i => s.line (a / 64 + i)))) s
      | .there e a =>
        if p = 0 then coreStep c id s
        else (s.modCore c (fun x => { x.next with wait := .gld w.d w.pred })).gldReads c e a p
      | .bad => s)).settle

/-- The bytes of a line that the active lanes of a segment cover. -/
def segBytes (p : BitVec 512) (g : Nat) : BitVec 64 :=
  BitVec.ofNat 64 ((List.range 16).foldl (fun acc i => if p.getLsbD (16 * g + i) then acc + 15 * 2 ^ (4 * i) else acc) 0)

/-- The mask line of a masked WRITE of one data line (08 R522). -/
def maskLine (m : BitVec 64) : Line := m.setWidth 512

/-- Send one line to another device: a WRITE when it is whole, a masked WRITE otherwise (08 R522). -/
def State.sendLine (s : State) (r : Request) (e : BitVec 17) (a : Nat) (d : Line) (mask : BitVec 64) (poison : Bool) : State :=
  let p := { blankPacket e (s.ep.getD 0) 0 0 0 with addr := BitVec.ofNat 42 a }
  s.request { r with addr := a }
    (if mask = fullMask then packetLoad p [d] [poison] else { packetLoad p [maskLine mask, d] [false, poison] with sub := 1 })

/-- GST (04 R147): a posted write of the active lanes; the 65th unacknowledged one waits at issue. -/
def execGst (c : Fin 144) (w : GenFields) (s : State) : Host.Outcome State Fault Refusal :=
  let x := s.core c
  let p := x.p w.pred.toNat
  let g := (x.s w.a.toNat + w.imm).toNat
  let r := reachOf g
  let seg := fun i => lineOf (((vecBytes (x.v w.b.toNat)).drop (64 * i)).take 64)
  .next (s.issue c (genWord 0x63 w)
    { addrS := [w.a.toNat], dataV := readSegs p [w.b.toNat]
      faults := codes [(({ a := true, b := true, pred := true, imm := 64 } : Uses).bad w, 0x02), (decide (w.func ≠ 0), 0x03), (decide (g % 64 ≠ 0), 0x08),
        (s.unreachable r p, 0x09), (x.groupFull false, 0x17)]
      stall := if 64 ≤ (s.gstsOut c).length then .gstLimit else match r with
        | .here a => if (segsOf p).any (fun i => s.offline [a / 64 + i] (fun ln => s.writeChan ln (segBytes p i))) then .memory else .none
        | _ => .none }
    (fun s => s.effect c none (fun s => (match r with
      | .here a => s.each (segsOf p) (fun s i => s.tunWrite (a / 64 + i) (seg i) (segBytes p i) ((x.vp w.b.toNat).getLsbD i))
      | .there e a =>
        let s := s.modCore c (fun x => { x with reqSeq := x.reqSeq + 1 })
        s.each (segsOf p) (fun s i =>
          s.sendLine { newRequest e 0 (.core c) (s.jobOf c) x.stream 1 with reg := x.reqSeq } e (a + 64 * i) (seg i) (segBytes p i)
            ((x.vp w.b.toNat).getLsbD i))
      | .bad => s, 0)))).settle

/-! ## Region descriptors -/

/-- Fill a range of local memory with zeros and clear its poison (03 R100). -/
def Core.zeroFill (x : Core) (a n : Nat) : Core :=
  { x with lmem := mclear x.lmem a (a + n), lPoison := x.lPoison.filter (fun l => l < a / 64 || (a + n) / 64 ≤ l) }

/-- The range of a descriptor; a disabled one has none. -/
def Region.span (r : Region) : Nat × Nat := if r.enabled then (r.base.toNat, r.size.toNat) else (0, 0)

/-- Whether two ranges of (start, length) overlap. -/
def spansMeet (a b : Nat × Nat) : Bool := decide (a.1 < b.1 + b.2 ∧ b.1 < a.1 + a.2)

/-- Write a descriptor (03 R100): a change waits for the accesses in flight to the old and the new region, then both are zero-filled; a
descriptor that does not change fills nothing. (log 40, DESIGN CHOICE) -/
def State.region (s : State) (c : Nat) (w : GenFields) (func : Nat) (src : List Nat) (new : Region) (faults : List Nat) : State :=
  let x := s.core c
  let n := w.imm.toNat % 16
  let old := vget x.regions n Region.reset
  let same := decide (old = new) || (!old.enabled && !new.enabled)
  let busy := fun (p : Nat × Nat) => p.2 != 0 && x.conflict p.1 (p.1 + p.2) true
  s.issue c (genWord 0x64 { w with func := BitVec.ofNat 5 func })
    { addrS := src, faults := faults, stall := if !same && (busy old.span || busy new.span) then .tracker else .none }
    (coreStep c (fun x =>
      if same then x
      else { ((x.zeroFill old.span.1 old.span.2).zeroFill new.span.1 new.span.2) with regions := vset x.regions n new }))

/-- REGION with FUNC 0 or 1 (04 R148). (log 41, DESIGN CHOICE) -/
def State.regionWrite (s : State) (c : Nat) (w : GenFields) (diagonal : Bool) : State :=
  let x := s.core c
  let a := (x.s w.a.toNat).toNat
  let b := (x.s w.b.toNat).toNat
  let p := (x.s w.c.toNat).toNat
  let new : Region := { enabled := true, base := BitVec.ofNat 32 a, size := BitVec.ofNat 32 b, diagonal := diagonal, pitch := BitVec.ofNat 32 p }
  let meets := (List.range 16).any (fun i => i != w.imm.toNat % 16 && spansMeet (vget x.regions i Region.reset).span (a, b))
  s.region c w (if diagonal then 1 else 0) [w.a.toNat, w.b.toNat, w.c.toNat] new
    (codes [(({ a := true, b := true, c := true, imm := 4 } : Uses).bad { w with func := 0 }, 0x02), (b == 0, 0x03),
      (decide (a % 65536 ≠ 0) || decide (b % 65536 ≠ 0) || decide (p % 64 ≠ 0) || decide (p < 64) || decide (65536 < p), 0x08),
      (outside a b, 0x09), (meets, 0x11)])

/-- REGION_LINEAR (04 R148). (log 8, DESIGN CHOICE) -/
def execRegionLinear (c : Fin 144) (w : GenFields) (s : State) : Host.Outcome State Fault Refusal := .next (s.regionWrite c w false)

/-- REGION_DIAGONAL (04 R148). -/
def execRegionDiagonal (c : Fin 144) (w : GenFields) (s : State) : Host.Outcome State Fault Refusal := .next (s.regionWrite c w true)

/-- REGION with FUNC 2; a reserved FUNC is given to this row (04 R148). -/
def execRegionDisable (c : Fin 144) (w : GenFields) (s : State) : Host.Outcome State Fault Refusal :=
  .next (s.region c w (max 2 w.func.toNat) [] { vget (s.core c).regions (w.imm.toNat % 16) Region.reset with enabled := false }
    (codes [(({ imm := 4 } : Uses).bad { w with func := 0 }, 0x02), (decide (2 < w.func.toNat), 0x03)]))

end Sys2Proof.Machine
end

