-- ==== Sys2Proof/Machine/DmaDesc.lean ====
section
/-! DEFINITION. Tensor descriptors, sharding, box and window records and DMA descriptors as DMAQ reads and checks them (07 R235 to R260). -/

namespace Sys2Proof.Machine

/-! ## Formats in tensor descriptors (07 R236, Table 2) -/

def isMx (f : Nat) : Bool := decide (0x10 ≤ f ∧ f ≤ 0x13)

/-- A block or MX format. -/
def isBlk (f : Nat) : Bool := isBlock f || isMx f

/-- Block size of a block or MX format; one element otherwise. -/
def blkSize (f : Nat) : Nat := if isBlock f then mbBlock f else if isMx f then 32 else 1

/-- Bytes of `n` elements in storage (07 R236, R237). -/
def storeBytes (f n : Nat) : Nat :=
  if isBlock f then ceilDiv n 512 * mbGroup f else if f = 0x13 then ceilDiv n 2 else if isMx f then n else n * typeBytes f

/-- The format pairs of 07 R249 and 02 Table 5. -/
def pairOk (a b : Nat) : Bool :=
  if isMx a && isMx b then false
  else a == b || (decide (a < 3) && decide (b < 3)) || (decide (a < 3) && isBlock b) || (isBlock a && decide (b < 3)) || (isBlock a && isBlock b) ||
    (a == 0x10 && b == 4) || (a == 4 && b == 0x10) || (a == 0x13 && b == 4) || (decide (0x11 ≤ a ∧ a ≤ 0x13) && b == 1) ||
    (decide (a < 3) && decide (0x11 ≤ b ∧ b ≤ 0x13))

/-! ## Records -/

/-- A tensor descriptor in 64 bytes (07 Table 1). -/
def tensorOf (b : List Byte) : TensorDesc :=
  let rk := recNat b 63 1
  { rank := rk % 8, kind := rk / 8 % 8, fmt := recNat b 62 1, tensorId := BitVec.ofNat 32 (recNat b 58 4)
    extents := (List.range 6).map (fun d => recNat b (16 + 4 * d) 4)
    shards := (List.range 6).map (fun d => let h := recNat b (40 + 3 * d) 3; (bits h 20 19, bits h 18 16, h % 2 ^ 16))
    aux := recNat b 8 8, base := recNat b 0 8, raw := b }

/-- A box record in 128 bytes (07 Table 4). -/
def boxOf (b : List Byte) : Box :=
  let l := fun o => (List.range 6).map (fun d => recNat b (o + 4 * d) 4)
  { srcOrg := l 0, dstOrg := l 24, ext := l 48, perm := (List.range 6).map (fun d => recNat b 72 3 / 2 ^ (3 * d) % 8) }

/-- A window record in 64 bytes (07 Table 6a). -/
def winOf (b : List Byte) : WindowRec :=
  let f := fun i => recNat b (2 * i) 2
  { kx := f 0, ky := f 1, sx := f 2, sy := f 3, dx := f 4, dy := f 5, pxl := f 6, pxh := f 7, pyl := f 8, pyh := f 9 }

def TensorDesc.ext (t : TensorDesc) (d : Nat) : Nat := t.extents.getD d 1
def TensorDesc.shard (t : TensorDesc) (d : Nat) : Nat × Nat × Nat := t.shards.getD d (0, 0, 0)

/-- Whether a tensor is a block-format gradient, with a carry plane at AUX (07 R239). -/
def TensorDesc.gradient (t : TensorDesc) : Bool := isBlock t.fmt && t.kind == 4

/-! ## Sharding (07 R240 to R242) -/

/-- The effective factor of a shard over a group of `p` devices. -/
def shardFactor (n : Nat) (h : Nat × Nat × Nat) (p : Nat) : Nat := if h.1 = 1 ∧ h.2.2 = 0 then ceilDiv n p else h.2.2

/-- Owner rank and local coordinate of a global coordinate (07 R241). -/
def ownerLocal (n : Nat) (h : Nat × Nat × Nat) (p i : Nat) : Nat × Nat :=
  let f := shardFactor n h p
  match h.1 with
  | 0 => (0, i)
  | 1 => (i / f, i % f)
  | 2 => (i % p, i / p)
  | _ => (i / f % p, i / f / p * f + i % f)

/-- The number of global coordinates that a rank owns. -/
def localExtent (n : Nat) (h : Nat × Nat × Nat) (p r : Nat) : Nat :=
  let f := shardFactor n h p
  match h.1 with
  | 0 => n
  | 1 => min f (n - r * f)
  | 2 => (n + p - 1 - r) / p
  | _ => (n / f + p - 1 - r) / p * f + (if n / f % p = r then n % f else 0)

/-- The global coordinate of a local one. -/
def globalCoord (n : Nat) (h : Nat × Nat × Nat) (p r i : Nat) : Nat :=
  let f := shardFactor n h p
  match h.1 with
  | 0 => i
  | 1 => r * f + i
  | 2 => i * p + r
  | _ => (i / f * p + r) * f + i % f

/-- The codes of a shard (07 R238, R241). -/
def shardBad (t : TensorDesc) (g : GroupTable) (d : Nat) : Bool :=
  let h := t.shard d
  let n := t.ext d
  let p := g.p h.2.1
  let f := shardFactor n h p
  match h.1 with
  | 0 => h.2.1 != 0 || h.2.2 != 0
  | 1 => decide (f * p < n) || (d == 0 && isBlk t.fmt && decide (f % blkSize t.fmt ≠ 0))
  | 2 => h.2.2 != 0 || (d == 0 && isBlk t.fmt)
  | _ => h.2.2 == 0 || (d == 0 && isBlk t.fmt && decide (f % blkSize t.fmt ≠ 0))

/-- Whether two dimensions are sharded over one axis (07 R240). -/
def TensorDesc.axisTwice (t : TensorDesc) : Bool :=
  let l := (t.shards.filter (fun h => h.1 != 0)).map (fun h => h.2.1)
  (List.range 8).any (fun a => decide (1 < (l.filter (· == a)).length))

def TensorDesc.sharded (t : TensorDesc) : Bool := t.shards.any (fun h => h.1 != 0)

/-- The codes of a tensor descriptor by itself (07 R235 to R241); a shard field that is not zero at or above RANK (R237), for which Table 8 names no code,
is rejected with 0x0705. (log 40, DESIGN CHOICE) -/
def tensorCodes (b : List Byte) (g : GroupTable) : List Nat :=
  let t := tensorOf b
  let vals := !decide (1 ≤ t.rank ∧ t.rank ≤ 6) || decide (4 < t.kind) || !(decide (t.fmt < 8) || isMx t.fmt)
  codes [(decide (64 ≤ recNat b 63 1) || (List.range 6).any (fun d => decide (32 ≤ recNat b (42 + 3 * d) 1)), 0x0701),
    (vals || t.extents.any (fun n => n == 0 || decide (2 ^ 31 < n)) || (List.range 6).any (fun d => decide (t.rank ≤ d) && t.ext d != 1) ||
      (if t.gradient || isMx t.fmt then t.aux == 0 else t.aux != 0), 0x0702),
    (decide (t.base % 64 ≠ 0) || decide (t.aux % 64 ≠ 0), 0x0703),
    (decide (2 ^ 42 ≤ t.base) || decide (2 ^ 42 ≤ t.aux), 0x0704),
    (!vals && ((isBlk t.fmt && decide (1 < t.rank) && decide (t.ext 0 % blkSize t.fmt ≠ 0)) || t.axisTwice ||
      (List.range 6).any (fun d => shardBad t g d || (decide (t.rank ≤ d) && t.shard d != (0, 0, 0)))), 0x0705)]

/-! ## One side of a move -/

/-- One side of a move: its tensor, the origin and the extents of the box in its dimensions, whether the origin is global, the device of the
shard (none this one), the job's table, and the ranks that the shard's device holds. -/
structure Side where
  t : TensorDesc
  org : List Nat
  ext : List Nat
  global : Bool
  ep : Option (BitVec 17)
  table : GroupTable
  ranks : Option (List Nat)
  deriving DecidableEq, Repr

/-- This device's ranks. -/
def GroupTable.mine (g : GroupTable) : List Nat := (List.range 8).map g.rank

/-- The ranks of a grid position. -/
def GroupTable.ranksAt (g : GroupTable) (pos : Nat) : List Nat :=
  ((List.range 8).foldl (fun (acc : List Nat × Nat) a => (acc.1 ++ [acc.2 % g.p a], acc.2 / g.p a)) ([], pos)).1

/-- A GRID entry, whatever its line's poison; a table of one device names this one. -/
def State.gridEntry (s : State) (g : GroupTable) (pos : Nat) : BitVec 17 :=
  if g.g = 1 then s.ep.getD 0 else BitVec.ofNat 17 (leNat (s.view (g.grid + 4 * pos) 4))

/-- The lowest grid position that holds an endpoint (07 R244). -/
def State.gridFind (s : State) (g : GroupTable) (e : BitVec 17) : Option Nat := (List.range g.g).find? (fun p => s.gridEntry g p == e)

/-- The device that an endpoint field names: none is this one (07 R243). -/
def State.epField (s : State) (v : Nat) : Option (BitVec 17) :=
  if v.testBit 31 then none else if s.ep = some (BitVec.ofNat 17 v) then none else some (BitVec.ofNat 17 v)

/-- A side. -/
def State.side (s : State) (t : TensorDesc) (org ext : List Nat) (global : Bool) (ep : Option (BitVec 17)) (g : GroupTable) : Side :=
  let ranks := match ep with
    | none => some g.mine
    | some e => if t.sharded then (s.gridFind g e).map g.ranksAt else some g.mine
  { t := t, org := org, ext := ext, global := global, ep := ep, table := g, ranks := ranks }

/-- Group size of the axis of a dimension. -/
def Side.p (x : Side) (d : Nat) : Nat := x.table.p (x.t.shard d).2.1

/-- Local extent of a dimension on a device with given ranks. -/
def Side.localExt (x : Side) (ranks : List Nat) (d : Nat) : Nat :=
  localExtent (x.t.ext d) (x.t.shard d) (x.p d) (ranks.getD (x.t.shard d).2.1 0)

/-- The extent that bounds coordinates of this side: local or global (07 R244). -/
def Side.bound (x : Side) (d : Nat) : Nat := if x.global then x.t.ext d else x.localExt (x.ranks.getD x.table.mine) d

/-- The ranks of the device that holds an element (07 R242), and its local coordinates. -/
def Side.holder (x : Side) (c : List Nat) : List Nat × List Nat :=
  if x.global then
    let o := (List.range 6).map (fun d => ownerLocal (x.t.ext d) (x.t.shard d) (x.p d) (c.getD d 0))
    ((List.range 8).map (fun a => match (List.range 6).find? (fun d => (x.t.shard d).1 != 0 && (x.t.shard d).2.1 == a) with
      | some d => (o.getD d (0, 0)).1
      | none => x.table.rank a), o.map (·.2))
  else (x.ranks.getD x.table.mine, c)

/-- Position of a coordinate in a dense array, dimension 0 fastest. -/
def linear (ext c : List Nat) : Nat := ((ext.zip c).foldl (fun (acc : Nat × Nat) p => (acc.1 + p.2 * acc.2, acc.2 * p.1)) (0, 1)).1

/-- The number of elements of a dense array. -/
def volume (ext : List Nat) : Nat := ext.foldl (· * ·) 1

/-- Where an element lies: its device (none this one), its number in the shard, the ranks of the device. -/
structure Place where
  ep : Option (BitVec 17)
  k : Nat
  ranks : List Nat
  deriving DecidableEq, Repr

def State.place (s : State) (x : Side) (c : List Nat) : Place :=
  let h := x.holder c
  let ep := if x.global then
      (if h.1 = x.table.mine then none
       else
        let e := s.gridEntry x.table (x.table.posOf (fun a => h.1.getD a 0))
        if s.ep = some e then none else some e)
    else x.ep
  { ep := ep, k := linear ((List.range 6).map (x.localExt h.1)) h.2, ranks := h.1 }

/-- The global element index of a coordinate of a side (07 R237). -/
def Side.globalIndex (x : Side) (c : List Nat) : Nat :=
  let g := if x.global then c
    else (List.range 6).map (fun d => globalCoord (x.t.ext d) (x.t.shard d) (x.p d) ((x.ranks.getD x.table.mine).getD (x.t.shard d).2.1 0) (c.getD d 0))
  linear ((List.range 6).map x.t.ext) g

/-- Elements of the shard on a device with given ranks. -/
def Side.shardSize (x : Side) (ranks : List Nat) : Nat := volume ((List.range 6).map (x.localExt ranks))

/-- Bytes at AUX: carry slots of a block-format gradient, scales of an MX tensor (07 R236, R239). -/
def auxBytes (t : TensorDesc) (n : Nat) : Nat := if t.gradient then 2 * ceilDiv n (mbBlock t.fmt) else if isMx t.fmt then ceilDiv n 32 else 0

/-- The window slot of an address on a device whose division is not known here (06 Table 1). -/
def windowSlot (a : Nat) : Option Nat :=
  if a < 2 ^ 40 then some 0
  else if a < 2 ^ 41 then some (1 + (a - 2 ^ 40) / 2 ^ 38)
  else if a < 0x30000000000 then (if (a - 2 ^ 41) / 2 ^ 36 < 12 then some (5 + (a - 2 ^ 41) / 2 ^ 36) else none)
  else if a < 0x31000000000 then
    let o := a - 0x30000000000
    if o / 2 ^ 28 < 4 ∧ a % 2 ^ 23 < 6 * MiB then some (17 + 32 * (o / 2 ^ 28) + o % 2 ^ 28 / 2 ^ 23) else none
  else if (a - 0x31000000000) / 2 ^ 22 < 144 then some (145 + (a - 0x31000000000) / 2 ^ 22) else none

/-- Whether a range lies within one window slot. -/
def inOneSlot (a n : Nat) : Bool := n == 0 || (match windowSlot a, windowSlot (a + n - 1) with
  | some x, some y => x == y
  | _, _ => false)

/-- Whether a shard of `n` elements, its carry plane and its scales each lie within one window (07 R237). -/
def TensorDesc.fits (t : TensorDesc) (n : Nat) (one : Nat → Nat → Bool) : Bool := n == 0 || (one t.base (storeBytes t.fmt n) && one t.aux (auxBytes t n))

/-- Whether a shard of a side leaves one window: this device's by its own map, one on another device, and the largest one of a global side, whose
holder has rank 0 on every axis, by the slots of the map, without reading that device (07 R237, R245). (log 40, DESIGN CHOICE) -/
def State.shardOutside (s : State) (x : Side) : Bool :=
  (x.ep.isNone && !x.t.fits (x.shardSize x.table.mine) s.inOneWindow) ||
  (x.ep.isSome && x.ranks.any (fun r => !x.t.fits (x.shardSize r) inOneSlot)) ||
  (x.global && x.t.sharded && !x.t.fits (x.shardSize (List.replicate 8 0)) inOneSlot)

/-! ## DMA descriptors -/

/-- Which fields of a DMA descriptor an operation uses (07 Table 3): OP, then each field's use. -/
structure DmaUse where
  src : Bool := false
  dst : Bool := false
  box : Bool := false
  xrec : Bool := false
  sep : Bool := false
  dep : Bool := false
  sub : Bool := false
  arg : Bool := false
  move : Bool := false
  ordered : Bool := false
  glob : Bool := false
  index : Bool := false

/-- The uses of each operation; a SCAN uses XREC when it continues an earlier one. -/
def dmaUse (op sub : Nat) : DmaUse :=
  match op with
  | 0 => { src := true, dst := true, box := true, sep := true, dep := true, move := true, glob := true }
  | 1 | 2 => { src := true, dst := true, box := true, xrec := true, sep := true, dep := true, sub := true, move := true, glob := true, index := true }
  | 3 => { src := true, dst := true, box := true, xrec := true, sep := true, dep := true, sub := true, ordered := true, glob := true, index := true }
  | 4 => { src := true, dst := true, box := true, xrec := true, sep := true, dep := true }
  | 5 => { dst := true, xrec := true, dep := true, sub := true, arg := true }
  | 6 => { src := true, dst := true, box := true, sub := true, xrec := sub.testBit 2 }
  | _ => { src := true, dst := true, sub := true, arg := true }

/-- Whether a field that OP does not use is not zero; DIAG_SWAP has a code of its own (07 Table 7). (log 40, DESIGN CHOICE) -/
def dmaUnused (b : List Byte) : Bool :=
  let u := dmaUse (recNat b 0 1) (recNat b 3 1)
  let f := recNat b 1 1
  let m := recNat b 2 1
  (!u.src && recNat b 8 8 != 0) || (!u.dst && recNat b 16 8 != 0) || (!u.box && recNat b 24 8 != 0) || (!u.xrec && recNat b 32 8 != 0) ||
  (!u.sep && recNat b 40 4 != 0) || (!u.dep && recNat b 44 4 != 0) || (!u.sub && recNat b 3 1 != 0) || (!u.arg && recNat b 52 4 != 0) ||
  (!u.move && (recNat b 6 2 != 0 || m / 4 % 4 != 0)) || (!u.ordered && f.testBit 1) ||
  (!u.glob && (f.testBit 2 || f.testBit 3)) || (!u.index && m % 4 != 0)

/-- The descriptor's fields as a request; its records are added when they are read. -/
def dmaReqOf (b : List Byte) (job stream : Nat) (srcEp dstEp : Option (BitVec 17)) : DmaReq :=
  let f := recNat b 1 1
  let m := recNat b 2 1
  { seq := 0, job := job, stream := stream, op := recNat b 0 1, diag := f.testBit 0, ordered := f.testBit 1, srcGlobal := f.testBit 2, dstGlobal := f.testBit 3
    locality := m / 16 % 4, rnd := m / 4 % 4, idxMode := m % 4, subop := recNat b 3 1, counter := BitVec.ofNat 16 (recNat b 4 2), phase := BitVec.ofNat 16 (recNat b 6 2)
    src := recNat b 8 8, dst := recNat b 16 8, boxLen := recNat b 24 8, xrec := recNat b 32 8, srcEp := srcEp, dstEp := dstEp
    inc := sint 32 (recNat b 48 4), arg := BitVec.ofNat 32 (recNat b 52 4), status := recNat b 56 8, srcT := none, dstT := none, box := none, win := none
    operands := 0, compares := 0 }

/-- A record that a descriptor names: its codes by address, its bytes, its poisoned lines. -/
structure RecIn where
  codes : List Nat
  bytes : List Byte
  poison : List Nat
  deriving DecidableEq, Repr

def RecIn.none : RecIn := { codes := [], bytes := [], poison := [] }

/-- Read a record of this device (07 R243, R260). -/
def State.dmaRec (s : State) (g size align : Nat) : RecIn :=
  let bad := codes [(decide (g % align ≠ 0), 0x0703), ((localForm g).isNone || !s.inOneWindow g size, 0x0704)]
  if bad.isEmpty then { codes := [], bytes := s.view g size, poison := s.poisonedIn g size } else { codes := bad, bytes := [], poison := [] }

/-- What DMAQ finds in a descriptor: the codes that reject it, the poisoned lines of its records, the request. -/
structure DmaPlan where
  codes : List Nat
  poison : List Nat
  req : DmaReq
  deriving DecidableEq, Repr

/-- The source dimension that a destination dimension takes. -/
def Box.permOf (x : Box) (d : Nat) : Nat := x.perm.getD d d

/-- PERM leaves every dimension in place. -/
def Box.identity (x : Box) : Bool := x.perm == List.range 6

/-- Extents of the box in destination dimensions. -/
def Box.dstExt (x : Box) : List Nat := (List.range 6).map (fun d => x.ext.getD (x.permOf d) 0)

/-- PERM is a permutation of 0 to 5 that fixes every dimension at or above a rank. -/
def Box.permBad (x : Box) (rank : Nat) : Bool :=
  (List.range 6).any (fun d => !x.perm.contains d) || (List.range 6).any (fun d => decide (rank ≤ d) && x.permOf d != d)

/-- The two sides of a move. -/
def State.sides (s : State) (r : DmaReq) : Option (Side × Side) :=
  match r.srcT, r.dstT, r.box with
  | some a, some b, some x =>
    let g := (s.job r.job).table
    some (s.side a x.srcOrg x.ext r.srcGlobal r.srcEp g, s.side b x.dstOrg x.dstExt r.dstGlobal r.dstEp g)
  | _, _, _ => none

/-- Extents of a window's destination (07 R252). -/
def Side.windowExt (a : Side) (w : WindowRec) : List Nat :=
  [a.bound 0 * w.kx * w.ky, (a.bound 1 + w.pxl + w.pxh - (w.dx * (w.kx - 1) + 1)) / w.sx + 1,
   (a.bound 2 + w.pyl + w.pyh - (w.dy * (w.ky - 1) + 1)) / w.sy + 1, a.bound 3, a.bound 4, a.bound 5]

/-- Whether a window expansion breaks 07 R252. -/
def windowBad (a b : Side) (x : Box) (w : WindowRec) : Bool :=
  w.kx == 0 || w.ky == 0 || w.sx == 0 || w.sy == 0 || w.dx == 0 || w.dy == 0 ||
  decide (a.bound 1 + w.pxl + w.pxh < w.dx * (w.kx - 1) + 1) || decide (a.bound 2 + w.pyl + w.pyh < w.dy * (w.ky - 1) + 1) ||
  a.t.fmt != b.t.fmt || !x.identity || x.srcOrg.any (· != 0) || a.ep.isSome || b.ep.isSome ||
  (isBlk a.t.fmt && decide (a.bound 0 % blkSize a.t.fmt ≠ 0)) || a.windowExt w != (List.range 6).map b.bound

/-- Whether the box passes the extents of a side, but for the dimension that an index runs over. -/
def Side.beyond (x : Side) (skip : Option Nat) : Bool :=
  (List.range 6).any (fun d => some d != skip && decide (x.bound d < x.org.getD d 0 + x.ext.getD d 0))

/-- Whether a destination box in a block or MX format covers part of a block (07 R249, R251). -/
def Side.cutsBlock (x : Side) : Bool :=
  let n := blkSize x.t.fmt
  let o := x.org.getD 0 0
  let e := x.ext.getD 0 0
  isBlk x.t.fmt && (decide (o % n ≠ 0) || (decide ((o + e) % n ≠ 0) && decide (o + e ≠ x.bound 0)))

/-- The dimension that an index list runs over on a side: the source of a GATHER, the destination of a scatter. -/
def DmaReq.indexDim (r : DmaReq) (dst : Bool) : Option Nat :=
  if (!dst && r.op == 1) || (dst && (r.op == 2 || r.op == 3)) then some r.subop else none

/-- A side whose endpoint stands nowhere in GRID, so that its shard has no ranks: R244 is broken, and nothing else of the shard can be told. -/
def Side.lost (x : Side) : Bool := !x.global && x.ranks.isNone

/-- The codes of a move once its records are read (07 R238, R244, R249 to R256). (log 40, DESIGN CHOICE) -/
def State.moveCodes (s : State) (r : DmaReq) (a b : Side) (x : Box) : List Nat :=
  let g := r.subop
  let ix := decide (1 ≤ r.op ∧ r.op ≤ 3)
  let inx := if r.op = 1 then a else b
  codes [(x.permBad (max a.t.rank b.t.rank) || (ix && (decide (5 < g) || !x.identity || inx.org.getD g 0 != 0 ||
      (decide (g = 0) && (isBlk a.t.fmt || isBlk b.t.fmt)) || (!inx.lost && inx.bound g == 0 && r.idxMode != 3))), 0x0702),
    (a.lost || b.lost, 0x0705),
    ((r.op != 4 && !a.lost && a.beyond (r.indexDim false)) || (!b.lost && b.beyond (r.indexDim true)) || s.shardOutside a || s.shardOutside b, 0x0704),
    ((if r.op = 3 then a.t.fmt != b.t.fmt || !(a.t.fmt == 0 || a.t.fmt == 1 || a.t.fmt == 3) else if r.op = 4 then isMx a.t.fmt && isMx b.t.fmt else !pairOk a.t.fmt b.t.fmt) ||
      (!b.lost && b.cutsBlock), 0x0706)]

end Sys2Proof.Machine
end

