-- ==== Sys2Proof/Machine/DmaMove.lean ====
section
/-! DEFINITION. What a DMA moves (07 R244, R249 to R258; 02 R30, R36, R39, R40): the elements of its box in order, how they are read, converted and
written, and the footprints of its sides. -/

namespace Sys2Proof.Machine

/-- One destination element and the source element it takes; none is a zero (07 R252, R254). Coordinates are those of each side. -/
structure Item where
  dst : List Nat
  src : Option (List Nat)
  deriving DecidableEq, Repr

/-- The coordinates of element `i` of a box, dimension 0 fastest. -/
def boxCoord (ext : List Nat) (i : Nat) : List Nat := (ext.foldl (fun (acc : List Nat × Nat) n => (acc.1 ++ [acc.2 % n], acc.2 / n)) ([], i)).1

def addCoord (a b : List Nat) : List Nat := (List.range 6).map (fun d => a.getD d 0 + b.getD d 0)

/-- A coordinate with one dimension replaced. -/
def setCoord (c : List Nat) (g v : Nat) : List Nat := (List.range 6).map (fun d => if d = g then v else c.getD d 0)

/-- The source of a window's destination element (07 R252). -/
def windowSrc (a : Side) (w : WindowRec) (c : List Nat) : Option (List Nat) :=
  let n := a.bound 0
  let k := c.getD 0 0 / n
  let x : Int := ((c.getD 1 0 * w.sx + k % w.kx * w.dx : Nat) : Int) - w.pxl
  let y : Int := ((c.getD 2 0 * w.sy + k / w.kx * w.dy : Nat) : Int) - w.pyl
  if 0 ≤ x ∧ x < a.bound 1 ∧ 0 ≤ y ∧ y < a.bound 2 then
    some [c.getD 0 0 % n, x.toNat, y.toNat, c.getD 3 0, c.getD 4 0, c.getD 5 0]
  else none

/-- The element of a box at destination position `c`, with the indices of a gather or scatter; none where a scatter writes nothing. -/
def DmaReq.item (r : DmaReq) (a b : Side) (x : Box) (idx : List Index) (c : List Nat) : Option Item :=
  let d := addCoord b.org c
  let sc := addCoord a.org ((List.range 6).map (fun k => match (List.range 6).find? (fun j => x.permOf j == k) with
    | some j => c.getD j 0
    | none => 0))
  let g := r.subop
  match r.op with
  | 1 => match idx.getD (c.getD g 0) .skip with
    | .elem j => some { dst := d, src := some (setCoord sc g j) }
    | _ => some { dst := d, src := none }
  | 2 | 3 => match idx.getD (c.getD g 0) .skip with
    | .elem j => some { dst := setCoord d g j, src := some sc }
    | _ => none
  | 4 => some { dst := d, src := match r.win with
      | some w => windowSrc a w d
      | none => none }
  | _ => some { dst := d, src := some sc }

/-- The elements of a move at the box coordinates that `keep` names, in rows along dimension 0 of the destination. -/
def DmaReq.rowsAt (r : DmaReq) (a b : Side) (x : Box) (idx : List Index) (keep : List Nat → Bool) : List (List Item) :=
  (chunks (max 1 (b.ext.getD 0 0)) (List.range (volume b.ext))).map (fun l =>
    l.filterMap (fun i => let c := boxCoord b.ext i; if keep c then r.item a b x idx c else none))

/-- The elements of a move in rows along dimension 0 of the destination. -/
def DmaReq.rows (r : DmaReq) (a b : Side) (x : Box) (idx : List Index) : List (List Item) := r.rowsAt a b x idx (fun _ => true)

/-- The units that a move writes: whole blocks of a block or MX destination, single elements otherwise. -/
def DmaReq.units (r : DmaReq) (a b : Side) (x : Box) (idx : List Index) : List (List Item) :=
  (r.rows a b x idx).flatMap (chunks (blkSize b.t.fmt))

/-- The units of a move in the order in which they are written: a scatter writes its slices in ascending index position (07 R255). -/
def DmaReq.slices (r : DmaReq) (a b : Side) (x : Box) (idx : List Index) : List (List (List Item)) :=
  if r.op = 2 then
    (List.range (x.ext.getD r.subop 0)).map (fun j => (r.rowsAt a b x idx (fun c => c.getD r.subop 0 == j)).flatMap (chunks (blkSize b.t.fmt)))
  else [r.units a b x idx]

/-! ## Elements in memory -/

/-- The bytes of element `k` of a shard: significands, then the block exponent or scale (02 R34, R35; 07 R236). -/
def elemRanges (t : TensorDesc) (k : Nat) : List (Nat × Nat) :=
  if isBlock t.fmt then
    let ga := t.base + k / 512 * mbGroup t.fmt
    let i := k % 512
    (if t.fmt = 4 then [(ga + i, 1)] else (List.range (mbWidth t.fmt)).map (fun p => (ga + 64 * p + i / 8, 1))) ++
      [(ga + mbSigBytes t.fmt + i / mbBlock t.fmt, 1)]
  else if isMx t.fmt then [(t.base + (if t.fmt = 0x13 then k / 2 else k), 1), (t.aux + k / 32, 1)]
  else [(t.base + k * typeBytes t.fmt, typeBytes t.fmt)]

/-- A reader of lines with their poison, by device and line number. -/
abbrev LineReader := Option (BitVec 17) → Nat → Line × Bool

def readBytes (rd : LineReader) (ep : Option (BitVec 17)) (a n : Nat) : List Byte :=
  (List.range n).map (fun i => (rd ep ((a + i) / 64)).1.extractLsb' (8 * ((a + i) % 64)) 8)

def readBad (rd : LineReader) (ep : Option (BitVec 17)) (a n : Nat) : Bool := (List.range n).any (fun i => (rd ep ((a + i) / 64)).2)

/-- The layout of an MX element type: E4M3, E5M2, E2M1 (02 Table 5). -/
def mxFmt (f : Nat) : Fmt := if f = 0x11 then ⟨4, 3⟩ else if f = 0x12 then ⟨5, 2⟩ else ⟨2, 1⟩

/-- The greatest finite code and the exponent of the greatest binade of an MX element type. -/
def mxMax (f : Nat) : Nat := if f = 0x11 then 0x7E else if f = 0x12 then 0x7B else 7
def mxEmax (f : Nat) : Int := if f = 0x11 then 8 else if f = 0x12 then 15 else 2

/-- The value of an MX element of code `v` under scale `x`: 2^(x - 127), NaN for 0xFF. -/
def mxVal (f v x : Nat) : FVal :=
  if x = 255 then .nan
  else if f = 0x10 then .ofInt (sint 8 v) ((x : Int) - 133)
  else
    let m := mxFmt f
    let sg := v / 2 ^ (m.eb + m.fb) % 2 == 1
    let e := v / 2 ^ m.fb % 2 ^ m.eb
    let fr := v % 2 ^ m.fb
    if f = 0x11 ∧ e = 15 ∧ fr = 7 then .nan
    else if f = 0x12 ∧ e = 31 then (if fr = 0 then .inf sg else .nan)
    else if e = 0 then .fin sg fr (m.qmin + x - 127)
    else .fin sg (fr + 2 ^ m.fb) (m.qmin + e - 1 + x - 127)

/-- A source element: its bits, its value, its significand and exponent in a block or MX format, its poison. -/
structure Got where
  raw : Nat
  val : FVal
  sig : Int
  exp : Nat
  bad : Bool
  deriving DecidableEq, Repr

/-- Read element `k` of a shard. -/
def gotAt (rd : LineReader) (ep : Option (BitVec 17)) (t : TensorDesc) (k : Nat) : Got :=
  let rs := elemRanges t k
  let b := rs.flatMap (fun r => readBytes rd ep r.1 r.2)
  let bad := rs.any (fun r => readBad rd ep r.1 r.2)
  let e := (b.getLastD 0).toNat
  if isBlock t.fmt then
    let w := mbWidth t.fmt
    let v := if t.fmt = 4 then sint 8 (b.getD 0 0).toNat
      else sint w ((List.range w).foldl (fun acc p => acc + 2 ^ p * ((b.getD p 0).toNat / 2 ^ (k % 8) % 2)) 0)
    { raw := 0, val := mbVal v e, sig := v, exp := e, bad := bad }
  else if isMx t.fmt then
    let v0 := (b.getD 0 0).toNat
    let v := if t.fmt = 0x13 then v0 / 16 ^ (k % 2) % 16 else v0
    { raw := v, val := mxVal t.fmt v e, sig := sint 8 v, exp := e, bad := bad }
  else { raw := leNat b, val := if t.fmt < 3 then (typeFmt t.fmt).decode (leNat b) else .zero, sig := 0, exp := 0, bad := bad }

/-- Bytes to write on a device. -/
structure Piece where
  ep : Option (BitVec 17)
  addr : Nat
  bytes : List Byte
  bad : Bool
  deriving DecidableEq, Repr

/-- What one unit writes and reports: block overflows, blocks re-blocked with loss, conversion overflows, an infinity from finite terms. -/
structure DmaOut where
  pieces : List Piece
  ovf : Nat
  lossy : Nat
  conv : Nat
  inf : Bool
  deriving DecidableEq, Repr

def DmaOut.none : DmaOut := { pieces := [], ovf := 0, lossy := 0, conv := 0, inf := false }

def DmaOut.join (x y : DmaOut) : DmaOut :=
  { pieces := x.pieces ++ y.pieces, ovf := x.ovf + y.ovf, lossy := x.lossy + y.lossy, conv := x.conv + y.conv, inf := x.inf || y.inf }

/-! ## Conversions -/

/-- An element of a destination that is no block or MX format (07 R249, 02 R39, R40): its bits, an overflow, a conversion overflow. (log 42, DESIGN CHOICE) -/
def convElem (a b : Nat) (m : Rnd) (g : Got) : Nat × Bool × Bool :=
  if a = b then (g.raw, false, false)
  else
    let f := typeFmt b
    let r := f.round m g.val
    if isMx a && g.val.isFin && (f.round .rne g.val).2 then ((f.round .rne g.val).1, false, true) else (r.1, r.2 && !isMx a, false)

/-- A block that MXINT8 or MXFP4 elements of one block make in MB8 (02 Table 5, R40). -/
def mxToMb8 (f : Nat) (gs : List Got) : BlockOut :=
  let x := (gs.map (·.exp)).headD 0
  let sh := if f = 0x10 then 6 else 1
  if x = 255 ∨ gs.any (fun g => g.val.isNan) = true then { sigs := gs.map (fun _ => 0), exp := 255, ovf := true, nanBlock := true }
  else
    let sig := fun (g : Got) => if f = 0x10 then g.sig else FVal.at (-1) (mxVal f g.raw 127)
    let one := fun (v : Int) =>
      let n : Nat := if x < sh then (roundTo v.natAbs 0 ((sh : Int) - x) .rne).1 else v.natAbs
      let n := min 127 n
      if v < 0 then -(n : Int) else (n : Int)
    { sigs := gs.map (fun g => one (sig g)), exp := x - sh, ovf := false, nanBlock := false }

/-- Significands and scale of an MXINT8 block from an MB8 block (02 Table 5, R40); the flag is a conversion overflow. A NaN
block has scale 255 and zeros, and counts none. (log 44, DESIGN CHOICE) -/
def mb8ToMx (sigs : List Int) (e : Nat) : List Int × Nat × Bool :=
  if e = 255 then (sigs.map (fun _ => 0), 255, true)
  else if e ≤ 248 then (sigs, e + 6, false)
  else
    let one := fun (v : Int) => let n := min 127 (v.natAbs * 2 ^ (e - 248)); if v < 0 then -(n : Int) else (n : Int)
    (sigs.map one, 254, true)

/-- Codes and scale of an MXFP8 or MXFP4 block from values that are no NaN (02 Table 5, R40); the flag is a conversion overflow. An infinity, for which
the scale would rise above 254, saturates. (log 49, DEDUCED) -/
def floatToMx (f : Nat) (vals : List FVal) : List Nat × Nat × Bool :=
  let m := maxMag vals
  let x := if vals.any (·.isInf) then 254 else if m.isZero then 0 else clampE (m.log2Floor - mxEmax f + 127)
  let l := mxFmt f
  let cs := vals.map (fun v => match v with
    | .fin sg mag e =>
      let c := if mag = 0 then 0 else l.magBits .rne mag (e - x + 127)
      ((if sg then 2 ^ (l.eb + l.fb) else 0) + min c (mxMax f), decide (mxMax f < c))
    | .inf sg => ((if sg then 2 ^ (l.eb + l.fb) else 0) + mxMax f, true)
    | .nan => (0, false))
  (cs.map (·.1), x, cs.any (·.2))

/-- The bytes of codes of an MX block: two MXFP4 elements share a byte. (log 42, DESIGN CHOICE) -/
def mxBytes (f : Nat) (cs : List Nat) : List Byte :=
  if f = 0x13 then (chunks 2 cs).map (fun p => BitVec.ofNat 8 (p.getD 0 0 % 16 + 16 * (p.getD 1 0 % 16))) else cs.map (fun c => BitVec.ofNat 8 c)

/-! ## Units -/

/-- Whether the elements of a unit are those of one source block, in their places (07 R250). -/
def keptBlock (a : Side) (bs : Nat) (l : List Item) : Bool :=
  match l.head?.bind (·.src) with
  | none => false
  | some c0 =>
    let k := c0.getD 0 0
    k % bs == 0 && (l.length == bs || k + l.length == a.bound 0) &&
      (l.zipIdx.all (fun (x : Item × Nat) => x.1.src == some (setCoord c0 0 (k + x.2))))

/-- What a run of a move needs: the state it reads, its request and sides, its reader, the number of its first free value. -/
structure MoveCtx where
  s : State
  r : DmaReq
  a : Side
  b : Side
  rd : LineReader
  free : Nat

/-- Rounding of a destination element (02 R60, domain 3). -/
def MoveCtx.rnd (m : MoveCtx) (c : List Nat) : Rnd :=
  if m.r.rnd = 2 then
    .sr (rand16 m.s.stepNumber.toNat m.s.salt m.b.t.tensorId.toNat m.r.phase.toNat 3 (m.b.globalIndex c))
  else rndOf m.r.rnd

def MoveCtx.get (m : MoveCtx) (i : Item) : Got := match i.src with
  | some c => let p := m.s.place m.a c; gotAt m.rd p.ep m.a.t p.k
  | none => { raw := 0, val := .zero, sig := 0, exp := 0, bad := false }

/-- The pieces of the blocks of a group that lie wholly in padding, with the last block of a shard (02 R36). -/
def padPieces (t : TensorDesc) (ep : Option (BitVec 17)) (k n size : Nat) : List Piece :=
  if k + n = size then
    ((List.range (512 / mbBlock t.fmt)).filter (fun kb => decide (k % 512 / mbBlock t.fmt < kb))).flatMap (fun kb =>
      (blockPieces t.fmt (t.base + k / 512 * mbGroup t.fmt) kb [] 0).map (fun p => { ep := ep, addr := p.1, bytes := p.2, bad := false }))
  else []

/-- Whether a unit of a block-format destination keeps a source block whole: its bits move, an MX or MB6 block widens (07 R249, R250). -/
def keepsBlock (a b : Side) (l : List Item) : Bool :=
  let sf := a.t.fmt
  keptBlock a (blkSize sf) l && blkSize sf == mbBlock b.t.fmt && (sf == b.t.fmt || (sf == 5 && b.t.fmt == 4) || isMx sf)

/-- Whether a unit forms a new block under its destination's recipe, which reads and writes a gradient's carry slots (07 R250). -/
def formsBlock (a b : Side) (l : List Item) : Bool := isBlock b.t.fmt && !l.all (·.src.isNone) && !keepsBlock a b l

/-- A unit of a block-format destination (07 R249 to R251, R254). -/
def MoveCtx.mbUnit (m : MoveCtx) (l : List Item) : DmaOut :=
  let t := m.b.t
  let f := t.fmt
  let sf := m.a.t.fmt
  let p := m.s.place m.b (l.headD { dst := [], src := none }).dst
  let gs := l.map m.get
  let kb := p.k % 512 / mbBlock f
  let ga := t.base + p.k / 512 * mbGroup f
  let out := fun (sigs : List Int) (e : Nat) (bad : Bool) =>
    (blockPieces f ga kb sigs e).map (fun q => ({ ep := p.ep, addr := q.1, bytes := q.2, bad := bad } : Piece)) ++
      padPieces t p.ep p.k l.length (m.b.shardSize p.ranks)
  let bad := gs.any (·.bad)
  let e := (gs.map (·.exp)).headD 0
  if l.all (·.src.isNone) then { DmaOut.none with pieces := out [] 0 false }
  else if keepsBlock m.a m.b l then
    if isMx sf then
      let b := mxToMb8 sf gs
      { DmaOut.none with pieces := out b.sigs b.exp bad, ovf := if b.ovf then 1 else 0 }
    else if sf ≠ f ∧ e = 255 then { DmaOut.none with pieces := out (gs.map (fun _ => 0)) 255 bad, ovf := 1 }
    else { DmaOut.none with pieces := out (gs.map (·.sig)) e bad }
  else
    let ca := t.aux + 2 * (p.k / mbBlock f)
    let bad := bad || (t.gradient && readBad m.rd p.ep ca 2)
    let sl := readBytes m.rd p.ep ca 2
    let vals := (l.zip gs).map (fun x => (x.2.val, m.rnd x.1.dst))
    let r := recipeBlock (mbWidth f) t.gradient (m.s.stepNumber.toNat % 2 == 1) ((sl.getD 0 0).toNat, (sl.getD 1 0).toNat) vals
    let lost := isBlk sf && (gs.zip r.1.sigs).any (fun x => !x.1.val.isNan && !(mbVal x.2 r.1.exp).eqv x.1.val)
    { DmaOut.none with
      pieces := out r.1.sigs r.1.exp bad ++
        (if t.gradient then [{ ep := p.ep, addr := ca, bytes := [BitVec.ofNat 8 r.2.1, BitVec.ofNat 8 r.2.2], bad := bad }] else [])
      ovf := if r.1.ovf then 1 else 0
      lossy := if lost then 1 else 0 }

/-- The free bytes of an MX block: an E5M2 infinity is never written (02 R40). (log 42, DESIGN CHOICE) -/
def mxFree (f v n : Nat) : List Byte :=
  (leBytes v n).map (fun b => if f = 0x12 ∧ b.toNat % 128 = 0x7C then b - 1 else b)

/-- A unit of an MX destination (02 R39, R40): the result of a block with a NaN among its source elements is not stated, so its bytes are free. -/
def MoveCtx.mxUnit (m : MoveCtx) (u : Nat) (l : List Item) : DmaOut :=
  let t := m.b.t
  let f := t.fmt
  let p := m.s.place m.b (l.headD { dst := [], src := none }).dst
  let gs := l.map m.get
  let vals := gs.map (·.val)
  let addr := t.base + (if f = 0x13 then p.k / 2 else p.k)
  let out := fun (body : List Byte) (x : Nat) =>
    [({ ep := p.ep, addr := addr, bytes := body, bad := gs.any (·.bad) } : Piece),
     { ep := p.ep, addr := t.aux + p.k / 32, bytes := [BitVec.ofNat 8 x], bad := gs.any (·.bad) }]
  if l.all (·.src.isNone) then { DmaOut.none with pieces := out (mxBytes f (gs.map (fun _ => 0))) 0 }
  else if f = 0x10 then
    let whole := keptBlock m.a 32 l
    let b := if whole then { sigs := gs.map (·.sig), exp := (gs.map (·.exp)).headD 0, ovf := false, nanBlock := false }
      else mbBlockMax 8 ((l.zip gs).map (fun x => (x.2.val, m.rnd x.1.dst)))
    let r := mb8ToMx b.sigs b.exp
    let lost := !whole && (gs.zip b.sigs).any (fun x => !x.1.val.isNan && !(mbVal x.2 b.exp).eqv x.1.val)
    { DmaOut.none with
      pieces := out (r.1.map (fun v => BitVec.ofNat 8 (uint 8 v))) r.2.1
      conv := if r.2.2 && b.exp != 255 then 1 else 0
      lossy := if lost then 1 else 0 }
  else if vals.all (fun v => !v.isNan) then
    let r := floatToMx f vals
    { DmaOut.none with
      pieces := out (mxBytes f r.1) r.2.1
      conv := if r.2.2 then 1 else 0 }
  else
    let v := Config.freeValue (m.free + u)
    { DmaOut.none with pieces := out (mxFree f v (mxBytes f (gs.map (·.raw))).length) (v / 2 ^ 256 % 256) }

/-- A unit of any destination. -/
def MoveCtx.unit (m : MoveCtx) (u : Nat) (l : List Item) : DmaOut :=
  let f := m.b.t.fmt
  if isBlock f then m.mbUnit l
  else if isMx f then m.mxUnit u l
  else match l with
    | [] => DmaOut.none
    | i :: _ =>
      let p := m.s.place m.b i.dst
      let g := m.get i
      let r := if i.src.isNone then (0, false, false) else convElem m.a.t.fmt f (m.rnd i.dst) g
      { DmaOut.none with
        pieces := [{ ep := p.ep, addr := m.b.t.base + p.k * typeBytes f, bytes := leBytes r.1 (typeBytes f), bad := g.bad }]
        conv := if r.2.2 then 1 else 0
        inf := r.2.1 }

/-! ## Footprints (07 R258) -/

/-- A range of bytes that a descriptor may touch on a device. -/
structure Foot where
  ep : Option (BitVec 17)
  lo : Nat
  hi : Nat
  write : Bool
  deriving DecidableEq, Repr

/-- Widen the footprint of a device by a range. -/
def footAdd (l : List Foot) (ep : Option (BitVec 17)) (write : Bool) (r : Nat × Nat) : List Foot :=
  if l.any (fun f => f.ep == ep) then l.map (fun f => if f.ep = ep then { f with lo := min f.lo r.1, hi := max f.hi (r.1 + r.2) } else f)
  else l ++ [{ ep := ep, lo := r.1, hi := r.1 + r.2, write := write }]

/-- Whether two footprints overlap on a device. -/
def Foot.meets (a b : Foot) : Bool := a.ep == b.ep && decide (a.lo < b.hi ∧ b.lo < a.hi)

/-- The ranges that a side's element may touch: its bytes; on the destination its carry slots, and the padding of a last group. -/
def Side.touches (x : Side) (p : Place) (dst : Bool) : List (Nat × Nat) :=
  elemRanges x.t p.k ++
  (if dst && x.t.gradient then [(x.t.aux + 2 * (p.k / mbBlock x.t.fmt), 2)] else []) ++
  (if dst && isBlock x.t.fmt && p.k + 1 == x.shardSize p.ranks then [(x.t.base + p.k / 512 * mbGroup x.t.fmt, mbGroup x.t.fmt)] else [])

/-- The footprints of one side; the indexed side covers its whole extent along g. -/
def State.sideFeet (s : State) (r : DmaReq) (a b : Side) (x : Box) (dst : Bool) : List Foot :=
  let side := if dst then b else a
  let l := match r.indexDim dst with
    | some g => side.bound g
    | none => 0
  let idx := (List.range l).map Index.elem
  let plain := (List.range (x.ext.getD r.subop 0)).map Index.elem
  let b' := match r.indexDim dst with
    | some g => { b with ext := setCoord b.ext g l }
    | none => b
  let items := (r.rows a b' x (if (r.indexDim dst).isSome then idx else plain)).flatten
  items.foldl (fun (acc : List Foot) i =>
    match if dst then some i.dst else i.src with
    | some c => let p := s.place side c; (side.touches p dst).foldl (fun acc q => footAdd acc p.ep dst q) acc
    | none => acc) []

/-- The footprints of a queued descriptor (07 R246, R258). -/
def State.feet (s : State) (r : DmaReq) : List Foot :=
  match r.op with
  | 5 => [{ ep := r.dstEp, lo := r.dst, hi := r.dst + 64, write := true }] ++
      (if adderCas r.subop then [{ ep := none, lo := r.xrec + 128, hi := r.xrec + 192, write := true }] else [])
  | 6 => [{ ep := none, lo := r.src, hi := r.src + r.boxLen, write := false }, { ep := none, lo := r.dst, hi := r.dst + 32, write := true }]
  | 7 => [{ ep := none, lo := r.src, hi := r.src + 32 * r.arg.toNat, write := false }, { ep := none, lo := r.dst, hi := r.dst + 32, write := true }]
  | _ => match s.sides r, r.box with
    | some (a, b), some x => s.sideFeet r a b x false ++ s.sideFeet r a b x true
    | _, _ => []

/-- The first two cases of 07 Table 7 that allow an overlap: a COPY of a box onto itself, and an exact in-place transposition. -/
def DmaReq.selfCopy (r : DmaReq) (a b : Side) (x : Box) : Bool :=
  r.op == 0 && !r.diag && a.t.raw == b.t.raw && a.ep == b.ep && a.global == b.global && x.srcOrg == x.dstOrg && x.identity

def DmaReq.transposes (r : DmaReq) (a b : Side) (x : Box) : Bool :=
  r.op == 0 && r.diag && a.t.raw == b.t.raw && a.ep == b.ep && a.global == b.global && decide (a.t.fmt < 4) && x.perm == [1, 0, 2, 3, 4, 5] &&
  x.ext.getD 0 0 == x.ext.getD 1 0 && x.srcOrg == x.dstOrg && x.srcOrg.getD 0 0 == x.srcOrg.getD 1 0

/-- Whether 07 Table 7 rejects a move. -/
def State.overlapBad (s : State) (r : DmaReq) (a b : Side) (x : Box) : Bool :=
  if r.diag then !r.transposes a b x
  else if r.selfCopy a b x then false
  else (s.sideFeet r a b x false).any (fun f => (s.sideFeet r a b x true).any f.meets)

end Sys2Proof.Machine
end

