-- ==== Sys2Proof/Machine/Dma.lean ====
section
/-! DEFINITION. DMAQ, the DMA engines and Grist (04 R146; 07 R243 to R266): a descriptor is checked at issue, started, moved and completed. -/

namespace Sys2Proof.Machine

/-! ## Checks at issue (07 R245, R260) -/

/-- Whether an address of a target line can lie in HBM on another device, or lies in HBM on this one (07 R256, R259). -/
def State.inHbm (s : State) (ep : Option (BitVec 17)) (a : Nat) : Bool :=
  if ep.isSome then decide (a < 0x30000000000)
  else match s.home a with
    | some (.hbm _) => true
    | _ => false

/-- The codes that do not depend on the records a descriptor names. -/
def State.dmaHead (s : State) (b : List Byte) (job : Nat) : List Nat :=
  let f := recNat b 1 1
  let m := recNat b 2 1
  let inc := sint 32 (recNat b 48 4)
  let st := recNat b 56 8
  codes [(decide (16 ≤ f) || decide (64 ≤ m) || bits (recNat b 40 4) 30 17 != 0 || bits (recNat b 44 4) 30 17 != 0, 0x0701),
    (decide (7 < recNat b 0 1) || dmaUnused b || m / 4 % 4 == 3 || m / 16 % 4 == 3 || inc == -(2 ^ 31) ||
      (inc != 0 && s.counterOwner (recNat b 4 2) != job), 0x0702),
    (decide (st % 8 ≠ 0), 0x0703), (st != 0 && ((localForm st).bind s.home).isNone, 0x0704),
    ((f.testBit 2 && recNat b 40 4 != 0x80000000) || (f.testBit 3 && recNat b 44 4 != 0x80000000), 0x0705), (f.testBit 0 && recNat b 0 1 != 0, 0x0708)]

/-- The checks of a move: COPY, GATHER, SCATTER, SCATTER_ADD, WINDOW. -/
def State.movePlan (s : State) (head : List Nat) (r : DmaReq) : DmaPlan :=
  let g := (s.job r.job).table
  let sr := s.dmaRec r.src 64 64
  let dr := s.dmaRec r.dst 64 64
  let br := s.dmaRec r.boxLen 128 64
  let wr := if r.op = 4 then s.dmaRec r.xrec 64 64 else RecIn.none
  let x := boxOf br.bytes
  let ix := decide (1 ≤ r.op ∧ r.op ≤ 3)
  let listN := 4 * x.ext.getD r.subop 0
  let recs := head ++ sr.codes ++ dr.codes ++ br.codes ++ wr.codes ++
    (if sr.bytes.isEmpty then [] else tensorCodes sr.bytes g) ++ (if dr.bytes.isEmpty then [] else tensorCodes dr.bytes g) ++
    codes [((!br.bytes.isEmpty && (decide (2 ^ 18 ≤ recNat br.bytes 72 3) || !recZero br.bytes 75 128)) || !recZero wr.bytes 20 64, 0x0701),
      (ix && decide (r.xrec % 4 ≠ 0), 0x0703),
      (ix && ((localForm r.xrec).isNone || !s.inOneWindow r.xrec listN), 0x0704)]
  let r := { r with srcT := some (tensorOf sr.bytes), dstT := some (tensorOf dr.bytes), box := some x, win := if r.op = 4 then some (winOf wr.bytes) else none }
  let poison := sr.poison ++ dr.poison ++ br.poison ++ wr.poison
  if !recs.isEmpty then { codes := recs, poison := poison, req := r }
  else match s.sides r with
    | none => { codes := recs, poison := poison, req := r }
    | some (a, b) =>
      let m := s.moveCodes r a b x ++ codes [(r.op == 4 && windowBad a b x (winOf wr.bytes), 0x0707), (r.op == 3 && !s.inHbm b.ep b.t.base, 0x070C)]
      let grid := fun (x : Side) => if x.ep.isSome && x.t.sharded then
          (match s.gridFind g (x.ep.getD 0) with
           | some p => s.poisonedIn g.grid (4 * (p + 1))
           | none => s.poisonedIn g.grid (4 * g.g)) else []
      { codes := if m.isEmpty then codes [(s.overlapBad r a b x, 0x0708)] else m, poison := poison ++ grid a ++ grid b, req := r }

/-- The checks of an ATOMIC (07 R259): its operand record is read now. -/
def State.atomicPlan (s : State) (head : List Nat) (r : DmaReq) : DmaPlan :=
  let x := s.dmaRec r.xrec 192 64
  let out := (localForm r.dst).isNone || (r.dstEp.isNone && (s.home r.dst).isNone)
  { codes := head ++ x.codes ++ codes [(!adderMaskOk r.subop r.arg.toNat, 0x0702), (decide (r.dst % 64 ≠ 0), 0x0703), (out, 0x0704),
      (!out && !s.inHbm r.dstEp r.dst, 0x070C)]
    poison := x.poison
    req := { r with operands := lineOf (x.bytes.take 64), compares := lineOf ((x.bytes.drop 64).take 64) } }

/-- The checks of a SCAN or a COMBINE (07 R258, R262 to R264): the result record does not lie in what is read; an empty range has no footprint. -/
def State.gristPlan (s : State) (head : List Nat) (r : DmaReq) : DmaPlan :=
  let outside := fun (g n : Nat) => (localForm g).isNone || !s.inOneWindow g n
  let n := if r.op = 6 then r.boxLen else 32 * r.arg.toNat
  let cont := r.op == 6 && r.subop.testBit 2
  { codes := head ++ codes [
      (r.subop % 4 == 3 || decide (r.subop ≥ (if r.op = 6 then 8 else 4)) ||
        (r.op == 7 && !decide (1 ≤ r.arg.toNat ∧ r.arg.toNat ≤ 4096)), 0x0702),
      (decide (r.dst % 32 ≠ 0) || (cont && decide (r.xrec % 32 ≠ 0)) || (r.op == 7 && decide (r.src % 32 ≠ 0)), 0x0703),
      (outside r.dst 32 || (cont && outside r.xrec 32) || (r.op == 7 && outside r.src n), 0x0704), (decide (n ≠ 0 ∧ r.src < r.dst + 32 ∧ r.dst < r.src + n), 0x0708),
      (r.op == 6 && (decide (2 ^ 40 < r.boxLen) || outside r.src n), 0x070E)]
    poison := [], req := r }

/-- Everything DMAQ finds in a descriptor of a job (07 R245). -/
def State.dmaPlan (s : State) (b : List Byte) (job stream : Nat) : DmaPlan :=
  let head := s.dmaHead b job
  let r := dmaReqOf b job stream (s.epField (recNat b 40 4)) (s.epField (recNat b 44 4))
  match r.op with
  | 0 | 1 | 2 | 3 | 4 => s.movePlan head r
  | 5 => s.atomicPlan head r
  | 6 | 7 => s.gristPlan head r
  | _ => { codes := head, poison := [], req := r }

/-- The records that a descriptor names, as ranges: TENSOR, box and window records of a move, the operand record of an ATOMIC (07 R243). -/
def dmaRecords (r : DmaReq) : List (Nat × Nat) := match r.op with
  | 0 | 1 | 2 | 3 => [(r.src, 64), (r.dst, 64), (r.boxLen, 128)]
  | 4 => [(r.src, 64), (r.dst, 64), (r.boxLen, 128), (r.xrec, 64)]
  | 5 => [(r.xrec, 192)]
  | _ => []

/-- DMAQ reads the records of its descriptor, and GRID where it looks for an endpoint, through their home Tun, once its own checks let it (06 R199,
07 R244, R245). -/
def State.dmaTouch (s : State) (c : Nat) (go : Bool) (b : List Byte) : State :=
  let x := s.core c
  if !go || x.run != .running || x.wait != .none || x.sleep != .awake || x.fenced then s
  else
    let r := dmaReqOf b (s.jobOf c) x.stream (s.epField (recNat b 40 4)) (s.epField (recNat b 44 4))
    let g := (s.job r.job).table
    let s := s.each (dmaRecords r) State.touchSpan
    if g.g ≠ 1 ∧ r.op < 5 ∧ ([(r.src, r.srcEp), (r.dst, r.dstEp)].any (fun p => p.2.isSome && (tensorOf (s.view p.1 64)).sharded)) = true then s.touchRange g.grid (4 * g.g) else s

/-- DMAQ (04 R146, R154): FUNC names the engine; the descriptor is read once no write in
flight covers it (R142); a rejected descriptor faults with code 0x13 and its code as detail, a poisoned record with 0x13,
the detail 0x070A and a consumption. -/
def execDmaq (c : Fin 144) (w : GenFields) (s : State) : Host.Outcome State Fault Refusal :=
  let x := s.core c
  let a := (x.s w.a.toNat).toNat
  let e := w.func.toNat
  let first := codes [(({ d := true, a := true } : Uses).bad w, 0x02), (decide (1 < e), 0x03), (decide (a % 64 ≠ 0), 0x08), (outside a 64, 0x09)]
  let busy := x.conflict a (a + 64) false
  let own := x.lpoison a 64
  let s := s.dmaTouch c (first.isEmpty && !busy && !own) (x.lread a 64)
  let p := s.dmaPlan (x.lread a 64) (s.jobOf c) x.stream
  let poison := (if own then [lmemLine c (a / 64)] else []) ++ (if own then [] else p.poison)
  let rejected := !busy && first.isEmpty && (!poison.isEmpty || !p.codes.isEmpty)
  let t := s.issue c (genWord 0x60 w)
    { addrS := [w.a.toNat]
      faults := first ++ (if rejected then [0x13] else []) ++ codes [(x.groupFull false, 0x17)]
      detail := if first.isEmpty then (if !poison.isEmpty then 0x070A else (p.codes.min?).getD 0) else 0
      stall := if busy then .tracker else if x.skip = 0 ∧ 16 ≤ (vget x.dma e DmaEngine.reset).queue.length then .dmaQueue else .none }
    (fun s => s.effect c none (fun s =>
      let n := (vget x.dma e DmaEngine.reset).nextSeq
      (((s.bump 0x4040 0 1).modCore c (fun x =>
        { x.setS w.d.toNat (n.setWidth 64) false with dma := vmod x.dma e (fun d => { d with queue := d.queue ++ [{ p.req with seq := n }], nextSeq := n + 1 }) })), 0)))
  let hit := (s.core c).run == .running && (t.core c).run == .faulted && ((t.core c).fault.map (·.code)) == some 0x13
  .next (if !hit then t
    else if poison.isEmpty then t.bump 0x4040 1 1
    else (t.bump 0x4040 1 1).each poison (fun s l => s.coreConsume c l))

/-! ## Running (07 R246, R247) -/

/-- A running descriptor. -/
def State.dmaRun (s : State) (c e : Nat) (seq : BitVec 32) : Option DmaRun :=
  (vget (s.core c).dma e DmaEngine.reset).running.find? (fun (r : DmaRun) => r.req.seq == seq)

/-- The unit number of a DMA engine in the poison event log. (log 32, DEDUCED) -/
def dmaUnit (c e : Nat) : Nat := 144 + 2 * c + e

/-- A reader of memory for a descriptor: this device's lines, and those fetched from others. -/
def State.dmaReader (s : State) (fetched : List Fetched) : LineReader := fun ep ln => match ep with
  | none => s.line ln
  | some d => match fetched.find? (fun (f : Fetched) => f.ep == d && f.addr / 64 == ln) with
    | some f => (f.data, f.poison)
    | none => (0, true)

/-- The index list of a gather or scatter under its mode (07 R253, R254). -/
def State.dmaIndex (s : State) (r : DmaReq) (a b : Side) (x : Box) : List Index :=
  if 1 ≤ r.op ∧ r.op ≤ 3 then
    let g := r.subop
    let l := (if r.op = 1 then a else b).bound g
    (List.range (x.ext.getD g 0)).map (fun j => resolveIndex r.idxMode l (sint 32 (leNat (s.view (r.xrec + 4 * j) 4))))
  else []

/-- How many indices were wrapped, clamped or zero-filled. -/
def State.dmaMended (s : State) (r : DmaReq) (a b : Side) (x : Box) : Nat :=
  if 1 ≤ r.op ∧ r.op ≤ 3 then
    let l := (if r.op = 1 then a else b).bound r.subop
    ((List.range (x.ext.getD r.subop 0)).filter (fun j =>
      let v := sint 32 (leNat (s.view (r.xrec + 4 * j) 4))
      !decide (0 ≤ v ∧ v < l))).length
  else 0

/-- Add lines of a range to a list of (device, line). -/
def lineAdd (l : List (BitVec 17 × Nat)) (e : BitVec 17) (r : Nat × Nat) : List (BitVec 17 × Nat) :=
  (List.range (r.2)).foldl (fun l i => if l.contains (e, (r.1 + i) / 64) then l else l ++ [(e, (r.1 + i) / 64)]) l

/-- The lines of other devices that a move reads: source elements, and carry slots of gradient blocks formed there. (log 42, DESIGN CHOICE) -/
def State.remoteReads (s : State) (r : DmaReq) (a b : Side) (x : Box) (idx : List Index) : List (BitVec 17 × Nat) :=
  let src := (r.rows a b x idx).flatten.foldl (fun l i => match i.src with
    | some c =>
      let p := s.place a c
      match p.ep with
      | some e => (elemRanges a.t p.k).foldl (fun l q => lineAdd l e q) l
      | none => l
    | none => l) []
  if !b.t.gradient then src
  else (r.units a b x idx).foldl (fun l u =>
    let p := s.place b (u.headD { dst := [], src := none }).dst
    match if formsBlock a b u then p.ep else none with
    | some e => lineAdd l e (b.t.aux + 2 * (p.k / mbBlock b.t.fmt), 2)
    | none => l) src

/-- The GRID lines that a move with a global side reads (09 R319). -/
def dmaGridLines (a b : Side) (r : DmaReq) (x : Box) (idx : List Index) : List Nat :=
  let t := a.table
  let one := fun (y : Side) (c : List Nat) (l : List Nat) =>
    let h := y.holder c
    let g := t.grid + 4 * t.posOf (fun k => h.1.getD k 0)
    if y.global && h.1 != t.mine && t.g != 1 then sadd l (g / 64) else l
  (r.rows a b x idx).flatten.foldl (fun l i => one b i.dst (match i.src with
    | some c => one a c l
    | none => l)) []

/-- Lines of this device that a move reads through the Tun. -/
def State.localReads (s : State) (r : DmaReq) (a b : Side) (x : Box) (idx : List Index) : List Nat :=
  let src := (r.rows a b x idx).flatten.foldl (fun l i => match i.src with
    | some c => let p := s.place a c
      if p.ep.isNone then (elemRanges a.t p.k).foldl (fun l q => sadd l (q.1 / 64)) l else l
    | none => l) []
  if !b.t.gradient then src
  else (r.units a b x idx).foldl (fun l u =>
    let p := s.place b (u.headD { dst := [], src := none }).dst
    if formsBlock a b u && p.ep.isNone then sadd l ((b.t.aux + 2 * (p.k / mbBlock b.t.fmt)) / 64) else l) src

/-- Lines of this device that a move writes, or whose adders it uses. -/
def State.localWrites (s : State) (r : DmaReq) (a b : Side) (x : Box) (idx : List Index) : List Nat :=
  (r.rows a b x idx).flatten.foldl (fun l i =>
    let p := s.place b i.dst
    if p.ep.isNone then (elemRanges b.t p.k).foldl (fun l q => sadd l (q.1 / 64)) l else l) []

/-- Whether a move must wait for a channel that a retraining slice has taken offline (06 R214, R215). (log 47, DESIGN CHOICE) -/
def State.dmaWaits (s : State) (r : DmaReq) (a b : Side) (x : Box) (idx : List Index) : Bool :=
  s.retraining && (s.offline (s.localReads r a b x idx) s.missChan ||
    s.offline (s.localWrites r a b x idx) (if r.op = 3 then s.adderChan else fun ln => s.writeChan ln 1))

/-- Bytes collected for one line of one device. -/
structure LineOut where
  ep : Option (BitVec 17)
  line : Nat
  data : Line
  mask : BitVec 64
  bad : Bool
  deriving DecidableEq, Repr

/-- Put one byte into the collected lines. -/
def lineOut (l : List LineOut) (ep : Option (BitVec 17)) (a : Nat) (b : Byte) (bad : Bool) : List LineOut :=
  let m := BitVec.twoPow 64 (a % 64)
  let d : Line := b.setWidth 512 <<< (8 * (a % 64))
  if l.any (fun x => x.ep == ep && x.line == a / 64) then
    l.map (fun x => if x.ep = ep ∧ x.line = a / 64 then { x with data := mergeLine x.data d m, mask := x.mask ||| m, bad := x.bad || bad } else x)
  else l ++ [{ ep := ep, line := a / 64, data := mergeLine 0 d m, mask := m, bad := bad }]

/-- Lines of a later slice over those of earlier ones: a line that it covers whole takes its poison alone (06 R207, 07 R255). -/
def linesOver (old new : List LineOut) : List LineOut :=
  new.foldl (fun l x =>
    if l.any (fun y => y.ep == x.ep && y.line == x.line) then
      l.map (fun y => if y.ep = x.ep ∧ y.line = x.line then
        (if x.mask = fullMask then x else { y with data := mergeLine y.data x.data x.mask, mask := y.mask ||| x.mask, bad := y.bad || x.bad }) else y)
    else l ++ [x]) old

def linesOut (ps : List Piece) : List LineOut :=
  ps.foldl (fun l p => p.bytes.zipIdx.foldl (fun l (b : Byte × Nat) => lineOut l p.ep (p.addr + b.2) b.1 p.bad) l) []

/-- Write the collected lines: this device's through the Tun, others as WRITE requests that the descriptor waits for (07 R251). -/
def State.dmaWrite (s : State) (c e : Nat) (r : DmaReq) (l : List LineOut) : State :=
  let s := s.each l (fun s x => match x.ep with
    | none => s.tunWrite x.line x.data x.mask x.bad r.locality
    | some d =>
      let s := s.modRun c e r.seq (fun y => { y with waiting := y.waiting + 1 })
      s.sendLine (newRequest d 0 (.dma c e r.seq) r.job r.stream 1) d (64 * x.line) x.data x.mask x.bad)
  s.bump 0x4040 3 ((l.map (fun x => ((List.range 64).filter x.mask.getLsbD).length)).sum)

/-- One memory-side request of a descriptor (06 R228, 07 R256, R259): at this device's adder, or as an ATOMIC. -/
def State.dmaAtomic (s : State) (c e : Nat) (r : DmaReq) (ep : Option (BitVec 17)) (op mask a : Nat) (x cmp : Line) (bad : Bool) : State :=
  match ep with
  | none =>
    let t := s.adder op mask (a / 64) x cmp bad r.ordered
    match t.2 with
    | none => t.1.modRun c e r.seq (fun y => { y with code := if y.code = 0 then 0x070D else y.code })
    | some o =>
      let s := t.1.modRun c e r.seq (fun y => { y with fetched := y.fetched ++ [{ ep := 0, addr := a, data := o.old, poison := o.poison }] })
      if o.poison then s.consume (a / 64) (dmaUnit c e) r.stream r.job else s
  | some d =>
    let s := s.modRun c e r.seq (fun y => { y with waiting := y.waiting + 1 })
    let p := { blankPacket d (s.ep.getD 0) 2 0 0 with sub := BitVec.ofNat 4 op, arg := BitVec.ofNat 32 mask, addr := BitVec.ofNat 42 a }
    s.request { newRequest d 2 (.dma c e r.seq) r.job r.stream 1 with addr := a }
      (if adderCas op then packetLoad p [x, cmp] [bad, bad] else packetLoad p [x] [bad])

/-- Insert by a key, so that equal keys keep their order. (log 42, DESIGN CHOICE) -/
def insertKey {α : Type} (k : Nat) (x : α) : List (Nat × α) → List (Nat × α)
  | [] => [(k, x)]
  | (j, y) :: l => if k < j then (k, x) :: (j, y) :: l else (j, y) :: insertKey k x l

/-- A list in the order of free keys: the arrival order of unordered adds is not specified (06 R231, 07 R256). (log 42, DESIGN CHOICE) -/
def freeOrder {α : Type} (base : Nat) (l : List α) : List α :=
  (l.zipIdx.foldr (fun x acc => insertKey (Config.freeValue (base + x.2)) x.1 acc) []).map (·.2)

/-- Move the data of a descriptor whose sources are all at hand. (log 42, DESIGN CHOICE) -/
def State.dmaMove (s : State) (c e : Nat) (run : DmaRun) : State :=
  let r := run.req
  let t := s.modRun c e r.seq (fun y => { y with moved := true })
  if run.code ≠ 0 then t
  else match s.sides r, r.box with
    | some (a, b), some x =>
      let idx := s.dmaIndex r a b x
      if s.dmaWaits r a b x idx then s else
      let s := t.each (t.localReads r a b x idx) (fun s ln => s.touchRead ln r.locality)
      let rd := s.dmaReader run.fetched
      if r.op = 3 then
        let m : MoveCtx := { s := s, r := r, a := a, b := b, rd := rd, free := s.free }
        let l := (r.rows a b x idx).flatten
        let op := if a.t.fmt = 0 then 2 else if a.t.fmt = 1 then 3 else 0
        let sz := typeBytes a.t.fmt
        let n := l.length
        let todo := if r.ordered then l else freeOrder s.free l
        let s := { s with free := s.free + n }
        let s := s.each todo (fun s i =>
          let p := m.s.place b i.dst
          let g := m.get i
          let at_ := b.t.base + p.k * sz
          s.dmaAtomic c e r p.ep op (2 ^ (at_ % 64 / sz)) (at_ / 64 * 64) (BitVec.ofNat 512 (g.raw * 2 ^ (8 * (at_ % 64)))) 0 g.bad)
        s.bump 0x4040 3 (n * sz)
      else
        let us := r.slices a b x idx
        let m : MoveCtx := { s := s, r := r, a := a, b := b, rd := rd, free := s.free }
        let n := (us.map List.length).sum
        let os := us.zipIdx.map (fun sl => (sl.1.zipIdx.map (fun u => if u.1.isEmpty then DmaOut.none else m.unit (n * sl.2 + u.2) u.1)).foldl DmaOut.join DmaOut.none)
        let o := os.foldl DmaOut.join DmaOut.none
        let s := { s with free := s.free + n * us.length }
        let s := (s.bump 0x4040 4 o.lossy).bump 0x3103 3 o.conv
        let s := s.blockOverflow (coreQuarter c) r.job o.ovf
        let s := s.infReport (coreQuarter c) r.job (o.conv != 0 || o.inf)
        s.dmaWrite c e r ((os.map (fun y => linesOut y.pieces)).foldl linesOver [])
    | _, _ => t

/-- Begin a move: the whole index list is read first; lines of other devices are read before anything is moved. -/
def State.beginMove (s : State) (c e : Nat) (r : DmaReq) : State :=
  match s.sides r, r.box with
  | some (a, b), some x =>
    let s := if 1 ≤ r.op ∧ r.op ≤ 3 then s.touchRange r.xrec (4 * x.ext.getD r.subop 0) r.locality else s
    let bad := if 1 ≤ r.op ∧ r.op ≤ 3 then s.poisonedIn r.xrec (4 * x.ext.getD r.subop 0) else []
    let idx := s.dmaIndex r a b x
    let s := s.each (dmaGridLines a b r x idx) (fun s ln => s.touchRead ln r.locality)
    let grid := (dmaGridLines a b r x idx).filter (fun ln => (s.line ln).2)
    if !bad.isEmpty then s.each bad (fun s l => s.consume l (dmaUnit c e) r.stream r.job)
    else if idx.any (· == .bad) then s.modRun c e r.seq (fun y => { y with moved := true, code := 0x0709 })
    else if !grid.isEmpty then s.each grid (fun s l => s.consume l (dmaUnit c e) r.stream r.job)
    else if r.selfCopy a b x then s.modRun c e r.seq (fun y => { y with moved := true })
    else
      let s := s.bump 0x4040 5 (s.dmaMended r a b x)
      let need := s.remoteReads r a b x idx
      if need.isEmpty then
        match s.dmaRun c e r.seq with
        | some run => s.dmaMove c e run
        | none => s
      else s.each need (fun s n =>
        let s := s.modRun c e r.seq (fun y => { y with waiting := y.waiting + 1 })
        s.request { newRequest n.1 1 (.dma c e r.seq) r.job r.stream 1 with lines := 1, addr := 64 * n.2 }
          { blankPacket n.1 (s.ep.getD 0) 1 0 0 with arg := 1, addr := BitVec.ofNat 42 (64 * n.2) })
  | _, _ => s

/-- Begin a descriptor that has left its queue. -/
def State.dmaBegin (s : State) (c e : Nat) (r : DmaReq) : State :=
  match r.op with
  | 5 => (s.dmaAtomic c e r r.dstEp r.subop r.arg.toNat r.dst r.operands r.compares false).modRun c e r.seq (fun y => { y with moved := true })
  | 6 | 7 => { s with grist := { s.grist with pending := s.grist.pending ++ [(c, e, r.seq)] } }
  | _ => s.beginMove c e r

/-- The descriptor at the head of an engine's queue, when it can start (07 R246): at most four run, none of its footprints overlaps one of a running
descriptor with a write on either side, the channel of an ATOMIC of this device is not offline, and the core is not fenced (11 R390). -/
def State.dmaNext (s : State) (c e : Nat) : Option DmaReq :=
  let d := vget (s.core c).dma e DmaEngine.reset
  match d.queue with
  | [] => none
  | r :: _ =>
    let mine := s.feet r
    let clash := d.running.any (fun (y : DmaRun) => (s.feet y.req).any (fun f => mine.any (fun g => (f.write || g.write) && f.meets g)))
    let waits := r.op == 5 && r.dstEp.isNone && s.offline [r.dst / 64] s.adderChan
    if 4 ≤ d.running.length ∨ clash = true ∨ waits = true ∨ (s.core c).fenced = true then none else some r

/-- Start the descriptor at the head of an engine's queue when it can start and is of the row's operation. -/
def State.dmaStart (s : State) (op c e : Nat) : State := match s.dmaNext c e with
  | none => s
  | some r =>
    if r.op ≠ op then s
    else
      let run : DmaRun := { req := r, waiting := 0, fetched := [], moved := false, code := 0, poisoned := false }
      ((s.modCore c (fun x => { x with dma := vmod x.dma e (fun d => { d with queue := d.queue.drop 1, running := d.running ++ [run] }) })).dmaBegin c e r).settle

/-- DMA_COPY (07 R249 to R251, R258). -/
def execDmaCopy (c : Fin 144) (e : Fin 2) (s : State) : Host.Outcome State Fault Refusal := .next (s.dmaStart 0 c e)

/-- DMA_GATHER (07 R253 to R255). -/
def execDmaGather (c : Fin 144) (e : Fin 2) (s : State) : Host.Outcome State Fault Refusal := .next (s.dmaStart 1 c e)

/-- DMA_SCATTER (07 R253 to R255). -/
def execDmaScatter (c : Fin 144) (e : Fin 2) (s : State) : Host.Outcome State Fault Refusal := .next (s.dmaStart 2 c e)

/-- DMA_SCATTER_ADD (07 R256). -/
def execDmaScatterAdd (c : Fin 144) (e : Fin 2) (s : State) : Host.Outcome State Fault Refusal := .next (s.dmaStart 3 c e)

/-- DMA_WINDOW (07 R252). -/
def execDmaWindow (c : Fin 144) (e : Fin 2) (s : State) : Host.Outcome State Fault Refusal := .next (s.dmaStart 4 c e)

/-- DMA_ATOMIC (07 R259). -/
def execDmaAtomic (c : Fin 144) (e : Fin 2) (s : State) : Host.Outcome State Fault Refusal := .next (s.dmaStart 5 c e)

/-- DMA_SCAN (07 R262, R263, R265): the scan joins those that the quarter's Grist serves. -/
def execDmaScan (c : Fin 144) (e : Fin 2) (s : State) : Host.Outcome State Fault Refusal := .next (s.dmaStart 6 c e)

/-- DMA_COMBINE (07 R264). -/
def execDmaCombine (c : Fin 144) (e : Fin 2) (s : State) : Host.Outcome State Fault Refusal := .next (s.dmaStart 7 c e)

/-! ## Grist (07 R261 to R265) -/

/-- A result record (07 Table 10). -/
def gristRecord (value length poly : Nat) (poisoned : Bool) : List Byte :=
  leBytes value 8 ++ leBytes length 8 ++ [BitVec.ofNat 8 poly, if poisoned then 1 else 0] ++ List.replicate 14 0

/-- Whether a result record carries a polynomial and has its reserved bytes zero. (log 42, DESIGN CHOICE) -/
def gristRecordOk (b : List Byte) (poly : Nat) : Bool := recNat b 16 1 == poly && decide (recNat b 17 1 < 2) && recZero b 18 32

/-- The job scan or combine that a quarter's Grist serves now: the oldest that still runs (07 R265). -/
def State.gristHead (s : State) (q : Nat) : Option (Nat × Nat × BitVec 32) :=
  s.grist.pending.find? (fun p => coreQuarter p.1 == q && (s.dmaRun p.1 p.2.1 p.2.2).isSome)

/-- Serve a SCAN: the record is written, and a poisoned line is then consumed by the job. -/
def State.serveScan (s : State) (c e : Nat) (r : DmaReq) : State :=
  let poly := r.subop % 4
  let cont := r.subop.testBit 2
  let s := ((if cont then s.touchRange r.xrec 32 r.locality else s).touchRange r.src r.boxLen r.locality)
  let old := s.view r.xrec 32
  let badRec := if cont then s.poisonedIn r.xrec 32 else []
  if cont && badRec.isEmpty && !gristRecordOk old poly then s.modRun c e r.seq (fun y => { y with moved := true, code := 0x0702 })
  else
    let bs := s.view r.src r.boxLen
    let bad := badRec ++ s.poisonedIn r.src r.boxLen
    let was := cont && (recNat old 17 1).testBit 0
    let v := if cont then crcFrom poly (recNat old 0 8) bs else if bs.isEmpty then 0 else crc poly bs
    let n := r.boxLen + (if cont then recNat old 8 8 else 0)
    let s := s.tunBytes r.dst (gristRecord v n poly (!bad.isEmpty || was)) (fun _ => false) r.locality
    let s := (((s.bump 0x4050 0 1).bump 0x4050 2 r.boxLen).bump 0x4050 3 (if bad.isEmpty then 0 else 1)).bump 0x4040 3 32
    let s := s.modRun c e r.seq (fun y => { y with moved := true })
    s.each bad (fun s l => s.consume l (462 + coreQuarter c) r.stream r.job)

/-- Serve a COMBINE: one record for the concatenation of the ranges of the parts. -/
def State.serveCombine (s : State) (c e : Nat) (r : DmaReq) : State :=
  let poly := r.subop % 4
  let s := s.touchRange r.src (32 * r.arg.toNat) r.locality
  let recs := (List.range r.arg.toNat).map (fun i => s.view (r.src + 32 * i) 32)
  let bad := s.poisonedIn r.src (32 * r.arg.toNat)
  if !bad.isEmpty then s.each bad (fun s l => s.consume l (462 + coreQuarter c) r.stream r.job)
  else if !recs.all (fun b => gristRecordOk b poly) then s.modRun c e r.seq (fun y => { y with moved := true, code := 0x0702 })
  else
    let out := match recs with
      | [] => (0, 0, false)
      | b :: l => l.foldl (fun (acc : Nat × Nat × Bool) b =>
          (crcCombine poly acc.1 (recNat b 0 8) (recNat b 8 8), acc.2.1 + recNat b 8 8, acc.2.2 || (recNat b 17 1).testBit 0))
          (recNat b 0 8, recNat b 8 8, (recNat b 17 1).testBit 0)
    let s := s.tunBytes r.dst (gristRecord out.1 out.2.1 poly out.2.2) (fun _ => false) r.locality
    ((s.bump 0x4050 0 1).bump 0x4040 3 32).modRun c e r.seq (fun y => { y with moved := true })

/-! ## Completion (07 R247) -/

/-- The byte position and size of the one element of a CAS mask. -/
def casElem (op mask : Nat) : Nat × Nat := (Nat.log2 mask * (adderWidth op / 8), adderWidth op / 8)

/-- A CAS writes the old value into its record before it signals (07 R259). -/
def State.casReturn (s : State) (run : DmaRun) : State :=
  let r := run.req
  match run.fetched.getLast? with
  | some f =>
    if r.op = 5 && adderCas r.subop && run.code == 0 then
      let p := casElem r.subop r.arg.toNat
      s.tunBytes (r.xrec + 128 + p.1) (((lineBytes f.data).drop p.1).take p.2) (fun _ => false) r.locality
    else s
  | none => s

/-- The end of a descriptor, in the order of 07 R247: status record, counter (its signal counted, 09 Table 8), ASYNC bit 1 on an error. -/
def State.dmaEnd (s : State) (c e : Nat) (run : DmaRun) : State :=
  let r := run.req
  let s := s.casReturn run
  let s := s.modCore c (fun x => { x with dma := vmod x.dma e (fun d => { d with running := d.running.filter (fun (y : DmaRun) => y.req.seq != r.seq) }) })
  let s := { s with grist := { s.grist with pending := s.grist.pending.filter (· != (c, e, r.seq)) } }
  let s := if r.status = 0 then s else s.tunBytes r.status (leBytes run.code.toNat 2 ++ [0, 0] ++ leBytes r.seq.toNat 4) (fun _ => false) r.locality
  let s := if r.inc = 0 then s else (State.counterAdd { s with sync := { s.sync with dmaSignals := s.sync.dmaSignals + 1 } } r.counter.toNat r.inc).bump 0x5060 9 1
  let s := s.bump 0x5060 6 1
  if run.code = 0 then s else (s.modCore c (fun x => { x with async := x.async ||| 2 })).bump 0x4040 2 1

/-- DMA_COMPLETE (07 R247): once every request of a descriptor is resolved, its data moves if it has not yet, a scan is served in its turn, and
the descriptor ends when its writes are acknowledged. One of a fenced core waits for the replacement (11 R390). -/
def execDmaComplete (c : Fin 144) (e : Fin 2) (seq : BitVec 32) (s : State) : Host.Outcome State Fault Refusal :=
  .next (match s.dmaRun c e seq with
    | none => s
    | some run =>
      if run.waiting ≠ 0 ∨ (s.core c).fenced = true then s
      else if !run.moved && (run.req.op == 6 || run.req.op == 7) && s.offline (linesIn run.req.src (if run.req.op = 6 then run.req.boxLen else 32 * run.req.arg.toNat)) s.missChan then s
      else
        let s := if run.moved then s
          else if run.req.op = 6 ∨ run.req.op = 7 then
            (if s.gristHead (coreQuarter c) = some (c.val, e.val, seq) then
              (if run.req.op = 6 then s.serveScan c e run.req else s.serveCombine c e run.req) else s)
          else (s.dmaMove c e run).settle
        match s.dmaRun c e seq with
        | some run => if run.moved && run.waiting == 0 then s.dmaEnd c e run else s
        | none => s)

end Sys2Proof.Machine
end

