-- ==== Sys2Proof/Machine/Esc.lean ====
section
/-! DEFINITION. The Escapement's commands and events (10 R354 to R378): the step's opening and end, the gates, the deadline, the vote, rollback
and guest runs, and the checking profile. -/

namespace Sys2Proof.Machine

/-- Whether a step record breaks Table 2 (10 R355). (log 39, DESIGN CHOICE) -/
def State.stepRecBad (s : State) (r : List Byte) : Bool :=
  let ni := recNat r 32 2
  let nf := recNat r 36 2
  let key := recNat r 24 8
  let ok := fun (a n : Nat) => match localForm a with
    | some x => s.inOneWindow x n
    | none => n == 0
  let inw := pairsOf (s.recordAt (recNat r 8 8) (16 * ni)) ni
  let fpr := pairsOf (s.recordAt (recNat r 16 8) (16 * nf)) nf
  decide (64 < ni ∨ 1024 < nf ∨ 2 ≤ recNat r 39 1 ∨ (recNat r 39 1 = 1 ∧ nf = 0)) || !recZero r 34 36 || !recZero r 40 64 ||
  !ok (recNat r 8 8) (16 * ni) || !ok (recNat r 16 8) (16 * nf) || (key != 0 && !ok key 64) ||
  inw.any (fun x => x.1 % 64 != 0 || x.2 % 64 != 0) ||
  fpr.any (fun x => s.window x.1 != some (5 + stackOf x.1) || decide (x.1 < 2 ^ 41) || !s.inOneWindow x.1 x.2)

/-- Open a step (10 R359, R366): the STEP record with its snapshot and the KEYS record, late reports of the step before (01 R25); in
DEGRADED_SERVE the sampling is 1/8 (11 R422). -/
def State.openStep (s : State) (r inw fpr : List Byte) : State :=
  let rec_ := stepRecOf r inw fpr
  let j := s.gatedJob
  let cs := s.jobCounters j
  let ss := s.jobSlots j
  let late := s.esc.late
  let s := s.modEsc (fun e => { e with
    phase := .compute, run := 0, record := some rec_, profile := s.objGet 0x3200 0, localRun := false, snapshot := cs, snapSlots := ss
    late := [], seen := [], found := false, rounds := 0, overflowRuns := 0, resolveRuns := 0, failCode := 0, kept := 0, ledger := [], replay := [] })
  let s := if s.objGet 0x6050 4 = 2 then s.objSet 0x3200 1 8 else s
  let s := (s.modJob j (fun x => { x with fresh := false })).beginRun.modEsc (fun e => { e with reasons := late })
  let s := s.record (plainRec 1 0 0 ([lineOf r] ++ linesOfBytes inw ++ linesOfBytes fpr ++ linesOfBytes (snapBytes cs ss)))
  if s.esc.phase ≠ .compute then s
  else s.record (plainRec 2 0 0 ([lineOf (leBytes (recNat r 0 8) 8 ++ leBytes (s.objGet 0x3100 0) 8)] ++
    (if rec_.keyAddr = 0 then [] else [lineOf (s.recordAt rec_.keyAddr 64)])))

/-- STEP_OPEN (10 R354, R355); one that waits for a COMMIT finds it complete (10 R363). -/
def execStepOpen (i : Fin 64) (s : State) : Host.Outcome State Fault Refusal :=
  let s := if (s.stream i).job = s.gatedJob then s.finishCommit else s
  .next (s.startCmd i (fun b => recNat b 0 1 == 0x10) [(16, 24)] (fun s job b _ =>
    let g := recNat b 16 8
    let r := s.recordAt g 64
    let a := s.addrCodes g 64 64
    let inw := s.recordAt (recNat r 8 8) (16 * recNat r 32 2)
    let fpr := s.recordAt (recNat r 16 8) (16 * recNat r 36 2)
    let bad := s.stepRecBad r
    if job ≠ s.gatedJob then { codes := [0x0A07], eff := fun s => (s, 0) }
    else
    { codes := a ++ (if s.esc.phase ≠ .idle ∨ (a.isEmpty ∧ (s.job job).fresh = false ∧ recNat r 0 8 ≤ s.esc.committed.toNat) then [0x0A04] else []) ++
        (if a.isEmpty && bad then [0x0A08] else []) ++ (if s.resil.expelling || s.objGet 0x6050 4 == 3 then [0x0B02] else [])
      poison := s.recordPoison g 64 64 ++ (if a.isEmpty && !bad && s.esc.phase == .idle then
        s.recordPoison (recNat r 8 8) (16 * recNat r 32 2) 1 ++ s.recordPoison (recNat r 16 8) (16 * recNat r 36 2) 1 ++
        (if recNat r 24 8 = 0 then [] else s.recordPoison (recNat r 24 8) 64 1) else [])
      eff := fun s => (s.openStep r inw fpr, recNat r 0 8) }))

/-- STEP_END (10 R360): outside COMPUTE there is no step to end, and the command is rejected with 0x0A04. (log 39, DESIGN CHOICE) -/
def execStepEnd (i : Fin 64) (s : State) : Host.Outcome State Fault Refusal :=
  .next (s.startCmd i (fun b => recNat b 0 1 == 0x11) [] (fun s job _ _ =>
    { codes := if job ≠ s.gatedJob then [0x0A07] else if s.esc.phase ≠ .compute ∧ s.inLocalRun = false then [0x0A04] else []
      eff := fun s => (s.modStream i (fun x => { x with stepEnded := true }), 0) }))

/-- COMPUTE_END (10 R360): into CHECK, or, at the end of a guest run or of the run that follows it, on as 10 R372 says. -/
def execComputeEnd (s : State) : Host.Outcome State Fault Refusal :=
  .next (if s.esc.record.isNone || !s.computeOver then s
    else match s.esc.phase with
    | .compute => s.enterCheck
    | .guest => match s.esc.guestOf, s.esc.keep with
      | some g, _ => s.guestEnd g
      | none, some k => s.resumeCheck k
      | none, none => s
    | _ => s)

/-- QUARTER_GATE_REPORT (10 R361): once the quarter's assays are compared or abandoned and the bound test is complete, its Grist scans its
fingerprint ranges and the gate reports; with the last one the device's fingerprint goes to the twin. -/
def execQuarterGateReport (q : Fin 4) (s : State) : Host.Outcome State Fault Refusal :=
  .next (if s.esc.phase ≠ .check ∨ s.esc.reported.getLsbD q = true ∨ s.esc.ratioDone = false ∨ (s.esc.assays.any (fun a => coreQuarter a.1 == q)) = true then s
    else
      let s := if s.needsFp then s.scanQuarter q else s
      let s := s.modEsc (fun e => { e with reported := e.reported ||| BitVec.ofNat 4 (2 ^ q.val) })
      let s := if s.esc.reported = 15 ∧ s.needsFp = true then s.sendFp else s
      s.tryVerdict)

/-- FINGERPRINT_RECORD (10 R358): the twin's record lands in the slot. -/
def execFingerprintRecord (record : List Byte) (s : State) : Host.Outcome State Fault Refusal :=
  let f : FpRec := { step := BitVec.ofNat 64 (recNat record 0 8), run := recNat record 8 1, value := BitVec.ofNat 64 (recNat record 9 8)
                     length := BitVec.ofNat 64 (recNat record 17 8) }
  .next ((s.modEsc (fun e => { e with twinFp := some f })).tryVerdict)

/-- CHECK_DEADLINE_EXPIRY (10 R361): during a guest run it takes effect when CHECK resumes. -/
def execCheckDeadlineExpiry (s : State) : Host.Outcome State Fault Refusal :=
  .next (if s.esc.phase = .check ∨ s.esc.phase = .guest then (s.modEsc (fun e => { e with deadline := true })).passDeadline else s)

/-- The participants of the commit group (10 R375). (log 39, DESIGN CHOICE) -/
def State.commitGroup (s : State) : List (BitVec 17) :=
  let t := (s.job s.gatedJob).table
  let l := axesOf ((s.esc.record.map (·.axes)).getD 0)
  (List.range (t.size l)).filterMap (fun i => s.memberEp t l i)

/-- A revoke result (10 R375): every participant rolls back and runs the step live; the records of the commit group go, the others are kept.
One that would exceed object 0x3201.6 votes failed with 0x0A09. (log 39, DESIGN CHOICE) -/
def State.groupReplay (s : State) : State :=
  let s := s.modEsc (fun e => { e with rounds := e.rounds + 1 })
  if s.objGet 0x3201 6 < s.esc.rounds then s.failStep 0x0A09
  else
    let g := s.commitGroup
    let s := s.bump 0x3204 4 1
    let keep := s.esc.ledger.filter (fun (r : LedgerRec) => r.kind != 5 ||
      !(r.source.toNat < 2 ^ 31 && g.contains (r.source.setWidth 17)))
    (s.modEsc (fun e => { e with ledger := keep, kept := (keep.filter (fun (r : LedgerRec) => r.kind == 5)).length, seen := [], resolveRuns := 0 })).toReplay false

/-- COMMIT_VOTE_RESULT (10 R362): a failure anywhere stops the job, in the failed device with its own code; an orphaned vote stops it too. (log 31, DESIGN CHOICE) -/
def execCommitVoteResult (s : State) : Host.Outcome State Fault Refusal :=
  let axes := (s.esc.record.map (·.axes)).getD 0
  let op := s.voteOpid
  let act := fun (s : State) (revoke fail : Bool) =>
    let s := { s with coll := { s.coll with running := s.coll.running.filter (fun (r : CollRun) => r.desc.opid != op), ended := if axes = 0 then s.coll.ended else op :: s.coll.ended
                                            grants := s.coll.grants.filter (fun x => x.1 != op) } }
    if fail then s.escStop (if s.esc.failVote then s.esc.failCode else 0x0A05)
    else if revoke then s.groupReplay
    else s.modEsc (fun e => { e with phase := .commit })
  .next (if s.esc.phase ≠ .check ∨ s.esc.voted = false then s
    else if axes = 0 then act s s.esc.revoke s.esc.failVote
    else match s.collRun s.gatedJob op with
    | none => s.escStop 0x0A05
    | some r => if r.finished then act s (r.vals.getD 0 0 != 0) (r.vals.getD 1 0 != 0) else s)

/-- VOTE_TIMEOUT (10 R362). -/
def execVoteTimeout (s : State) : Host.Outcome State Fault Refusal :=
  .next (if s.esc.phase = .check ∧ s.esc.voted = true then s.escStop 0x0A05 else s)

/-- ROLLBACK_COMPLETE (10 R359, R368, R370): the lines of the undo records are back and the next run begins; a record that is damaged, as the command says or
the share shows, stops the job instead. -/
def execRollbackComplete (damaged : Bool) (s : State) : Host.Outcome State Fault Refusal :=
  .next (if s.esc.phase ≠ .replay ∨ s.esc.rolling = false then s
    else if damaged || s.ledgerBad then s.escStop 0x0A06
    else
      let s := s.rollBack.beginRun
      let s := if s.esc.localRun then s.bump 0x3204 2 1 else s
      (s.modEsc (fun e => { e with phase := .compute, run := e.run + 1 })).runAgain)

/-- GUEST_REQUEST (10 R372): answered in CHECK; one that finds this device in COMPUTE waits for CHECK; otherwise it is declined. (log 39, DESIGN CHOICE) -/
def execGuestRequest (src : BitVec 17) (step last : Word) (records : List GuestRec) (s : State) : Host.Outcome State Fault Refusal :=
  let a : GuestAsk := { src := src, step := step, last := last, records := records }
  .next (match s.esc.phase with
    | .check => s.hostGuest a
    | .compute => s.modEsc (fun e => { e with guestAsk := some a })
    | _ => s.decline src)

/-- GUEST_DIGEST_RETURNED (10 R374): agreement commits the run in place; otherwise local runs follow. One that nobody waits for is discarded
(10 R373). -/
def execGuestDigestReturned (ud od : Word) (s : State) : Host.Outcome State Fault Refusal :=
  .next (if s.esc.phase ≠ .check ∨ s.esc.guestWait = false then s
    else
      let s := s.modEsc (fun e => { e with guestWait := false })
      if (ud, od) = (s.esc.ud, s.esc.od) then s.castVote (s.esc.od != s.esc.odSent) false
      else (s.modEsc (fun e => { e with seen := e.seen ++ [(ud, od)] })).nextLocal)

/-- GUEST_DECLINE (10 R373): the suspect resolves with local runs. -/
def execGuestDecline (s : State) : Host.Outcome State Fault Refusal :=
  .next (if s.esc.phase ≠ .check ∨ s.esc.guestWait = false then s else (s.modEsc (fun e => { e with guestWait := false })).nextLocal)

/-- A value that object 0x3200 takes (10 Table 8). -/
def profileOk (m : Nat) (v : Nat) : Bool :=
  match m with
  | 0 => decide (v ≤ 2)
  | 1 => [8, 16, 32, 64].contains v
  | 2 => decide (1 ≤ v ∧ v ≤ 3)
  | 3 => decide (v ≤ 1)
  | _ => (f32 0x35800000).le (f32 v) && (f32 v).le (f32 0x3F800000)

/-- The write of object 0x3200 and its answer (10 R348): accepted only while the Escapement is IDLE. -/
def State.writeProfile (s : State) (m v : Nat) : State × Nat :=
  if !profileOk m v then (s, 0x0201) else if s.esc.phase ≠ .idle then (s, 0x0205) else (s.objSet 0x3200 m v, 0)

/-- PROFILE_WRITE. (log 39, DESIGN CHOICE) -/
def execProfileWrite (mem : Fin 5) (v : BitVec 32) (s : State) : Host.Outcome State Fault Refusal :=
  .next (s.objectRow 0x3200 mem (fun s =>
    let r := s.writeProfile mem v.toNat
    (r.1.reply 0x3200 mem r.2)))

end Sys2Proof.Machine
end

