-- ==== Sys2Proof/Machine/Codes.lean ====
section
/-! DEFINITION. The codes by which objects, registers and records name states (08 Table 3; 10 Table 3; 12 Tables 4 and 8; 13 Table 8). -/

namespace Sys2Proof.Machine

/-- 12 Table 8. -/
def DevState.num : DevState → Nat
  | .off => 0 | .standby => 1 | .idle => 2 | .run => 3 | .drain => 4 | .reset => 5 | .recovery => 6 | .fault => 7

/-- 08 Table 3. -/
def PortState.num : PortState → Nat
  | .disabled => 0 | .detect => 1 | .training => 2 | .cardExchange => 3 | .noCoord => 4 | .miswired => 5
  | .versionMismatch => 6 | .up => 7 | .degraded => 8 | .down => 9 | .failed => 10 | .parked => 11

/-- Object 0x4001. -/
def StackState.num : StackState → Nat
  | .active => 0 | .selfRefresh => 1 | .retrain => 2 | .test => 3 | .failed => 4

/-- 10 Table 3. -/
def EscPhase.num : EscPhase → Nat
  | .idle => 0 | .compute => 1 | .check => 2 | .commit => 3 | .replay => 4 | .guest => 5

/-- Objects 0x1110.6 and .7. -/
def SlotImage.num : SlotImage → Nat
  | .invalid => 0 | .writing => 1 | .verifying => 2 | .pending => 3 | .confirmed => 4 | .failed => 5

/-- Object 0x1023. -/
def JobState.num : JobState → Nat
  | .free => 0 | .active => 1 | .stopped => 2

/-- Object 0x5011.1. -/
def SpargeState.num : SpargeState → Nat
  | .none => 0 | .draining => 1 | .drained => 2 | .aborted => 3

def Bool.num (b : Bool) : Nat := if b then 1 else 0

/-- STATE of a doorbell page (12 Table 4). -/
def StreamState.num : StreamState → Nat
  | .disabled => 0 | .ready => 1 | .running => 2 | .stopped => 3

/-- A barrier slot, in the order of 09 R320. -/
def SlotState.num : SlotState → Nat
  | .free => 0 | .opened => 1 | .localDone => 2 | .orphaned => 3

/-- A bank, in the order of 03 R87. -/
def BankState.num : BankState → Nat
  | .free => 0 | .accumulating => 1 | .complete => 2 | .draining => 3

end Sys2Proof.Machine
end

