-- ==== Sys2Proof/Machine/Rack.lean ====
section
/-! DEFINITION. Racking, sealing and restoring (11 R397 to R406): one meaning per command. -/

namespace Sys2Proof.Machine

/-! ## The sender -/

/-- RACKING_BLOCK_COPY: the lowest block of its stack that the epoch has not copied is read through its home Tun and sent; any other block is
not the next one, and one whose channel a retraining slice has taken offline waits (06 R215). -/
def execRackingBlockCopy (b : BitVec 34) (s : State) : Host.Outcome State Fault Refusal :=
  let n := b.toNat
  let ls := (List.range 64).map (fun i => 64 * n + i)
  let left := (s.rackBlocks (stackOf (4096 * n))).filter (fun x => !s.rack.copied.contains x)
  .next (if s.rack.state = 1 ∧ 2 ^ 41 ≤ 4096 * n ∧ left.head? = some n ∧ s.offline ls s.missChan = false then
      let s := s.each ls (fun s ln => s.touchRead ln 1)
      State.rackSend { s with rack := { s.rack with copied := sadd s.rack.copied n } } n (ls.map s.line)
    else s)

/-- PRIORITY_COPY: a block in the priority buffer, read there when a write was held for it, is sent. -/
def execPriorityCopy (b : BitVec 34) (s : State) : Host.Outcome State Fault Refusal :=
  .next (match s.rack.prio.find? (fun (p : PrioBlock) => p.block == b.toNat) with
    | some p => State.rackSend { s with rack := { s.rack with prio := s.rack.prio.filter (fun (x : PrioBlock) => x.block != b.toNat) } } p.block p.lines
    | none => s)

/-! ## The host (11 R400, R402) -/

/-- The sum of a stack as the host forms it over the blocks that it holds, with the addresses that the sender gave. (log 29, DESIGN CHOICE) -/
def State.hostSum (s : State) (slot k : Nat) (dir : List RackRange) : Word :=
  (rackPlaces s.narrowOn dir).foldl (fun acc x =>
    let a := s.cellarBase k + s.rack.landing * s.slotBytes + 4096 + x.2.1
    let l := s.cellarLines slot k x.2.1 (if x.2.2 then 2048 else 4096)
    acc + BitVec.ofNat 64 (crc64 (leBytes a 8 ++ l.flatMap (fun y => lineBytes y.1)))) 0

/-- Seal one stack whose sums agree: a device scan of its payload, then its header (11 Table 5). -/
def State.sealStack (s : State) (slot k : Nat) (dir : List RackRange) (src : BitVec 17) (serial : List Byte) (epoch snap : Word) : State :=
  let n := (dir.map (packedBytes s.narrowOn)).sum
  let l := s.cellarLines slot k 0 n
  let bad := (l.filter (·.2)).length
  let h : CellarHdr := {
    stack := k, narrow := s.narrowOn && dir.any (fun (r : RackRange) => r.narrow), ranges := dir, sender := src
    serial := (serial ++ List.replicate 16 0).take 16, epoch := epoch, snapStep := snap, length := BitVec.ofNat 64 n
    dcrc := BitVec.ofNat 64 (crc64 (l.flatMap (fun x => lineBytes x.1))), poisoned := BitVec.ofNat 64 bad, valid := true }
  let s := { s with rack := { s.rack with hdrs := tins s.rack.hdrs (12 * slot + k) h, sealedStacks := s.rack.sealedStacks ||| BitVec.twoPow 12 k } }
  s.deviceScan n (bad != 0)

/-- RACKING_SUMS_RECEIVED: from the sender that this device hosts. The stacks whose sums agree are sealed; one that differs abandons the epoch,
and the sender is told. -/
def execRackingSumsReceived (src : BitVec 17) (epoch snap : Word) (serial : List Byte) (sums : List Word) (dirs : List (List Byte)) (s : State) :
    Host.Outcome State Fault Refusal :=
  let slot := s.rack.writeSlot
  let dir := fun (k : Nat) => (chunks 16 (dirs.getD k [])).map (fun e => (rackEntry e).1)
  .next (if s.objGet 0x6000 5 ≠ 1 ∨ s.objGet 0x6000 4 ≠ src.toNat then s
    else
      let s := s.each (List.range 12) (fun s k =>
        if s.hostSum slot k (dir k) = sums.getD k 0 then s.sealStack slot k (dir k) src serial epoch snap else s)
      if (List.range 12).all (fun k => s.rack.sealedStacks.getLsbD k) then s else (s.bump 0x6010 12 1).emit (.epochAbandoned src))

/-- EPOCH_SEALED. At the host (0), once all twelve headers are written: the slot is the newest sealed one and the sender is told. At the sender,
told that the epoch is sealed (1) or abandoned (2). (log 36, DESIGN CHOICE) -/
def execEpochSealed (report : Fin 3) (s : State) : Host.Outcome State Fault Refusal :=
  .next (match report with
    | 0 =>
      if s.rack.sealedStacks = BitVec.allOnes 12 then
        State.emit { s with rack := { s.rack with newest := s.rack.writeSlot, sealedStacks := 0 } } (.epochSealed (BitVec.ofNat 17 (s.objGet 0x6000 4)))
      else s
    | 1 =>
      if s.rack.state = 2 then
        let s := { s with rack := { s.rack with state := if s.rack.clear then 4 else 3, slot := 1 - s.rack.slot, unprotected := false } }
        ((s.objSet 0x6010 10 (s.objGet 0x6010 9)).objSet 0x6010 9 s.rack.snap.toNat).bump 0x6010 11 1
      else s
    | _ => s.rackAbandon)

/-! ## Restore (11 R406) -/

/-- The slot that a restore command names: A, B, or the valid one with the greater epoch number. -/
def State.restoreChoice (s : State) (v : Nat) : Option Nat :=
  let ok := fun (n : Nat) => if s.slotValid n then some n else none
  match v with
  | 1 => ok 0
  | 2 => ok 1
  | _ => match ok 0, ok 1 with
    | some a, some b => if (s.cellarHdr 1 0).epoch.toNat < (s.cellarHdr 0 0).epoch.toNat then some a else some b
    | some a, none => some a
    | none, y => y

/-- A rescan of a slot's payloads to verify it: one device scan for each stack whose header stands (11 R401, 07 R266). -/
def State.rescan (s : State) (slot : Nat) : State :=
  s.each (List.range 12) (fun s k =>
    let h := s.cellarHdr slot k
    if h.valid then s.deviceScan h.length.toNat ((s.cellarLines slot k 0 h.length.toNat).any (·.2)) else s)

/-- RESTORE_COMMAND (object 0x6011.3): the slot is verified and its blocks are sent, widened, to their START addresses on the target; a slot that
is not valid fails the restore with 0x0B06. -/
def execRestoreCommand (v : BitVec 8) (s : State) : Host.Outcome State Fault Refusal :=
  .next (s.objectRow 0x6011 3 (fun s =>
    (if v = 0 ∨ 3 < v.toNat then s.reply 0x6011 3 0x0201
      else if s.rack.restore = 1 ∨ s.rack.restore = 2 then s.reply 0x6011 3 0x0206
      else
      let s := s.each (if v = 1 then [0] else if v = 2 then [1] else [0, 1]) State.rescan
      match s.restoreChoice v.toNat with
        | none => (State.eventD { s with rack := { s.rack with restore := 4 } } 0x0B06 0x6011).reply 0x6011 3 0
        | some slot =>
          let s := { s with rack := { s.rack with restore := 2, restoreSlot := slot } }
          (s.each (s.cellarBlocks slot) (fun s b => s.sendLines (BitVec.ofNat 17 (s.objGet 0x6011 2)) .restore b.1 b.2)).reply 0x6011 3 0)))

/-- RESTORE_COMPLETE: done once every packet has been acknowledged, or failed. The ratio watch warms up again on this device, the cellar host: the
spec does not say how the restored target learns of it (05 R191, 11 R406). (log 36, DESIGN CHOICE; log 45, DESIGN CHOICE) -/
def execRestoreComplete (ok : Bool) (s : State) : Host.Outcome State Fault Refusal :=
  let left := (s.fabric.requests ++ s.fabric.waiting.map (·.1)).any (fun (r : Request) => r.unit == .restore)
  .next (if s.rack.restore ≠ 2 ∨ (ok ∧ left) then s
    else { s with rack := { s.rack with restore := if ok then 3 else 4 }, kiln := if ok then s.kiln.restartTrend else s.kiln })

end Sys2Proof.Machine
end

