-- ==== Sys2Proof/Machine/Recovery.lean ====
section
/-! DEFINITION. Core replacement, timeouts, watchdogs, the Chronograph, the health score and drills (11 R387 to R391, R407 to R411, R418 to
R424): one meaning per command. -/

namespace Sys2Proof.Machine

/-! ## Core replacement -/

/-- CORE_FAULT_DETECTED (11 Table 2): 0 uncorrectable core state, 1 watchdog, 2 residue events and 3 assay mismatches at their policy limits, 4
any other trigger. -/
def execCoreFaultDetected (c : Fin 144) (cause : Fin 5) (s : State) : Host.Outcome State Fault Refusal :=
  let p := s.phys (s.physOf c)
  .next (if (cause = 2 ∧ p.residues < s.objGet 0x6001 9) ∨ (cause = 3 ∧ p.mismatches < s.objGet 0x6001 10) then s else s.coreFails c)

/-- CORE_REPLACEMENT_RESUME. -/
def execCoreReplacementResume (c : Fin 144) (s : State) : Host.Outcome State Fault Refusal := .next (s.coreResumes c)

/-- Retire a physical core: quarter in bits 15 to 8, core in bits 7 to 0. A mapped one is replaced; any is listed. -/
def State.retire (s : State) (v : Nat) : State × Nat :=
  let q := v / 256
  let p := v % 256
  if 4 ≤ q ∨ 40 ≤ p then (s, 0x0201)
  else
    let s := match s.carriedBy q p with
      | some c => s.coreFails c
      | none => s
    ((s.modPhys (40 * q + p) (fun x => { x with retired := true })).noSpare q, 0)

/-- RETIRE_COMMAND (object 0x6001.12). -/
def execRetireCommand (v : BitVec 16) (s : State) : Host.Outcome State Fault Refusal :=
  .next (s.objectRow 0x6001 12 (fun s =>
    let r := s.retire v.toNat
    (r.1.reply 0x6001 12 r.2)))

/-- Clear the retired list, in IDLE (11 R391). -/
def State.clearRetired (s : State) : State × Nat :=
  if s.dev.state ≠ .idle then (s, 0x0205)
  else (s.modResil (fun r => { r with phys := r.phys.map (fun (p : PhysCore) => { p with retired := false }) }), 0)

/-- CLEAR_RETIRED_LIST (object 0x6001.13 = 1). -/
def execClearRetiredList (s : State) : Host.Outcome State Fault Refusal :=
  .next (s.objectRow 0x6001 13 (fun s =>
    let r := s.clearRetired
    (r.1.reply 0x6001 13 r.2)))

/-! ## Watchdogs and timeouts -/

/-- Jobs that a unit serves (11 Table 6); the units of memory and of a quarter's control serve every job. (log 35, DESIGN CHOICE) -/
def State.servedBy (s : State) : HangUnit → List Nat
  | .kiln k => (vget s.kiln.units k KilnUnit.reset).parts.map (fun (p : KilnPart) => p.job)
  | .grist q => (s.grist.pending.filter (fun p => coreQuarter p.1 == q.val)).map (fun p => s.jobOf p.1)
  | .coll _ => s.coll.running.map (fun (r : CollRun) => r.desc.job) ++ s.coll.queue.map (fun (d : CollDesc) => d.job)
  | .racking | .port _ | .managementCore | .core _ | .dma _ _ => []
  | .controlCore _ | .tunSlice _ _ | .channel _ | .adder _ => List.range 8

/-- Whether a DMA engine has something to do: a descriptor whose requests are all resolved and which is no SCAN or COMBINE that Grist serves, or one that can
start. -/
def State.dmaHolds (s : State) (c e : Nat) : Bool :=
  (vget (s.core c).dma e DmaEngine.reset).running.any (fun (r : DmaRun) => r.waiting == 0 && (r.moved || (r.req.op != 6 && r.req.op != 7))) || (s.dmaNext c e).isSome

/-- Whether the racking engine has something to do: a block of the epoch not yet copied, or one in the priority buffer. -/
def State.rackHolds (s : State) : Bool :=
  s.rack.state == 1 && (!s.rack.prio.isEmpty || (List.range 12).any (fun k => (s.rackBlocks k).any (fun b => !s.rack.copied.contains b)))

/-- Whether a unit holds work that it does not wait for (11 R408): time that it waits for a counter, an acknowledgement, a grant or a spare's wake does not
count, nor does that of a core halted at BRK (04 R157). -/
def State.holdsWork (s : State) : HangUnit → Bool
  | .core c =>
    let x := s.core c
    x.run != .brk && !x.fenced && ((x.run == .running && x.wait == .none) || !x.arrayQ.isEmpty || !x.epiQ.isEmpty || x.current.isSome || x.draining.isSome)
  | .dma c e => (s.core c).run != .brk && s.dmaHolds c e
  | .kiln k => (s.kilnUnit k).parts.any (fun (p : KilnPart) => (s.kilnReady k p.id p.desc.op).isSome)
  | .grist q => (s.gristHead q).isSome
  | .coll _ => s.coll.running.any (fun (r : CollRun) => r.finished) || (decide (s.coll.running.length < 8) && s.coll.queue.head?.any (fun (d : CollDesc) => d.ready s))
  | .racking => s.rackHolds
  | .port p => (s.port p).carries
  | .controlCore _ | .tunSlice _ _ | .channel _ | .adder _ | .managementCore => true

/-- WATCHDOG_EXPIRY (11 Table 6). -/
def execWatchdogExpiry (u : HangUnit) (s : State) : Host.Outcome State Fault Refusal :=
  .next (if !s.holdsWork u then s
    else
      let jobs := s.servedBy u
      let s := s.bump 0x6020 65 1
      match u with
      | .core c => s.coreFails c
      | .dma c _ => s.coreFails c
      | .port p => (s.portDown p).portRetrain p
      | .managementCore => { s with fynen := { s.fynen with silent := true } }
      | _ =>
        let s := s.each jobs (fun s j => s.stopJob j 0x0B05)
        if s.objGet 0x6020 64 = 1 ∧ s.takesReset = true then s.warm (some 0x0B05) else s)

/-- COMMAND_TIMEOUT (11 R407); the limit of a LAUNCH does not run while one of its cores is halted at BRK (04 R157). -/
def execCommandTimeout (i : Fin 64) (n : BitVec 32) (s : State) : Host.Outcome State Fault Refusal :=
  .next (match s.inProgress i n with
    | some r => if r.cores.any (fun c => (s.core c).run == .brk) then s else (s.bump 0x6020 66 1).stopJob (s.stream i).job 0x0B04
    | none => s)

/-! ## The Chronograph -/

/-- CHRONOGRAPH_DUMP (object 0x6030.0 = 1). (log 35, DESIGN CHOICE) -/
def execChronographDump (s : State) : Host.Outcome State Fault Refusal :=
  .next (s.objectRow 0x6030 0 (fun s =>
    ((s.dump 0 0).reply 0x6030 0 0)))

/-- A unit gives no answer: its record in a dump says so, once. -/
def DumpRec.unanswered (d : DumpRec) (u : Nat × Nat) : DumpRec := if d.noAnswer.contains u then d else { d with noAnswer := d.noAnswer ++ [u] }

/-- CHRONOGRAPH_UNIT_TIMEOUT: the newest dump, in T31 or in the eMMC, holds a NO_ANSWER record for the unit. -/
def execChronographUnitTimeout (kind : Fin 16) (num : BitVec 8) (s : State) : Host.Outcome State Fault Refusal :=
  let u := (kind.val, num.toNat)
  .next (if unitsOfKind kind ≤ num.toNat then s
    else s.modResil (fun r => match r.t31Dump with
      | some d => { r with t31Dump := some (d.unanswered u) }
      | none => { r with dumps := match r.dumps with
        | d :: l => d.unanswered u :: l
        | [] => [] }))

/-! ## Health and expulsion -/

/-- HEALTH_RESTORE_TICK: an hour has passed: 10 points of each transient deduction return, unless an event of its kind has recurred within the hour (11 R418). (log 35, DESIGN CHOICE) -/
def execHealthRestoreTick (s : State) : Host.Outcome State Fault Refusal :=
  let s := (s.modResil (fun r => { r with
    deductions := (r.deductions.map (fun d => if d.2.2 && !r.deducted.contains d.1 then (d.1, d.2.1 - 10, true) else d)).filter (fun d => d.2.1 != 0)
    deducted := [] })).healthUpdate
  .next (s.modResil (fun r => { r with hourScore := s.health, warned := false, recent := 0 }))

/-- A device in DEGRADED_SERVE is SICK again once its budget is positive; a SICK one whose budget becomes zero enters DEGRADED_SERVE, with its
event and warning (11 R422), unless it is already expelling itself. -/
def State.setBudget (s : State) (v : Nat) : State :=
  let s := s.objSet 0x6050 3 v
  if v ≠ 0 ∧ s.objGet 0x6050 4 = 2 then s.objSet 0x6050 4 1
  else if v = 0 ∧ s.objGet 0x6050 4 = 1 ∧ s.resil.expelling = false then ((s.objSet 0x6050 4 2).eventOpen 0x6050).warning
  else s

/-- EXPULSION_BUDGET_WRITE (object 0x6050.3). -/
def execExpulsionBudgetWrite (v : BitVec 16) (s : State) : Host.Outcome State Fault Refusal :=
  .next (s.objectRow 0x6050 3 (fun s =>
    ((s.setBudget v.toNat).reply 0x6050 3 0)))

/-- The open step is resolved: every job stops, and the device is EXPELLED in IDLE (11 R421). (log 1, DESIGN CHOICE) -/
def State.finishExpulsion (s : State) : State :=
  if !s.resil.expelling || s.esc.phase != .idle then s
  else
    let s := (s.stopAll 0x0B02).modResil (fun r => { r with expelling := false })
    let s := if s.takesReset then s.toIdle else s
    ((s.objSet 0x6050 4 3).bump 0x6050 6 1).eventD 0x0B02 0x6050

/-- SELF_EXPULSION: a SICK device with budget spends one, takes no further STEP_OPEN, and leaves service once its step is resolved. (log 35, DESIGN CHOICE) -/
def execSelfExpulsion (s : State) : Host.Outcome State Fault Refusal :=
  .next (if s.resil.expelling then s.finishExpulsion
    else if s.objGet 0x6050 4 = 1 ∧ 0 < s.objGet 0x6050 3 then
      ((s.objSet 0x6050 3 (s.objGet 0x6050 3 - 1)).modResil (fun r => { r with expelling := true })).finishExpulsion
    else s)

/-- Clear EXPELLED: the device that expelled itself was SICK, and is so until its score reaches object 0x6050.2 (11 R419); one that stays SICK with no budget
enters DEGRADED_SERVE (R422). -/
def State.clearExpelled (s : State) : State :=
  if s.objGet 0x6050 4 = 3 then
    let s := (s.objSet 0x6050 4 1).healthUpdate
    s.setBudget (s.objGet 0x6050 3)
  else s

/-- CLEAR_EXPELLED (object 0x6050.7 = 1). -/
def execClearExpelled (s : State) : Host.Outcome State Fault Refusal :=
  .next (s.objectRow 0x6050 7 (fun s =>
    (s.clearExpelled.reply 0x6050 7 0)))

/-! ## Drills (11 R423) -/

/-- A drill of a kind runs while drills are enabled, one at a time, in health, and when no real event of the kind has occurred within the hour. (log 32, DEDUCED; log 35, DESIGN CHOICE) -/
def State.drillReady (s : State) (kind : Nat) : Bool :=
  s.objGet 0x6060 0 == 1 && s.resil.drill.isNone && s.objGet 0x6050 4 == 0 && !s.resil.recent.getLsbD kind

/-- A drill starts on a target. (log 35, DESIGN CHOICE) -/
def State.drill (s : State) (kind target : Nat) : State := (s.modResil (fun r => { r with drill := some kind, drillTarget := target })).bump 0x6060 5 1

/-- DRILL_CORE_HANG: a mapped core of the gated job is replaced; its quarter has a spare. -/
def execDrillCoreHang (c : Fin 144) (s : State) : Host.Outcome State Fault Refusal :=
  let x := s.core c
  .next (if s.drillReady 0 && x.run == .running && !x.fenced && s.jobOf c == s.gatedJob && !(s.spares (coreQuarter c)).isEmpty &&
      !s.resil.replacing.any (fun d => coreQuarter d == coreQuarter c) then
      (s.drill 0 (c.val + 1000 * s.physOf c)).coreFails c
    else s)

/-- DRILL_LANE_DROP: an active lane of a port whose spare is free. -/
def execDrillLaneDrop (p : Fin 12) (lane : Fin 9) (s : State) : Host.Outcome State Fault Refusal :=
  let x := s.port p
  .next (if s.drillReady 1 && x.state == .up && x.lanes.testBit lane && (x.swapped.isNone || x.drilled) && x.swapping.isNone && lane.val != 8 &&
      !x.badLanes.getLsbD 8 && !x.failedLanes.getLsbD 8 then
      (s.drill 1 p).laneFails p lane
    else s)

/-- Whether a line lies in a stack's firmware area, the end of its tail (11 R399). (log 34, DESIGN CHOICE) -/
def inFirmware (a : Nat) : Bool := decide (2 ^ 41 ≤ a ∧ stackOf a < 12 ∧ 64 * GiB - firmwareMiB * MiB ≤ (a - 2 ^ 41) % 2 ^ 36)

/-- DRILL_POISON: a line of the firmware area is poisoned and consumed by a stream outside every job. -/
def execDrillPoison (line : BitVec 36) (s : State) : Host.Outcome State Fault Refusal :=
  .next (if s.drillReady 2 && inFirmware (64 * line.toNat) then
      ((((s.drill 2 line.toNat).modMem (fun m => { m with poison := sadd m.poison line.toNat })).consume line.toNat 463 64 8 true).modResil
        (fun r => { r with drill := none }))
    else s)

/-- DRILL_FALSE_ASSAY: a mismatch is reported for a sampled tile of the core in COMPUTE. -/
def execDrillFalseAssay (c : Fin 144) (s : State) : Host.Outcome State Fault Refusal :=
  .next (if s.drillReady 3 && s.esc.phase == .compute && s.esc.assays.any (fun a => a.1 == c.val) then (s.drill 3 c).reason (coreQuarter c) 2 else s)

end Sys2Proof.Machine
end

