-- ==== Sys2Proof/Machine/Chronograph.lean ====
section
/-! DEFINITION. The bytes of a Chronograph dump (11 R409 to R411): its header, the records of its units, and the directory of the eMMC slots. -/

namespace Sys2Proof.Machine

/-- Bytes of content of a unit's record (11 Table 7). -/
def contentBytes : Nat → Nat
  | 1 => 16384
  | 2 => 2048
  | 3 => 69632
  | 4 => 8192
  | 5 => 4096
  | 6 => 4096
  | 7 => 1024
  | 8 => 4096
  | 9 => 2048
  | 10 => 2048
  | 11 => 4096
  | 12 => 16384
  | _ => 0

/-- The 16,384 counters of a quarter: their values in counter order, then 2 bits each, OVF in the lower one (11 Table 7). -/
def Sync.counterContent (y : Sync) (q : Nat) : List Byte :=
  let c := fun (n : Nat) => tget Counter.reset y.counters (16384 * q + n)
  let f := fun (n : Nat) => (if (c n).ovf then 1 else 0) + 2 * (if (c n).unf then 1 else 0)
  (List.range 16384).flatMap (fun n => leBytes (c n).val.toNat 4) ++
  (List.range 4096).map (fun k => BitVec.ofNat 8 (f (4 * k) + 4 * f (4 * k + 1) + 16 * f (4 * k + 2) + 64 * f (4 * k + 3)))

/-- What the stream table's record names of a stream: state, head, the command in progress, fault code. -/
def Stream.dumped (x : Stream) : List Nat := [x.state.num, x.head.toNat, (x.progress.head?.map (fun (c : CmdRun) => c.raw.toNat)).getD 0, x.lastError.toNat]

/-- What a core's record names (11 Table 7). -/
def CoreDump.words (x : CoreDump) : List Nat :=
  [x.pc.toNat, x.group.toNat, x.async.toNat] ++ x.sreg.toList.map (·.toNat) ++ x.preg.toList.map (·.toNat) ++ [x.arrayQ.length, x.epiQ.length] ++
  x.banks.toList.map (fun (b : Bank) => b.state.num) ++
  x.dma.toList.flatMap (fun (e : DmaEngine) => [e.queue.length, e.running.length, e.nextSeq.toNat] ++ e.running.map (fun (r : DmaRun) => r.waiting)) ++
  [x.effects.count] ++ x.effects.cadds.map (·.toNat)

/-- What the records name of the units that the model holds, as numbers (11 Table 7). -/
def DumpUnits.words (u : DumpUnits) (kind n : Nat) : List Nat := match kind with
  | 1 => u.streams.flatMap Stream.dumped
  | 2 => u.jobs.flatMap (fun (j : Job) => [j.state.num, j.cause.toNat, j.table.grid]) ++ u.sync.owners.flatMap (fun x => [x.1, x.2]) ++ u.sync.slotOwners.flatMap (fun x => [x.1, x.2])
  | 4 => u.sync.slots.flatMap (fun x => [x.1, x.2.state.num, x.2.phase.toNat, x.2.arrived.toNat, tget 0xFF u.sync.slotOwners x.1])
  | 5 => ((u.cores.find? (fun x => x.phys == n)).map CoreDump.words).getD []
  | 6 => u.coll.queue.map (fun (d : CollDesc) => d.opid.toNat) ++ u.coll.running.flatMap (fun (r : CollRun) => [r.desc.opid.toNat, r.steps.length, r.givenPlus, r.givenMinus])
  | 7 => ((u.kiln[n]?).map (fun (k : KilnUnit) => k.parts.flatMap (fun (p : KilnPart) => [p.id, p.first, p.count]) ++ [k.partSS.toNat])).getD []
  | 8 => [u.esc.phase.num, u.esc.run, (u.esc.record.map (fun (r : StepRec) => r.step.toNat)).getD 0, u.esc.reported.toNat] ++ u.esc.reasons
  | 9 => [u.rack.state, u.rack.epoch.toNat] ++ u.rack.copied ++ u.rack.prio.map (fun (p : PrioBlock) => p.block)
  | 10 => ((u.ports[n]?).map (fun (p : Port) => [p.state.num, p.failedLanes.toNat] ++ p.credits.toList ++ p.retry.map (fun r => r.1.toNat))).getD []
  | 11 => ((u.hbm[n]?).map (fun (x : Stack) => x.retrainQ ++ x.cmdSpares ++ x.dataSpares.flatMap (fun p => [p.1, p.2]))).getD []
  | _ => []

/-- The content of a unit's record: exact for the counters; of every other kind Table 7 names the content and gives no places, and what the model does not hold
of it (timeouts left, controller queues, the control cores) is a free value. (log 45, DESIGN CHOICE) -/
def DumpRec.content (d : DumpRec) (kind n : Nat) : List Byte :=
  if kind = 3 then d.units.sync.counterContent n
  else padTo (contentBytes kind) (Config.layout (0x603000 + kind) (n :: d.rest :: d.units.words kind n))

/-- A unit record: kind, unit, status, length of what follows, reserved zeros, then the content, which a unit that gave no answer has not (11 R409, R410). (log 45, DESIGN CHOICE) -/
def DumpRec.record (d : DumpRec) (kind n : Nat) : List Byte :=
  let silent := d.noAnswer.contains (kind, n)
  let c := if silent then [] else d.content kind n
  leBytes kind 1 ++ leBytes n 2 ++ [if silent then 1 else 0] ++ leBytes c.length 4 ++ List.replicate 8 0 ++ c

/-- The records in kind order, then unit order (11 R410). -/
def DumpRec.records (d : DumpRec) : List (List Byte) := (List.range 13).flatMap (fun k => (List.range (unitsOfKind k)).map (fun n => d.record k n))

/-- The header up to its CRC: FORMAT, trigger, cause, number, beats, serial, coordinate, numbers of records and of NO_ANSWER records, length, at places that no
table gives (11 R410). (log 45, DESIGN CHOICE) -/
def DumpRec.header (d : DumpRec) : List Byte :=
  let n := d.records
  padTo 252 (leBytes 1 2 ++ leBytes d.trigger 1 ++ leBytes 0 1 ++ leBytes d.cause 4 ++ leBytes d.num 8 ++ leBytes d.beats 8 ++ serialBytes ++ leBytes d.coord 4 ++
    leBytes n.length 4 ++ leBytes d.noAnswer.length 4 ++ leBytes (256 + (n.map List.length).sum) 4)

/-- A dump: the header with the CRC-32C over the dump, these four bytes left out, in its last four, then the records (11 R410). What a slot whose CRC fails holds is
free. (log 45, DESIGN CHOICE) -/
def DumpRec.bytes (d : DumpRec) : List Byte :=
  let r := d.records.flatten
  if d.valid then d.header ++ leBytes (crc32c (d.header ++ r)) 4 ++ r else Config.layout 0x603000 [d.num, d.rest]

/-- The dump in an eMMC slot. -/
def State.dumpAt (s : State) (n : Nat) : Option DumpRec := s.resil.dumps.find? (fun d => d.slot == n)

/-- The directory (object 0x6030.3): per slot the dump's number, its trigger, whether it is valid, and its length; zeros for a slot never written. (log 45, DESIGN CHOICE) -/
def State.dumpDirectory (s : State) : List Byte :=
  (List.range 8).flatMap (fun n => match s.dumpAt n with
    | some d => leBytes d.num 8 ++ leBytes d.trigger 1 ++ [if d.valid then 1 else 0] ++ leBytes 0 2 ++ leBytes (if d.valid then 256 + (d.records.map List.length).sum else 0) 4
    | none => List.replicate 16 0)

end Sys2Proof.Machine
end

