-- ==== Sys2Proof/Machine/Group.lean ====
section
/-! DEFINITION. Tile groups, ASSAY, BRK and TRAP (04 R152 to R157). -/

namespace Sys2Proof.Machine

/-! ## Tile groups (04 R152 to R154) -/

/-- The work before a boundary that is still to complete (04 R153). -/
def Core.boundWork (x : Core) : BoundWork :=
  { arr := x.arrayQ.length, tiles := x.tileSeq, epis := x.epiQ.map (·.seq) ++ (x.draining.map (fun d => d.1.seq)).toList
    dmas := [0, 1].flatMap (fun e => let d := vget x.dma e DmaEngine.reset
      d.queue.map (fun (r : DmaReq) => (e, r.seq)) ++ d.running.map (fun (r : DmaRun) => (e, r.req.seq)))
    reqs := x.reqSeq }

/-- The newest boundary keeps the record of the group that it starts, once that group has ended. -/
def logGroup (l : List Boundary) (e : EffectLog) : List Boundary := match l with
  | b :: r => { b with log := e } :: r
  | [] => []

/-- End a tile group (04 R152): the snapshot goes to the save buffer; a core that follows a replaced one takes the record of its next group. -/
def Core.endGroup (x : Core) (group : BitVec 32) : Core :=
  let b : Boundary := { snap := x.snap (x.pc + 16) group, closed := false, saved := false, work := x.boundWork, log := { count := 0, cadds := [] } }
  let log := x.skipNext.headD { count := 0, cadds := [] }
  { x with bounds := b :: logGroup x.bounds x.effects, saveBusy := true, group := group
           effects := log, skip := log.count, skipCadds := log.cadds, skipNext := x.skipNext.drop 1 }

/-- TGB: a second one waits for the write of the save buffer. -/
def execTgb (c : Fin 144) (w : GenFields) (s : State) : Host.Outcome State Fault Refusal :=
  .next (s.issue c (genWord 0x80 w)
    { faults := codes [(({ func := false, imm := 32 } : Uses).bad w, 0x02)]
      stall := if (s.core c).saveBusy then .saveBuffer else .none }
    (coreStep c (fun x => x.endGroup (w.imm.setWidth 32))))

/-- Boundaries down to the newest one that a replacement can use (04 R153, 11 R389); no older one is needed again. -/
def trimBounds : List Boundary → List Boundary
  | [] => []
  | b :: r => if b.closed && b.saved then [b] else b :: trimBounds r

/-- SNAPSHOT_WRITE_COMPLETE: the write of the newest snapshot ends. -/
def execSnapshotWriteComplete (c : Fin 144) (s : State) : Host.Outcome State Fault Refusal :=
  let x := s.core c
  .next (if x.saveBusy then
      s.setCore c { x with
        saveBusy := false
        bounds := trimBounds (match x.bounds with
          | b :: r => { b with saved := true } :: r
          | [] => []) }
    else s)

/-- Whether everything before a boundary has completed (04 R153). -/
def State.workDone (s : State) (c : Nat) (w : BoundWork) : Bool :=
  let x := s.core c
  let dmas := x.boundWork.dmas
  w.arr == 0 && (match x.current with
    | some t => decide (w.tiles ≤ t.seq)
    | none => true) &&
  w.epis.all (fun n => !x.boundWork.epis.contains n) && w.dmas.all (fun d => !dmas.contains d) &&
  (s.gstsOut c ++ s.csigsOut c).all (fun n => decide (w.reqs ≤ n))

/-- Close the oldest boundary that is open, when its work is done. -/
def closeOldest (done : BoundWork → Bool) : List Boundary → List Boundary
  | [] => []
  | b :: r => if !b.closed && r.all (·.closed) && done b.work then { b with closed := true } :: r else b :: closeOldest done r

/-- GROUP_BOUNDARY_CLOSE (04 R153). -/
def execGroupBoundaryClose (c : Fin 144) (s : State) : Host.Outcome State Fault Refusal :=
  .next (s.modCore c (fun x => { x with bounds := trimBounds (closeOldest (s.workDone c) x.bounds) }))

/-! ## ASSAY, TRAP, BRK (04 R155 to R157) -/

/-- ASSAY marks the next TILE, but not in the Open profile. -/
def execAssay (c : Fin 144) (w : GenFields) (s : State) : Host.Outcome State Fault Refusal :=
  .next (s.issue c (genWord 0x81 w) { faults := codes [(({ func := false } : Uses).bad w, 0x02)] }
    (coreStep c (fun x => { x with assayMark := x.assayMark || s.esc.profile != 0 })))

/-- TRAP faults with code 0x14 and carries its value. -/
def execTrap (c : Fin 144) (w : GenFields) (s : State) : Host.Outcome State Fault Refusal :=
  let bad := codes [(({ func := false, imm := 32 } : Uses).bad w, 0x02)]
  .next (s.issue c (genWord 0x83 w) { faults := bad ++ [0x14], detail := if bad.isEmpty then w.imm.toNat % 2 ^ 32 else 0 } id)

/-- BRK halts the core for inspection in a debug job and raises event 0x04FE; elsewhere it does nothing. -/
def execBrk (c : Fin 144) (w : GenFields) (s : State) : Host.Outcome State Fault Refusal :=
  let on := (s.objGet 0x3110 0).testBit (s.jobOf c)
  .next (s.issue c (genWord 0x82 w) { faults := codes [(({ func := false } : Uses).bad w, 0x02)] }
    (fun s =>
      let s := coreStep c (fun x => { x with run := if on then .brk else x.run }) s
      if on then s.event 0x04FE 0x3110 (c.val + 2 ^ 8 * ((s.core c).pc.toNat / 16)) else s))

/-- BRK_RESUME (object 0x3110.4): a core halted at BRK goes on; 255 resumes every one; a core that is not halted is answered 0x0205. (log 40, DESIGN CHOICE) -/
def execBrkResume (n : BitVec 8) (s : State) : Host.Outcome State Fault Refusal :=
  .next (s.objectRow 0x3110 4 (fun s =>
    let go := fun (s : State) (c : Nat) => if (s.core c).run = .brk then s.modCore c (fun x => { x with run := .running }) else s
    (if n = 255 then (s.each (List.range 144) go).reply 0x3110 4 0
      else if 144 ≤ n.toNat then s.reply 0x3110 4 0x0201
      else if (s.core n.toNat).run = .brk then (go s n.toNat).reply 0x3110 4 0
      else s.reply 0x3110 4 0x0205)))

end Sys2Proof.Machine
end

