-- ==== Sys2Proof/Machine/Resets.lean ====
section
/-! DEFINITION. The rungs of the recovery ladder and the PCI Express function (11 R412 to R415; 12 R431): one meaning per command. -/

namespace Sys2Proof.Machine

/-- RESET_REINIT (object 0x6040.0 = 2), rung 2. -/
def execResetReinit (s : State) : Host.Outcome State Fault Refusal :=
  .next (s.objectRow 0x6040 0 (fun s =>
    (if s.takesReset then (s.reinit none).reply 0x6040 0 0 else s.reply 0x6040 0 0x0205)))

/-- WARM_RESET (object 0x6040.0 = 3), rung 3. -/
def execWarmReset (s : State) : Host.Outcome State Fault Refusal :=
  .next (s.objectRow 0x6040 0 (fun s =>
    (if s.takesReset then (s.warm none).reply 0x6040 0 0 else s.reply 0x6040 0 0x0205)))

/-- POWER_CYCLE (object 0x6040.0 = 4), rung 4: from any state but OFF. (log 21, DEDUCED) -/
def execPowerCycle (s : State) : Host.Outcome State Fault Refusal :=
  .next (s.objectRow 0x6040 0 (fun s =>
    (if s.dev.state = .off then s else (s.powerCycle none).reply 0x6040 0 0)))

/-- WARM_RESET_COMPLETE (11 Table 9, R414; 06 R227): the ROM has handed over, RESET_N is released; stacks that missed the write-back have lost
their contents; the others leave self-refresh; the device enters IDLE and reports the reset. -/
def execWarmResetComplete (lost : BitVec 12) (s : State) : Host.Outcome State Fault Refusal :=
  .next (if s.dev.state ≠ .reset ∨ s.resil.resetRung ≠ 3 ∨ s.boot.booted = 0xFF ∨ s.dev.resetHeld = true then s
    else
      let l := lost ||| s.resil.lostStacks
      let s := (s.loseStacks ((List.range 12).filter (fun k => l.getLsbD k))).objSet 0x6040 6 l.toNat
      let s := s.each (List.range 12) (fun s k => s.modStack k (fun x => { x with state := if x.state = .selfRefresh then .active else x.state }))
      let s := (s.modResil (fun r => { r with resetRung := 0, lostStacks := 0 })).copyDump
      ((s.pcieLink true).enterIdle).eventOpen 0x6040)

/-- PCIE_RESET (12 R431): a Function Level Reset or Hot Reset is rung 2; the function's MSI-X state is that of reset. -/
def execPcieReset (s : State) : Host.Outcome State Fault Refusal :=
  .next (if !s.host.linkUp then s else ((if s.takesReset then s.reinit none else s.clearMailbox).msixReset))

/-- D3HOT_ENTRY: rung 2, after which the device waits in IDLE. -/
def execD3hotEntry (s : State) : Host.Outcome State Fault Refusal :=
  .next (if s.host.linkUp && s.takesReset && !s.host.d3hot then
      let s := (s.reinit none).msixReset
      { s with host := { s.host with d3hot := true } }
    else s)

/-- PCIE_LINK_LOSS: no job stops; what cannot reach the host from now on ends with 0x030D where it is sent. -/
def execPcieLinkLoss (s : State) : Host.Outcome State Fault Refusal := .next (s.pcieLink false)

/-- D0_RETURN. -/
def execD0Return (s : State) : Host.Outcome State Fault Refusal := .next { s with host := { s.host with d3hot := false } }

/-- PCIE_LINK_UP: in the states that keep the link up (12 Table 8). -/
def execPcieLinkUp (s : State) : Host.Outcome State Fault Refusal :=
  .next (if s.takesReset || s.dev.state == .recovery || (s.dev.state == .fault && s.power.rails.getLsbD 1) then s.pcieLink true else s)

end Sys2Proof.Machine
end

