-- ==== Sys2Proof/Machine/Objects.lean ====
section
/-! DEFINITION. The object dictionary as it is read (12 R452 to R459 and the object tables of every chapter): the codes of the states, the
members that the device derives from its state, and the value of any member in the encoding of its type. -/

namespace Sys2Proof.Machine

/-- The greatest of FP32 values that are not NaN; positive zero when there is none. -/
def f32Max (l : List (BitVec 32)) : BitVec 32 := l.foldl (fun a b => if (f32 a.toNat).le (f32 b.toNat) then b else a) (l.headD 0)

/-! ## Numeric members that the state gives -/

/-- Objects 0x1010 to 0x1030. -/
def State.numDevice (s : State) (o m : Nat) : Option Nat := match o, m with
  | 0x1020, 0 => some s.host.bar2GiB
  | 0x1010, 0 => some s.dev.state.num
  | 0x1010, 6 => some (Bool.num s.boot.sealed)
  | 0x1011, 1 => some s.fynen.eventSeq.toNat
  | 0x1022, i => some (if (s.stream i).state = .disabled then 0 else 1)
  | 0x1023, j => some (s.job j).state.num
  | 0x1024, j => some (s.job j).cause.toNat
  | 0x1030, 0 => some (1 + s.power.mgmtId.toNat)
  | 0x1030, 3 => some (Bool.num s.fynen.keyMgmt.isSome + 2 * Bool.num s.fynen.keyHost.isSome)
  | 0x1030, 4 => some s.fynen.epochId.toNat
  | _, _ => none

/-- Objects 0x1100 to 0x1120. -/
def State.numBoot (s : State) (o m : Nat) : Option Nat := match o, m with
  | 0x1100, 0 => some s.boot.status.toNat
  | 0x1100, 1 => some s.boot.booted
  | 0x1100, 3 => some s.boot.bootCount.toNat
  | 0x1100, 4 => some s.boot.helper
  | 0x1101, 0 => some (Bool.num s.boot.owned)
  | 0x1101, 2 => some (Bool.num s.boot.requireOwner)
  | 0x1110, 3 => some s.boot.offset
  | 0x1110, 6 => some (vget s.boot.slotState 0 .invalid).num
  | 0x1110, 7 => some (vget s.boot.slotState 1 .invalid).num
  | 0x1110, 8 => some s.boot.failCode.toNat
  | 0x1110, 9 => some s.boot.storedSvn.toNat
  | 0x1110, 10 => some s.boot.tries
  | 0x1120, 2 => some (2 ^ 25 - s.boot.usedIndex)
  | _, _ => none

/-- Objects 0x3201 to 0x4021. -/
def State.numMemory (s : State) (o m : Nat) : Option Nat := match o, m with
  | 0x3201, 1 => some s.esc.phase.num
  | 0x3201, 2 => some s.esc.committed.toNat
  | 0x3201, 8 => some s.esc.run
  | 0x4000, 2 => some (s.tailBytes / GiB)
  | 0x4000, 3 => some (64 - s.objGet 0x4000 0 - s.objGet 0x4000 1 - s.tailBytes / GiB)
  | 0x4001, k => some (s.stack k).state.num
  | 0x4010, i => some (vget s.mem.tunMode i 0)
  | 0x4011, 3 => some (bitsOf 4 (fun q => !(vget s.mem.tunSwitch q []).isEmpty))
  | 0x4021, 64 => some s.mem.tgState
  | 0x4021, 65 => some s.mem.tgRate.toNat
  | _, _ => none

/-- Objects 0x5000 to 0x5060. -/
def State.numFabric (s : State) (o m : Nat) : Option Nat := match o, m with
  | 0x5000, 0 => some s.dev.coord.toNat
  | 0x5000, 1 => some (Bool.num s.dev.coordAssigned)
  | 0x5001, p => some (s.port p).state.num
  | 0x5006, p => some (s.port p).lanes
  | 0x5011, 1 => some s.fabric.sparge.num
  | 0x5011, 2 => some (Bool.num s.fabric.traffic)
  | 0x5041, b => some (s.blockOwner b)
  | 0x5042, n => some (s.slotOwner n)
  | 0x5060, 8 => some s.dmaBusy
  | _, _ => none

/-- Objects 0x6001 to 0x7030. -/
def State.numPower (s : State) (o m : Nat) : Option Nat := match o, m with
  | 0x6001, 0 => some (s.spares 0).length
  | 0x6001, 1 => some (s.spares 1).length
  | 0x6001, 2 => some (s.spares 2).length
  | 0x6001, 3 => some (s.spares 3).length
  | 0x6010, 8 => some (if s.rack.unprotected then 5 else s.rack.state)
  | 0x6011, 4 => some s.rack.restore
  | 0x6050, 0 => some s.health
  | 0x7000, 0 => some s.power.vinA.volts.toNat
  | 0x7000, 1 => some s.power.vinB.volts.toNat
  | 0x7000, 2 => some s.power.inputPower.toNat
  | 0x7000, 3 => some (Bool.num s.power.vinA.inRange + 2 * Bool.num s.power.vinB.inRange + 4 * Bool.num s.power.vinA.supplying + 8 * Bool.num s.power.vinB.supplying)
  | 0x7000, 5 => some (Bool.num s.power.lostPower)
  | 0x7010, 1 => some s.power.powerStep
  | 0x7020, 2 => some (f32Max (s.power.sensors.toList.flatMap id)).toNat
  | 0x7020, 3 => some (f32Max (s.mem.hbm.toList.map (·.temp))).toNat
  | 0x7020, 4 => some ((List.range 4).foldl (fun a q => a + vget s.power.step q 0 * 256 ^ q) 0)
  | 0x7030, 0 => some (Bool.num s.power.refOsc)
  | 0x7030, 1 =>
    let p := s.power
    some (bitsOf 7 (fun i => [p.resetN.asserted, p.throttleN.asserted, p.presentN.asserted, false, p.resetN.chatter, p.throttleN.chatter, p.presentN.chatter].getD i false))
  | _, _ => none

/-- A numeric member as it is read: as the state gives it, or as it was stored. -/
def State.objNum (s : State) (o m : Nat) : Nat :=
  match (if o < 0x1100 then s.numDevice o m else if o < 0x2000 then s.numBoot o m else if o < 0x5000 then s.numMemory o m
    else if o < 0x6000 then s.numFabric o m else s.numPower o m) with
  | some v => v
  | none => s.objGet o m

/-! ## BLOB and STR members -/

/-- Two-bit codes, and four-bit masks, in bytes: the first in the lowest bits. (log 24, DESIGN CHOICE) -/
def pack2 (l : List (BitVec 2)) : List Byte := (chunks 4 l).map (fun c => BitVec.ofNat 8 (c.foldr (fun x a => 4 * a + x.toNat) 0))
def pack4 (l : List (BitVec 4)) : List Byte := (chunks 2 l).map (fun c => BitVec.ofNat 8 (c.foldr (fun x a => 16 * a + x.toNat) 0))
def unpack2 (b : List Byte) : List (BitVec 2) := b.flatMap (fun x => (List.range 4).map (fun i => x.extractLsb' (2 * i) 2))
def unpack4 (b : List Byte) : List (BitVec 4) := b.flatMap (fun x => (List.range 2).map (fun i => x.extractLsb' (4 * i) 4))

/-- A floor routing table: planes a and b, X and Y in each, 16 codes each (08 R289); an empty one is the reset table. -/
def State.floorTable (s : State) (t : List (BitVec 2)) : List (BitVec 2) :=
  if t.isEmpty then (List.range 64).map (fun i => BitVec.ofNat 2 (resetCode (i % 16) (if i / 16 % 2 = 1 then epY s.dev.coord else epX s.dev.coord))) else t

/-- A global plane table (08 R291); an empty one is the reset table. -/
def State.planeTable (s : State) (t : List (BitVec 4)) : List (BitVec 4) :=
  if t.isEmpty then (List.range 512).map (fun f => if f < s.objGet 0x5000 2 then 15 else 0) else t

/-- The 128 bytes of a cellar header (11 Table 5); zeros until it is written. (log 24, DESIGN CHOICE) -/
def CellarHdr.bytes (h : CellarHdr) : List Byte :=
  if !h.valid then List.replicate 128 0
  else
    let b := leBytes 1 2 ++ leBytes h.stack 1 ++ leBytes (Bool.num h.narrow) 1 ++ leBytes h.ranges.length 2 ++ leBytes 0 2 ++ leBytes h.sender.toNat 4 ++
      leBytes 0 4 ++ padTo 16 h.serial ++ leBytes h.epoch.toNat 8 ++ leBytes h.snapStep.toNat 8 ++ leBytes h.length.toNat 8 ++ leBytes h.dcrc.toNat 8 ++
      leBytes h.poisoned.toNat 8 ++ leBytes 0 48
    b ++ leBytes (crc64 b) 8

/-- The first 8 bytes of SHA-256 of a key, zero when absent (object 0x1102.1). -/
def keyPrint : Option (List Byte) → List Byte
  | some k => (sha256 k).take 8
  | none => List.replicate 8 0

/-- The configuration of a stream before it is written (12 Table 3): MOD_COUNT 1. -/
def streamCfgReset : List Byte := leBytes 0 16 ++ leBytes 1 4 ++ leBytes 0 44

/-- BLOB and STR members of objects 0x1000 to 0x10FF. -/
def State.blobDevice (s : State) (o m : Nat) : Option (List Byte) := match o, m with
  | 0x1000, 0 => some (ascii "Kamober")
  | 0x1000, 1 => some (ascii "Oreiska LH8")
  | 0x1000, 2 => some (ascii "KMB-LH8-768L")
  | 0x1000, 3 => some (ascii "Lenheup")
  | 0x1000, 4 => some serialBytes
  | 0x1011, 0 => some (s.fynen.log.reverse.flatMap EventRec.bytes)
  | 0x1021, i => some (if (s.stream i).cfgRaw.isEmpty then streamCfgReset else (s.stream i).cfgRaw)
  | 0x1030, 1 => some [0x02, 0x4B, 0x4D, 0x4C, 0x48, BitVec.ofNat 8 (1 + s.power.mgmtId.toNat)]
  | _, _ => none

/-- BLOB members of objects 0x1100 to 0x1120. -/
def State.blobBoot (s : State) (o m : Nat) : Option (List Byte) := match o, m with
  | 0x1101, 1 => some s.boot.ownerHash
  | 0x1101, 3 => some (padTo 32 s.boot.nonce)
  | 0x1102, 1 => some (keyPrint s.fynen.keyMgmt ++ keyPrint s.fynen.keyHost)
  | 0x1110, 0 => some (s.slotBytesAt 0 0 1280)
  | 0x1110, 1 => some (s.slotBytesAt 1 0 1280)
  | 0x1120, 1 => some s.boot.report
  | 0x1120, 3 => some (padTo 60 Config.deviceKey)
  | 0x1120, 4 => some Config.endorsement
  | 0x1120, 5 => some (padTo 1184 Config.mlkemKey)
  | 0x1120, 6 => some (measurements s.boot)
  | _, _ => none

/-- What the lane map of a stack tells (object 0x4003.k): spares in use, ECC-covered pins and flagged pins, each list after its length. -/
def Stack.laneRecord (x : Stack) : List Nat :=
  let pairs := fun (l : List (Nat × Nat)) => l.length :: l.flatMap (fun p => [p.1, p.2])
  pairs x.dataSpares ++ x.cmdSpares.length :: x.cmdSpares ++ pairs x.eccCovered ++ pairs x.flagged

/-- What the lane record of a port tells (object 0x5007.p): corrected symbols and margins of L0 to L8, and the flags. -/
def Port.laneRecord (x : Port) : List Nat :=
  (List.range 9).map (tget 0 x.corrected) ++ (List.range 9).map (fun i => (x.margins.getD i 0).toNat) ++ [x.flaggedLanes.toNat]

/-- A pool of the pool record (object 0x5060.10): capacity, free, in use. -/
def pool (capacity used : Nat) : List Nat := [capacity, capacity - used, used]

/-- What the pool record tells: receive buffers of each port and channel, DMA slots of each engine, collective slots, and the lines of the adders
(09 Table 8). -/
def State.poolRecord (s : State) : List Nat :=
  s.fabric.ports.toList.flatMap (fun (x : Port) => (x.rxUsed.zipWith (· + ·) x.rxOld).toList.flatMap (pool 160)) ++
  s.cores.toList.flatMap (fun (x : Core) => x.dma.toList.flatMap (fun (e : DmaEngine) => pool 16 e.queue.length ++ pool 4 e.running.length)) ++
  pool 32 s.coll.queue.length ++ pool 8 s.coll.running.length ++
  (List.range 12).flatMap (fun k => (List.range 64).flatMap (fun p => pool 32 (s.mem.adder.filter (fun l => s.mapped (64 * l) == some (.hbm k) && pcOf l == p)).length))

/-- BLOB members of the other objects whose content the spec lays out. (log 24, DESIGN CHOICE) -/
def State.blobUnits (s : State) (o m : Nat) : Option (List Byte) := match o, m with
  | 0x3110, 5 => some (leBytes (bitsOf 144 (fun n => (s.core n).run == .brk)) 18)
  | 0x4003, k => some (Config.layout 0x4003 (s.stack k).laneRecord)
  | 0x4020, 7 => some (padTo 64 (s.blobGet 0x4020 7))
  | 0x4021, i => if i < 64 then some (padTo 32 (tget [] s.mem.tgRes i)) else none
  | 0x5004, p => some (s.expectedRec p)
  | 0x5005, p => some (padTo 64 (s.port p).observed)
  | 0x5007, p => some (Config.layout 0x5007 (s.port p).laneRecord)
  | 0x5010, 0 => some (pack2 (s.floorTable s.fabric.tableS))
  | 0x5010, 1 => some (pack2 (s.floorTable s.fabric.tableA))
  | 0x5010, 2 => some (pack4 (s.planeTable s.fabric.gS))
  | 0x5010, 3 => some (pack4 (s.planeTable s.fabric.gA))
  | 0x5060, 10 => some (Config.layout 0x5060 s.poolRecord)
  | 0x6001, 11 =>
    let l := (List.range 160).filter (fun p => (s.phys p).retired)
    some (if l.isEmpty then [] else Config.layout 0x6001 l)
  | 0x6001, i => if 4 ≤ i ∧ i < 8 then some ((List.range 36).map (fun c => BitVec.ofNat 8 (vget s.resil.map (36 * (i - 4) + c) 0))) else none
  | 0x6030, 3 => some s.dumpDirectory
  | 0x6030, i => if 8 ≤ i ∧ i < 16 then some (((s.dumpAt (i - 8)).map DumpRec.bytes).getD []) else none
  | 0x6011, 0 => some ((List.range 12).flatMap (fun k => (s.cellarHdr 0 k).bytes))
  | 0x6011, 1 => some ((List.range 12).flatMap (fun k => (s.cellarHdr 1 k).bytes))
  | _, _ => none

/-- A BLOB or STR member as it is read. One whose content the spec does not lay out (lane maps and records, the pool, retired, dump and deduction
records) reads as free bytes. (log 24, DESIGN CHOICE) -/
def State.objBytes (s : State) (o m : Nat) : List Byte × State :=
  match (if o < 0x1100 then s.blobDevice o m else if o < 0x2000 then s.blobBoot o m else s.blobUnits o m) with
  | some b => (b, s)
  | none =>
    if o = 0x1000 ∧ m = 9 then (s.blobGet o m, s)
    else
      let n := s.takeFree
      let v := n.2.takeFree
      (leBytes v.1 (n.1 % 1025), v.2)

/-! ## Encodings (12 Table 11) -/

/-- Bytes of a numeric type. (log 24, DESIGN CHOICE) -/
def fynenBytes (t : Nat) : Nat := match t with
  | 1 => 1 | 2 => 1 | 3 => 2 | 4 => 4 | 5 => 8 | 6 => 4 | 7 => 8 | 8 => 4 | 11 => 4 | _ => 0

/-- The value of a member of the dictionary, in the encoding of its type; the beat count is a free value. -/
def State.readMember (s : State) (r : DictRow) (m : Nat) : List Byte × State :=
  if r.type = 9 ∨ r.type = 10 then s.objBytes r.obj m
  else if r.obj = 0x1010 ∧ m = 7 then
    let f := s.takeFree
    (leBytes f.1 8, f.2)
  else (leBytes (s.objNum r.obj m) (fynenBytes r.type), s)

/-- The 72 bytes of a DESCRIBE response (12 R450). (log 22, DESIGN CHOICE) -/
def DictRow.describe (r : DictRow) : List Byte :=
  leBytes r.type 1 ++ leBytes r.access 1 ++ leBytes 0 2 ++ leBytes (if r.type = 10 then r.blobLen else 0) 4 ++
  leBytes (if r.ranged then r.lo else 0) 8 ++ leBytes (if r.ranged then r.hi else 0) 8 ++ padTo 16 (ascii r.units) ++ padTo 32 (ascii r.name)

end Sys2Proof.Machine
end

