-- ==== Sys2Proof/Machine/ObjectWrites.lean ====
section
/-! DEFINITION. Writes of the object dictionary (12 R446, R452, R457, R458; 00 R3, R12; the object tables of every chapter): the checks of a
value, the members that an operation of the device stands behind, and the members that are only stored. -/

namespace Sys2Proof.Machine

/-! ## Checks -/

/-- Whether bytes are a value of a member's type (12 Table 11, R452) inside its stated range (00 R3); the code of the rejection, or 0. (log 22, DESIGN CHOICE) -/
def DictRow.valueCode (r : DictRow) (b : List Byte) : Nat :=
  let v := leNat b
  if r.type = 9 then (if r.blobLen < b.length ∨ b.any (fun c => c == 0 || decide (0x7F < c.toNat)) = true then 0x0201 else 0)
  else if r.type = 10 then (if r.blobLen < b.length then 0x0201 else 0)
  else if b.length ≠ fynenBytes r.type then 0x0201
  else if r.type = 11 then (if 2 ^ 17 ≤ v then 0x0202 else 0)
  else if r.type = 1 ∧ 1 < v then 0x0201
  else if r.type = 8 then
    (if (f32 v).isNan || (r.ranged && !((f32 r.lo).le (f32 v) && (f32 v).le (f32 r.hi))) then 0x0201 else 0)
  else if r.ranged = true ∧ (v < r.lo ∨ r.hi < v) then 0x0201
  else 0

/-- Whether FAULT turns a write away: only two command objects are left, and of one of them one value (12 R446). -/
def State.faultBars (s : State) (o m v : Nat) : Bool := s.dev.state == .fault && !(m == 0 && ((o == 0x6040 && v == 4) || o == 0x6030))

/-- The access rights (12 R452) with the state of the device (12 R446); the code of the rejection, or 0. -/
def State.accessCode (s : State) (r : DictRow) (m v : Nat) : Nat :=
  if s.faultBars r.obj m v then 0x0205
  else if r.access = 0 then 0x0105
  else if r.access = 2 ∧ s.dev.state ≠ .idle then 0x0203
  else if r.access = 4 ∧ s.boot.sealed = true then 0x0204
  else 0

/-! ## Members that are only stored -/

/-- GiB of the system tail under a ledger share and a cellar region in MiB; none when they make no whole number (11 R399). -/
def tailGiB (ledger cellar : Nat) : Option Nat := if (ledger + cellar + firmwareMiB) % 1024 = 0 then some ((ledger + cellar + firmwareMiB) / 1024) else none

/-- Whether a division of the stacks leaves each stack-local window 1 GiB (06 R195). -/
def divides (d q ledger cellar : Nat) : Bool := match tailGiB ledger cellar with
  | some t => decide (d + q + t ≤ 63)
  | none => false

/-- The rules between members that go beyond a range; the code of the rejection, or 0. (log 26, DESIGN CHOICE) -/
def State.ruleCode (s : State) (o m v : Nat) : Nat := match o, m with
  | 0x1020, 1 => if v % (s.host.bar2GiB * GiB) = 0 then 0 else 0x0201
  | 0x3201, 9 => if s.objGet 0x3121 4 ≤ v then 0 else 0x0201
  | 0x3202, 0 => if v % 64 = 0 ∧ divides (s.objGet 0x4000 0) (s.objGet 0x4000 1) v (s.objGet 0x6010 0) = true then 0 else 0x0201
  | 0x4000, 0 => if divides v (s.objGet 0x4000 1) (s.objGet 0x3202 0) (s.objGet 0x6010 0) then 0 else 0x0201
  | 0x4000, 1 => if divides (s.objGet 0x4000 0) v (s.objGet 0x3202 0) (s.objGet 0x6010 0) then 0 else 0x0201
  | 0x6010, 0 => if v % 64 = 0 ∧ divides (s.objGet 0x4000 0) (s.objGet 0x4000 1) (s.objGet 0x3202 0) v = true then 0 else 0x0201
  | 0x4020, 0 => if s.mem.tgState = 1 then 0x0206 else if (s.stack v).state = .test then 0 else 0x0205
  | 0x4020, 5 => if s.mem.tgState = 1 then 0x0206 else if v % 256 = 0 then 0 else 0x0201
  | 0x4020, _ => if s.mem.tgState = 1 then 0x0206 else 0
  | 0x5020, 5 => if v < s.objGet 0x5020 4 then 0 else 0x0201
  | 0x6050, 1 => if v + 50 ≤ s.objGet 0x6050 2 then 0 else 0x0201
  | 0x6050, 2 => if s.objGet 0x6050 1 + 50 ≤ v then 0 else 0x0201
  | _, _ => 0

/-- Where in its stack a line of an HBM window lies under a division, in lines: the device-interleaved share first, then the quarter-interleaved one
(06 R195, R196). -/
def State.stackLine (s : State) (d q ln : Nat) : Option (Nat × Nat) := match s.mapped (64 * ln) with
  | some (.hbm k) =>
    let a := 64 * ln
    let place := fun {n : Nat} (p : Equiv.Perm (Fin n)) (i : Nat) => if h : i < n then (p ⟨i, h⟩).val else i
    some (k, if a < 2 ^ 40 then 4 * place (Config.devicePlacement d q k) (64 * (a / 196608) + devicePlace a % 64) + ln % 4
      else if a < 2 ^ 41 then
        let o := (a - 2 ^ 40) % 2 ^ 38
        d * GiB / 64 + 4 * place (Config.quarterPlacement d q k) (64 * (o / 49152) + quarterPlace ((a - 2 ^ 40) / 2 ^ 38) o % 64) + ln % 4
      else (a - 2 ^ 41) % 2 ^ 36 / 64)
  | _ => none

/-- The line number that a line of a stack has under a division. -/
def lineAt (d q k o : Nat) : Nat :=
  let back := fun {n : Nat} (p : Equiv.Perm (Fin n)) (i : Nat) => if h : i < n then (p.symm ⟨i, h⟩).val else i
  if 64 * o < d * GiB then
    let i := back (Config.devicePlacement d q k) (o / 4)
    3072 * (i / 64) + 4 * ((Config.deviceSpread (i / 64)).symm (Fin.ofNat 768 (64 * k + i % 64))).val + o % 4
  else if 64 * o < (d + q) * GiB then
    let i := back (Config.quarterPlacement d q k) (o / 4 - d * 4194304)
    (2 ^ 40 + (k / 3) * 2 ^ 38) / 64 + 768 * (i / 64) + 4 * ((Config.quarterSpread (k / 3) (i / 64)).symm (Fin.ofNat 192 (64 * (k % 3) + i % 64))).val + o % 4
  else (2 ^ 41 + k * 2 ^ 36) / 64 + o

/-- The contents of every stack's windows become free bytes, in a placement that nothing fixes; a poisoned line stays poisoned where it appears under
the shares `d` and `q`, which are its stack's (06 R196). (log 14, DESIGN CHOICE) -/
def State.redivide (s : State) (d q : Nat) : State :=
  let s := s.writeBack
  let d0 := s.objGet 0x4000 0
  let q0 := s.objGet 0x4000 1
  let move := fun (ln : Nat) => match s.stackLine d0 q0 ln with
    | some (k, o) => lineAt d q k o
    | none => ln
  let p := if d = d0 ∧ q = q0 then s.mem.poison else s.mem.poison.foldl (fun l x => sadd l (move x)) []
  (s.each (List.range 12) State.freshStack).modMem (fun m => { m with poison := p })

/-- A new cellar host is named: the epoch in progress is abandoned, and the sender is unprotected until one is sealed there (11 R401). -/
def State.newHost (s : State) : State :=
  let s := s.rackAbandon
  { s with rack := { s.rack with state := 5, unprotected := true } }

/-- What storing `v` in a member changes besides its own value. (log 25, DESIGN CHOICE) -/
def State.stored (s : State) (o m v : Nat) : State := match o, m with
  | 0x3202, 0 => s.redivide (s.objGet 0x4000 0) (s.objGet 0x4000 1)
  | 0x4000, 0 => s.redivide v (s.objGet 0x4000 1)
  | 0x4000, _ => s.redivide (s.objGet 0x4000 0) v
  | 0x6010, 0 => State.redivide { s with rack := { s.rack with hdrs := [], payload := [], payloadPoison := [], newest := 2, landing := 0 } } (s.objGet 0x4000 0) (s.objGet 0x4000 1)
  | 0x6000, 2 => if s.objGet 0x6000 3 = 1 then s.newHost else s
  | 0x6000, 3 => if s.objGet 0x6000 3 = 1 then s.newHost else s
  | 0x6050, 1 => s.healthUpdate
  | 0x6050, 2 => s.healthUpdate
  | 0x7020, 5 => s.throttle
  | 0x7020, 7 => s.throttle
  | _, _ => s

/-- Store a number. A division of the stacks takes effect on the contents as they lay before it. (log 25, DESIGN CHOICE) -/
def State.storeNum (s : State) (o m v : Nat) : State × Nat :=
  let c := s.ruleCode o m v
  if c ≠ 0 then (s, c)
  else if o = 0x5011 ∧ m = 2 then (s.modFabric (fun f => { f with traffic := false }), 0)
  else if o = 0x4000 ∨ (o = 0x3202 ∧ m = 0) ∨ (o = 0x6010 ∧ m = 0) then
    (if s.objGet o m = v then (s, 0) else ((s.stored o m v).objSet o m v, 0))
  else if o = 0x4020 ∧ m = 6 then (s.objSet o m (max 1 v), 0)
  else if s.objGet o m = v then (s, 0)
  else ((s.objSet o m v).stored o m v, 0)

/-- The code of an expected-neighbour record (08 Table 5). -/
def expectedCode (b : List Byte) : Nat :=
  if b.length ≠ 32 then 0x0201
  else if 2 ^ 17 ≤ recNat b 0 4 ∨ 1 < recNat b 5 1 ∨ 1 < recNat b 6 1 ∨ recZero b 7 8 = false ∨ recZero b 24 32 = false then 0x0202
  else 0

/-- Store a BLOB or STR. -/
def State.storeBytes (s : State) (o m : Nat) (b : List Byte) : State × Nat := match o with
  | 0x5004 => if expectedCode b ≠ 0 then (s, expectedCode b) else (s.modPort m (fun x => { x with expected := some b, written := true, inForce := if x.carries then x.inForce else some b }), 0)
  | 0x5010 =>
    if m = 0 then (if b.length ≠ 16 then (s, 0x0201) else (s.modFabric (fun f => { f with tableS := unpack2 b }), 0))
    else (if b.length ≠ 256 then (s, 0x0201) else (s.modFabric (fun f => { f with gS := unpack4 b }), 0))
  | 0x4020 => if s.mem.tgState = 1 then (s, 0x0206) else if b.length ≠ 64 then (s, 0x0201) else (s.blobSet o m b, 0)
  | _ => (s.blobSet o m b, 0)

/-! ## Members with an operation of their own -/

/-- What a command that stands for a write does, and the code it answers with. (log 21, DEDUCED) -/
def State.viaRow (s : State) (o : Host.Outcome State Fault Refusal) : State × Nat := match o with
  | .next t =>
    let new := t.out.drop s.out.length
    let isReply : Output → Option Nat := fun x => match x with
      | .objectReply _ _ c => some c.toNat
      | _ => none
    ({ t with out := t.out.take s.out.length ++ new.filter (fun x => (isReply x).isNone) }, (new.findSome? isReply).getD 0)
  | _ => (s, 0x0205)

/-- Seal the configuration (12 R452). The firmware, when it runs, extends M4 with the SHA-256 of the values of the RWL members (13 R475). (log 21, DEDUCED) -/
def State.seal (s : State) : State :=
  let x := sha256 (s.blobGet 0x1000 9 ++ leBytes (s.objGet 0x1010 3) 1)
  let running := s.dev.state != .standby && s.dev.state != .recovery
  s.modBoot (fun b => { b with sealed := true, m4 := if running then sha256 (b.m4 ++ x) else b.m4 })

/-- CONFIG_SEAL (object 0x1010.5 = 1). -/
def execConfigSeal (s : State) : Host.Outcome State Fault Refusal := .next (s.objectRow 0x1010 5 (fun s => s.seal.reply 0x1010 5 0))

/-- Commands behind objects 0x1010 to 0x1030. -/
def State.rowDevice (s : State) (o m v : Nat) (b : List Byte) : Option (Host.Outcome State Fault Refusal) := match o with
  | 0x1010 => match m, v with
    | 1, 1 => some (execStateRequestStandby s)
    | 1, 2 => some (execStateRequestIdle s)
    | 1, _ => some (execStateRequestRun s)
    | 5, _ => some (execConfigSeal s)
    | _, _ => none
  | 0x1021 => some (execStreamConfigWrite (Fin.ofNat 64 m) b s)
  | 0x1022 => some (if v = 1 then execStreamEnable (Fin.ofNat 64 m) s else execStreamDisable (Fin.ofNat 64 m) s)
  | 0x1025 => some (if v = 1 then execJobStop (Fin.ofNat 8 m) s else execJobRelease (Fin.ofNat 8 m) s)
  | _ => none

/-- Commands behind objects 0x1100 to 0x1120. -/
def State.rowBoot (s : State) (t : Transport) (o m v : Nat) (b : List Byte) : Option (Host.Outcome State Fault Refusal) := match o, m with
  | 0x1101, 4 => some (let r := s.ownership b; .next (r.1.reply 0x1101 4 r.2))
  | 0x1102, 0 => some (execKeyInstall b s)
  | 0x1110, 2 => some (execImageSessionOpen t (BitVec.ofNat 8 v) s)
  | 0x1110, 4 => some (execImageSlotData t b s)
  | 0x1110, 5 => some (execImageCommit t s)
  | 0x1120, 0 => some (execAttestationNonce b s)
  | _, _ => none

/-- Commands behind objects 0x3110 to 0x4020. -/
def State.rowMemory (s : State) (o m v : Nat) : Option (Host.Outcome State Fault Refusal) := match o with
  | 0x3110 => if m = 4 then some (execBrkResume (BitVec.ofNat 8 v) s) else none
  | 0x3200 => some (execProfileWrite (Fin.ofNat 5 m) (BitVec.ofNat 32 v) s)
  | 0x4001 => some (if v = 3 then execStackEnterTest (Fin.ofNat 12 m) s else if v = 0 then execStackLeaveTest (Fin.ofNat 12 m) s
      else .next (s.reply 0x4001 m 0x0201))
  | 0x4004 => if m = 2 then some (execRetrainRequest (BitVec.ofNat 16 v) s) else none
  | 0x4010 => some (execTunModeWrite (Fin.ofNat 4 (m / 32)) (Fin.ofNat 32 (m % 32)) (BitVec.ofNat 8 v) s)
  | 0x4020 => if m = 9 then some (if v = 1 then execTrafficGeneratorStart s else execTrafficGeneratorStop s) else none
  | _ => none

/-- What a far end reports in a credit audit that no command brings: free values. (log 26, DESIGN CHOICE) -/
def State.freeReport (s : State) : List AuditReport × State :=
  let a := s.takeFree
  let b := a.2.takeFree
  let report := fun (n : Nat) => ({ free := BitVec.ofNat 8 n, owed := BitVec.ofNat 8 (n / 256), flight := BitVec.ofNat 8 (n / 65536) } : AuditReport)
  ([report a.1, report b.1], b.2)

/-- A credit audit of a port. (log 26, DESIGN CHOICE) -/
def State.auditPort (s : State) (p : Nat) : Host.Outcome State Fault Refusal :=
  let a := s.freeReport
  execPortCreditAudit (Fin.ofNat 12 p) a.1 a.2

/-- Commands behind objects 0x5000 to 0x5060. -/
def State.rowFabric (s : State) (o m v : Nat) : Option (Host.Outcome State Fault Refusal) := match o with
  | 0x5000 => if m = 0 then some (execCoordinateWrite (BitVec.ofNat 32 v) s) else none
  | 0x5002 => some (execPortEnableWrite (Fin.ofNat 12 m) (v == 1) s)
  | 0x5003 => some (match v with
    | 1 => execPortRetrain (Fin.ofNat 12 m) s
    | 2 => execPortTakeDown (Fin.ofNat 12 m) s
    | 3 => execPortAdopt (Fin.ofNat 12 m) s
    | _ => s.auditPort m)
  | 0x5010 => if m = 4 then some (execTableCommit s) else none
  | 0x5011 => if m = 0 then some (execSpargeStart s) else none
  | 0x5060 => if m = 11 then some (execAuditRun s) else none
  | _ => none

/-- Commands behind objects 0x6001 to 0x6050. -/
def State.rowResilience (s : State) (o m v : Nat) : Option (Host.Outcome State Fault Refusal) := match o, m with
  | 0x6001, 12 => some (execRetireCommand (BitVec.ofNat 16 v) s)
  | 0x6001, 13 => some (execClearRetiredList s)
  | 0x6011, 3 => some (execRestoreCommand (BitVec.ofNat 8 v) s)
  | 0x6030, 0 => some (execChronographDump s)
  | 0x6040, 0 => some (match v with
    | 2 => execResetReinit s
    | 3 => execWarmReset s
    | _ => execPowerCycle s)
  | 0x6050, 3 => some (execExpulsionBudgetWrite (BitVec.ofNat 16 v) s)
  | 0x6050, 7 => some (execClearExpelled s)
  | _, _ => none

/-- The command behind a member, if one stands behind it. -/
def State.rowOf (s : State) (t : Transport) (o m v : Nat) (b : List Byte) : Option (Host.Outcome State Fault Refusal) :=
  if o < 0x1100 then s.rowDevice o m v b else if o < 0x2000 then s.rowBoot t o m v b else if o < 0x5000 then s.rowMemory o m v
  else if o < 0x6000 then s.rowFabric o m v else s.rowResilience o m v

/-- A write of a whole value to a member of the dictionary: checked, then applied; the answer is its code. -/
def State.writeValue (s : State) (t : Transport) (r : DictRow) (m : Nat) (b : List Byte) : State × Nat :=
  let v := leNat b
  let a := s.accessCode r m v
  let c := if a ≠ 0 then a else r.valueCode b
  if c ≠ 0 then (s, c)
  else match s.rowOf t r.obj m v b with
    | some o => s.viaRow o
    | none => if r.type = 9 ∨ r.type = 10 then s.storeBytes r.obj m b else s.storeNum r.obj m v

/-- OBJECT_WRITE: a write of any member, as the management controller sends it. -/
def execObjectWrite (o : BitVec 16) (m : BitVec 8) (value : List Byte) (s : State) : Host.Outcome State Fault Refusal :=
  .next (if s.fynenSilent then s
    else
      let n := o.toNat
      let k := m.toNat
      if s.faultBars n k (leNat value) then s.reply n k 0x0205
      else if !s.serves n then s.reply n k 0x010A
      else if !dictHas n then s.reply n k 0x0102
      else match dictRow n k with
        | none => s.reply n k 0x0103
        | some r =>
          let w := s.writeValue .t1s r k value
          w.1.reply n k w.2)

end Sys2Proof.Machine
end

