-- ==== Sys2Proof/Machine/Fynen.lean ====
section
/-! DEFINITION. Fynen (12 R449 to R457) and the writes of BAR0 that carry it (12 R428, R430, R455): one meaning per command. A request is served
and answered in one step. -/

namespace Sys2Proof.Machine

/-! ## Messages -/

/-- A message as its bytes (12 R450). -/
def msgBytes (m : FynenMsg) : List Byte := msgBody m ++ m.tag

def msgAuth (m : FynenMsg) : Bool := m.flags.getLsbD 0

/-- Whether FORMAT, KIND and lengths match (12 R450): a request or an EVENT_ACK. -/
def msgWellFormed (m : FynenMsg) : Bool :=
  m.format == 1 && (m.kind == 1 || m.kind == 2 || m.kind == 3 || m.kind == 6) && m.length.toNat == m.value.length && decide (m.value.length ≤ 1024) &&
  m.tag.length == (if msgAuth m then 16 else 0)

/-- The message that bytes spell; a missing byte reads as zero. -/
def msgOf (b : List Byte) : FynenMsg :=
  let n := recNat b 22 2
  { format := BitVec.ofNat 16 (recNat b 0 2), kind := BitVec.ofNat 8 (recNat b 2 1), flags := BitVec.ofNat 8 (recNat b 3 1)
    requestId := BitVec.ofNat 32 (recNat b 4 4), seq := BitVec.ofNat 64 (recNat b 8 8), object := BitVec.ofNat 16 (recNat b 16 2)
    member := BitVec.ofNat 8 (recNat b 18 1), type := BitVec.ofNat 8 (recNat b 19 1), status := BitVec.ofNat 16 (recNat b 20 2)
    length := BitVec.ofNat 16 n, offset := BitVec.ofNat 64 (recNat b 24 8), value := (b.drop 32).take n, tag := b.drop (32 + n) }

def State.modFynen (s : State) (f : Fynen → Fynen) : State := { s with fynen := f s.fynen }

def State.keyOf (s : State) : Transport → Option (List Byte)
  | .t1s => s.fynen.keyMgmt
  | .mailbox => s.fynen.keyHost

/-- The last SEQ accepted on a transport's key in the epoch; none while the epoch has accepted none (12 R451). -/
def State.seqOf (s : State) : Transport → Option Word
  | .t1s => s.fynen.seqMgmt
  | .mailbox => s.fynen.seqHost

/-- Whether a SEQ lies above the last one accepted (12 R451); with none accepted, any SEQ of 1 or more does (13 R474). (log 22, DESIGN CHOICE) -/
def State.seqAbove (s : State) (t : Transport) (v : Word) : Bool := decide ((s.seqOf t).getD 0 < v)

def State.setSeq (s : State) (t : Transport) (v : Word) : State := match t with
  | .t1s => s.modFynen (fun f => { f with seqMgmt := some v })
  | .mailbox => s.modFynen (fun f => { f with seqHost := some v })

def State.lastReq (s : State) : Transport → Option (FynenMsg × FynenMsg)
  | .t1s => s.fynen.lastReqT1s
  | .mailbox => s.fynen.lastReqMb

def State.setLast (s : State) (t : Transport) (x : FynenMsg × FynenMsg) : State := match t with
  | .t1s => s.modFynen (fun f => { f with lastReqT1s := some x })
  | .mailbox => s.modFynen (fun f => { f with lastReqMb := some x })

def State.staged (s : State) : Transport → Option (Nat × Nat × List Byte)
  | .t1s => s.fynen.stagedT1s
  | .mailbox => s.fynen.stagedMb

def State.setStaged (s : State) (t : Transport) (x : Option (Nat × Nat × List Byte)) : State := match t with
  | .t1s => s.modFynen (fun f => { f with stagedT1s := x })
  | .mailbox => s.modFynen (fun f => { f with stagedMb := x })

/-- What a request is answered with: status, type, value, and whether bytes remain. -/
structure Answer where
  status : Nat
  type : Nat
  value : List Byte
  more : Bool
  deriving DecidableEq, Repr

/-- An answer with a code and no value. -/
def codeOnly (m : FynenMsg) (code : Nat) : Answer := { status := code, type := m.type.toNat, value := [], more := false }

/-- Deliver a response: on the segment, or in the mailbox, where it ends the request (12 R455). Silent Fynen and a cleared mailbox take none. (log 12, DESIGN CHOICE) -/
def State.sendResponse (s : State) (t : Transport) (r : FynenMsg) : State :=
  if s.fynenSilent then s
  else match t with
  | .t1s => s.emit (.fynen .t1s r)
  | .mailbox =>
    if s.host.busy then
      State.msix { s with host := { s.host with mbResp := msetN zeroByte s.host.mbResp 0 (msgBytes r), ready := true, busy := false } } 254
    else s

/-- The response to a request (12 R450, R451): its SEQ is not stated; a TYPE that is no code of Table 11 is not echoed, since the device writes no
reserved encoding (00 R12): a free code takes its place; tagged under the request's key when that is given. (log 22, DESIGN CHOICE) -/
def State.response (s : State) (m : FynenMsg) (key : Option (List Byte)) (a : Answer) : FynenMsg × State :=
  let f := s.takeFree
  let r : FynenMsg := {
    format := 1, kind := 4, flags := if a.more then 2 else 0, requestId := m.requestId, seq := BitVec.ofNat 64 f.1, object := m.object
    member := m.member, type := BitVec.ofNat 8 (if 1 ≤ a.type ∧ a.type ≤ 11 then a.type else 1 + f.1 / 2 ^ 64 % 11), status := BitVec.ofNat 16 a.status, length := BitVec.ofNat 16 a.value.length
    offset := m.offset, value := a.value, tag := [] }
  (msgWithTag r key s.fynen.epochId, f.2)

/-- A message that does not match 12 R450: answered with 0x0101, and not counted among those that fail R451. (log 22, DESIGN CHOICE) -/
def State.formatError (s : State) (t : Transport) (m : FynenMsg) : State :=
  let r := s.response m none (codeOnly m 0x0101)
  r.2.sendResponse t r.1

/-- A request that fails 12 R451: counted, and answered with the code. (log 22, DESIGN CHOICE) -/
def State.refuseReq (s : State) (t : Transport) (m : FynenMsg) (key : Option (List Byte)) (code : Nat) : State :=
  let r := (s.bump 0x1030 6 1).response m key (codeOnly m code)
  r.2.sendResponse t r.1

/-! ## Operations of a request -/

/-- READ (12 R452, R453). -/
def State.readReq (s : State) (m : FynenMsg) (r : DictRow) : State × Answer :=
  let off := m.offset.toNat
  if r.access = 3 then (s, codeOnly m 0x0105)
  else if r.type ≠ 10 ∧ off ≠ 0 then (s, codeOnly m 0x0108)
  else
    let v := s.readMember r m.member.toNat
    if r.type ≠ 10 then (v.2, { status := 0, type := r.type, value := v.1, more := false })
    else if v.1.length < off then (v.2, codeOnly m 0x0108)
    else (v.2, { status := 0, type := 10, value := (v.1.drop off).take 1024, more := decide (off + 1024 < v.1.length) })

/-- A chunk of a BLOB (12 R453): it must follow the bytes staged; the last one applies the whole value. (log 22, DESIGN CHOICE) -/
def State.writeChunk (s : State) (t : Transport) (m : FynenMsg) (r : DictRow) : State × Nat :=
  let o := m.object.toNat
  let k := m.member.toNat
  let have_ := match s.staged t with
    | some (o', k', b) => if o' = o ∧ k' = k then b else []
    | none => []
  let s := match s.staged t with
    | some (o', k', _) => if o' = o ∧ k' = k then s else s.setStaged t none
    | none => s
  let all := have_ ++ m.value
  if m.offset.toNat ≠ have_.length ∨ r.blobLen < all.length then (s, 0x0108)
  else if m.flags.getLsbD 1 then (s.setStaged t (some (o, k, all)), 0)
  else (s.setStaged t none).writeValue t r k all

/-- WRITE (12 R452). (log 22, DESIGN CHOICE) -/
def State.writeReq (s : State) (t : Transport) (m : FynenMsg) (r : DictRow) : State × Nat :=
  if m.type.toNat ≠ r.type then (s, 0x0104)
  else if r.type = 10 then s.writeChunk t m r
  else if m.flags.getLsbD 1 ∨ m.offset ≠ 0 then (s, 0x0108)
  else s.writeValue t r m.member.toNat m.value

/-- The operation of a request that has passed 12 R451. -/
def State.operate (s : State) (t : Transport) (m : FynenMsg) : State × Answer :=
  let o := m.object.toNat
  if m.kind = 2 ∧ s.faultBars o m.member.toNat (leNat m.value) = true then (s, codeOnly m 0x0205)
  else if m.flags.toNat / 4 ≠ 0 ∨ m.status ≠ 0 then (s, codeOnly m 0x0202)
  else if !s.serves o then (s, codeOnly m 0x010A)
  else if !dictHas o then (s, codeOnly m 0x0102)
  else match dictRow o m.member.toNat with
    | none => (s, codeOnly m 0x0103)
    | some r =>
      if m.kind = 1 then s.readReq m r
      else if m.kind = 3 then (s, { status := 0, type := r.type, value := r.describe, more := false })
      else
        let w := s.writeReq t m r
        (w.1, codeOnly m w.2)

/-- Serve a request that has passed 12 R451, counted; an authenticated one is kept with its response. An EVENT_ACK ends the sending of its event
and is not answered (12 R456). -/
def State.serveReq (s : State) (t : Transport) (m : FynenMsg) (key : Option (List Byte)) : State :=
  let s := s.bump 0x1030 5 1
  if m.kind = 6 then
    let s := s.modFynen (fun f => { f with unacked := f.unacked.filter (fun x => x.1.setWidth 32 != m.requestId) })
    if t = .mailbox then { s with host := { s.host with busy := false } } else s
  else
    let w := s.operate t m
    let r := w.1.response m key w.2
    (if key.isSome then r.2.setLast t (m, r.1) else r.2).sendResponse t r.1

/-- Whether a write needs AUTH: not the installation of a key, nor an ownership request, which proves itself (12 R451, 13 R473). -/
def needsAuth (m : FynenMsg) : Bool := m.kind == 2 && !((m.object == 0x1101 && m.member == 4) || (m.object == 0x1102 && m.member == 0))

/-- Authenticate a request (12 R451) and serve it. (log 22, DESIGN CHOICE) -/
def State.checkReq (s : State) (t : Transport) (m : FynenMsg) : State :=
  if !msgWellFormed m then s.formatError t m
  else if !msgAuth m then (if needsAuth m then s.refuseReq t m none 0x0106 else s.serveReq t m none)
  else match s.keyOf t with
    | none => s.refuseReq t m none 0x0106
    | some k =>
      if m.tag ≠ fynenTag k s.fynen.epochId m then s.refuseReq t m none 0x0106
      else match s.lastReq t with
        | some (q, r) =>
          if q = m then (s.bump 0x1030 5 1).sendResponse t r
          else if s.seqAbove t m.seq then (s.setSeq t m.seq).serveReq t m (some k)
          else s.refuseReq t m (some k) 0x0107
        | none => if s.seqAbove t m.seq then (s.setSeq t m.seq).serveReq t m (some k) else s.refuseReq t m (some k) 0x0107

/-- A request arrives: on the segment, or as the request that the mailbox holds. (log 22, DESIGN CHOICE) -/
def State.fynenReq (s : State) (t : Transport) (m : FynenMsg) : State :=
  if s.fynenSilent then s
  else match t with
  | .t1s => s.checkReq .t1s m
  | .mailbox => if s.host.busy && mgetN zeroByte s.host.mbReq 0 s.host.submitted == msgBytes m then s.checkReq .mailbox m else s

/-- FYNEN_READ. -/
def execFynenRead (t : Transport) (m : FynenMsg) (s : State) : Host.Outcome State Fault Refusal := .next (s.fynenReq t { m with kind := 1 })

/-- FYNEN_WRITE. -/
def execFynenWrite (t : Transport) (m : FynenMsg) (s : State) : Host.Outcome State Fault Refusal := .next (s.fynenReq t { m with kind := 2 })

/-- FYNEN_DESCRIBE. -/
def execFynenDescribe (t : Transport) (m : FynenMsg) (s : State) : Host.Outcome State Fault Refusal := .next (s.fynenReq t { m with kind := 3 })

/-- FYNEN_EVENT_ACK. (log 22, DESIGN CHOICE) -/
def execFynenEventAck (t : Transport) (m : FynenMsg) (s : State) : Host.Outcome State Fault Refusal := .next (s.fynenReq t { m with kind := 6 })

/-- FYNEN_FORMAT_ERROR: bytes that spell no message of 12 R450 are answered with 0x0101. (log 22, DESIGN CHOICE) -/
def execFynenFormatError (t : Transport) (raw : List Byte) (s : State) : Host.Outcome State Fault Refusal :=
  let m := msgOf raw
  let here := match t with
    | .t1s => true
    | .mailbox => s.host.busy && mgetN zeroByte s.host.mbReq 0 s.host.submitted == raw
  .next (if s.fynenSilent || !here || (msgWellFormed m && msgBytes m == raw) then s
    else s.formatError t m)

/-! ## Events (12 R456) -/

/-- EVENT_RESEND: an event not acknowledged after 10 sends is counted and given up. -/
def execEventResend (seq : Word) (s : State) : Host.Outcome State Fault Refusal :=
  .next (match s.fynen.unacked.find? (fun x => x.1 == seq), s.fynen.log.find? (fun (e : EventRec) => e.seq == seq) with
    | some (_, n), some e =>
      if s.fynenSilent then s
      else if 10 ≤ n then (s.modFynen (fun f => { f with unacked := f.unacked.filter (fun x => x.1 != seq) })).bump 0x1011 2 1
      else (s.modFynen (fun f => { f with unacked := f.unacked.map (fun x => if x.1 = seq then (x.1, n + 1) else x) })).emit
        (.fynen .t1s (msgWithTag e.message s.fynen.keyMgmt s.fynen.epochId))
    | some _, none => (s.modFynen (fun f => { f with unacked := f.unacked.filter (fun x => x.1 != seq) })).bump 0x1011 2 1
    | none, _ => s)

/-! ## The segment (12 R449) -/

/-- The link-local address that the MAC gives by modified EUI-64. -/
def State.ownAddress (s : State) : BitVec 128 := BitVec.ofNat 128 (0xFE80000000000000004B4DFFFE4C4800 + 1 + s.power.mgmtId.toNat)

/-- NEIGHBOR_DISCOVERY. -/
def execNeighborDiscovery (target : BitVec 128) (s : State) : Host.Outcome State Fault Refusal :=
  .next (if !s.fynenSilent && target == s.ownAddress then s.emit (.neighbourAdvert target) else s)

/-! ## The mailbox and BAR0 (12 R428, R430, R455) -/

/-- A write of SUBMIT: the request in the buffer is taken for service. One while BUSY, or with a length out of its range, is discarded. (log 23, DESIGN CHOICE) -/
def State.submit (s : State) (v : BitVec 32) : State :=
  if s.host.busy = true ∨ v.toNat < 32 ∨ 1072 < v.toNat then s.doorDiscard
  else { s with host := { s.host with busy := true, submitted := v.toNat } }

/-- MAILBOX_SUBMIT. -/
def execMailboxSubmit (v : BitVec 32) (s : State) : Host.Outcome State Fault Refusal := .next (if s.host.linkUp then s.submit v else s)

/-- A write of 1 to READY. -/
def State.readyClear (s : State) : State := { s with host := { s.host with ready := false } }

/-- MAILBOX_READY_CLEAR. -/
def execMailboxReadyClear (s : State) : Host.Outcome State Fault Refusal := .next (if s.host.linkUp then s.readyClear else s)

/-- A write of a whole register of a doorbell page (12 Table 4); none for what is no register. (log 23, DESIGN CHOICE) -/
def State.doorbellWrite (s : State) (i off v : Nat) : Option State := match off with
  | 0x000 => some (s.tailWrite i (BitVec.ofNat 32 v))
  | 0x008 => some (s.compHeadWrite i (BitVec.ofNat 32 v))
  | 0x010 => some (match v with
    | 1 => s.retry i
    | 2 => s.skip i
    | 3 => s.flush i
    | _ => s.doorDiscard)
  | _ => none

/-- A write into the MSI-X table (12 R430): unmasking a vector sends what is pending on it. (log 4, PRESUMED; log 23, DESIGN CHOICE) -/
def State.msixWrite (s : State) (off : Nat) (data : List Byte) : State :=
  let t := msetN zeroByte s.host.msixTable off data
  let mask := fun (m : List Nat) v => if 16 * v + 12 < off + data.length ∧ off < 16 * v + 16 then sput m v ((mget zeroByte t (16 * v + 12)).getLsbD 0) else m
  let hit := (List.range 256).filter (fun v => off / 16 ≤ v ∧ v ≤ (off + data.length) / 16)
  State.msixFlush { s with host := { s.host with msixTable := t, msixMask := hit.foldl mask s.host.msixMask } }

/-- Offsets of BAR0 that are read-only: the RO registers of a doorbell page, the response buffer, the pending-bit array and the status page (12 Tables 2,
4 and 12). (log 23, DESIGN CHOICE) -/
def barReadOnly (off : Nat) : Bool :=
  decide (off < 0x40000 ∧ 0x18 ≤ off % 0x1000 ∧ off % 0x1000 < 0x30) || decide (0x41000 ≤ off ∧ off < 0x42000) ||
  decide (0x51000 ≤ off ∧ off < 0x52000) || decide (0x60000 ≤ off ∧ off < 0x61000)

/-- Where a BAR0 write lands that the map allows (12 Table 2); none for every other, which is discarded. A write of a read-only register is ignored
(00 R11), and one that carries reserved bits is illegal (00 R12). (log 23, DESIGN CHOICE) -/
def State.barWrite (s : State) (off : Nat) (data : List Byte) : Option State :=
  let n := data.length
  let reg := (n == 4 && off % 4 == 0) || (n == 8 && off % 8 == 0)
  let words := n != 0 && n % 4 == 0 && off % 4 == 0
  if barReadOnly off then (if (if decide (0x41000 ≤ off ∧ off < 0x42000) then words else reg) then some s else none)
  else if off < 0x40000 then
    if reg && decide (leNat data < 2 ^ 32) then s.doorbellWrite (off / 0x1000) (off % 0x1000) (leNat data) else none
  else if off < 0x41000 then
    if words && decide (off + n ≤ 0x41000) then some { s with host := { s.host with mbReq := msetN zeroByte s.host.mbReq (off - 0x40000) data } } else none
  else if off = 0x42000 then (if reg && decide (leNat data < 2 ^ 32) then some (s.submit (BitVec.ofNat 32 (leNat data))) else none)
  else if off = 0x42008 then (if reg && decide (leNat data < 4) then some (if leNat data / 2 % 2 = 1 then s.readyClear else s) else none)
  else if 0x50000 ≤ off ∧ off < 0x51000 then (if reg then some (s.msixWrite (off - 0x50000) data) else none)
  else if 0x1000000 ≤ off ∧ off < 0x2000000 then
    if words && decide (off % 64 + n ≤ 64) then
      some (s.modStream ((off - 0x1000000) / 0x40000) (fun x => { x with window := msetN zeroByte x.window (off % 0x40000) data }))
    else none
  else none

/-! ## Reads of BAR0 (12 R428, R430, R433, R455, R456) -/

/-- A register of BAR0 as 8 bytes at its offset; zero for an offset that no table lists (12 Tables 2, 4 and 12). The third argument is the count of beats since power-on. -/
def State.barReg (s : State) (off beats : Nat) : Nat :=
  let x := s.stream (off / 0x1000)
  if off < 0x40000 then
    match off % 0x1000 with
    | 0x000 => x.tail.toNat
    | 0x008 => x.compHead.toNat
    | 0x018 => x.head.toNat + 2 ^ 32 * x.state.num + 2 ^ 40 * x.progress.length + 2 ^ 48 * x.lastError.toNat
    | 0x020 => x.discarded.toNat
    | 0x028 => x.compTail.toNat
    | _ => 0
  else match off with
    | 0x42008 => Bool.num s.host.busy + 2 * Bool.num s.host.ready
    | 0x60000 => s.dev.state.num
    | 0x60008 => beats
    | 0x60010 => s.fynen.eventSeq.toNat
    | _ => 0

/-- A byte of BAR0: of a message buffer, the MSI-X table or its pending bits, a command window, or a register. (log 4, PRESUMED) -/
def State.barByte (s : State) (beats off : Nat) : Byte :=
  if 0x40000 ≤ off ∧ off < 0x41000 then mget zeroByte s.host.mbReq (off - 0x40000)
  else if 0x41000 ≤ off ∧ off < 0x42000 then mget zeroByte s.host.mbResp (off - 0x41000)
  else if 0x50000 ≤ off ∧ off < 0x51000 then
    let o := off - 0x50000
    let b := mget zeroByte s.host.msixTable o
    if o % 16 = 12 then b &&& 0xFE#8 ||| (if s.host.msixMask.contains (o / 16) then 1#8 else 0#8) else b
  else if 0x51000 ≤ off ∧ off < 0x51020 then BitVec.ofNat 8 (bitsOf 8 (fun k => s.host.msixPend.contains (8 * (off - 0x51000) + k)))
  else if 0x1000000 ≤ off ∧ off < 0x2000000 then mget zeroByte (s.stream ((off - 0x1000000) / 0x40000)).window (off % 0x40000)
  else (leBytes (s.barReg (off / 8 * 8) beats) 8).getD (off % 8) 0

/-- What a read of BAR0 returns, at a count of beats. No command of the table reads BAR0: the host sees it, and nothing of the device changes by it. (log 4, PRESUMED) -/
def State.barRead (s : State) (beats off n : Nat) : List Byte := (List.range n).map (fun k => s.barByte beats (off + k))

/-- BAR_WRITE_DISCARDED: a BAR0 write. What the map does not allow is discarded and counted; what it allows takes effect. (log 23, DESIGN CHOICE) -/
def execBarWriteDiscarded (off : Word) (data : List Byte) (s : State) : Host.Outcome State Fault Refusal :=
  .next (if !s.host.linkUp then s else (s.barWrite off.toNat data).getD (s.bump 0x1020 4 1))

end Sys2Proof.Machine
end

