-- ==== Sys2Proof/Machine/Power.lean ====
section
/-! DEFINITION. Supply, clocks, sleep, power limit and temperature (14; 01 R23): one meaning per command. -/

namespace Sys2Proof.Machine

def State.modPower (s : State) (f : Power → Power) : State := { s with power := f s.power }

/-! ## Supply inputs (14 R480 to R483) -/

/-- An FP32 value for a whole number. -/
def ofNatVal (n : Nat) : FVal := .fin false n 0

/-- Whether a voltage lies in the operating range, 48 to 54 V. (log 43, DEDUCED) -/
def inOperation (v : BitVec 32) : Bool := (ofNatVal 48).le (f32 v.toNat) && (f32 v.toNat).le (ofNatVal 54)

def State.input (s : State) (i : Nat) : Input := if i = 0 then s.power.vinA else s.power.vinB

def State.setInput (s : State) (i : Nat) (x : Input) : State := s.modPower (fun p => if i = 0 then { p with vinA := x } else { p with vinB := x })

/-- Which inputs supply the bus (14 R480): a closed one that is no more than 0.2 V below a closed other. (log 27, DESIGN CHOICE) -/
def Input.supplies (x y : Input) : Bool :=
  x.switchClosed && (!y.switchClosed || (f32 y.volts.toNat).le ((f32 x.volts.toNat).add (f32 0x3E4CCCCD)))

/-- Both inputs take their share. -/
def State.share (s : State) : State :=
  let a := s.power.vinA
  let b := s.power.vinB
  s.modPower (fun p => { p with vinA := { a with supplying := a.supplies b }, vinB := { b with supplying := b.supplies a } })

/-- An input within the operating range powers the island of a device that is OFF (12 Table 9). -/
def State.powerOn (s : State) : State :=
  if s.dev.state = .off ∧ ((s.power.vinA.switchClosed && inOperation s.power.vinA.volts) || (s.power.vinB.switchClosed && inOperation s.power.vinB.volts)) = true then s.setDev .standby
  else s

/-- An input left or re-entered its range (14 R481). (log 27, DESIGN CHOICE) -/
def State.rangeEvent (s : State) : State := if s.dev.state = .off then s else s.eventD 0x0903 0x7000

/-- An input stands at a voltage, its switch closed or not: whether that is in the operating range is reported, and what changes is an event. (log 27, DESIGN CHOICE) -/
def State.stands (s : State) (i : Nat) (closed : Bool) (volts : BitVec 32) : State :=
  let was := (s.input i).inRange
  let now := inOperation volts
  let s := (s.setInput i { inRange := now, switchClosed := closed, supplying := false, volts := volts }).share
  (if was = now then s else s.rangeEvent).powerOn

/-- An input is switched in. -/
def State.rejoin (s : State) (i : Nat) (volts : BitVec 32) : State := s.stands i true volts

/-- An input's switch opens. The other takes the load when it lies within 48 to 54 V, its switch closing if a reverse current had opened it: a
switchover when the first was supplying (14 R482). A closed one outside that range carries on; with none left the device loses its power (14
R483). (log 27, DESIGN CHOICE) -/
def State.dropInput (s : State) (i : Nat) (x : Input) (event : Bool) : State :=
  let old := s.input i
  let other := s.input (1 - i)
  let s := (s.setInput i x).share
  let s := if event then s.rangeEvent else s
  if s.dev.state = .off then s
  else if inOperation other.volts then
    let s := if other.switchClosed then s else (s.setInput (1 - i) { other with switchClosed := true }).share
    if old.supplying then s.bump 0x7000 4 1 else s
  else if other.switchClosed then s
  else s.powerLost

/-- Whether a voltage opens a switch: below 45 V, or 57 V and more (14 Table 1). -/
def opensSwitch (v : FVal) : Bool := v.lt (ofNatVal 45) || (ofNatVal 57).le v

/-- Whether a voltage lets an open switch close: 47 V and more, but not while an overvoltage that opened it has not yet fallen below 55 V. (log 27, DESIGN CHOICE) -/
def Input.recloses (x : Input) (v : FVal) : Bool := (ofNatVal 47).le v && v.lt (ofNatVal 57) && !((ofNatVal 55).le (f32 x.volts.toNat) && (ofNatVal 55).le v)

/-- INPUT_APPLIED: the voltage is judged against the thresholds of 14 Table 1. (log 2, DESIGN CHOICE) -/
def execInputApplied (i : Fin 2) (volts : BitVec 32) (s : State) : Host.Outcome State Fault Refusal :=
  let x := s.input i
  let v := f32 volts.toNat
  .next (if opensSwitch v then s.dropInput i { inRange := false, switchClosed := false, supplying := false, volts := volts } x.inRange
    else s.stands i (x.switchClosed || x.recloses v) volts)

/-- INPUT_UNDERVOLTAGE: below 45 V. -/
def execInputUndervoltage (i : Fin 2) (volts : BitVec 32) (s : State) : Host.Outcome State Fault Refusal :=
  let x := s.input i
  .next (if (f32 volts.toNat).lt (ofNatVal 45) then s.dropInput i { inRange := false, switchClosed := false, supplying := false, volts := volts } x.inRange else s)

/-- INPUT_UNDERVOLTAGE_RECOVERY: 47 V held for 10 ms closes the switch again, unless an overvoltage has opened it and 55 V are not yet left. -/
def execInputUndervoltageRecovery (i : Fin 2) (volts : BitVec 32) (s : State) : Host.Outcome State Fault Refusal :=
  .next (if !(s.input i).switchClosed && (s.input i).recloses (f32 volts.toNat) then s.rejoin i volts else s)

/-- INPUT_OVERVOLTAGE: 57 V. -/
def execInputOvervoltage (i : Fin 2) (volts : BitVec 32) (s : State) : Host.Outcome State Fault Refusal :=
  let x := s.input i
  .next (if (ofNatVal 57).le (f32 volts.toNat) then s.dropInput i { inRange := false, switchClosed := false, supplying := false, volts := volts } x.inRange else s)

/-- INPUT_OVERVOLTAGE_RECOVERY: below 55 V for 10 ms. -/
def execInputOvervoltageRecovery (i : Fin 2) (volts : BitVec 32) (s : State) : Host.Outcome State Fault Refusal :=
  let v := f32 volts.toNat
  .next (if !(s.input i).switchClosed && v.lt (ofNatVal 55) && (ofNatVal 47).le v then s.rejoin i volts else s)

/-- INPUT_REVERSE_CURRENT: the switch opens; the input's range is judged by its voltage alone. -/
def execInputReverseCurrent (i : Fin 2) (s : State) : Host.Outcome State Fault Refusal :=
  let x := s.input i
  .next (if x.switchClosed then s.dropInput i { x with switchClosed := false, supplying := false } false else s)

/-- BOTH_INPUTS_LOST. -/
def execBothInputsLost (s : State) : Host.Outcome State Fault Refusal :=
  let gone : Input := { inRange := false, switchClosed := false, supplying := false, volts := 0 }
  let s := s.modPower (fun p => { p with vinA := gone, vinB := gone })
  .next (if s.dev.state = .off then s else s.powerLost)

/-! ## Rails (14 R484) -/

/-- A rail is no longer in regulation: 0 VQ, 1 VIO, 2 VHBM, 3 VCORE, 4 the quarter clocks. -/
def Power.dropRail (p : Power) (r : Nat) : Power :=
  if r = 4 then { p with quarterClocks := false } else { p with rails := p.rails &&& ~~~(BitVec.twoPow 4 r) }

/-- A rail goes off, with what it feeds (14 Table 3). (log 27, DESIGN CHOICE) -/
def State.railOff (s : State) (r : Nat) : State :=
  let s := s.modPower (fun p => p.dropRail r)
  match r with
  | 0 => s.loseTun
  | 1 => (s.losePorts false).pcieLink false
  | 2 => s.loseStacks (List.range 12)
  | 3 => s.loseCores
  | _ => s

/-- VCORE, VHBM and VQ go off. -/
def State.railsOff (s : State) : State := ((s.railOff 3).railOff 2).railOff 0

/-- An EXTEST instruction ends without a reset of its own (15 R521). (log 5, PRESUMED) -/
def State.endExtest (s : State) : State := if s.extestLoaded then s.modPower (fun p => { p with tap := .bypass }) else s

/-- RAIL_OUT_OF_REGULATION: a rail that is in regulation leaves it, or one is not in regulation in time as the device leaves STANDBY, when those before
it in the order of 14 Table 3 are up. The Chronograph finds what the rail feeds without power. -/
def execRailOutOfRegulation (r : Fin 5) (s : State) : Host.Outcome State Fault Refusal :=
  let on := if r.val = 4 then s.power.quarterClocks else s.power.rails.getLsbD r
  let starting := s.dev.state == .standby && s.dev.wantIdle
  .next (if s.dev.state = .off then s
    else if on then ((s.modPower (fun p => p.dropRail r)).enterFault 0x0908).railOff r
    else if starting then (s.modPower (fun p => p.upTo r)).enterFault 0x0908
    else s)

/-! ## Clocks (14 R486, R487; 01 R23) -/

/-- FAB_REFCLK_LOSS. -/
def execFabRefclkLoss (s : State) : Host.Outcome State Fault Refusal :=
  let was := s.power.refOsc
  let s := s.modPower (fun p => { p with fabRefclk := false })
  .next (if was ∨ s.dev.state = .off then s else (s.modPower (fun p => { p with refOsc := true })).eventD 0x0904 0x7030)

/-- PCIE_REFCLK_LOSS. -/
def execPcieRefclkLoss (s : State) : Host.Outcome State Fault Refusal :=
  .next (State.pcieLink { s with host := { s.host with refclkLost := true } } false)

/-- PCIE_REFCLK_RETURN: the link trains in the states that keep it up. -/
def execPcieRefclkReturn (s : State) : Host.Outcome State Fault Refusal :=
  let s := { s with host := { s.host with refclkLost := false } }
  .next (if s.takesReset || s.dev.state == .recovery || (s.dev.state == .fault && s.power.rails.getLsbD 1) then s.pcieLink true else s)

/-- CRYSTAL_CHECK: a failure raises an event and lowers the health score by 50 until the crystal is good again. (log 11, DESIGN CHOICE) -/
def execCrystalCheck (good : Bool) (s : State) : Host.Outcome State Fault Refusal :=
  .next (if s.dev.state = .off ∨ good = s.power.crystalOk then s
    else if good then (s.modPower (fun p => { p with crystalOk := true })).undeduct 8
    else ((s.modPower (fun p => { p with crystalOk := false })).eventOpen 0).deduct 8 50 false)

/-! ## Sleep of cores (14 R488 to R491) -/

/-- Whether a core has nothing to do. -/
def State.coreIdle (s : State) (c : Nat) : Bool :=
  let x := s.core c
  !s.coreBusy c && x.run != .running && x.run != .brk && x.arrayQ.isEmpty && x.current.isNone && x.epiQ.isEmpty && x.draining.isNone && x.assays.isEmpty &&
  x.dma.toList.all (fun (e : DmaEngine) => e.queue.isEmpty && e.running.isEmpty)

/-- CORE_SLEEP_ENTRY. -/
def execCoreSleepEntry (c : Fin 144) (s : State) : Host.Outcome State Fault Refusal :=
  let x := s.core c
  .next (if s.takesReset && x.sleep == .awake && !x.offline && !x.fenced && s.coreIdle c then
      (s.setCore c { x with sleep := .sleepQueued }).modPower (fun p => { p with fuseeSleep := p.fuseeSleep ++ [c.val] })
    else s)

/-- A core asleep keeps its local memory and side memory and nothing else of its own (14 Table 4); DMA, tile and request numbers count on. (log 27, DESIGN CHOICE) -/
def Core.retained (x : Core) : Core :=
  { Core.reset with
    lmem := x.lmem, lPoison := x.lPoison, side := x.side, dma := x.dma, tileSeq := x.tileSeq, reqSeq := x.reqSeq, stepSeq := x.stepSeq
    seqKey := x.seqKey, sleep := .asleep }

/-- FUSEE_GRANT: wakes for the Remontoire, then other wakes, then entries into sleep. -/
def execFuseeGrant (s : State) : Host.Outcome State Fault Refusal :=
  let wake := fun (s : State) (c : Nat) => (s.modCore c (fun x => { x with sleep := .locking })).bump 0x7011 5 1
  .next (match s.power.fuseeRemontoire, s.power.fusee, s.power.fuseeSleep with
    | c :: r, _, _ => wake (s.modPower (fun p => { p with fuseeRemontoire := r })) c
    | [], c :: r, _ => wake (s.modPower (fun p => { p with fusee := r })) c
    | [], [], c :: r => (s.modPower (fun p => { p with fuseeSleep := r })).modCore c Core.retained
    | [], [], [] => s)

/-- CORE_PLL_LOCK. -/
def execCorePllLock (c : Fin 144) (s : State) : Host.Outcome State Fault Refusal :=
  .next (if (s.core c).sleep = .locking then s.modCore c (fun x => { x with sleep := .awake }) else s)

/-! ## Power limit and temperature (14 R494 to R499) -/

/-- A value times a whole number, exactly. -/
def FVal.times (v : FVal) (n : Nat) : FVal := match v with
  | .fin s m e => .fin s (m * n) e
  | x => x

/-- POWER_LIMIT_WINDOW: one step up above the limit, one down at 5 % or more below it. -/
def execPowerLimitWindow (watts : BitVec 32) (s : State) : Host.Outcome State Fault Refusal :=
  let limit := s.objGet 0x7010 0
  let w := f32 watts.toNat
  let step := if (ofNatVal limit).lt w then min 31 (s.power.powerStep + 1)
    else if (w.times 100).le (ofNatVal (95 * limit)) then s.power.powerStep - 1
    else s.power.powerStep
  .next (if s.dev.state = .off then s else (s.modPower (fun p => { p with inputPower := watts, powerStep := step })).throttle)

/-- THERMAL_STEP_TICK: up while a sensor of the quarter reads above the target, down while every one reads at least 2 °C below it. -/
def execThermalStepTick (q : Fin 4) (s : State) : Host.Outcome State Fault Refusal :=
  let t := s.objGet 0x7020 0
  let l := vget s.power.sensors q []
  let old := vget s.power.thermalStep q 0
  let step := if l.any (fun v => (ofNatVal t).lt (f32 v.toNat)) then min 31 (old + 1)
    else if l.all (fun v => (f32 v.toNat).le (ofNatVal (t - 2))) then old - 1
    else old
  .next (if s.dev.state = .off then s else (s.modPower (fun p => { p with thermalStep := vset p.thermalStep q step })).throttle)

/-- Whether any of some readings is at least a temperature. -/
def anyAt (l : List (BitVec 32)) (t : Nat) : Bool := l.any (fun v => (ofNatVal t).le (f32 v.toNat))

/-- Doubled refresh from 95 °C until below 92 °C (14 R499). -/
def Stack.reading (x : Stack) (v : BitVec 32) : Stack :=
  { x with temp := v, doubleRefresh := if (ofNatVal 95).le (f32 v.toNat) then true else if (f32 v.toNat).lt (ofNatVal 92) then false else x.doubleRefresh }

/-- The thermal trip (14 R498): of a device that is in FAULT for another cause too. (log 27, DESIGN CHOICE) -/
def State.thermalTrip (s : State) : State :=
  let s := ((s.modPower (fun p => { p with tripped := true })).endExtest).throttle
  let s := if s.dev.state = .fault then (s.dump 5 0x0901).objSet 0x1010 4 0x0901 else s.enterFault 0x0901
  let s := s.bump 0x7020 6 1
  s.railsOff.modResil (fun r => { r with resetRung := 0 })

/-- All junction readings. -/
def Power.junctions (p : Power) : List (BitVec 32) := p.sensors.toList.flatMap id

/-- SENSOR_READING: readings stored; a junction that comes within the thermal margin warns and costs health (11 R404, Table 11); a trip at 105 °C. -/
def execSensorReading (junction : List (List (BitVec 32))) (stackTemps : List (BitVec 32)) (s : State) : Host.Outcome State Fault Refusal :=
  let margin := 105 - s.objGet 0x6012 2
  let before := anyAt s.power.junctions margin
  let s1 := s.modPower (fun p => { p with sensors := ⟨⟨(List.range 4).map (fun q => junction.getD q [])⟩, by simp⟩ })
  let s1 := s1.each (List.range 12) (fun s k => match stackTemps[k]? with
    | some v => s.modStack k (fun x => x.reading v)
    | none => s)
  let s1 := if anyAt s1.power.junctions margin && !before then s1.warning.deduct 11 10 true else s1
  .next (if s.dev.state = .off then s
    else if !s.power.tripped && (anyAt s1.power.junctions 105 || anyAt stackTemps 105) then s1.thermalTrip
    else s1)

/-! ## Output pins (14 R498; 15 R510, R521) -/

/-- FAULT_N: high only in IDLE, RUN and DRAIN, and not while an EXTEST instruction is loaded. -/
def State.faultN (s : State) : Bool := s.takesReset && !s.extestLoaded

/-- PWR_GOOD. -/
def State.pwrGood (s : State) : Bool := s.power.rails == 15 && s.power.quarterClocks && (s.takesReset || s.dev.state == .fault)

/-- THERM_ALERT_N: low while any sensor reads above the alert threshold, and throughout a trip. -/
def State.thermAlertN (s : State) : Bool :=
  !s.power.tripped && (s.power.junctions ++ s.mem.hbm.toList.map (·.temp)).all (fun v => (f32 v.toNat).le (ofNatVal (s.objGet 0x7020 1)))

end Sys2Proof.Machine
end

