-- ==== Sys2Proof/Machine/Pins.lean ====
section
/-! DEFINITION. The discrete inputs and the boundary-scan TAP (14 R500 to R502; 15 R509, R520, R521): one meaning per command. -/

namespace Sys2Proof.Machine

/-! ## Discrete inputs -/

/-- RESET_N after its filter, held for 1 ms (14 Table 6): a warm reset that is held until release; one during a trip is counted and has no effect
(14 R502), and one in a reset in progress holds it. (log 27, DESIGN CHOICE) -/
def State.resetPin (s : State) : State :=
  if s.power.tripped then s.bump 0x7030 3 1
  else
    let s := s.endExtest
    if s.takesReset then
      let s := s.warm none
      { s with dev := { s.dev with resetHeld := true } }
    else if s.dev.state = .reset then { s with dev := { s.dev with resetHeld := true } }
    else s

/-- RESET_N_ASSERT: a shorter assertion is ignored and counted. -/
def execResetNAssert (heldMs : Nat) (s : State) : Host.Outcome State Fault Refusal :=
  .next (if heldMs < 1 then (if s.dev.state = .off then s else s.bump 0x7030 3 1)
    else
      let s := s.modPower (fun p => { p with resetN := { asserted := true, chatter := false } })
      if s.dev.state = .off then s else s.resetPin)

/-- RESET_N_RELEASE. -/
def execResetNRelease (s : State) : Host.Outcome State Fault Refusal :=
  let s := s.modPower (fun p => { p with resetN := { asserted := false, chatter := false } })
  .next { s with dev := { s.dev with resetHeld := false } }

/-- THROTTLE_N_ASSERT. -/
def execThrottleNAssert (s : State) : Host.Outcome State Fault Refusal :=
  .next (s.modPower (fun p => { p with throttleN := { asserted := true, chatter := false } })).throttle

/-- THROTTLE_N_RELEASE. -/
def execThrottleNRelease (s : State) : Host.Outcome State Fault Refusal :=
  .next (s.modPower (fun p => { p with throttleN := { asserted := false, chatter := false } })).throttle

/-- The module is about to be removed (14 R501): every job stops with 0x0907, rails go off, FAULT without a dump. -/
def State.unseated (s : State) : State :=
  let s := (s.endExtest.stopAll 0x0907).railsOff
  (s.objSet 0x1010 4 0x0907).setDev .fault

/-- PRESENT_N_DEASSERT. -/
def execPresentNDeassert (s : State) : Host.Outcome State Fault Refusal :=
  let s := s.modPower (fun p => { p with presentN := { asserted := false, chatter := false } })
  .next (if s.takesReset then s.unseated else s)

/-- PRESENT_N_ASSERT: a power-on target of IDLE that waited can go on. -/
def execPresentNAssert (s : State) : Host.Outcome State Fault Refusal :=
  .next (s.modPower (fun p => { p with presentN := { asserted := true, chatter := false } }))

/-- INPUT_CHATTER (0 RESET_N, 1 THROTTLE_N, 2 PRESENT_N): the input counts as asserted until it has held one level for 1 ms. (log 27, DESIGN CHOICE) -/
def execInputChatter (i : Fin 3) (s : State) : Host.Outcome State Fault Refusal :=
  let pin : PinIn := { asserted := true, chatter := true }
  .next (if s.dev.state = .off then s
    else
      let s := (s.eventD 0x0906 0x7030).bump 0x7030 2 1
      match i.val with
      | 0 => (s.modPower (fun p => { p with resetN := pin })).resetPin
      | 1 => (s.modPower (fun p => { p with throttleN := pin })).throttle
      | _ => s.modPower (fun p => { p with presentN := pin }))

/-- INPUT_HELD: asserted or chattering for 1 s, and every 60 s from then. PRESENT_N asserted is normal operation (14 Table 6). (log 27, DESIGN CHOICE) -/
def execInputHeld (i : Fin 3) (s : State) : Host.Outcome State Fault Refusal :=
  let held := match i.val with
    | 0 => s.power.resetN.asserted || s.power.resetN.chatter
    | 1 => s.power.throttleN.asserted || s.power.throttleN.chatter
    | _ => s.power.presentN.chatter
  .next (if s.dev.state = .off || !held then s else s.eventD 0x0905 0x7030)

/-! ## Boundary scan -/

/-- The TAP takes an instruction; leaving an EXTEST instruction is a warm reset (15 R521). The TAP has no power in OFF. (log 5, PRESUMED) -/
def State.tapLoad (s : State) (t : TapInstr) : State :=
  if s.dev.state = .off then s
  else
    let was := s.extestLoaded
    let s := s.modPower (fun p => { p with tap := t })
    if was && !s.extestLoaded && s.takesReset then s.warm none else s

/-- What the TAP shifts out. (log 5, PRESUMED) -/
def State.shiftOut (s : State) (bits v : Nat) : State := if s.dev.state = .off then s else s.emit (.tdo bits v)

/-- TAP_BYPASS. -/
def execTapBypass (s : State) : Host.Outcome State Fault Refusal := .next ((s.tapLoad .bypass).shiftOut 1 0)

/-- TAP_IDCODE (15 R520). -/
def execTapIdcode (s : State) : Host.Outcome State Fault Refusal := .next ((s.tapLoad .idcode).shiftOut 32 0x10180A3D)

/-- TAP_SAMPLE_PRELOAD: the cells are loaded; what they captured is free. (log 5, PRESUMED) -/
def execTapSamplePreload (cells : Word) (s : State) : Host.Outcome State Fault Refusal :=
  .next (if s.dev.state = .off then s
    else
      let f := ((s.tapLoad .samplePreload).modPower (fun p => { p with boundary := cells })).takeFree
      f.2.shiftOut 64 (f.1 % 2 ^ 64))

/-- An EXTEST instruction is taken only in IDLE with every job FREE; otherwise BYPASS is. -/
def State.extestLoad (s : State) (t : TapInstr) : State :=
  s.tapLoad (if s.dev.state = .idle ∧ s.jobs.toList.all (fun (j : Job) => j.state == .free) = true then t else .bypass)

/-- EXTEST. -/
def execExtest (s : State) : Host.Outcome State Fault Refusal := .next (s.extestLoad .extest)

/-- EXTEST_PULSE. -/
def execExtestPulse (s : State) : Host.Outcome State Fault Refusal := .next (s.extestLoad .extestPulse)

/-- EXTEST_TRAIN. -/
def execExtestTrain (s : State) : Host.Outcome State Fault Refusal := .next (s.extestLoad .extestTrain)

/-- EXTEST_LEAVE: the TAP leaves the instruction for Test-Logic-Reset. (log 5, PRESUMED) -/
def execExtestLeave (s : State) : Host.Outcome State Fault Refusal := .next (if s.extestLoaded then s.tapLoad .idcode else s)

end Sys2Proof.Machine
end

