-- ==== Sys2Proof/Machine/Row.lean ====
section
/-! DEFINITION. The row engine (03 R111; 04 R143, R144; 05 R166 to R169): statistics, apply, backward, part records and the copies of
side-memory slots. -/

namespace Sys2Proof.Machine

/-! ## FP32 steps -/

/-- One FP32 step: round to nearest-even. -/
def FVal.f (v : FVal) : FVal := toF32 v

/-- An FP32 number as bits. -/
def FVal.bits32 (v : FVal) : Nat := fp32.enc .rne v

/-- L2E (05 R166). -/
def l2e : FVal := f32 0x3FB8AA3B

/-- The row engine's copies of table slots 0, 2 and 3: exp2, reciprocal, reciprocal square root (03 R111). -/
def rowExp2 (v : FVal) : FVal := tableEval Core.reset 0 false v
def rowRecip (v : FVal) : FVal := tableEval Core.reset 2 false v
def rowRsqrt (v : FVal) : FVal := tableEval Core.reset 3 false v

/-- An exact sum of values of a format, each with the significand of that format, and of products of FP32 values (03 R106). -/
def sumOf (fmt : Nat) (l : List FVal) : Win := reduceExact (sigWidth fmt) (l.map (fun v => Term.one (Elem.ofIeee (typeFmt fmt) ((typeFmt fmt).enc .rne v))))
def sumProd (l : List (FVal × FVal)) : Win :=
  reduceExact 48 (l.map (fun p => Term.mul (Elem.ofIeee fp32 p.1.bits32) (Elem.ofIeee fp32 p.2.bits32)))

/-- An integer as a number. -/
def natVal (n : Nat) : FVal := .ofInt n 0

/-- exp2((x - m) * L2E), one rounding a step. -/
def expTerm (x m : FVal) : FVal := rowExp2 (((x.add m.neg).f).mul l2e).f

/-! ## The forms -/

/-- Mean and 1/sqrt(var + eps) from exact sums and the count (05 R166, R169). -/
def meanRstd (s1 s2 : FVal) (n : Nat) (eps : FVal) : FVal × FVal :=
  let mean := (s1.div (natVal n)).f
  let var := (((s2.mul (natVal n)).add (s1.mul s1).neg).div (natVal (n * n))).f
  (mean, rowRsqrt (var.add eps).f)

/-- 1/sqrt(mean of squares + eps), and 0. -/
def rrms (s2 : FVal) (n : Nat) (eps : FVal) : FVal × FVal := (rowRsqrt (((s2.div (natVal n)).f).add eps).f, .zero)

/-- Statistics of a row by FUNC: 0 MEAN_RSTD, 1 RRMS, 2 MAX_SUMEXP (05 R166). -/
def rowStat (form fmt : Nat) (x : List FVal) (eps : FVal) : FVal × FVal :=
  let n := x.length
  if x.any (·.isNan) then (.nan, .nan)
  else if form = 0 then meanRstd (sumOf fmt x).val (sumProd (x.zip x)).val n eps
  else if form = 1 then rrms (sumProd (x.zip x)).val n eps
  else
    let mx := x.foldl FVal.max (.inf true)
    if mx = .inf true then (.inf true, .zero)
    else (mx, (sumOf 0 (x.map (fun v => expTerm v mx))).val.f)

/-- The normalised elements of layer or RMS normalisation (05 R166). -/
def rowXh (form : Nat) (x : List FVal) (a b : FVal) : List FVal :=
  if form = 0 then x.map (fun v => (((v.add a.neg).f).mul b).f) else x.map (fun v => (v.mul a).f)

/-- The rows of a normalisation or of softmax (05 R166). -/
def rowApply (form : Nat) (x : List FVal) (a b : FVal) (gain bias : Nat → FVal) : List FVal :=
  if x.any (·.isNan) then x.map (fun _ => .nan)
  else if form = 2 then
    if a = .inf true then x.map (fun _ => .zero)
    else if a = .inf false then x.map (fun _ => .nan)
    else let r := rowRecip b; x.map (fun v => ((expTerm v a).mul r).f)
  else ((rowXh form x a b).zipIdx).map (fun h => (h.1.fma (gain h.2) (bias h.2)).f)

/-- The input gradient of a row (05 R167). -/
def rowBwd (form : Nat) (x dy : List FVal) (a b : FVal) (gain : Option (Nat → FVal)) : List FVal :=
  let n := natVal x.length
  if form = 2 then
    if a = .inf true then x.map (fun _ => .zero)
    else
      let d := (sumProd (x.zip dy)).val.f
      (x.zip dy).map (fun p => (p.1.mul ((p.2.add d.neg).f)).f)
  else
    let xh := rowXh form x a b
    let dxh := match gain with
      | some g => (dy.zipIdx).map (fun p => (p.1.mul (g p.2)).f)
      | none => dy
    let bb := ((sumProd (xh.zip dxh)).val.div n).f
    if form = 0 then
      let aa := ((sumOf 0 dxh).val.div n).f
      (xh.zip dxh).map (fun p => (b.mul ((((p.2.add aa.neg).f).add ((p.1.mul bb).f).neg).f)).f)
    else (xh.zip dxh).map (fun p => (a.mul ((p.2.add ((p.1.mul bb).f).neg).f)).f)

/-! ## Rows and slots -/

/-- The row at an address as numbers. -/
def Core.rowAt (x : Core) (r : RowRec) (a : Nat) : List FVal :=
  (chunks (typeBytes r.fmt) (x.lread a (r.len * typeBytes r.fmt))).map (fun b => (typeFmt r.fmt).decode (leNat b))

/-- A row in its format by RNE. -/
def rowStore (r : RowRec) (l : List FVal) : List Byte := l.flatMap (fun v => leBytes ((typeFmt r.fmt).enc .rne v) (typeBytes r.fmt))

def RowRec.rowLen (r : RowRec) : Nat := r.len * typeBytes r.fmt

/-- The two values of a side-memory slot (03 R111). -/
def Core.slotVals (x : Core) (n : Nat) : FVal × FVal :=
  let v := (tget 0 x.side n).toNat
  (f32 (v % 2 ^ 32), f32 (v / 2 ^ 32))

def Core.setSlot (x : Core) (n : Nat) (v : FVal × FVal) : Core :=
  { x with side := tset 0 x.side n (BitVec.ofNat 64 (v.1.bits32 + 2 ^ 32 * v.2.bits32)) }

/-- An FP32 element of an array. -/
def Core.f32At (x : Core) (a i : Nat) : FVal := f32 (leNat (x.lread (a + 4 * i) 4))

/-- What one row-engine instruction uses of its block: which rows it reads and writes, as byte ranges, and which fields matter. -/
structure RowUse where
  reads : List (Nat × Nat) := []
  writes : List (Nat × Nat) := []
  len : Bool := true
  xPitch : Bool := true
  yPitch : Bool := false
  slots : Nat := 0

/-- The rows of an array with a pitch. -/
def RowRec.rowsAt (r : RowRec) (a pitch n : Nat) : List (Nat × Nat) := (List.range r.rows).map (fun i => (a + i * pitch, n))

/-- The codes of a row-engine instruction (04 R143, R144, 05 R168). A field of the control block that the instruction does not use is not
checked: LEN, FORMAT and X_PITCH for JOIN and the copies of slots, Y_PITCH for ROWSTAT, JOIN and the copies. (log 44, DESIGN CHOICE) -/
def rowCodes (addr : Nat) (b : List Byte) (r : RowRec) (u : RowUse) : List (Bool × Nat) :=
  let okRows := decide (1 ≤ r.rows ∧ r.rows ≤ 8192)
  let okLen := decide (1 ≤ r.len ∧ r.len ≤ 16777216)
  let out := fun (l : List (Nat × Nat)) => l.any (fun p => outside p.1 p.2)
  [(decide (4 ≤ recNat b 47 1) || !recZero b 52 64, 0x02),
   (!okRows || (u.len && (!okLen || decide (2 < r.fmt))), 0x03),
   (decide (addr % 64 ≠ 0) || (u.xPitch && decide (r.xPitch % 64 ≠ 0)) || (u.yPitch && decide (r.yPitch % 64 ≠ 0)), 0x08),
   (outside addr 64 || (okRows && (!u.len || okLen) && (out u.reads || out u.writes)), 0x09),
   (u.slots != 0 && decide (8191 < r.slot + u.slots - 1), 0x0F)]

/-- Issue a row-engine instruction: it reads its control block and the rows that `use` names, and changes the core. The block is read once no
write in flight covers it (03 R103). Of its `funcs` functions the row stands for `func`; a reserved one faults (04 R116). -/
def State.rowIssue (s : State) (c op : Nat) (w : GenFields) (func funcs : Nat) (use : RowRec → RowUse) (eff : RowRec → Core → Core) : State :=
  let x := s.core c
  let a := (x.s w.a.toNat).toNat
  let b := x.lread a 64
  let r := rowRecOf b
  let u := use r
  let w' := withFunc w func funcs
  let fs := if x.conflict a (a + 64) false then [] else codes ((({ a := true } : Uses).bad w', 0x02) :: (decide (funcs ≤ w'.func.toNat), 0x03) :: rowCodes a b r u)
  s.issue c (genWord op w')
    { addrS := [w.a.toNat], faults := fs, reads := if fs.isEmpty then (a, 64) :: u.reads else [(a, 64)]
      stall := if ((a, 64) :: u.reads).any (fun p => x.conflict p.1 (p.1 + p.2) false) || (!u.writes.isEmpty && x.writeStall u.writes)
        then .tracker else .none }
    (coreStep c (eff r))

/-- Apply a change for each row in order. -/
def Core.eachRow (x : Core) (r : RowRec) (f : Core → Nat → Core) : Core := (List.range r.rows).foldl f x

/-- ROWSTAT (04 R144, 05 R166). -/
def execRowstat (c : Fin 144) (w : GenFields) (s : State) : Host.Outcome State Fault Refusal :=
  let f := w.func.toNat
  .next (s.rowIssue c 0x50 w f 3
    (fun r => { reads := r.rowsAt r.x r.xPitch r.rowLen, slots := r.rows })
    (fun r x => x.eachRow r (fun x i => x.setSlot (r.slot + i) (rowStat f r.fmt (x.rowAt r (r.x + i * r.xPitch)) (f32 r.eps)))))

/-- The gain and bias arrays that a form reads. -/
def RowRec.affineRanges (r : RowRec) (form : Nat) : List (Nat × Nat) :=
  (if form < 2 && r.gainEn then [(r.gain, 4 * r.len)] else []) ++ (if form < 2 && r.biasEn then [(r.bias, 4 * r.len)] else [])

/-- Whether any of some ranges is poisoned. -/
def Core.anyPoison (x : Core) (l : List (Nat × Nat)) : Bool := l.any (fun p => x.lpoison p.1 p.2)

/-- ROWAPPLY (04 R144, 05 R166). -/
def execRowapply (c : Fin 144) (w : GenFields) (s : State) : Host.Outcome State Fault Refusal :=
  let f := w.func.toNat
  .next (s.rowIssue c 0x51 w f 3
    (fun r => { reads := r.rowsAt r.x r.xPitch r.rowLen ++ r.affineRanges f, writes := r.rowsAt r.y r.yPitch r.rowLen, yPitch := true, slots := r.rows })
    (fun r x => x.eachRow r (fun x i =>
      let a := r.x + i * r.xPitch
      let sl := x.slotVals (r.slot + i)
      let y := rowApply f (x.rowAt r a) sl.1 sl.2 (fun k => if r.gainEn then x.f32At r.gain k else natVal 1) (fun k => if r.biasEn then x.f32At r.bias k else .zero)
      x.lwrite (r.y + i * r.yPitch) (rowStore r y) (x.anyPoison ((a, r.rowLen) :: r.affineRanges f)))))

/-- A combination that 02 R49 rejects: code 0x80 in ASYNC, as of a tile (04 R123). (log 44, DESIGN CHOICE) -/
def Core.combineOver (x : Core) : Core := { x with async := x.async ||| 1 }

/-- Combine an exact sum into the XA80 value at an address; one that R49 rejects leaves it unchanged. -/
def Core.xaAdd (x : Core) (a : Nat) (v : Win) (poison : Bool) : Core :=
  match combine [Win.ofXa80 (leNat (x.lread a 16)), v] with
  | some r => x.lwrite a (leBytes r.1.xa80 16) (poison || x.lpoison a 16)
  | none => x.combineOver

/-- Misfits of the combinations of a sum into stored values (02 R49). -/
def Core.xaMisfit (x : Core) (a : Nat) (v : Win) : Nat := match combine [Win.ofXa80 (leNat (x.lread a 16)), v] with
  | some r => if r.2 then 1 else 0
  | none => 0

/-- The gain and bias gradient sums over the rows, by element (04 R144, 05 R167): addresses with the sums. -/
def Core.gradSums (x : Core) (r : RowRec) (form : Nat) : List (Nat × Win) :=
  let rows := (List.range r.rows).map (fun i =>
    let sl := x.slotVals (r.slot + i)
    (rowXh form (x.rowAt r (r.x + i * r.xPitch)) sl.1 sl.2, x.rowAt r (r.dy + i * r.xPitch)))
  if form = 2 then []
  else
    (if r.gainEn then (List.range r.len).map (fun k => (r.dgain + 16 * k, sumProd (rows.map (fun p => (p.2.getD k .zero, p.1.getD k .zero))))) else []) ++
    (if r.biasEn then (List.range r.len).map (fun k => (r.dbias + 16 * k, sumOf r.fmt (rows.map (fun p => p.2.getD k .zero)))) else [])

/-- The arrays of gradient sums that a form updates. -/
def RowRec.sumRanges (r : RowRec) (form : Nat) : List (Nat × Nat) :=
  (if form < 2 && r.gainEn then [(r.dgain, 16 * r.len)] else []) ++ (if form < 2 && r.biasEn then [(r.dbias, 16 * r.len)] else [])

/-- What ROWBWD reads besides the gradient sums. -/
def RowRec.bwdReads (r : RowRec) (form : Nat) : List (Nat × Nat) :=
  r.rowsAt r.x r.xPitch r.rowLen ++ r.rowsAt r.dy r.xPitch r.rowLen ++ (if form < 2 && r.gainEn then [(r.gain, 4 * r.len)] else [])

/-- The effect of ROWBWD on a core. -/
def rowBwdEff (f : Nat) (r : RowRec) (x : Core) : Core :=
  let sums := x.gradSums r f
  let bad := x.anyPoison (r.bwdReads f)
  let y := x.eachRow r (fun y i =>
    let a := r.x + i * r.xPitch
    let d := r.dy + i * r.xPitch
    let sl := y.slotVals (r.slot + i)
    let dx := rowBwd f (y.rowAt r a) (y.rowAt r d) sl.1 sl.2 (if r.gainEn then some (fun k => y.f32At r.gain k) else none)
    y.lwrite (r.y + i * r.yPitch) (rowStore r dx) (y.anyPoison ((a, r.rowLen) :: (d, r.rowLen) :: (if f < 2 && r.gainEn then [(r.gain, 4 * r.len)] else []))))
  sums.foldl (fun y p => y.xaAdd p.1 p.2 bad) y

/-- ROWBWD (05 R167). -/
def execRowbwd (c : Fin 144) (w : GenFields) (s : State) : Host.Outcome State Fault Refusal :=
  let f := w.func.toNat
  let x := s.core c
  let r := rowRecOf (x.lread (x.s w.a.toNat).toNat 64)
  let t := s.rowIssue c 0x52 w f 3
    (fun r => { reads := r.bwdReads f ++ r.sumRanges f, writes := r.rowsAt r.y r.yPitch r.rowLen ++ r.sumRanges f, yPitch := true, slots := r.rows })
    (rowBwdEff f)
  .next (if (t.core c).pc = x.pc then t else t.bump 0x3103 5 (((x.gradSums r f).map (fun p => x.xaMisfit p.1 p.2)).sum))

/-- A PART record (04 R144). (log 41, DESIGN CHOICE) -/
def partRecord (fmt : Nat) (l : List FVal) : List Byte :=
  leBytes (sumOf fmt l).xa80 16 ++ leBytes (sumProd (l.zip l)).xa80 16 ++ leBytes l.length 8 ++ leBytes (l.foldl FVal.max (.inf true)).bits32 4 ++
  List.replicate 20 0

/-- ROWCOMB PART (04 R144): the record of row r lies in row r of Y. -/
def execRowcombPart (c : Fin 144) (w : GenFields) (s : State) : Host.Outcome State Fault Refusal :=
  .next (s.rowIssue c 0x53 w 0 2
    (fun r => { reads := r.rowsAt r.x r.xPitch r.rowLen, writes := r.rowsAt r.y r.yPitch 64, yPitch := true })
    (fun r x => x.eachRow r (fun x i =>
      let a := r.x + i * r.xPitch
      x.lwrite (r.y + i * r.yPitch) (partRecord r.fmt (x.rowAt r a)) (x.lpoison a r.rowLen))))

/-- The slot that JOIN writes from part records (04 R144, 05 R169): none when R49 rejects the combination. JOIN knows RMS statistics by the
windows of the sums of x, which software has then set to zero in every record; a layer row whose sums of x are zero in every part looks the
same. (log 41, DESIGN CHOICE) -/
def joinSlot (recs : List (List Byte)) (eps : FVal) : Option (FVal × FVal) × Nat :=
  let s1 := recs.map (fun b => Win.ofXa80 (recNat b 0 16))
  let s2 := recs.map (fun b => Win.ofXa80 (recNat b 16 16))
  let n := (recs.map (fun b => recNat b 32 8)).sum
  match combine s1, combine s2 with
  | some a, some b =>
    let m := (if a.2 then 1 else 0) + (if b.2 then 1 else 0)
    if a.1.nan || b.1.nan then (some (.nan, .nan), m)
    else if s1.all (fun v => v.w == 0) then (some (rrms b.1.val n eps), m)
    else (some (meanRstd a.1.val b.1.val n eps), m)
  | _, _ => (none, 0)

/-- ROWCOMB JOIN (04 R144, 05 R169). -/
def execRowcombJoin (c : Fin 144) (w : GenFields) (s : State) : Host.Outcome State Fault Refusal :=
  let x := s.core c
  let r := rowRecOf (x.lread (x.s w.a.toNat).toNat 64)
  let recs := chunks 64 (x.lread r.y (64 * r.rows))
  let j := joinSlot recs (f32 r.eps)
  let t := s.rowIssue c 0x53 w 1 2
    (fun r => { reads := [(r.y, 64 * r.rows)], len := false, xPitch := false, slots := 1 })
    (fun r x => match j.1 with
      | some v => x.setSlot r.slot v
      | none => x.combineOver)
  .next (if (t.core c).pc = x.pc then t else t.bump 0x3103 5 j.2)

/-- ROWSV SAVE (04 R144). (log 8, DESIGN CHOICE) -/
def execRowsvSave (c : Fin 144) (w : GenFields) (s : State) : Host.Outcome State Fault Refusal :=
  .next (s.rowIssue c 0x54 w 0 2
    (fun r => { writes := [(r.x, 8 * r.rows)], len := false, xPitch := false, slots := r.rows })
    (fun r x => x.lwrite r.x ((List.range r.rows).flatMap (fun i => leBytes (tget 0 x.side (r.slot + i)).toNat 8)) false))

/-- ROWSV RESTORE (04 R144). -/
def execRowsvRestore (c : Fin 144) (w : GenFields) (s : State) : Host.Outcome State Fault Refusal :=
  .next (s.rowIssue c 0x54 w 1 2
    (fun r => { reads := [(r.x, 8 * r.rows)], len := false, xPitch := false, slots := r.rows })
    (fun r x => (List.range r.rows).foldl (fun x i => { x with side := tset 0 x.side (r.slot + i) (BitVec.ofNat 64 (leNat (x.lread (r.x + 8 * i) 8))) }) x))

end Sys2Proof.Machine
end

