-- ==== Sys2Proof/Machine/Dispatch.lean ====
section
/-! DEFINITION. The one match that gives every command of the table to its meaning. -/

namespace Sys2Proof.Machine

/-- The effect of a command on everything but the queue of waiting commands. -/
def exec (i : Instr) (s : State) : Host.Outcome State Fault Refusal :=
  match i with
  | .salu c w => Sys2Proof.Machine.execSalu c w s
  | .salui c w => Sys2Proof.Machine.execSalui c w s
  | .sli c w => Sys2Proof.Machine.execSli c w s
  | .sfp c w => Sys2Proof.Machine.execSfp c w s
  | .sld c w => Sys2Proof.Machine.execSld c w s
  | .sst c w => Sys2Proof.Machine.execSst c w s
  | .scsrRead c w => Sys2Proof.Machine.execScsrRead c w s
  | .scsrReadAndClear c w => Sys2Proof.Machine.execScsrReadAndClear c w s
  | .br c w => Sys2Proof.Machine.execBr c w s
  | .jal c w => Sys2Proof.Machine.execJal c w s
  | .jr c w => Sys2Proof.Machine.execJr c w s
  | .nop c w => Sys2Proof.Machine.execNop c w s
  | .halt c w => Sys2Proof.Machine.execHalt c w s
  | .haltComplete c => Sys2Proof.Machine.execHaltComplete c s
  | .illegalOpcode c word => Sys2Proof.Machine.execIllegalOpcode c word s
  | .vfp c w residue => Sys2Proof.Machine.execVfp c w residue s
  | .vint c w => Sys2Proof.Machine.execVint c w s
  | .vcmp c w => Sys2Proof.Machine.execVcmp c w s
  | .vcvt c w => Sys2Proof.Machine.execVcvt c w s
  | .vperm c w => Sys2Proof.Machine.execVperm c w s
  | .vred c w => Sys2Proof.Machine.execVred c w s
  | .vld c w => Sys2Proof.Machine.execVld c w s
  | .vst c w => Sys2Proof.Machine.execVst c w s
  | .vbcast c w => Sys2Proof.Machine.execVbcast c w s
  | .vmovs c w => Sys2Proof.Machine.execVmovs c w s
  | .plog c w => Sys2Proof.Machine.execPlog c w s
  | .vgather c w => Sys2Proof.Machine.execVgather c w s
  | .vscatterStore c w => Sys2Proof.Machine.execVscatterStore c w s
  | .vscatterAdd c w => Sys2Proof.Machine.execVscatterAdd c w s
  | .vtbl c w => Sys2Proof.Machine.execVtbl c w s
  | .tblld c w => Sys2Proof.Machine.execTblld c w s
  | .tile c t => Sys2Proof.Machine.execTile c t s
  | .stld c w => Sys2Proof.Machine.execStld c w s
  | .swap c w => Sys2Proof.Machine.execSwap c w s
  | .epi c w => Sys2Proof.Machine.execEpi c w s
  | .accfree c w => Sys2Proof.Machine.execAccfree c w s
  | .accwait c w => Sys2Proof.Machine.execAccwait c w s
  | .accrd c w => Sys2Proof.Machine.execAccrd c w s
  | .rowstat c w => Sys2Proof.Machine.execRowstat c w s
  | .rowapply c w => Sys2Proof.Machine.execRowapply c w s
  | .rowbwd c w => Sys2Proof.Machine.execRowbwd c w s
  | .rowcombPart c w => Sys2Proof.Machine.execRowcombPart c w s
  | .rowcombJoin c w => Sys2Proof.Machine.execRowcombJoin c w s
  | .rowsvSave c w => Sys2Proof.Machine.execRowsvSave c w s
  | .rowsvRestore c w => Sys2Proof.Machine.execRowsvRestore c w s
  | .dmaq c w => Sys2Proof.Machine.execDmaq c w s
  | .gld c w => Sys2Proof.Machine.execGld c w s
  | .gst c w => Sys2Proof.Machine.execGst c w s
  | .regionLinear c w => Sys2Proof.Machine.execRegionLinear c w s
  | .regionDiagonal c w => Sys2Proof.Machine.execRegionDiagonal c w s
  | .regionDisable c w => Sys2Proof.Machine.execRegionDisable c w s
  | .cadd c w => Sys2Proof.Machine.execCadd c w s
  | .crd c w => Sys2Proof.Machine.execCrd c w s
  | .cwait c w => Sys2Proof.Machine.execCwait c w s
  | .csig c w => Sys2Proof.Machine.execCsig c w s
  | .barrive c w => Sys2Proof.Machine.execBarrive c w s
  | .barwait c w => Sys2Proof.Machine.execBarwait c w s
  | .fenceLocal c w => Sys2Proof.Machine.execFenceLocal c w s
  | .fenceGlobal c w => Sys2Proof.Machine.execFenceGlobal c w s
  | .fenceAll c w => Sys2Proof.Machine.execFenceAll c w s
  | .fenceRelease c => Sys2Proof.Machine.execFenceRelease c s
  | .tgb c w => Sys2Proof.Machine.execTgb c w s
  | .snapshotWriteComplete c => Sys2Proof.Machine.execSnapshotWriteComplete c s
  | .groupBoundaryClose c => Sys2Proof.Machine.execGroupBoundaryClose c s
  | .assay c w => Sys2Proof.Machine.execAssay c w s
  | .brk c w => Sys2Proof.Machine.execBrk c w s
  | .trap c w => Sys2Proof.Machine.execTrap c w s
  | .brkResume n => Sys2Proof.Machine.execBrkResume n s
  | .cwaitSatisfied c => Sys2Proof.Machine.execCwaitSatisfied c s
  | .cwaitLimitExpiry c => Sys2Proof.Machine.execCwaitLimitExpiry c s
  | .barwaitRelease c => Sys2Proof.Machine.execBarwaitRelease c s
  | .barwaitLimitExpiry c => Sys2Proof.Machine.execBarwaitLimitExpiry c s
  | .accwaitRelease c => Sys2Proof.Machine.execAccwaitRelease c s
  | .tileEnterArray c residue => Sys2Proof.Machine.execTileEnterArray c residue s
  | .stationaryLoadComplete c => Sys2Proof.Machine.execStationaryLoadComplete c s
  | .columnFoldComplete c => Sys2Proof.Machine.execColumnFoldComplete c s
  | .tileAccumulationComplete c => Sys2Proof.Machine.execTileAccumulationComplete c s
  | .epilogueDrainStart c => Sys2Proof.Machine.execEpilogueDrainStart c s
  | .epilogueDrainComplete c => Sys2Proof.Machine.execEpilogueDrainComplete c s
  | .dmaCopy c e => Sys2Proof.Machine.execDmaCopy c e s
  | .dmaGather c e => Sys2Proof.Machine.execDmaGather c e s
  | .dmaScatter c e => Sys2Proof.Machine.execDmaScatter c e s
  | .dmaScatterAdd c e => Sys2Proof.Machine.execDmaScatterAdd c e s
  | .dmaWindow c e => Sys2Proof.Machine.execDmaWindow c e s
  | .dmaAtomic c e => Sys2Proof.Machine.execDmaAtomic c e s
  | .dmaScan c e => Sys2Proof.Machine.execDmaScan c e s
  | .dmaCombine c e => Sys2Proof.Machine.execDmaCombine c e s
  | .dmaComplete c e seq => Sys2Proof.Machine.execDmaComplete c e seq s
  | .memorySideRequest r => Sys2Proof.Machine.execMemorySideRequest r s
  | .adderLineIdleWriteback line => Sys2Proof.Machine.execAdderLineIdleWriteback line s
  | .patrolScrub line sector ecc => Sys2Proof.Machine.execPatrolScrub line sector ecc s
  | .driftCheck k => Sys2Proof.Machine.execDriftCheck k s
  | .retrainRequest v => Sys2Proof.Machine.execRetrainRequest v s
  | .retrainWindowOpen k => Sys2Proof.Machine.execRetrainWindowOpen k s
  | .retrainSliceStart k => Sys2Proof.Machine.execRetrainSliceStart k s
  | .retrainSliceEnd k => Sys2Proof.Machine.execRetrainSliceEnd k s
  | .retrainComplete k badPins ok => Sys2Proof.Machine.execRetrainComplete k badPins ok s
  | .retrainWindowClose k => Sys2Proof.Machine.execRetrainWindowClose k s
  | .laneRewriteComplete k pc => Sys2Proof.Machine.execLaneRewriteComplete k pc s
  | .stackEnterTest k => Sys2Proof.Machine.execStackEnterTest k s
  | .stackLeaveTest k => Sys2Proof.Machine.execStackLeaveTest k s
  | .stackZeroFillComplete k => Sys2Proof.Machine.execStackZeroFillComplete k s
  | .trafficGeneratorStart => Sys2Proof.Machine.execTrafficGeneratorStart s
  | .trafficGeneratorStop => Sys2Proof.Machine.execTrafficGeneratorStop s
  | .trafficGeneratorDone rate results => Sys2Proof.Machine.execTrafficGeneratorDone rate results s
  | .stackSelfRefreshEntry k => Sys2Proof.Machine.execStackSelfRefreshEntry k s
  | .stackWake k => Sys2Proof.Machine.execStackWake k s
  | .tunModeWrite q t mode => Sys2Proof.Machine.execTunModeWrite q t mode s
  | .tunModeSwitchComplete q => Sys2Proof.Machine.execTunModeSwitchComplete q s
  | .combiningIdleFlush q line => Sys2Proof.Machine.execCombiningIdleFlush q line s
  | .tunSliceSleep q t => Sys2Proof.Machine.execTunSliceSleep q t s
  | .tunSliceWake q t => Sys2Proof.Machine.execTunSliceWake q t s
  | .bar2Read off len ecc => Sys2Proof.Machine.execBar2Read off len ecc s
  | .bar2Write off data ep => Sys2Proof.Machine.execBar2Write off data ep s
  | .portEnableWrite p on => Sys2Proof.Machine.execPortEnableWrite p on s
  | .portRetrain p => Sys2Proof.Machine.execPortRetrain p s
  | .portTakeDown p => Sys2Proof.Machine.execPortTakeDown p s
  | .portAdopt p => Sys2Proof.Machine.execPortAdopt p s
  | .portCreditAudit p report => Sys2Proof.Machine.execPortCreditAudit p report s
  | .farEndDetect p => Sys2Proof.Machine.execFarEndDetect p s
  | .linkTrainingComplete p badLanes => Sys2Proof.Machine.execLinkTrainingComplete p badLanes s
  | .neighbourCardReceived p card => Sys2Proof.Machine.execNeighbourCardReceived p card s
  | .cardResend p => Sys2Proof.Machine.execCardResend p s
  | .portDownRetry p => Sys2Proof.Machine.execPortDownRetry p s
  | .codewordReceived p n fixes packets => Sys2Proof.Machine.execCodewordReceived p n fixes packets s
  | .codewordUncorrectable p n => Sys2Proof.Machine.execCodewordUncorrectable p n s
  | .linkAckReceived p n => Sys2Proof.Machine.execLinkAckReceived p n s
  | .linkNackReceived p n => Sys2Proof.Machine.execLinkNackReceived p n s
  | .creditReturn p vc n => Sys2Proof.Machine.execCreditReturn p vc n s
  | .laneFailure p lane => Sys2Proof.Machine.execLaneFailure p lane s
  | .swapRequest p ask => Sys2Proof.Machine.execSwapRequest p ask s
  | .swapMarker p lane => Sys2Proof.Machine.execSwapMarker p lane s
  | .marginCheck p margins => Sys2Proof.Machine.execMarginCheck p margins s
  | .linkLost p => Sys2Proof.Machine.execLinkLost p s
  | .handoffExchange p last => Sys2Proof.Machine.execHandoffExchange p last s
  | .packetTransmit p vc => Sys2Proof.Machine.execPacketTransmit p vc s
  | .packetForward p pkt => Sys2Proof.Machine.execPacketForward p pkt s
  | .writePacket via pkt => Sys2Proof.Machine.execWritePacket via pkt s
  | .maskedWrite via pkt => Sys2Proof.Machine.execMaskedWrite via pkt s
  | .readPacket via pkt => Sys2Proof.Machine.execReadPacket via pkt s
  | .atomicPacket via pkt => Sys2Proof.Machine.execAtomicPacket via pkt s
  | .signalPacket via pkt => Sys2Proof.Machine.execSignalPacket via pkt s
  | .collData via pkt => Sys2Proof.Machine.execCollData via pkt s
  | .collReady via pkt => Sys2Proof.Machine.execCollReady via pkt s
  | .collAbort via pkt => Sys2Proof.Machine.execCollAbort via pkt s
  | .syncArrive via pkt => Sys2Proof.Machine.execSyncArrive via pkt s
  | .syncRelease via pkt => Sys2Proof.Machine.execSyncRelease via pkt s
  | .syncOrphan via pkt => Sys2Proof.Machine.execSyncOrphan via pkt s
  | .writeAck via pkt => Sys2Proof.Machine.execWriteAck via pkt s
  | .readData via pkt => Sys2Proof.Machine.execReadData via pkt s
  | .atomicResp via pkt => Sys2Proof.Machine.execAtomicResp via pkt s
  | .signalAck via pkt => Sys2Proof.Machine.execSignalAck via pkt s
  | .collAck via pkt => Sys2Proof.Machine.execCollAck via pkt s
  | .syncAck via pkt => Sys2Proof.Machine.execSyncAck via pkt s
  | .nack via pkt => Sys2Proof.Machine.execNack via pkt s
  | .responseTimeout tag => Sys2Proof.Machine.execResponseTimeout tag s
  | .spargeStart => Sys2Proof.Machine.execSpargeStart s
  | .spargeDrained => Sys2Proof.Machine.execSpargeDrained s
  | .spargeTimeout => Sys2Proof.Machine.execSpargeTimeout s
  | .tableCommit => Sys2Proof.Machine.execTableCommit s
  | .coordinateWrite v => Sys2Proof.Machine.execCoordinateWrite v s
  | .d2dLaneFailure l => Sys2Proof.Machine.execD2dLaneFailure l s
  | .d2dLinkLoss l => Sys2Proof.Machine.execD2dLinkLoss l s
  | .syncAllocAssign i1 => Sys2Proof.Machine.execSyncAllocAssign i1 s
  | .syncAllocFree i1 => Sys2Proof.Machine.execSyncAllocFree i1 s
  | .barrierSetupConfigure i1 => Sys2Proof.Machine.execBarrierSetupConfigure i1 s
  | .barrierSetupFree i1 => Sys2Proof.Machine.execBarrierSetupFree i1 s
  | .jobSetup i1 => Sys2Proof.Machine.execJobSetup i1 s
  | .collective i1 => Sys2Proof.Machine.execCollective i1 s
  | .allReduce opid => Sys2Proof.Machine.execAllReduce opid s
  | .reduceScatter opid => Sys2Proof.Machine.execReduceScatter opid s
  | .allGather opid => Sys2Proof.Machine.execAllGather opid s
  | .normSum opid => Sys2Proof.Machine.execNormSum opid s
  | .maxIndex opid => Sys2Proof.Machine.execMaxIndex opid s
  | .collectiveComplete opid => Sys2Proof.Machine.execCollectiveComplete opid s
  | .auditRun => Sys2Proof.Machine.execAuditRun s
  | .kiln i1 => Sys2Proof.Machine.execKiln i1 s
  | .kilnUpdate k id => Sys2Proof.Machine.execKilnUpdate k id s
  | .kilnNorm k id => Sys2Proof.Machine.execKilnNorm k id s
  | .kilnDescriptorComplete id => Sys2Proof.Machine.execKilnDescriptorComplete id s
  | .stepOpen i1 => Sys2Proof.Machine.execStepOpen i1 s
  | .stepEnd i1 => Sys2Proof.Machine.execStepEnd i1 s
  | .computeEnd => Sys2Proof.Machine.execComputeEnd s
  | .quarterGateReport q => Sys2Proof.Machine.execQuarterGateReport q s
  | .fingerprintRecord record => Sys2Proof.Machine.execFingerprintRecord record s
  | .checkDeadlineExpiry => Sys2Proof.Machine.execCheckDeadlineExpiry s
  | .commitVoteResult => Sys2Proof.Machine.execCommitVoteResult s
  | .voteTimeout => Sys2Proof.Machine.execVoteTimeout s
  | .rollbackComplete damaged => Sys2Proof.Machine.execRollbackComplete damaged s
  | .guestRequest src step last records => Sys2Proof.Machine.execGuestRequest src step last records s
  | .guestDigestReturned ud od => Sys2Proof.Machine.execGuestDigestReturned ud od s
  | .guestDecline => Sys2Proof.Machine.execGuestDecline s
  | .assayTileStart c => Sys2Proof.Machine.execAssayTileStart c s
  | .assayTileComplete c => Sys2Proof.Machine.execAssayTileComplete c s
  | .assayAbandon c => Sys2Proof.Machine.execAssayAbandon c s
  | .profileWrite mem v => Sys2Proof.Machine.execProfileWrite mem v s
  | .coreFaultDetected c cause => Sys2Proof.Machine.execCoreFaultDetected c cause s
  | .coreReplacementResume c => Sys2Proof.Machine.execCoreReplacementResume c s
  | .retireCommand v => Sys2Proof.Machine.execRetireCommand v s
  | .clearRetiredList => Sys2Proof.Machine.execClearRetiredList s
  | .watchdogExpiry u => Sys2Proof.Machine.execWatchdogExpiry u s
  | .commandTimeout i1 n => Sys2Proof.Machine.execCommandTimeout i1 n s
  | .chronographDump => Sys2Proof.Machine.execChronographDump s
  | .chronographUnitTimeout kind num => Sys2Proof.Machine.execChronographUnitTimeout kind num s
  | .rackingBlockCopy b => Sys2Proof.Machine.execRackingBlockCopy b s
  | .priorityCopy b => Sys2Proof.Machine.execPriorityCopy b s
  | .rackingSumsReceived src epoch snap serial sums dirs => Sys2Proof.Machine.execRackingSumsReceived src epoch snap serial sums dirs s
  | .epochSealed report => Sys2Proof.Machine.execEpochSealed report s
  | .restoreCommand v => Sys2Proof.Machine.execRestoreCommand v s
  | .restoreComplete ok => Sys2Proof.Machine.execRestoreComplete ok s
  | .healthRestoreTick => Sys2Proof.Machine.execHealthRestoreTick s
  | .expulsionBudgetWrite v => Sys2Proof.Machine.execExpulsionBudgetWrite v s
  | .selfExpulsion => Sys2Proof.Machine.execSelfExpulsion s
  | .clearExpelled => Sys2Proof.Machine.execClearExpelled s
  | .drillCoreHang c => Sys2Proof.Machine.execDrillCoreHang c s
  | .drillLaneDrop p lane => Sys2Proof.Machine.execDrillLaneDrop p lane s
  | .drillPoison line => Sys2Proof.Machine.execDrillPoison line s
  | .drillFalseAssay c => Sys2Proof.Machine.execDrillFalseAssay c s
  | .resetReinit => Sys2Proof.Machine.execResetReinit s
  | .warmReset => Sys2Proof.Machine.execWarmReset s
  | .powerCycle => Sys2Proof.Machine.execPowerCycle s
  | .warmResetComplete lost => Sys2Proof.Machine.execWarmResetComplete lost s
  | .pcieReset => Sys2Proof.Machine.execPcieReset s
  | .d3hotEntry => Sys2Proof.Machine.execD3hotEntry s
  | .pcieLinkLoss => Sys2Proof.Machine.execPcieLinkLoss s
  | .doorbellTailWrite i1 v => Sys2Proof.Machine.execDoorbellTailWrite i1 v s
  | .compHeadWrite i1 v => Sys2Proof.Machine.execCompHeadWrite i1 v s
  | .controlRetry i1 => Sys2Proof.Machine.execControlRetry i1 s
  | .controlSkip i1 => Sys2Proof.Machine.execControlSkip i1 s
  | .controlFlush i1 => Sys2Proof.Machine.execControlFlush i1 s
  | .streamConfigWrite i1 cfg => Sys2Proof.Machine.execStreamConfigWrite i1 cfg s
  | .streamEnable i1 => Sys2Proof.Machine.execStreamEnable i1 s
  | .streamDisable i1 => Sys2Proof.Machine.execStreamDisable i1 s
  | .launch i1 => Sys2Proof.Machine.execLaunch i1 s
  | .marker i1 => Sys2Proof.Machine.execMarker i1 s
  | .hostCopy i1 fail => Sys2Proof.Machine.execHostCopy i1 fail s
  | .reservedCommand i1 => Sys2Proof.Machine.execReservedCommand i1 s
  | .commandComplete i1 n => Sys2Proof.Machine.execCommandComplete i1 n s
  | .interruptModerationTimeout i1 => Sys2Proof.Machine.execInterruptModerationTimeout i1 s
  | .jobStop j => Sys2Proof.Machine.execJobStop j s
  | .jobRelease j => Sys2Proof.Machine.execJobRelease j s
  | .mailboxSubmit v => Sys2Proof.Machine.execMailboxSubmit v s
  | .mailboxReadyClear => Sys2Proof.Machine.execMailboxReadyClear s
  | .fynenRead t m => Sys2Proof.Machine.execFynenRead t m s
  | .fynenWrite t m => Sys2Proof.Machine.execFynenWrite t m s
  | .fynenDescribe t m => Sys2Proof.Machine.execFynenDescribe t m s
  | .fynenEventAck t m => Sys2Proof.Machine.execFynenEventAck t m s
  | .eventResend seq => Sys2Proof.Machine.execEventResend seq s
  | .objectWrite o m value => Sys2Proof.Machine.execObjectWrite o m value s
  | .stateRequestStandby => Sys2Proof.Machine.execStateRequestStandby s
  | .stateRequestIdle => Sys2Proof.Machine.execStateRequestIdle s
  | .stateRequestRun => Sys2Proof.Machine.execStateRequestRun s
  | .drainQuiet => Sys2Proof.Machine.execDrainQuiet s
  | .drainTimeout => Sys2Proof.Machine.execDrainTimeout s
  | .configSeal => Sys2Proof.Machine.execConfigSeal s
  | .islandPowerUp mgmtId ok => Sys2Proof.Machine.execIslandPowerUp mgmtId ok s
  | .romBoot rpmb loadOk stackOk coreOk => Sys2Proof.Machine.execRomBoot rpmb loadOk stackOk coreOk s
  | .imageSessionOpen t v => Sys2Proof.Machine.execImageSessionOpen t v s
  | .imageSlotData t data => Sys2Proof.Machine.execImageSlotData t data s
  | .imageCommit t => Sys2Proof.Machine.execImageCommit t s
  | .imageVerifyComplete x => Sys2Proof.Machine.execImageVerifyComplete x s
  | .ownershipRegister rec => Sys2Proof.Machine.execOwnershipRegister rec s
  | .ownershipTransfer rec => Sys2Proof.Machine.execOwnershipTransfer rec s
  | .ownershipRelease rec => Sys2Proof.Machine.execOwnershipRelease rec s
  | .keyInstall rec => Sys2Proof.Machine.execKeyInstall rec s
  | .attestationNonce nonce => Sys2Proof.Machine.execAttestationNonce nonce s
  | .inputApplied i1 volts => Sys2Proof.Machine.execInputApplied i1 volts s
  | .inputUndervoltage i1 volts => Sys2Proof.Machine.execInputUndervoltage i1 volts s
  | .inputUndervoltageRecovery i1 volts => Sys2Proof.Machine.execInputUndervoltageRecovery i1 volts s
  | .inputOvervoltage i1 volts => Sys2Proof.Machine.execInputOvervoltage i1 volts s
  | .inputOvervoltageRecovery i1 volts => Sys2Proof.Machine.execInputOvervoltageRecovery i1 volts s
  | .inputReverseCurrent i1 => Sys2Proof.Machine.execInputReverseCurrent i1 s
  | .bothInputsLost => Sys2Proof.Machine.execBothInputsLost s
  | .railOutOfRegulation r => Sys2Proof.Machine.execRailOutOfRegulation r s
  | .fabRefclkLoss => Sys2Proof.Machine.execFabRefclkLoss s
  | .pcieRefclkLoss => Sys2Proof.Machine.execPcieRefclkLoss s
  | .pcieRefclkReturn => Sys2Proof.Machine.execPcieRefclkReturn s
  | .crystalCheck good => Sys2Proof.Machine.execCrystalCheck good s
  | .coreSleepEntry c => Sys2Proof.Machine.execCoreSleepEntry c s
  | .fuseeGrant => Sys2Proof.Machine.execFuseeGrant s
  | .corePllLock c => Sys2Proof.Machine.execCorePllLock c s
  | .powerLimitWindow watts => Sys2Proof.Machine.execPowerLimitWindow watts s
  | .thermalStepTick q => Sys2Proof.Machine.execThermalStepTick q s
  | .sensorReading junction stackTemps => Sys2Proof.Machine.execSensorReading junction stackTemps s
  | .resetNAssert heldMs => Sys2Proof.Machine.execResetNAssert heldMs s
  | .resetNRelease => Sys2Proof.Machine.execResetNRelease s
  | .throttleNAssert => Sys2Proof.Machine.execThrottleNAssert s
  | .throttleNRelease => Sys2Proof.Machine.execThrottleNRelease s
  | .presentNDeassert => Sys2Proof.Machine.execPresentNDeassert s
  | .presentNAssert => Sys2Proof.Machine.execPresentNAssert s
  | .inputChatter i1 => Sys2Proof.Machine.execInputChatter i1 s
  | .inputHeld i1 => Sys2Proof.Machine.execInputHeld i1 s
  | .tapBypass => Sys2Proof.Machine.execTapBypass s
  | .tapIdcode => Sys2Proof.Machine.execTapIdcode s
  | .tapSamplePreload cells => Sys2Proof.Machine.execTapSamplePreload cells s
  | .extest => Sys2Proof.Machine.execExtest s
  | .extestPulse => Sys2Proof.Machine.execExtestPulse s
  | .extestTrain => Sys2Proof.Machine.execExtestTrain s
  | .extestLeave => Sys2Proof.Machine.execExtestLeave s
  | .neighborDiscovery target => Sys2Proof.Machine.execNeighborDiscovery target s
  | .fynenFormatError t raw => Sys2Proof.Machine.execFynenFormatError t raw s
  | .barWriteDiscarded off data => Sys2Proof.Machine.execBarWriteDiscarded off data s
  | .d0Return => Sys2Proof.Machine.execD0Return s
  | .pcieLinkUp => Sys2Proof.Machine.execPcieLinkUp s

end Sys2Proof.Machine
end

