-- ==== Sys2Proof/Machine/Step.lean ====
section
/-! DEFINITION. One step: the command at the front of the queue. -/

namespace Sys2Proof.Machine

/-- The oldest request that waited for a retraining slice to end is served, once its channels are online (06 R214). (log 1, DESIGN CHOICE; log 47, DESIGN CHOICE) -/
def State.serveWaiting (s : State) : State := match firstReady s.chanOffline s.mem.deferred [] with
  | none => s
  | some d => match exec d.1 (s.modMem (fun m => { m with deferred := m.deferred.erase d, serving := true })) with
    | .next t => t.modMem (fun m => { m with serving := false })
    | _ => s

/-- What happens when no command waits: a request that waited for a retraining slice is served (06 R214), a COMMIT in progress completes (10 R363), and a
self-expulsion that waited for the open step goes on (11 R421), and a throttle interval passes (08 R297); otherwise the block idles. (log 1, DESIGN CHOICE) -/
def State.tick (s : State) : State := s.serveWaiting.finishCommit.finishExpulsion.nextInterval

/-- One step takes the command at the front of the queue and runs it on the state with the rest of the queue. (log 1, DESIGN CHOICE) -/
def step (s : State) : Host.Outcome State Fault Refusal :=
  match s.pending with
  | [] => .next s.tick
  | c :: r => exec c { s with pending := r }

/-- The state with the command that a word spells put at the front of the queue; a word that spells none changes nothing. (log 2, DESIGN CHOICE) -/
def State.withFetchWord (s : State) (nbits w : Nat) : State :=
  match decodeTableWord nbits w with
  | some c => { s with pending := c :: s.pending }
  | none => s

end Sys2Proof.Machine
end

