-- ==== Sys2Proof/Safety.lean ====
section
/-! DEFINITION. What the statements say of a state: when a core takes an instruction, what a clean core is, and the properties that every step keeps. -/

namespace Sys2Proof.Machine

/-- The command answers a next state that satisfies a property. -/
def Runs (i : Instr) (s : State) (p : State → Prop) : Prop := ∃ t, exec i s = .next t ∧ p t

/-- A core takes its next instruction (03 R107, 04 R115, R122): its program runs, it waits for nothing, it is awake and not fenced, and its
instruction line lies in the instruction cache or in an assigned window, where no channel makes it wait and the fetch finds it clean. -/
def State.ready (s : State) (c : Nat) : Prop :=
  (s.core c).run = .running ∧ (s.core c).wait = .none ∧ (s.core c).sleep = .awake ∧ (s.core c).fenced = false ∧
  ((s.core c).cachedFetch = true ∨
    (((localForm (s.core c).pc.toNat).bind s.home).isSome = true ∧ s.fetchWaits c = false ∧ ((s.fetch c).line (s.core c).fetchLine).2 = false))

/-- No register and no local line of a core is poisoned (03 R104). -/
def Core.clean (x : Core) : Prop := x.sPoison = 0 ∧ x.vPoison = Vector.replicate 32 0 ∧ x.lPoison = []

/-- A core that takes an instruction and is clean. -/
def State.fresh (s : State) (c : Nat) : Prop := s.ready c ∧ (s.core c).clean

/-- No memory error has arisen that an access could meet, and none is known that one would correct (06 R203, R204, R207). -/
def State.errorFree (s : State) : Prop :=
  s.mem.errors = [] ∧ s.mem.hidden = [] ∧ ∀ k, k < 12 → (s.stack k).eccCovered = [] ∧ (s.stack k).rewriting = []

/-- No access of a core's tiles is in flight. -/
def Core.idleRanges (x : Core) : Prop := x.ranges = []

/-- Fynen takes a write of a member in the present state (12 R446, R457). -/
def State.answers (s : State) (o m : Nat) : Prop := s.fynenSilent = false ∧ s.writeStop o m = 0

/-- The newest event of the log (12 R456). -/
def State.logged (t : State) (code obj detail : Nat) : Prop :=
  ∃ e r, t.fynen.log = e :: r ∧ e.code = BitVec.ofNat 16 code ∧ e.obj = BitVec.ofNat 16 obj ∧ e.detail = BitVec.ofNat 64 detail

/-- Two states differ at most in what an event touches: the log and its messages, MSI-X, the outputs and the count of free values. -/
def State.alike (s t : State) : Prop := { t with fynen := s.fynen, host := s.host, out := s.out, free := s.free } = s

/-- The next command of a stream has this opcode, may start and has a good header (12 R435, R440), and no open step records it (10 R366). -/
def State.starts (s : State) (i : Fin 64) (n : NextCmd) (op : Nat) (used : List (Nat × Nat)) : Prop :=
  s.nextCmd i = some n ∧ s.mayStart i n = true ∧ n.op = op ∧ s.headerCodes i n used = [] ∧
  ((s.stream i).job = s.gatedJob → s.esc.phase = .compute → n.replay = true)

/-- The command as it stands among those in progress. -/
def NextCmd.run (n : NextCmd) (detail : Nat) : CmdRun :=
  { count := n.count, raw := n.raw, cores := [], ops := [], remoteErr := false, detail := BitVec.ofNat 64 detail, replay := n.replay }

/-- The command has been taken and is in progress with this DETAIL; every other stream is as it was. -/
def State.began (s t : State) (i : Fin 64) (n : NextCmd) (detail : Nat) : Prop :=
  (∀ j, j < 64 → j ≠ i.val → t.stream j = s.stream j) ∧ t.stream i = { (s.takeCmd i n).stream i with progress := (t.stream i).progress } ∧
  (t.stream i).progress.getLast? = some (n.run detail)

/-- The command has been taken, its record read, and rejected with a code. -/
def State.rejects (s : State) (i : Fin 64) (n : NextCmd) (code : Nat) : State :=
  ((s.touchRecord n.bytes).takeCmd i n).endCommand i (n.run 0) (plainDone n.count 1 (BitVec.ofNat 16 code) 0)

/-- Every share of the ledger has room for 8 KiB more (10 R367), and every stack takes accesses (06 R216). -/
def State.roomy (s : State) : Prop := ∀ k, k < 12 → s.shareUsed k + 8192 ≤ s.shareSize ∧ s.stackOut k = false

/-- Every line of some byte ranges is a clean line of HBM. -/
def State.cleanHbm (s : State) (l : List (Nat × Nat)) : Prop := ∀ ln ∈ linesOf l, (∃ k, k < 12 ∧ s.home (64 * ln) = some (.hbm k)) ∧ (s.line ln).2 = false

/-- A Fynen request reaches the device: on the segment, or as the request in the mailbox (12 R449, R455). -/
def State.receives (s : State) (tr : Transport) (m : FynenMsg) : Prop :=
  s.fynenSilent = false ∧ (tr = .mailbox → s.host.busy = true ∧ mgetN zeroByte s.host.mbReq 0 s.host.submitted = msgBytes m)

/-- A request has been answered with a status, a type of 12 Table 11, the given one where that is one, and a value: on the segment, or in the mailbox, which is then READY (12 R450, R455). -/
def State.answered (s t : State) (tr : Transport) (m : FynenMsg) (status type : Nat) (value : List Byte) : Prop :=
  ∃ r : FynenMsg, r.kind = 4 ∧ r.requestId = m.requestId ∧ r.object = m.object ∧ r.member = m.member ∧ r.status = BitVec.ofNat 16 status ∧
    1 ≤ r.type.toNat ∧ r.type.toNat ≤ 11 ∧ (1 ≤ type → type ≤ 11 → r.type = BitVec.ofNat 8 type) ∧
    r.value = value ∧ r.length.toNat = value.length ∧
    (tr = .t1s → t.out = s.out ++ [.fynen .t1s r]) ∧
    (tr = .mailbox → mgetN zeroByte t.host.mbResp 0 (msgBytes r).length = msgBytes r ∧ t.host.ready = true ∧ t.host.busy = false)

/-- What the boot and security part holds at all times (13 R465, R470, R473, R475 to R477): an UNOWNED device has no owner key and requires none, digests
have 32 bytes, slots are A and B, at most three tries are left and sixteen reports allowed at once, and every signature index that was used lies in a
block that was reserved before, of the 2^25 that the key allows. -/
def Boot.wf (b : Boot) : Prop :=
  (b.owned = false → b.ownerHash = List.replicate 32 0 ∧ b.requireOwner = false) ∧
  b.ownerHash.length = 32 ∧ b.m0.length = 32 ∧ b.m1.length = 32 ∧ b.m2.length = 32 ∧ b.m3.length = 32 ∧ b.m4.length = 32 ∧
  b.confirmed ≤ 1 ∧ (∀ p, b.pending = some p → p ≤ 1) ∧ (∀ p t, b.session = some (p, t) → p ≤ 1) ∧ b.tries ≤ 3 ∧ b.burst ≤ 16 ∧
  b.usedIndex ≤ b.nextIndex ∧ b.nextIndex ≤ 2 ^ 25

end Sys2Proof.Machine
end

