-- ==== Sys2Proof/Certificates/Slice0/Obligations.lean ====
section
/-! DEFINITION. The statements for the provers: one definition per obligation, in the order of OBLIGATIONS.json. -/

open Sys2Proof Sys2Proof.Machine

/-- For every command and every state, one step of the state whose queue starts with the command is exec of the command on the state with the rest of the queue. That the block takes its commands from a queue in the order of their arrival is the model's own form (log 1). (95_what_each_step_holds.md) -/
def Obligations.StepRunsFront : Prop :=
  ∀ (i : Instr) (r : List Instr) (s : State), step { s with pending := i :: r } = exec i { s with pending := r }

/-- On a clean core that takes an instruction, SALU, SALUI, SLI, SFP, both forms of SCSR and NOP with zero unused fields and a defined FUNC, RND and register number write the result to sD (nothing when D is s0), clear ASYNC for SCSR READ AND CLEAR, advance the PC by 16 and change nothing else; a read of CYCLE takes one free value. LCORE is the core's logical number, and STREAM, JOB, STEP, GROUP, ASYNC and PROFILE read what the machine holds under those names; an IMM above 8 or a reserved FUNC faults with code 0x03. (That the two rows of SCSR take FUNC 0 and 1 for the FUNC each stands for is the model's, log 8.) The values of SALU and SALUI are stated in ScalarValues. (04_instruction_set.md R125, 04_instruction_set.md R118) -/
def Obligations.ScalarResults : Prop :=
  ∀ (s : State) (c : Fin 144) (w : GenFields), s.fresh c →
    let f := s.fetch c
    (({ d := true, a := true, b := true } : Uses).bad w = false → w.func ≤ 18 →
      exec (.salu c w) s = .next (f.setCore c (((s.core c).go.setS w.d.toNat (saluOp w.func.toNat ((s.core c).s w.a.toNat) ((s.core c).s w.b.toNat)) false).next))) ∧
    (({ d := true, a := true, imm := 64 } : Uses).bad w = false → w.func ≤ 18 →
      exec (.salui c w) s = .next (f.setCore c (((s.core c).go.setS w.d.toNat (saluOp w.func.toNat ((s.core c).s w.a.toNat) w.imm) false).next))) ∧
    (({ d := true, imm := 64 } : Uses).bad w = false → w.func = 0 →
      exec (.sli c w) s = .next (f.setCore c (((s.core c).go.setS w.d.toNat w.imm false).next))) ∧
    (({ d := true, a := true, b := true, c := true, rnd := true } : Uses).bad w = false → w.func ≤ 9 → w.rnd ≤ 1 →
      exec (.sfp c w) s = .next (f.setCore c (((s.core c).go.setS w.d.toNat (sfpOp w.func.toNat (rndOf w.rnd.toNat) ((s.core c).s w.a.toNat) ((s.core c).s w.b.toNat) ((s.core c).s w.c.toNat)) false).next))) ∧
    (({ d := true, imm := 64 } : Uses).bad w = false → w.func ≤ 1 → w.imm ≠ 0 → w.imm ≤ 8 →
      exec (.scsrRead c w) s = .next (f.setCore c (((s.core c).go.setS w.d.toNat (f.csr c w.imm.toNat) false).next)) ∧
      exec (.scsrReadAndClear c w) s = .next (f.setCore c { ((s.core c).go.setS w.d.toNat (f.csr c w.imm.toNat) false).next with async := 0 })) ∧
    (({ d := true, imm := 64 } : Uses).bad w = false → w.func ≤ 1 → w.imm = 0 →
      exec (.scsrRead c w) s = .next { f.setCore c (((s.core c).go.setS w.d.toNat (f.csr c 0) false).next) with free := f.free + 1 } ∧
      exec (.scsrReadAndClear c w) s = .next { f.setCore c { ((s.core c).go.setS w.d.toNat (f.csr c 0) false).next with async := 0 } with free := f.free + 1 }) ∧
    (({} : Uses).bad w = false → w.func = 0 → exec (.nop c w) s = .next (f.setCore c (s.core c).go.next)) ∧
    (({ d := true, imm := 64 } : Uses).bad w = false → w.func ≤ 1 → 8 < w.imm.toNat →
      exec (.scsrRead c w) s = .next (f.coreFault c 0x03 (genWord 0x07 { w with func := 0 }) 0)) ∧
    (({ d := true, imm := 64 } : Uses).bad w = false → 2 ≤ w.func →
      exec (.scsrRead c w) s = .next (f.coreFault c 0x03 (genWord 0x07 w) 0) ∧ exec (.scsrReadAndClear c w) s = .next (f.coreFault c 0x03 (genWord 0x07 w) 0)) ∧
    (s.csr c 1).toNat = c.val ∧ (s.csr c 3 = BitVec.ofNat 64 (s.core c).stream) ∧ s.csr c 4 = BitVec.ofNat 64 (s.stream (s.core c).stream).job ∧ s.csr c 5 = s.stepNumber ∧
    s.csr c 6 = (s.core c).group.setWidth 64 ∧ s.csr c 7 = (s.core c).async.setWidth 64 ∧ s.csr c 8 = BitVec.ofNat 64 s.esc.profile

/-- Integer operations on s registers are 64-bit two's complement and wrap: sum, difference and product modulo 2^64; shifts by bits [5:0] of the count, SAR as an arithmetic shift; SLT and SLTU give 1 or 0; MIN and MAX are signed; MULH and MULHU give the upper half of the exact product; a division by zero gives a quotient of all ones and the dividend as remainder; -2^63 by -1 gives -2^63 and 0; every other division truncates, its quotient and remainder satisfy a = q * b + r with |r| < |b|, and r has the sign of a. (04_instruction_set.md R125) -/
def Obligations.ScalarValues : Prop :=
  ∀ a b : Word,
    (saluOp 0 a b).toNat = (a.toNat + b.toNat) % 2 ^ 64 ∧
    (saluOp 1 a b).toNat = (a.toNat + 2 ^ 64 - b.toNat) % 2 ^ 64 ∧
    (saluOp 12 a b).toNat = a.toNat * b.toNat % 2 ^ 64 ∧
    saluOp 2 a b = (a &&& b) ∧ saluOp 3 a b = (a ||| b) ∧ saluOp 4 a b = (a ^^^ b) ∧
    (saluOp 5 a b).toNat = a.toNat * 2 ^ (b.toNat % 64) % 2 ^ 64 ∧
    (saluOp 6 a b).toNat = a.toNat / 2 ^ (b.toNat % 64) ∧
    (saluOp 7 a b).toInt = a.toInt / 2 ^ (b.toNat % 64) ∧
    saluOp 8 a b = (if a.toInt < b.toInt then 1 else 0) ∧
    saluOp 9 a b = (if a.toNat < b.toNat then 1 else 0) ∧
    (saluOp 10 a b).toInt = min a.toInt b.toInt ∧
    (saluOp 11 a b).toInt = max a.toInt b.toInt ∧
    (saluOp 13 a b).toInt = a.toInt * b.toInt / 2 ^ 64 ∧
    (saluOp 14 a b).toNat = a.toNat * b.toNat / 2 ^ 64 ∧
    (b = 0 → saluOp 15 a b = BitVec.allOnes 64 ∧ saluOp 16 a b = BitVec.allOnes 64 ∧ saluOp 17 a b = a ∧ saluOp 18 a b = a) ∧
    (b ≠ 0 → (saluOp 16 a b).toNat * b.toNat + (saluOp 18 a b).toNat = a.toNat ∧ (saluOp 18 a b).toNat < b.toNat) ∧
    (a.toInt = -2 ^ 63 → b.toInt = -1 → (saluOp 15 a b).toInt = -2 ^ 63 ∧ saluOp 17 a b = 0) ∧
    (b ≠ 0 → ¬(a.toInt = -2 ^ 63 ∧ b.toInt = -1) →
      (saluOp 15 a b).toInt * b.toInt + (saluOp 17 a b).toInt = a.toInt ∧ (saluOp 17 a b).toInt.natAbs < b.toInt.natAbs ∧
      (0 ≤ a.toInt → 0 ≤ (saluOp 17 a b).toInt) ∧ (a.toInt ≤ 0 → (saluOp 17 a b).toInt ≤ 0))

/-- On a clean core that takes an instruction, with the address a multiple of the access size, the bytes in local memory, no overlapping access in flight and, for SST, a free entry of the tracker, SLD writes the zero- or sign-extended little-endian value of the bytes to sD, and SST stores the low bytes of sB there; both advance the PC and change nothing else. With the address off its size the core faults with code 0x08, and with the bytes outside local memory (and the address aligned) with code 0x09, and takes no effect. After SST every byte of it outside the n bytes at sA + IMM reads as before and those bytes read as the low bytes of sB; after VST every byte outside the words of the active lanes at sA + IMM reads as before and each of those words reads as the lane. No register but the PC changes, no other core, and nothing outside the cores. The address is the one the instruction computes. (04_instruction_set.md R125, 04_instruction_set.md R127) -/
def Obligations.LoadsAndStores : Prop :=
  (∀ (s : State) (c : Fin 144) (w : GenFields), s.fresh c →
     let f := s.fetch c;
     let x := s.core c;
     let n := memSize w.func.toNat;
     let a := (x.s w.a.toNat + w.imm).toNat;
     (({ d := true, a := true, imm := 64 } : Uses).bad w = false → w.func ≤ 6 → a % n = 0 → a + n ≤ 2 ^ 22 → x.conflict a (a + n) false = false →
       exec (.sld c w) s = .next (f.setCore c ((x.go.setS w.d.toNat
         (if w.func < 4 then BitVec.ofNat 64 (leNat (x.lread a n)) else BitVec.ofInt 64 (sint (8 * n) (leNat (x.lread a n)))) false).next))) ∧
     (({ a := true, b := true, imm := 64 } : Uses).bad w = false → w.func ≤ 3 → a % n = 0 → a + n ≤ 2 ^ 22 → x.writeStall [(a, n)] = false →
       exec (.sst c w) s = .next (f.setCore c { x.go with lmem := msetN zeroByte x.lmem a (leBytes (x.s w.b.toNat).toNat n), pc := x.pc + 16 })) ∧
     (({ d := true, a := true, imm := 64 } : Uses).bad w = false → w.func ≤ 6 → a % n ≠ 0 → exec (.sld c w) s = .next (f.coreFault c 0x08 (genWord 0x05 w) 0)) ∧
     (({ d := true, a := true, imm := 64 } : Uses).bad w = false → w.func ≤ 6 → a % n = 0 → 2 ^ 22 < a + n → exec (.sld c w) s = .next (f.coreFault c 0x09 (genWord 0x05 w) 0)) ∧
     (({ a := true, b := true, imm := 64 } : Uses).bad w = false → w.func ≤ 3 → a % n ≠ 0 → exec (.sst c w) s = .next (f.coreFault c 0x08 (genWord 0x06 w) 0)) ∧
     (({ a := true, b := true, imm := 64 } : Uses).bad w = false → w.func ≤ 3 → a % n = 0 → 2 ^ 22 < a + n → exec (.sst c w) s = .next (f.coreFault c 0x09 (genWord 0x06 w) 0))) ∧
  (∀ (s : State) (c : Fin 144) (w : GenFields), s.fresh c →
     let f := s.fetch c;
     let x := s.core c;
     let n := memSize w.func.toNat;
     let a := (x.s w.a.toNat + w.imm).toNat;
     (({ a := true, b := true, imm := 64 } : Uses).bad w = false → w.func ≤ 3 → a % n = 0 → a + n ≤ 2 ^ 22 → x.writeStall [(a, n)] = false →
       Runs (.sst c w) s (fun t =>
         t = f.setCore c { x.go with lmem := (t.core c).lmem, pc := x.pc + 16 } ∧
         (∀ p, p < a ∨ a + n ≤ p → mget zeroByte (t.core c).lmem p = mget zeroByte x.lmem p) ∧
         (∀ i, i < n → mget zeroByte (t.core c).lmem (a + i) = (leBytes (x.s w.b.toNat).toNat n).getD i 0))) ∧
     (({ a := true, b := true, pred := true, imm := 64 } : Uses).bad w = false → w.func = 0 → a % 64 = 0 → a + 2048 ≤ 2 ^ 22 → x.writeStall [(a, 2048)] = false →
       Runs (.vst c w) s (fun t =>
         t = f.setCore c { x.go with lmem := (t.core c).lmem, pc := x.pc + 16 } ∧
         (∀ p, (∀ i, i < 512 → (x.p w.pred.toNat).getLsbD i = true → p < a + 4 * i ∨ a + 4 * i + 4 ≤ p) → mget zeroByte (t.core c).lmem p = mget zeroByte x.lmem p) ∧
         (∀ i, i < 512 → (x.p w.pred.toNat).getLsbD i = true → leNat ((t.core c).lread (a + 4 * i) 4) = lane 32 (x.v w.b.toNat) i))))

/-- On a clean core that takes an instruction, BR goes to PC + 16 * IMM[31:0] (signed) when its condition holds and to the next instruction otherwise, JAL writes PC + 16 to sD and goes to PC + 16 * IMM[31:0], and JR goes to the address in sA when it is a multiple of 16; nothing else changes. A JR to any other address faults with code 0x08 and the PC keeps the address of the JR. On a clean core that takes an instruction, TRAP with zero unused fields faults with code 0x14 and carries IMM[31:0], and a word with opcode 0x00 or any opcode that the chapter does not assign faults with code 0x01; the record holds the code, the PC, the instruction and the trap value, and nothing else of the core changes. (04_instruction_set.md R125, 04_instruction_set.md R116, 04_instruction_set.md R156) -/
def Obligations.ControlAndTraps : Prop :=
  (∀ (s : State) (c : Fin 144) (w : GenFields), s.fresh c →
     let f := s.fetch c;
     let x := s.core c;
     let target := x.pc + BitVec.ofInt 64 (16 * (w.imm.setWidth 32).toInt);
     let cond : Word → Word → Prop := fun a b =>
       (w.func = 0 ∧ a = b) ∨ (w.func = 1 ∧ a ≠ b) ∨ (w.func = 2 ∧ a.toInt < b.toInt) ∨ (w.func = 3 ∧ b.toInt ≤ a.toInt) ∨
       (w.func = 4 ∧ a.toNat < b.toNat) ∨ (w.func = 5 ∧ b.toNat ≤ a.toNat);
     (({ a := true, b := true, imm := 32 } : Uses).bad w = false → w.func ≤ 5 →
       (cond (x.s w.a.toNat) (x.s w.b.toNat) → exec (.br c w) s = .next (f.setCore c { x.go with pc := target })) ∧
       (¬cond (x.s w.a.toNat) (x.s w.b.toNat) → exec (.br c w) s = .next (f.setCore c x.go.next))) ∧
     (({ d := true, imm := 32 } : Uses).bad w = false → w.func = 0 →
       exec (.jal c w) s = .next (f.setCore c { x.go.setS w.d.toNat (x.pc + 16) false with pc := target })) ∧
     (({ a := true } : Uses).bad w = false → w.func = 0 → (x.s w.a.toNat).toNat % 16 = 0 →
       exec (.jr c w) s = .next (f.setCore c { x.go with pc := x.s w.a.toNat })) ∧
     (({ a := true } : Uses).bad w = false → w.func = 0 → (x.s w.a.toNat).toNat % 16 ≠ 0 →
       exec (.jr c w) s = .next (f.coreFault c 0x08 (genWord 0x0A w) 0))) ∧
  (∀ (s : State) (c : Fin 144), s.fresh c →
     (∀ w : GenFields, ({ imm := 32 } : Uses).bad w = false → w.func = 0 →
       Runs (.trap c w) s (fun t => t.core c = { s.core c with run := .faulted, stall := .none, fault := some { code := 0x14, pc := (s.core c).pc, instr := genWord 0x83 w, detail := w.imm } })) ∧
     (∀ word : BitVec 128, word.toNat % 256 ∉ assignedOps →
       Runs (.illegalOpcode c word) s (fun t => t.core c = { s.core c with run := .faulted, stall := .none, fault := some { code := 0x01, pc := (s.core c).pc, instr := word, detail := 0 } })) ∧
     0 ∉ assignedOps)

/-- When a core that runs, waits for nothing, is awake and not fenced issues an instruction, it fetches the line through its home Tun (a line in its instruction cache is not fetched again): an address in no window gives code 0x09, a line of a channel that is offline makes it wait, a poisoned line gives code 0x15, else a poisoned register that the checks use gives 0x0A, else the lowest code that applies; the core stops and records the code, its PC and the instruction, the other cores of its LAUNCH stop issuing and those on which it has not begun leave it, and no register, memory, bank, queue, counter or predicate changes. The first two are poison consumptions (03 R104). (04_instruction_set.md R122) -/
def Obligations.FaultOrder : Prop :=
  ∀ (s : State) (c : Nat) (word : BitVec 128) (i : Issue) (eff : State → State), c < 144 →
    (s.core c).run = .running → (s.core c).wait = .none → (s.core c).sleep = .awake → (s.core c).fenced = false →
    let x := s.core c
    let g := s.fetch c
    let placed := (localForm x.pc.toNat).bind s.home ≠ none
    let fetched := x.cachedFetch = true ∨ (placed ∧ s.fetchWaits c = false ∧ (g.line x.fetchLine).2 = false)
    (x.cachedFetch = false → ¬placed → s.issue c word i eff = s.coreFault c 0x09 0 0) ∧
    (x.cachedFetch = false → placed → s.fetchWaits c = true → s.issue c word i eff = s) ∧
    (x.cachedFetch = false → placed → s.fetchWaits c = false → (g.line x.fetchLine).2 = true → s.issue c word i eff = (g.coreFault c 0x15 word 0).coreConsume c x.fetchLine) ∧
    (fetched → x.poisonS i.addrS = true ∨ x.poisonV i.addrV = true → s.issue c word i eff = (g.coreFault c 0x0A word 0).coreConsume c 0) ∧
    (fetched → x.poisonS i.addrS = false → x.poisonV i.addrV = false →
      ∀ f, f ∈ i.faults → (∀ g ∈ i.faults, f ≤ g) → s.issue c word i eff = g.coreFault c f word i.detail) ∧
    (∀ f word d, (s.coreFault c f word d).core c =
      { s.core c with run := .faulted, stall := .none, fault := some { code := BitVec.ofNat 16 f, pc := (s.core c).pc, instr := word, detail := BitVec.ofNat 64 d } }) ∧
    (∀ f word d, { s.coreFault c f word d with cores := s.cores, streams := s.streams } = s ∧ ∀ j, j < 64 → (s.coreFault c f word d).stream j = { s.stream j with
      progress := (s.stream j).progress.map (fun (z : CmdRun) => if j = x.stream ∧ z.count = x.command ∧ c ∈ z.cores then { z with cores := z.begun, ops := [] } else z) }) ∧
    (∀ f word d k, k < 144 → k ≠ c → (s.coreFault c f word d).core k = s.core k ∨ (s.coreFault c f word d).core k = { s.core k with run := .stopped, wait := .none })

/-- On a clean core that takes an instruction, HALT puts the unclaimed tiles, in the order in which they issued, into the epilogue queue as ACCFREE claims, as many as the queue has room for, and their assays take note of it; when it has claimed them all it waits, and while the queue is full it stays at its PC. Once the array queue, the epilogue queue, the DMAs and the GSTs and CSIGs of the core are complete, HALT_COMPLETE ends its program; before that it changes nothing. (R126) -/
def Obligations.ProgramEnd : Prop :=
  ∀ (s : State) (c : Fin 144),
    let x := s.core c
    let room := 4 - x.epiQ.length
    (∀ w : GenFields, s.fresh c → ({ func := false } : Uses).bad w = false →
      Runs (.halt c w) s (fun t =>
        (t.core c).epiQ = x.epiQ ++ (x.unclaimed.take room).map (fun u => { seq := u.1, b0 := u.2, block := none }) ∧
        (t.core c).unclaimed = x.unclaimed.drop room ∧ (t.core c).run = .running ∧ (t.core c).sreg = x.sreg ∧ (t.core c).banks = x.banks ∧
        (∀ u ∈ x.unclaimed.take room, ∀ a, t.assayOf c u.1 = some a → a.claimed = true ∧ a.tile.epi = none) ∧
        (x.unclaimed.length ≤ room → (t.core c).wait = .halt ∧ (t.core c).pc = x.pc + 16) ∧
        (room < x.unclaimed.length → (t.core c).wait = .none ∧ (t.core c).pc = x.pc ∧ (t.core c).stall = .epilogueQueue))) ∧
    (x.run = .running → x.wait = .halt →
      (x.arrayQ = [] → x.current = none → x.epiQ = [] → x.draining = none → x.done = [] → x.loadBusy = false →
        (∀ e, e < 2 → (vget x.dma e DmaEngine.reset).queue = [] ∧ (vget x.dma e DmaEngine.reset).running = []) → s.gstsOut c = [] → s.csigsOut c = [] →
        exec (.haltComplete c) s = .next (s.setCore c { x with run := .ended, wait := .none })) ∧
      (x.quiet = false ∨ s.gstsOut c ≠ [] ∨ s.csigsOut c ≠ [] → exec (.haltComplete c) s = .next s))

/-- On a clean core that takes an instruction with zero unused fields and defined FUNC, TYPE, RND and slot, each active lane (or 16-bit element) of vD takes the operation's value computed from the same lane of the sources (VPERM: from the lane that vB names, VBCAST: sA[31:0]); an inactive lane, every other vector register, every other register, memory and core keeps its value and the PC advances by 16. (04_instruction_set.md R121, 04_instruction_set.md R127) -/
def Obligations.VectorLanes : Prop :=
  ∀ (s : State) (c : Fin 144) (w : GenFields), s.fresh c →
    let f := s.fetch c
    let x := s.core c
    let p := x.p w.pred.toNat
    let t := w.type.toNat
    let done : State → Nat → (Nat → Bool) → (Nat → Nat) → Prop := fun u width active value =>
      u = f.setCore c { x.go with vreg := (u.core c).vreg, vPoison := (u.core c).vPoison, pc := x.pc + 16 } ∧
      (∀ r, r ≠ w.d.toNat → (u.core c).v r = x.v r) ∧
      (∀ i, i < 16384 / width → lane width ((u.core c).v w.d.toNat) i = if active i then value i % 2 ^ width else lane width (x.v w.d.toNat) i)
    (({ d := true, a := true, b := true, c := true, pred := true, type := true, rnd := true } : Uses).bad w = false → w.func ≤ 8 → w.type ≤ 2 → w.rnd ≤ 1 →
      Runs (.vfp c w false) s (fun u => done u (elW t) (activeAt p (elW t))
        (fun i => vfpOp w.func.toNat t (rndOf w.rnd.toNat) (lane (elW t) (x.v w.a.toNat) i) (lane (elW t) (x.v w.b.toNat) i) (lane (elW t) (x.v w.c.toNat) i)))) ∧
    (({ d := true, a := true, b := true, pred := true, type := true } : Uses).bad w = false → w.func ≤ 10 → w.type = 3 →
      Runs (.vint c w) s (fun u => done u 32 p.getLsbD (fun i => vintOp w.func.toNat (lane 32 (x.v w.a.toNat) i) (lane 32 (x.v w.b.toNat) i)))) ∧
    (({ d := true, a := true, b := true, pred := true } : Uses).bad w = false → w.func = 0 →
      Runs (.vperm c w) s (fun u => done u 32 p.getLsbD (fun i => lane 32 (x.v w.a.toNat) (lane 32 (x.v w.b.toNat) i % 512)))) ∧
    (({ d := true, a := true, pred := true } : Uses).bad w = false → w.func = 0 →
      Runs (.vbcast c w) s (fun u => done u 32 p.getLsbD (fun _ => (x.s w.a.toNat).toNat % 2 ^ 32))) ∧
    (({ d := true, a := true, pred := true, type := true, imm := 4 } : Uses).bad w = false → w.func ≤ 1 → w.type ≤ 2 →
      Runs (.vtbl c w) s (fun u => done u (elW t) (activeAt p (elW t))
        (fun i => (typeFmt t).enc .rne (tableEval x (w.imm.toNat % 16) (w.func == 1) (elVal t (lane (elW t) (x.v w.a.toNat) i))))))

/-- On a clean core that takes an instruction: between types of one width each active element is converted (a type to itself copies its bits); between a 32-bit and a 16-bit type lane i pairs with element 512 * FUNC + i and PRED bit i governs lane i; to a block format every lane is converted, whatever PRED says, into the group layout, and block overflows are counted; from a block format the active elements take the unpacked values. Nothing else of the core changes but the PC, and an infinity that a conversion makes from a finite number is reported to the gate when a step of its job is open. (04_instruction_set.md R128) -/
def Obligations.VectorConvert : Prop :=
  ∀ (s : State) (c : Fin 144) (w : GenFields), s.fresh c →
    let g := s.fetch c
    ({ d := true, a := true, pred := true, type := true, rnd := true, x := true } : Uses).bad w = false → w.rnd ≤ 1 →
    let x := s.core c
    let p := x.p w.pred.toNat
    let t := w.type.toNat
    let u := w.x.toNat
    let m := rndOf w.rnd.toNat
    let conv : Nat → Nat := fun v => if t = u then v else elEnc u m (elVal t v)
    let done : State → Bool → Nat → (Nat → Option Nat) → Prop := fun r inf width value =>
      r = (g.setCore c { x.go with vreg := (r.core c).vreg, vPoison := (r.core c).vPoison, pc := x.pc + 16 }).infReport (coreQuarter c) (s.jobOf c) inf ∧
      (∀ k, k ≠ w.d.toNat → (r.core c).v k = x.v k) ∧
      (∀ i, i < 16384 / width → lane width ((r.core c).v w.d.toNat) i = match value i with
        | some v => v % 2 ^ width
        | none => lane width (x.v w.d.toNat) i)
    (t < 4 → u < 4 → elW t = elW u → w.func = 0 →
      Runs (.vcvt c w) s (fun r => done r (vcvtInf x w p) (elW u) (fun i => if activeAt p (elW u) i then some (conv (lane (elW t) (x.v w.a.toNat) i)) else none))) ∧
    (t < 4 → u < 4 → elW t = 32 → elW u = 16 → w.func ≤ 1 →
      Runs (.vcvt c w) s (fun r => done r (vcvtInf x w p) 16 (fun j =>
        if j / 512 = w.func.toNat ∧ p.getLsbD (j % 512) = true then some (conv (lane 32 (x.v w.a.toNat) (j % 512))) else none))) ∧
    (t < 4 → u < 4 → elW t = 16 → elW u = 32 → w.func ≤ 1 →
      Runs (.vcvt c w) s (fun r => done r false 32 (fun i => if p.getLsbD i then some (conv (lane 16 (x.v w.a.toNat) (512 * w.func.toNat + i))) else none))) ∧
    (t < 3 → isBlock u = true → w.func = 0 →
      exec (.vcvt c w) s = .next ((g.setCore c (x.go.setV w.d.toNat (toBlocks t u m (x.v w.a.toNat)).1 0).next).blockOverflow (coreQuarter c) (s.jobOf c) (toBlocks t u m (x.v w.a.toNat)).2)) ∧
    (isBlock t = true → u < 3 → w.func = 0 →
      Runs (.vcvt c w) s (fun r => done r ((fromBlocks t u m (x.v w.a.toNat)).zipIdx.any (fun y => activeAt p (elW u) y.2 && y.1.2)) (elW u)
        (fun i => if activeAt p (elW u) i then some ((fromBlocks t u m (x.v w.a.toNat)).getD i (0, false)).1 else none)))

/-- On a clean core that takes an instruction, VCMP sets bit i of pD to the condition of lane i (of element 2i + HALF for a 16-bit type) where PRED bit i is 1 and to 0 elsewhere, with NaN making NE and UN true and every other condition false; PLOG writes pA op pB to pD. A write to p0 is discarded. Nothing else changes but the PC. On a clean core that takes an instruction: VRED SUM, SUMSQ and DOT in a float TYPE write the exact sum with one RNE rounding to sD, SUM in INT32 wraps; MAX and MIN write the winner to sD and its lane index to sC; with no active lane SUM gives 0, MAX minus infinity or -2^31, MIN plus infinity or 2^31 - 1, and the index is 0xFFFFFFFF. VMOVS writes lane IMM mod 512 of vA, zero-extended. Nothing else changes but the PC, and a sum that becomes an infinity from finite terms is reported to the gate when a step of its job is open. (That an INT32 SUM is written sign-extended is the model's, log 20.) (04_instruction_set.md R118, 04_instruction_set.md R127, 04_instruction_set.md R129) -/
def Obligations.VectorReduces : Prop :=
  (∀ (s : State) (c : Fin 144) (w : GenFields), s.fresh c →
     let f := s.fetch c;
     let x := s.core c;
     let p := x.p w.pred.toNat;
     let t := w.type.toNat;
     (({ d := true, a := true, b := true, pred := true, type := true, x := true } : Uses).bad w = false → w.d ≤ 7 → w.func ≤ 6 → w.type ≤ 3 → w.x ≤ 1 →
       Runs (.vcmp c w) s (fun u =>
         u = f.setCore c { x.go with preg := (u.core c).preg, pc := x.pc + 16 } ∧
         (∀ r, r ≠ w.d.toNat → (u.core c).p r = x.p r) ∧
         (w.d ≠ 0 → ∀ i, i < 512 → ((u.core c).p w.d.toNat).getLsbD i =
           (p.getLsbD i &&
             (let k := if elW t = 16 then 2 * i + w.x.toNat else i
              let a := lane (elW t) (x.v w.a.toNat) k;
              let b := lane (elW t) (x.v w.b.toNat) k;
              if t = 3 then cmpCondI w.func.toNat (sint 32 a) (sint 32 b) else cmpCond w.func.toNat (elVal t a) (elVal t b)))))) ∧
     (({ d := true, a := true, b := true } : Uses).bad w = false → w.d ≤ 7 → w.a ≤ 7 → w.b ≤ 7 → w.func ≤ 6 →
       exec (.plog c w) s = .next (f.setCore c (x.go.setP w.d.toNat
         (if w.func = 0 then x.p w.a.toNat &&& x.p w.b.toNat else if w.func = 1 then x.p w.a.toNat ||| x.p w.b.toNat
          else if w.func = 2 then x.p w.a.toNat ^^^ x.p w.b.toNat else if w.func = 3 then x.p w.a.toNat &&& ~~~(x.p w.b.toNat)
          else if w.func = 4 then ~~~(x.p w.a.toNat) else if w.func = 5 then BitVec.allOnes 512 else 0)).next))) ∧
  (∀ (s : State) (c : Fin 144) (w : GenFields), s.fresh c →
     let f := s.fetch c;
     let x := s.core c;
     let p := x.p w.pred.toNat;
     let t := w.type.toNat;
     let pick : Nat → List (Nat × Nat) := fun r => ((lanes (elW t) (x.v r)).zipIdx).filter (fun e => activeAt p (elW t) e.2);
     let a := pick w.a.toNat;
     let b := pick w.b.toNat;
     (({ d := true, a := true, b := true, c := true, pred := true, type := true } : Uses).bad w = false → w.type ≤ 3 →
       (w.func ≤ 2 → w.type ≤ 2 →
         let terms := vredTerms w.func.toNat t (a.map (·.1)) (b.map (·.1));
         exec (.vred c w) s = .next ((f.setCore c (x.go.setS w.d.toNat (BitVec.ofNat 64 (fp32.enc .rne (reduceExact terms.1 terms.2).val)) false).next).infReport
           (coreQuarter c) (s.jobOf c) (fp32.round .rne (reduceExact terms.1 terms.2).val).2)) ∧
       (w.func = 0 → w.type = 3 →
         exec (.vred c w) s = .next (f.setCore c (x.go.setS w.d.toNat (BitVec.ofNat 64 (uint 64 (sint 32 ((a.map (·.1)).sum)))) false).next)) ∧
       (w.func = 3 ∨ w.func = 4 →
         exec (.vred c w) s = .next (f.setCore c ((x.go.setS w.d.toNat (BitVec.ofNat 64 (vredBest (w.func == 3) t a).1) false).setS w.c.toNat (BitVec.ofNat 64 (vredBest (w.func == 3) t a).2) false).next))) ∧
     (p = 0 → a = []) ∧
     (∀ u, u ≤ 2 → fp32.enc .rne (reduceExact (vredTerms 0 u [] []).1 (vredTerms 0 u [] []).2).val = 0 ∧
       vredBest true u [] = (0xFF800000, 0xFFFFFFFF) ∧ vredBest false u [] = (0x7F800000, 0xFFFFFFFF)) ∧
     vredBest true 3 [] = (2 ^ 64 - 2 ^ 31, 0xFFFFFFFF) ∧ vredBest false 3 [] = (2 ^ 31 - 1, 0xFFFFFFFF) ∧
     (({ d := true, a := true, imm := 64 } : Uses).bad w = false → w.func = 0 →
       exec (.vmovs c w) s = .next (f.setCore c (x.go.setS w.d.toNat (BitVec.ofNat 64 (lane 32 (x.v w.a.toNat) (w.imm.toNat % 512))) false).next)))

/-- On a clean core that takes an instruction with no access in flight in its local memory, with the address on its boundary and every element inside local memory: VLD loads the word at sA + IMM + 4i into each active lane i; VGATHER loads element j from sA + j * size for the index j of each active lane (0 for an index that zero-fill drops); VSCATTER STORE leaves at every element the value of the highest active lane that names it, and ADD adds the lanes that name it in ascending order (INT32 wrapping, FP32 by RNE each); elements that no lane names, and all other bytes, read as before; TBLLD loads the slot from the image. Nothing else changes but the PC. (04_instruction_set.md R127, 04_instruction_set.md R131, 04_instruction_set.md R132, 04_instruction_set.md R134) -/
def Obligations.VectorMemory : Prop :=
  ∀ (s : State) (c : Fin 144) (w : GenFields), s.fresh c →
    let f := s.fetch c
    (s.core c).ranges = [] →
    let x := s.core c
    let p := x.p w.pred.toNat
    let t := w.type.toNat
    let n := typeBytes t
    let A := (x.s w.a.toNat).toNat
    let loads : State → Nat → (Nat → Option Nat) → Prop := fun u width value =>
      u = f.setCore c { x.go with vreg := (u.core c).vreg, vPoison := (u.core c).vPoison, pc := x.pc + 16 } ∧
      (∀ r, r ≠ w.d.toNat → (u.core c).v r = x.v r) ∧
      (∀ i, i < 16384 / width → lane width ((u.core c).v w.d.toNat) i = (value i).getD (lane width (x.v w.d.toNat) i))
    let stores : State → List (Nat × Nat) → (Nat → Nat → Nat) → Prop := fun u ad op =>
      u = f.setCore c { x.go with lmem := (u.core c).lmem, pc := x.pc + 16 } ∧
      (∀ j, leNat ((u.core c).lread (A + j * n) n) =
        (ad.filter (fun e => e.2 == A + j * n)).foldl (fun acc e => op acc (lane (elW t) (x.v w.c.toNat) e.1)) (leNat (x.lread (A + j * n) n))) ∧
      (∀ q, (∀ e ∈ ad, q < e.2 ∨ e.2 + n ≤ q) → mget zeroByte (u.core c).lmem q = mget zeroByte x.lmem q)
    (({ d := true, a := true, pred := true, imm := 64 } : Uses).bad w = false → w.func = 0 →
      let a := (x.s w.a.toNat + w.imm).toNat
      a % 64 = 0 → a + 2048 ≤ 2 ^ 22 →
      Runs (.vld c w) s (fun u => loads u 32 (fun i => if p.getLsbD i then some (leNat (x.lread (a + 4 * i) 4)) else none))) ∧
    (({ d := true, a := true, b := true, c := true, pred := true, type := true, x := true } : Uses).bad w = false → w.func = 0 →
      let L := (x.s w.c.toNat).toNat
      codes (indexFaults t w.x.toNat L w.b.toNat A (x.indices t w.x.toNat L w.b.toNat p)) = [] →
      Runs (.vgather c w) s (fun u => loads u (elW t) (fun i =>
        if activeAt p (elW t) i then
          match resolveIndex w.x.toNat L (x.indexAt w.b.toNat i) with
          | .elem j => some (leNat (x.lread (A + j * n) n))
          | _ => some 0
        else none))) ∧
    (({ d := true, a := true, b := true, c := true, pred := true, type := true, x := true } : Uses).bad w = false → w.func ≤ 1 →
      let L := (x.s w.d.toNat).toNat
      let ix := x.indices t w.x.toNat L w.b.toNat p
      codes (indexFaults t w.x.toNat L w.b.toNat A ix) = [] →
      Runs (.vscatterStore c w) s (fun u => stores u (indexAddrs A n ix) (fun _ v => v)) ∧
      (t = 0 → Runs (.vscatterAdd c w) s (fun u => stores u (indexAddrs A n ix) (fun old v => fp32.enc .rne ((f32 old).add (f32 v))))) ∧
      (t = 3 → Runs (.vscatterAdd c w) s (fun u => stores u (indexAddrs A n ix) (fun old v => (old + v) % 2 ^ 32)))) ∧
    (({ a := true, imm := 4 } : Uses).bad w = false → w.func = 0 → 12 ≤ w.imm.toNat → A % 64 = 0 → A + 6208 ≤ 2 ^ 22 → tableHeaderOk (x.lread A 64) = true →
      exec (.tblld c w) s = .next (f.setCore c { x.go with
        tables := vset x.tables (w.imm.toNat - 12) (some { words := (chunks 4 (x.lread A 6208)).map (fun b => BitVec.ofNat 32 (leNat b)) }), pc := x.pc + 16 }))

/-- On a clean core that takes an instruction with a free save buffer, TGB adds a boundary with a snapshot of the PC of the next instruction, every register with its poison, the region descriptors and the loadable tables, sets GROUP, makes the save buffer busy and goes on; with the buffer busy it waits. SNAPSHOT_WRITE_COMPLETE frees the buffer and marks the newest snapshot as saved. GROUP_BOUNDARY_CLOSE closes the oldest open boundary exactly when everything before it has completed. (04_instruction_set.md R152, 04_instruction_set.md R153) -/
def Obligations.TileGroups : Prop :=
  ∀ (s : State) (c : Fin 144),
    let x := s.core c
    (∀ w : GenFields, s.fresh c → ({ imm := 32 } : Uses).bad w = false → w.func = 0 →
      (x.saveBusy = false → Runs (.tgb c w) s (fun t =>
        t = (s.fetch c).setCore c { x.go with bounds := (t.core c).bounds, saveBusy := true, group := w.imm.setWidth 32, effects := (t.core c).effects, skip := (t.core c).skip, skipCadds := (t.core c).skipCadds, skipNext := x.skipNext.drop 1, pc := x.pc + 16 } ∧
        (x.skipNext = [] → (t.core c).skip = 0 ∧ (t.core c).skipCadds = [] ∧ (t.core c).effects = { count := 0, cadds := [] }) ∧
        ∃ b, (t.core c).bounds.head? = some b ∧ b.closed = false ∧ b.saved = false ∧
          b.snap = { pc := x.pc + 16, sreg := x.sreg, sPoison := x.sPoison, vreg := x.vreg, vPoison := x.vPoison, preg := x.preg
                     regions := x.regions, tables := x.tables, group := w.imm.setWidth 32 })) ∧
      (x.saveBusy = true → exec (.tgb c w) s = .next ((s.fetch c).setCore c { x.go with stall := .saveBuffer }))) ∧
    (x.saveBusy = true → Runs (.snapshotWriteComplete c) s (fun t =>
      t = s.setCore c { x with saveBusy := false, bounds := (t.core c).bounds } ∧
      ∀ b r, x.bounds = b :: r → (t.core c).bounds.head? = some { b with saved := true })) ∧
    (∀ b r, x.bounds = b :: r → b.closed = false → r.all (·.closed) = true → Runs (.groupBoundaryClose c) s (fun t =>
      t = s.setCore c { x with bounds := (t.core c).bounds } ∧
      (s.workDone c b.work = true → (t.core c).bounds.head? = some { b with closed := true }) ∧
      (s.workDone c b.work = false → (t.core c).bounds.head? = some b)))

/-- On a clean core that takes an instruction, ASSAY sets the mark unless the profile is Open; BRK in a job whose bit of 0x3110.0 is set stops the core after the BRK and logs event 0x04FE with the core in bits [7:0] and the PC of the next instruction shifted right by 4 above, and in any other job only goes on. BRK_RESUME of a halted core resumes it, of a core that is not halted is answered 0x0205, of 255 resumes every halted core; a number above 143 that is not 255 is answered 0x0201. (04_instruction_set.md R155, 04_instruction_set.md R156, 04_instruction_set.md R157) -/
def Obligations.DebugInstructions : Prop :=
  ∀ (s : State) (c : Fin 144),
    let x := s.core c
    (∀ w : GenFields, s.fresh c → ({} : Uses).bad w = false → w.func = 0 →
      exec (.assay c w) s = .next ((s.fetch c).setCore c { x.go with assayMark := if s.esc.profile = 0 then x.assayMark else true, pc := x.pc + 16 }) ∧
      ((s.objGet 0x3110 0).testBit (s.jobOf c) = true → Runs (.brk c w) s (fun t =>
        ((s.fetch c).setCore c { x.go with run := .brk, pc := x.pc + 16 }).alike t ∧ t.logged 0x04FE 0x3110 (c + 2 ^ 8 * ((x.pc + 16).toNat / 16)))) ∧
      ((s.objGet 0x3110 0).testBit (s.jobOf c) = false → exec (.brk c w) s = .next ((s.fetch c).setCore c x.go.next))) ∧
    (s.answers 0x3110 4 → ∀ n : BitVec 8,
      (n.toNat < 144 → (s.core n.toNat).run = .brk →
        exec (.brkResume n) s = .next ((s.setCore n.toNat { s.core n.toNat with run := .running }).reply 0x3110 4 0)) ∧
      (n.toNat < 144 → (s.core n.toNat).run ≠ .brk → exec (.brkResume n) s = .next (s.reply 0x3110 4 0x0205)) ∧
      (n = 255 → Runs (.brkResume n) s (fun t => { t with cores := s.cores } = s.reply 0x3110 4 0 ∧
        ∀ k, k < 144 → t.core k = if (s.core k).run = .brk then { s.core k with run := .running } else s.core k)) ∧
      (144 ≤ n.toNat → n ≠ 255 → exec (.brkResume n) s = .next (s.reply 0x3110 4 0x0201)))

/-- On a clean core that takes an instruction, a TILE without a fault, with room in its queues and the tracker and no overlapping access, becomes the last entry of the array queue with everything it captured; with EPI it takes an epilogue entry, otherwise it is unclaimed; its range entries are held; the banks, accumulators, local memory and registers keep their values and the PC advances. A tile that is to be assayed is entered on its assay core. A tile whose K, M x N or index bound is out of range, or whose banks would pass acc7, faults with a code of at most 0x05 (its records are read once no write in flight covers them), and a full array queue makes it wait. (04_instruction_set.md R135, 04_instruction_set.md R141, 04_instruction_set.md R142, 03_core.md R82, 03_core.md R87) -/
def Obligations.TileIssue : Prop :=
  ∀ (s : State) (c : Fin 144) (w : TileFields), s.fresh c →
    let f := s.fetch c
    let x := s.core c
    let r : TileRec := { s.tileOf c w with freeBase := f.free }
    let recs := [((x.s w.ra.toNat).toNat, 16)] ++ (if w.active then [] else [((x.s w.rb.toNat).toNat, 16)]) ++
      (if w.rx = 0 then [] else [((x.s w.rx.toNat).toNat, 16)]) ++ (if w.epi then [((x.s w.re.toNat).toNat, 128)] else [])
    (codes (tileCodes x w r) = [] → x.arrayQ.length < 4 → (w.epi = true → x.epiQ.length < 4) → x.rangeStall r.entries = false →
      recs.any (fun p => x.conflict p.1 (p.1 + p.2) false) = false →
      Runs (.tile c w) s (fun t =>
        let y := t.core c
        y.arrayQ.getLast? = some (.tile r) ∧ y.tileSeq = x.tileSeq + 1 ∧ y.ranges = x.ranges ++ r.entries ∧ y.assayMark = false ∧ y.pc = x.pc + 16 ∧
        y.epiQ = (if w.epi then x.epiQ ++ [{ seq := r.seq, b0 := r.b0, block := r.epi }] else x.epiQ) ∧
        y.unclaimed = (if w.epi then x.unclaimed else x.unclaimed ++ [(r.seq, r.b0)]) ∧
        y.banks = x.banks ∧ y.acc = x.acc ∧ y.lmem = x.lmem ∧ y.sreg = x.sreg ∧ y.vreg = x.vreg ∧ y.preg = x.preg ∧ y.current = x.current ∧
        (r.assay = false → ∀ k, k ≠ c.val → t.core k = s.core k) ∧
        (r.assay = true → t.esc.assays = f.esc.assays ++ [(c.val, r.seq)] ∧
          ∃ a, (t.core (s.assayCore c)).assays.getLast? = some a ∧ a.tile = r ∧ a.origin = c.val ∧ a.started = false))) ∧
    (recs.any (fun p => x.conflict p.1 (p.1 + p.2) false) = false →
      r.k = 0 ∨ 2 ^ 32 - 1 < r.k ∨ (if w.mode then 262144 else 131072) < r.m * r.n ∨ ((w.kind = 1 ∨ w.kind = 2) ∧ 2097152 < r.k + r.idxBase) ∨ 8 < r.b0 + r.banks →
      ∃ e, e ≤ 0x05 ∧ exec (.tile c w) s = .next (f.coreFault c e (tileWord w) 0)) ∧
    (codes (tileCodes x w r) = [] → 4 ≤ x.arrayQ.length → exec (.tile c w) s = .next (f.setCore c { x.go with stall := .arrayQueue }))

/-- On a clean core that takes an instruction, an STLD without a fault, with room and no overlapping access, becomes the last entry of the array queue and holds its range; at the head of the queue it starts to load, and STATIONARY_LOAD_COMPLETE then puts the elements of the fold in the loading registers, leaves the active ones, frees its entry and takes it from the queue. A SWAP with nothing queued before it exchanges the active and the loading registers at once; behind other work it waits in the queue. (03_core.md R79, 04_instruction_set.md R140, 03_core.md R77) -/
def Obligations.StationaryOperands : Prop :=
  ∀ (s : State) (c : Fin 144),
    let x := s.core c
    (∀ w : GenFields, s.fresh c →
      let a := (x.s w.a.toNat).toNat
      let v := viewOf (x.lread a 16) (x.s w.b.toNat).toNat (x.s w.c.toNat).toNat
      ({ a := true, b := true, c := true, type := true } : Uses).bad w = false → w.func = 0 → w.type ≤ 7 →
      ((pairM w.type.toNat v.fmt).isSome = true ∨ 7 < v.fmt) →
      0 < v.rows → v.rows ≤ pairKp w.type.toNat → 0 < v.cols → v.cols ≤ pairNp w.type.toNat → codes (viewCodes a (x.lread a 16) v) = [] →
      x.arrayQ.length < 4 → x.rangeStall (rangeEntries [v.span] false (4 * x.tileSeq + 3)) = false → x.conflict a (a + 16) false = false →
      Runs (.stld c w) s (fun t =>
        let y := t.core c
        y.arrayQ.getLast? = some (.stld v w.type.toNat) ∧ y.tileSeq = x.tileSeq + 1 ∧ y.pc = x.pc + 16 ∧ (x.arrayQ = [] → y.loadBusy = true) ∧
        y.ranges = x.ranges ++ rangeEntries [v.span] false (4 * x.tileSeq + 3) ∧ y.banks = x.banks ∧ y.sreg = x.sreg ∧ y.lmem = x.lmem ∧
        ∀ k, k ≠ c.val → t.core k = s.core k)) ∧
    (∀ w : GenFields, s.fresh c → ({} : Uses).bad w = false → w.func = 0 →
      (x.arrayQ = [] → Runs (.swap c w) s (fun t =>
        t = (s.fetch c).setCore c { x.go with statActive := x.statLoading, statLoading := x.statActive, bounds := (t.core c).bounds, pc := x.pc + 16 })) ∧
      (∀ r q, x.arrayQ = .tile r :: q → q.length < 3 → exec (.swap c w) s = .next ((s.fetch c).setCore c { x.go with arrayQ := x.arrayQ ++ [.swap], pc := x.pc + 16 }))) ∧
    (∀ v f r q, x.arrayQ = .stld v f :: .tile r :: q → x.loadBusy = true → x.lPoison = [] →
      Runs (.stationaryLoadComplete c) s (fun t =>
        let y := t.core c
        y.statLoading = { fmtA := f, fmtB := v.fmt, k := v.rows, n := v.cols, elems := loadFold x.lread v 0 v.rows 0 v.cols, poison := false } ∧
        y.statActive = x.statActive ∧ y.loadBusy = false ∧ y.arrayQ = .tile r :: q ∧ y.banks = x.banks ∧ y.sreg = x.sreg ∧
        ∀ k, k ≠ c.val → t.core k = s.core k))

/-- On a clean core that takes an instruction, an EPI without a fault that names the first bank of an issued, unclaimed tile, with room and no overlapping access, puts the claim with its block at the end of the epilogue queue and takes its range entries; ACCFREE puts a claim without a block there. The tile is unclaimed no more, no bank and no register changes and the PC advances. When nothing unclaimed starts at that bank ACCFREE faults with code 0x06 and so does an EPI whose block has no lower fault and lies under no write in flight; a full epilogue queue makes either wait. On a clean core that takes an instruction, ACCWAIT with a nonzero mask goes on when every bank in the mask is FREE and no issued tile awaits it, and otherwise waits at its PC; ACCWAIT_RELEASE then lets the core go on once the condition holds. ACCRD in a debug job, from entry sA up to 16,256 of a bank that is not ACCUMULATING, writes the records of 128 consecutive entries to vD, with the K of the bank's header, the tag and the entry, those of a FREE bank being the reset values; it waits while the bank is ACCUMULATING, and in any other job it faults with code 0x0D. A mask of 0 faults with code 0x03. (04_instruction_set.md R140, 04_instruction_set.md R141, 04_instruction_set.md R142, 03_core.md R113) -/
def Obligations.BanksClaimed : Prop :=
  (∀ (s : State) (c : Fin 144) (w : GenFields), s.fresh c →
     let g := s.fetch c;
     let x := s.core c;
     let claimed : State → Nat × Nat → Option EpiRec → List RangeEntry → Prop := fun t u block es =>
       let y := t.core c;
       y.epiQ = x.epiQ ++ [{ seq := u.1, b0 := u.2, block := block }] ∧ y.unclaimed = x.unclaimed.filter (fun v => v.1 != u.1) ∧ y.ranges = x.ranges ++ es ∧
       y.banks = x.banks ∧ y.acc = x.acc ∧ y.arrayQ = x.arrayQ ∧ y.done = x.done ∧ y.sreg = x.sreg ∧ y.vreg = x.vreg ∧ y.lmem = x.lmem ∧ y.pc = x.pc + 16;
     (∀ u r, x.claimOf (w.imm.toNat % 8) = some u → x.tileBy u.1 = some r → ({ a := true, imm := 3 } : Uses).bad w = false → w.func = 0 →
       let a := (x.s w.a.toNat).toNat;
       let b := x.lread a 128;
       let e := epiOf b ((x.s (recNat b 11 1)).setWidth 32);
       let es := rangeEntries (e.readSpans r.m r.n) false (4 * u.1 + 1) ++ rangeEntries (e.writeSpans r.m r.n) true (4 * u.1 + 2);
       codes (epiCodes a b e r.m r.n r.kind r.compact r.compat) = [] → x.epiQ.length < 4 → x.rangeStall es = false → x.conflict a (a + 128) false = false →
       Runs (.epi c w) s (fun t => claimed t u (some e) es)) ∧
     (∀ u, x.claimOf (w.imm.toNat % 8) = some u → ({ imm := 3 } : Uses).bad w = false → w.func = 0 → x.epiQ.length < 4 →
       Runs (.accfree c w) s (fun t => claimed t u none [])) ∧
     (∀ u, x.claimOf (w.imm.toNat % 8) = some u → ({ imm := 3 } : Uses).bad w = false → w.func = 0 → 4 ≤ x.epiQ.length →
       exec (.accfree c w) s = .next (g.setCore c { x.go with stall := .epilogueQueue })) ∧
     (x.claimOf (w.imm.toNat % 8) = none → ({ imm := 3 } : Uses).bad w = false → w.func = 0 → exec (.accfree c w) s = .next (g.coreFault c 0x06 (genWord 0x44 w) 0)) ∧
     (x.claimOf (w.imm.toNat % 8) = none → ({ a := true, imm := 3 } : Uses).bad w = false → w.func = 0 →
       let a := (x.s w.a.toNat).toNat;
       let b := x.lread a 128;
       x.conflict a (a + 128) false = false →
       (∀ f ∈ codes (epiCodes a b (epiOf b ((x.s (recNat b 11 1)).setWidth 32)) 1 1 0 false false), 0x06 ≤ f) →
       exec (.epi c w) s = .next (g.coreFault c 0x06 (genWord 0x43 w) 0))) ∧
  (∀ (s : State) (c : Fin 144),
     let x := s.core c;
     let free : BitVec 8 → Prop := fun mask => ∀ b, b < 8 → mask.getLsbD b = true → (vget x.banks b Bank.reset).state = .free ∧ x.awaited b = false;
     (∀ w : GenFields, s.fresh c → ({ imm := 8 } : Uses).bad w = false → w.func = 0 →
       (w.imm ≠ 0 → free (w.imm.setWidth 8) → exec (.accwait c w) s = .next ((s.fetch c).setCore c x.go.next)) ∧
       (w.imm ≠ 0 → ¬free (w.imm.setWidth 8) → exec (.accwait c w) s = .next ((s.fetch c).setCore c { x.go with wait := .banks (w.imm.setWidth 8) })) ∧
       (w.imm = 0 → exec (.accwait c w) s = .next ((s.fetch c).coreFault c 0x03 (genWord 0x45 w) 0))) ∧
     (∀ mask, x.wait = .banks mask → (free mask → exec (.accwaitRelease c) s = .next (s.setCore c { x with wait := .none, pc := x.pc + 16 })) ∧
       (¬free mask → exec (.accwaitRelease c) s = .next s)) ∧
     (∀ w : GenFields, s.fresh c → ({ d := true, a := true, imm := 3 } : Uses).bad w = false → w.func = 0 → (x.s w.a.toNat).toNat ≤ 16256 →
       let b := w.imm.toNat;
       let bank := vget x.banks b Bank.reset;
       let debug := (s.objGet 0x3110 0).testBit (s.jobOf c);
       ¬(bank.state = .free ∧ x.awaited b = true) →
       (debug = true → bank.state ≠ .accumulating → Runs (.accrd c w) s (fun t =>
         t = (s.fetch c).setCore c { x.go with vreg := (t.core c).vreg, vPoison := (t.core c).vPoison, pc := x.pc + 16 } ∧
         (∀ r, r ≠ w.d.toNat → (t.core c).v r = x.v r) ∧
         ∀ i, i < 128 →
           let e := if bank.state = .free then AccEntry.reset else tget AccEntry.reset x.acc (16384 * b + (x.s w.a.toNat).toNat + i);
           lane 128 ((t.core c).v w.d.toNat) i = e.entry.toNat + 2 ^ 80 * e.tag.toNat + 2 ^ 96 * (bank.k % 2 ^ 32))) ∧
       (debug = true → bank.state = .accumulating → exec (.accrd c w) s = .next ((s.fetch c).setCore c { x.go with stall := .bank })) ∧
       (debug = false → exec (.accrd c w) s = .next ((s.fetch c).coreFault c 0x0D (genWord 0x46 w) 0))))

/-- When the array is free, no assay that could start there waits and every bank of the tile at the queue head is FREE, TILE_ENTER_ARRAY makes it the tile that streams, its banks become ACCUMULATING with its M, N, K, mode and kind, and outside compact-40 entry 16,384 x b0 + m x N + n of the accumulators holds the reduction of output (m, n); every entry outside the tile's outputs keeps its value. With a bank that is not FREE, another tile streaming or an assay that goes first, nothing changes. While a tile streams and has column folds to come, COLUMN_FOLD_COMPLETE counts one more fold, and changes nothing else when the epilogue does not drain that tile. TILE_ACCUMULATION_COMPLETE ends its streaming: a tile that the epilogue does not drain leaves its banks COMPLETE and joins the completed tiles, and the entries, local memory and registers keep their values. With no tile streaming neither changes anything. (03_core.md R87, 03_core.md R88, 03_core.md R92, 02_number_formats.md R42, 03_core.md R83, 03_core.md R86) -/
def Obligations.ArrayStreaming : Prop :=
  (∀ (s : State) (c : Fin 144) (r : TileRec) (q : List ArrOp),
     let x := s.core c;
     x.arrayQ = .tile r :: q →
     (x.current = none → x.assayNext = none → (∀ i, i < r.banks → (vget x.banks (r.b0 + i) Bank.reset).state = .free) → x.lPoison = [] → (r.active = true → x.statActive.poison = false) →
       Runs (.tileEnterArray c false) s (fun t =>
         let y := t.core c;
         let stat := if r.active then some x.statActive else none;
         y.current = some r ∧ y.folds = 0 ∧
         (∀ i, i < 8 → vget y.banks i Bank.reset = if r.b0 ≤ i ∧ i < r.b0 + r.banks then
             { state := .accumulating, m := r.m, n := r.n, k := r.k, compact := r.compact, kind := r.kind, poison := false, tile := r.seq }
           else vget x.banks i Bank.reset) ∧
         (r.compact = false → ∀ i, i < r.m * r.n → tget AccEntry.reset y.acc (16384 * r.b0 + i) = (r.reduce x.lread stat (i / r.n) (i % r.n)).entry) ∧
         (r.compact = false → ∀ i, i < 16384 * r.b0 ∨ 16384 * r.b0 + r.m * r.n ≤ i → tget AccEntry.reset y.acc i = tget AccEntry.reset x.acc i) ∧
         y.lmem = x.lmem ∧ y.sreg = x.sreg ∧ y.pc = x.pc ∧ y.epiQ = x.epiQ ∧ (r.active = true → q = [] → y.statActive = x.statActive))) ∧
     (∀ residue, x.current ≠ none ∨ x.assayNext ≠ none ∨ (∃ i, i < r.banks ∧ (vget x.banks (r.b0 + i) Bank.reset).state ≠ .free) →
       exec (.tileEnterArray c residue) s = .next s)) ∧
  (∀ (s : State) (c : Fin 144),
     let x := s.core c;
     (x.current = none → exec (.columnFoldComplete c) s = .next s ∧ exec (.tileAccumulationComplete c) s = .next s) ∧
     (∀ r, x.current = some r → (x.draining.map (fun d => d.1.seq)) ≠ some r.seq →
       (x.folds < r.folds → exec (.columnFoldComplete c) s = .next (s.setCore c { x with folds := x.folds + 1 })) ∧
       (r.folds ≤ x.folds → exec (.columnFoldComplete c) s = .next s) ∧
       Runs (.tileAccumulationComplete c) s (fun t =>
         t = s.setCore c { x with current := none, folds := 0, done := x.done ++ [r], banks := (t.core c).banks, ranges := (t.core c).ranges } ∧
         (∀ i, i < 8 → vget (t.core c).banks i Bank.reset = if r.b0 ≤ i ∧ i < r.b0 + r.banks then { vget x.banks i Bank.reset with state := .complete }
           else vget x.banks i Bank.reset) ∧
         (∀ a, a ∈ (t.core c).ranges → a ∈ x.ranges) ∧ (s.assayOf c r.seq = none → ∀ a ∈ (t.core c).ranges, a.holder ≠ 4 * r.seq))))

/-- With no drain in progress and no assay whose banks were COMPLETE earlier, EPILOGUE_DRAIN_START takes the first claimed tile in order of completion, else the claimed tile that streams once a column fold has landed: the next state is the one in which it drains, its banks are DRAINING, its claim has left the queue and the column folds that have landed have been drained; every local byte that its stages do not produce keeps its value. A claim of ACCFREE writes nothing. With nothing to serve, or a drain in progress, it changes nothing. (Which assay comes before a tile is the model's, log 6.) EPILOGUE_DRAIN_COMPLETE of a tile that no longer streams returns its banks to FREE and its entries to their reset state and leaves every other entry (unless the core holds an assay of that very tile, which may then end as well); with no drain in progress it changes nothing. (03_core.md R90, 03_core.md R94, 03_core.md R97) -/
def Obligations.EpilogueDrains : Prop :=
  ∀ (s : State) (c : Fin 144),
    let x := s.core c
    (∀ r e, x.done.findSome? (fun u => (x.epiQ.find? (fun (o : EpiOp) => o.seq == u.seq)).map (fun o => (u, o))) = some (r, e) → x.nextDrain = some (r, e, r.folds)) ∧
    (∀ r e, x.done = [] → x.current = some r → x.folds ≠ 0 → x.epiQ.find? (fun (o : EpiOp) => o.seq == r.seq) = some e → x.nextDrain = some (r, e, x.folds)) ∧
    (∀ r e f, x.draining = none → x.nextAssay = none → x.nextDrain = some (r, e, f) →
      exec (.epilogueDrainStart c) s = .next ((s.setCore c { x with
        draining := some (r, e.block), drainOut := [], epiQ := x.epiQ.filter (fun (o : EpiOp) => o.seq != r.seq)
        done := x.done.filter (fun (o : TileRec) => o.seq != r.seq), banks := setBanks x.banks r.b0 r.banks (fun b => { b with state := .draining }) }).drainFolds c 0 f)) ∧
    (x.draining ≠ none ∨ x.nextAssay ≠ none ∨ x.nextDrain = none → exec (.epilogueDrainStart c) s = .next s) ∧
    (∀ r e f, x.draining = none → x.nextAssay = none → x.nextDrain = some (r, e, f) → x.lPoison = [] →
      Runs (.epilogueDrainStart c) s (fun t =>
        let y := t.core c
        y.draining = some (r, e.block) ∧ y.epiQ = x.epiQ.filter (fun (o : EpiOp) => o.seq != r.seq) ∧ y.done = x.done.filter (fun (o : TileRec) => o.seq != r.seq) ∧
        (∀ i, i < 8 → (vget y.banks i Bank.reset).state = if r.b0 ≤ i ∧ i < r.b0 + r.banks then .draining else (vget x.banks i Bank.reset).state) ∧
        y.sreg = x.sreg ∧ y.vreg = x.vreg ∧ y.pc = x.pc ∧ y.arrayQ = x.arrayQ ∧ y.current = x.current ∧
        (e.block = none → y.lmem = x.lmem) ∧
        (∀ b, e.block = some b →
          let u := s.setCore c { x with draining := some (r, e.block), drainOut := [], epiQ := y.epiQ, done := y.done, banks := y.banks }
          let o := (List.range f).foldl (fun o j => o.join ((u.epiIn c r b).fold (0 + j))) EpiOut.none
          ∀ a, (∀ p ∈ o.dst ++ o.carry, a < p.1 ∨ p.1 + p.2.length ≤ a) → mget zeroByte y.lmem a = mget zeroByte x.lmem a) ∧
        (∀ k, k ≠ c.val → t.core k = s.core k))) ∧
    (∀ r b, x.draining = some (r, b) → (x.current.map (fun u => u.seq)) ≠ some r.seq →
      Runs (.epilogueDrainComplete c) s (fun t =>
        let y := t.core c
        y.draining = none ∧ y.lmem = x.lmem ∧ y.sreg = x.sreg ∧ y.done = x.done ∧ y.epiQ = x.epiQ ∧ y.arrayQ = x.arrayQ ∧
        ((∀ a ∈ x.assays, ¬(a.origin = c.val ∧ a.tile.seq = r.seq)) →
        (∀ i, i < 8 → vget y.banks i Bank.reset = if r.b0 ≤ i ∧ i < r.b0 + r.banks then Bank.reset else vget x.banks i Bank.reset) ∧
        (∀ i, tget AccEntry.reset y.acc i = if 16384 * r.b0 ≤ i ∧ i < 16384 * (r.b0 + r.banks) then AccEntry.reset else tget AccEntry.reset x.acc i)))) ∧
    (x.draining = none → exec (.epilogueDrainComplete c) s = .next s)

/-- ASSAY_TILE_START of the oldest assay that has not started, with a free run of banks, on a core that is awake, not fenced and streams nothing, marks it started at the lowest such run and streams its operands there (with clean operands no memory or register of any core changes), and consumes each poisoned line of them; without a free run, or before the active stationary operand of its tile is known, it waits. ASSAY_TILE_COMPLETE of the assay that the epilogue serves next, which is started and claimed and has not drained, while no other drain runs counts one completed assay and leaves every local memory as it was: the assay keeps its digest while its original has not drained, and otherwise goes, and when the digests differ one mismatch is counted. ASSAY_ABANDON removes an assay that has not started although its original no longer streams, and counts it. Without such an assay nothing changes. (10_integrity.md R350, 10_integrity.md R352) -/
def Obligations.TileAssay : Prop :=
  ∀ (s : State) (c : Fin 144),
    let x := s.core c
    let waiting := x.assays.find? (fun (a : AssayRec) => !a.started)
    let streams : AssayRec → Prop := fun a => (s.core a.origin).unstreamed a.tile.seq = true ∨ ((s.core a.origin).current.map (fun u => u.seq)) = some a.tile.seq
    (∀ a b, waiting = some a → x.freeRun a.tile.banks = some b → (a.tile.active = true → a.stat ≠ none) → x.sleep = .awake → x.fenced = false → x.current = none →
      ((s.core a.origin).poisonedLines a.tile.operandRanges ≠ [] → Runs (.assayTileStart c) s (fun t =>
        ∀ l ∈ (s.core a.origin).poisonedLines a.tile.operandRanges, ∃ e ∈ t.mem.poisonLog, e.line = lmemLine a.origin l ∧ e.unit = c.val)) ∧
      ((s.core a.origin).poisonedLines a.tile.operandRanges = [] →
      Runs (.assayTileStart c) s (fun t =>
        let y := t.core c
        (∃ r ∈ y.assays, r.origin = a.origin ∧ r.tile.seq = a.tile.seq ∧ r.started = true ∧ r.bank = b) ∧ y.assays.length = x.assays.length ∧
        (∀ i, b ≤ i → i < b + a.tile.banks → i < 8 → (vget y.banks i Bank.reset).state = .accumulating) ∧
        (∀ k, (t.core k).lmem = (s.core k).lmem ∧ (t.core k).sreg = (s.core k).sreg)))) ∧
    (∀ a, x.nextAssay = some a → a ∈ x.assays ∧ a.started = true ∧ a.claimed = true ∧ a.digest = none) ∧
    (∀ a, x.draining = none → x.nextAssay = some a → Runs (.assayTileComplete c) s (fun t =>
      t.objGet 0x3204 5 = min (2 ^ 64 - 1) (s.objGet 0x3204 5 + 1) ∧
      (∀ k, (t.core k).lmem = (s.core k).lmem) ∧
      (a.originDigest = none → t.objGet 0x3204 6 = s.objGet 0x3204 6 ∧ ∀ r ∈ (t.core c).assays, r.origin = a.origin → r.tile.seq = a.tile.seq → r.digest ≠ none) ∧
      (a.originDigest ≠ none →
        (∀ r ∈ (t.core c).assays, r ∈ x.assays ∧ ¬(r.origin = a.origin ∧ r.tile.seq = a.tile.seq)) ∧
        (t.objGet 0x3204 6 = s.objGet 0x3204 6 ∨ t.objGet 0x3204 6 = min (2 ^ 64 - 1) (s.objGet 0x3204 6 + 1))))) ∧
    (∀ a, waiting = some a → ¬streams a → Runs (.assayAbandon c) s (fun t =>
      t.objGet 0x3204 7 = min (2 ^ 64 - 1) (s.objGet 0x3204 7 + 1) ∧
      (∀ r ∈ (t.core c).assays, r ∈ x.assays ∧ ¬(r.origin = a.origin ∧ r.tile.seq = a.tile.seq)) ∧
      (∀ k, (t.core k).lmem = (s.core k).lmem))) ∧
    (waiting = none → exec (.assayTileStart c) s = .next s ∧ exec (.assayAbandon c) s = .next s) ∧
    (x.draining ≠ none ∨ x.nextAssay = none → exec (.assayTileComplete c) s = .next s) ∧
    (∀ a, waiting = some a → x.freeRun a.tile.banks = none ∨ (a.tile.active = true ∧ a.stat = none) → exec (.assayTileStart c) s = .next s)

/-- On a clean core that takes an instruction whose control block has no fault and with no access in flight: ROWSTAT writes the statistics of row i of X to slot SLOT + i; ROWSV SAVE writes the eight bytes of each slot to X, and RESTORE writes the slots from there; ROWCOMB PART writes the record of each row's raw sums to row i of Y (rows of Y that do not meet each other or a later row of X); JOIN writes the slot that the part records combine to, or, when the combination is rejected, no slot and the code 0x80 in ASYNC. A reserved FUNC faults with code 0x03. (That the two rows of ROWSV and of ROWCOMB take FUNC 0 and 1 for the FUNC each stands for is the model's, log 8; that a rejected JOIN reports as a tile does, log 44.) Every other slot, every other byte of local memory and every register keeps its value and the PC advances. (04_instruction_set.md R143, 04_instruction_set.md R144, 05_training_datapaths.md R166, 05_training_datapaths.md R169) -/
def Obligations.RowStatistics : Prop :=
  ∀ (s : State) (c : Fin 144) (w : GenFields), s.fresh c → (s.core c).ranges = [] → ({ a := true } : Uses).bad w = false →
    let g := s.fetch c
    let x := s.core c
    let a := (x.s w.a.toNat).toNat
    let b := x.lread a 64
    let r := rowRecOf b
    let pair : FVal × FVal → Word := fun v => BitVec.ofNat 64 (v.1.bits32 + 2 ^ 32 * v.2.bits32)
    let slots : State → Nat → (Nat → Word) → Prop := fun t n v =>
      { t with obj := g.obj } = g.setCore c { x.go with side := (t.core c).side, pc := x.pc + 16 } ∧
      ∀ i, tget 0 (t.core c).side i = if r.slot ≤ i ∧ i < r.slot + n then v (i - r.slot) else tget 0 x.side i
    let stores : State → List (Nat × Nat) → Prop := fun t l =>
      t = g.setCore c { x.go with lmem := (t.core c).lmem, lPoison := (t.core c).lPoison, pc := x.pc + 16 } ∧
      ∀ p, (∀ q ∈ l, p < q.1 ∨ q.1 + q.2 ≤ p) → mget zeroByte (t.core c).lmem p = mget zeroByte x.lmem p
    (w.func ≤ 2 → codes (rowCodes a b r { reads := r.rowsAt r.x r.xPitch r.rowLen, slots := r.rows }) = [] →
      Runs (.rowstat c w) s (fun t => slots t r.rows (fun i => pair (rowStat w.func.toNat r.fmt (x.rowAt r (r.x + i * r.xPitch)) (f32 r.eps))))) ∧
    (w.func ≤ 1 → codes (rowCodes a b r { writes := [(r.x, 8 * r.rows)], len := false, xPitch := false, slots := r.rows }) = [] →
      Runs (.rowsvSave c w) s (fun t => stores t [(r.x, 8 * r.rows)] ∧
        ∀ i, i < r.rows → leNat ((t.core c).lread (r.x + 8 * i) 8) = (tget 0 x.side (r.slot + i)).toNat)) ∧
    (w.func ≤ 1 → codes (rowCodes a b r { reads := [(r.x, 8 * r.rows)], len := false, xPitch := false, slots := r.rows }) = [] →
      Runs (.rowsvRestore c w) s (fun t => slots t r.rows (fun i => BitVec.ofNat 64 (leNat (x.lread (r.x + 8 * i) 8))))) ∧
    (w.func ≤ 1 → codes (rowCodes a b r { reads := r.rowsAt r.x r.xPitch r.rowLen, writes := r.rowsAt r.y r.yPitch 64, yPitch := true }) = [] →
      Runs (.rowcombPart c w) s (fun t => stores t (r.rowsAt r.y r.yPitch 64) ∧
        ((∀ i j, j < i → i < r.rows → r.y + j * r.yPitch + 64 ≤ r.y + i * r.yPitch ∧
            (r.y + j * r.yPitch + 64 ≤ r.x + i * r.xPitch ∨ r.x + i * r.xPitch + r.rowLen ≤ r.y + j * r.yPitch)) →
          ∀ i, i < r.rows → (t.core c).lread (r.y + i * r.yPitch) 64 = partRecord r.fmt (x.rowAt r (r.x + i * r.xPitch))))) ∧
    (w.func ≤ 1 → codes (rowCodes a b r { reads := [(r.y, 64 * r.rows)], len := false, xPitch := false, slots := 1 }) = [] →
      let j := joinSlot (chunks 64 (x.lread r.y (64 * r.rows))) (f32 r.eps)
      (∀ v, j.1 = some v → Runs (.rowcombJoin c w) s (fun t => slots t 1 (fun _ => pair v))) ∧
      (j.1 = none → Runs (.rowcombJoin c w) s (fun t => { t with obj := g.obj } = g.setCore c { x.go with async := x.async ||| 1, pc := x.pc + 16 }))) ∧
    (3 ≤ w.func → codes (rowCodes a b r { reads := r.rowsAt r.x r.xPitch r.rowLen, slots := r.rows }) = [] → exec (.rowstat c w) s = .next (g.coreFault c 0x03 (genWord 0x50 w) 0)) ∧
    (2 ≤ w.func → codes (rowCodes a b r { reads := [(r.y, 64 * r.rows)], len := false, xPitch := false, slots := 1 }) = [] →
      exec (.rowcombJoin c w) s = .next (g.coreFault c 0x03 (genWord 0x53 w) 0))

/-- On a clean core that takes an instruction whose control block has no fault and with no access in flight: ROWAPPLY writes, for each row, the normalisation of row i of X with slot SLOT + i to row i of Y; ROWBWD writes the input gradient of row i there and combines the exact sums over the rows into the XA80 gain and bias gradients, of which a rejected combination leaves the stored value and sets code 0x80 in ASYNC. The values hold where no row of Y meets another one, a later row of X or dY, the gain or bias, or a gradient sum. Every other byte of local memory, the side memory and every register keeps its value and the PC advances. (04_instruction_set.md R144, 05_training_datapaths.md R166, 05_training_datapaths.md R167) -/
def Obligations.RowNormalise : Prop :=
  ∀ (s : State) (c : Fin 144) (w : GenFields), s.fresh c → (s.core c).ranges = [] → ({ a := true } : Uses).bad w = false → w.func ≤ 2 →
    let g := s.fetch c
    let x := s.core c
    let a := (x.s w.a.toNat).toNat
    let b := x.lread a 64
    let r := rowRecOf b
    let f := w.func.toNat
    let meets : Nat × Nat → Nat × Nat → Prop := fun p q => p.1 < q.1 + q.2 ∧ q.1 < p.1 + p.2
    let rowY : Nat → Nat × Nat := fun i => (r.y + i * r.yPitch, r.rowLen)
    let stores : State → List (Nat × Nat) → Prop := fun t l =>
      { t with obj := g.obj } = g.setCore c { x.go with lmem := (t.core c).lmem, lPoison := (t.core c).lPoison, async := (t.core c).async, pc := x.pc + 16 } ∧
      ∀ p, (∀ q ∈ l, p < q.1 ∨ q.1 + q.2 ≤ p) → mget zeroByte (t.core c).lmem p = mget zeroByte x.lmem p
    let clear : List (Nat × Nat) → Prop := fun l => ∀ i, i < r.rows →
      (∀ q ∈ l, ¬meets (rowY i) q) ∧ ∀ j, j < i → ¬meets (rowY j) (rowY i) ∧ ¬meets (rowY j) (r.x + i * r.xPitch, r.rowLen) ∧ ¬meets (rowY j) (r.dy + i * r.xPitch, r.rowLen)
    let sl : Nat → FVal × FVal := fun i => x.slotVals (r.slot + i)
    (codes (rowCodes a b r { reads := r.rowsAt r.x r.xPitch r.rowLen ++ r.affineRanges f, writes := r.rowsAt r.y r.yPitch r.rowLen, yPitch := true, slots := r.rows }) = [] →
      Runs (.rowapply c w) s (fun t => stores t (r.rowsAt r.y r.yPitch r.rowLen) ∧ (t.core c).async = x.async ∧
        (clear (r.affineRanges f) → ∀ i, i < r.rows → (t.core c).lread (r.y + i * r.yPitch) r.rowLen =
          rowStore r (rowApply f (x.rowAt r (r.x + i * r.xPitch)) (sl i).1 (sl i).2
            (fun k => if r.gainEn then x.f32At r.gain k else natVal 1) (fun k => if r.biasEn then x.f32At r.bias k else .zero))))) ∧
    (codes (rowCodes a b r { reads := r.bwdReads f ++ r.sumRanges f, writes := r.rowsAt r.y r.yPitch r.rowLen ++ r.sumRanges f, yPitch := true, slots := r.rows }) = [] →
      Runs (.rowbwd c w) s (fun t => stores t (r.rowsAt r.y r.yPitch r.rowLen ++ r.sumRanges f) ∧
        (clear ((if f < 2 && r.gainEn then [(r.gain, 4 * r.len)] else []) ++ r.sumRanges f) → ¬meets (r.dgain, 16 * r.len) (r.dbias, 16 * r.len) →
          (∀ i, i < r.rows → (t.core c).lread (r.y + i * r.yPitch) r.rowLen =
            rowStore r (rowBwd f (x.rowAt r (r.x + i * r.xPitch)) (x.rowAt r (r.dy + i * r.xPitch)) (sl i).1 (sl i).2 (if r.gainEn then some (fun k => x.f32At r.gain k) else none))) ∧
          ((t.core c).async = if (x.gradSums r f).any (fun g => (combine [Win.ofXa80 (leNat (x.lread g.1 16)), g.2]).isNone) then x.async ||| 1 else x.async) ∧
          ∀ g ∈ x.gradSums r f, leNat ((t.core c).lread g.1 16) =
            match combine [Win.ofXa80 (leNat (x.lread g.1 16)), g.2] with
            | some v => v.1.xa80 % 2 ^ 128
            | none => leNat (x.lread g.1 16))))

/-- On a clean core that takes an instruction, with no recorded input due: when no channel that it needs is offline for retraining and no error waits in the memories, a GLD of an assigned, line-aligned address of this device gives each active lane its four bytes of the line that any reader sees, and leaves every other lane and register; while a channel that it needs is offline the core waits (log 47). A GLD of another device waits for the data. A GST to local memory of this device leaves each active lane's bytes in place and every byte of the lines that no active lane covers; a GST to another device leaves an unacknowledged request with its number, and the 65th unacknowledged one waits. An address off a line boundary faults with code 0x08 and an unassigned one with 0x09. (04_instruction_set.md R147, 06_memory.md R199, 06_memory.md R202) -/
def Obligations.GlobalAccess : Prop :=
  ∀ (s : State) (c : Fin 144) (w : GenFields), s.fresh c → s.appliesInputs = false → w.func = 0 →
    let f := s.fetch c
    let x := s.core c
    let p := x.p w.pred.toNat
    let g := (x.s w.a.toNat + w.imm).toNat
    let usesG := ({ d := true, a := true, pred := true, imm := 64 } : Uses).bad w = false
    let usesP := ({ a := true, b := true, pred := true, imm := 64 } : Uses).bad w = false
    let send := x.skip = 0 ∧ x.groupFull false = false ∧ (s.gstsOut c).length < 64
    (∀ a, usesG → g % 64 = 0 → reachOf g = .here a → s.unreachable (reachOf g) p = false → s.offline ((segsOf p).map (fun i => a / 64 + i)) s.missChan = true →
      exec (.gld c w) s = .next (f.setCore c { x.go with stall := .memory })) ∧
    (∀ a, usesG → g % 64 = 0 → reachOf g = .here a → s.unreachable (reachOf g) p = false → s.offline ((segsOf p).map (fun i => a / 64 + i)) s.missChan = false →
      f.errorFree →
      Runs (.gld c w) s (fun t =>
        let y := t.core c
        y.pc = x.pc + 16 ∧ y.sreg = x.sreg ∧ y.preg = x.preg ∧ y.lmem = x.lmem ∧ y.wait = .none ∧ (∀ r, r ≠ w.d.toNat → y.v r = x.v r) ∧
        ∀ i, i < 512 → lane 32 (y.v w.d.toNat) i =
          if p.getLsbD i then (f.line (a / 64 + i / 16)).1.toNat / 2 ^ (32 * (i % 16)) % 2 ^ 32 else lane 32 (x.v w.d.toNat) i)) ∧
    (∀ e a, usesG → g % 64 = 0 → reachOf g = .there e a → p ≠ 0 →
      Runs (.gld c w) s (fun t => (t.core c).wait = .gld w.d w.pred ∧ (t.core c).vreg = x.vreg ∧ (t.core c).sreg = x.sreg)) ∧
    (∀ a, usesP → send → g % 64 = 0 → reachOf g = .here a → (∀ i, i < 32 → ∃ k o, s.home (a + 64 * i) = some (.localMem k o)) →
      Runs (.gst c w) s (fun t =>
        (t.core c).pc = x.pc + 16 ∧ (t.core c).vreg = x.vreg ∧ (t.core c).sreg = x.sreg ∧ (t.core c).effects.count = x.effects.count + 1 ∧
        (∀ i, i < 512 → (t.line (a / 64 + i / 16)).1.toNat / 2 ^ (32 * (i % 16)) % 2 ^ 32 =
          if p.getLsbD i then lane 32 (x.v w.b.toNat) i else (f.line (a / 64 + i / 16)).1.toNat / 2 ^ (32 * (i % 16)) % 2 ^ 32) ∧
        ∀ l, (∀ i, i < 32 → l ≠ a / 64 + i) → t.line l = f.line l)) ∧
    (∀ e a, usesP → send → g % 64 = 0 → reachOf g = .there e a → p ≠ 0 →
      Runs (.gst c w) s (fun t => x.reqSeq ∈ (t.gstsOut c) ∧ (t.core c).reqSeq = x.reqSeq + 1 ∧ (t.core c).pc = x.pc + 16)) ∧
    (usesP → g % 64 = 0 → s.unreachable (reachOf g) p = false → x.groupFull false = false → 64 ≤ (s.gstsOut c).length →
      Runs (.gst c w) s (fun t => t = f.setCore c { x.go with stall := .gstLimit })) ∧
    (usesG → g % 64 ≠ 0 → Runs (.gld c w) s (fun t => t = f.coreFault c 0x08 (genWord 0x62 w) 0)) ∧
    (usesG → g % 64 = 0 → s.unreachable (reachOf g) p = true → Runs (.gld c w) s (fun t => t = f.coreFault c 0x09 (genWord 0x62 w) 0))

/-- On a clean core that takes an instruction, with no access in flight, REGION LINEAR and DIAGONAL with an aligned, non-empty region in local memory that overlaps no other enabled region write descriptor IMM; DISABLE disables it. When the descriptor changes, every byte of the region that it described and of the new one reads 0; a descriptor that does not change fills nothing. Every other byte, every other descriptor and every register keeps its value and the PC advances. A region of size 0 faults with code 0x03. (04_instruction_set.md R148, 03_core.md R100) -/
def Obligations.Regions : Prop :=
  ∀ (s : State) (c : Fin 144) (w : GenFields), s.fresh c → (s.core c).ranges = [] →
    let x := s.core c
    let n := w.imm.toNat
    let a := (x.s w.a.toNat).toNat
    let b := (x.s w.b.toNat).toNat
    let p := (x.s w.c.toNat).toNat
    let old := vget x.regions n Region.reset
    let inside : Nat × Nat → Nat → Prop := fun r q => r.1 ≤ q ∧ q < r.1 + r.2
    let done : State → Region → Prop := fun t new =>
      t = (s.fetch c).setCore c { x.go with lmem := (t.core c).lmem, lPoison := (t.core c).lPoison, regions := vset x.regions n new, pc := x.pc + 16 } ∧
      (∀ q, (old ≠ new ∧ (old.enabled = true ∨ new.enabled = true) → inside old.span q ∨ inside new.span q → mget zeroByte (t.core c).lmem q = 0) ∧
        (old = new ∨ (¬inside old.span q ∧ ¬inside new.span q) → mget zeroByte (t.core c).lmem q = mget zeroByte x.lmem q))
    let ok := ({ func := false, a := true, b := true, c := true, imm := 4 } : Uses).bad { w with func := 0 } = false ∧ a % 65536 = 0 ∧ b % 65536 = 0 ∧ p % 64 = 0 ∧ 64 ≤ p ∧ p ≤ 65536 ∧
      a + b ≤ 2 ^ 22 ∧ ∀ i, i < 16 → i ≠ n → ¬((vget x.regions i Region.reset).span.1 < a + b ∧ a < (vget x.regions i Region.reset).span.1 + (vget x.regions i Region.reset).span.2)
    let region : Bool → Region := fun d => { enabled := true, base := BitVec.ofNat 32 a, size := BitVec.ofNat 32 b, diagonal := d, pitch := BitVec.ofNat 32 p }
    (ok → 0 < b → Runs (.regionLinear c w) s (fun t => done t (region false)) ∧ Runs (.regionDiagonal c w) s (fun t => done t (region true))) ∧
    (ok → b = 0 → Runs (.regionLinear c w) s (fun t => t = (s.fetch c).coreFault c 0x03 (genWord 0x64 { w with func := 0 }) 0)) ∧
    (({ imm := 4 } : Uses).bad { w with func := 0 } = false → w.func ≤ 2 → old.enabled = true →
      Runs (.regionDisable c w) s (fun t => done t { old with enabled := false }))

/-- On a clean core that takes an instruction and names a counter of its job, outside a replay and with room for an effect instruction, CADD applies its add to the counter and writes to sD the old value in bits [31:0] and the flags as they stand after the add in bits 32 (OVF) and 33 (UNF), with bits [63:34] zero; CRD writes the current value and flags in the same positions and changes no counter. No other register changes and the PC advances. (R313) -/
def Obligations.CounterReturns : Prop :=
  ∀ (s : State) (c : Fin 144) (w : GenFields), s.fresh c → w.func = 0 →
    let x := s.core c
    let n := (w.imm.toNat % 65536 + (x.s w.a.toNat).toNat % 65536) % 65536
    let word : Nat → Counter → Nat := fun v k => v + (if k.ovf then 2 ^ 32 else 0) + (if k.unf then 2 ^ 33 else 0)
    s.counterOwner n = s.jobOf c →
    (({ d := true, a := true, b := true, imm := 16 } : Uses).bad w = false → x.skip = 0 → x.groupFull true = false → s.jobOf c < 8 →
      Runs (.cadd c w) s (fun t =>
        t.counter n = (s.counter n).add (x.add32 w.b.toNat) ∧ (∀ m, m < 65536 → m ≠ n → t.counter m = s.counter m) ∧
        (w.d ≠ 0 → ((t.core c).s w.d.toNat).toNat = word (s.counter n).val.toNat (t.counter n)) ∧
        (∀ r, r ≠ w.d.toNat → (t.core c).s r = x.s r) ∧ (t.core c).vreg = x.vreg ∧ (t.core c).lmem = x.lmem ∧ (t.core c).pc = x.pc + 16)) ∧
    (({ d := true, a := true, imm := 16 } : Uses).bad w = false →
      Runs (.crd c w) s (fun t => t = (s.fetch c).setCore c { x.go with sreg := (t.core c).sreg, sPoison := (t.core c).sPoison, pc := x.pc + 16 } ∧
        (w.d ≠ 0 → ((t.core c).s w.d.toNat).toNat = word (s.counter n).val.toNat (s.counter n)) ∧ ∀ r, r ≠ w.d.toNat → (t.core c).s r = x.s r))

/-- An add of a signed 32-bit value gives the exact sum held within 0 and 0xFFFFFFFF, sets OVF when the sum lies above and UNF when it lies below and clears neither. On a clean core that takes an instruction, outside a replay, a CSIG to this device adds to the counter when a job owns its block and changes no counter otherwise, and no other counter changes; a CSIG to another endpoint leaves an unacknowledged request with its number and changes no counter of this device. (09_sync_collectives.md R311, 09_sync_collectives.md R315, 09_sync_collectives.md R317) -/
def Obligations.CounterSaturates : Prop :=
  (∀ (k : Counter) (a : Int), -2 ^ 31 ≤ a → a < 2 ^ 31 →
    ((k.add a).val.toNat : Int) = max 0 (min (2 ^ 32 - 1) (k.val.toNat + a)) ∧
    ((k.add a).ovf = true ↔ k.ovf = true ∨ (2 ^ 32 - 1 : Int) < k.val.toNat + a) ∧ ((k.add a).unf = true ↔ k.unf = true ∨ (k.val.toNat + a : Int) < 0)) ∧
  ∀ (s : State) (c : Fin 144) (w : GenFields), s.fresh c → s.appliesInputs = false → w.func = 0 → ({ a := true, b := true, imm := 16 } : Uses).bad w = false →
    let x := s.core c
    let e := x.s w.a.toNat
    let n := w.imm.toNat
    x.skip = 0 → x.groupFull false = false → bits e.toNat 62 17 = 0 →
    (e.getLsbD 63 = true → Runs (.csig c w) s (fun t =>
      (t.core c).pc = x.pc + 16 ∧ (t.core c).sreg = x.sreg ∧ (t.core c).effects.count = x.effects.count + 1 ∧
      t.counter n = (if s.counterOwner n < 8 then (s.counter n).add (x.add32 w.b.toNat) else s.counter n) ∧
      ∀ m, m < 65536 → m ≠ n → t.counter m = s.counter m)) ∧
    (e.getLsbD 63 = false → Runs (.csig c w) s (fun t =>
      (t.core c).pc = x.pc + 16 ∧ x.reqSeq ∈ t.csigsOut c ∧ (t.core c).reqSeq = x.reqSeq + 1 ∧ t.sync.counters = s.sync.counters))

/-- On a clean core that takes an instruction and names a counter of its job, CWAIT whose condition holds (GE unsigned, EQ) writes 0 to sD and goes on; otherwise the core waits at its PC. CWAIT_SATISFIED ends the wait with status 0 once the condition holds, CWAIT_LIMIT_EXPIRY of a wait with a limit ends it with status 1, and neither does anything else; without a limit an expiry changes nothing. A counter that the job does not own faults with code 0x03. On a clean core of the mask of an OPEN core-kind slot that its job owns, outside a replay: a first arrival is counted, and the last one completes the phase, whose number rises by one, with no arrival left; an arrival ahead is held for the next phase, and a further one stalls. BARWAIT of a core waits for the phase of its latest arrival, or goes on with status 0 when that phase has completed; on a slot that became ORPHANED while the job owned it it returns 2 at once. BARWAIT_RELEASE ends a wait with status 0 once its phase has passed, BARWAIT_LIMIT_EXPIRY with status 1. A slot of another job faults with code 0x03. (04_instruction_set.md R149, 04_instruction_set.md R150, 09_sync_collectives.md R314, 09_sync_collectives.md R316, 09_sync_collectives.md R321, 09_sync_collectives.md R322) -/
def Obligations.SyncWaits : Prop :=
  (∀ (s : State) (c : Fin 144),
     let x := s.core c;
     let holds : BitVec 16 → Bool → BitVec 32 → Prop := fun n eq v => if eq then (s.counter n.toNat).val = v else v.toNat ≤ (s.counter n.toNat).val.toNat;
     let ends : BitVec 5 → Nat → State := fun d k => s.setCore c (({ x with wait := .none } : Core).setS d.toNat (BitVec.ofNat 64 k) false).next;
     (∀ w : GenFields, s.fresh c → ({ d := true, a := true, b := true, c := true, imm := 16 } : Uses).bad w = false → w.func ≤ 1 →
       let n := BitVec.ofNat 16 (w.imm.toNat % 65536 + (x.s w.a.toNat).toNat % 65536);
       let v : BitVec 32 := (x.s w.b.toNat).setWidth 32;
       (s.counterOwner n.toNat = s.jobOf c → holds n (w.func == 1) v → exec (.cwait c w) s = .next ((s.fetch c).setCore c (x.go.setS w.d.toNat 0 false).next)) ∧
       (s.counterOwner n.toNat = s.jobOf c → ¬holds n (w.func == 1) v →
         exec (.cwait c w) s = .next ((s.fetch c).setCore c { x.go with wait := .counter n (w.func == 1) v w.d (x.s w.c.toNat != 0) })) ∧
       (s.counterOwner n.toNat ≠ s.jobOf c → exec (.cwait c w) s = .next ((s.fetch c).coreFault c 0x03 (genWord 0x71 w) 0))) ∧
     (∀ n eq v d limited, x.wait = .counter n eq v d limited →
       (holds n eq v → exec (.cwaitSatisfied c) s = .next (ends d 0)) ∧ (¬holds n eq v → exec (.cwaitSatisfied c) s = .next s) ∧
       exec (.cwaitLimitExpiry c) s = .next (if limited then ends d 1 else s))) ∧
  (∀ (s : State) (c : Fin 144),
     let x := s.core c;
     let ends : BitVec 5 → Nat → State := fun d k => s.setCore c (({ x with wait := .none } : Core).setS d.toNat (BitVec.ofNat 64 k) false).next;
     (∀ w : GenFields, s.fresh c → ({ imm := 8 } : Uses).bad w = false → w.func = 0 → x.skip = 0 → x.groupFull false = false →
       let i := w.imm.toNat;
       let k := s.slot i;
       let me := BitVec.twoPow 144 c;
       (s.slotOwner i = s.jobOf c → k.mask.getLsbD c = true → k.state = .opened → k.group = false → k.next = 0 →
         let out : State → Slot → Prop := fun t y => t.slot i = { y with everArrived := k.everArrived ||| me } ∧ (∀ m, m ≠ i → t.slot m = s.slot m) ∧
           { t with sync := s.sync, obj := (s.fetch c).obj } = (s.fetch c).setCore c { x.go with effects := { x.effects with count := x.effects.count + 1 }, pc := x.pc + 16 };
         (k.arrived.getLsbD c = false → (k.arrived ||| me) &&& k.mask = k.mask → Runs (.barrive c w) s (fun t =>
           out t { k with phase := k.phase + 1, arrived := 0, sent := false, kids := (t.slot i).kids })) ∧
         (k.arrived.getLsbD c = false → (k.arrived ||| me) &&& k.mask ≠ k.mask → Runs (.barrive c w) s (fun t => out t { k with arrived := k.arrived ||| me })) ∧
         (k.arrived.getLsbD c = true → k.arrived &&& k.mask ≠ k.mask → Runs (.barrive c w) s (fun t => out t { k with next := me }))) ∧
       (s.slotOwner i = s.jobOf c → k.mask.getLsbD c = true → k.next.getLsbD c = true → exec (.barrive c w) s = .next ((s.fetch c).setCore c { x.go with stall := .barrierAhead })) ∧
       (s.slotOwner i ≠ s.jobOf c ∨ k.mask.getLsbD c = false → exec (.barrive c w) s = .next ((s.fetch c).coreFault c 0x03 (genWord 0x73 w) 0))) ∧
     (∀ w : GenFields, s.fresh c → ({ d := true, c := true, imm := 8 } : Uses).bad w = false → w.func = 0 →
       let i := w.imm.toNat;
       let k := s.slot i;
       let waits : BitVec 32 → Prop := fun p => exec (.barwait c w) s = .next ((s.fetch c).setCore c { x.go with wait := .barrier (BitVec.ofNat 8 i) p w.d (x.s w.c.toNat != 0) });
       let gone := k.state = .orphaned ∧ tget 8 s.sync.orphanOf (256 + i) = s.jobOf c;
       (gone → exec (.barwait c w) s = .next ((s.fetch c).setCore c (x.go.setS w.d.toNat 2 false).next)) ∧
       (¬gone → s.slotOwner i ≠ s.jobOf c → exec (.barwait c w) s = .next ((s.fetch c).coreFault c 0x03 (genWord 0x74 w) 0)) ∧
       (¬gone → s.slotOwner i = s.jobOf c →
         (k.next.getLsbD c = true → waits (k.phase + 1)) ∧
         (k.next.getLsbD c = false → k.arrived.getLsbD c = true ∨ k.everArrived.getLsbD c = false → waits k.phase) ∧
         (k.next.getLsbD c = false → k.arrived.getLsbD c = false → k.everArrived.getLsbD c = true → exec (.barwait c w) s = .next ((s.fetch c).setCore c (x.go.setS w.d.toNat 0 false).next)))) ∧
     (∀ i p d limited, x.wait = .barrier i p d limited →
       (0 < ((s.slot i.toNat).phase - p).toInt → exec (.barwaitRelease c) s = .next (ends d 0)) ∧
       (((s.slot i.toNat).phase - p).toInt ≤ 0 → exec (.barwaitRelease c) s = .next s) ∧
       exec (.barwaitLimitExpiry c) s = .next (if limited then ends d 1 else s)))

/-- On a clean core that takes an instruction, FENCE LOCAL goes on when no access of the array, the loader, the epilogue or the row engine to local memory is outstanding, GLOBAL when every GST, CSIG and CADD is acknowledged, ALL when both hold and the array queue and the epilogue queue are empty; otherwise the core waits at its PC and FENCE_RELEASE lets it go on once that holds and changes nothing before. A DMA's writes count once the program has seen them complete, so no fence waits for a running DMA. (R151) -/
def Obligations.Fences : Prop :=
  ∀ (s : State) (c : Fin 144),
    let x := s.core c
    let quiet := x.arrayQ = [] ∧ x.current = none ∧ x.loadBusy = false ∧ x.epiQ = [] ∧ x.draining = none
    let acked := s.gstsOut c = [] ∧ s.csigsOut c = []
    (∀ w : GenFields, s.fresh c → ({ func := false } : Uses).bad { w with func := 0 } = false →
      (quiet → exec (.fenceLocal c w) s = .next ((s.fetch c).setCore c x.go.next)) ∧ (¬quiet → exec (.fenceLocal c w) s = .next ((s.fetch c).setCore c { x.go with wait := .fenceLocal })) ∧
      (acked → exec (.fenceGlobal c w) s = .next ((s.fetch c).setCore c x.go.next)) ∧ (¬acked → exec (.fenceGlobal c w) s = .next ((s.fetch c).setCore c { x.go with wait := .fenceGlobal })) ∧
      (w.func ≤ 2 → (quiet ∧ acked → exec (.fenceAll c w) s = .next ((s.fetch c).setCore c x.go.next)) ∧
        (¬(quiet ∧ acked) → exec (.fenceAll c w) s = .next ((s.fetch c).setCore c { x.go with wait := .fenceAll })))) ∧
    (x.wait = .fenceLocal → exec (.fenceRelease c) s = .next (if quiet then s.setCore c { x with wait := .none, pc := x.pc + 16 } else s)) ∧
    (x.wait = .fenceGlobal → exec (.fenceRelease c) s = .next (if acked then s.setCore c { x with wait := .none, pc := x.pc + 16 } else s)) ∧
    (x.wait = .fenceAll → exec (.fenceRelease c) s = .next (if quiet ∧ acked then s.setCore c { x with wait := .none, pc := x.pc + 16 } else s))

/-- On a clean core that takes an instruction, outside a replay and with room for an effect instruction, with no write in flight over the descriptor and no error waiting in the memories, a DMAQ of a descriptor at an aligned address of local memory reads the records it names through their home Tun (after which the core still takes the instruction), and when its checks find nothing puts the request at the end of the engine's queue with the engine's next sequence number, writes that number to sD, counts the descriptor and goes on. A descriptor with a code faults with code 0x13 and carries the smallest code, and is counted; a full queue of 16 makes it wait. The smallest code is the model's choice among several. When the head of the engine's queue has the row's operation, fewer than four descriptors run, no running one overlaps it with a write on either side and the channel of an ATOMIC of this device is not offline for retraining and the core is not fenced, the row takes it from the queue, makes it run and begins it: a move (COPY, GATHER, SCATTER, SCATTER_ADD, WINDOW), the memory-side request of an ATOMIC, or a SCAN or COMBINE that joins those of its Grist. Otherwise nothing changes. A move that copies a tensor onto itself, or whose index list holds a bad index in error mode (code 0x0709), moves nothing; it has read the lines of GRID that it needs. (04_instruction_set.md R146, 07_data_movement.md R245, 07_data_movement.md R247, 07_data_movement.md R246, 07_data_movement.md R250, 07_data_movement.md R254, 07_data_movement.md R259, 07_data_movement.md R262) -/
def Obligations.DmaIssue : Prop :=
  (∀ (s : State) (c : Fin 144) (w : GenFields), ({ d := true, a := true } : Uses).bad w = false → w.func ≤ 1 →
     let x := s.core c;
     let a := (x.s w.a.toNat).toNat;
     let e := w.func.toNat;
     let u := s.dmaTouch c true (x.lread a 64);
     let p := u.dmaPlan (x.lread a 64) (s.jobOf c) x.stream;
     let d := vget x.dma e DmaEngine.reset;
     u.fresh c →
     a % 64 = 0 → a + 64 ≤ 2 ^ 22 → x.conflict a (a + 64) false = false → s.errorFree → p.poison = [] →
     (p.codes = [] → x.skip = 0 → x.groupFull false = false → d.queue.length < 16 → Runs (.dmaq c w) s (fun t =>
       let y := t.core c;
       vget y.dma e DmaEngine.reset = { d with queue := d.queue ++ [{ p.req with seq := d.nextSeq }], nextSeq := d.nextSeq + 1 } ∧
       vget y.dma (1 - e) DmaEngine.reset = vget x.dma (1 - e) DmaEngine.reset ∧
       (w.d ≠ 0 → y.s w.d.toNat = d.nextSeq.setWidth 64) ∧ (∀ r, r ≠ w.d.toNat → y.s r = x.s r) ∧
       y.vreg = x.vreg ∧ y.lmem = x.lmem ∧ y.effects.count = x.effects.count + 1 ∧ y.pc = x.pc + 16 ∧
       t.objGet 0x4040 0 = min (2 ^ 64 - 1) (s.objGet 0x4040 0 + 1) ∧ ∀ k, k ≠ c.val → t.core k = s.core k)) ∧
     (∀ f, f ∈ p.codes → (∀ g ∈ p.codes, f ≤ g) → Runs (.dmaq c w) s (fun t =>
       { t with obj := (u.fetch c).obj } = (u.fetch c).coreFault c 0x13 (genWord 0x60 w) f ∧ t.objGet 0x4040 1 = min (2 ^ 64 - 1) (s.objGet 0x4040 1 + 1))) ∧
     (p.codes = [] → x.skip = 0 → x.groupFull false = false → 16 ≤ d.queue.length → exec (.dmaq c w) s = .next ((u.fetch c).setCore c { x.go with stall := .dmaQueue }))) ∧
  (∀ (s : State) (c : Fin 144) (e : Fin 2) (r : DmaReq) (q : List DmaReq),
     let x := s.core c;
     let d := vget x.dma e DmaEngine.reset;
     let run : DmaRun := { req := r, waiting := 0, fetched := [], moved := false, code := 0, poisoned := false };
     let u := s.setCore c { x with dma := vset x.dma e { d with queue := q, running := d.running ++ [run] } };
     let row : Nat → Instr := fun o => [.dmaCopy c e, .dmaGather c e, .dmaScatter c e, .dmaScatterAdd c e, .dmaWindow c e, .dmaAtomic c e, .dmaScan c e, .dmaCombine c e].getD o (.dmaCopy c e);
     d.queue = r :: q → r.op ≤ 7 →
     let room := d.running.length < 4 ∧ (∀ y ∈ d.running, ∀ f ∈ s.feet y.req, ∀ g ∈ s.feet r, f.write = true ∨ g.write = true → f.meets g = false) ∧
       ¬(r.op = 5 ∧ r.dstEp = none ∧ s.offline [r.dst / 64] s.adderChan = true) ∧ x.fenced = false;
     let moves : Instr → Prop := fun i => exec i s = .next (u.beginMove c e r).settle;
     let asks : Instr → Prop := fun i => exec i s =
       .next ((u.dmaAtomic c e r r.dstEp r.subop r.arg.toNat r.dst r.operands r.compares false).modRun c e r.seq (fun y => { y with moved := true })).settle;
     let joins : Instr → Prop := fun i => exec i s = .next { u with grist := { u.grist with pending := u.grist.pending ++ [(c.val, e.val, r.seq)] } };
     (room → s.appliesInputs = false →
       (r.op = 0 → moves (.dmaCopy c e)) ∧ (r.op = 1 → moves (.dmaGather c e)) ∧ (r.op = 2 → moves (.dmaScatter c e)) ∧ (r.op = 3 → moves (.dmaScatterAdd c e)) ∧
       (r.op = 4 → moves (.dmaWindow c e)) ∧ (r.op = 5 → asks (.dmaAtomic c e)) ∧ (r.op = 6 → joins (.dmaScan c e)) ∧ (r.op = 7 → joins (.dmaCombine c e))) ∧
     (¬room → exec (row r.op) s = .next s) ∧ (∀ o, o ≤ 7 → o ≠ r.op → exec (row o) s = .next s) ∧
     (∀ a b z, u.sides r = some (a, b) → r.box = some z → r.op ≤ 4 →
       let grid : State → List Index → State := fun v idx => v.each (dmaGridLines a b r z idx) (fun s ln => s.touchRead ln r.locality);
       (r.op = 0 → (∀ ln ∈ dmaGridLines a b r z [], ((grid u []).line ln).2 = false) → r.selfCopy a b z = true →
         u.beginMove c e r = (grid u []).modRun c e r.seq (fun y => { y with moved := true })) ∧
       (1 ≤ r.op → r.op ≤ 3 →
         let v := u.touchRange r.xrec (4 * z.ext.getD r.subop 0) r.locality;
         v.poisonedIn r.xrec (4 * z.ext.getD r.subop 0) = [] → Index.bad ∈ v.dmaIndex r a b z →
           u.beginMove c e r = (grid v (v.dmaIndex r a b z)).modRun c e r.seq (fun y => { y with moved := true, code := 0x0709 }))))

/-- For a COPY or a WINDOW whose destination has at most six dimensions, the elements that it moves have pairwise different destinations and are as many as the destination's extents multiply to; a COPY takes each from a source element. A WINDOW takes 0 for a destination element whose source position lies outside the tensor. A running descriptor with unresolved requests, or of a fenced core, goes on. One of another core that has moved its data, with none unresolved and no status record, leaves the running ones, adds INC to its counter when INC is not 0, and with a code sets bit 1 of ASYNC; no register, local memory or other core changes when it is no CAS. A SCAN in its turn, with no channel it needs offline and no error waiting in the memories, of a readable unpoisoned range without CONTINUE, status record or counter, whose result lies in local memory, writes the CRC of the bytes with their number and its polynomial there and leaves the engine. (07_data_movement.md R249, 07_data_movement.md R252, 07_data_movement.md R247, 07_data_movement.md R262, 07_data_movement.md R263) -/
def Obligations.DmaMoves : Prop :=
  (∀ (r : DmaReq) (a b : Side) (x : Box),
     b.ext.length ≤ 6 →
     let items := (r.rows a b x []).flatten;
     (r.op = 0 ∨ r.op = 4 → (items.map (·.dst)).Nodup ∧ items.length = volume b.ext) ∧ (r.op = 0 → ∀ i ∈ items, i.src ≠ none) ∧
     (r.op = 4 → ∀ w, r.win = some w → ∀ i ∈ items, i.src = none ↔
       let n := a.bound 0;
       let px : Int := ((i.dst.getD 1 0 * w.sx + i.dst.getD 0 0 / n % w.kx * w.dx : Nat) : Int) - w.pxl;
       let py : Int := ((i.dst.getD 2 0 * w.sy + i.dst.getD 0 0 / n / w.kx * w.dy : Nat) : Int) - w.pyl;
       px < 0 ∨ a.bound 1 ≤ px ∨ py < 0 ∨ a.bound 2 ≤ py)) ∧
  (∀ (s : State) (c : Fin 144) (e : Fin 2) (seq : BitVec 32) (run : DmaRun),
     s.dmaRun c e seq = some run →
     let x := s.core c;
     let r := run.req;
     let left : Core → Prop := fun y => vget y.dma e DmaEngine.reset = { vget x.dma e DmaEngine.reset with running := (vget x.dma e DmaEngine.reset).running.filter (fun z => z.req.seq != seq) };
     (run.waiting ≠ 0 ∨ x.fenced = true → exec (.dmaComplete c e seq) s = .next s) ∧
     (x.fenced = false → run.waiting = 0 → run.moved = true → r.status = 0 → r.op ≠ 5 → Runs (.dmaComplete c e seq) s (fun t =>
       left (t.core c) ∧ (t.core c).lmem = x.lmem ∧ (t.core c).sreg = x.sreg ∧ (∀ k, k ≠ c.val → t.core k = s.core k) ∧
       (t.core c).async = (if run.code = 0 then x.async else x.async ||| 2) ∧
       t.counter r.counter.toNat = (if r.inc ≠ 0 ∧ s.counterOwner r.counter.toNat < 8 then (s.counter r.counter.toNat).add r.inc else s.counter r.counter.toNat))) ∧
     (x.fenced = false → run.waiting = 0 → run.moved = false → run.code = 0 → r.op = 6 → r.subop < 3 → r.status = 0 → r.inc = 0 → s.gristHead (coreQuarter c) = some (c.val, e.val, seq) →
       s.offline (linesIn r.src r.boxLen) s.missChan = false → s.errorFree → s.poisonedIn r.src r.boxLen = [] → r.dst % 32 = 0 → (∃ k o, s.home (64 * (r.dst / 64)) = some (.localMem k o)) → Runs (.dmaComplete c e seq) s (fun t =>
       left (t.core c) ∧
       t.view r.dst 32 = leBytes (if r.boxLen = 0 then 0 else crc r.subop (s.view r.src r.boxLen)) 8 ++ leBytes r.boxLen 8 ++ [BitVec.ofNat 8 r.subop, 0] ++ List.replicate 14 0)))

/-- With no error waiting in the memories, for a line of HBM whose home quarter holds no entry of it in its combining buffer, or holds it only there: after a write of some of its bytes every reader sees those bytes merged into what it saw before, and without pressure on the combining slice of the line, and when the line lies in no racked block that has to be copied first, it sees every other line as before. COMBINING_IDLE_FLUSH of a line of that quarter, with no channel offline for retraining, leaves the data that a reader sees of it, and every other line, as it was. (06_memory.md R199, 06_memory.md R202, 06_memory.md R221, 06_memory.md R223, 06_memory.md R224) -/
def Obligations.TunCoherent : Prop :=
  ∀ (s : State) (ln k : Nat), s.home (64 * ln) = some (.hbm k) → k < 12 → s.errorFree →
    (∀ (d : Line) (mask : BitVec 64) (poison : Bool) (cls : Nat), mask ≠ 0 →
      s.combEntry (k / 3) ln = none ∨ (s.cached (k / 3) ln = false ∧ 0 < s.slicesIn (k / 3) 1) →
      ((s.tunWrite ln d mask poison cls).line ln).1 = mergeLine (s.line ln).1 d mask ∧
      (s.mustCopy ln = false → ((vget s.mem.comb (k / 3) []).filter (fun e => s.combSlice (k / 3) e.line == s.combSlice (k / 3) ln)).length < 76800 → ∀ l, l ≠ ln → (s.tunWrite ln d mask poison cls).line l = s.line l)) ∧
    (∀ (q : Fin 4) (line : BitVec 36), q.val = k / 3 → line.toNat = ln → s.retraining = false → Runs (.combiningIdleFlush q line) s (fun t =>
      t.combEntry q ln = none ∧ (t.line ln).1 = (s.line ln).1 ∧ ∀ l, l ≠ ln → t.line l = s.line l))

/-- With no channel offline for retraining and no error waiting in the memories, a request to a clean line of HBM with a clean operand and an allowed mask applies its operation to each selected element (integer add modulo its width, FP32 and BF16 add with one RNE rounding, signed maximum and minimum, compare and swap) and every other element reads as before, as does every other line where no racked block has to be copied first; one that names no HBM line, or has a mask that its operation does not allow, changes no line. A request whose channel is offline waits with its place in the order (log 47). ADDER_LINE_IDLE_WRITEBACK frees the line's place in the adders and, with no error waiting, changes no line. (06_memory.md R228, 06_memory.md R229, 06_memory.md R230) -/
def Obligations.MemorySideAdd : Prop :=
  ∀ (s : State) (r : AtomicReq),
    let ln := r.addr.toNat / 64
    let w := if r.op = 1 ∨ r.op = 7 then 64 else if r.op = 3 then 16 else 32
    let el : Line → Nat → Nat := fun l i => l.toNat / 2 ^ (w * i) % 2 ^ w
    let big : Nat → Nat → Bool := fun a b => decide (sint 32 b < sint 32 a)
    let result : Nat → Nat := fun i =>
      let a := el (s.line ln).1 i
      let b := el r.operands i
      if r.op = 0 ∨ r.op = 1 then (a + b) % 2 ^ w
      else if r.op = 2 then fp32.enc .rne ((fp32.decode a).add (fp32.decode b))
      else if r.op = 3 then bf16.enc .rne ((bf16.decode a).add (bf16.decode b))
      else if r.op = 4 then (if big b a then b else a) else if r.op = 5 then (if big a b then b else a)
      else if a = el r.compares i then b else a
    (∀ k, s.retraining = false → s.errorFree → s.home (64 * ln) = some (.hbm k) → adderMaskOk r.op.toNat r.mask.toNat = true → (s.line ln).2 = false → r.poison = false →
      Runs (.memorySideRequest r) s (fun t => (∀ i, i < 512 / w → el (t.line ln).1 i = if r.mask.getLsbD i then result i else el (s.line ln).1 i) ∧
        (s.mustCopy ln = false → ∀ l, l ≠ ln → t.line l = s.line l))) ∧
    (s.mem.serving = false → s.offline [ln] s.adderChan = true →
      exec (.memorySideRequest r) s = .next (s.modMem (fun m => { m with deferred := m.deferred ++ [(.memorySideRequest r, [ln].filterMap s.channelOf ++ ([ln].filterMap s.adderChan).filter (fun c => 384 ≤ c))] }))) ∧
    (s.retraining = false → adderMaskOk r.op.toNat r.mask.toNat = false ∨ (∀ k, s.home (64 * ln) ≠ some (.hbm k)) → Runs (.memorySideRequest r) s (fun t => t.mem = s.mem ∧ t.cores = s.cores)) ∧
    (∀ line : BitVec 36, Runs (.adderLineIdleWriteback line) s (fun t => line.toNat ∉ t.mem.adder ∧ (s.mem.errors = [] → ∀ l, t.line l = s.line l)))

/-- DRIFT_CHECK queues exactly the channels whose temperature has moved by at least the threshold since their stamp, and one beat of the window of corrections passes; RETRAIN_REQUEST of a channel below 384 queues it once and of any other number is answered 0x0201; RETRAIN_WINDOW_OPEN of an ACTIVE stack with a queued channel opens its window; slices follow one another, at most 80; RETRAIN_COMPLETE between slices with at most one failed pin stamps the channel, completes the window and counts: a failed pin takes the spare data lane of the channel's pair, where it is free, and is written anew in the background, and otherwise leaves its pseudo-channel covered by ECC; RETRAIN_WINDOW_CLOSE returns the stack to ACTIVE; LANE_REWRITE_COMPLETE ends the rewriting of a pseudo-channel. With no error waiting and no failed pin anywhere, PATROL_SCRUB of a clean sector of a stack that is not in self-refresh changes nothing; it corrects and counts a sector with one symbol in error and changes no line; one with two or three of a line that was not poisoned it counts and poisons, or, where a Tun slice or an adder holds the line, it leaves what every reader sees. (That the errors arise with the command is the model's, log 46.) In IDLE a stack that has not failed enters TEST and gives up its retraining window; leaving TEST starts the zero fill, after which the stack is ACTIVE and every byte and line that it holds reads zero and clean. The generator starts only on a stack in TEST that is not being filled (0x0205) and not while it runs (0x0206), stops on command, and when done or stopped records its rate and results. An ACTIVE stack with no window open enters self-refresh and STACK_WAKE brings it back, into a retraining window when it slept long and a channel has drifted (how long it slept is free, log 27); no line changes. In another state of the device TEST is refused with 0x0203. (06_memory.md R206, 06_memory.md R212, 06_memory.md R213, 06_memory.md R214, 06_memory.md R216, 06_memory.md R217, 06_memory.md R218, 14_power_clocks.md R488, 14_power_clocks.md R489) -/
def Obligations.StacksAndChannels : Prop :=
  (∀ (s : State) (k : Fin 12),
     let x := s.stack k;
     Runs (.driftCheck k) s (fun t => (∀ h, h ∈ (t.stack k).retrainQ ↔ h ∈ x.retrainQ ∨ (h < 32 ∧
         (f32 (s.objGet 0x4004 0 % 2 ^ 32)).le ((f32 (x.stamps.getD h 0).toNat).add (f32 x.temp.toNat).neg).abs = true)) ∧ t = s.setStack k ({ x with retrainQ := (t.stack k).retrainQ } : Stack).ticked) ∧
     (s.answers 0x4004 2 → ∀ v : BitVec 16,
       (v.toNat < 384 → Runs (.retrainRequest v) s (fun t => v.toNat % 32 ∈ (t.stack (v.toNat / 32)).retrainQ ∧ t.out = s.out ++ [.objectReply 0x4004 2 0] ∧ t.cores = s.cores)) ∧
       (384 ≤ v.toNat → exec (.retrainRequest v) s = .next (s.reply 0x4004 2 0x0201))) ∧
     (∀ ch r, x.retrainQ = ch :: r → x.window = none → x.state = .active → exec (.retrainWindowOpen k) s =
       .next (s.setStack k { x with retrainQ := r, window := some { chan := ch, slices := 0, offline := false, complete := false }, state := .retrain })) ∧
     (∀ w, x.window = some w →
       (w.offline = false → w.complete = false → w.slices < 80 →
         exec (.retrainSliceStart k) s = .next (s.setStack k { x with window := some { w with slices := w.slices + 1, offline := true } })) ∧
       (80 ≤ w.slices → exec (.retrainSliceStart k) s = .next s) ∧
       exec (.retrainSliceEnd k) s = .next (s.setStack k { x with window := some { w with offline := false } }) ∧
       (∀ pins : List (Fin 72), w.offline = false → w.complete = false → pins.length ≤ 1 → x.state = .retrain → Runs (.retrainComplete k pins true) s (fun t =>
         (t.stack k).stamps = x.stamps.set w.chan x.temp ∧ (t.stack k).window = some { w with complete := true } ∧ (t.stack k).state = .retrain ∧
         (∀ p ∈ (t.stack k).flagged, p ∈ x.flagged) ∧ t.mem.cells = s.mem.cells ∧ t.objGet 0x4004 1 = min (2 ^ 64 - 1) (s.objGet 0x4004 1 + 1) ∧
         (∀ p, pins = [p] → x.dataSpares.any (fun q => q.1 == w.chan / 2) = false →
           (t.stack k).dataSpares = x.dataSpares ++ [(w.chan / 2, 72 * (w.chan % 2) + p.val)] ∧ (2 * w.chan + p.val / 36, p.val % 36) ∈ (t.stack k).rewriting ∧
           (w.chan, p.val) ∉ (t.stack k).flagged) ∧
         (∀ p, pins = [p] → x.dataSpares.any (fun q => q.1 == w.chan / 2) = true →
           (t.stack k).dataSpares = x.dataSpares ∧ (2 * w.chan + p.val / 36, p.val % 36) ∈ (t.stack k).eccCovered))) ∧
       (w.complete = true → x.state = .retrain → exec (.retrainWindowClose k) s = .next (s.setStack k { x with window := none, state := .active })) ∧
       (w.complete = false → exec (.retrainWindowClose k) s = .next s)) ∧
     (∀ pc : Fin 64, exec (.laneRewriteComplete k pc) s = .next (s.setStack k { x with rewriting := x.rewriting.filter (fun p => p.1 != pc.val) })) ∧
     (∀ (line : BitVec 36) (sec : Fin 2), s.errorFree → (x.state ≠ .selfRefresh → s.home (64 * line.toNat) = some (.hbm k) → exec (.patrolScrub line sec []) s = .next s) ∧
       ∀ pins : List (Fin 36), pins.Nodup → s.home (64 * line.toNat) = some (.hbm k) → x.state ≠ .selfRefresh →
       (pins.length = 1 → Runs (.patrolScrub line sec [{ line := line, error := .hbm sec pins }]) s (fun t =>
         (∀ l, t.line l = s.line l) ∧ t.objGet 0x4002 0 = min (2 ^ 64 - 1) (s.objGet 0x4002 0 + 1))) ∧
       (pins.length = 2 ∨ pins.length = 3 → line.toNat ∉ s.mem.poison → s.heldAbove line.toNat = true → Runs (.patrolScrub line sec [{ line := line, error := .hbm sec pins }]) s (fun t =>
         (∀ l, t.line l = s.line l) ∧ line.toNat ∈ t.mem.hidden)) ∧
       (pins.length = 2 ∨ pins.length = 3 → line.toNat ∉ s.mem.poison → s.heldAbove line.toNat = false → Runs (.patrolScrub line sec [{ line := line, error := .hbm sec pins }]) s (fun t =>
         (t.line line.toNat).2 = true ∧ (∀ l, l ≠ line.toNat → t.line l = s.line l) ∧ t.objGet 0x4002 1 = min (2 ^ 64 - 1) (s.objGet 0x4002 1 + 1) ∧ t.objGet 0x4002 2 = min (2 ^ 64 - 1) (s.objGet 0x4002 2 + 1))))) ∧
  (∀ (s : State) (k : Fin 12),
     let x := s.stack k;
     (s.answers 0x4001 k →
       (s.dev.state = .idle → x.state ≠ .failed → exec (.stackEnterTest k) s = .next ((s.setStack k { x with state := .test, window := none }).reply 0x4001 k 0)) ∧
       (s.dev.state ≠ .idle → exec (.stackEnterTest k) s = .next (s.reply 0x4001 k 0x0203) ∧ exec (.stackLeaveTest k) s = .next (s.reply 0x4001 k 0x0203)) ∧
       (s.dev.state = .idle → s.generatorOn k = false → x.state = .test → exec (.stackLeaveTest k) s = .next ((s.setStack k { x with zeroFilling := true }).reply 0x4001 k 0))) ∧
     (x.zeroFilling = true → x.state = .test → Runs (.stackZeroFillComplete k) s (fun t =>
       t.stack k = { x with zeroFilling := false, state := .active, fill := 0 } ∧ { t with mem := s.mem, rack := s.rack, obj := s.obj } = s ∧
       ((∀ e ∈ vget s.mem.comb (k / 3) [], s.mapped (64 * e.line) ≠ some (.hbm k)) → t.obj = s.obj) ∧
       (∀ e ∈ vget t.mem.comb (k / 3) [], s.mapped (64 * e.line) ≠ some (.hbm k)) ∧
       (∀ l, s.mapped (64 * l) = some (.hbm k) → l ∉ t.mem.poison) ∧
       (∀ a, s.mapped a = some (.hbm k) → mget t.unlisted t.mem.cells a = 0))) ∧
     (s.answers 0x4020 9 →
       (s.mem.tgState ≠ 1 → (s.stack (s.objGet 0x4020 0)).state = .test → (s.stack (s.objGet 0x4020 0)).zeroFilling = false → Runs .trafficGeneratorStart s (fun t =>
         t.mem.tgState = 1 ∧ t.mem.tgRes = [] ∧ t.out = s.out ++ [.objectReply 0x4020 9 0] ∧ t.cores = s.cores)) ∧
       (s.mem.tgState = 1 → exec .trafficGeneratorStart s = .next (s.reply 0x4020 9 0x0206)) ∧
       (s.mem.tgState ≠ 1 → (s.stack (s.objGet 0x4020 0)).state ≠ .test → exec .trafficGeneratorStart s = .next (s.reply 0x4020 9 0x0205)) ∧
       (s.mem.tgState = 1 → Runs .trafficGeneratorStop s (fun t => t = ({ s with mem := { s.mem with tgState := 3 } }).reply 0x4020 9 0))) ∧
     (∀ rate results, s.mem.tgState = 1 → Runs (.trafficGeneratorDone rate results) s (fun t => t = { s with mem := { s.mem with tgState := 2, tgRate := rate, tgRes := t.mem.tgRes } } ∧
       ∀ p, p ∈ t.mem.tgRes → (s.objGet 0x4020 1).testBit p.1 = true ∧ results[p.1]? = some p.2)) ∧
     (∀ rate results, s.mem.tgState = 3 → s.mem.tgRes = [] → Runs (.trafficGeneratorDone rate results) s (fun t => t = { s with mem := { s.mem with tgRate := rate, tgRes := t.mem.tgRes } })) ∧
     (x.state = .active → x.window = none → exec (.stackSelfRefreshEntry k) s = .next (s.setStack k { x with state := .selfRefresh })) ∧
     (x.state = .selfRefresh →
       let w := (s.setStack k { x with state := .active }).modMem (fun m => { m with fillNext := m.fillNext + 1 });
       let drift := (List.range 32).any (fun h => driftReached (x.stamps.getD h 0) x.temp (BitVec.ofNat 32 (s.objGet 0x4004 0)));
       (drift = false → exec (.stackWake k) s = .next w) ∧
       (x.window = none → Runs (.stackWake k) s (fun t => (t.stack k).state = (if (Config.sleptLong s.mem.fillNext && drift) = true then .retrain else .active) ∧
         ((t.stack k).window.isSome = true ↔ (t.stack k).state = .retrain) ∧ ∀ l, t.line l = s.line l))))

/-- A write of a new mode 0 to 2 for a slice below T31 in IDLE or RUN is accepted and waits for the switch; in another state it is answered 0x0205 and for T31 or mode 3 with 0x0201. TUN_MODE_SWITCH_COMPLETE gives the oldest waiting slice of the quarter its mode; a slice that becomes scratchpad reads zero and clean throughout. TUN_SLICE_SLEEP and TUN_SLICE_WAKE set and clear the slice's sleep, never that of T31 and never that of a slice that holds a combining entry (log 27). With the PCIe link up, a BAR2 read of assigned bytes outside HBM, with no error waiting in the memories and no channel offline, answers what every reader sees, with EP set when a line of them is poisoned; a read of an unassigned address answers as an Unsupported Request with nothing read; a write of assigned bytes outside HBM, outside a recorded run and under the same conditions, leaves exactly those bytes there, and a write to an unassigned address is discarded, counted and noted in AER. With the link down neither does anything. (Errors that have arisen by a read then wait in the memories, log 46.) (06_memory.md R222, 06_memory.md R226, 14_power_clocks.md R488, 12_control_plane.md R429, 06_memory.md R207) -/
def Obligations.TunAndHostWindow : Prop :=
  (∀ (s : State) (q : Fin 4) (t : Fin 32),
     let n := 32 * q.val + t.val;
     let holds := vget s.mem.tunMode n 0 = 1 ∧ ∃ e ∈ vget s.mem.comb q [], s.combSlice q e.line = t.val;
     (s.answers 0x4010 n → ∀ m : BitVec 8,
       (s.dev.state ≠ .idle → s.dev.state ≠ .run → exec (.tunModeWrite q t m) s = .next (s.reply 0x4010 n 0x0205)) ∧
       (s.dev.state = .idle ∨ s.dev.state = .run → t.val = 31 ∨ 2 < m.toNat → exec (.tunModeWrite q t m) s = .next (s.reply 0x4010 n 0x0201)) ∧
       (s.dev.state = .idle ∨ s.dev.state = .run → t.val < 31 → m.toNat ≤ 2 → vget s.mem.tunMode n 0 ≠ m.toNat →
         exec (.tunModeWrite q t m) s = .next (({ s with mem := { s.mem with tunSwitch := vset s.mem.tunSwitch q (vget s.mem.tunSwitch q [] ++ [(t.val, m.toNat)]) } }).reply 0x4010 n 0))) ∧
     (∀ m r, vget s.mem.tunSwitch q [] = (t.val, m) :: r → Runs (.tunModeSwitchComplete q) s (fun u =>
       vget u.mem.tunMode n 0 = m ∧ vget u.mem.tunSwitch q [] = r ∧ (∀ i, i ≠ n → vget u.mem.tunMode i 0 = vget s.mem.tunMode i 0) ∧
       (m = 2 → vget s.mem.tunMode n 0 ≠ 2 → ∀ a, 0x30000000000 + q.val * 2 ^ 28 + t.val * 2 ^ 23 ≤ a → a < 0x30000000000 + q.val * 2 ^ 28 + t.val * 2 ^ 23 + 6 * 2 ^ 20 →
         (∀ b, (a, b) ∉ u.mem.cells) ∧ (a % 64 = 0 → a / 64 ∉ u.mem.poison)))) ∧
     (t.val < 31 → ¬holds → Runs (.tunSliceSleep q t) s (fun u => n ∈ u.mem.tunAsleep ∧ u = { s with mem := { s.mem with tunAsleep := u.mem.tunAsleep } } ∧ ∀ i, i ≠ n → (i ∈ u.mem.tunAsleep ↔ i ∈ s.mem.tunAsleep))) ∧
     (t.val = 31 ∨ holds → exec (.tunSliceSleep q t) s = .next s) ∧
     Runs (.tunSliceWake q t) s (fun u => n ∉ u.mem.tunAsleep ∧ u = { s with mem := { s.mem with tunAsleep := u.mem.tunAsleep } } ∧ ∀ i, i ≠ n → (i ∈ u.mem.tunAsleep ↔ i ∈ s.mem.tunAsleep))) ∧
  (∀ (s : State) (off : Word),
     let a := s.objGet 0x1020 1 + off.toNat;
     (∀ len ecc data ep, s.host.linkUp = false → exec (.bar2Read off len ecc) s = .next (s.arise ecc) ∧ exec (.bar2Write off data ep) s = .next s) ∧
     (s.host.linkUp = true → ∀ len : BitVec 13,
       (s.assigned a len.toNat = false → ∀ ecc, exec (.bar2Read off len ecc) s = .next ((s.arise ecc).emit (.barRead [] false true))) ∧
       (s.assigned a len.toNat = true → s.mem.errors = [] → s.retraining = false → (∀ i, i < ceilDiv (a % 64 + len.toNat) 64 → ∀ k, s.home (64 * (a / 64 + i)) ≠ some (.hbm k)) →
         Runs (.bar2Read off len []) s (fun t => t.out = s.out ++ [.barRead (s.view a len.toNat) (s.viewPoison a len.toNat) false] ∧ t.mem = { s.mem with tunAsleep := t.mem.tunAsleep } ∧ t.cores = s.cores))) ∧
     (s.host.linkUp = true → ∀ (data : List Byte) (ep : Bool), data ≠ [] →
       (s.assigned a data.length = false → Runs (.bar2Write off data ep) s (fun t => { t with obj := s.obj } = (s.aerReport 20).emit (.unsupported off.toNat) ∧ t.objGet 0x1020 4 = min (2 ^ 64 - 1) (s.objGet 0x1020 4 + 1))) ∧
       (s.assigned a data.length = true → s.esc.record = none → s.mem.errors = [] → s.retraining = false → (∀ i, i < ceilDiv (a % 64 + data.length) 64 → ∀ k, s.home (64 * (a / 64 + i)) ≠ some (.hbm k)) →
         Runs (.bar2Write off data ep) s (fun t => t.view a data.length = data ∧ (ep = true → t.viewPoison a data.length = true) ∧
           ∀ l, l < a / 64 ∨ (a + data.length - 1) / 64 < l → t.line l = s.line l))))

/-- Enabling a DISABLED port sends it to DETECT and disabling one that carries nothing to DISABLED; energy on the lanes starts TRAINING, except while the device is in RESET; training that finds at least seven good lanes goes on to CARD_EXCHANGE and sends the card, or to NO_COORD without a coordinate, and three bad lanes make the port FAILED; a card of a common version that matches the record in force brings it UP (DEGRADED with seven lanes) with 160 credits per channel, one that does not match to MISWIRED; a DOWN port goes to DETECT; a port in service resends its card. A retrain sends an idle port to DETECT, a take-down to DOWN; both are answered 0x0205 on a DISABLED port, and an adoption of a port that is not MISWIRED likewise. A coordinate is written in IDLE only (0x0203), and resets each record that management has not written. (That a port taken down holds its packets back as a lost one does is the model's, log 26.) (08_thoren_fabric.md R275, 08_thoren_fabric.md R276, 08_thoren_fabric.md R279, 08_thoren_fabric.md R280, 08_thoren_fabric.md R282) -/
def Obligations.PortTraining : Prop :=
  ∀ (s : State) (p : Fin 12),
    let x := s.port p
    let idle := x.carries = false ∧ x.state ≠ .parked
    (s.answers 0x5002 p →
      (x.state = .disabled → exec (.portEnableWrite p true) s = .next (((s.objSet 0x5002 p 1).setPort p { x with state := .detect }).reply 0x5002 p 0)) ∧
      (idle → exec (.portEnableWrite p false) s = .next (((s.objSet 0x5002 p 0).setPort p { x with state := .disabled }).reply 0x5002 p 0))) ∧
    (s.answers 0x5003 p →
      (idle → x.state ≠ .disabled → exec (.portRetrain p) s = .next ((s.setPort p { x with state := .detect }).reply 0x5003 p 0) ∧
        exec (.portTakeDown p) s = .next (((s.setPort p { x with state := .down }).holdBack p).reply 0x5003 p 0)) ∧
      (x.state = .disabled → exec (.portRetrain p) s = .next (s.reply 0x5003 p 0x0205) ∧ exec (.portTakeDown p) s = .next (s.reply 0x5003 p 0x0205)) ∧
      (x.state ≠ .miswired → exec (.portAdopt p) s = .next (s.reply 0x5003 p 0x0205)) ∧
      (8 ≤ p.val → x.state = .miswired → recNat x.observed 14 1 = 1 → x.laneCount = 8 → x.detour = none → Runs (.portAdopt p) s (fun t =>
        (t.port p).state = .up ∧ (t.port p).credits = Vector.replicate 2 160 ∧ (t.port p).expected ≠ none ∧ (t.port p).inForce = (t.port p).expected ∧ t.out = s.out ++ [.objectReply 0x5003 p 0]))) ∧
    (s.dev.state = .reset → exec (.farEndDetect p) s = .next s ∧ ∀ bad, exec (.linkTrainingComplete p bad) s = .next s) ∧
    (x.state = .detect → s.dev.state ≠ .reset → exec (.farEndDetect p) s = .next (s.setPort p { x with state := .training })) ∧
    (x.state = .down → exec (.portDownRetry p) s = .next (s.setPort p { x with state := .detect })) ∧
    (x.carries = true → exec (.cardResend p) s = .next ((s.setPort p (x.fill 64 (.card (s.card p)))).emit (.card p (s.card p)))) ∧ (idle → exec (.cardResend p) s = .next s) ∧
    (∀ bad : BitVec 9, x.state = .training → s.dev.state ≠ .reset →
      let n := ((List.range 9).filter bad.getLsbD).length
      (3 ≤ n → exec (.linkTrainingComplete p bad) s = .next (s.setPort p { x with state := .failed, badLanes := bad })) ∧
      (n < 3 → Runs (.linkTrainingComplete p bad) s (fun t => (t.port p).trained = true ∧ (t.port p).badLanes = bad ∧ (t.port p).txCw = 0 ∧ (t.port p).rxCw = 0 ∧ (t.port p).inForce = x.expected ∧
        (t.port p).state = (if s.dev.coordAssigned then .cardExchange else .noCoord) ∧ (n = 0 → (t.port p).laneCount = 8) ∧ (n = 2 → 7 ≤ (t.port p).laneCount)))) ∧
    (∀ card : List Byte, card.length = 64 → recNat card 0 2 = 1 → recNat card 60 4 = crc32c (card.take 60) → x.state = .cardExchange → x.detour = none →
      Runs (.neighbourCardReceived p card) s (fun t => (t.port p).observed = card ∧
        (cardVersion card = none → (t.port p).state = .versionMismatch) ∧
        (cardVersion card ≠ none → cardMatches (s.recordInForce p) card = false → (t.port p).state = .miswired) ∧
        (cardVersion card ≠ none → cardMatches (s.recordInForce p) card = true →
          (t.port p).state = (if x.laneCount < 8 then .degraded else .up) ∧ (t.port p).credits = Vector.replicate 2 160))) ∧
    (s.answers 0x5000 0 → ∀ v : BitVec 32,
      (s.dev.state ≠ .idle → exec (.coordinateWrite v) s = .next (s.reply 0x5000 0 0x0203)) ∧
      (s.dev.state = .idle → v.toNat < 2 ^ 17 → Runs (.coordinateWrite v) s (fun t => t.dev.coord = v.setWidth 17 ∧ t.dev.coordAssigned = true ∧
        (x.written = false → (t.port p).expected = none ∧ (t.port p).inForce = none))))

/-- On a port that carries packets: an intact codeword in sequence, with at most four symbols corrected, advances the expected number, gives its packets buffers and is acknowledged when no lane reaches the swap threshold, a duplicate is only acknowledged, and an uncorrectable one is named in a negative acknowledgement, and while a lane swap is in progress every codeword is discarded; an acknowledgement drops exactly the codewords up to its number, and one of what is already acknowledged changes nothing; a negative one sends the rest of the retry buffer, packets and control words, again and charges no credit; a credit return raises the credits, to at most 160. A queued packet that finds the credits of its hop and room in the 64 KiB retry buffer leaves, spends one credit and enters the retry buffer; without them nothing leaves. (The place of symbols on lanes and the count of what the buffer holds are the model's reading, log 26.) (08_thoren_fabric.md R271, 08_thoren_fabric.md R294, 08_thoren_fabric.md R296) -/
def Obligations.LinkRetry : Prop :=
  ∀ (s : State) (p : Fin 12),
    let x := s.port p
    x.carries = true →
    (∀ (n : BitVec 12) (fixes : List (Fin 136)) (ks : List Packet), (x.swapping ≠ none → exec (.codewordReceived p n fixes ks) s = .next s) ∧
      (x.swapping = none → 4 < fixes.length → exec (.codewordReceived p n fixes ks) s = .next (s.word p 1 x.rxCw.toNat)) ∧
      (x.swapping = none → fixes.length ≤ 4 → n = x.rxCw → (∀ l, l < 9 → tget 0 (x.countFixes fixes).corrected l < s.objGet 0x5021 0) →
        Runs (.codewordReceived p n fixes ks) s (fun t => t.out = s.out ++ [.linkWord p 0 n.toNat] ∧ (t.port p).rxCw = x.rxCw + 1 ∧
          (t.port p).rxPkt = x.rxPkt + BitVec.ofNat 16 ks.length ∧ (t.port p).credits = x.credits ∧
          ∀ v, v < 2 → vget (t.port p).rxUsed v 0 = vget x.rxUsed v 0 + (ks.filter (fun k => vcIndex k == v)).length)) ∧
      (x.swapping = none → fixes.length ≤ 4 → n ≠ x.rxCw → exec (.codewordReceived p n fixes ks) s = .next (if (x.rxCw - n).toNat < 2048 then s.word p 0 n.toNat else s)) ∧
      exec (.codewordUncorrectable p n) s = .next (s.word p 1 x.rxCw.toNat) ∧
      (x.fresh (n + 1) = false → exec (.linkAckReceived p n) s = .next s) ∧ (x.fresh n = false → exec (.linkNackReceived p n) s = .next s) ∧
      (x.fresh (n + 1) = true → Runs (.linkAckReceived p n) s (fun t => t = s.setPort p (t.port p) ∧ (t.port p).ackCw = n + 1 ∧ (t.port p).credits = x.credits ∧
        ∀ r, r ∈ (t.port p).retry ↔ r ∈ x.retry ∧ (n + 1 - x.ackCw).toNat ≤ (r.1 - x.ackCw).toNat)) ∧
      (x.fresh n = true → Runs (.linkNackReceived p n) s (fun t => (t.port p).credits = x.credits ∧ (t.port p).ackCw = n ∧ t.out = s.out ++ (t.port p).retry.map (fun r => r.2.again p.val) ∧
        (n = x.ackCw → (t.port p).retry = x.retry) ∧ t.objGet 0x5030 8 = min (2 ^ 64 - 1) (s.objGet 0x5030 8 + 1)))) ∧
    (∀ (v : Fin 2) (n : BitVec 8), exec (.creditReturn p v n) s = .next (s.setPort p { x with credits := vset x.credits v (min 160 (vget x.credits v 0 + n.toNat)) })) ∧
    (∀ (v : Fin 2) (k : Packet) (q : List (Nat × Packet)) (r : Nat), s.dev.state ≠ .fault → s.dev.state ≠ .reset → x.lostHeld = false → x.txQ = vset (Vector.replicate 2 []) v ((r, k) :: q) → x.injQ = Vector.replicate 2 [] → (∀ e ∈ q, e.1 = r) →
      r < 12 → (x.features.getLsbD 2 = true ∨ k.poison = 0) →
      (vget x.credits v 0 < creditsNeeded r p ∨ x.retryRoom k = false → exec (.packetTransmit p v) s = .next s) ∧
      (creditsNeeded r p ≤ vget x.credits v 0 → x.retryRoom k = true → Runs (.packetTransmit p v) s (fun t =>
        (∃ l, (t.port p).retry = x.retry ++ (x.lastCw k, .packet x.txPkt k) :: l) ∧ vget (t.port p).credits v 0 = vget x.credits v 0 - 1 ∧ vget (t.port p).txQ v [] = q ∧
        .packet (some p.val) k ∈ t.out ∧ t.objGet 0x5030 2 = min (2 ^ 64 - 1) (s.objGet 0x5030 2 + 1))))

/-- On a carrying port with its spare free a failing lane asks for a swap, and the marker that answers the request puts L8 in its place; an idle spare that fails is declared failed; a request of the far end is answered with the marker while the transmit direction keeps seven lanes, a mapping-out leaves the port DEGRADED, and with fewer lanes it goes DOWN. A margin check of a port whose lanes in service, with the idle spare, all reach the limit only records the margins. A lost link takes a carrying port DOWN and retires its credits; a handoff moves what the far end has not accepted, then what was queued, in order, to the sibling. An audit of a port in service sends this end's report; one whose sums give 160 is only counted, a failed one is counted and retrains the port. A die-to-die lane failure takes a spare of its direction while one is left, and then loses the link; a lost link is lost once. SPARGE_START makes the sparge DRAINING; SPARGE_DRAINED takes effect exactly when it drains and nothing is left in any window, queue or buffer: it becomes DRAINED when every link in service passes its credit audit, and stays DRAINING when one fails (what the far ends report in it is free, log 26); a timeout of a draining sparge aborts it and counts it; TABLE_COMMIT while DRAINED makes the staged tables the active ones, ends the sparge, frees the packets of lost links and counts the commit, and in any other state of the sparge is answered 0x0205 with no table changed. (08_thoren_fabric.md R272, 08_thoren_fabric.md R273, 08_thoren_fabric.md R274, 08_thoren_fabric.md R300, 08_thoren_fabric.md R301, 08_thoren_fabric.md R307, 01_architecture.md R19, 08_thoren_fabric.md R302, 08_thoren_fabric.md R305, 08_thoren_fabric.md R306) -/
def Obligations.LanesAndSparge : Prop :=
  (∀ (s : State) (p : Fin 12),
     let x := s.port p;
     (∀ lane : Fin 9, x.carries = true →
       (lane.val < 8 → x.failedLanes.getLsbD lane = false → x.swapped = none → x.swapping = none → x.badLanes.getLsbD 8 = false → x.failedLanes.getLsbD 8 = false →
         exec (.laneFailure p lane) s = .next ((((s.realEvent 1).setPort p { x with swapping := some lane.val, drilled := false }).word p 1 x.rxCw.toNat).word p 3 lane.val)) ∧
       (lane.val = 8 → x.failedLanes.getLsbD 8 = false → x.swapped = none → x.swapping ≠ some 8 →
         exec (.laneFailure p lane) s = .next ((s.realEvent 1).setPort p { x with failedLanes := x.failedLanes ||| BitVec.twoPow 9 8 })) ∧
       (∀ out : Bool,
         let y := x.restripe lane out;
         let left := (stripeOver y.txSwap y.txOut).length;
         (7 ≤ left → out = false → exec (.swapRequest p ⟨lane, out⟩) s = .next ((s.setPort p y).word p 4 lane.val)) ∧
         (7 ≤ left → out = true → Runs (.swapRequest p ⟨lane, out⟩) s (fun t => (t.port p).state = .degraded ∧ (t.port p).txOut.getLsbD lane = true ∧ .linkWord p 4 lane.val ∈ t.out)) ∧
         (left < 7 → Runs (.swapRequest p ⟨lane, out⟩) s (fun t => (t.port p).state = .down))) ∧
       (x.swapping = some lane.val → s.resil.drill = none → Runs (.swapMarker p lane) s (fun t => (t.port p).swapped = some lane.val ∧ (t.port p).swapping = none ∧
         (t.port p).state = x.state ∧ (t.port p).credits = x.credits ∧ t.objGet 0x5030 7 = min (2 ^ 64 - 1) (s.objGet 0x5030 7 + 1)))) ∧
     (∀ m : List (BitVec 32), (x.carries = false ∨ x.carried = false → exec (.marginCheck p m) s = .next s) ∧
       (x.carries = true → x.carried = true → (∀ i, i < 9 → x.lanes.testBit i = true ∨ (i = 8 ∧ x.swapped = none ∧ x.swapping = none ∧ x.badLanes.getLsbD 8 = false ∧ x.failedLanes.getLsbD 8 = false) → (f32 (m.getD i 0).toNat).lt (f32 (s.objGet 0x5021 2)) = false) →
         exec (.marginCheck p m) s = .next (s.setPort p { x with margins := m }))) ∧
     (x.carries = true → Runs (.linkLost p) s (fun t => (t.port p).state = .down ∧ (t.port p).credits = Vector.replicate 2 0)) ∧
     (x.state = .training → exec (.linkLost p) s = .next (s.setPort p { x with state := .detect })) ∧
     (∀ last : BitVec 16, x.handoff = true → p.val < 8 → Runs (.handoffExchange p last) s (fun t =>
       let late := (x.unacked.filter (fun r => decide (0 < (r.1 - last).toNat ∧ (r.1 - last).toNat < 2 ^ 15))).map (fun r => r.2);
       (t.port p).detour = some (sibling p) ∧ (t.port p).handoff = false ∧ (t.port p).retry = [] ∧ t.objGet 0x5030 13 = min (2 ^ 64 - 1) (s.objGet 0x5030 13 + 1) ∧
       ∀ v, v < 2 → vget (t.port (sibling p)).txQ v [] = vget (s.port (sibling p)).txQ v [] ++ (late.filter (fun k => vcIndex k == v)).map (fun k => (p.val, k)) ++
         vget x.txQ v [] ++ (vget x.injQ v []).map (fun k => (p.val, k)))) ∧
     (s.answers 0x5003 p → ∀ report : List AuditReport,
       let r : Nat → AuditReport := fun v => report.getD v { free := 160, owed := 0, flight := 0 };
       let good := ∀ v, v < 2 → vget x.credits v 0 + (r v).owed.toNat + (r v).flight.toNat = 160;
       let busy := x.carries = true ∨ x.state = .parked;
       (¬ busy → exec (.portCreditAudit p report) s = .next (s.reply 0x5003 p 0x0205)) ∧
       (busy → good → exec (.portCreditAudit p report) s = .next (((((s.reply 0x5003 p 0).setPort p { x with report := report }).word p 6 (x.auditValue 0)).word p 6 (x.auditValue 1)).bump 0x5030 0 1)) ∧
       (busy → ¬ good → Runs (.portCreditAudit p report) s (fun t => t.objGet 0x5030 1 = min (2 ^ 64 - 1) (s.objGet 0x5030 1 + 1) ∧ (t.port p).state = .detect))) ∧
     (∀ l : Fin 6,
       let d := vget s.fabric.d2d l D2D.reset;
       (∀ dir : Fin 2, (vget d.spares dir 0 ≠ 0 → Runs (.d2dLaneFailure ⟨l, dir⟩) s (fun t =>
           t.fabric.d2d = vset s.fabric.d2d l { d with spares := vset d.spares dir (vget d.spares dir 0 - 1) } ∧ t.cores = s.cores)) ∧
         (vget d.spares dir 0 = 0 → exec (.d2dLaneFailure ⟨l, dir⟩) s = exec (.d2dLinkLoss l) s)) ∧
       (d.lost = true → exec (.d2dLinkLoss l) s = .next s) ∧
       (d.lost = false → (∀ i, i < 6 → (vget s.fabric.d2d i D2D.reset).lost = false) → Runs (.d2dLinkLoss l) s (fun t =>
         (vget t.fabric.d2d l D2D.reset).lost = true ∧ t.dev.state = s.dev.state)))) ∧
  (∀ s : State,
     (s.answers 0x5011 0 → exec .spargeStart s = .next ({ s with fabric := { s.fabric with sparge := .draining } }.reply 0x5011 0 0)) ∧
     (let reported := s.auditedPorts.foldl State.freshReport s;
       let good := ∀ p ∈ s.auditedPorts, (reported.port p).auditPasses = true;
       (s.fabric.sparge = .draining → s.drained = true → good → Runs (.spargeDrained) s (fun t => t.fabric.sparge = .drained ∧ t.fabric.requests = s.fabric.requests ∧ t.cores = s.cores ∧
         ∀ p, p < 12 → (t.port p).state = (s.port p).state ∧ (t.port p).credits = (s.port p).credits)) ∧
       (s.fabric.sparge = .draining → s.drained = true → ¬ good → Runs (.spargeDrained) s (fun t => t.fabric.sparge = .draining)) ∧
       (s.fabric.sparge ≠ .draining ∨ s.drained = false → exec (.spargeDrained) s = .next s)) ∧
     (s.fabric.sparge = .draining → s.fabric.waiting = [] → Runs .spargeTimeout s (fun t => t.fabric = { s.fabric with sparge := .aborted } ∧
       t.objGet 0x5011 5 = min (2 ^ 64 - 1) (s.objGet 0x5011 5 + 1))) ∧
     (s.fabric.sparge ≠ .draining → exec .spargeTimeout s = .next s) ∧
     (s.answers 0x5010 4 →
       (s.fabric.sparge ≠ .drained → exec .tableCommit s = .next (s.reply 0x5010 4 0x0205)) ∧
       (s.fabric.sparge = .drained → s.fabric.waiting = [] → Runs .tableCommit s (fun t => t.fabric.tableA = s.fabric.tableS ∧ t.fabric.gA = s.fabric.gS ∧ t.fabric.sparge = .none ∧
         (∀ p, p < 12 → (t.port p).detour = none ∧ (t.port p).state ≠ .parked ∧ (t.port p).lostHeld = false) ∧ t.cores = s.cores))))

/-- A request for this device with a right trailer and header, outside a recorded run and with no channel offline for retraining: a WRITE to assigned lines outside HBM stores its lines with their poison and answers WRITE_ACK; a masked one, with no error waiting in the memories, stores exactly the selected bytes; a READ of up to 32 assigned lines answers READ_DATA packets of at most four lines; an ATOMIC that its adder takes answers ATOMIC_RESP; a SIGNAL to a counter of a job adds its ARG and answers SIGNAL_ACK. A wrong trailer is answered NACK 0x03, a broken header 0x02, an unassigned line 0x01, and a SIGNAL to a block that no job owns 0x01 with no counter changed. Every other line keeps its data. (08_thoren_fabric.md R284, 08_thoren_fabric.md R285, 08_thoren_fabric.md R287, 08_thoren_fabric.md R522, 09_sync_collectives.md R315) -/
def Obligations.FabricRequests : Prop :=
  ∀ (s : State) (via : Option (Fin 12)) (p : Packet), s.forMe via p = true → s.inLocalRun = false → s.esc.record = none → s.retraining = false → (∀ i, via = some i → (s.port i).features.getLsbD 2 = true) →
    let u := (s.arrive via p).bump 0x5060 4 1
    let a := p.addr.toNat
    let n := p.payload.length
    let good := packetCrc p = p.crc ∧ packetHeaderBad p = false
    let outside : Nat → Prop := fun n => ∀ i, i < n → s.home (a + 64 * i) ≠ none ∧ ∀ k, s.home (a + 64 * i) ≠ some (.hbm k)
    let row : Nat → Instr := fun t => [.writePacket via p, .readPacket via p, .atomicPacket via p, .signalPacket via p].getD t (.writePacket via p)
    (∀ t, t < 4 → p.type = BitVec.ofNat 5 t → (t = 0 → p.sub ≠ 1) →
      (packetCrc p ≠ p.crc → exec (row t) s = .next (u.nackTo p 3)) ∧ (packetCrc p = p.crc → packetHeaderBad p = true → exec (row t) s = .next (u.nackTo p 2))) ∧
    (p.type = 0 → p.sub = 0 → good → p.arg = 0 → p.len ≠ 0 → a % 64 = 0 → (List.range n).all (fun i => u.cellarTakes p.src (a + 64 * i)) = false →
      (outside n → Runs (.writePacket via p) s (fun t => ∃ v : State, t = v.respond p 16 0 [] [] 0 true ∧
        (∀ i, i < n → v.line (a / 64 + i) = (p.payload.getD i 0, p.poison.getLsbD i)) ∧ ∀ l, (∀ i, i < n → l ≠ a / 64 + i) → v.line l = s.line l)) ∧
      (u.linesAssigned a n = false → exec (.writePacket via p) s = .next (u.nackTo p 1))) ∧
    (p.type = 0 → p.sub = 1 → good → p.arg = 0 → a % 64 = 0 → packetMaskBad p = false → s.mem.errors = [] → outside (n - 1) → Runs (.maskedWrite via p) s (fun t => ∃ v : State, t = v.respond p 16 0 [] [] 0 true ∧
      (∀ i, i < n - 1 → (v.line (a / 64 + i)).1 = mergeLine (s.line (a / 64 + i)).1 (p.payload.getD (i + 1) 0) ((p.payload.getD 0 0).extractLsb' (64 * i) 64)) ∧
      ∀ l, (∀ i, i < n - 1 → l ≠ a / 64 + i) → v.line l = s.line l)) ∧
    (p.type = 1 → p.sub = 0 → good → p.len = 0 → 1 ≤ p.arg.toNat → p.arg.toNat ≤ 32 → a % 64 = 0 → u.linesAssigned a p.arg.toNat = true →
      let v := u.touchRange a (64 * p.arg.toNat)
      let part : Nat → List (Line × Bool) := fun k => (List.range (min 4 (p.arg.toNat - 4 * k))).map (fun i => v.line (a / 64 + 4 * k + i))
      exec (.readPacket via p) s = .next ((List.range (ceilDiv p.arg.toNat 4)).foldl (fun z k =>
        z.respond p 17 0 ((part k).map (·.1)) ((part k).map (·.2)) (BitVec.ofNat 42 (256 * k)) (k + 1 == ceilDiv p.arg.toNat 4)) v)) ∧
    (p.type = 2 → good → a % 64 = 0 → adderMaskOk p.sub.toNat p.arg.toNat = true → n = (if adderCas p.sub.toNat then 2 else 1) →
      let r := u.adder p.sub.toNat p.arg.toNat (a / 64) (p.payload.getD 0 0) (p.payload.getD 1 0) ((List.range n).any p.poison.getLsbD) false
      (r.2 = none → exec (.atomicPacket via p) s = .next (r.1.nackTo p 6)) ∧
      (∀ o, r.2 = some o → exec (.atomicPacket via p) s = .next (if adderCas p.sub.toNat then r.1.respond p 18 0 [o.old] [o.poison] 0 true else r.1.respond p 18 0 [] [] 0 true))) ∧
    (p.type = 3 → p.sub = 0 → good → p.len = 0 → a < 65536 →
      (s.counterOwner a < 8 → Runs (.signalPacket via p) s (fun t => ∃ v : State, t = v.respond p 19 0 [] [] 0 true ∧ v.counter a = (s.counter a).add p.arg.toInt ∧ ∀ m, m < 65536 → m ≠ a → v.counter m = s.counter m)) ∧
      (8 ≤ s.counterOwner a → Runs (.signalPacket via p) s (fun t => ∃ v : State, t = v.nackTo p 1 ∧ v.sync = s.sync)))

/-- With a right trailer, no request waiting for tokens, and no sparge draining: WRITE_ACK, ATOMIC_RESP without data, SIGNAL_ACK, COLL_ACK, SYNC_ACK and NACK that name a request in flight of their kind forget it and return its tokens to its window; a request of a DMA engine has one less to wait for, and a NACK gives that descriptor a code. The last READ_DATA of a GLD gives the active lanes of the waiting core their lines and ends its wait. RESPONSE_TIMEOUT forgets the request and lists it in doubt. A response that names no request in flight is discarded and counted. PACKET_FORWARD of a packet for another device puts it on the route's port with one hop more. (08_thoren_fabric.md R287, 08_thoren_fabric.md R288, 08_thoren_fabric.md R298, 08_thoren_fabric.md R299) -/
def Obligations.FabricResponses : Prop :=
  ∀ (s : State) (p : Packet), packetCrc p = p.crc → s.fabric.waiting = [] →
    let closed : State → Request → Prop := fun t r => t.fabric.requests = s.fabric.requests.filter (fun q => q.tag != r.tag) ∧ t.tokensOut r.dst = s.tokensOut r.dst - r.tokens
    let ends : Nat → Nat → Instr → Prop := fun ty kind i => p.type = BitVec.ofNat 5 ty → p.payload = [] →
      (∀ r, s.fabric.requests.find? (fun q => q.tag == p.tag && some kind == some q.kind) = some r → Runs i s (fun t => closed t r ∧
        ((∃ c, r.unit = .core c) → t.cores = s.cores) ∧
        (∀ c en seq run, r.unit = .dma c en seq → ty ≤ 19 → c < 144 → en < 2 → s.dmaRun c en seq = some run → ∃ run', t.dmaRun c en seq = some run' ∧ run'.waiting = run.waiting - 1 ∧ run'.code = run.code))) ∧
      (s.fabric.requests.find? (fun q => q.tag == p.tag && some kind == some q.kind) = none → exec i s = .next (s.bump 0x5030 9 1));
    ends 16 0 (.writeAck none p) ∧ ends 18 2 (.atomicResp none p) ∧ ends 19 3 (.signalAck none p) ∧ ends 20 4 (.collAck none p) ∧ ends 21 5 (.syncAck none p) ∧
    (p.type = 31 → ∀ r, s.fabric.requests.find? (fun q => q.tag == p.tag) = some r → p.status ≠ 8 → (∃ c en seq, r.unit = .dma c en seq) → Runs (.nack none p) s (fun t => closed t r ∧
      t.objGet 0x5030 5 = min (2 ^ 64 - 1) (s.objGet 0x5030 5 + 1) ∧
      ∀ c en seq run, r.unit = .dma c en seq → c < 144 → en < 2 → s.dmaRun c en seq = some run → ∃ run', t.dmaRun c en seq = some run' ∧ run'.waiting = run.waiting - 1 ∧
        run'.code = if run.code = 0 then (if p.status = 6 then 0x070D else 0x070B) else run.code)) ∧
    (p.type = 17 → ∀ r c rd pr, s.fabric.requests.find? (fun q => q.tag == p.tag && some 1 == some q.kind) = some r → r.unit = .core c → c < 144 → (s.core c).wait = .gld rd pr →
      (∀ q ∈ s.readsOut c, q.tag = r.tag) → s.stepOpenFor r.job = false → r.lines ≤ r.got + p.payload.length → r.reg + p.addr.toNat / 64 + p.payload.length ≤ 32 →
      Runs (.readData none p) s (fun t => closed t r ∧ (t.core c).wait = .none ∧ (t.core c).sreg = (s.core c).sreg ∧
        ∀ i, i < 16 * p.payload.length → ((s.core c).p pr.toNat).getLsbD (16 * (r.reg + p.addr.toNat / 64) + i) = true →
          lane 32 ((t.core c).v rd.toNat) (16 * (r.reg + p.addr.toNat / 64) + i) = (p.payload.getD (i / 16) 0).toNat / 2 ^ (32 * (i % 16)) % 2 ^ 32)) ∧
    (∀ tag r, s.fabric.requests.find? (fun q => q.tag == tag) = some r → 8 ≤ r.job → Runs (.responseTimeout tag) s (fun t => closed t r ∧ t.fabric.inDoubt = s.fabric.inDoubt ++ [r])) ∧
    (∀ (i : Fin 12) (q : Nat) (e : BitVec 17), (s.port i).carries = true → s.ep = some e → p.dst ≠ e → i.val < 8 → p.hops ≠ 63 → p.poison = 0 → s.route (s.onRing i p) = .port q → s.carrier q < 12 → s.fabric.sparge ≠ .drained →
      Runs (.packetForward i p) s (fun t => ∃ k, vget (t.port (s.carrier q)).txQ (vcIndex p) [] = vget (s.port (s.carrier q)).txQ (vcIndex p) [] ++ [(i.val, k)] ∧
        k.hops = p.hops + 1 ∧ k.payload = p.payload ∧ k.crc = p.crc ∧ k.dst = p.dst ∧ k.tag = p.tag))

/-- A stream's next command that may start, with a good header and outside a recorded step, is taken and in progress: SYNC_ALLOC gives the job the block it names, or the lowest free one for 0xFFFF, with every counter of it at reset, and a block in use rejects it with 0x0307; OP 1 frees a block of the job and ends its waiters with status 2, and 0x0306 rejects another's. With no memory error waiting, BARRIER_SETUP writes the slot from its record with phase 0 and no arrival, and OP 1 frees it. JOB_SETUP, with none waiting either and a good table, gives it to the job and no other (0x0309 for a bad one, 0x0B02 on an EXPELLED device). An audit write while the fabric is DRAINED with nothing running writes bit i for each failing row i (the credits of row 1 with what the far ends report) and is answered 0x0205 otherwise. (09_sync_collectives.md R310, 09_sync_collectives.md R317, 09_sync_collectives.md R318, 09_sync_collectives.md R319, 09_sync_collectives.md R320, 09_sync_collectives.md R344, 12_control_plane.md R440) -/
def Obligations.SyncCommands : Prop :=
  (∀ (s : State) (i : Fin 64) (n : NextCmd),
    let b := n.bytes
    let job := (s.stream i).job
    (s.starts i n 0x09 [(16, 17), (18, 20)] →
      let k := recNat b 18 2
      let own := s.blockOwner k = job ∨ (s.blockOwner k = 0xFE ∧ tget 8 s.sync.orphanOf k = job)
      (recNat b 16 1 = 0 → ∀ g, (k < 256 ∧ s.blockOwner k = 0xFF ∧ g = k) ∨ (k = 0xFFFF ∧ g < 256 ∧ s.blockOwner g = 0xFF ∧ ∀ h, h < g → s.blockOwner h ≠ 0xFF) →
        Runs (.syncAllocAssign i) s (fun t => s.began t i n g ∧ t.blockOwner g = job ∧ (∀ h, h ≠ g → t.blockOwner h = s.blockOwner h) ∧
          ∀ m, m < 65536 → t.counter m = if m / 256 = g then Counter.reset else s.counter m)) ∧
      (recNat b 16 1 = 0 → k < 256 → s.blockOwner k ≠ 0xFF → exec (.syncAllocAssign i) s = .next (s.rejects i n 0x0307)) ∧
      (recNat b 16 1 = 1 → k < 256 → own → Runs (.syncAllocFree i) s (fun t => s.began t i n k ∧ t.blockOwner k = 0xFF ∧ (∀ h, h ≠ k → t.blockOwner h = s.blockOwner h) ∧
        t.sync.counters = s.sync.counters ∧ ∀ c, c < 144 → t.core c = if (s.core c).waitsBlock k then (s.core c).release 2 else s.core c)) ∧
      (recNat b 16 1 = 1 → k < 256 → ¬own → exec (.syncAllocFree i) s = .next (s.rejects i n 0x0306))) ∧
    (s.starts i n 0x0A [(16, 18), (24, 32)] → recNat b 16 1 = 0 → s.errorFree → ∀ a,
      let k := recNat b 17 1
      let g := recNat b 24 8
      let r := s.view a 32
      g % 32 = 0 → localForm g = some a → s.inOneWindow a 32 = true → s.poisonedIn a 32 = [] → barrierRecordCodes r = [] → s.slotCodes k job = [] →
      Runs (.barrierSetupConfigure i) s (fun t => s.began t i n k ∧ t.slotOwner k = job ∧ (∀ m, m ≠ k → t.slot m = s.slot m ∧ t.slotOwner m = s.slotOwner m) ∧
        t.slot k = { Slot.reset with state := .opened, mask := BitVec.ofNat 144 (recNat r 0 18), group := decide (recNat r 18 1 = 1), axes := BitVec.ofNat 8 (recNat r 19 1) })) ∧
    (s.starts i n 0x0A [(16, 18)] → recNat b 16 1 = 1 →
      let k := recNat b 17 1
      let own := s.slotOwner k = job ∨ (s.slotOwner k = 0xFE ∧ tget 8 s.sync.orphanOf (256 + k) = job)
      (own → Runs (.barrierSetupFree i) s (fun t => s.began t i n k ∧ t.slot k = Slot.reset ∧ t.slotOwner k = 0xFF ∧
        (∀ m, m ≠ k → t.slot m = s.slot m ∧ t.slotOwner m = s.slotOwner m) ∧ ∀ c, c < 144 → t.core c = if (s.core c).waitsSlot k then (s.core c).release 2 else s.core c)) ∧
      (¬own → exec (.barrierSetupFree i) s = .next (s.rejects i n 0x0306))) ∧
    (s.starts i n 0x08 [(16, 24)] → s.errorFree → ∀ a,
      let g := recNat b 16 8
      let r := s.view a 128
      g % 64 = 0 → localForm g = some a → s.inOneWindow a 128 = true → s.poisonedIn a 128 = [] →
      (s.groupTableBad r = false → s.objGet 0x6050 4 ≠ 3 → job < 8 → Runs (.jobSetup i) s (fun t => s.began t i n 0 ∧ t.job job = { s.job job with table := groupTableOf r, fresh := true } ∧
        ∀ j, j < 8 → j ≠ job → t.job j = s.job j)) ∧
      (s.groupTableBad r = true → exec (.jobSetup i) s = .next (s.rejects i n 0x0309)) ∧
      (s.groupTableBad r = false → s.objGet 0x6050 4 = 3 → exec (.jobSetup i) s = .next (s.rejects i n 0x0B02)))) ∧
  ∀ s : State, s.answers 0x5060 11 →
    let idle := s.dmaBusy = 0 ∧ (∀ u ∈ s.kiln.units.toList, u.parts = []) ∧ s.coll.queue = [] ∧ s.coll.running = []
    (s.fabric.sparge = .drained → idle → Runs .auditRun s (fun t => (∀ k, k < 10 → (t.objGet 0x5060 12).testBit k = s.auditRow k) ∧ t.objGet 0x5060 12 < 1024 ∧
      t.fabric.sparge = .drained ∧ t.fabric.requests = s.fabric.requests ∧ t.cores = s.cores)) ∧
    (s.fabric.sparge ≠ .drained ∨ ¬idle → exec .auditRun s = .next (s.reply 0x5060 11 0x0205))

/-- With no recorded input due, no channel offline for retraining and no error waiting in the memories: an accepted COLLECTIVE adds its descriptor at the tail of the queue, and one that finds 32 descriptors queued waits. In a group of one device, with its destination in local memory, an FP32 ALL_GATHER at the head of the queue leaves its input's bytes at its destination, ALL_REDUCE and REDUCE_SCATTER leave each value of it there with the canonical NaN for a NaN, MAX_INDEX leaves the values so with each index plus ELEM_BASE behind them, and NORM_SUM writes the combined sum of the 12 datapaths to GLOBAL_SS of all of them and marks it valid; each is then finished. COLLECTIVE_COMPLETE of a finished run forgets that run, and no run of another job, and adds DONE_INC to its counter once, and does nothing where no operation that runs has the OPID. (09_sync_collectives.md R327, 09_sync_collectives.md R328, 09_sync_collectives.md R330, 09_sync_collectives.md R332, 09_sync_collectives.md R335, 09_sync_collectives.md R336, 09_sync_collectives.md R339) -/
def Obligations.CollectiveRuns : Prop :=
  ∀ (s : State), s.appliesInputs = false → s.retraining = false → s.errorFree →
    (∀ (i : Fin 64) (n : NextCmd) (a : Nat), s.starts i n 0x13 [(16, 24)] →
      let r := s.view a 64
      let d := collDescOf r (s.stream i).job i n.count
      recNat n.bytes 16 8 % 64 = 0 → localForm (recNat n.bytes 16 8) = some a → s.inOneWindow a 64 = true → s.poisonedIn a 64 = [] → s.collCodes d r = [] →
      (s.coll.queue.length < 32 → Runs (.collective i) s (fun t => s.began t i n 0 ∧ t.coll.queue = s.coll.queue ++ [d] ∧ t.coll.running = s.coll.running)) ∧
      (32 ≤ s.coll.queue.length → exec (.collective i) s = .next s)) ∧
    (∀ (d : CollDesc) (q : List CollDesc), s.coll.queue = d :: q → s.coll.running.length < 8 → (∀ r ∈ s.coll.running, r.desc.job = d.job → r.desc.opid ≠ d.opid) →
      d.ready s = true → d.axes ≠ 0 → d.opid.toNat < 0xFFFF0000 →
      let t0 := (s.job d.job).table
      t0.g = 1 → (∀ a, a < 8 → t0.p a = 1 ∧ t0.rank a = 0) →
      let n := 4 * d.count
      let started : State → Prop := fun t => t.coll.queue = q ∧ ∃ r, t.collRun d.job d.opid = some r ∧ r.finished = true ∧ r.desc = d
      let lands : Nat → Prop := fun m => ∀ ln, d.dst / 64 ≤ ln → 64 * ln < d.dst + m → ∃ k o, k < 144 ∧ s.home (64 * ln) = some (.localMem k o)
      let copies : State → Prop := fun t => started t ∧ t.view d.dst n = s.view d.src n
      let canon : Nat → List Byte := fun j => let v := leNat (s.view (d.src + 4 * j) 4)
        leBytes (if (f32 v).isNan then fp32.nanBits else v) 4
      let rounds : State → Prop := fun t => started t ∧ t.view d.dst n = (List.range d.count).flatMap canon
      (d.inFmt = 0 → d.wire = 0 → d.outFmt = 0 → lands n →
        (d.op = 0 → Runs (.allReduce d.opid) s rounds) ∧ (d.op = 1 → Runs (.reduceScatter d.opid) s rounds) ∧ (d.op = 2 → Runs (.allGather d.opid) s copies) ∧
        (d.op = 4 → lands (indexOff d.count + 2 * n) → d.dst % 64 = 0 → Runs (.maxIndex d.opid) s (fun t => rounds t ∧ ∀ j, j < d.count →
          leNat (t.view (d.dst + indexOff d.count + 8 * j) 8) = uint 64 (sint 32 (leNat (s.view (d.src + indexOff d.count + 4 * j) 4)) + d.elemBase.toInt)))) ∧
      (d.op = 3 → d.inFmt = 7 → d.wire = 3 → d.outFmt = 7 → d.count = 1 → Runs (.normSum d.opid) s (fun t => started t ∧ ∀ k, k < 12 →
        (t.kilnUnit k).globalValid = true ∧
        (t.kilnUnit k).globalSS = BitVec.ofNat 128 (Es128.combine (s.kiln.units.toList.map (fun u => Es128.ofBits (u.partSS.toNat % 2 ^ 126)))).1.bits))) ∧
    (∀ (opid : BitVec 32), opid.toNat < 0xFFFF0000 →
      (∀ r, s.coll.running.find? (fun r => r.desc.opid == opid && r.finished) = some r →
        let k := r.desc.doneCounter.toNat
        let other : CollDesc → Bool := fun d => d.job != r.desc.job || d.opid != opid
        Runs (.collectiveComplete opid) s (fun t => t.coll.running = s.coll.running.filter (fun y => other y.desc) ∧ opid ∈ t.coll.ended ∧ t.coll.queue = s.coll.queue.filter other ∧
        t.counter k = (if r.desc.doneEn ∧ s.counterOwner k < 8 then (s.counter k).add r.desc.doneInc else s.counter k) ∧ ∀ m, m < 65536 → m ≠ k → t.counter m = s.counter m)) ∧
      ((∀ r ∈ s.coll.running, r.desc.opid ≠ opid) → exec (.collectiveComplete opid) s = .next s))

/-- A well-formed request for this device, outside a local run: COLL_READY grants bytes to an operation, COLL_ABORT ends it, COLL_DATA that continues the lines of a neighbour lands behind them; each is acknowledged, as is a READY or DATA for an operation that has ended; an ABORT for one, and any for an unknown operation, is answered 0x01. For a group-kind slot in use SYNC_ARRIVE of a child counts for its phase; the last one of a device whose cores have arrived makes the root complete the phase and another device send its own arrival; SYNC_RELEASE of the phase awaited completes it, any other changes no slot; SYNC_ORPHAN orphans the slot and ends its waiters with status 2. A core-kind or free slot is answered 0x01. (09_sync_collectives.md R321, 09_sync_collectives.md R323, 09_sync_collectives.md R324, 09_sync_collectives.md R337, 09_sync_collectives.md R340, 09_sync_collectives.md R342) -/
def Obligations.CollectivePackets : Prop :=
  ∀ (s : State) (via : Option (Fin 12)) (p : Packet), s.forMe via p = true → s.inLocalRun = false → (∀ i, via = some i → (s.port i).features.getLsbD 2 = true) →
    packetCrc p = p.crc → packetHeaderBad p = false →
    let u := (s.arrive via p).bump 0x5060 4 1
    let acked : Nat → (State → Prop) → State → Prop := fun ty f t => ∃ v : State, t = v.respond p ty 0 [] [] 0 true ∧ f v
    (p.type = 4 →
      let known := (s.collFor p.arg p.src).isSome = true ∨ ∃ d ∈ s.coll.queue, d.opid = p.arg
      let row : Nat → Instr := fun k => if k = 1 then .collReady via p else if k = 2 then .collAbort via p else .collData via p
      (∀ k, k < 3 → p.sub = BitVec.ofNat 4 k → (k = 0 ↔ p.len ≠ 0) → (k = 2 → p.addr = 0) → ¬known →
        (k ≠ 2 → p.arg ∈ s.coll.ended → exec (row k) s = .next (u.respond p 20 0 [] [] 0 true)) ∧ (k = 2 ∨ p.arg ∉ s.coll.ended → exec (row k) s = .next (u.nackTo p 1))) ∧
      (p.sub = 1 → p.len = 0 → known → s.collFor p.arg p.src = none → Runs (.collReady via p) s (acked 20 (fun v =>
        v.granted p.arg p.src = s.granted p.arg p.src + p.addr.toNat ∧ v.coll.queue = s.coll.queue ∧ v.coll.running = s.coll.running))) ∧
      (p.sub = 2 → p.len = 0 → p.addr = 0 → ∀ d, s.collDescFor p.arg p.src = some d → Runs (.collAbort via p) s (acked 20 (fun v =>
        v.coll.queue = s.coll.queue.filter (fun x => x.job != d.job || x.opid != d.opid) ∧ v.coll.running = s.coll.running.filter (fun r => r.desc.job != d.job || r.desc.opid != d.opid) ∧ p.arg ∈ v.coll.ended ∧
        v.objGet 0x5050 3 = min (2 ^ 64 - 1) (s.objGet 0x5050 3 + 1)))) ∧
      (p.sub = 0 → p.len ≠ 0 → ∀ r way a n rank, s.collFor p.arg p.src = some r → s.stepOpenFor r.desc.job = false → s.collWay r p.src = some way → s.ringAxis r = some (a, n, rank) →
        let rx := if way then r.rxPlus else r.rxMinus
        let plan : Bool → Nat := fun w => r.planLines n (recvPlan n rank r.gather w)
        p.addr.toNat = 64 * rx.length → rx.length + p.payload.length < plan way → (∀ e, s.granted p.arg e = 0) → 64 * plan true ≤ r.givenPlus → 64 * plan false ≤ r.givenMinus →
        Runs (.collData via p) s (acked 20 (fun v => ∃ r', v.collRun r.desc.job p.arg = some r' ∧ r'.desc = r.desc ∧ r'.steps = r.steps ∧
          (if way then r'.rxPlus else r'.rxMinus) = rx ++ p.payload.zipIdx.map (fun x => (x.1, p.poison.getLsbD x.2)) ∧ (if way then r'.rxMinus else r'.rxPlus) = (if way then r.rxMinus else r.rxPlus))))) ∧
    (p.type = 5 → p.len = 0 → p.addr.toNat < 256 →
      let i := p.addr.toNat
      let x := s.slot i
      let t := s.slotTree i
      let kids := treeKids t.n t.me
      let row : Nat → Instr := fun k => if k = 1 then .syncRelease via p else if k = 2 then .syncOrphan via p else .syncArrive via p
      let only : State → Slot → Prop := fun v y => v.slot i = y ∧ ∀ m, m ≠ i → v.slot m = s.slot m
      (∀ k, k < 3 → p.sub = BitVec.ofNat 4 k → (k = 2 → p.arg = 0) → x.state = .free ∨ x.group = false → exec (row k) s = .next (u.nackTo p 1)) ∧
      (x.group = true →
        (p.sub = 0 → x.state ≠ .free → x.state ≠ .orphaned →
          (kids.find? (fun k => s.memberEp t.table t.axes k == some p.src) = none → exec (.syncArrive via p) s = .next (u.nackTo p 1)) ∧
          (∀ k, kids.find? (fun k => s.memberEp t.table t.axes k == some p.src) = some k → x.past p.arg = false → (k, p.arg) ∉ x.kids →
            let y := { x with kids := x.kids ++ [(k, p.arg)] }
            (x.arrived &&& x.mask ≠ x.mask → Runs (.syncArrive via p) s (acked 21 (fun v => only v y))) ∧
            (x.state = .localDone → x.mask ≠ 0 → x.arrived &&& x.mask = x.mask → (∀ k ∈ kids, (k, x.phase) ∈ y.kids) →
              (t.me ≠ 0 → x.sent = false → Runs (.syncArrive via p) s (acked 21 (fun v => only v { y with sent := true }))) ∧
              (t.me = 0 → x.next = 0 → Runs (.syncArrive via p) s (acked 21 (fun v => only v { y with
                state := .opened, phase := x.phase + 1, arrived := 0, sent := false, kids := y.kids.filter (fun k => k.2 != x.phase) })))))) ∧
        (p.sub = 1 → x.state = .localDone → x.sent = true → x.phase = p.arg → x.next = 0 → x.mask ≠ 0 → Runs (.syncRelease via p) s (acked 21 (fun v => only v { x with
          state := .opened, phase := x.phase + 1, arrived := 0, sent := false, kids := x.kids.filter (fun k => k.2 != x.phase) }))) ∧
        (p.sub = 1 → x.state ≠ .free → x.state ≠ .localDone ∨ x.sent = false ∨ x.phase ≠ p.arg → exec (.syncRelease via p) s = .next (u.respond p 21 0 [] [] 0 true)) ∧
        (p.sub = 2 → p.arg = 0 → x.state ≠ .free → x.state ≠ .orphaned → Runs (.syncOrphan via p) s (acked 21 (fun v =>
          only v { x with state := .orphaned } ∧ v.slotOwner i = 0xFE ∧ tget 8 v.sync.orphanOf (256 + i) = s.slotOwner i ∧
          ∀ c, c < 144 → v.core c = if (s.core c).waitsSlot i then (s.core c).release 2 else s.core c)))))

/-- In COMPUTE of an open step, with room in the ledger and no error waiting, a good KILN command of one descriptor of the gated job gives each stack of its mask one waiting part and writes a COMMANDS and an HPARAM record; outside COMPUTE the command waits. KILN_UPDATE of a ready part of at most 512 elements, on clean lines with no error waiting, no channel offline and no combining entry, W apart from M, Q and R, and no shadow, leaves in each element's weight what the update of that element gives, or its old weight where the update is not finite, keeps every line outside the part's W, M, Q and R, and ends the part. KILN_NORM adds the squares of the use-sums to PART_SS and changes no data. A frozen part only ends. KILN_DESCRIPTOR_COMPLETE with every part ended forgets the descriptor and adds 1 to its counter once; before that it does nothing. (05_training_datapaths.md R172, 05_training_datapaths.md R175, 05_training_datapaths.md R176, 05_training_datapaths.md R178, 05_training_datapaths.md R179, 05_training_datapaths.md R187, 10_integrity.md R366) -/
def Obligations.KilnUpdates : Prop :=
  ∀ (s : State),
    (∀ (i : Fin 64) (n : NextCmd) (a b : Nat), (s.stream i).job = s.gatedJob →
      (s.esc.phase ≠ .compute → s.inLocalRun = false → exec (.kiln i) s = .next s) ∧
      (s.esc.phase = .compute → s.nextCmd i = some n → s.mayStart i n = true → n.op = 0x12 → n.replay = false → s.headerCodes i n [(16, 28)] = [] → s.roomy → s.esc.record ≠ none → s.errorFree →
        let r := s.view a 128
        let h := s.view b 64
        let d := kilnDescOf r h
        recNat n.bytes 24 4 = 1 → recNat n.bytes 16 8 % 64 = 0 → localForm (recNat n.bytes 16 8) = some a → s.inOneWindow a 128 = true → s.poisonedIn a 128 = [] →
        recNat r 112 8 % 64 = 0 → localForm (recNat r 112 8) = some b → s.inOneWindow b 64 = true → s.poisonedIn b 64 = [] →
        d.malformed r h = false → ceilDiv d.count d.perStack = d.stacksOf.length → s.kilnMisplaced d = false → s.kilnRangesBad [d] [] = false →
        (d.op = 1 → (s.kilnUnit 0).globalValid = false) → (d.waitEn = true → s.counterOwner d.waitCounter.toNat = s.gatedJob) → (d.doneEn = true → s.counterOwner d.doneCounter.toNat = s.gatedJob) →
        Runs (.kiln i) s (fun t => t.esc.ledger.length = s.esc.ledger.length + 2 ∧ (t.stream i).progress.getLast? = some (n.run 0) ∧ ∀ k, k < 12 →
          (t.kilnUnit k).parts = (s.kilnUnit k).parts ++ (d.parts.filter (fun p => p.1 == k)).map (fun p =>
            { id := s.kiln.nextId, desc := d, stack := p.1, first := p.2.1, count := p.2.2, stage := .waiting, job := s.gatedJob, stream := i, command := n.count })))) ∧
    (∀ (k : Fin 12) (id : Nat) (p : KilnPart),
      let d := p.desc
      let ended : State → Prop := fun t => (t.kilnUnit k).parts = (s.kilnUnit k).parts.map (fun x => if x.id = id then { x with stage := .finished } else x)
      let one := p.stack = k.val ∧ 0 < p.count ∧ p.count ≤ 512 ∧ s.retraining = false ∧ s.errorFree ∧ s.cleanHbm (p.reads 0 p.count)
      let gs := (d.g.take d.uses).map (fun g => let x := groupRange d.gFmt (d.inStack g k) 0 p.count; s.view x.1 x.2)
      let at_ : Nat → Nat → Nat × Nat := fun f g => groupRange f (d.inStack g k) 0 p.count
      let wr := at_ 1 d.w
      let others := [at_ 4 d.m, at_ 4 d.q] ++ (if d.mode = 2 then [(d.inStack d.rem k, p.count)] else [])
      (s.kilnReady k id 0 = some p →
        (d.frozen = true → Runs (.kilnUpdate k id) s (fun t => ended t ∧ t.mem = s.mem ∧ t.cores = s.cores)) ∧
        (d.frozen = false → one → d.shadow = 0 → s.roomy → (∀ q, q < 4 → vget s.mem.comb q [] = []) → (∀ l ∈ linesOf [wr], l ∉ linesOf others) → Runs (.kilnUpdate k id) s (fun t => ended t ∧
          (∀ l, l ∉ linesOf (wr :: others) → (t.line l).1 = (s.line l).1) ∧ ∀ j, j < p.count →
            let mb := s.view (at_ 4 d.m).1 (at_ 4 d.m).2
            let qb := s.view (at_ 4 d.q).1 (at_ 4 d.q).2
            let rnd := if d.mode = 1 then Rnd.sr (rand16 s.stepNumber.toNat s.salt d.tensorId.toNat d.phase.toNat 1 (d.elemBase.toNat + p.first + j)) else .rne
            let old := leNat (s.view (wr.1 + 2 * j) 2)
            leNat (t.view (wr.1 + 2 * j) 2) = match kilnElem d (clipFactor d (s.kilnUnit k).globalSS) (useSum d.gFmt gs j) old (if d.mode = 2 then sint 8 (leNat (s.view (d.inStack d.rem k + j) 1)) else 0)
                (mbVal (mbSig 4 mb j) (mbExp 4 mb j)) (mbVal (mbSig 4 qb j) (mbExp 4 qb j)) rnd with
              | some e => e.w
              | none => old))) ∧
      (s.kilnReady k id 1 = some p →
        (d.frozen = true → Runs (.kilnNorm k id) s (fun t => ended t ∧ t.mem = s.mem ∧ t.cores = s.cores)) ∧
        (d.frozen = false → one → Runs (.kilnNorm k id) s (fun t => ended t ∧ (∀ l, (t.line l).1 = (s.line l).1) ∧ (t.kilnUnit k).partSS =
          ((List.range p.count).foldl (fun x j => x.add (useSum d.gFmt gs j)) (SquareSum.of (s.kilnUnit k).partSS)).bits)))) ∧
    (∀ (id : Nat) (p : KilnPart) (ps : List KilnPart), s.kiln.units.toList.flatMap (fun u => u.parts.filter (fun x => x.id == id)) = p :: ps →
      let c := p.desc.doneCounter.toNat
      ((∀ x ∈ p :: ps, x.stage = .finished) → Runs (.kilnDescriptorComplete id) s (fun t =>
        (∀ k, k < 12 → (t.kilnUnit k).parts = (s.kilnUnit k).parts.filter (fun x => x.id != id)) ∧
        t.counter c = (if p.desc.doneEn ∧ s.counterOwner c < 8 then (s.counter c).add 1 else s.counter c) ∧ ∀ m, m < 65536 → m ≠ c → t.counter m = s.counter m)) ∧
      ((∃ x ∈ p :: ps, x.stage ≠ .finished) → exec (.kilnDescriptorComplete id) s = .next s))

/-- STEP_OPEN of the gated job in IDLE, with a good record of a later step, room for its records, no error waiting and no expulsion, opens the step in COMPUTE at run 0 with STEP and KEYS records and clear digests; with a step open it is rejected with 0x0A04, and of another job with 0x0A07. STEP_END marks its stream and outside COMPUTE is rejected with 0x0A04. COMPUTE_END with everything over enters CHECK. A gate's report is marked once; with the last one, no acting reason and no COMMIT_AXES the device votes clean. The vote's result commits a clean vote, and a failure or VOTE_TIMEOUT stops the job with its code. With no command and no deferred request waiting a COMMIT completes: the step is committed and its ledger released. The profile changes only in IDLE. (10_integrity.md R348, 10_integrity.md R354, 10_integrity.md R355, 10_integrity.md R359, 10_integrity.md R360, 10_integrity.md R361, 10_integrity.md R362, 10_integrity.md R363, 10_integrity.md R366) -/
def Obligations.StepsCommit : Prop :=
  ∀ (s : State),
    let e := s.esc
    let g := s.gatedJob
    let axes := (e.record.map (·.axes)).getD 0
    let stopped : Nat → State → Prop := fun c t => (t.job g).state = .stopped ∧ (t.job g).cause = BitVec.ofNat 16 c ∧ t.esc.phase = .idle
    (∀ (i : Fin 64) (n : NextCmd) (a : Nat),
      let r := s.view a 64
      let inw := s.recordAt (recNat r 8 8) (16 * recNat r 32 2)
      let fpr := s.recordAt (recNat r 16 8) (16 * recNat r 36 2)
      let snap := linesOfBytes (snapBytes (s.jobCounters g) (s.jobSlots g))
      (s.starts i n 0x10 [(16, 24)] → s.errorFree → recNat n.bytes 16 8 % 64 = 0 → localForm (recNat n.bytes 16 8) = some a → s.inOneWindow a 64 = true → s.poisonedIn a 64 = [] →
        ((s.stream i).job = g → e.phase = .idle → s.stepRecBad r = false → (s.job g).fresh = true ∨ e.committed.toNat < recNat r 0 8 →
          s.recordPoison (recNat r 8 8) (16 * recNat r 32 2) 1 = [] → s.recordPoison (recNat r 16 8) (16 * recNat r 36 2) 1 = [] → (recNat r 24 8 ≠ 0 → s.recordPoison (recNat r 24 8) 64 1 = []) →
          s.resil.expelling = false → s.objGet 0x6050 4 ≠ 3 → 4096 + 64 * (5 + (linesOfBytes inw).length + (linesOfBytes fpr).length + snap.length) ≤ s.shareSize → s.stackOut 0 = false →
          Runs (.stepOpen i) s (fun t => t.esc.phase = .compute ∧ t.esc.record = some (stepRecOf r inw fpr) ∧ t.esc.run = 0 ∧ t.esc.ud = 0 ∧ t.esc.od = 0 ∧ t.esc.outSeq = 0 ∧
            t.esc.reasons = e.late ∧ t.esc.ledger.map (·.kind) = [1, 2] ∧ t.esc.snapshot = s.jobCounters g ∧ (t.stream i).progress.getLast? = some (n.run (recNat r 0 8)))) ∧
        ((s.stream i).job = g → e.phase ≠ .idle → e.phase ≠ .commit → exec (.stepOpen i) s = .next (s.rejects i n 0x0A04)) ∧
        ((s.stream i).job ≠ g → exec (.stepOpen i) s = .next (s.rejects i n 0x0A07))) ∧
      ((s.stream i).job = g → s.nextCmd i = some n → s.mayStart i n = true → n.op = 0x11 → n.replay = false → s.headerCodes i n [] = [] →
        (e.phase = .compute → s.roomy → Runs (.stepEnd i) s (fun t => (t.stream i).stepEnded = true ∧ (t.stream i).progress.getLast? = some (n.run 0) ∧
          t.esc.ledger.length = e.ledger.length + 1 ∧ t.esc.phase = .compute)) ∧
        (e.phase ≠ .compute → s.inLocalRun = false → exec (.stepEnd i) s = .next (s.rejects i n 0x0A04)))) ∧
    (e.phase = .compute → e.record ≠ none → e.guestAsk = none → s.computeOver = true → Runs .computeEnd s (fun t =>
      t.esc.phase = .check ∧ t.esc.ratioDone = true ∧ t.esc.ud = e.ud ∧ t.esc.od = e.od ∧ t.esc.ledger = e.ledger ∧ t.mem = s.mem)) ∧
    (s.computeOver = false → exec .computeEnd s = .next s) ∧
    (∀ q : Fin 4, e.phase = .check → e.reported.getLsbD q = false → e.ratioDone = true → (∀ x ∈ e.assays, coreQuarter x.1 ≠ q) → s.needsFp = false → e.verdict = none →
      let all := e.reported ||| BitVec.twoPow 4 q
      (all ≠ 15 → exec (.quarterGateReport q) s = .next { s with esc := { e with reported := all } }) ∧
      (all = 15 → s.actingReasons = [] → e.seen = [] → e.localRun = false → axes = 0 → exec (.quarterGateReport q) s =
        .next { s with esc := { e with reported := 15, odSent := e.od, verdict := some true, voted := true, revoke := false, failVote := false } })) ∧
    (∀ q : Fin 4, e.phase ≠ .check ∨ e.reported.getLsbD q = true → exec (.quarterGateReport q) s = .next s) ∧
    (∀ f : List Byte, e.phase ≠ .check → exec (.fingerprintRecord f) s = .next { s with esc := { e with twinFp := some (FpRec.mk (BitVec.ofNat 64 (recNat f 0 8)) (recNat f 8 1)
      (BitVec.ofNat 64 (recNat f 9 8)) (BitVec.ofNat 64 (recNat f 17 8))) } }) ∧
    (e.phase = .guest → exec .checkDeadlineExpiry s = .next { s with esc := { e with deadline := true } }) ∧
    (e.phase = .check → e.verdict = none → (∀ c, s.actionOf c = 0) → e.seen = [] → e.localRun = false → axes = 0 → s.needsFp = false → Runs .checkDeadlineExpiry s (fun t =>
      t.esc.voted = true ∧ t.esc.failVote = false ∧ t.esc.reported = 15 ∧ t.esc.deadline = true ∧
      t.esc.reasons = e.reasons ++ List.replicate ((List.range 4).filter (fun q => !e.reported.getLsbD q)).length 8)) ∧
    (e.phase = .check → e.voted = true →
      (axes = 0 → e.failVote = false → e.revoke = false → Runs .commitVoteResult s (fun t => t.esc = { e with phase := .commit } ∧ t.cores = s.cores ∧ t.mem = s.mem)) ∧
      (g < 8 → (s.job g).state = .active → (axes = 0 → e.failVote = true → Runs .commitVoteResult s (stopped e.failCode.toNat)) ∧ Runs .voteTimeout s (stopped 0x0A05))) ∧
    (e.phase ≠ .check ∨ e.voted = false → exec .commitVoteResult s = .next s ∧ exec .voteTimeout s = .next s) ∧
    (∀ r, e.phase = .commit → e.record = some r → e.stopAfter = none → s.resil.expelling = false → s.pending = [] → s.mem.deferred = [] → ∃ t, step s = .next t ∧
      t.esc.phase = .idle ∧ t.esc.committed = r.step ∧ t.esc.ledger = [] ∧ t.esc.record = none ∧ t.objGet 0x3204 0 = min (2 ^ 64 - 1) (s.objGet 0x3204 0 + 1)) ∧
    (∀ (m : Fin 5) (v : BitVec 32), s.answers 0x3200 m →
      (profileOk m v.toNat = true → e.phase = .idle → exec (.profileWrite m v) s = .next ((s.objSet 0x3200 m v.toNat).reply 0x3200 m 0)) ∧
      (profileOk m v.toNat = true → e.phase ≠ .idle → exec (.profileWrite m v) s = .next (s.reply 0x3200 m 0x0205)) ∧
      (profileOk m v.toNat = false → exec (.profileWrite m v) s = .next (s.reply 0x3200 m 0x0201)))

/-- ROLLBACK_COMPLETE of a rolled-back step with no INPUT records and no unusable one begins the next run in COMPUTE with the recorded commands to run again; a line of an undamaged UNDO record that no other one covers holds the record's data and is clean, and a counter of the job reads what the snapshot holds; a record that is damaged, or whose HCRC or payload has gone bad in its share, stops the job with 0x0A06. GUEST_REQUEST in COMPUTE waits; in IDLE, REPLAY and COMMIT, and in CHECK when guest runs are off, it is declined; in CHECK a twin's request starts the guest run. A digest that agrees makes the suspect vote, asking for a group replay when the outbound digest differs from the one sent; one that differs, or a decline, starts a local run while runs are left. One that nobody waits for changes nothing. (10_integrity.md R368, 10_integrity.md R370, 10_integrity.md R371, 10_integrity.md R372, 10_integrity.md R373, 10_integrity.md R374) -/
def Obligations.StepsReplay : Prop :=
  ∀ (s : State),
    let e := s.esc
    let g := s.gatedJob
    let axes := (e.record.map (·.axes)).getD 0
    let stopped : Nat → State → Prop := fun c t => (t.job g).state = .stopped ∧ (t.job g).cause = BitVec.ofNat 16 c ∧ t.esc.phase = .idle
    let nextRun : Nat → List (Word × Word) → State → Prop := fun k seen t => t = { s with esc := { e with
      guestWait := false, seen := seen, resolveRuns := k, phase := .replay, rolling := true, localRun := true, verdict := some false } }
    (e.phase = .replay → e.rolling = true →
      (s.ledgerBad = false → (∀ r ∈ e.ledger, r.kind ≠ 5 ∧ (r.kind = 6 → r.addr % 64 = 0)) → Runs (.rollbackComplete false) s (fun t => t.esc.phase = .compute ∧ t.esc.run = e.run + 1 ∧ t.esc.rolling = false ∧ t.esc.ud = 0 ∧ t.esc.od = 0 ∧
        t.esc.ledger = e.ledger ∧ t.esc.replay = (e.ledger.filter (fun r => r.kind == 3 && !r.flags.getLsbD 1)).map (fun r => (r.source.toNat, r.arg, r.payload.headD 0)) ∧
        (∀ r ∈ e.ledger, r.kind = 6 → r.flags.getLsbD 0 = false → r.spoilt = false → ∀ i, i < r.payload.length → s.home (r.addr + 64 * i) ≠ none →
          e.ledger.countP (fun q => q.kind == 6 && decide (q.addr ≤ r.addr + 64 * i) && decide (r.addr + 64 * i < q.addr + 64 * q.payload.length)) = 1 →
          t.line (r.addr / 64 + i) = (r.payload.getD i 0, false)) ∧
        (∀ m c, (m, c) ∈ e.snapshot → m < 65536 → s.counterOwner m = g → (e.snapshot.filter (fun x => x.1 % 65536 == m)).length = 1 → t.counter m = c))) ∧
      (g < 8 → (s.job g).state = .active → Runs (.rollbackComplete true) s (stopped 0x0A06) ∧ (s.ledgerBad = true → Runs (.rollbackComplete false) s (stopped 0x0A06)))) ∧
    (∀ (src : BitVec 17) (st last : Word) (l : List GuestRec),
      let ask := GuestAsk.mk src st last l
      (e.phase = .compute → exec (.guestRequest src st last l) s = .next { s with esc := { e with guestAsk := some ask } }) ∧
      (e.phase = .idle ∨ e.phase = .replay ∨ e.phase = .commit → exec (.guestRequest src st last l) s = .next (s.emit (.guest src 2 0 0))) ∧
      (e.phase = .check → s.objGet 0x3201 7 = 0 → exec (.guestRequest src st last l) s = .next (({ s with free := s.free + 1 } : State).emit (.guest src 2 0 0))) ∧
      (e.phase = .check → s.objGet 0x3201 7 ≠ 0 → s.objGet 0x6000 1 = 1 → s.objGet 0x6000 0 = src.toNat → s.actingReasons = [] → e.seen = [] → (∀ r ∈ l, r.kind ≠ 5) → s.ledgerBad = false →
        (({ s with free := s.free + 1 } : State).addGuest l).2 = false → Runs (.guestRequest src st last l) s (fun t =>
          t.esc.phase = .guest ∧ t.esc.guestOf = some src ∧ t.esc.localRun = true ∧ t.esc.record = some (guestStep l).1 ∧ t.objGet 0x3204 3 = min (2 ^ 64 - 1) (s.objGet 0x3204 3 + 1) ∧
          t.esc.keep = some { record := e.record, reasons := e.reasons, residues := e.residues, reported := e.reported, ud := e.ud, od := e.od, localRun := e.localRun }))) ∧
    (e.phase = .check → e.guestWait = true →
      (axes = 0 → exec (.guestDigestReturned e.ud e.od) s = .next { s with esc := { e with guestWait := false, verdict := some true, voted := true, revoke := e.od != e.odSent, failVote := false } }) ∧
      (e.resolveRuns + 1 < s.objGet 0x3201 5 →
        (∀ ud od, (ud, od) ≠ (e.ud, e.od) → Runs (.guestDigestReturned ud od) s (nextRun (e.resolveRuns + 1) (e.seen ++ [(ud, od)]))) ∧
        Runs .guestDecline s (nextRun (e.resolveRuns + 1) e.seen))) ∧
    (e.phase ≠ .check ∨ e.guestWait = false → (∀ ud od, exec (.guestDigestReturned ud od) s = .next s) ∧ exec .guestDecline s = .next s)

/-- A fault of a core in service, with no replacement under way or waiting in its quarter and no drill, fences it, fails and lists its physical core, maps the lowest spare and queues its wake ahead; without a spare the core goes OFFLINE and each job with a stream on it stops with 0x0B01. A residue or mismatch cause below its limit does nothing. On resume a running program whose newest boundary is saved goes on from that boundary with its effect instructions to be skipped, in a core with empty local memory, and is counted. RETIRE_COMMAND lists a core that nothing runs on, and the list clears only in IDLE. WATCHDOG_EXPIRY acts on a unit that holds work, COMMAND_TIMEOUT stops the job of a command in progress with 0x0B04 unless one of its cores is halted at BRK, and a dump takes the next number, its slot and what its units hold, with NO_ANSWER for those without power and for one that times out. (11_resilience.md R387, 11_resilience.md R388, 11_resilience.md R389, 11_resilience.md R391, 11_resilience.md R407, 11_resilience.md R408, 11_resilience.md R409) -/
def Obligations.CoreReplacement : Prop :=
  ∀ (s : State),
    let stops : Nat → Nat → State → Prop := fun j code t => j < 8 → (s.job j).state = .active → j ≠ s.gatedJob ∨ s.esc.phase ≠ .commit → (t.job j).state = .stopped ∧ (t.job j).cause = BitVec.ofNat 16 code
    (∀ (c : Fin 144),
      let x := s.core c
      let q := coreQuarter c
      let n := s.physOf c
      (∀ cause : Fin 5, cause = 2 ∧ (s.phys n).residues < s.objGet 0x6001 9 ∨ cause = 3 ∧ (s.phys n).mismatches < s.objGet 0x6001 10 → exec (.coreFaultDetected c cause) s = .next s) ∧
      (∀ cause : Fin 5, cause ≠ 2 → cause ≠ 3 → x.offline = false → x.fenced = false → (∀ d ∈ s.resil.replacing ++ s.resil.replQ, coreQuarter d ≠ q) → s.resil.drill = none → vget s.resil.map c 0 < 40 →
        (∀ p r, s.spares q = p :: r → Runs (.coreFaultDetected c cause) s (fun t => (t.core c).fenced = true ∧ (t.core c).sleep = .wakeQueued ∧ (t.core c).arrayQ = [] ∧ (t.core c).epiQ = [] ∧
          (t.core c).sreg = x.sreg ∧ (t.core c).pc = x.pc ∧ t.physOf c = 40 * q + p ∧ t.resil.replacing = s.resil.replacing ++ [c.val] ∧ c.val ∈ t.power.fuseeRemontoire ∧
          (t.phys n).failed = true ∧ (t.phys n).retired = true ∧ ∀ d, d < 144 → d ≠ c.val → (t.core d).sreg = (s.core d).sreg ∧ (t.core d).lmem = (s.core d).lmem ∧ (t.core d).pc = (s.core d).pc)) ∧
        (s.spares q = [] → Runs (.coreFaultDetected c cause) s (fun t => (t.core c).offline = true ∧ (t.phys n).failed = true ∧
          ∀ i, i < 64 → (∃ r ∈ (s.stream i).progress, c.val ∈ r.cores) → stops (s.stream i).job 0x0B01 t))) ∧
      (c.val ∈ s.resil.replacing → x.sleep = .awake → x.run = .running → s.resil.drill = none → (∀ d ∈ s.resil.replQ, coreQuarter d ≠ q) → ∀ b l, x.bounds = b :: l → b.closed = true → b.saved = true →
        Runs (.coreReplacementResume c) s (fun t =>
          let y := t.core c
          y.fenced = false ∧ y.run = .running ∧ y.pc = b.snap.pc ∧ y.sreg = b.snap.sreg ∧ y.vreg = b.snap.vreg ∧ y.preg = b.snap.preg ∧ y.regions = b.snap.regions ∧ y.lmem = [] ∧ y.acc = [] ∧
          y.skip = x.effects.count ∧ y.skipCadds = x.effects.cadds ∧ c.val ∉ t.resil.replacing ∧ t.objGet 0x6001 8 = min (2 ^ 64 - 1) (s.objGet 0x6001 8 + 1) ∧
          ∀ d, d ≠ c.val → t.core d = s.core d)) ∧
      (c.val ∉ s.resil.replacing → exec (.coreReplacementResume c) s = .next s) ∧
      (s.holdsWork (.core c) = true → exec (.watchdogExpiry (.core c)) s = .next ((s.bump 0x6020 65 1).coreFails c))) ∧
    (s.answers 0x6001 12 → ∀ v : BitVec 16,
      (v.toNat / 256 < 4 → v.toNat % 256 < 40 → s.carriedBy (v.toNat / 256) (v.toNat % 256) = none → Runs (.retireCommand v) s (fun t =>
        (t.phys (40 * (v.toNat / 256) + v.toNat % 256)).retired = true ∧ t.out = s.out ++ [.objectReply 0x6001 12 0] ∧ t.cores = s.cores)) ∧
      (4 ≤ v.toNat / 256 ∨ 40 ≤ v.toNat % 256 → exec (.retireCommand v) s = .next (s.reply 0x6001 12 0x0201))) ∧
    (s.answers 0x6001 13 →
      (s.dev.state = .idle → Runs .clearRetiredList s (fun t => (∀ n, n < 160 → t.phys n = { s.phys n with retired := false }) ∧ t.cores = s.cores ∧ t.out = s.out ++ [.objectReply 0x6001 13 0])) ∧
      (s.dev.state ≠ .idle → exec .clearRetiredList s = .next (s.reply 0x6001 13 0x0205))) ∧
    (∀ u, s.holdsWork u = false → exec (.watchdogExpiry u) s = .next s) ∧
    Runs (.watchdogExpiry .managementCore) s (fun t => t.fynen.silent = true ∧ t.cores = s.cores) ∧
    (∀ k, s.holdsWork (.kiln k) = true → s.objGet 0x6020 64 ≠ 1 → Runs (.watchdogExpiry (.kiln k)) s (fun t => ∀ p ∈ (s.kilnUnit k).parts, stops p.job 0x0B05 t)) ∧
    (∀ (i : Fin 64) (n : BitVec 32), (∀ r, s.inProgress i n = some r →
        ((∀ c ∈ r.cores, (s.core c).run ≠ .brk) → Runs (.commandTimeout i n) s (fun t => stops (s.stream i).job 0x0B04 t)) ∧
        ((∃ c ∈ r.cores, (s.core c).run = .brk) → exec (.commandTimeout i n) s = .next s)) ∧
      (s.inProgress i n = none → exec (.commandTimeout i n) s = .next s)) ∧
    (s.answers 0x6030 0 → s.resil.t31Dump = none → Runs .chronographDump s (fun t => t.objGet 0x6030 1 = min (2 ^ 64 - 1) (s.objGet 0x6030 1 + 1) ∧ t.cores = s.cores ∧
      ∃ d, t.resil.dumps = d :: s.resil.dumps.take 7 ∧ d.num = s.objGet 0x6030 1 + 1 ∧ d.valid = true ∧ d.trigger = 0 ∧
        d.noAnswer = s.silentUnits ∧ d.slot = s.resil.nextSlot ∧ t.objGet 0x6030 2 = d.slot ∧ d.units = s.dumpUnits)) ∧
    (∀ (k : Fin 16) (m : BitVec 8) (d : DumpRec) (l : List DumpRec), s.resil.dumps = d :: l →
      (s.resil.t31Dump = none → m.toNat < unitsOfKind k → (k.val, m.toNat) ∉ d.noAnswer → exec (.chronographUnitTimeout k m) s =
        .next { s with resil := { s.resil with dumps := { d with noAnswer := d.noAnswer ++ [(k.val, m.toNat)] } :: l } }) ∧
      (∀ e, s.resil.t31Dump = some e → m.toNat < unitsOfKind k → (k.val, m.toNat) ∉ e.noAnswer → exec (.chronographUnitTimeout k m) s =
        .next { s with resil := { s.resil with t31Dump := some { e with noAnswer := e.noAnswer ++ [(k.val, m.toNat)] } } }) ∧
      (unitsOfKind k ≤ m.toNat → exec (.chronographUnitTimeout k m) s = .next s))

/-- RACKING_BLOCK_COPY of the lowest block of its stack that the epoch has not copied reads its lines through their home Tun, marks it copied and adds the CRC-64 of its address in the cellar and its payload to the stack's sum; any other block, and one whose channel is offline, does nothing. PRIORITY_COPY sends what was read and frees the place. Sums from the sender that this device hosts seal every stack whose own sum agrees with a header of the epoch, and one that differs abandons it and tells the sender; sums from another device do nothing. EPOCH_SEALED makes the written slot the newest at the host once all twelve headers stand; at the sender it seals the epoch, CLEARED at once where it had been clear, and keeps the snapshot step of the one before. RESTORE_COMMAND takes 1 to 3 (0x0201), one at a time (0x0206), from a valid slot, and RESTORE_COMPLETE ends it once nothing is outstanding, the trend test warming up afresh. (11_resilience.md R397, 11_resilience.md R400, 11_resilience.md R401, 11_resilience.md R402, 11_resilience.md R406) -/
def Obligations.RackingRestore : Prop :=
  ∀ (s : State),
    let r := s.rack
    let summed : Nat → Nat → List (Line × Bool) → State → Prop := fun b off l t =>
      let k := stackOf (4096 * b)
      t.rack.sums = vset r.sums k (vget r.sums k 0 + BitVec.ofNat 64 (crc64 (leBytes (s.cellarBase k + r.slot * s.slotBytes + 4096 + off) 8 ++ l.flatMap (fun x => lineBytes x.1))))
    let placed : Nat → Nat → Prop := fun b off => stackOf (4096 * b) < 12 ∧
      (rackPlaces s.narrowOn (r.list.filter (fun x => stackOf x.start == stackOf (4096 * b)))).find? (fun x => x.1 == b) = some (b, off, false)
    (∀ b : BitVec 34,
      let n := b.toNat
      let left := (s.rackBlocks (stackOf (4096 * n))).filter (fun x => !r.copied.contains x)
      let ls := (List.range 64).map (fun i => 64 * n + i)
      let u := ls.foldl (fun u ln => u.touchRead ln 1) s
      (r.state = 1 → 2 ^ 41 ≤ 4096 * n → left.head? = some n → s.offline ls s.missChan = false → ∀ off, placed n off → Runs (.rackingBlockCopy b) s (fun t =>
        t.rack.copied = sadd r.copied n ∧ summed n off (ls.map u.line) t ∧ t.mem = u.mem ∧ ∀ c, c < 144 → (t.core c).sreg = (s.core c).sreg)) ∧
      (r.state ≠ 1 ∨ left.head? ≠ some n ∨ s.offline ls s.missChan = true → exec (.rackingBlockCopy b) s = .next s) ∧
      (∀ p off, r.prio.find? (fun x => x.block == n) = some p → placed n off → Runs (.priorityCopy b) s (fun t => t.rack.prio = r.prio.filter (fun x => x.block != n) ∧ summed n off p.lines t ∧ t.mem = s.mem)) ∧
      (r.prio.find? (fun x => x.block == n) = none → exec (.priorityCopy b) s = .next s)) ∧
    (∀ (src : BitVec 17) (epoch snap : Word) (serial : List Byte) (sums : List Word) (dirs : List (List Byte)),
      let slot := r.writeSlot
      let dir : Nat → List RackRange := fun k => (chunks 16 (dirs.getD k [])).map (fun e => (rackEntry e).1)
      (s.objGet 0x6000 5 = 1 → s.objGet 0x6000 4 = src.toNat →
        ((∀ k, k < 12 → s.hostSum slot k (dir k) = sums.getD k 0) → Runs (.rackingSumsReceived src epoch snap serial sums dirs) s (fun t => t.rack.sealedStacks = BitVec.allOnes 12 ∧ t.out = s.out ∧
          ∀ k, k < 12 → let h := t.cellarHdr slot k; h.valid = true ∧ h.sender = src ∧ h.epoch = epoch ∧ h.snapStep = snap ∧ h.stack = k ∧ h.ranges = dir k)) ∧
        (∀ k, k < 12 → s.hostSum slot k (dir k) ≠ sums.getD k 0 → r.sealedStacks.getLsbD k = false → Runs (.rackingSumsReceived src epoch snap serial sums dirs) s (fun t =>
          t.out = s.out ++ [.epochAbandoned src] ∧ t.rack.sealedStacks.getLsbD k = false ∧ t.objGet 0x6010 12 = min (2 ^ 64 - 1) (s.objGet 0x6010 12 + 1)))) ∧
      (s.objGet 0x6000 5 ≠ 1 ∨ s.objGet 0x6000 4 ≠ src.toNat → exec (.rackingSumsReceived src epoch snap serial sums dirs) s = .next s)) ∧
    (r.sealedStacks = BitVec.allOnes 12 → exec (.epochSealed 0) s = .next (({ s with rack := { r with newest := r.writeSlot, sealedStacks := 0 } } : State).emit (.epochSealed (BitVec.ofNat 17 (s.objGet 0x6000 4))))) ∧
    (r.sealedStacks ≠ BitVec.allOnes 12 → exec (.epochSealed 0) s = .next s) ∧
    (r.state = 2 → Runs (.epochSealed 1) s (fun t => t.rack = { r with state := if r.clear then 4 else 3, slot := 1 - r.slot, unprotected := false } ∧ t.objGet 0x6010 9 = r.snap.toNat ∧ t.objGet 0x6010 10 = s.objGet 0x6010 9 ∧
      t.objGet 0x6010 11 = min (2 ^ 64 - 1) (s.objGet 0x6010 11 + 1) ∧ t.cores = s.cores)) ∧
    (r.state = 1 ∨ r.state = 2 → Runs (.epochSealed 2) s (fun t => t.rack = { r with state := if r.unprotected then 5 else 4, prio := [] } ∧ t.cores = s.cores)) ∧
    (r.state ≠ 1 → r.state ≠ 2 → exec (.epochSealed 1) s = .next s ∧ exec (.epochSealed 2) s = .next s) ∧
    (s.answers 0x6011 3 → ∀ v : BitVec 8,
      (v = 0 ∨ 3 < v.toNat → exec (.restoreCommand v) s = .next (s.reply 0x6011 3 0x0201)) ∧
      (1 ≤ v.toNat → v.toNat ≤ 3 → r.restore = 1 ∨ r.restore = 2 → exec (.restoreCommand v) s = .next (s.reply 0x6011 3 0x0206)) ∧
      (1 ≤ v.toNat → v.toNat ≤ 3 → r.restore ≠ 1 → r.restore ≠ 2 →
        (s.restoreChoice v.toNat = none → Runs (.restoreCommand v) s (fun t => t.rack = { r with restore := 4 } ∧ t.cores = s.cores)) ∧
        (∀ slot, s.restoreChoice v.toNat = some slot → Runs (.restoreCommand v) s (fun t => t.rack = { r with restore := 2, restoreSlot := slot } ∧ s.slotValid slot = true ∧ t.mem = s.mem)))) ∧
    (∀ ok : Bool, r.restore = 2 → (∀ q ∈ s.fabric.requests ++ s.fabric.waiting.map (·.1), q.unit ≠ .restore) →
      exec (.restoreComplete ok) s = .next { s with rack := { r with restore := if ok then 3 else 4 }, kiln := if ok then s.kiln.restartTrend else s.kiln }) ∧
    (∀ ok : Bool, r.restore ≠ 2 ∨ (ok = true ∧ ∃ q ∈ s.fabric.requests, q.unit = .restore) → exec (.restoreComplete ok) s = .next s)

/-- HEALTH_RESTORE_TICK returns 10 points of each transient deduction whose event has not recurred within the hour, and drops those that reach zero. A budget write is kept, a positive one takes DEGRADED_SERVE back to SICK, and zero takes SICK to DEGRADED_SERVE. SELF_EXPULSION of a SICK device with budget spends one; with no step open every ACTIVE job stops with 0x0B02 and the device is EXPELLED, with one open it waits, and otherwise it does nothing. Clearing EXPELLED leaves the device SICK, or DEGRADED_SERVE without a budget, until its score reaches the upper threshold. A ready drill of a core fences it, of a lane swaps it, of a firmware line poisons and consumes it outside every job and is over, of an assay reports reason 2; a drill that is not ready does nothing. (11_resilience.md R418, 11_resilience.md R420, 11_resilience.md R421, 11_resilience.md R422, 11_resilience.md R423) -/
def Obligations.HealthDrills : Prop :=
  ∀ (s : State),
    Runs .healthRestoreTick s (fun t => t.resil.hourScore = t.health ∧ t.resil.warned = false ∧ t.cores = s.cores ∧
      t.resil.deductions = (s.resil.deductions.map (fun d => if d.2.2 && !s.resil.deducted.contains d.1 then (d.1, d.2.1 - 10, true) else d)).filter (fun d => d.2.1 != 0) ∧ t.resil.deducted = []) ∧
    (s.answers 0x6050 3 → ∀ v : BitVec 16, Runs (.expulsionBudgetWrite v) s (fun t => t.objGet 0x6050 3 = v.toNat ∧
      t.objGet 0x6050 4 = (if v ≠ 0 ∧ s.objGet 0x6050 4 = 2 then 1 else if v = 0 ∧ s.objGet 0x6050 4 = 1 ∧ s.resil.expelling = false then 2 else s.objGet 0x6050 4) ∧ t.out = s.out ++ [.objectReply 0x6050 3 0] ∧ t.cores = s.cores)) ∧
    (s.resil.expelling = false →
      (s.objGet 0x6050 4 = 1 → 0 < s.objGet 0x6050 3 →
        (s.esc.phase = .idle → Runs .selfExpulsion s (fun t => t.objGet 0x6050 4 = 3 ∧ t.objGet 0x6050 3 = s.objGet 0x6050 3 - 1 ∧ t.resil.expelling = false ∧
          ∀ j, j < 8 → (s.job j).state = .active → (t.job j).state = .stopped ∧ (t.job j).cause = 0x0B02)) ∧
        (s.esc.phase ≠ .idle → Runs .selfExpulsion s (fun t => t.resil.expelling = true ∧ t.objGet 0x6050 4 = 1 ∧ t.objGet 0x6050 3 = s.objGet 0x6050 3 - 1 ∧ t.jobs = s.jobs ∧ t.dev = s.dev))) ∧
      (s.objGet 0x6050 4 ≠ 1 ∨ s.objGet 0x6050 3 = 0 → exec .selfExpulsion s = .next s)) ∧
    (s.answers 0x6050 7 →
      (s.objGet 0x6050 4 = 3 → s.resil.expelling = false → Runs .clearExpelled s (fun t => t.objGet 0x6050 4 = if s.objGet 0x6050 2 ≤ s.health then 0 else if s.objGet 0x6050 3 = 0 then 2 else 1)) ∧
      (s.objGet 0x6050 4 ≠ 3 → exec .clearExpelled s = .next (s.reply 0x6050 7 0))) ∧
    (let counted : State → Prop := fun t => t.objGet 0x6060 5 = min (2 ^ 64 - 1) (s.objGet 0x6060 5 + 1);
      (∀ c : Fin 144, s.drillReady 0 = true → (s.core c).run = .running → (s.core c).fenced = false → (s.core c).offline = false → s.jobOf c = s.gatedJob → s.spares (coreQuarter c) ≠ [] →
        (∀ d ∈ s.resil.replacing ++ s.resil.replQ, coreQuarter d ≠ coreQuarter c) → vget s.resil.map c 0 < 40 → Runs (.drillCoreHang c) s (fun t =>
          counted t ∧ t.resil.drill = some 0 ∧ (t.core c).fenced = true ∧ c.val ∈ t.resil.replacing ∧ (t.phys (s.physOf c)).retired = (s.phys (s.physOf c)).retired)) ∧
      (∀ (p : Fin 12) (lane : Fin 9),
        let x := s.port p
        s.drillReady 1 = true → x.state = .up → x.lanes.testBit lane = true → x.swapped = none → x.swapping = none → lane.val ≠ 8 → x.badLanes.getLsbD 8 = false → x.failedLanes.getLsbD 8 = false →
        x.failedLanes.getLsbD lane = false → Runs (.drillLaneDrop p lane) s (fun t => counted t ∧ t.resil.drill = some 1 ∧ (t.port p).swapping = some lane.val ∧ (t.port p).state = .up)) ∧
      (∀ line : BitVec 36, s.drillReady 2 = true → inFirmware (64 * line.toNat) = true → Runs (.drillPoison line) s (fun t => counted t ∧ t.resil.drill = none ∧ line.toNat ∈ t.mem.poison ∧
        t.logged 0x0501 0x4002 (64 * line.toNat) ∧ t.jobs = s.jobs ∧ t.objGet 0x4002 4 = min (2 ^ 64 - 1) (s.objGet 0x4002 4 + 1))) ∧
      (∀ c : Fin 144, s.drillReady 3 = true → s.esc.phase = .compute → (∃ a ∈ s.esc.assays, a.1 = c.val) → s.esc.reported.getLsbD (coreQuarter c) = false → Runs (.drillFalseAssay c) s (fun t =>
        counted t ∧ t.resil.drill = some 3 ∧ t.esc.reasons = s.esc.reasons ++ [2] ∧ t.cores = s.cores))) ∧
    (s.drillReady 0 = false → ∀ c, exec (.drillCoreHang c) s = .next s) ∧ (s.drillReady 3 = false → ∀ c, exec (.drillFalseAssay c) s = .next s) ∧
    (s.drillReady 1 = false → ∀ p l, exec (.drillLaneDrop p l) s = .next s) ∧ (s.drillReady 2 = false → ∀ l, exec (.drillPoison l) s = .next s)

/-- In IDLE, RUN and DRAIN: RESET_REINIT empties cores, streams and jobs, records the open step and ends in IDLE, and with no step open memory is as it was; WARM_RESET does so too, puts every stack that is neither in TEST nor failed in self-refresh, and takes the link down; in another state both are answered 0x0205. WARM_RESET_COMPLETE after the hand-over brings the stacks back and enters IDLE, unless RESET_N holds it. POWER_CYCLE ends in STANDBY with rails off, buddies cleared and owner and keys kept. A PCI Express reset is rung 2 with every vector masked. Link loss and return change no job; the link comes up only where the state keeps one and the clock is there. (11_resilience.md R412, 11_resilience.md R413, 11_resilience.md R414, 11_resilience.md R415, 12_control_plane.md R431, 14_power_clocks.md R487) -/
def Obligations.Resets : Prop :=
  ∀ (s : State),
    let emptied : State → Prop := fun t => (∀ c, c < 144 → (t.core c).run = .idle ∧ (t.core c).lmem = [] ∧ (t.core c).acc = [] ∧ (t.core c).sreg = Vector.replicate 32 0 ∧
        (t.core c).offline = (s.core c).offline) ∧ (∀ i, i < 64 → (t.stream i).state = .disabled) ∧ ∀ j, j < 8 → (t.job j).state = .free
    let step_ := if s.esc.phase = .commit then 0 else (s.esc.record.map (·.step.toNat)).getD 0
    let counted : Nat → State → Prop := fun r t => t.objGet 0x6040 1 = r ∧ t.objGet 0x6040 (1 + r) = min (2 ^ 64 - 1) (s.objGet 0x6040 (1 + r) + 1)
    (s.answers 0x6040 0 →
      (s.takesReset = true →
        Runs .resetReinit s (fun t => t.dev.state = .idle ∧ emptied t ∧ counted 2 t ∧ t.objGet 0x6040 6 = 0 ∧ t.objGet 0x6040 7 = step_ ∧ (s.esc.phase = .idle → t.mem = s.mem)) ∧
        Runs .warmReset s (fun t => t.dev.state = .reset ∧ t.resil.resetRung = 3 ∧ emptied t ∧ counted 3 t ∧ t.objGet 0x6040 7 = step_ ∧ t.host.linkUp = false ∧ t.boot.booted = 0xFF ∧
          ∀ k, k < 12 → (t.stack k).state = if (s.stack k).state = .failed ∨ (s.stack k).state = .test then (s.stack k).state else .selfRefresh)) ∧
      (s.takesReset = false → exec .resetReinit s = .next (s.reply 0x6040 0 0x0205) ∧ exec .warmReset s = .next (s.reply 0x6040 0 0x0205)) ∧
      (s.dev.state ≠ .off → Runs .powerCycle s (fun t => t.dev.state = .standby ∧ t.dev.powerCycling = true ∧ t.dev.wantIdle = (s.objGet 0x1010 3 == 2) ∧ t.dev.coord = s.dev.coord ∧ t.power.rails = 0 ∧
        counted 4 t ∧ t.objGet 0x6040 6 = 0xFFF ∧ (∀ m, m < 6 → t.objGet 0x6000 m = 0) ∧ t.boot.owned = s.boot.owned ∧ t.boot.ownerHash = s.boot.ownerHash ∧ t.boot.storedSvn = s.boot.storedSvn ∧
        t.fynen.keyMgmt = s.fynen.keyMgmt ∧ t.fynen.keyHost = s.fynen.keyHost ∧ (∀ c, c < 144 → t.core c = Core.reset)))) ∧
    (∀ lost : BitVec 12, let l := lost ||| s.resil.lostStacks
      (s.dev.state = .reset → s.resil.resetRung = 3 → s.boot.booted ≠ 0xFF → s.dev.resetHeld = false → Runs (.warmResetComplete lost) s (fun t =>
        t.dev.state = .idle ∧ t.resil.resetRung = 0 ∧ t.objGet 0x6040 6 = l.toNat ∧ t.host.linkUp = !s.host.refclkLost ∧ t.cores = s.cores ∧ ∀ k, k < 12 → (t.stack k).state ≠ .selfRefresh)) ∧
      (s.dev.state ≠ .reset ∨ s.dev.resetHeld = true → exec (.warmResetComplete lost) s = .next s)) ∧
    (let masked : State → Prop := fun t => t.host.msixMask = List.range 256 ∧ t.host.msixPend = [] ∧ t.host.msixTable = [];
      (s.host.linkUp = true → s.takesReset = true →
        Runs .pcieReset s (fun t => t.dev.state = .idle ∧ emptied t ∧ counted 2 t ∧ masked t ∧ t.host.d3hot = false) ∧
        (s.host.d3hot = false → Runs .d3hotEntry s (fun t => t.dev.state = .idle ∧ emptied t ∧ counted 2 t ∧ masked t ∧ t.host.d3hot = true))) ∧
      (s.host.linkUp = true → s.takesReset = false → Runs .pcieReset s (fun t => masked t ∧ t.host.busy = false ∧ t.host.ready = false ∧ t.dev = s.dev ∧ t.cores = s.cores)) ∧
      (s.host.linkUp = false → exec .pcieReset s = .next s ∧ exec .d3hotEntry s = .next s)) ∧
    exec .d0Return s = .next { s with host := { s.host with d3hot := false } } ∧
    (let kept : State → Prop := fun t => t.jobs = s.jobs ∧ t.streams = s.streams ∧ t.dev = s.dev;
      Runs .pcieLinkLoss s (fun t => t.host.linkUp = false ∧ kept t) ∧
      Runs .pcieRefclkLoss s (fun t => t.host.linkUp = false ∧ t.host.refclkLost = true ∧ kept t) ∧
      (s.takesReset = true ∨ s.dev.state = .recovery ∨ (s.dev.state = .fault ∧ s.power.rails.getLsbD 1 = true) →
        Runs .pcieRefclkReturn s (fun t => t.host.linkUp = true ∧ t.host.refclkLost = false ∧ kept t) ∧ Runs .pcieLinkUp s (fun t => t.host.linkUp = !s.host.refclkLost ∧ kept t)) ∧
      (s.takesReset = false → s.dev.state ≠ .recovery → s.dev.state ≠ .fault ∨ s.power.rails.getLsbD 1 = false → exec .pcieLinkUp s = .next s ∧ exec .pcieRefclkReturn s = .next { s with host := { s.host with refclkLost := false } }))

/-- With the link up a TAIL within the bounds of an enabled stream is taken and any other is counted and raises event 0x030C; a COMP_HEAD up to COMP_TAIL is taken and any other is counted; the doorbell page reads the counters. On a STOPPED stream of a job that is not, RETRY sets the earliest failed command to run again, SKIP forgets the failed ones, and FLUSH discards what has not started; elsewhere they are counted. A configuration goes only to a DISABLED stream (0x0205) in 64 bytes (0x0201) whose reserved ones are zero (0x0202); enabling checks it, starts the counters at 0 and makes the job ACTIVE; disabling waits for commands in progress (0x0205), and the last one frees the job and what it owns. STOP stops the job and its streams; RELEASE, of a STOPPED job only (0x0205), makes its streams READY with nothing left. (12_control_plane.md R432, 12_control_plane.md R433, 12_control_plane.md R434, 12_control_plane.md R436, 12_control_plane.md R437, 12_control_plane.md R438, 12_control_plane.md R444) -/
def Obligations.StreamDoors : Prop :=
  ∀ (s : State) (i : Fin 64),
    let x := s.stream i
    (s.host.linkUp = false → (∀ v, exec (.doorbellTailWrite i v) s = .next s ∧ exec (.compHeadWrite i v) s = .next s) ∧
      exec (.controlRetry i) s = .next s ∧ exec (.controlSkip i) s = .next s ∧ exec (.controlFlush i) s = .next s) ∧
    (s.host.linkUp = true → ∀ v : BitVec 32,
      let fits := x.state ≠ .disabled ∧ (v - x.tail).toNat < 2 ^ 31 ∧ (v - x.head).toNat ≤ 4096
      (fits → exec (.doorbellTailWrite i v) s = .next (s.setStream i { x with tail := v }.refresh)) ∧
      (¬fits → Runs (.doorbellTailWrite i v) s (fun t => t.streams = s.streams ∧ t.objGet 0x1020 5 = min (2 ^ 64 - 1) (s.objGet 0x1020 5 + 1) ∧ ∃ d, t.logged 0x030C 0x1020 d)) ∧
      ((v - x.compHead).toNat ≤ (x.compTail - x.compHead).toNat → x.held = [] → exec (.compHeadWrite i v) s = .next (s.setStream i { x with compHead := v })) ∧
      ((x.compTail - x.compHead).toNat < (v - x.compHead).toNat → exec (.compHeadWrite i v) s = .next (s.bump 0x1020 5 1))) ∧
    (s.host.linkUp = true →
      (x.state = .stopped → (s.job x.job).state ≠ .stopped →
        exec (.controlRetry i) s = .next (s.setStream i { x with redo := x.earliest, failed := (x.failed ++ x.redo.toList).filter (fun n => some n != x.earliest), state := .ready }.refresh) ∧
        exec (.controlSkip i) s = .next (s.setStream i { x with redo := none, failed := [], state := .ready }.refresh) ∧
        exec (.controlFlush i) s = .next (s.setStream i { x with redo := none, failed := [], discarded := x.discarded + (x.tail - x.head), head := x.tail, state := .ready }.refresh)) ∧
      (x.state ≠ .stopped ∨ (s.job x.job).state = .stopped →
        let d := Host.Outcome.next (s.bump 0x1020 5 1)
        exec (.controlRetry i) s = d ∧ exec (.controlSkip i) s = d ∧ exec (.controlFlush i) s = d)) ∧
    (s.answers 0x1021 i → ∀ cfg : List Byte,
      (x.state ≠ .disabled → exec (.streamConfigWrite i cfg) s = .next (s.reply 0x1021 i 0x0205)) ∧
      (x.state = .disabled → cfg.length ≠ 64 → exec (.streamConfigWrite i cfg) s = .next (s.reply 0x1021 i 0x0201)) ∧
      (x.state = .disabled → cfg.length = 64 → (recZero cfg 15 16 && recZero cfg 24 64) = false → exec (.streamConfigWrite i cfg) s = .next (s.reply 0x1021 i 0x0202)) ∧
      (x.state = .disabled → cfg.length = 64 → (recZero cfg 15 16 && recZero cfg 24 64) = true → Runs (.streamConfigWrite i cfg) s (fun t => let y := t.stream i;
        y.cfgRaw = cfg ∧ y.job = recNat cfg 14 1 ∧ y.compBase.toNat = recNat cfg 0 8 ∧ y.compEntries.toNat = recNat cfg 8 4 ∧ y.vector.toNat = recNat cfg 12 2 ∧ y.modCount.toNat = recNat cfg 16 4 ∧
        y.modTime.toNat = recNat cfg 20 4 ∧ y.state = .disabled ∧ (∀ k, k < 64 → k ≠ i.val → t.stream k = s.stream k) ∧ t.out = s.out ++ [.objectReply 0x1021 i 0]))) ∧
    (s.answers 0x1022 i →
      (x.state = .disabled → x.cfgCode ≠ 0 → exec (.streamEnable i) s = .next (s.reply 0x1022 i x.cfgCode)) ∧
      (x.state ≠ .disabled → exec (.streamEnable i) s = .next (s.reply 0x1022 i 0)) ∧
      (x.state = .disabled → x.cfgCode = 0 → Runs (.streamEnable i) s (fun t => let y := t.stream i;
        y.state = (if (s.job x.job).state = .stopped then .stopped else .ready) ∧ y.head = 0 ∧ y.tail = 0 ∧ y.compHead = 0 ∧ y.compTail = 0 ∧ y.progress = [] ∧ y.job = x.job ∧
        (t.job x.job).state = (if (s.job x.job).state = .free then .active else (s.job x.job).state) ∧ ∀ k, k < 64 → k ≠ i.val → t.stream k = s.stream k)) ∧
      (x.state = .disabled → exec (.streamDisable i) s = .next (s.reply 0x1022 i 0)) ∧
      (x.state ≠ .disabled → x.progress ≠ [] → exec (.streamDisable i) s = .next (s.reply 0x1022 i 0x0205)) ∧
      (x.state ≠ .disabled → x.progress = [] → x.job < 8 → Runs (.streamDisable i) s (fun t => (t.stream i).state = .disabled ∧ (∀ k, k < 64 → k ≠ i.val → t.stream k = s.stream k) ∧
        ((∀ k, k < 64 → k ≠ i.val → (s.stream k).state = .disabled ∨ (s.stream k).job ≠ x.job) → (t.job x.job).state = .free ∧ ∀ b, b < 256 → t.blockOwner b ≠ x.job)))) ∧
    (∀ beats, let page := 0x1000 * i.val
      leNat (s.barRead beats page 4) = x.tail.toNat ∧ leNat (s.barRead beats (page + 0x08) 4) = x.compHead.toNat ∧ leNat (s.barRead beats (page + 0x18) 4) = x.head.toNat ∧
      leNat (s.barRead beats (page + 0x20) 4) = x.discarded.toNat ∧ leNat (s.barRead beats (page + 0x28) 4) = x.compTail.toNat) ∧
    (x.unsignalled = 0 → exec (.interruptModerationTimeout i) s = .next s) ∧
    (x.unsignalled ≠ 0 → s.host.linkUp = true → x.vector.toNat ∉ s.host.msixMask → exec (.interruptModerationTimeout i) s = .next ((s.setStream i { x with unsignalled := 0 }).emit (.msix x.vector.toNat))) ∧
    (∀ j : Fin 8, s.answers 0x1025 j →
      let mine : Nat → Prop := fun k => k < 64 ∧ (s.stream k).state ≠ .disabled ∧ (s.stream k).job = j.val
      ((s.job j).state = .active → j.val ≠ s.gatedJob ∨ s.esc.phase ≠ .commit → Runs (.jobStop j) s (fun t => (t.job j).state = .stopped ∧ (t.job j).cause = 0x0D03 ∧
        ∀ k, mine k → (t.stream k).state = .stopped ∧ (t.stream k).progress = [])) ∧
      ((s.job j).state = .stopped → Runs (.jobRelease j) s (fun t => (∀ k, mine k → (t.stream k).state = .ready ∧ (t.stream k).head = (s.stream k).tail) ∧ (∀ b, b < 256 → t.blockOwner b ≠ j.val) ∧
        ((∃ k, mine k) → (t.job j).state = .active) ∧ ((∀ k, ¬mine k) → (t.job j).state = .free))) ∧
      ((s.job j).state ≠ .stopped → exec (.jobRelease j) s = .next (s.reply 0x1025 j 0x0205)))

/-- A stream's next command that may start, with a good header and outside a recorded step: LAUNCH of cores in service, while no other LAUNCH waits, starts its program on each free core of the mask that is awake and leaves every other core; one with an OFFLINE core is rejected with 0x0B01 and an empty mask with 0x0303. MARKER adds INC to a counter of the job, and 0x0306 rejects another's. HOST_COPY with the link up, no channel offline for retraining and no error waiting in the memories leaves the bytes where it copies them and reports their number; when the host fails, the stream stops. A reserved opcode is rejected with 0x0301. COMMAND_COMPLETE ends a command in progress: its record stands at COMP_TAIL of the ring, and a LAUNCH waits for its cores and leaves them idle. (12_control_plane.md R435, 12_control_plane.md R440, 12_control_plane.md R441, 12_control_plane.md R442, 12_control_plane.md R443) -/
def Obligations.StreamCommands : Prop :=
  ∀ (s : State) (i : Fin 64) (n : NextCmd),
    let b := n.bytes
    let x := s.stream i
    let alone := ∀ k, k < 64 → ∀ r ∈ (s.stream k).progress, r.ops = []
    (s.starts i n 0x01 [(16, 34), (40, 64)] → recNat b 40 8 % 16 = 0 →
      let mask := recNat b 16 18
      (mask ≠ 0 → (∀ c, c < 144 → mask.testBit c = true → (s.core c).offline = false) → alone → (∀ r ∈ x.progress, r.count ≠ n.count) → Runs (.launch i) s (fun t =>
        (∀ c, c < 144 → mask.testBit c = true → s.coreBusy c = false → (s.core c).sleep = .awake →
          t.core c = (s.core c).launch i n.count (BitVec.ofNat 64 (recNat b 40 8)) (BitVec.ofNat 64 (recNat b 48 8)) (BitVec.ofNat 64 (recNat b 56 8))) ∧
        (∀ c, c < 144 → mask.testBit c = false ∨ s.coreBusy c = true → t.core c = s.core c) ∧ ∀ k, k < 64 → k ≠ i.val → t.stream k = s.stream k)) ∧
      (mask ≠ 0 → (∃ c, c < 144 ∧ mask.testBit c = true ∧ (s.core c).offline = true) → exec (.launch i) s = .next (s.rejects i n 0x0B01)) ∧
      (mask = 0 → exec (.launch i) s = .next (s.rejects i n 0x0303))) ∧
    (s.starts i n 0x02 [(16, 18), (20, 24)] →
      let k := recNat b 16 2
      let inc := sint 32 (recNat b 20 4)
      (inc = 0 → Runs (.marker i) s (fun t => s.began t i n 0 ∧ t.sync = s.sync)) ∧
      (inc ≠ 0 → inc ≠ -2 ^ 31 → s.counterOwner k = x.job → x.job < 8 → Runs (.marker i) s (fun t => s.began t i n 0 ∧ t.counter k = (s.counter k).add inc ∧ ∀ m, m < 65536 → m ≠ k → t.counter m = s.counter m)) ∧
      (inc ≠ 0 → inc ≠ -2 ^ 31 → s.counterOwner k ≠ x.job → exec (.marker i) s = .next (s.rejects i n 0x0306)) ∧
      (inc = -2 ^ 31 → s.counterOwner k = x.job → exec (.marker i) s = .next (s.rejects i n 0x0303))) ∧
    (s.starts i n 0x03 [(16, 37)] → s.host.linkUp = true → s.retraining = false → s.errorFree →
      let host := recNat b 16 8
      let dev := recNat b 24 8
      let len := recNat b 32 4
      len ≠ 0 → len % 64 = 0 → localForm dev = some dev → s.inOneWindow dev len = true →
      (recNat b 36 1 = 1 → Runs (.hostCopy i none) s (fun t => s.began t i n len ∧ mgetN zeroByte t.hostMem host len = s.view dev len)) ∧
      (recNat b 36 1 = 0 → s.esc.record = none → (∀ ln ∈ linesIn dev len, ∃ c o, c < 144 ∧ s.home (64 * ln) = some (.localMem c o)) → Runs (.hostCopy i none) s (fun t => s.began t i n len ∧
        t.view dev len = mgetN zeroByte s.hostMem host len ∧ (dev % 64 = 0 → ∀ k, k < len / 64 → (t.line (dev / 64 + k)).2 = (linesIn (host + 64 * k) 64).any s.hostPoison.contains))) ∧
      (recNat b 36 1 = 1 → (∀ r ∈ x.progress, r.count ≠ n.count) → ∀ f : BitVec 32, Runs (.hostCopy i (some f)) s (fun t => (t.stream i).state = .stopped ∧ n.count ∈ (t.stream i).failed ∧
        (x.ringFull = true → mgetN zeroByte t.hostMem host (min len (f.toNat / 64 * 64)) = s.view dev (min len (f.toNat / 64 * 64)))))) ∧
    (n.op ∉ streamOps → s.starts i n n.op [(16, 64)] → exec (.reservedCommand i) s = .next (s.rejects i n 0x0301)) ∧
    (∀ k : BitVec 32,
      (s.inProgress i k = none → exec (.commandComplete i k) s = .next s) ∧
      (∀ c, s.inProgress i k = some c →
        let op := c.raw.toNat % 256
        (op ≠ 0x01 → op ≠ 0x12 → op ≠ 0x13 → exec (.commandComplete i k) s = .next (s.endCommand i (s.withRemote c) (plainDone c.count 0 0 c.detail))) ∧
        (op = 0x01 → s.launchOver (s.withRemote c) = false → exec (.commandComplete i k) s = .next s) ∧
        (op = 0x01 → s.launchOver (s.withRemote c) = true → alone → Runs (.commandComplete i k) s (fun t => ∀ m, m < 144 → (m ∈ c.cores → (t.core m).run = .idle) ∧ (m ∉ c.cores → t.core m = s.core m))) ∧
        (s.host.linkUp = true → x.ringFull = false → x.held = [] → c.replay = false → c.flags.testBit 1 = false → ∀ d : Word,
          let t := s.endCommand i c (plainDone c.count 0 0 d)
          let e := max 1 x.compEntries.toNat
          (t.stream i).compTail = x.compTail + 1 ∧ (∀ r ∈ (t.stream i).progress, r.count ≠ c.count ∨ r.replay ≠ c.replay) ∧
          ∃ beats, mgetN zeroByte t.hostMem (x.compBase.toNat + 64 * (x.compTail.toNat % e)) 64 = ({ plainDone c.count 0 0 d with flags := if c.remoteErr then 1 else 0 } : HeldRecord).bytes beats (x.compTail.toNat / e % 2 == 0))))

/-- On either transport, while Fynen is not silent: a request whose form breaks R450, and bytes that spell none, are answered 0x0101. A plain READ of a numeric member answers its value, of a write-only member 0x0105, of a missing member 0x0103, a missing object 0x0102 and an object not served now 0x010A; DESCRIBE answers the member's row. A plain WRITE that needs AUTH is answered 0x0106 and changes no state of the device; an authenticated one with a SEQ that is not above the last is answered 0x0107, one above it sets the action of a reason, and an exact repeat is answered again without effect. EVENT_ACK ends the sending of its event without an answer. A silent Fynen takes none of these. (12_control_plane.md R449, 12_control_plane.md R450, 12_control_plane.md R451, 12_control_plane.md R452, 12_control_plane.md R456, 12_control_plane.md R457) -/
def Obligations.FynenRequests : Prop :=
  ∀ (s : State) (tr : Transport) (m : FynenMsg),
    let rd := { m with kind := 1 }
    let wr := { m with kind := 2 }
    let ds := { m with kind := 3 }
    let ack := { m with kind := 6 }
    let o := m.object.toNat
    let k := m.member.toNat
    let kept : State → Prop := fun t => t.cores = s.cores ∧ t.streams = s.streams ∧ t.jobs = s.jobs ∧ t.mem = s.mem ∧ t.boot = s.boot ∧ t.dev = s.dev ∧ t.esc = s.esc
    let same : State → Prop := fun t => kept t ∧ ∀ o' k', k' < 256 → o' ≠ 0x1030 → t.objGet o' k' = s.objGet o' k'
    let plain : FynenMsg → Prop := fun q => s.receives tr q ∧ msgWellFormed q = true ∧ msgAuth q = false ∧ m.flags.toNat / 4 = 0 ∧ m.status = 0
    (s.fynenSilent = true → exec (.fynenRead tr m) s = .next s ∧ exec (.fynenWrite tr m) s = .next s ∧ exec (.fynenDescribe tr m) s = .next s ∧ exec (.fynenEventAck tr m) s = .next s ∧
      ∀ raw, exec (.fynenFormatError tr raw) s = .next s) ∧
    (s.receives tr rd → msgWellFormed rd = false → Runs (.fynenRead tr m) s (fun t => s.answered t tr m 0x0101 m.type.toNat [] ∧ kept t ∧ t.obj = s.obj)) ∧
    (plain rd →
      (s.serves o = false → Runs (.fynenRead tr m) s (fun t => s.answered t tr m 0x010A m.type.toNat [] ∧ same t)) ∧
      (s.serves o = true → dictHas o = false → Runs (.fynenRead tr m) s (fun t => s.answered t tr m 0x0102 m.type.toNat [] ∧ same t)) ∧
      (s.serves o = true → dictHas o = true → dictRow o k = none → Runs (.fynenRead tr m) s (fun t => s.answered t tr m 0x0103 m.type.toNat [] ∧ same t)) ∧
      (∀ r, s.serves o = true → dictHas o = true → dictRow o k = some r →
        (r.access = 3 → Runs (.fynenRead tr m) s (fun t => s.answered t tr m 0x0105 m.type.toNat [] ∧ same t)) ∧
        (r.access ≠ 3 → r.type ≠ 9 → r.type ≠ 10 → m.offset = 0 → ¬(o = 0x1010 ∧ k = 7) → Runs (.fynenRead tr m) s (fun t =>
          s.answered t tr m 0 r.type (leBytes ((s.bump 0x1030 5 1).objNum o k) (fynenBytes r.type)) ∧ same t)))) ∧
    (plain ds → ∀ r, s.serves o = true → dictHas o = true → dictRow o k = some r → Runs (.fynenDescribe tr m) s (fun t => s.answered t tr m 0 r.type r.describe ∧ same t)) ∧
    (plain wr → needsAuth wr = true → Runs (.fynenWrite tr m) s (fun t => s.answered t tr m 0x0106 m.type.toNat [] ∧ same t)) ∧
    (∀ key, s.receives tr wr → msgWellFormed wr = true → m.flags = 1 → m.status = 0 → s.keyOf tr = some key → m.tag = fynenTag key s.fynen.epochId wr →
      ((∀ q r, s.lastReq tr = some (q, r) → q ≠ wr) →
        (m.seq ≤ (s.seqOf tr).getD 0 → Runs (.fynenWrite tr m) s (fun t => s.answered t tr m 0x0107 m.type.toNat [] ∧ same t)) ∧
        ((s.seqOf tr).getD 0 < m.seq → s.serves 0x3203 = true → s.dev.state ≠ .fault → o = 0x3203 → k = 1 ∨ k = 2 ∨ k = 5 ∨ k = 6 → m.type = 2 → m.offset = 0 → ∀ v : Byte, v.toNat ≤ 3 → m.value = [v] →
          Runs (.fynenWrite tr m) s (fun t => s.answered t tr m 0 2 [] ∧ t.objGet 0x3203 k = v.toNat ∧ t.seqOf tr = some m.seq ∧ kept t))) ∧
      (∀ r, s.lastReq tr = some (wr, r) → exec (.fynenWrite tr m) s = .next ((s.bump 0x1030 5 1).sendResponse tr r))) ∧
    (plain ack → tr = .t1s → Runs (.fynenEventAck tr m) s (fun t => t.fynen.unacked = s.fynen.unacked.filter (fun x => x.1.setWidth 32 != m.requestId) ∧ t.out = s.out ∧ same t)) ∧
    (plain ack → tr = .mailbox → Runs (.fynenEventAck tr m) s (fun t => t.fynen.unacked = s.fynen.unacked.filter (fun x => x.1.setWidth 32 != m.requestId) ∧ t.out = s.out ∧ t.host.busy = false ∧ same t)) ∧
    (∀ raw : List Byte, s.fynenSilent = false → (tr = .mailbox → s.host.busy = true ∧ mgetN zeroByte s.host.mbReq 0 s.host.submitted = raw) → (msgWellFormed (msgOf raw) && msgBytes (msgOf raw) == raw) = false →
      Runs (.fynenFormatError tr raw) s (fun t => s.answered t tr (msgOf raw) 0x0101 (msgOf raw).type.toNat [] ∧ t.obj = s.obj ∧ kept t))

/-- With the link up: a SUBMIT of 32 to 1,072 bytes while not BUSY takes the request, any other is counted; READY clears; four bytes written into a stream's window stand there, a write of a read-only register is ignored, and a write at or above 0x2000000 is counted; with the link down nothing changes. An unacknowledged event is sent again, and given up and counted after ten sends. Neighbour discovery answers for the device's own address alone. OBJECT_WRITE answers 0x0205 in FAULT but for a power cycle and a dump, elsewhere 0x010A, 0x0102 and 0x0103 as a request does, 0x0105 for a read-only member and 0x0201 for a value out of range, and otherwise sets the action of a reason. (12_control_plane.md R428, 12_control_plane.md R446, 12_control_plane.md R449, 12_control_plane.md R452, 12_control_plane.md R455, 12_control_plane.md R456) -/
def Obligations.HostRegisters : Prop :=
  ∀ (s : State),
    (s.host.linkUp = false → (∀ v, exec (.mailboxSubmit v) s = .next s) ∧ exec .mailboxReadyClear s = .next s ∧ ∀ off d, exec (.barWriteDiscarded off d) s = .next s) ∧
    (s.host.linkUp = true →
      (∀ v : BitVec 32,
        (s.host.busy = false → 32 ≤ v.toNat → v.toNat ≤ 1072 → exec (.mailboxSubmit v) s = .next { s with host := { s.host with busy := true, submitted := v.toNat } }) ∧
        (s.host.busy = true ∨ v.toNat < 32 ∨ 1072 < v.toNat → exec (.mailboxSubmit v) s = .next (s.bump 0x1020 5 1))) ∧
      exec .mailboxReadyClear s = .next { s with host := { s.host with ready := false } } ∧
      (∀ (i : Fin 64) (a : Nat) (d : List Byte) (off : Word), d.length = 4 → a % 4 = 0 → a < 0x40000 → off.toNat = 0x1000000 + 0x40000 * i + a → Runs (.barWriteDiscarded off d) s (fun t =>
        mgetN zeroByte (t.stream i).window a 4 = d ∧ (∀ b, b < a ∨ a + 4 ≤ b → mget zeroByte (t.stream i).window b = mget zeroByte (s.stream i).window b) ∧
        (∀ k, k < 64 → k ≠ i.val → t.stream k = s.stream k) ∧ (t.stream i).tail = (s.stream i).tail)) ∧
      (∀ (off : Word) (d : List Byte), barReadOnly off.toNat = true → d.length = 4 → off.toNat % 4 = 0 → exec (.barWriteDiscarded off d) s = .next s) ∧
      (∀ (off : Word) (d : List Byte), 0x2000000 ≤ off.toNat → exec (.barWriteDiscarded off d) s = .next (s.bump 0x1020 4 1))) ∧
    (∀ (q : Word) (e : EventRec) (n : Nat), s.fynenSilent = false → s.fynen.unacked.find? (fun x => x.1 == q) = some (q, n) → s.fynen.log.find? (fun e => e.seq == q) = some e →
      (n < 10 → Runs (.eventResend q) s (fun t => t.out = s.out ++ [.fynen .t1s (msgWithTag e.message s.fynen.keyMgmt s.fynen.epochId)] ∧
        t.fynen.unacked = s.fynen.unacked.map (fun x => if x.1 = q then (x.1, n + 1) else x) ∧ t.obj = s.obj)) ∧
      (10 ≤ n → Runs (.eventResend q) s (fun t => t.out = s.out ∧ t.fynen.unacked = s.fynen.unacked.filter (fun x => x.1 != q) ∧ t.objGet 0x1011 2 = min (2 ^ 64 - 1) (s.objGet 0x1011 2 + 1)))) ∧
    (∀ q : Word, s.fynen.unacked.find? (fun x => x.1 == q) = none → exec (.eventResend q) s = .next s) ∧
    (∀ a : BitVec 128,
      let own := a.toNat = 0xFE80000000000000004B4DFFFE4C4801 + s.power.mgmtId.toNat
      (s.fynenSilent = false → own → exec (.neighborDiscovery a) s = .next (s.emit (.neighbourAdvert a))) ∧ (¬own → exec (.neighborDiscovery a) s = .next s)) ∧
    (∀ (o : BitVec 16) (k : BitVec 8) (b : List Byte), s.fynenSilent = false →
      let n := o.toNat
      (s.dev.state = .fault → k ≠ 0 ∨ (n ≠ 0x6040 ∧ n ≠ 0x6030) → exec (.objectWrite o k b) s = .next (s.reply n k.toNat 0x0205)) ∧
      (s.serves n = false → s.dev.state ≠ .fault → exec (.objectWrite o k b) s = .next (s.reply n k.toNat 0x010A)) ∧
      (s.serves n = true → dictHas n = false → s.dev.state ≠ .fault → exec (.objectWrite o k b) s = .next (s.reply n k.toNat 0x0102)) ∧
      (s.serves n = true → dictHas n = true → dictRow n k.toNat = none → s.dev.state ≠ .fault → exec (.objectWrite o k b) s = .next (s.reply n k.toNat 0x0103)) ∧
      (∀ r, s.serves n = true → dictHas n = true → dictRow n k.toNat = some r → r.access = 0 → s.dev.state ≠ .fault → exec (.objectWrite o k b) s = .next (s.reply n k.toNat 0x0105)) ∧
      (s.serves 0x3203 = true → s.dev.state ≠ .fault → n = 0x3203 → k = 1 ∨ k = 2 ∨ k = 5 ∨ k = 6 → ∀ v : Byte, b = [v] →
        (v.toNat ≤ 3 → Runs (.objectWrite o k b) s (fun t => t.objGet 0x3203 k.toNat = v.toNat ∧ t.out = s.out ++ [.objectReply 0x3203 k.toNat 0] ∧ t.cores = s.cores)) ∧
        (3 < v.toNat → exec (.objectWrite o k b) s = .next (s.reply n k.toNat 0x0201))))

/-- Where state requests are accepted: STANDBY from IDLE takes the rails off, from RUN it drains first; IDLE from STANDBY asks for a boot when the module is seated (0x0907 otherwise), from RUN it drains; RUN is entered from IDLE and DRAIN and not in D3hot; in other states and with an EXTEST instruction loaded they are answered 0x0205. A quiet drain ends in the state that was asked for, a timeout stops every ACTIVE job with 0x0D01 and ends in IDLE. Sealing extends M4 while the firmware runs. The island's power-up reads MGMT_ID and clears the coordinate; the first helper copy that matches gives the vault its keys, and without one it enters RECOVERY with 0x0C01. ROM_BOOT enters RECOVERY with 0x0C02, 0x0C10 or 0x0C0D, FAULT with 0x0C09 on a copy that fails its scan or its CHECK, and with a good image and good hardware IDLE with its measurements. (12_control_plane.md R445, 12_control_plane.md R446, 12_control_plane.md R447, 13_boot_security.md R462, 13_boot_security.md R468, 13_boot_security.md R469, 13_boot_security.md R470, 13_boot_security.md R475) -/
def Obligations.DeviceStates : Prop :=
  ∀ (s : State),
    let d := s.dev.state
    let tells : Nat → Host.Outcome State Fault Refusal := fun c => .next (s.reply 0x1010 1 c)
    let into : DevState → State → Prop := fun x t => t.dev.state = x
    (s.answers 0x1010 1 →
      (s.extestLoaded = true → exec .stateRequestStandby s = tells 0x0205 ∧ exec .stateRequestIdle s = tells 0x0205 ∧ exec .stateRequestRun s = tells 0x0205) ∧
      (s.extestLoaded = false →
        (d = .idle → Runs .stateRequestStandby s (fun t => into .standby t ∧ t.power.rails = 0 ∧ (∀ c, c < 144 → t.core c = Core.reset) ∧ t.boot.owned = s.boot.owned) ∧ exec .stateRequestIdle s = tells 0) ∧
        (d = .run →
          (∀ x : DevState × Instr, x = (.standby, .stateRequestStandby) ∨ x = (.idle, .stateRequestIdle) → Runs x.2 s (fun t => into .drain t ∧ t.dev.afterDrain = x.1 ∧ t.jobs = s.jobs ∧
            ∀ i, i < 64 → t.stream i = { s.stream i with drainLimit := (s.stream i).tail })) ∧
          (s.host.d3hot = false → exec .stateRequestRun s = tells 0)) ∧
        (d = .idle ∨ d = .drain → s.host.d3hot = false → Runs .stateRequestRun s (fun t => into .run t ∧ t.jobs = s.jobs ∧ t.cores = s.cores)) ∧
        (s.host.d3hot = true → exec .stateRequestRun s = tells 0x0205) ∧
        (d = .standby → (s.power.presentN.asserted = true → Runs .stateRequestIdle s (fun t => t.dev = { s.dev with wantIdle := true })) ∧
          (s.power.presentN.asserted = false → exec .stateRequestIdle s = tells 0x0907) ∧ exec .stateRequestStandby s = tells 0x0205 ∧ exec .stateRequestRun s = tells 0x0205) ∧
        (d = .drain → Runs .stateRequestStandby s (fun t => t.dev = { s.dev with afterDrain := .standby }) ∧ Runs .stateRequestIdle s (fun t => t.dev = { s.dev with afterDrain := .idle })) ∧
        (d = .recovery → exec .stateRequestStandby s = tells 0x0205 ∧ exec .stateRequestIdle s = tells 0x0205 ∧ exec .stateRequestRun s = tells 0x0205))) ∧
    (d = .drain →
      (s.quiet = true → Runs .drainQuiet s (into (if s.dev.afterDrain = .standby then .standby else .idle))) ∧
      (s.quiet = false → exec .drainQuiet s = .next s) ∧
      (Runs .drainTimeout s (fun t => into .idle t ∧ ∀ j, j < 8 → (s.job j).state = .active → j ≠ s.gatedJob ∨ s.esc.phase ≠ .commit →
        (t.job j).state = .stopped ∧ (t.job j).cause = 0x0D01))) ∧
    (d ≠ .drain → exec .drainQuiet s = .next s ∧ exec .drainTimeout s = .next s) ∧
    (s.answers 0x1010 5 → Runs .configSeal s (fun t => t.boot.sealed = true ∧
      t.boot.m4 = (if d = .standby ∨ d = .recovery then s.boot.m4 else sha256 (s.boot.m4 ++ sha256 (s.blobGet 0x1000 9 ++ leBytes (s.objGet 0x1010 3) 1))) ∧ t.dev = s.dev)) ∧
    (∀ id : BitVec 3,
      (d = .standby → s.dev.powered = false →
        Runs (.islandPowerUp id true) s (fun t => t.dev.powered = true ∧ t.dev.coordAssigned = false ∧ t.power.mgmtId = id ∧ t.boot.m0 = sha256 romImage ∧ match helperCopy with
          | some i => into .standby t ∧ t.boot.vault = some (Vault.derive (padTo 32 (Config.pufSecret i))) ∧ t.boot.helper = i ∧ t.dev.wantIdle = (s.objGet 0x1010 3 == 2)
          | none => into .recovery t ∧ t.boot.status = 0x0C01 ∧ t.boot.vault = none) ∧
        Runs (.islandPowerUp id false) s (fun t => into .recovery t ∧ t.boot.status = 0x0C01 ∧ t.boot.vault = none ∧ t.boot.helper = 0)) ∧
      (∀ ok, d ≠ .standby ∨ s.dev.powered = true → exec (.islandPowerUp id ok) s = .next s)) ∧
    (∀ (loadOk : Bool) (bad : List TrainReport) (cores : List (List Bool)),
      let recovers : Fin 3 → BitVec 16 → Prop := fun r c => Runs (.romBoot r loadOk bad cores) s (fun t => into .recovery t ∧ t.boot.status = c ∧ t.boot.booted = 0xFF)
      (s.romStarts = false → ∀ r, exec (.romBoot r loadOk bad cores) s = .next s) ∧
      (s.romStarts = true → d ≠ .standby ∨ s.bootWanted = true → recovers 1 0x0C02 ∧ recovers 2 0x0C10) ∧
      (s.romStarts = true → d = .standby → s.bootWanted = false → ∀ r, Runs (.romBoot r loadOk bad cores) s (fun t => into .standby t ∧ t.fynen.silent = false ∧ t.boot.m0 = sha256 romImage ∧ t.cores = s.cores)) ∧
      (d = .standby → s.dev.powered = true → s.boot.vault.isSome = true → s.dev.wantIdle = true → s.power.presentN.asserted = true → s.fynen.silent = false → s.dev.powerCycling = false → s.boot.pending = none →
        let i := s.boot.confirmed
        (s.imageCode i ≠ 0 → s.imageCode (1 - i) ≠ 0 → recovers 0 0x0C0D) ∧
        (s.imageCode i = 0 →
          let good := loadOk = true ∧ crc32c (s.componentBytes i 2) = (s.component i 2).check
          (¬good → Runs (.romBoot 0 loadOk bad cores) s (fun t => into .fault t ∧ t.objGet 0x1010 4 = 0x0C09)) ∧
          (good → bad = [] → (∀ q p, q < 4 → p < 40 → (cores.getD q []).getD p false = true) → (∀ n, n < 160 → (s.phys n).retired = false) → Runs (.romBoot 0 loadOk bad cores) s (fun t =>
            into .idle t ∧ t.boot.booted = i ∧ t.boot.status = 0 ∧ t.boot.bootCount = s.boot.bootCount + 1 ∧ t.boot.m1 = sha256 (s.slotBytesAt i 0 4096) ∧ t.power.rails = 15 ∧
            ∀ c, c < 144 → t.physOf c = 40 * coreQuarter c + c % 36)))))

/-- A session opens on a slot that may be written (0x0201, 0x0205, 0x0206) and leaves it WRITING; data goes in order from the transport that opened it, in whole words, to 4 MiB (0x0C0C); a commit ends the session, and its verification makes the slot pending with three tries or FAILED with the code. An ownership request that fails its check is answered with the code and leaves the owner; one that passes registers, transfers or releases, and release forgets both Fynen keys; the nonce is replaced in every case. A key is installed for its transport when the proof opens, and stored with its MAC in the RPMB. A nonce of 32 bytes within the rate gives a report over it with the next index, and the index block is reserved before it is used. (13_boot_security.md R471, 13_boot_security.md R472, 13_boot_security.md R473, 13_boot_security.md R474, 13_boot_security.md R476, 13_boot_security.md R477) -/
def Obligations.ImagesAndOwner : Prop :=
  ∀ (s : State) (tr : Transport),
    let b := s.boot
    (s.answers 0x1110 2 → ∀ v : BitVec 8,
      let i := v.toNat
      let held := b.session.isSome = true ∨ (i = b.confirmed ∧ s.dev.state ≠ .recovery)
      (1 < i → exec (.imageSessionOpen tr v) s = .next (s.reply 0x1110 2 0x0201)) ∧
      (i ≤ 1 → s.imageServes = false → exec (.imageSessionOpen tr v) s = .next (s.reply 0x1110 2 0x0205)) ∧
      (i ≤ 1 → s.imageServes = true → held → exec (.imageSessionOpen tr v) s = .next (s.reply 0x1110 2 0x0206)) ∧
      (i ≤ 1 → s.imageServes = true → ¬held → Runs (.imageSessionOpen tr v) s (fun t => t.boot.session = some (i, tr) ∧ t.boot.offset = 0 ∧ vget t.boot.slotState i .invalid = .writing ∧
        t.slotBytesAt i 0 4096 = List.replicate 4096 0 ∧ vget t.boot.slots (1 - i) [] = vget b.slots (1 - i) []))) ∧
    (∀ (i : Nat) (u : Transport), i < 2 → b.session = some (i, u) →
      (s.answers 0x1110 4 → ∀ data : List Byte,
        let fit := 4 ≤ data.length ∧ data.length ≤ 1024 ∧ data.length % 4 = 0
        (u ≠ tr → exec (.imageSlotData tr data) s = .next (s.reply 0x1110 4 0x0206)) ∧ (u = tr → ¬fit → exec (.imageSlotData tr data) s = .next (s.reply 0x1110 4 0x0201)) ∧
        (u = tr → fit → 4 * 2 ^ 20 < b.offset + data.length → exec (.imageSlotData tr data) s = .next (s.reply 0x1110 4 0x0C0C)) ∧
        (u = tr → fit → b.offset + data.length ≤ 4 * 2 ^ 20 → Runs (.imageSlotData tr data) s (fun t => t.boot.offset = b.offset + data.length ∧
          t.slotBytesAt i b.offset data.length = data ∧ t.slotBytesAt i 0 b.offset = s.slotBytesAt i 0 b.offset ∧ t.boot.session = b.session))) ∧
      (s.answers 0x1110 5 → u = tr → s.dev.state ≠ .recovery → Runs (.imageCommit tr) s (fun t => t.boot.session = none ∧ vget t.boot.slotState i .invalid = .verifying ∧ t.boot.slots = b.slots))) ∧
    (b.session = none → (s.answers 0x1110 4 → ∀ data, exec (.imageSlotData tr data) s = .next (s.reply 0x1110 4 0x0205)) ∧ (s.answers 0x1110 5 → exec (.imageCommit tr) s = .next (s.reply 0x1110 5 0x0205))) ∧
    (∀ x : Fin 2,
      (vget b.slotState x .invalid ≠ .verifying → exec (.imageVerifyComplete x) s = .next s) ∧
      (vget b.slotState x .invalid = .verifying →
        (s.imageCode x = 0 → exec (.imageVerifyComplete x) s = .next { s with boot := { b with pending := some x, tries := 3, slotState := vset b.slotState x .pending } }) ∧
        (s.imageCode x ≠ 0 → exec (.imageVerifyComplete x) s = .next { s with boot := { b with failCode := BitVec.ofNat 16 (s.imageCode x), slotState := vset b.slotState x .failed } }))) ∧
    (s.answers 0x1101 4 → ∀ rec_ : List Byte,
      let asks : Nat → Instr → Prop := fun op i => (let r := rec_.set 122 (BitVec.ofNat 8 op);
        (s.ownerCode r ≠ 0 → Runs i s (fun t => t.out = s.out ++ [.objectReply 0x1101 4 (BitVec.ofNat 16 (s.ownerCode r))] ∧ t.boot = { b with nonce := t.boot.nonce } ∧ t.fynen = s.fynen)) ∧
        (s.ownerCode r = 0 → op ≤ 2 → Runs i s (fun t => t.boot = { b with owned := true, ownerHash := sha256 ((r.drop 60).take 60), requireOwner := (recNat r 123 1).testBit 0, nonce := t.boot.nonce } ∧ t.fynen = s.fynen)) ∧
        (s.ownerCode r = 0 → op = 3 → Runs i s (fun t => t.boot = { b with owned := false, ownerHash := List.replicate 32 0, requireOwner := false, nonce := t.boot.nonce, keyStore := Vector.replicate 2 [], keyMacs := Vector.replicate 2 [] } ∧
          t.fynen.keyMgmt = none ∧ t.fynen.keyHost = none)));
      asks 1 (.ownershipRegister rec_) ∧ asks 2 (.ownershipTransfer rec_) ∧ asks 3 (.ownershipRelease rec_)) ∧
    (s.answers 0x1102 0 → ∀ (r sig : List Byte), recSignature r 1200 = some sig → recNat r 0 2 = 1 → recNat r 3 1 = 0 → recNat r 2 1 = 1 ∨ recNat r 2 1 = 2 →
      let mine := (r.drop 4).take 32 = b.nonce ∧ (r.drop 36).take 16 = serialBytes
      (b.owned = false → exec (.keyInstall r) s = .next (s.reply 0x1102 0 0x0C0B)) ∧
      (b.owned = true → ¬mine → exec (.keyInstall r) s = .next (s.reply 0x1102 0 0x0C0A)) ∧
      (b.owned = true → mine → Config.ownerVerify b.ownerHash (r.take 1200) sig = false → exec (.keyInstall r) s = .next (s.reply 0x1102 0 0x0C05)) ∧
      (b.owned = true → mine → Config.ownerVerify b.ownerHash (r.take 1200) sig = true → ∀ key,
        Config.aesGcmOpen (Config.mlkemDecap ((r.drop 52).take 1088)) ((r.drop 1140).take 12) (r.take 52) ((r.drop 1152).take 32) ((r.drop 1184).take 16) = some key → Runs (.keyInstall r) s (fun t => t.boot = { b with keyStore := t.boot.keyStore, keyMacs := t.boot.keyMacs } ∧
          (let j := recNat r 2 1 - 1; vget t.boot.keyStore (1 - j) [] = vget b.keyStore (1 - j) [] ∧ ∀ v, b.vault = some v → vget t.boot.keyMacs j [] = hmac256 v.rpmb (vget t.boot.keyStore j [])) ∧
          t.keyOf (if recNat r 2 1 = 1 then .t1s else .mailbox) = some key ∧ t.keyOf (if recNat r 2 1 = 1 then .mailbox else .t1s) = s.keyOf (if recNat r 2 1 = 1 then .mailbox else .t1s)))) ∧
    (s.answers 0x1120 0 → ∀ nonce : List Byte,
      (nonce.length ≠ 32 → exec (.attestationNonce nonce) s = .next (s.reply 0x1120 0 0x0201)) ∧
      (nonce.length = 32 → 0 < b.burst → b.usedIndex < 2 ^ 25 → Runs (.attestationNonce nonce) s (fun t => t.boot.usedIndex = b.usedIndex + 1 ∧ t.boot.usedIndex ≤ t.boot.nextIndex ∧ t.boot.burst < 16 ∧
        (t.boot.report.drop 32).take 32 = nonce ∧ t.objGet 0x1120 7 = min (2 ^ 64 - 1) (s.objGet 0x1120 7 + 1) ∧
        ∃ beats, let m := s.reportBytes nonce beats; t.boot.report = m ++ padTo 5236 (Config.hssSign b.usedIndex m))) ∧
      (nonce.length = 32 → 0 < b.burst → 2 ^ 25 ≤ b.usedIndex → Runs (.attestationNonce nonce) s (fun t => t.boot = b ∧ t.out = s.out ++ [.objectReply 0x1120 0 0x0C0E])))

/-- An input that its voltage lets close is switched in, powers a device that is OFF when it lies within 48 to 54 V, and reports whether it does; one below 45 V, at or above 57 V or with reverse current is switched out, the other takes the load, its switch closing when it lies within 48 to 54 V, and with none left the device is OFF with owner, keys and SVN kept. A rail out of regulation is FAULT 0x0908 and loses what it feeds; at start-up the rails before it are up. The lost fabric clock is replaced by the oscillator; a bad crystal costs 50 points of health until it is good. (14_power_clocks.md R480, 14_power_clocks.md R481, 14_power_clocks.md R482, 14_power_clocks.md R483, 14_power_clocks.md R484, 14_power_clocks.md R486) -/
def Obligations.PowerSupply : Prop :=
  ∀ (s : State) (i : Fin 2) (v : BitVec 32),
    let d := s.dev.state
    let x := s.input i
    let o := s.input (1 - i)
    let f := f32 v.toNat
    let joins : Instr → Prop := fun c => Runs c s (fun t => (t.input i).inRange = inOperation v ∧ (t.input i).switchClosed = true ∧ (t.input i).volts = v ∧
      (∀ j, j < 2 → (t.input j).supplying = (t.input j).supplies (t.input (1 - j))) ∧ t.jobs = s.jobs ∧
      t.dev.state = (if d = .off ∧ (inOperation v || (o.switchClosed && inOperation o.volts)) = true then .standby else d) ∧ (x.inRange ≠ inOperation v → d ≠ .off → ∃ n, t.logged 0x0903 0x7000 n))
    let lost : State → Prop := fun t => t.dev.state = .off ∧ (∀ c, c < 144 → t.core c = Core.reset) ∧ (∀ j, j < 8 → (t.job j).state = .free) ∧ t.boot.owned = s.boot.owned ∧ t.boot.ownerHash = s.boot.ownerHash ∧
      t.boot.storedSvn = s.boot.storedSvn ∧ t.boot.usedIndex = s.boot.nextIndex ∧ t.fynen.keyMgmt = s.fynen.keyMgmt ∧ t.fynen.keyHost = s.fynen.keyHost
    let drops : Instr → Bool → Prop := fun c r =>
      (d ≠ .off → (inOperation o.volts || o.switchClosed) = true → Runs c s (fun t => (t.input i).switchClosed = false ∧ (t.input i).supplying = false ∧ (t.input i).inRange = (if r then false else x.inRange) ∧
        (t.input (1 - i)).switchClosed = true ∧ (t.input (1 - i)).supplying = true ∧ t.dev = s.dev ∧ t.jobs = s.jobs ∧ t.cores = s.cores ∧
        t.objGet 0x7000 4 = (if (x.supplying && inOperation o.volts) = true then min (2 ^ 64 - 1) (s.objGet 0x7000 4 + 1) else s.objGet 0x7000 4) ∧
        (r = true → x.inRange = true → ∃ n, t.logged 0x0903 0x7000 n))) ∧
      (d ≠ .off → inOperation o.volts = false → o.switchClosed = false → Runs c s lost) ∧ (d = .off → Runs c s (fun t => (t.input i).switchClosed = false ∧ t.dev = s.dev))
    ((opensSwitch f = true → drops (.inputApplied i v) true) ∧ (opensSwitch f = false → (x.switchClosed || x.recloses f) = true → joins (.inputApplied i v)) ∧
      (opensSwitch f = false → (x.switchClosed || x.recloses f) = false → Runs (.inputApplied i v) s (fun t => t.input i = { inRange := inOperation v, switchClosed := false, supplying := false, volts := v } ∧
        t.input (1 - i) = { o with supplying := o.switchClosed } ∧ t.dev.state = (if d = .off ∧ (o.switchClosed && inOperation o.volts) = true then .standby else d)))) ∧
    (f.lt (ofNatVal 45) = true → drops (.inputUndervoltage i v) true) ∧ (f.lt (ofNatVal 45) = false → exec (.inputUndervoltage i v) s = .next s) ∧
    ((ofNatVal 57).le f = true → drops (.inputOvervoltage i v) true) ∧ ((ofNatVal 57).le f = false → exec (.inputOvervoltage i v) s = .next s) ∧
    (x.switchClosed = false → (x.recloses f = true → joins (.inputUndervoltageRecovery i v)) ∧ (x.recloses f = false → exec (.inputUndervoltageRecovery i v) s = .next s) ∧
      let back := (ofNatVal 47).le f && f.lt (ofNatVal 55)
      (back = true → joins (.inputOvervoltageRecovery i v)) ∧ (back = false → exec (.inputOvervoltageRecovery i v) s = .next s)) ∧
    (x.switchClosed = true → drops (.inputReverseCurrent i) false ∧ exec (.inputUndervoltageRecovery i v) s = .next s ∧ exec (.inputOvervoltageRecovery i v) s = .next s) ∧
    (x.switchClosed = false → exec (.inputReverseCurrent i) s = .next s) ∧
    (d ≠ .off → Runs .bothInputsLost s (fun t => lost t ∧ t.power.vinA.switchClosed = false ∧ t.power.vinB.switchClosed = false)) ∧
    (∀ r : Fin 5,
      let on := if r.val = 4 then s.power.quarterClocks else s.power.rails.getLsbD r
      (d ≠ .off → on = true → Runs (.railOutOfRegulation r) s (fun t => t.dev.state = .fault ∧ (d ≠ .fault → t.objGet 0x1010 4 = 0x0908) ∧
        (if r.val = 4 then t.power.quarterClocks = false else t.power.rails.getLsbD r = false) ∧ (r.val = 1 → t.host.linkUp = false) ∧ (r.val = 3 → ∀ c, c < 144 → (t.core c).run = .idle))) ∧
      (d = .standby → s.dev.wantIdle = true → on = false → Runs (.railOutOfRegulation r) s (fun t => t.dev.state = .fault ∧ t.objGet 0x1010 4 = 0x0908 ∧
        (if r.val = 4 then t.power.quarterClocks = false else t.power.rails.getLsbD r = false) ∧ ∀ k, k < r.val → t.power.rails.getLsbD k = true)) ∧
      (d = .off ∨ (on = false ∧ (d ≠ .standby ∨ s.dev.wantIdle = false)) → exec (.railOutOfRegulation r) s = .next s)) ∧
    (d ≠ .off → s.power.refOsc = false → Runs .fabRefclkLoss s (fun t => t.power.refOsc = true ∧ t.power.fabRefclk = false ∧ t.jobs = s.jobs ∧ t.cores = s.cores ∧ ∃ n, t.logged 0x0904 0x7030 n)) ∧
    (d = .off ∨ s.power.refOsc = true → exec .fabRefclkLoss s = .next { s with power := { s.power with fabRefclk := false } }) ∧
    (∀ good, d = .off ∨ good = s.power.crystalOk → exec (.crystalCheck good) s = .next s) ∧
    (d ≠ .off → s.power.crystalOk = true → Runs (.crystalCheck false) s (fun t => t.power.crystalOk = false ∧ t.health = s.health - (if s.resil.drill = none then 50 else 0) ∧ t.jobs = s.jobs)) ∧
    (d ≠ .off → s.power.crystalOk = false → Runs (.crystalCheck true) s (fun t => t.power.crystalOk = true ∧ ∀ e ∈ t.resil.deductions, e ∈ s.resil.deductions ∧ (e.1 = 8 → e.2.2 = true)))

/-- An idle core queues for sleep; the Fusee grants wakes of the Remontoire first, then other wakes, then sleep, which keeps local and side memory and loses the registers; a locked PLL wakes its core. The power step rises above the limit and falls at 5 % below it, a quarter's thermal step rises above the target and falls 2 °C below it, both between 0 and 31, and each quarter takes what is demanded of it. A reading is stored and costs health when it comes within the margin; one at 105 °C trips: FAULT with VCORE, VHBM and VQ off. (14_power_clocks.md R488, 14_power_clocks.md R489, 14_power_clocks.md R490, 14_power_clocks.md R491, 14_power_clocks.md R494, 14_power_clocks.md R497, 14_power_clocks.md R498, 14_power_clocks.md R499, 11_resilience.md R404) -/
def Obligations.SleepAndSteps : Prop :=
  ∀ (s : State),
    let d := s.dev.state
    let demanded : State → Prop := fun t => ∀ q, q < 4 → vget t.power.step q 0 = t.demand q
    (∀ c : Fin 144,
      let x := s.core c
      let may := s.takesReset = true ∧ x.sleep = .awake ∧ x.offline = false ∧ x.fenced = false ∧ s.coreIdle c = true
      (may → Runs (.coreSleepEntry c) s (fun t => t.core c = { x with sleep := .sleepQueued } ∧ t.power.fuseeSleep = s.power.fuseeSleep ++ [c.val])) ∧ (¬may → exec (.coreSleepEntry c) s = .next s) ∧
      (x.sleep = .locking → Runs (.corePllLock c) s (fun t => t.core c = { x with sleep := .awake } ∧ ∀ b, b ≠ c.val → t.core b = s.core b)) ∧
      (x.sleep ≠ .locking → exec (.corePllLock c) s = .next s) ∧
      (let woken : State → Prop := fun t => t.core c = { x with sleep := .locking } ∧ t.objGet 0x7011 5 = min (2 ^ 64 - 1) (s.objGet 0x7011 5 + 1) ∧ t.power.fuseeSleep = s.power.fuseeSleep;
        ∀ r, (s.power.fuseeRemontoire = c.val :: r → Runs .fuseeGrant s (fun t => woken t ∧ t.power.fuseeRemontoire = r ∧ t.power.fusee = s.power.fusee)) ∧
          (s.power.fuseeRemontoire = [] → s.power.fusee = c.val :: r → Runs .fuseeGrant s (fun t => woken t ∧ t.power.fusee = r)) ∧
          (s.power.fuseeRemontoire = [] → s.power.fusee = [] → s.power.fuseeSleep = c.val :: r → Runs .fuseeGrant s (fun t => t.power.fuseeSleep = r ∧ (t.core c).sleep = .asleep ∧
            (t.core c).lmem = x.lmem ∧ (t.core c).side = x.side ∧ (t.core c).sreg = Vector.replicate 32 0 ∧ (t.core c).acc = [] ∧ ∀ b, b ≠ c.val → t.core b = s.core b)))) ∧
    (s.power.fuseeRemontoire = [] → s.power.fusee = [] → s.power.fuseeSleep = [] → exec .fuseeGrant s = .next s) ∧
    (∀ watts : BitVec 32,
      let limit := s.objGet 0x7010 0
      let w := f32 watts.toNat
      let old := s.power.powerStep
      d ≠ .off → Runs (.powerLimitWindow watts) s (fun t => t.power.inputPower = watts ∧ demanded t ∧
        t.power.powerStep = if (ofNatVal limit).lt w = true then min 31 (old + 1) else if (w.times 100).le (ofNatVal (95 * limit)) = true then old - 1 else old)) ∧
    (∀ q : Fin 4,
      let target := s.objGet 0x7020 0
      let l := vget s.power.sensors q []
      let old := vget s.power.thermalStep q 0
      d ≠ .off → Runs (.thermalStepTick q) s (fun t => demanded t ∧ (∀ p, p ≠ q.val → vget t.power.thermalStep p 0 = vget s.power.thermalStep p 0) ∧
        vget t.power.thermalStep q 0 = if ∃ r ∈ l, (ofNatVal target).lt (f32 r.toNat) = true then min 31 (old + 1) else if ∀ r ∈ l, (f32 r.toNat).le (ofNatVal (target - 2)) = true then old - 1 else old)) ∧
    (∀ (junction : List (List (BitVec 32))) (temps : List (BitVec 32)),
      let all := (List.range 4).flatMap (fun q => junction.getD q [])
      let margin := 105 - s.objGet 0x6012 2
      let hot := anyAt all 105 || anyAt temps 105
      (d ≠ .off → s.power.tripped = false → hot = true → Runs (.sensorReading junction temps) s (fun t => t.dev.state = .fault ∧ t.power.tripped = true ∧ t.objGet 0x1010 4 = 0x0901 ∧
        t.power.rails = s.power.rails &&& 2 ∧ t.objGet 0x7020 6 = min (2 ^ 64 - 1) (s.objGet 0x7020 6 + 1) ∧ t.faultN = false)) ∧
      (d ≠ .off → s.power.tripped = true ∨ hot = false → Runs (.sensorReading junction temps) s (fun t => t.dev = s.dev ∧ t.jobs = s.jobs ∧ (∀ q, q < 4 → vget t.power.sensors q [] = junction.getD q []) ∧
        (∀ k, k < 12 → ∀ v, temps[k]? = some v → (t.stack k).temp = v ∧ ((ofNatVal 95).le (f32 v.toNat) = true → (t.stack k).doubleRefresh = true) ∧
          ((f32 v.toNat).lt (ofNatVal 92) = true → (t.stack k).doubleRefresh = false)) ∧
        t.health = s.health - (if anyAt all margin && !anyAt s.power.junctions margin && s.resil.drill.isNone then 10 else 0)))) ∧
    (d = .off → (∀ j l, exec (.sensorReading j l) s = .next s) ∧ (∀ w, exec (.powerLimitWindow w) s = .next s) ∧ ∀ q, exec (.thermalStepTick q) s = .next s)

/-- RESET_N held for 1 ms in IDLE, RUN or DRAIN starts a warm reset that lasts until it is released; a shorter assertion, and one during a trip, is counted and has no effect. THROTTLE_N changes the step of every quarter. PRESENT_N deasserted in IDLE, RUN or DRAIN stops the ACTIVE jobs with 0x0907 and is FAULT without a dump, with VCORE, VHBM and VQ off. A chattering input counts as asserted, is counted and raises 0x0906; one that is held raises 0x0905. IDCODE shifts out 0x10180A3D; an EXTEST instruction is taken in IDLE with every job FREE and is BYPASS elsewhere; leaving it is a warm reset. The TAP of a device that is OFF does nothing. (14_power_clocks.md R500, 14_power_clocks.md R501, 14_power_clocks.md R502, 15_signals_electrical.md R520, 15_signals_electrical.md R521, 14_power_clocks.md R498) -/
def Obligations.PinsTap : Prop :=
  ∀ (s : State),
    let d := s.dev.state
    let demanded : State → Prop := fun t => ∀ q, q < 4 → vget t.power.step q 0 = t.demand q
    let warmed : State → Prop := fun t => t.dev.state = .reset ∧ t.resil.resetRung = 3 ∧ ∀ j, j < 8 → (t.job j).state = .free
    let one : Nat → State → Prop := fun m t => t.objGet 0x7030 m = min (2 ^ 64 - 1) (s.objGet 0x7030 m + 1)
    (d ≠ .off → exec (.resetNAssert 0) s = .next (s.bump 0x7030 3 1)) ∧
    (∀ ms : Nat, 1 ≤ ms → d ≠ .off →
      (s.power.tripped = true → Runs (.resetNAssert ms) s (fun t => t.power.resetN.asserted = true ∧ one 3 t ∧ t.dev = s.dev ∧ t.jobs = s.jobs)) ∧
      (s.power.tripped = false →
        (s.takesReset = true → Runs (.resetNAssert ms) s (fun t => warmed t ∧ t.dev.resetHeld = true ∧ t.power.resetN.asserted = true ∧ t.extestLoaded = false)) ∧
        (d = .reset → Runs (.resetNAssert ms) s (fun t => t.dev = { s.dev with resetHeld := true } ∧ t.mem = s.mem)) ∧
        (s.takesReset = false → d ≠ .reset → Runs (.resetNAssert ms) s (fun t => t.dev = s.dev ∧ t.mem = s.mem ∧ t.power.resetN.asserted = true)))) ∧
    Runs .resetNRelease s (fun t => t.dev = { s.dev with resetHeld := false } ∧ t.power.resetN.asserted = false ∧ t.mem = s.mem ∧ t.cores = s.cores) ∧
    Runs .throttleNAssert s (fun t => t.power.throttleN.asserted = true ∧ demanded t ∧ t.dev = s.dev ∧ t.cores = s.cores) ∧
    Runs .throttleNRelease s (fun t => t.power.throttleN.asserted = false ∧ demanded t ∧ t.dev = s.dev ∧ t.cores = s.cores) ∧
    (s.takesReset = true → Runs .presentNDeassert s (fun t => t.dev.state = .fault ∧ t.objGet 0x1010 4 = 0x0907 ∧ t.power.rails = s.power.rails &&& 2 ∧ t.power.presentN.asserted = false ∧ t.resil.dumps = s.resil.dumps ∧
      t.extestLoaded = false ∧ ∀ j, j < 8 → (s.job j).state = .active → j ≠ s.gatedJob ∨ s.esc.phase ≠ .commit → (t.job j).state = .stopped ∧ (t.job j).cause = 0x0907)) ∧
    (s.takesReset = false → Runs .presentNDeassert s (fun t => t.power.presentN.asserted = false ∧ t.dev = s.dev ∧ t.mem = s.mem)) ∧
    Runs .presentNAssert s (fun t => t.power.presentN.asserted = true ∧ t.dev = s.dev ∧ t.mem = s.mem ∧ t.jobs = s.jobs) ∧
    (d ≠ .off →
      (s.power.tripped = false → s.takesReset = true → Runs (.inputChatter 0) s (fun t => warmed t ∧ t.dev.resetHeld = true ∧ one 2 t)) ∧
      Runs (.inputChatter 1) s (fun t => t.power.throttleN.asserted = true ∧ demanded t ∧ one 2 t ∧ t.dev = s.dev ∧ ∃ n, t.logged 0x0906 0x7030 n) ∧
      Runs (.inputChatter 2) s (fun t => t.power.presentN.asserted = true ∧ one 2 t ∧ t.dev = s.dev ∧ ∃ n, t.logged 0x0906 0x7030 n) ∧
      (∀ i : Fin 3,
        let held := if i.val = 0 then s.power.resetN.asserted || s.power.resetN.chatter else if i.val = 1 then s.power.throttleN.asserted || s.power.throttleN.chatter else s.power.presentN.chatter
        (held = true → Runs (.inputHeld i) s (fun t => t.dev = s.dev ∧ t.jobs = s.jobs ∧ ∃ n, t.logged 0x0905 0x7030 n)) ∧ (held = false → exec (.inputHeld i) s = .next s))) ∧
    (d = .off → (∀ c, exec (.tapSamplePreload c) s = .next s) ∧ exec .tapBypass s = .next s ∧ exec .tapIdcode s = .next s ∧ exec .extest s = .next s ∧ exec .extestPulse s = .next s ∧ exec .extestTrain s = .next s) ∧
    (d ≠ .off → s.extestLoaded = false →
      Runs .tapBypass s (fun t => t.power.tap = .bypass ∧ t.out = s.out ++ [.tdo 1 0] ∧ t.dev = s.dev) ∧ Runs .tapIdcode s (fun t => t.power.tap = .idcode ∧ t.out = s.out ++ [.tdo 32 0x10180A3D] ∧ t.dev = s.dev) ∧
      (∀ cells, Runs (.tapSamplePreload cells) s (fun t => t.power.tap = .samplePreload ∧ t.power.boundary = cells ∧ t.dev = s.dev ∧ ∃ v, t.out = s.out ++ [.tdo 64 v])) ∧ exec .extestLeave s = .next s) ∧
    (s.extestLoaded = true → s.takesReset = true → Runs .tapBypass s warmed ∧ Runs .tapIdcode s warmed ∧ (∀ cells, Runs (.tapSamplePreload cells) s warmed) ∧ Runs .extestLeave s warmed) ∧
    (∀ x : Instr × TapInstr, x = (.extest, .extest) ∨ x = (.extestPulse, .extestPulse) ∨ x = (.extestTrain, .extestTrain) →
      (d = .idle → (∀ j, j < 8 → (s.job j).state = .free) → Runs x.1 s (fun t => t.power.tap = x.2 ∧ t.dev = s.dev ∧ t.faultN = false ∧ t.jobs = s.jobs)) ∧
      (d ≠ .off → s.extestLoaded = false → d ≠ .idle ∨ (∃ j, j < 8 ∧ (s.job j).state ≠ .free) → Runs x.1 s (fun t => t.power.tap = .bypass ∧ t.dev = s.dev)))

/-- From every state in which an UNOWNED device has no owner key hash and requires no owner, the digests have 32 bytes, the confirmed slot, the pending slot and the slot of an open session are A or B, at most three tries are left, at most sixteen reports are allowed at once, and the indices used lie below the reserved index, which is at most 2^25, a step that answers a next state gives a state in which all of that holds again. (13_boot_security.md R465, 13_boot_security.md R469, 13_boot_security.md R470, 13_boot_security.md R472, 13_boot_security.md R473, 13_boot_security.md R475, 13_boot_security.md R476, 13_boot_security.md R477) -/
def Obligations.BootInvariant : Prop :=
  ∀ s t : State, s.boot.wf → step s = .next t → t.boot.wf

/-- The invariant of the boot and security part that every step keeps holds in the reset state. The values of the RPMB records at reset are the model's choice where 13 Table 2 states none (log 3). (13_boot_security.md R465, 13_boot_security.md R473) -/
def Obligations.BootInvariantAtReset : Prop :=
  State.reset.boot.wf

/-- From every state in which the boot and security part is well-formed, every command, with every operand, answers a next state in which that part is well-formed again, the stored SVN and the next signature index are at their values or above them, and the queue is as it was. From every such state, a step that answers a next state leaves the stored SVN at its value or above it and the next signature index at its value or above it, through every reset, loss of power and boot; and the queue loses its front command and nothing else. That the queue is the model's own way to hold commands is the model's choice (log 1). (13_boot_security.md R470, 13_boot_security.md R477, 12_control_plane.md R445) -/
def Obligations.SvnAndIndexOnlyRise : Prop :=
  (∀ (i : Instr) (s : State), s.boot.wf → Runs i s (fun t => t.boot.wf ∧ s.boot.storedSvn ≤ t.boot.storedSvn ∧ s.boot.usedIndex ≤ t.boot.usedIndex ∧ t.pending = s.pending)) ∧
  ∀ s t : State, s.boot.wf → step s = .next t → s.boot.storedSvn ≤ t.boot.storedSvn ∧ s.boot.usedIndex ≤ t.boot.usedIndex ∧ t.pending = s.pending.tail
end

