-- ==== Sys2Proof/Laws/Table.lean ====
section
/-! SUPPORT. The laws of vectors, sparse tables, sparse memories, rising lists and byte strings: what a read gives after a write, and that the
canonical form is kept. -/

namespace Sys2Proof.Machine

/-! ## Vectors by number -/

@[simp] theorem vget_vset_same {α : Type} {n : Nat} (v : Vector α n) (i : Nat) (x d : α) (h : i < n) : vget (vset v i x) i d = x := by
  simp [vget, vset, h]

@[simp] theorem vget_vset_ne {α : Type} {n : Nat} (v : Vector α n) (i j : Nat) (x d : α) (h : j ≠ i) : vget (vset v i x) j d = vget v j d := by
  unfold vget vset
  split
  · simp only [List.getD_eq_getElem?_getD, Vector.toList_set]
    rw [List.getElem?_set_ne (Ne.symm h)]
  · rfl

theorem vset_out {α : Type} {n : Nat} (v : Vector α n) (i : Nat) (x : α) (h : n ≤ i) : vset v i x = v := by
  simp [vset, Nat.not_lt.mpr h]

/-! ## Sparse tables -/

/-- The keys of a table rise strictly. -/
def Rising {α : Type} (t : Tbl α) : Prop := t.Pairwise (fun a b => a.1 < b.1)

@[simp] theorem tget_tins_same {α : Type} (d : α) (t : Tbl α) (i : Nat) (v : α) : tget d (tins t i v) i = v := by
  induction t with
  | nil => simp [tins, tget]
  | cons c r ih =>
    obtain ⟨k, w⟩ := c
    unfold tins
    split
    · simp [tget]
    · split
      · simp [tget]
      · rename_i h1 h2
        simp [tget, h2, ih]

@[simp] theorem tget_tins_ne {α : Type} (d : α) (t : Tbl α) (i j : Nat) (v : α) (h : j ≠ i) : tget d (tins t i v) j = tget d t j := by
  induction t with
  | nil => simp [tins, tget, h]
  | cons c r ih =>
    obtain ⟨k, w⟩ := c
    unfold tins
    split
    · simp [tget, h]
    · split
      · rename_i h2
        subst h2
        simp [tget, h]
      · simp [tget, ih]

theorem tget_not_mem {α : Type} (d : α) (t : Tbl α) (i : Nat) (h : ∀ c ∈ t, c.1 ≠ i) : tget d t i = d := by
  induction t with
  | nil => rfl
  | cons c r ih =>
    obtain ⟨k, w⟩ := c
    have hk : i ≠ k := fun e => h (k, w) (by simp) e.symm
    simp [tget, hk, ih (fun c hc => h c (List.mem_cons_of_mem _ hc))]

/-- What a filter by key keeps reads as before, and what it drops reads as the default. -/
theorem tget_filter {α : Type} (d : α) (t : Tbl α) (p : Nat → Bool) (i : Nat) :
    tget d (t.filter (fun c => p c.1)) i = if p i then tget d t i else d := by
  induction t with
  | nil => simp [tget]
  | cons c r ih =>
    obtain ⟨k, w⟩ := c
    by_cases hk : i = k
    · subst hk
      by_cases hp : p i = true <;> simp [hp, tget]
      simpa [hp] using ih
    · by_cases hp : p k = true <;> simp [hp, tget, hk, ih]

/-- A table of two parts reads the first part where it lists the key. -/
theorem tget_append {α : Type} (d : α) (t u : Tbl α) (i : Nat) : tget d (t ++ u) i = if t.any (fun c => c.1 == i) then tget d t i else tget d u i := by
  induction t with
  | nil => simp
  | cons c r ih =>
    obtain ⟨k, w⟩ := c
    by_cases hk : i = k
    · subst hk; simp [tget]
    · have : (k == i) = false := by simpa using fun e : k = i => hk e.symm
      simp only [List.cons_append, tget, hk, if_false, ih, List.any_cons, this, Bool.false_or]

@[simp] theorem tget_tdel_same {α : Type} (d : α) (t : Tbl α) (i : Nat) : tget d (tdel t i) i = d :=
  tget_not_mem d _ i (fun c hc => by simpa using (List.mem_filter.mp hc).2)

@[simp] theorem tget_tdel_ne {α : Type} (d : α) (t : Tbl α) (i j : Nat) (h : j ≠ i) : tget d (tdel t i) j = tget d t j := by
  unfold tdel
  have := tget_filter d t (fun k => decide (k ≠ i)) j
  simpa [h] using this

theorem mem_tdel {α : Type} (t : Tbl α) (i : Nat) (c : Nat × α) (h : c ∈ tdel t i) : c ∈ t := (List.mem_filter.mp h).1

theorem mem_tins {α : Type} (t : Tbl α) (i : Nat) (v : α) (c : Nat × α) (h : c ∈ tins t i v) : c = (i, v) ∨ c ∈ t := by
  induction t with
  | nil => simpa [tins] using h
  | cons a r ih =>
    obtain ⟨k, w⟩ := a
    unfold tins at h
    split at h
    · simpa using h
    · split at h
      · rcases List.mem_cons.mp h with e | e
        · exact .inl e
        · exact .inr (List.mem_cons_of_mem _ e)
      · rcases List.mem_cons.mp h with e | e
        · exact .inr (e ▸ List.mem_cons_self)
        · exact (ih e).imp_right (List.mem_cons_of_mem _)

theorem rising_tdel {α : Type} (t : Tbl α) (i : Nat) (ht : Rising t) : Rising (tdel t i) := ht.filter _

theorem rising_tins {α : Type} (t : Tbl α) (i : Nat) (v : α) (ht : Rising t) : Rising (tins t i v) := by
  induction t with
  | nil => exact List.pairwise_singleton _ _
  | cons a r ih =>
    obtain ⟨k, w⟩ := a
    have hp := List.pairwise_cons.mp ht
    unfold tins
    split
    · rename_i h
      refine List.pairwise_cons.mpr ⟨fun c hc => ?_, ht⟩
      rcases List.mem_cons.mp hc with e | e
      · subst e; exact h
      · have := hp.1 c e; simp at this ⊢; omega
    · split
      · rename_i h
        subst h
        exact List.pairwise_cons.mpr ⟨hp.1, hp.2⟩
      · rename_i h1 h2
        refine List.pairwise_cons.mpr ⟨fun c hc => ?_, ih hp.2⟩
        rcases mem_tins r i v c hc with e | e
        · subst e; simp; omega
        · exact hp.1 c e

theorem rising_tset {α : Type} [DecidableEq α] (d : α) (t : Tbl α) (i : Nat) (v : α) (ht : Rising t) : Rising (tset d t i v) := by
  unfold tset
  split
  · exact rising_tdel t i ht
  · exact rising_tins t i v ht

/-- A read of a table after a write of the same entry. -/
@[simp] theorem tget_tset_same {α : Type} [DecidableEq α] (d : α) (t : Tbl α) (i : Nat) (v : α) : tget d (tset d t i v) i = v := by
  unfold tset
  split
  · rename_i h; simp [tget_tdel_same d t i, h]
  · simp

/-- A write leaves every other entry. -/
@[simp] theorem tget_tset_ne {α : Type} [DecidableEq α] (d e : α) (t : Tbl α) (i j : Nat) (v : α) (h : j ≠ i) : tget e (tset d t i v) j = tget e t j := by
  unfold tset
  split
  · exact tget_tdel_ne e t i j h
  · exact tget_tins_ne e t i j v h

/-! ## Sparse memories -/

theorem Mem.wf_nil (u : Nat → Byte) : Mem.wf u [] := ⟨List.Pairwise.nil, by simp⟩

/-- A write of one byte keeps the canonical form. -/
theorem Mem.wf_mset (u : Nat → Byte) (m : Mem) (a : Nat) (b : Byte) (h : Mem.wf u m) : Mem.wf u (mset u m a b) := by
  refine ⟨rising_tset _ _ _ _ h.1, fun c hc => ?_⟩
  unfold mset tset at hc
  split at hc
  · exact h.2 c (mem_tdel m a c hc)
  · rename_i hb
    rcases mem_tins m a b c hc with e | e
    · subst e; exact hb
    · exact h.2 c e

theorem Mem.wf_msetN (u : Nat → Byte) (m : Mem) (a : Nat) (l : List Byte) (h : Mem.wf u m) : Mem.wf u (msetN u m a l) := by
  induction l generalizing m a with
  | nil => exact h
  | cons b r ih => exact ih _ _ (Mem.wf_mset u m a b h)

theorem Mem.wf_mclear (u : Nat → Byte) (m : Mem) (lo hi : Nat) (h : Mem.wf u m) : Mem.wf u (mclear m lo hi) :=
  ⟨h.1.filter _, fun c hc => h.2 c (List.mem_filter.mp hc).1⟩

@[simp] theorem mget_mset_same (u : Nat → Byte) (m : Mem) (a : Nat) (b : Byte) : mget u (mset u m a b) a = b :=
  tget_tset_same _ _ _ _

@[simp] theorem mget_mset_ne (u : Nat → Byte) (m : Mem) (a x : Nat) (b : Byte) (hx : x ≠ a) : mget u (mset u m a b) x = mget u m x :=
  tget_tset_ne _ _ _ _ _ _ hx

/-- A write of bytes leaves every byte outside them. -/
theorem mget_msetN_out (u : Nat → Byte) (m : Mem) (a x : Nat) (l : List Byte) (hx : x < a ∨ a + l.length ≤ x) :
    mget u (msetN u m a l) x = mget u m x := by
  induction l generalizing m a with
  | nil => rfl
  | cons b r ih =>
    simp only [List.length_cons] at hx
    unfold msetN
    rw [ih _ _ (by omega), mget_mset_ne u m a x b (by omega)]

/-- A read of written bytes gives them. -/
theorem mget_msetN_in (u : Nat → Byte) (m : Mem) (a i : Nat) (l : List Byte) (hi : i < l.length) :
    mget u (msetN u m a l) (a + i) = l.getD i 0 := by
  induction l generalizing m a i with
  | nil => simp at hi
  | cons b r ih =>
    unfold msetN
    cases i with
    | zero => rw [mget_msetN_out _ _ _ _ _ (by omega)]; simp
    | succ k =>
      have := ih (mset u m a b) (a + 1) k (by simpa using hi)
      rw [show a + (k + 1) = a + 1 + k by omega, this]
      simp

@[simp] theorem length_mgetN (u : Nat → Byte) (m : Mem) (a n : Nat) : (mgetN u m a n).length = n := by
  induction n generalizing a with
  | zero => rfl
  | succ k ih => simp [mgetN, ih]

theorem getD_mgetN (u : Nat → Byte) (m : Mem) (a n i : Nat) (h : i < n) : (mgetN u m a n).getD i 0 = mget u m (a + i) := by
  induction n generalizing a i with
  | zero => omega
  | succ k ih =>
    unfold mgetN
    cases i with
    | zero => simp
    | succ j => rw [List.getD_cons_succ, ih (a + 1) j (by omega), show a + 1 + j = a + (j + 1) by omega]

/-- The bytes just written read back. -/
theorem mgetN_msetN (u : Nat → Byte) (m : Mem) (a : Nat) (l : List Byte) : mgetN u (msetN u m a l) a l.length = l := by
  refine List.ext_getElem (by simp) (fun i h1 h2 => ?_)
  have e := getD_mgetN u (msetN u m a l) a l.length i h2
  rw [mget_msetN_in u m a i l h2, List.getD_eq_getElem _ _ h1, List.getD_eq_getElem _ _ h2] at e
  exact e

/-! ## Bytes and rising lists -/

@[simp] theorem length_leBytes (v n : Nat) : (leBytes v n).length = n := by
  induction n generalizing v with
  | zero => rfl
  | succ k ih => simp [leBytes, ih]

theorem leNat_lt (l : List Byte) : leNat l < 256 ^ l.length := by
  induction l with
  | nil => simp [leNat]
  | cons b r ih =>
    have := b.isLt
    simp only [leNat, List.length_cons, Nat.pow_succ]
    omega

@[simp] theorem leNat_leBytes (v n : Nat) : leNat (leBytes v n) = v % 256 ^ n := by
  induction n generalizing v with
  | zero => simp [leBytes, leNat, Nat.mod_one]
  | succ k ih =>
    simp only [leBytes, leNat, ih, BitVec.toNat_ofNat]
    have e : (256 : Nat) ^ (k + 1) = 256 * 256 ^ k := by rw [Nat.pow_succ, Nat.mul_comm]
    rw [e, Nat.mod_mul]

@[simp] theorem leBytes_leNat (l : List Byte) : leBytes (leNat l) l.length = l := by
  induction l with
  | nil => rfl
  | cons b r ih =>
    have := b.isLt
    simp only [leNat, List.length_cons, leBytes, List.cons.injEq]
    refine ⟨by apply BitVec.eq_of_toNat_eq; simp; omega, ?_⟩
    rw [show (b.toNat + 256 * leNat r) / 256 = leNat r by omega, ih]

@[simp] theorem mem_sadd (l : List Nat) (i x : Nat) : x ∈ sadd l i ↔ x = i ∨ x ∈ l := by
  induction l with
  | nil => simp [sadd]
  | cons k r ih =>
    unfold sadd
    split
    · simp
    · split
      · rename_i h; subst h; simp
      · simp [ih]; tauto

@[simp] theorem mem_sdel (l : List Nat) (i x : Nat) : x ∈ sdel l i ↔ x ∈ l ∧ x ≠ i := by simp [sdel]

theorem sorted_sadd (l : List Nat) (i : Nat) (h : l.Pairwise (· < ·)) : (sadd l i).Pairwise (· < ·) := by
  induction l with
  | nil => exact List.pairwise_singleton _ _
  | cons k r ih =>
    have hp := List.pairwise_cons.mp h
    unfold sadd
    split
    · rename_i hk
      refine List.pairwise_cons.mpr ⟨fun c hc => ?_, h⟩
      rcases List.mem_cons.mp hc with e | e
      · omega
      · have := hp.1 c e; omega
    · split
      · exact h
      · refine List.pairwise_cons.mpr ⟨fun c hc => ?_, ih hp.2⟩
        rcases (mem_sadd r i c).mp hc with e | e
        · omega
        · exact hp.1 c e

theorem sorted_sdel (l : List Nat) (i : Nat) (h : l.Pairwise (· < ·)) : (sdel l i).Pairwise (· < ·) := h.filter _

end Sys2Proof.Machine
end

