-- ==== Sys2Proof/Laws/State.lean ====
section
/-! SUPPORT. What each update of a part of the state leaves: every other field, and what a read of the part gives afterwards. -/

namespace Sys2Proof.Machine

/-! ## Every other field is left -/

@[simp] theorem State.setCore_pending (s : State) (c : Nat) (x : Core) : (s.setCore c x).pending = s.pending := (rfl)
@[simp] theorem State.setCore_dev (s : State) (c : Nat) (x : Core) : (s.setCore c x).dev = s.dev := (rfl)
@[simp] theorem State.setCore_resil (s : State) (c : Nat) (x : Core) : (s.setCore c x).resil = s.resil := (rfl)
@[simp] theorem State.setCore_mem (s : State) (c : Nat) (x : Core) : (s.setCore c x).mem = s.mem := (rfl)
@[simp] theorem State.setCore_sync (s : State) (c : Nat) (x : Core) : (s.setCore c x).sync = s.sync := (rfl)
@[simp] theorem State.setCore_streams (s : State) (c : Nat) (x : Core) : (s.setCore c x).streams = s.streams := (rfl)
@[simp] theorem State.setCore_jobs (s : State) (c : Nat) (x : Core) : (s.setCore c x).jobs = s.jobs := (rfl)
@[simp] theorem State.setCore_host (s : State) (c : Nat) (x : Core) : (s.setCore c x).host = s.host := (rfl)
@[simp] theorem State.setCore_fabric (s : State) (c : Nat) (x : Core) : (s.setCore c x).fabric = s.fabric := (rfl)
@[simp] theorem State.setCore_grist (s : State) (c : Nat) (x : Core) : (s.setCore c x).grist = s.grist := (rfl)
@[simp] theorem State.setCore_kiln (s : State) (c : Nat) (x : Core) : (s.setCore c x).kiln = s.kiln := (rfl)
@[simp] theorem State.setCore_coll (s : State) (c : Nat) (x : Core) : (s.setCore c x).coll = s.coll := (rfl)
@[simp] theorem State.setCore_esc (s : State) (c : Nat) (x : Core) : (s.setCore c x).esc = s.esc := (rfl)
@[simp] theorem State.setCore_rack (s : State) (c : Nat) (x : Core) : (s.setCore c x).rack = s.rack := (rfl)
@[simp] theorem State.setCore_fynen (s : State) (c : Nat) (x : Core) : (s.setCore c x).fynen = s.fynen := (rfl)
@[simp] theorem State.setCore_boot (s : State) (c : Nat) (x : Core) : (s.setCore c x).boot = s.boot := (rfl)
@[simp] theorem State.setCore_power (s : State) (c : Nat) (x : Core) : (s.setCore c x).power = s.power := (rfl)
@[simp] theorem State.setCore_obj (s : State) (c : Nat) (x : Core) : (s.setCore c x).obj = s.obj := (rfl)
@[simp] theorem State.setCore_blobs (s : State) (c : Nat) (x : Core) : (s.setCore c x).blobs = s.blobs := (rfl)
@[simp] theorem State.setCore_hostMem (s : State) (c : Nat) (x : Core) : (s.setCore c x).hostMem = s.hostMem := (rfl)
@[simp] theorem State.setCore_hostPoison (s : State) (c : Nat) (x : Core) : (s.setCore c x).hostPoison = s.hostPoison := (rfl)
@[simp] theorem State.setCore_out (s : State) (c : Nat) (x : Core) : (s.setCore c x).out = s.out := (rfl)
@[simp] theorem State.setCore_free (s : State) (c : Nat) (x : Core) : (s.setCore c x).free = s.free := (rfl)

@[simp] theorem State.modCore_pending (s : State) (c : Nat) (f : Core → Core) : (s.modCore c f).pending = s.pending := (rfl)
@[simp] theorem State.modCore_dev (s : State) (c : Nat) (f : Core → Core) : (s.modCore c f).dev = s.dev := (rfl)
@[simp] theorem State.modCore_resil (s : State) (c : Nat) (f : Core → Core) : (s.modCore c f).resil = s.resil := (rfl)
@[simp] theorem State.modCore_mem (s : State) (c : Nat) (f : Core → Core) : (s.modCore c f).mem = s.mem := (rfl)
@[simp] theorem State.modCore_sync (s : State) (c : Nat) (f : Core → Core) : (s.modCore c f).sync = s.sync := (rfl)
@[simp] theorem State.modCore_streams (s : State) (c : Nat) (f : Core → Core) : (s.modCore c f).streams = s.streams := (rfl)
@[simp] theorem State.modCore_jobs (s : State) (c : Nat) (f : Core → Core) : (s.modCore c f).jobs = s.jobs := (rfl)
@[simp] theorem State.modCore_host (s : State) (c : Nat) (f : Core → Core) : (s.modCore c f).host = s.host := (rfl)
@[simp] theorem State.modCore_fabric (s : State) (c : Nat) (f : Core → Core) : (s.modCore c f).fabric = s.fabric := (rfl)
@[simp] theorem State.modCore_grist (s : State) (c : Nat) (f : Core → Core) : (s.modCore c f).grist = s.grist := (rfl)
@[simp] theorem State.modCore_kiln (s : State) (c : Nat) (f : Core → Core) : (s.modCore c f).kiln = s.kiln := (rfl)
@[simp] theorem State.modCore_coll (s : State) (c : Nat) (f : Core → Core) : (s.modCore c f).coll = s.coll := (rfl)
@[simp] theorem State.modCore_esc (s : State) (c : Nat) (f : Core → Core) : (s.modCore c f).esc = s.esc := (rfl)
@[simp] theorem State.modCore_rack (s : State) (c : Nat) (f : Core → Core) : (s.modCore c f).rack = s.rack := (rfl)
@[simp] theorem State.modCore_fynen (s : State) (c : Nat) (f : Core → Core) : (s.modCore c f).fynen = s.fynen := (rfl)
@[simp] theorem State.modCore_boot (s : State) (c : Nat) (f : Core → Core) : (s.modCore c f).boot = s.boot := (rfl)
@[simp] theorem State.modCore_power (s : State) (c : Nat) (f : Core → Core) : (s.modCore c f).power = s.power := (rfl)
@[simp] theorem State.modCore_obj (s : State) (c : Nat) (f : Core → Core) : (s.modCore c f).obj = s.obj := (rfl)
@[simp] theorem State.modCore_blobs (s : State) (c : Nat) (f : Core → Core) : (s.modCore c f).blobs = s.blobs := (rfl)
@[simp] theorem State.modCore_hostMem (s : State) (c : Nat) (f : Core → Core) : (s.modCore c f).hostMem = s.hostMem := (rfl)
@[simp] theorem State.modCore_hostPoison (s : State) (c : Nat) (f : Core → Core) : (s.modCore c f).hostPoison = s.hostPoison := (rfl)
@[simp] theorem State.modCore_out (s : State) (c : Nat) (f : Core → Core) : (s.modCore c f).out = s.out := (rfl)
@[simp] theorem State.modCore_free (s : State) (c : Nat) (f : Core → Core) : (s.modCore c f).free = s.free := (rfl)

@[simp] theorem State.setStream_pending (s : State) (i : Nat) (x : Stream) : (s.setStream i x).pending = s.pending := (rfl)
@[simp] theorem State.setStream_dev (s : State) (i : Nat) (x : Stream) : (s.setStream i x).dev = s.dev := (rfl)
@[simp] theorem State.setStream_cores (s : State) (i : Nat) (x : Stream) : (s.setStream i x).cores = s.cores := (rfl)
@[simp] theorem State.setStream_resil (s : State) (i : Nat) (x : Stream) : (s.setStream i x).resil = s.resil := (rfl)
@[simp] theorem State.setStream_mem (s : State) (i : Nat) (x : Stream) : (s.setStream i x).mem = s.mem := (rfl)
@[simp] theorem State.setStream_sync (s : State) (i : Nat) (x : Stream) : (s.setStream i x).sync = s.sync := (rfl)
@[simp] theorem State.setStream_jobs (s : State) (i : Nat) (x : Stream) : (s.setStream i x).jobs = s.jobs := (rfl)
@[simp] theorem State.setStream_host (s : State) (i : Nat) (x : Stream) : (s.setStream i x).host = s.host := (rfl)
@[simp] theorem State.setStream_fabric (s : State) (i : Nat) (x : Stream) : (s.setStream i x).fabric = s.fabric := (rfl)
@[simp] theorem State.setStream_grist (s : State) (i : Nat) (x : Stream) : (s.setStream i x).grist = s.grist := (rfl)
@[simp] theorem State.setStream_kiln (s : State) (i : Nat) (x : Stream) : (s.setStream i x).kiln = s.kiln := (rfl)
@[simp] theorem State.setStream_coll (s : State) (i : Nat) (x : Stream) : (s.setStream i x).coll = s.coll := (rfl)
@[simp] theorem State.setStream_esc (s : State) (i : Nat) (x : Stream) : (s.setStream i x).esc = s.esc := (rfl)
@[simp] theorem State.setStream_rack (s : State) (i : Nat) (x : Stream) : (s.setStream i x).rack = s.rack := (rfl)
@[simp] theorem State.setStream_fynen (s : State) (i : Nat) (x : Stream) : (s.setStream i x).fynen = s.fynen := (rfl)
@[simp] theorem State.setStream_boot (s : State) (i : Nat) (x : Stream) : (s.setStream i x).boot = s.boot := (rfl)
@[simp] theorem State.setStream_power (s : State) (i : Nat) (x : Stream) : (s.setStream i x).power = s.power := (rfl)
@[simp] theorem State.setStream_obj (s : State) (i : Nat) (x : Stream) : (s.setStream i x).obj = s.obj := (rfl)
@[simp] theorem State.setStream_blobs (s : State) (i : Nat) (x : Stream) : (s.setStream i x).blobs = s.blobs := (rfl)
@[simp] theorem State.setStream_hostMem (s : State) (i : Nat) (x : Stream) : (s.setStream i x).hostMem = s.hostMem := (rfl)
@[simp] theorem State.setStream_hostPoison (s : State) (i : Nat) (x : Stream) : (s.setStream i x).hostPoison = s.hostPoison := (rfl)
@[simp] theorem State.setStream_out (s : State) (i : Nat) (x : Stream) : (s.setStream i x).out = s.out := (rfl)
@[simp] theorem State.setStream_free (s : State) (i : Nat) (x : Stream) : (s.setStream i x).free = s.free := (rfl)

@[simp] theorem State.modStream_pending (s : State) (i : Nat) (f : Stream → Stream) : (s.modStream i f).pending = s.pending := (rfl)
@[simp] theorem State.modStream_dev (s : State) (i : Nat) (f : Stream → Stream) : (s.modStream i f).dev = s.dev := (rfl)
@[simp] theorem State.modStream_cores (s : State) (i : Nat) (f : Stream → Stream) : (s.modStream i f).cores = s.cores := (rfl)
@[simp] theorem State.modStream_resil (s : State) (i : Nat) (f : Stream → Stream) : (s.modStream i f).resil = s.resil := (rfl)
@[simp] theorem State.modStream_mem (s : State) (i : Nat) (f : Stream → Stream) : (s.modStream i f).mem = s.mem := (rfl)
@[simp] theorem State.modStream_sync (s : State) (i : Nat) (f : Stream → Stream) : (s.modStream i f).sync = s.sync := (rfl)
@[simp] theorem State.modStream_jobs (s : State) (i : Nat) (f : Stream → Stream) : (s.modStream i f).jobs = s.jobs := (rfl)
@[simp] theorem State.modStream_host (s : State) (i : Nat) (f : Stream → Stream) : (s.modStream i f).host = s.host := (rfl)
@[simp] theorem State.modStream_fabric (s : State) (i : Nat) (f : Stream → Stream) : (s.modStream i f).fabric = s.fabric := (rfl)
@[simp] theorem State.modStream_grist (s : State) (i : Nat) (f : Stream → Stream) : (s.modStream i f).grist = s.grist := (rfl)
@[simp] theorem State.modStream_kiln (s : State) (i : Nat) (f : Stream → Stream) : (s.modStream i f).kiln = s.kiln := (rfl)
@[simp] theorem State.modStream_coll (s : State) (i : Nat) (f : Stream → Stream) : (s.modStream i f).coll = s.coll := (rfl)
@[simp] theorem State.modStream_esc (s : State) (i : Nat) (f : Stream → Stream) : (s.modStream i f).esc = s.esc := (rfl)
@[simp] theorem State.modStream_rack (s : State) (i : Nat) (f : Stream → Stream) : (s.modStream i f).rack = s.rack := (rfl)
@[simp] theorem State.modStream_fynen (s : State) (i : Nat) (f : Stream → Stream) : (s.modStream i f).fynen = s.fynen := (rfl)
@[simp] theorem State.modStream_boot (s : State) (i : Nat) (f : Stream → Stream) : (s.modStream i f).boot = s.boot := (rfl)
@[simp] theorem State.modStream_power (s : State) (i : Nat) (f : Stream → Stream) : (s.modStream i f).power = s.power := (rfl)
@[simp] theorem State.modStream_obj (s : State) (i : Nat) (f : Stream → Stream) : (s.modStream i f).obj = s.obj := (rfl)
@[simp] theorem State.modStream_blobs (s : State) (i : Nat) (f : Stream → Stream) : (s.modStream i f).blobs = s.blobs := (rfl)
@[simp] theorem State.modStream_hostMem (s : State) (i : Nat) (f : Stream → Stream) : (s.modStream i f).hostMem = s.hostMem := (rfl)
@[simp] theorem State.modStream_hostPoison (s : State) (i : Nat) (f : Stream → Stream) : (s.modStream i f).hostPoison = s.hostPoison := (rfl)
@[simp] theorem State.modStream_out (s : State) (i : Nat) (f : Stream → Stream) : (s.modStream i f).out = s.out := (rfl)
@[simp] theorem State.modStream_free (s : State) (i : Nat) (f : Stream → Stream) : (s.modStream i f).free = s.free := (rfl)

@[simp] theorem State.setJob_pending (s : State) (j : Nat) (x : Job) : (s.setJob j x).pending = s.pending := (rfl)
@[simp] theorem State.setJob_dev (s : State) (j : Nat) (x : Job) : (s.setJob j x).dev = s.dev := (rfl)
@[simp] theorem State.setJob_cores (s : State) (j : Nat) (x : Job) : (s.setJob j x).cores = s.cores := (rfl)
@[simp] theorem State.setJob_resil (s : State) (j : Nat) (x : Job) : (s.setJob j x).resil = s.resil := (rfl)
@[simp] theorem State.setJob_mem (s : State) (j : Nat) (x : Job) : (s.setJob j x).mem = s.mem := (rfl)
@[simp] theorem State.setJob_sync (s : State) (j : Nat) (x : Job) : (s.setJob j x).sync = s.sync := (rfl)
@[simp] theorem State.setJob_streams (s : State) (j : Nat) (x : Job) : (s.setJob j x).streams = s.streams := (rfl)
@[simp] theorem State.setJob_host (s : State) (j : Nat) (x : Job) : (s.setJob j x).host = s.host := (rfl)
@[simp] theorem State.setJob_fabric (s : State) (j : Nat) (x : Job) : (s.setJob j x).fabric = s.fabric := (rfl)
@[simp] theorem State.setJob_grist (s : State) (j : Nat) (x : Job) : (s.setJob j x).grist = s.grist := (rfl)
@[simp] theorem State.setJob_kiln (s : State) (j : Nat) (x : Job) : (s.setJob j x).kiln = s.kiln := (rfl)
@[simp] theorem State.setJob_coll (s : State) (j : Nat) (x : Job) : (s.setJob j x).coll = s.coll := (rfl)
@[simp] theorem State.setJob_esc (s : State) (j : Nat) (x : Job) : (s.setJob j x).esc = s.esc := (rfl)
@[simp] theorem State.setJob_rack (s : State) (j : Nat) (x : Job) : (s.setJob j x).rack = s.rack := (rfl)
@[simp] theorem State.setJob_fynen (s : State) (j : Nat) (x : Job) : (s.setJob j x).fynen = s.fynen := (rfl)
@[simp] theorem State.setJob_boot (s : State) (j : Nat) (x : Job) : (s.setJob j x).boot = s.boot := (rfl)
@[simp] theorem State.setJob_power (s : State) (j : Nat) (x : Job) : (s.setJob j x).power = s.power := (rfl)
@[simp] theorem State.setJob_obj (s : State) (j : Nat) (x : Job) : (s.setJob j x).obj = s.obj := (rfl)
@[simp] theorem State.setJob_blobs (s : State) (j : Nat) (x : Job) : (s.setJob j x).blobs = s.blobs := (rfl)
@[simp] theorem State.setJob_hostMem (s : State) (j : Nat) (x : Job) : (s.setJob j x).hostMem = s.hostMem := (rfl)
@[simp] theorem State.setJob_hostPoison (s : State) (j : Nat) (x : Job) : (s.setJob j x).hostPoison = s.hostPoison := (rfl)
@[simp] theorem State.setJob_out (s : State) (j : Nat) (x : Job) : (s.setJob j x).out = s.out := (rfl)
@[simp] theorem State.setJob_free (s : State) (j : Nat) (x : Job) : (s.setJob j x).free = s.free := (rfl)

@[simp] theorem State.modJob_pending (s : State) (j : Nat) (f : Job → Job) : (s.modJob j f).pending = s.pending := (rfl)
@[simp] theorem State.modJob_dev (s : State) (j : Nat) (f : Job → Job) : (s.modJob j f).dev = s.dev := (rfl)
@[simp] theorem State.modJob_cores (s : State) (j : Nat) (f : Job → Job) : (s.modJob j f).cores = s.cores := (rfl)
@[simp] theorem State.modJob_resil (s : State) (j : Nat) (f : Job → Job) : (s.modJob j f).resil = s.resil := (rfl)
@[simp] theorem State.modJob_mem (s : State) (j : Nat) (f : Job → Job) : (s.modJob j f).mem = s.mem := (rfl)
@[simp] theorem State.modJob_sync (s : State) (j : Nat) (f : Job → Job) : (s.modJob j f).sync = s.sync := (rfl)
@[simp] theorem State.modJob_streams (s : State) (j : Nat) (f : Job → Job) : (s.modJob j f).streams = s.streams := (rfl)
@[simp] theorem State.modJob_host (s : State) (j : Nat) (f : Job → Job) : (s.modJob j f).host = s.host := (rfl)
@[simp] theorem State.modJob_fabric (s : State) (j : Nat) (f : Job → Job) : (s.modJob j f).fabric = s.fabric := (rfl)
@[simp] theorem State.modJob_grist (s : State) (j : Nat) (f : Job → Job) : (s.modJob j f).grist = s.grist := (rfl)
@[simp] theorem State.modJob_kiln (s : State) (j : Nat) (f : Job → Job) : (s.modJob j f).kiln = s.kiln := (rfl)
@[simp] theorem State.modJob_coll (s : State) (j : Nat) (f : Job → Job) : (s.modJob j f).coll = s.coll := (rfl)
@[simp] theorem State.modJob_esc (s : State) (j : Nat) (f : Job → Job) : (s.modJob j f).esc = s.esc := (rfl)
@[simp] theorem State.modJob_rack (s : State) (j : Nat) (f : Job → Job) : (s.modJob j f).rack = s.rack := (rfl)
@[simp] theorem State.modJob_fynen (s : State) (j : Nat) (f : Job → Job) : (s.modJob j f).fynen = s.fynen := (rfl)
@[simp] theorem State.modJob_boot (s : State) (j : Nat) (f : Job → Job) : (s.modJob j f).boot = s.boot := (rfl)
@[simp] theorem State.modJob_power (s : State) (j : Nat) (f : Job → Job) : (s.modJob j f).power = s.power := (rfl)
@[simp] theorem State.modJob_obj (s : State) (j : Nat) (f : Job → Job) : (s.modJob j f).obj = s.obj := (rfl)
@[simp] theorem State.modJob_blobs (s : State) (j : Nat) (f : Job → Job) : (s.modJob j f).blobs = s.blobs := (rfl)
@[simp] theorem State.modJob_hostMem (s : State) (j : Nat) (f : Job → Job) : (s.modJob j f).hostMem = s.hostMem := (rfl)
@[simp] theorem State.modJob_hostPoison (s : State) (j : Nat) (f : Job → Job) : (s.modJob j f).hostPoison = s.hostPoison := (rfl)
@[simp] theorem State.modJob_out (s : State) (j : Nat) (f : Job → Job) : (s.modJob j f).out = s.out := (rfl)
@[simp] theorem State.modJob_free (s : State) (j : Nat) (f : Job → Job) : (s.modJob j f).free = s.free := (rfl)

@[simp] theorem State.setPort_pending (s : State) (p : Nat) (x : Port) : (s.setPort p x).pending = s.pending := (rfl)
@[simp] theorem State.setPort_dev (s : State) (p : Nat) (x : Port) : (s.setPort p x).dev = s.dev := (rfl)
@[simp] theorem State.setPort_cores (s : State) (p : Nat) (x : Port) : (s.setPort p x).cores = s.cores := (rfl)
@[simp] theorem State.setPort_resil (s : State) (p : Nat) (x : Port) : (s.setPort p x).resil = s.resil := (rfl)
@[simp] theorem State.setPort_mem (s : State) (p : Nat) (x : Port) : (s.setPort p x).mem = s.mem := (rfl)
@[simp] theorem State.setPort_sync (s : State) (p : Nat) (x : Port) : (s.setPort p x).sync = s.sync := (rfl)
@[simp] theorem State.setPort_streams (s : State) (p : Nat) (x : Port) : (s.setPort p x).streams = s.streams := (rfl)
@[simp] theorem State.setPort_jobs (s : State) (p : Nat) (x : Port) : (s.setPort p x).jobs = s.jobs := (rfl)
@[simp] theorem State.setPort_host (s : State) (p : Nat) (x : Port) : (s.setPort p x).host = s.host := (rfl)
@[simp] theorem State.setPort_grist (s : State) (p : Nat) (x : Port) : (s.setPort p x).grist = s.grist := (rfl)
@[simp] theorem State.setPort_kiln (s : State) (p : Nat) (x : Port) : (s.setPort p x).kiln = s.kiln := (rfl)
@[simp] theorem State.setPort_coll (s : State) (p : Nat) (x : Port) : (s.setPort p x).coll = s.coll := (rfl)
@[simp] theorem State.setPort_esc (s : State) (p : Nat) (x : Port) : (s.setPort p x).esc = s.esc := (rfl)
@[simp] theorem State.setPort_rack (s : State) (p : Nat) (x : Port) : (s.setPort p x).rack = s.rack := (rfl)
@[simp] theorem State.setPort_fynen (s : State) (p : Nat) (x : Port) : (s.setPort p x).fynen = s.fynen := (rfl)
@[simp] theorem State.setPort_boot (s : State) (p : Nat) (x : Port) : (s.setPort p x).boot = s.boot := (rfl)
@[simp] theorem State.setPort_power (s : State) (p : Nat) (x : Port) : (s.setPort p x).power = s.power := (rfl)
@[simp] theorem State.setPort_obj (s : State) (p : Nat) (x : Port) : (s.setPort p x).obj = s.obj := (rfl)
@[simp] theorem State.setPort_blobs (s : State) (p : Nat) (x : Port) : (s.setPort p x).blobs = s.blobs := (rfl)
@[simp] theorem State.setPort_hostMem (s : State) (p : Nat) (x : Port) : (s.setPort p x).hostMem = s.hostMem := (rfl)
@[simp] theorem State.setPort_hostPoison (s : State) (p : Nat) (x : Port) : (s.setPort p x).hostPoison = s.hostPoison := (rfl)
@[simp] theorem State.setPort_out (s : State) (p : Nat) (x : Port) : (s.setPort p x).out = s.out := (rfl)
@[simp] theorem State.setPort_free (s : State) (p : Nat) (x : Port) : (s.setPort p x).free = s.free := (rfl)

@[simp] theorem State.modPort_pending (s : State) (p : Nat) (f : Port → Port) : (s.modPort p f).pending = s.pending := (rfl)
@[simp] theorem State.modPort_dev (s : State) (p : Nat) (f : Port → Port) : (s.modPort p f).dev = s.dev := (rfl)
@[simp] theorem State.modPort_cores (s : State) (p : Nat) (f : Port → Port) : (s.modPort p f).cores = s.cores := (rfl)
@[simp] theorem State.modPort_resil (s : State) (p : Nat) (f : Port → Port) : (s.modPort p f).resil = s.resil := (rfl)
@[simp] theorem State.modPort_mem (s : State) (p : Nat) (f : Port → Port) : (s.modPort p f).mem = s.mem := (rfl)
@[simp] theorem State.modPort_sync (s : State) (p : Nat) (f : Port → Port) : (s.modPort p f).sync = s.sync := (rfl)
@[simp] theorem State.modPort_streams (s : State) (p : Nat) (f : Port → Port) : (s.modPort p f).streams = s.streams := (rfl)
@[simp] theorem State.modPort_jobs (s : State) (p : Nat) (f : Port → Port) : (s.modPort p f).jobs = s.jobs := (rfl)
@[simp] theorem State.modPort_host (s : State) (p : Nat) (f : Port → Port) : (s.modPort p f).host = s.host := (rfl)
@[simp] theorem State.modPort_grist (s : State) (p : Nat) (f : Port → Port) : (s.modPort p f).grist = s.grist := (rfl)
@[simp] theorem State.modPort_kiln (s : State) (p : Nat) (f : Port → Port) : (s.modPort p f).kiln = s.kiln := (rfl)
@[simp] theorem State.modPort_coll (s : State) (p : Nat) (f : Port → Port) : (s.modPort p f).coll = s.coll := (rfl)
@[simp] theorem State.modPort_esc (s : State) (p : Nat) (f : Port → Port) : (s.modPort p f).esc = s.esc := (rfl)
@[simp] theorem State.modPort_rack (s : State) (p : Nat) (f : Port → Port) : (s.modPort p f).rack = s.rack := (rfl)
@[simp] theorem State.modPort_fynen (s : State) (p : Nat) (f : Port → Port) : (s.modPort p f).fynen = s.fynen := (rfl)
@[simp] theorem State.modPort_boot (s : State) (p : Nat) (f : Port → Port) : (s.modPort p f).boot = s.boot := (rfl)
@[simp] theorem State.modPort_power (s : State) (p : Nat) (f : Port → Port) : (s.modPort p f).power = s.power := (rfl)
@[simp] theorem State.modPort_obj (s : State) (p : Nat) (f : Port → Port) : (s.modPort p f).obj = s.obj := (rfl)
@[simp] theorem State.modPort_blobs (s : State) (p : Nat) (f : Port → Port) : (s.modPort p f).blobs = s.blobs := (rfl)
@[simp] theorem State.modPort_hostMem (s : State) (p : Nat) (f : Port → Port) : (s.modPort p f).hostMem = s.hostMem := (rfl)
@[simp] theorem State.modPort_hostPoison (s : State) (p : Nat) (f : Port → Port) : (s.modPort p f).hostPoison = s.hostPoison := (rfl)
@[simp] theorem State.modPort_out (s : State) (p : Nat) (f : Port → Port) : (s.modPort p f).out = s.out := (rfl)
@[simp] theorem State.modPort_free (s : State) (p : Nat) (f : Port → Port) : (s.modPort p f).free = s.free := (rfl)

@[simp] theorem State.setStack_pending (s : State) (k : Nat) (x : Stack) : (s.setStack k x).pending = s.pending := (rfl)
@[simp] theorem State.setStack_dev (s : State) (k : Nat) (x : Stack) : (s.setStack k x).dev = s.dev := (rfl)
@[simp] theorem State.setStack_cores (s : State) (k : Nat) (x : Stack) : (s.setStack k x).cores = s.cores := (rfl)
@[simp] theorem State.setStack_resil (s : State) (k : Nat) (x : Stack) : (s.setStack k x).resil = s.resil := (rfl)
@[simp] theorem State.setStack_sync (s : State) (k : Nat) (x : Stack) : (s.setStack k x).sync = s.sync := (rfl)
@[simp] theorem State.setStack_streams (s : State) (k : Nat) (x : Stack) : (s.setStack k x).streams = s.streams := (rfl)
@[simp] theorem State.setStack_jobs (s : State) (k : Nat) (x : Stack) : (s.setStack k x).jobs = s.jobs := (rfl)
@[simp] theorem State.setStack_host (s : State) (k : Nat) (x : Stack) : (s.setStack k x).host = s.host := (rfl)
@[simp] theorem State.setStack_fabric (s : State) (k : Nat) (x : Stack) : (s.setStack k x).fabric = s.fabric := (rfl)
@[simp] theorem State.setStack_grist (s : State) (k : Nat) (x : Stack) : (s.setStack k x).grist = s.grist := (rfl)
@[simp] theorem State.setStack_kiln (s : State) (k : Nat) (x : Stack) : (s.setStack k x).kiln = s.kiln := (rfl)
@[simp] theorem State.setStack_coll (s : State) (k : Nat) (x : Stack) : (s.setStack k x).coll = s.coll := (rfl)
@[simp] theorem State.setStack_esc (s : State) (k : Nat) (x : Stack) : (s.setStack k x).esc = s.esc := (rfl)
@[simp] theorem State.setStack_rack (s : State) (k : Nat) (x : Stack) : (s.setStack k x).rack = s.rack := (rfl)
@[simp] theorem State.setStack_fynen (s : State) (k : Nat) (x : Stack) : (s.setStack k x).fynen = s.fynen := (rfl)
@[simp] theorem State.setStack_boot (s : State) (k : Nat) (x : Stack) : (s.setStack k x).boot = s.boot := (rfl)
@[simp] theorem State.setStack_power (s : State) (k : Nat) (x : Stack) : (s.setStack k x).power = s.power := (rfl)
@[simp] theorem State.setStack_obj (s : State) (k : Nat) (x : Stack) : (s.setStack k x).obj = s.obj := (rfl)
@[simp] theorem State.setStack_blobs (s : State) (k : Nat) (x : Stack) : (s.setStack k x).blobs = s.blobs := (rfl)
@[simp] theorem State.setStack_hostMem (s : State) (k : Nat) (x : Stack) : (s.setStack k x).hostMem = s.hostMem := (rfl)
@[simp] theorem State.setStack_hostPoison (s : State) (k : Nat) (x : Stack) : (s.setStack k x).hostPoison = s.hostPoison := (rfl)
@[simp] theorem State.setStack_out (s : State) (k : Nat) (x : Stack) : (s.setStack k x).out = s.out := (rfl)
@[simp] theorem State.setStack_free (s : State) (k : Nat) (x : Stack) : (s.setStack k x).free = s.free := (rfl)

@[simp] theorem State.modStack_pending (s : State) (k : Nat) (f : Stack → Stack) : (s.modStack k f).pending = s.pending := (rfl)
@[simp] theorem State.modStack_dev (s : State) (k : Nat) (f : Stack → Stack) : (s.modStack k f).dev = s.dev := (rfl)
@[simp] theorem State.modStack_cores (s : State) (k : Nat) (f : Stack → Stack) : (s.modStack k f).cores = s.cores := (rfl)
@[simp] theorem State.modStack_resil (s : State) (k : Nat) (f : Stack → Stack) : (s.modStack k f).resil = s.resil := (rfl)
@[simp] theorem State.modStack_sync (s : State) (k : Nat) (f : Stack → Stack) : (s.modStack k f).sync = s.sync := (rfl)
@[simp] theorem State.modStack_streams (s : State) (k : Nat) (f : Stack → Stack) : (s.modStack k f).streams = s.streams := (rfl)
@[simp] theorem State.modStack_jobs (s : State) (k : Nat) (f : Stack → Stack) : (s.modStack k f).jobs = s.jobs := (rfl)
@[simp] theorem State.modStack_host (s : State) (k : Nat) (f : Stack → Stack) : (s.modStack k f).host = s.host := (rfl)
@[simp] theorem State.modStack_fabric (s : State) (k : Nat) (f : Stack → Stack) : (s.modStack k f).fabric = s.fabric := (rfl)
@[simp] theorem State.modStack_grist (s : State) (k : Nat) (f : Stack → Stack) : (s.modStack k f).grist = s.grist := (rfl)
@[simp] theorem State.modStack_kiln (s : State) (k : Nat) (f : Stack → Stack) : (s.modStack k f).kiln = s.kiln := (rfl)
@[simp] theorem State.modStack_coll (s : State) (k : Nat) (f : Stack → Stack) : (s.modStack k f).coll = s.coll := (rfl)
@[simp] theorem State.modStack_esc (s : State) (k : Nat) (f : Stack → Stack) : (s.modStack k f).esc = s.esc := (rfl)
@[simp] theorem State.modStack_rack (s : State) (k : Nat) (f : Stack → Stack) : (s.modStack k f).rack = s.rack := (rfl)
@[simp] theorem State.modStack_fynen (s : State) (k : Nat) (f : Stack → Stack) : (s.modStack k f).fynen = s.fynen := (rfl)
@[simp] theorem State.modStack_boot (s : State) (k : Nat) (f : Stack → Stack) : (s.modStack k f).boot = s.boot := (rfl)
@[simp] theorem State.modStack_power (s : State) (k : Nat) (f : Stack → Stack) : (s.modStack k f).power = s.power := (rfl)
@[simp] theorem State.modStack_obj (s : State) (k : Nat) (f : Stack → Stack) : (s.modStack k f).obj = s.obj := (rfl)
@[simp] theorem State.modStack_blobs (s : State) (k : Nat) (f : Stack → Stack) : (s.modStack k f).blobs = s.blobs := (rfl)
@[simp] theorem State.modStack_hostMem (s : State) (k : Nat) (f : Stack → Stack) : (s.modStack k f).hostMem = s.hostMem := (rfl)
@[simp] theorem State.modStack_hostPoison (s : State) (k : Nat) (f : Stack → Stack) : (s.modStack k f).hostPoison = s.hostPoison := (rfl)
@[simp] theorem State.modStack_out (s : State) (k : Nat) (f : Stack → Stack) : (s.modStack k f).out = s.out := (rfl)
@[simp] theorem State.modStack_free (s : State) (k : Nat) (f : Stack → Stack) : (s.modStack k f).free = s.free := (rfl)

@[simp] theorem State.modMem_pending (s : State) (f : MemSys → MemSys) : (s.modMem f).pending = s.pending := (rfl)
@[simp] theorem State.modMem_dev (s : State) (f : MemSys → MemSys) : (s.modMem f).dev = s.dev := (rfl)
@[simp] theorem State.modMem_cores (s : State) (f : MemSys → MemSys) : (s.modMem f).cores = s.cores := (rfl)
@[simp] theorem State.modMem_resil (s : State) (f : MemSys → MemSys) : (s.modMem f).resil = s.resil := (rfl)
@[simp] theorem State.modMem_sync (s : State) (f : MemSys → MemSys) : (s.modMem f).sync = s.sync := (rfl)
@[simp] theorem State.modMem_streams (s : State) (f : MemSys → MemSys) : (s.modMem f).streams = s.streams := (rfl)
@[simp] theorem State.modMem_jobs (s : State) (f : MemSys → MemSys) : (s.modMem f).jobs = s.jobs := (rfl)
@[simp] theorem State.modMem_host (s : State) (f : MemSys → MemSys) : (s.modMem f).host = s.host := (rfl)
@[simp] theorem State.modMem_fabric (s : State) (f : MemSys → MemSys) : (s.modMem f).fabric = s.fabric := (rfl)
@[simp] theorem State.modMem_grist (s : State) (f : MemSys → MemSys) : (s.modMem f).grist = s.grist := (rfl)
@[simp] theorem State.modMem_kiln (s : State) (f : MemSys → MemSys) : (s.modMem f).kiln = s.kiln := (rfl)
@[simp] theorem State.modMem_coll (s : State) (f : MemSys → MemSys) : (s.modMem f).coll = s.coll := (rfl)
@[simp] theorem State.modMem_esc (s : State) (f : MemSys → MemSys) : (s.modMem f).esc = s.esc := (rfl)
@[simp] theorem State.modMem_rack (s : State) (f : MemSys → MemSys) : (s.modMem f).rack = s.rack := (rfl)
@[simp] theorem State.modMem_fynen (s : State) (f : MemSys → MemSys) : (s.modMem f).fynen = s.fynen := (rfl)
@[simp] theorem State.modMem_boot (s : State) (f : MemSys → MemSys) : (s.modMem f).boot = s.boot := (rfl)
@[simp] theorem State.modMem_power (s : State) (f : MemSys → MemSys) : (s.modMem f).power = s.power := (rfl)
@[simp] theorem State.modMem_obj (s : State) (f : MemSys → MemSys) : (s.modMem f).obj = s.obj := (rfl)
@[simp] theorem State.modMem_blobs (s : State) (f : MemSys → MemSys) : (s.modMem f).blobs = s.blobs := (rfl)
@[simp] theorem State.modMem_hostMem (s : State) (f : MemSys → MemSys) : (s.modMem f).hostMem = s.hostMem := (rfl)
@[simp] theorem State.modMem_hostPoison (s : State) (f : MemSys → MemSys) : (s.modMem f).hostPoison = s.hostPoison := (rfl)
@[simp] theorem State.modMem_out (s : State) (f : MemSys → MemSys) : (s.modMem f).out = s.out := (rfl)
@[simp] theorem State.modMem_free (s : State) (f : MemSys → MemSys) : (s.modMem f).free = s.free := (rfl)

@[simp] theorem State.setCounter_pending (s : State) (n : Nat) (x : Counter) : (s.setCounter n x).pending = s.pending := (rfl)
@[simp] theorem State.setCounter_dev (s : State) (n : Nat) (x : Counter) : (s.setCounter n x).dev = s.dev := (rfl)
@[simp] theorem State.setCounter_cores (s : State) (n : Nat) (x : Counter) : (s.setCounter n x).cores = s.cores := (rfl)
@[simp] theorem State.setCounter_resil (s : State) (n : Nat) (x : Counter) : (s.setCounter n x).resil = s.resil := (rfl)
@[simp] theorem State.setCounter_mem (s : State) (n : Nat) (x : Counter) : (s.setCounter n x).mem = s.mem := (rfl)
@[simp] theorem State.setCounter_streams (s : State) (n : Nat) (x : Counter) : (s.setCounter n x).streams = s.streams := (rfl)
@[simp] theorem State.setCounter_jobs (s : State) (n : Nat) (x : Counter) : (s.setCounter n x).jobs = s.jobs := (rfl)
@[simp] theorem State.setCounter_host (s : State) (n : Nat) (x : Counter) : (s.setCounter n x).host = s.host := (rfl)
@[simp] theorem State.setCounter_fabric (s : State) (n : Nat) (x : Counter) : (s.setCounter n x).fabric = s.fabric := (rfl)
@[simp] theorem State.setCounter_grist (s : State) (n : Nat) (x : Counter) : (s.setCounter n x).grist = s.grist := (rfl)
@[simp] theorem State.setCounter_kiln (s : State) (n : Nat) (x : Counter) : (s.setCounter n x).kiln = s.kiln := (rfl)
@[simp] theorem State.setCounter_coll (s : State) (n : Nat) (x : Counter) : (s.setCounter n x).coll = s.coll := (rfl)
@[simp] theorem State.setCounter_esc (s : State) (n : Nat) (x : Counter) : (s.setCounter n x).esc = s.esc := (rfl)
@[simp] theorem State.setCounter_rack (s : State) (n : Nat) (x : Counter) : (s.setCounter n x).rack = s.rack := (rfl)
@[simp] theorem State.setCounter_fynen (s : State) (n : Nat) (x : Counter) : (s.setCounter n x).fynen = s.fynen := (rfl)
@[simp] theorem State.setCounter_boot (s : State) (n : Nat) (x : Counter) : (s.setCounter n x).boot = s.boot := (rfl)
@[simp] theorem State.setCounter_power (s : State) (n : Nat) (x : Counter) : (s.setCounter n x).power = s.power := (rfl)
@[simp] theorem State.setCounter_obj (s : State) (n : Nat) (x : Counter) : (s.setCounter n x).obj = s.obj := (rfl)
@[simp] theorem State.setCounter_blobs (s : State) (n : Nat) (x : Counter) : (s.setCounter n x).blobs = s.blobs := (rfl)
@[simp] theorem State.setCounter_hostMem (s : State) (n : Nat) (x : Counter) : (s.setCounter n x).hostMem = s.hostMem := (rfl)
@[simp] theorem State.setCounter_hostPoison (s : State) (n : Nat) (x : Counter) : (s.setCounter n x).hostPoison = s.hostPoison := (rfl)
@[simp] theorem State.setCounter_out (s : State) (n : Nat) (x : Counter) : (s.setCounter n x).out = s.out := (rfl)
@[simp] theorem State.setCounter_free (s : State) (n : Nat) (x : Counter) : (s.setCounter n x).free = s.free := (rfl)

@[simp] theorem State.setSlot_pending (s : State) (n : Nat) (x : Slot) : (s.setSlot n x).pending = s.pending := (rfl)
@[simp] theorem State.setSlot_dev (s : State) (n : Nat) (x : Slot) : (s.setSlot n x).dev = s.dev := (rfl)
@[simp] theorem State.setSlot_cores (s : State) (n : Nat) (x : Slot) : (s.setSlot n x).cores = s.cores := (rfl)
@[simp] theorem State.setSlot_resil (s : State) (n : Nat) (x : Slot) : (s.setSlot n x).resil = s.resil := (rfl)
@[simp] theorem State.setSlot_mem (s : State) (n : Nat) (x : Slot) : (s.setSlot n x).mem = s.mem := (rfl)
@[simp] theorem State.setSlot_streams (s : State) (n : Nat) (x : Slot) : (s.setSlot n x).streams = s.streams := (rfl)
@[simp] theorem State.setSlot_jobs (s : State) (n : Nat) (x : Slot) : (s.setSlot n x).jobs = s.jobs := (rfl)
@[simp] theorem State.setSlot_host (s : State) (n : Nat) (x : Slot) : (s.setSlot n x).host = s.host := (rfl)
@[simp] theorem State.setSlot_fabric (s : State) (n : Nat) (x : Slot) : (s.setSlot n x).fabric = s.fabric := (rfl)
@[simp] theorem State.setSlot_grist (s : State) (n : Nat) (x : Slot) : (s.setSlot n x).grist = s.grist := (rfl)
@[simp] theorem State.setSlot_kiln (s : State) (n : Nat) (x : Slot) : (s.setSlot n x).kiln = s.kiln := (rfl)
@[simp] theorem State.setSlot_coll (s : State) (n : Nat) (x : Slot) : (s.setSlot n x).coll = s.coll := (rfl)
@[simp] theorem State.setSlot_esc (s : State) (n : Nat) (x : Slot) : (s.setSlot n x).esc = s.esc := (rfl)
@[simp] theorem State.setSlot_rack (s : State) (n : Nat) (x : Slot) : (s.setSlot n x).rack = s.rack := (rfl)
@[simp] theorem State.setSlot_fynen (s : State) (n : Nat) (x : Slot) : (s.setSlot n x).fynen = s.fynen := (rfl)
@[simp] theorem State.setSlot_boot (s : State) (n : Nat) (x : Slot) : (s.setSlot n x).boot = s.boot := (rfl)
@[simp] theorem State.setSlot_power (s : State) (n : Nat) (x : Slot) : (s.setSlot n x).power = s.power := (rfl)
@[simp] theorem State.setSlot_obj (s : State) (n : Nat) (x : Slot) : (s.setSlot n x).obj = s.obj := (rfl)
@[simp] theorem State.setSlot_blobs (s : State) (n : Nat) (x : Slot) : (s.setSlot n x).blobs = s.blobs := (rfl)
@[simp] theorem State.setSlot_hostMem (s : State) (n : Nat) (x : Slot) : (s.setSlot n x).hostMem = s.hostMem := (rfl)
@[simp] theorem State.setSlot_hostPoison (s : State) (n : Nat) (x : Slot) : (s.setSlot n x).hostPoison = s.hostPoison := (rfl)
@[simp] theorem State.setSlot_out (s : State) (n : Nat) (x : Slot) : (s.setSlot n x).out = s.out := (rfl)
@[simp] theorem State.setSlot_free (s : State) (n : Nat) (x : Slot) : (s.setSlot n x).free = s.free := (rfl)

@[simp] theorem State.setBlockOwner_pending (s : State) (b o : Nat) : (s.setBlockOwner b o).pending = s.pending := (rfl)
@[simp] theorem State.setBlockOwner_dev (s : State) (b o : Nat) : (s.setBlockOwner b o).dev = s.dev := (rfl)
@[simp] theorem State.setBlockOwner_cores (s : State) (b o : Nat) : (s.setBlockOwner b o).cores = s.cores := (rfl)
@[simp] theorem State.setBlockOwner_resil (s : State) (b o : Nat) : (s.setBlockOwner b o).resil = s.resil := (rfl)
@[simp] theorem State.setBlockOwner_mem (s : State) (b o : Nat) : (s.setBlockOwner b o).mem = s.mem := (rfl)
@[simp] theorem State.setBlockOwner_streams (s : State) (b o : Nat) : (s.setBlockOwner b o).streams = s.streams := (rfl)
@[simp] theorem State.setBlockOwner_jobs (s : State) (b o : Nat) : (s.setBlockOwner b o).jobs = s.jobs := (rfl)
@[simp] theorem State.setBlockOwner_host (s : State) (b o : Nat) : (s.setBlockOwner b o).host = s.host := (rfl)
@[simp] theorem State.setBlockOwner_fabric (s : State) (b o : Nat) : (s.setBlockOwner b o).fabric = s.fabric := (rfl)
@[simp] theorem State.setBlockOwner_grist (s : State) (b o : Nat) : (s.setBlockOwner b o).grist = s.grist := (rfl)
@[simp] theorem State.setBlockOwner_kiln (s : State) (b o : Nat) : (s.setBlockOwner b o).kiln = s.kiln := (rfl)
@[simp] theorem State.setBlockOwner_coll (s : State) (b o : Nat) : (s.setBlockOwner b o).coll = s.coll := (rfl)
@[simp] theorem State.setBlockOwner_esc (s : State) (b o : Nat) : (s.setBlockOwner b o).esc = s.esc := (rfl)
@[simp] theorem State.setBlockOwner_rack (s : State) (b o : Nat) : (s.setBlockOwner b o).rack = s.rack := (rfl)
@[simp] theorem State.setBlockOwner_fynen (s : State) (b o : Nat) : (s.setBlockOwner b o).fynen = s.fynen := (rfl)
@[simp] theorem State.setBlockOwner_boot (s : State) (b o : Nat) : (s.setBlockOwner b o).boot = s.boot := (rfl)
@[simp] theorem State.setBlockOwner_power (s : State) (b o : Nat) : (s.setBlockOwner b o).power = s.power := (rfl)
@[simp] theorem State.setBlockOwner_obj (s : State) (b o : Nat) : (s.setBlockOwner b o).obj = s.obj := (rfl)
@[simp] theorem State.setBlockOwner_blobs (s : State) (b o : Nat) : (s.setBlockOwner b o).blobs = s.blobs := (rfl)
@[simp] theorem State.setBlockOwner_hostMem (s : State) (b o : Nat) : (s.setBlockOwner b o).hostMem = s.hostMem := (rfl)
@[simp] theorem State.setBlockOwner_hostPoison (s : State) (b o : Nat) : (s.setBlockOwner b o).hostPoison = s.hostPoison := (rfl)
@[simp] theorem State.setBlockOwner_out (s : State) (b o : Nat) : (s.setBlockOwner b o).out = s.out := (rfl)
@[simp] theorem State.setBlockOwner_free (s : State) (b o : Nat) : (s.setBlockOwner b o).free = s.free := (rfl)

@[simp] theorem State.setSlotOwner_pending (s : State) (n o : Nat) : (s.setSlotOwner n o).pending = s.pending := (rfl)
@[simp] theorem State.setSlotOwner_dev (s : State) (n o : Nat) : (s.setSlotOwner n o).dev = s.dev := (rfl)
@[simp] theorem State.setSlotOwner_cores (s : State) (n o : Nat) : (s.setSlotOwner n o).cores = s.cores := (rfl)
@[simp] theorem State.setSlotOwner_resil (s : State) (n o : Nat) : (s.setSlotOwner n o).resil = s.resil := (rfl)
@[simp] theorem State.setSlotOwner_mem (s : State) (n o : Nat) : (s.setSlotOwner n o).mem = s.mem := (rfl)
@[simp] theorem State.setSlotOwner_streams (s : State) (n o : Nat) : (s.setSlotOwner n o).streams = s.streams := (rfl)
@[simp] theorem State.setSlotOwner_jobs (s : State) (n o : Nat) : (s.setSlotOwner n o).jobs = s.jobs := (rfl)
@[simp] theorem State.setSlotOwner_host (s : State) (n o : Nat) : (s.setSlotOwner n o).host = s.host := (rfl)
@[simp] theorem State.setSlotOwner_fabric (s : State) (n o : Nat) : (s.setSlotOwner n o).fabric = s.fabric := (rfl)
@[simp] theorem State.setSlotOwner_grist (s : State) (n o : Nat) : (s.setSlotOwner n o).grist = s.grist := (rfl)
@[simp] theorem State.setSlotOwner_kiln (s : State) (n o : Nat) : (s.setSlotOwner n o).kiln = s.kiln := (rfl)
@[simp] theorem State.setSlotOwner_coll (s : State) (n o : Nat) : (s.setSlotOwner n o).coll = s.coll := (rfl)
@[simp] theorem State.setSlotOwner_esc (s : State) (n o : Nat) : (s.setSlotOwner n o).esc = s.esc := (rfl)
@[simp] theorem State.setSlotOwner_rack (s : State) (n o : Nat) : (s.setSlotOwner n o).rack = s.rack := (rfl)
@[simp] theorem State.setSlotOwner_fynen (s : State) (n o : Nat) : (s.setSlotOwner n o).fynen = s.fynen := (rfl)
@[simp] theorem State.setSlotOwner_boot (s : State) (n o : Nat) : (s.setSlotOwner n o).boot = s.boot := (rfl)
@[simp] theorem State.setSlotOwner_power (s : State) (n o : Nat) : (s.setSlotOwner n o).power = s.power := (rfl)
@[simp] theorem State.setSlotOwner_obj (s : State) (n o : Nat) : (s.setSlotOwner n o).obj = s.obj := (rfl)
@[simp] theorem State.setSlotOwner_blobs (s : State) (n o : Nat) : (s.setSlotOwner n o).blobs = s.blobs := (rfl)
@[simp] theorem State.setSlotOwner_hostMem (s : State) (n o : Nat) : (s.setSlotOwner n o).hostMem = s.hostMem := (rfl)
@[simp] theorem State.setSlotOwner_hostPoison (s : State) (n o : Nat) : (s.setSlotOwner n o).hostPoison = s.hostPoison := (rfl)
@[simp] theorem State.setSlotOwner_out (s : State) (n o : Nat) : (s.setSlotOwner n o).out = s.out := (rfl)
@[simp] theorem State.setSlotOwner_free (s : State) (n o : Nat) : (s.setSlotOwner n o).free = s.free := (rfl)

@[simp] theorem State.objSet_pending (s : State) (o m v : Nat) : (s.objSet o m v).pending = s.pending := (rfl)
@[simp] theorem State.objSet_dev (s : State) (o m v : Nat) : (s.objSet o m v).dev = s.dev := (rfl)
@[simp] theorem State.objSet_cores (s : State) (o m v : Nat) : (s.objSet o m v).cores = s.cores := (rfl)
@[simp] theorem State.objSet_resil (s : State) (o m v : Nat) : (s.objSet o m v).resil = s.resil := (rfl)
@[simp] theorem State.objSet_mem (s : State) (o m v : Nat) : (s.objSet o m v).mem = s.mem := (rfl)
@[simp] theorem State.objSet_sync (s : State) (o m v : Nat) : (s.objSet o m v).sync = s.sync := (rfl)
@[simp] theorem State.objSet_streams (s : State) (o m v : Nat) : (s.objSet o m v).streams = s.streams := (rfl)
@[simp] theorem State.objSet_jobs (s : State) (o m v : Nat) : (s.objSet o m v).jobs = s.jobs := (rfl)
@[simp] theorem State.objSet_host (s : State) (o m v : Nat) : (s.objSet o m v).host = s.host := (rfl)
@[simp] theorem State.objSet_fabric (s : State) (o m v : Nat) : (s.objSet o m v).fabric = s.fabric := (rfl)
@[simp] theorem State.objSet_grist (s : State) (o m v : Nat) : (s.objSet o m v).grist = s.grist := (rfl)
@[simp] theorem State.objSet_kiln (s : State) (o m v : Nat) : (s.objSet o m v).kiln = s.kiln := (rfl)
@[simp] theorem State.objSet_coll (s : State) (o m v : Nat) : (s.objSet o m v).coll = s.coll := (rfl)
@[simp] theorem State.objSet_esc (s : State) (o m v : Nat) : (s.objSet o m v).esc = s.esc := (rfl)
@[simp] theorem State.objSet_rack (s : State) (o m v : Nat) : (s.objSet o m v).rack = s.rack := (rfl)
@[simp] theorem State.objSet_fynen (s : State) (o m v : Nat) : (s.objSet o m v).fynen = s.fynen := (rfl)
@[simp] theorem State.objSet_boot (s : State) (o m v : Nat) : (s.objSet o m v).boot = s.boot := (rfl)
@[simp] theorem State.objSet_power (s : State) (o m v : Nat) : (s.objSet o m v).power = s.power := (rfl)
@[simp] theorem State.objSet_blobs (s : State) (o m v : Nat) : (s.objSet o m v).blobs = s.blobs := (rfl)
@[simp] theorem State.objSet_hostMem (s : State) (o m v : Nat) : (s.objSet o m v).hostMem = s.hostMem := (rfl)
@[simp] theorem State.objSet_hostPoison (s : State) (o m v : Nat) : (s.objSet o m v).hostPoison = s.hostPoison := (rfl)
@[simp] theorem State.objSet_out (s : State) (o m v : Nat) : (s.objSet o m v).out = s.out := (rfl)
@[simp] theorem State.objSet_free (s : State) (o m v : Nat) : (s.objSet o m v).free = s.free := (rfl)

@[simp] theorem State.bump_pending (s : State) (o m n : Nat) : (s.bump o m n).pending = s.pending := (rfl)
@[simp] theorem State.bump_dev (s : State) (o m n : Nat) : (s.bump o m n).dev = s.dev := (rfl)
@[simp] theorem State.bump_cores (s : State) (o m n : Nat) : (s.bump o m n).cores = s.cores := (rfl)
@[simp] theorem State.bump_resil (s : State) (o m n : Nat) : (s.bump o m n).resil = s.resil := (rfl)
@[simp] theorem State.bump_mem (s : State) (o m n : Nat) : (s.bump o m n).mem = s.mem := (rfl)
@[simp] theorem State.bump_sync (s : State) (o m n : Nat) : (s.bump o m n).sync = s.sync := (rfl)
@[simp] theorem State.bump_streams (s : State) (o m n : Nat) : (s.bump o m n).streams = s.streams := (rfl)
@[simp] theorem State.bump_jobs (s : State) (o m n : Nat) : (s.bump o m n).jobs = s.jobs := (rfl)
@[simp] theorem State.bump_host (s : State) (o m n : Nat) : (s.bump o m n).host = s.host := (rfl)
@[simp] theorem State.bump_fabric (s : State) (o m n : Nat) : (s.bump o m n).fabric = s.fabric := (rfl)
@[simp] theorem State.bump_grist (s : State) (o m n : Nat) : (s.bump o m n).grist = s.grist := (rfl)
@[simp] theorem State.bump_kiln (s : State) (o m n : Nat) : (s.bump o m n).kiln = s.kiln := (rfl)
@[simp] theorem State.bump_coll (s : State) (o m n : Nat) : (s.bump o m n).coll = s.coll := (rfl)
@[simp] theorem State.bump_esc (s : State) (o m n : Nat) : (s.bump o m n).esc = s.esc := (rfl)
@[simp] theorem State.bump_rack (s : State) (o m n : Nat) : (s.bump o m n).rack = s.rack := (rfl)
@[simp] theorem State.bump_fynen (s : State) (o m n : Nat) : (s.bump o m n).fynen = s.fynen := (rfl)
@[simp] theorem State.bump_boot (s : State) (o m n : Nat) : (s.bump o m n).boot = s.boot := (rfl)
@[simp] theorem State.bump_power (s : State) (o m n : Nat) : (s.bump o m n).power = s.power := (rfl)
@[simp] theorem State.bump_blobs (s : State) (o m n : Nat) : (s.bump o m n).blobs = s.blobs := (rfl)
@[simp] theorem State.bump_hostMem (s : State) (o m n : Nat) : (s.bump o m n).hostMem = s.hostMem := (rfl)
@[simp] theorem State.bump_hostPoison (s : State) (o m n : Nat) : (s.bump o m n).hostPoison = s.hostPoison := (rfl)
@[simp] theorem State.bump_out (s : State) (o m n : Nat) : (s.bump o m n).out = s.out := (rfl)
@[simp] theorem State.bump_free (s : State) (o m n : Nat) : (s.bump o m n).free = s.free := (rfl)

@[simp] theorem State.blobSet_pending (s : State) (o m : Nat) (v : List Byte) : (s.blobSet o m v).pending = s.pending := (rfl)
@[simp] theorem State.blobSet_dev (s : State) (o m : Nat) (v : List Byte) : (s.blobSet o m v).dev = s.dev := (rfl)
@[simp] theorem State.blobSet_cores (s : State) (o m : Nat) (v : List Byte) : (s.blobSet o m v).cores = s.cores := (rfl)
@[simp] theorem State.blobSet_resil (s : State) (o m : Nat) (v : List Byte) : (s.blobSet o m v).resil = s.resil := (rfl)
@[simp] theorem State.blobSet_mem (s : State) (o m : Nat) (v : List Byte) : (s.blobSet o m v).mem = s.mem := (rfl)
@[simp] theorem State.blobSet_sync (s : State) (o m : Nat) (v : List Byte) : (s.blobSet o m v).sync = s.sync := (rfl)
@[simp] theorem State.blobSet_streams (s : State) (o m : Nat) (v : List Byte) : (s.blobSet o m v).streams = s.streams := (rfl)
@[simp] theorem State.blobSet_jobs (s : State) (o m : Nat) (v : List Byte) : (s.blobSet o m v).jobs = s.jobs := (rfl)
@[simp] theorem State.blobSet_host (s : State) (o m : Nat) (v : List Byte) : (s.blobSet o m v).host = s.host := (rfl)
@[simp] theorem State.blobSet_fabric (s : State) (o m : Nat) (v : List Byte) : (s.blobSet o m v).fabric = s.fabric := (rfl)
@[simp] theorem State.blobSet_grist (s : State) (o m : Nat) (v : List Byte) : (s.blobSet o m v).grist = s.grist := (rfl)
@[simp] theorem State.blobSet_kiln (s : State) (o m : Nat) (v : List Byte) : (s.blobSet o m v).kiln = s.kiln := (rfl)
@[simp] theorem State.blobSet_coll (s : State) (o m : Nat) (v : List Byte) : (s.blobSet o m v).coll = s.coll := (rfl)
@[simp] theorem State.blobSet_esc (s : State) (o m : Nat) (v : List Byte) : (s.blobSet o m v).esc = s.esc := (rfl)
@[simp] theorem State.blobSet_rack (s : State) (o m : Nat) (v : List Byte) : (s.blobSet o m v).rack = s.rack := (rfl)
@[simp] theorem State.blobSet_fynen (s : State) (o m : Nat) (v : List Byte) : (s.blobSet o m v).fynen = s.fynen := (rfl)
@[simp] theorem State.blobSet_boot (s : State) (o m : Nat) (v : List Byte) : (s.blobSet o m v).boot = s.boot := (rfl)
@[simp] theorem State.blobSet_power (s : State) (o m : Nat) (v : List Byte) : (s.blobSet o m v).power = s.power := (rfl)
@[simp] theorem State.blobSet_obj (s : State) (o m : Nat) (v : List Byte) : (s.blobSet o m v).obj = s.obj := (rfl)
@[simp] theorem State.blobSet_hostMem (s : State) (o m : Nat) (v : List Byte) : (s.blobSet o m v).hostMem = s.hostMem := (rfl)
@[simp] theorem State.blobSet_hostPoison (s : State) (o m : Nat) (v : List Byte) : (s.blobSet o m v).hostPoison = s.hostPoison := (rfl)
@[simp] theorem State.blobSet_out (s : State) (o m : Nat) (v : List Byte) : (s.blobSet o m v).out = s.out := (rfl)
@[simp] theorem State.blobSet_free (s : State) (o m : Nat) (v : List Byte) : (s.blobSet o m v).free = s.free := (rfl)

@[simp] theorem State.emit_pending (s : State) (x : Output) : (s.emit x).pending = s.pending := (rfl)
@[simp] theorem State.emit_dev (s : State) (x : Output) : (s.emit x).dev = s.dev := (rfl)
@[simp] theorem State.emit_cores (s : State) (x : Output) : (s.emit x).cores = s.cores := (rfl)
@[simp] theorem State.emit_resil (s : State) (x : Output) : (s.emit x).resil = s.resil := (rfl)
@[simp] theorem State.emit_mem (s : State) (x : Output) : (s.emit x).mem = s.mem := (rfl)
@[simp] theorem State.emit_sync (s : State) (x : Output) : (s.emit x).sync = s.sync := (rfl)
@[simp] theorem State.emit_streams (s : State) (x : Output) : (s.emit x).streams = s.streams := (rfl)
@[simp] theorem State.emit_jobs (s : State) (x : Output) : (s.emit x).jobs = s.jobs := (rfl)
@[simp] theorem State.emit_host (s : State) (x : Output) : (s.emit x).host = s.host := (rfl)
@[simp] theorem State.emit_fabric (s : State) (x : Output) : (s.emit x).fabric = s.fabric := (rfl)
@[simp] theorem State.emit_grist (s : State) (x : Output) : (s.emit x).grist = s.grist := (rfl)
@[simp] theorem State.emit_kiln (s : State) (x : Output) : (s.emit x).kiln = s.kiln := (rfl)
@[simp] theorem State.emit_coll (s : State) (x : Output) : (s.emit x).coll = s.coll := (rfl)
@[simp] theorem State.emit_esc (s : State) (x : Output) : (s.emit x).esc = s.esc := (rfl)
@[simp] theorem State.emit_rack (s : State) (x : Output) : (s.emit x).rack = s.rack := (rfl)
@[simp] theorem State.emit_fynen (s : State) (x : Output) : (s.emit x).fynen = s.fynen := (rfl)
@[simp] theorem State.emit_boot (s : State) (x : Output) : (s.emit x).boot = s.boot := (rfl)
@[simp] theorem State.emit_power (s : State) (x : Output) : (s.emit x).power = s.power := (rfl)
@[simp] theorem State.emit_obj (s : State) (x : Output) : (s.emit x).obj = s.obj := (rfl)
@[simp] theorem State.emit_blobs (s : State) (x : Output) : (s.emit x).blobs = s.blobs := (rfl)
@[simp] theorem State.emit_hostMem (s : State) (x : Output) : (s.emit x).hostMem = s.hostMem := (rfl)
@[simp] theorem State.emit_hostPoison (s : State) (x : Output) : (s.emit x).hostPoison = s.hostPoison := (rfl)
@[simp] theorem State.emit_free (s : State) (x : Output) : (s.emit x).free = s.free := (rfl)

@[simp] theorem State.reply_pending (s : State) (o m code : Nat) : (s.reply o m code).pending = s.pending := (rfl)
@[simp] theorem State.reply_dev (s : State) (o m code : Nat) : (s.reply o m code).dev = s.dev := (rfl)
@[simp] theorem State.reply_cores (s : State) (o m code : Nat) : (s.reply o m code).cores = s.cores := (rfl)
@[simp] theorem State.reply_resil (s : State) (o m code : Nat) : (s.reply o m code).resil = s.resil := (rfl)
@[simp] theorem State.reply_mem (s : State) (o m code : Nat) : (s.reply o m code).mem = s.mem := (rfl)
@[simp] theorem State.reply_sync (s : State) (o m code : Nat) : (s.reply o m code).sync = s.sync := (rfl)
@[simp] theorem State.reply_streams (s : State) (o m code : Nat) : (s.reply o m code).streams = s.streams := (rfl)
@[simp] theorem State.reply_jobs (s : State) (o m code : Nat) : (s.reply o m code).jobs = s.jobs := (rfl)
@[simp] theorem State.reply_host (s : State) (o m code : Nat) : (s.reply o m code).host = s.host := (rfl)
@[simp] theorem State.reply_fabric (s : State) (o m code : Nat) : (s.reply o m code).fabric = s.fabric := (rfl)
@[simp] theorem State.reply_grist (s : State) (o m code : Nat) : (s.reply o m code).grist = s.grist := (rfl)
@[simp] theorem State.reply_kiln (s : State) (o m code : Nat) : (s.reply o m code).kiln = s.kiln := (rfl)
@[simp] theorem State.reply_coll (s : State) (o m code : Nat) : (s.reply o m code).coll = s.coll := (rfl)
@[simp] theorem State.reply_esc (s : State) (o m code : Nat) : (s.reply o m code).esc = s.esc := (rfl)
@[simp] theorem State.reply_rack (s : State) (o m code : Nat) : (s.reply o m code).rack = s.rack := (rfl)
@[simp] theorem State.reply_fynen (s : State) (o m code : Nat) : (s.reply o m code).fynen = s.fynen := (rfl)
@[simp] theorem State.reply_boot (s : State) (o m code : Nat) : (s.reply o m code).boot = s.boot := (rfl)
@[simp] theorem State.reply_power (s : State) (o m code : Nat) : (s.reply o m code).power = s.power := (rfl)
@[simp] theorem State.reply_obj (s : State) (o m code : Nat) : (s.reply o m code).obj = s.obj := (rfl)
@[simp] theorem State.reply_blobs (s : State) (o m code : Nat) : (s.reply o m code).blobs = s.blobs := (rfl)
@[simp] theorem State.reply_hostMem (s : State) (o m code : Nat) : (s.reply o m code).hostMem = s.hostMem := (rfl)
@[simp] theorem State.reply_hostPoison (s : State) (o m code : Nat) : (s.reply o m code).hostPoison = s.hostPoison := (rfl)
@[simp] theorem State.reply_free (s : State) (o m code : Nat) : (s.reply o m code).free = s.free := (rfl)

@[simp] theorem State.modFabric_pending (s : State) (f : Fabric → Fabric) : (s.modFabric f).pending = s.pending := (rfl)
@[simp] theorem State.modFabric_dev (s : State) (f : Fabric → Fabric) : (s.modFabric f).dev = s.dev := (rfl)
@[simp] theorem State.modFabric_cores (s : State) (f : Fabric → Fabric) : (s.modFabric f).cores = s.cores := (rfl)
@[simp] theorem State.modFabric_resil (s : State) (f : Fabric → Fabric) : (s.modFabric f).resil = s.resil := (rfl)
@[simp] theorem State.modFabric_mem (s : State) (f : Fabric → Fabric) : (s.modFabric f).mem = s.mem := (rfl)
@[simp] theorem State.modFabric_sync (s : State) (f : Fabric → Fabric) : (s.modFabric f).sync = s.sync := (rfl)
@[simp] theorem State.modFabric_streams (s : State) (f : Fabric → Fabric) : (s.modFabric f).streams = s.streams := (rfl)
@[simp] theorem State.modFabric_jobs (s : State) (f : Fabric → Fabric) : (s.modFabric f).jobs = s.jobs := (rfl)
@[simp] theorem State.modFabric_host (s : State) (f : Fabric → Fabric) : (s.modFabric f).host = s.host := (rfl)
@[simp] theorem State.modFabric_grist (s : State) (f : Fabric → Fabric) : (s.modFabric f).grist = s.grist := (rfl)
@[simp] theorem State.modFabric_kiln (s : State) (f : Fabric → Fabric) : (s.modFabric f).kiln = s.kiln := (rfl)
@[simp] theorem State.modFabric_coll (s : State) (f : Fabric → Fabric) : (s.modFabric f).coll = s.coll := (rfl)
@[simp] theorem State.modFabric_esc (s : State) (f : Fabric → Fabric) : (s.modFabric f).esc = s.esc := (rfl)
@[simp] theorem State.modFabric_rack (s : State) (f : Fabric → Fabric) : (s.modFabric f).rack = s.rack := (rfl)
@[simp] theorem State.modFabric_fynen (s : State) (f : Fabric → Fabric) : (s.modFabric f).fynen = s.fynen := (rfl)
@[simp] theorem State.modFabric_boot (s : State) (f : Fabric → Fabric) : (s.modFabric f).boot = s.boot := (rfl)
@[simp] theorem State.modFabric_power (s : State) (f : Fabric → Fabric) : (s.modFabric f).power = s.power := (rfl)
@[simp] theorem State.modFabric_obj (s : State) (f : Fabric → Fabric) : (s.modFabric f).obj = s.obj := (rfl)
@[simp] theorem State.modFabric_blobs (s : State) (f : Fabric → Fabric) : (s.modFabric f).blobs = s.blobs := (rfl)
@[simp] theorem State.modFabric_hostMem (s : State) (f : Fabric → Fabric) : (s.modFabric f).hostMem = s.hostMem := (rfl)
@[simp] theorem State.modFabric_hostPoison (s : State) (f : Fabric → Fabric) : (s.modFabric f).hostPoison = s.hostPoison := (rfl)
@[simp] theorem State.modFabric_out (s : State) (f : Fabric → Fabric) : (s.modFabric f).out = s.out := (rfl)
@[simp] theorem State.modFabric_free (s : State) (f : Fabric → Fabric) : (s.modFabric f).free = s.free := (rfl)

@[simp] theorem State.modEsc_pending (s : State) (f : Esc → Esc) : (s.modEsc f).pending = s.pending := (rfl)
@[simp] theorem State.modEsc_dev (s : State) (f : Esc → Esc) : (s.modEsc f).dev = s.dev := (rfl)
@[simp] theorem State.modEsc_cores (s : State) (f : Esc → Esc) : (s.modEsc f).cores = s.cores := (rfl)
@[simp] theorem State.modEsc_resil (s : State) (f : Esc → Esc) : (s.modEsc f).resil = s.resil := (rfl)
@[simp] theorem State.modEsc_mem (s : State) (f : Esc → Esc) : (s.modEsc f).mem = s.mem := (rfl)
@[simp] theorem State.modEsc_sync (s : State) (f : Esc → Esc) : (s.modEsc f).sync = s.sync := (rfl)
@[simp] theorem State.modEsc_streams (s : State) (f : Esc → Esc) : (s.modEsc f).streams = s.streams := (rfl)
@[simp] theorem State.modEsc_jobs (s : State) (f : Esc → Esc) : (s.modEsc f).jobs = s.jobs := (rfl)
@[simp] theorem State.modEsc_host (s : State) (f : Esc → Esc) : (s.modEsc f).host = s.host := (rfl)
@[simp] theorem State.modEsc_fabric (s : State) (f : Esc → Esc) : (s.modEsc f).fabric = s.fabric := (rfl)
@[simp] theorem State.modEsc_grist (s : State) (f : Esc → Esc) : (s.modEsc f).grist = s.grist := (rfl)
@[simp] theorem State.modEsc_kiln (s : State) (f : Esc → Esc) : (s.modEsc f).kiln = s.kiln := (rfl)
@[simp] theorem State.modEsc_coll (s : State) (f : Esc → Esc) : (s.modEsc f).coll = s.coll := (rfl)
@[simp] theorem State.modEsc_rack (s : State) (f : Esc → Esc) : (s.modEsc f).rack = s.rack := (rfl)
@[simp] theorem State.modEsc_fynen (s : State) (f : Esc → Esc) : (s.modEsc f).fynen = s.fynen := (rfl)
@[simp] theorem State.modEsc_boot (s : State) (f : Esc → Esc) : (s.modEsc f).boot = s.boot := (rfl)
@[simp] theorem State.modEsc_power (s : State) (f : Esc → Esc) : (s.modEsc f).power = s.power := (rfl)
@[simp] theorem State.modEsc_obj (s : State) (f : Esc → Esc) : (s.modEsc f).obj = s.obj := (rfl)
@[simp] theorem State.modEsc_blobs (s : State) (f : Esc → Esc) : (s.modEsc f).blobs = s.blobs := (rfl)
@[simp] theorem State.modEsc_hostMem (s : State) (f : Esc → Esc) : (s.modEsc f).hostMem = s.hostMem := (rfl)
@[simp] theorem State.modEsc_hostPoison (s : State) (f : Esc → Esc) : (s.modEsc f).hostPoison = s.hostPoison := (rfl)
@[simp] theorem State.modEsc_out (s : State) (f : Esc → Esc) : (s.modEsc f).out = s.out := (rfl)
@[simp] theorem State.modEsc_free (s : State) (f : Esc → Esc) : (s.modEsc f).free = s.free := (rfl)

@[simp] theorem State.modBoot_pending (s : State) (f : Boot → Boot) : (s.modBoot f).pending = s.pending := (rfl)
@[simp] theorem State.modBoot_dev (s : State) (f : Boot → Boot) : (s.modBoot f).dev = s.dev := (rfl)
@[simp] theorem State.modBoot_cores (s : State) (f : Boot → Boot) : (s.modBoot f).cores = s.cores := (rfl)
@[simp] theorem State.modBoot_resil (s : State) (f : Boot → Boot) : (s.modBoot f).resil = s.resil := (rfl)
@[simp] theorem State.modBoot_mem (s : State) (f : Boot → Boot) : (s.modBoot f).mem = s.mem := (rfl)
@[simp] theorem State.modBoot_sync (s : State) (f : Boot → Boot) : (s.modBoot f).sync = s.sync := (rfl)
@[simp] theorem State.modBoot_streams (s : State) (f : Boot → Boot) : (s.modBoot f).streams = s.streams := (rfl)
@[simp] theorem State.modBoot_jobs (s : State) (f : Boot → Boot) : (s.modBoot f).jobs = s.jobs := (rfl)
@[simp] theorem State.modBoot_host (s : State) (f : Boot → Boot) : (s.modBoot f).host = s.host := (rfl)
@[simp] theorem State.modBoot_fabric (s : State) (f : Boot → Boot) : (s.modBoot f).fabric = s.fabric := (rfl)
@[simp] theorem State.modBoot_grist (s : State) (f : Boot → Boot) : (s.modBoot f).grist = s.grist := (rfl)
@[simp] theorem State.modBoot_kiln (s : State) (f : Boot → Boot) : (s.modBoot f).kiln = s.kiln := (rfl)
@[simp] theorem State.modBoot_coll (s : State) (f : Boot → Boot) : (s.modBoot f).coll = s.coll := (rfl)
@[simp] theorem State.modBoot_esc (s : State) (f : Boot → Boot) : (s.modBoot f).esc = s.esc := (rfl)
@[simp] theorem State.modBoot_rack (s : State) (f : Boot → Boot) : (s.modBoot f).rack = s.rack := (rfl)
@[simp] theorem State.modBoot_fynen (s : State) (f : Boot → Boot) : (s.modBoot f).fynen = s.fynen := (rfl)
@[simp] theorem State.modBoot_power (s : State) (f : Boot → Boot) : (s.modBoot f).power = s.power := (rfl)
@[simp] theorem State.modBoot_obj (s : State) (f : Boot → Boot) : (s.modBoot f).obj = s.obj := (rfl)
@[simp] theorem State.modBoot_blobs (s : State) (f : Boot → Boot) : (s.modBoot f).blobs = s.blobs := (rfl)
@[simp] theorem State.modBoot_hostMem (s : State) (f : Boot → Boot) : (s.modBoot f).hostMem = s.hostMem := (rfl)
@[simp] theorem State.modBoot_hostPoison (s : State) (f : Boot → Boot) : (s.modBoot f).hostPoison = s.hostPoison := (rfl)
@[simp] theorem State.modBoot_out (s : State) (f : Boot → Boot) : (s.modBoot f).out = s.out := (rfl)
@[simp] theorem State.modBoot_free (s : State) (f : Boot → Boot) : (s.modBoot f).free = s.free := (rfl)

@[simp] theorem State.modFynen_pending (s : State) (f : Fynen → Fynen) : (s.modFynen f).pending = s.pending := (rfl)
@[simp] theorem State.modFynen_dev (s : State) (f : Fynen → Fynen) : (s.modFynen f).dev = s.dev := (rfl)
@[simp] theorem State.modFynen_cores (s : State) (f : Fynen → Fynen) : (s.modFynen f).cores = s.cores := (rfl)
@[simp] theorem State.modFynen_resil (s : State) (f : Fynen → Fynen) : (s.modFynen f).resil = s.resil := (rfl)
@[simp] theorem State.modFynen_mem (s : State) (f : Fynen → Fynen) : (s.modFynen f).mem = s.mem := (rfl)
@[simp] theorem State.modFynen_sync (s : State) (f : Fynen → Fynen) : (s.modFynen f).sync = s.sync := (rfl)
@[simp] theorem State.modFynen_streams (s : State) (f : Fynen → Fynen) : (s.modFynen f).streams = s.streams := (rfl)
@[simp] theorem State.modFynen_jobs (s : State) (f : Fynen → Fynen) : (s.modFynen f).jobs = s.jobs := (rfl)
@[simp] theorem State.modFynen_host (s : State) (f : Fynen → Fynen) : (s.modFynen f).host = s.host := (rfl)
@[simp] theorem State.modFynen_fabric (s : State) (f : Fynen → Fynen) : (s.modFynen f).fabric = s.fabric := (rfl)
@[simp] theorem State.modFynen_grist (s : State) (f : Fynen → Fynen) : (s.modFynen f).grist = s.grist := (rfl)
@[simp] theorem State.modFynen_kiln (s : State) (f : Fynen → Fynen) : (s.modFynen f).kiln = s.kiln := (rfl)
@[simp] theorem State.modFynen_coll (s : State) (f : Fynen → Fynen) : (s.modFynen f).coll = s.coll := (rfl)
@[simp] theorem State.modFynen_esc (s : State) (f : Fynen → Fynen) : (s.modFynen f).esc = s.esc := (rfl)
@[simp] theorem State.modFynen_rack (s : State) (f : Fynen → Fynen) : (s.modFynen f).rack = s.rack := (rfl)
@[simp] theorem State.modFynen_boot (s : State) (f : Fynen → Fynen) : (s.modFynen f).boot = s.boot := (rfl)
@[simp] theorem State.modFynen_power (s : State) (f : Fynen → Fynen) : (s.modFynen f).power = s.power := (rfl)
@[simp] theorem State.modFynen_obj (s : State) (f : Fynen → Fynen) : (s.modFynen f).obj = s.obj := (rfl)
@[simp] theorem State.modFynen_blobs (s : State) (f : Fynen → Fynen) : (s.modFynen f).blobs = s.blobs := (rfl)
@[simp] theorem State.modFynen_hostMem (s : State) (f : Fynen → Fynen) : (s.modFynen f).hostMem = s.hostMem := (rfl)
@[simp] theorem State.modFynen_hostPoison (s : State) (f : Fynen → Fynen) : (s.modFynen f).hostPoison = s.hostPoison := (rfl)
@[simp] theorem State.modFynen_out (s : State) (f : Fynen → Fynen) : (s.modFynen f).out = s.out := (rfl)
@[simp] theorem State.modFynen_free (s : State) (f : Fynen → Fynen) : (s.modFynen f).free = s.free := (rfl)

@[simp] theorem State.modPower_pending (s : State) (f : Power → Power) : (s.modPower f).pending = s.pending := (rfl)
@[simp] theorem State.modPower_dev (s : State) (f : Power → Power) : (s.modPower f).dev = s.dev := (rfl)
@[simp] theorem State.modPower_cores (s : State) (f : Power → Power) : (s.modPower f).cores = s.cores := (rfl)
@[simp] theorem State.modPower_resil (s : State) (f : Power → Power) : (s.modPower f).resil = s.resil := (rfl)
@[simp] theorem State.modPower_mem (s : State) (f : Power → Power) : (s.modPower f).mem = s.mem := (rfl)
@[simp] theorem State.modPower_sync (s : State) (f : Power → Power) : (s.modPower f).sync = s.sync := (rfl)
@[simp] theorem State.modPower_streams (s : State) (f : Power → Power) : (s.modPower f).streams = s.streams := (rfl)
@[simp] theorem State.modPower_jobs (s : State) (f : Power → Power) : (s.modPower f).jobs = s.jobs := (rfl)
@[simp] theorem State.modPower_host (s : State) (f : Power → Power) : (s.modPower f).host = s.host := (rfl)
@[simp] theorem State.modPower_fabric (s : State) (f : Power → Power) : (s.modPower f).fabric = s.fabric := (rfl)
@[simp] theorem State.modPower_grist (s : State) (f : Power → Power) : (s.modPower f).grist = s.grist := (rfl)
@[simp] theorem State.modPower_kiln (s : State) (f : Power → Power) : (s.modPower f).kiln = s.kiln := (rfl)
@[simp] theorem State.modPower_coll (s : State) (f : Power → Power) : (s.modPower f).coll = s.coll := (rfl)
@[simp] theorem State.modPower_esc (s : State) (f : Power → Power) : (s.modPower f).esc = s.esc := (rfl)
@[simp] theorem State.modPower_rack (s : State) (f : Power → Power) : (s.modPower f).rack = s.rack := (rfl)
@[simp] theorem State.modPower_fynen (s : State) (f : Power → Power) : (s.modPower f).fynen = s.fynen := (rfl)
@[simp] theorem State.modPower_boot (s : State) (f : Power → Power) : (s.modPower f).boot = s.boot := (rfl)
@[simp] theorem State.modPower_obj (s : State) (f : Power → Power) : (s.modPower f).obj = s.obj := (rfl)
@[simp] theorem State.modPower_blobs (s : State) (f : Power → Power) : (s.modPower f).blobs = s.blobs := (rfl)
@[simp] theorem State.modPower_hostMem (s : State) (f : Power → Power) : (s.modPower f).hostMem = s.hostMem := (rfl)
@[simp] theorem State.modPower_hostPoison (s : State) (f : Power → Power) : (s.modPower f).hostPoison = s.hostPoison := (rfl)
@[simp] theorem State.modPower_out (s : State) (f : Power → Power) : (s.modPower f).out = s.out := (rfl)
@[simp] theorem State.modPower_free (s : State) (f : Power → Power) : (s.modPower f).free = s.free := (rfl)

@[simp] theorem State.modResil_pending (s : State) (f : Resil → Resil) : (s.modResil f).pending = s.pending := (rfl)
@[simp] theorem State.modResil_dev (s : State) (f : Resil → Resil) : (s.modResil f).dev = s.dev := (rfl)
@[simp] theorem State.modResil_cores (s : State) (f : Resil → Resil) : (s.modResil f).cores = s.cores := (rfl)
@[simp] theorem State.modResil_mem (s : State) (f : Resil → Resil) : (s.modResil f).mem = s.mem := (rfl)
@[simp] theorem State.modResil_sync (s : State) (f : Resil → Resil) : (s.modResil f).sync = s.sync := (rfl)
@[simp] theorem State.modResil_streams (s : State) (f : Resil → Resil) : (s.modResil f).streams = s.streams := (rfl)
@[simp] theorem State.modResil_jobs (s : State) (f : Resil → Resil) : (s.modResil f).jobs = s.jobs := (rfl)
@[simp] theorem State.modResil_host (s : State) (f : Resil → Resil) : (s.modResil f).host = s.host := (rfl)
@[simp] theorem State.modResil_fabric (s : State) (f : Resil → Resil) : (s.modResil f).fabric = s.fabric := (rfl)
@[simp] theorem State.modResil_grist (s : State) (f : Resil → Resil) : (s.modResil f).grist = s.grist := (rfl)
@[simp] theorem State.modResil_kiln (s : State) (f : Resil → Resil) : (s.modResil f).kiln = s.kiln := (rfl)
@[simp] theorem State.modResil_coll (s : State) (f : Resil → Resil) : (s.modResil f).coll = s.coll := (rfl)
@[simp] theorem State.modResil_esc (s : State) (f : Resil → Resil) : (s.modResil f).esc = s.esc := (rfl)
@[simp] theorem State.modResil_rack (s : State) (f : Resil → Resil) : (s.modResil f).rack = s.rack := (rfl)
@[simp] theorem State.modResil_fynen (s : State) (f : Resil → Resil) : (s.modResil f).fynen = s.fynen := (rfl)
@[simp] theorem State.modResil_boot (s : State) (f : Resil → Resil) : (s.modResil f).boot = s.boot := (rfl)
@[simp] theorem State.modResil_power (s : State) (f : Resil → Resil) : (s.modResil f).power = s.power := (rfl)
@[simp] theorem State.modResil_obj (s : State) (f : Resil → Resil) : (s.modResil f).obj = s.obj := (rfl)
@[simp] theorem State.modResil_blobs (s : State) (f : Resil → Resil) : (s.modResil f).blobs = s.blobs := (rfl)
@[simp] theorem State.modResil_hostMem (s : State) (f : Resil → Resil) : (s.modResil f).hostMem = s.hostMem := (rfl)
@[simp] theorem State.modResil_hostPoison (s : State) (f : Resil → Resil) : (s.modResil f).hostPoison = s.hostPoison := (rfl)
@[simp] theorem State.modResil_out (s : State) (f : Resil → Resil) : (s.modResil f).out = s.out := (rfl)
@[simp] theorem State.modResil_free (s : State) (f : Resil → Resil) : (s.modResil f).free = s.free := (rfl)

@[simp] theorem State.modKiln_pending (s : State) (k : Nat) (f : KilnUnit → KilnUnit) : (s.modKiln k f).pending = s.pending := (rfl)
@[simp] theorem State.modKiln_dev (s : State) (k : Nat) (f : KilnUnit → KilnUnit) : (s.modKiln k f).dev = s.dev := (rfl)
@[simp] theorem State.modKiln_cores (s : State) (k : Nat) (f : KilnUnit → KilnUnit) : (s.modKiln k f).cores = s.cores := (rfl)
@[simp] theorem State.modKiln_resil (s : State) (k : Nat) (f : KilnUnit → KilnUnit) : (s.modKiln k f).resil = s.resil := (rfl)
@[simp] theorem State.modKiln_mem (s : State) (k : Nat) (f : KilnUnit → KilnUnit) : (s.modKiln k f).mem = s.mem := (rfl)
@[simp] theorem State.modKiln_sync (s : State) (k : Nat) (f : KilnUnit → KilnUnit) : (s.modKiln k f).sync = s.sync := (rfl)
@[simp] theorem State.modKiln_streams (s : State) (k : Nat) (f : KilnUnit → KilnUnit) : (s.modKiln k f).streams = s.streams := (rfl)
@[simp] theorem State.modKiln_jobs (s : State) (k : Nat) (f : KilnUnit → KilnUnit) : (s.modKiln k f).jobs = s.jobs := (rfl)
@[simp] theorem State.modKiln_host (s : State) (k : Nat) (f : KilnUnit → KilnUnit) : (s.modKiln k f).host = s.host := (rfl)
@[simp] theorem State.modKiln_fabric (s : State) (k : Nat) (f : KilnUnit → KilnUnit) : (s.modKiln k f).fabric = s.fabric := (rfl)
@[simp] theorem State.modKiln_grist (s : State) (k : Nat) (f : KilnUnit → KilnUnit) : (s.modKiln k f).grist = s.grist := (rfl)
@[simp] theorem State.modKiln_coll (s : State) (k : Nat) (f : KilnUnit → KilnUnit) : (s.modKiln k f).coll = s.coll := (rfl)
@[simp] theorem State.modKiln_esc (s : State) (k : Nat) (f : KilnUnit → KilnUnit) : (s.modKiln k f).esc = s.esc := (rfl)
@[simp] theorem State.modKiln_rack (s : State) (k : Nat) (f : KilnUnit → KilnUnit) : (s.modKiln k f).rack = s.rack := (rfl)
@[simp] theorem State.modKiln_fynen (s : State) (k : Nat) (f : KilnUnit → KilnUnit) : (s.modKiln k f).fynen = s.fynen := (rfl)
@[simp] theorem State.modKiln_boot (s : State) (k : Nat) (f : KilnUnit → KilnUnit) : (s.modKiln k f).boot = s.boot := (rfl)
@[simp] theorem State.modKiln_power (s : State) (k : Nat) (f : KilnUnit → KilnUnit) : (s.modKiln k f).power = s.power := (rfl)
@[simp] theorem State.modKiln_obj (s : State) (k : Nat) (f : KilnUnit → KilnUnit) : (s.modKiln k f).obj = s.obj := (rfl)
@[simp] theorem State.modKiln_blobs (s : State) (k : Nat) (f : KilnUnit → KilnUnit) : (s.modKiln k f).blobs = s.blobs := (rfl)
@[simp] theorem State.modKiln_hostMem (s : State) (k : Nat) (f : KilnUnit → KilnUnit) : (s.modKiln k f).hostMem = s.hostMem := (rfl)
@[simp] theorem State.modKiln_hostPoison (s : State) (k : Nat) (f : KilnUnit → KilnUnit) : (s.modKiln k f).hostPoison = s.hostPoison := (rfl)
@[simp] theorem State.modKiln_out (s : State) (k : Nat) (f : KilnUnit → KilnUnit) : (s.modKiln k f).out = s.out := (rfl)
@[simp] theorem State.modKiln_free (s : State) (k : Nat) (f : KilnUnit → KilnUnit) : (s.modKiln k f).free = s.free := (rfl)

@[simp] theorem State.takeFree_pending (s : State) : s.takeFree.2.pending = s.pending := (rfl)
@[simp] theorem State.takeFree_dev (s : State) : s.takeFree.2.dev = s.dev := (rfl)
@[simp] theorem State.takeFree_cores (s : State) : s.takeFree.2.cores = s.cores := (rfl)
@[simp] theorem State.takeFree_resil (s : State) : s.takeFree.2.resil = s.resil := (rfl)
@[simp] theorem State.takeFree_mem (s : State) : s.takeFree.2.mem = s.mem := (rfl)
@[simp] theorem State.takeFree_sync (s : State) : s.takeFree.2.sync = s.sync := (rfl)
@[simp] theorem State.takeFree_streams (s : State) : s.takeFree.2.streams = s.streams := (rfl)
@[simp] theorem State.takeFree_jobs (s : State) : s.takeFree.2.jobs = s.jobs := (rfl)
@[simp] theorem State.takeFree_host (s : State) : s.takeFree.2.host = s.host := (rfl)
@[simp] theorem State.takeFree_fabric (s : State) : s.takeFree.2.fabric = s.fabric := (rfl)
@[simp] theorem State.takeFree_grist (s : State) : s.takeFree.2.grist = s.grist := (rfl)
@[simp] theorem State.takeFree_kiln (s : State) : s.takeFree.2.kiln = s.kiln := (rfl)
@[simp] theorem State.takeFree_coll (s : State) : s.takeFree.2.coll = s.coll := (rfl)
@[simp] theorem State.takeFree_esc (s : State) : s.takeFree.2.esc = s.esc := (rfl)
@[simp] theorem State.takeFree_rack (s : State) : s.takeFree.2.rack = s.rack := (rfl)
@[simp] theorem State.takeFree_fynen (s : State) : s.takeFree.2.fynen = s.fynen := (rfl)
@[simp] theorem State.takeFree_boot (s : State) : s.takeFree.2.boot = s.boot := (rfl)
@[simp] theorem State.takeFree_power (s : State) : s.takeFree.2.power = s.power := (rfl)
@[simp] theorem State.takeFree_obj (s : State) : s.takeFree.2.obj = s.obj := (rfl)
@[simp] theorem State.takeFree_blobs (s : State) : s.takeFree.2.blobs = s.blobs := (rfl)
@[simp] theorem State.takeFree_hostMem (s : State) : s.takeFree.2.hostMem = s.hostMem := (rfl)
@[simp] theorem State.takeFree_hostPoison (s : State) : s.takeFree.2.hostPoison = s.hostPoison := (rfl)
@[simp] theorem State.takeFree_out (s : State) : s.takeFree.2.out = s.out := (rfl)

/-! ## Reading back -/

@[simp] theorem State.core_setCore (s : State) (c : Nat) (x : Core) (h : c < 144) : (s.setCore c x).core c = x := vget_vset_same _ _ _ _ h
@[simp] theorem State.core_setCore_ne (s : State) (c d : Nat) (x : Core) (h : d ≠ c) : (s.setCore c x).core d = s.core d := vget_vset_ne _ _ _ _ _ h
@[simp] theorem State.core_modCore (s : State) (c : Nat) (f : Core → Core) (h : c < 144) : (s.modCore c f).core c = f (s.core c) := vget_vset_same _ _ _ _ h
@[simp] theorem State.core_modCore_ne (s : State) (c d : Nat) (f : Core → Core) (h : d ≠ c) : (s.modCore c f).core d = s.core d := vget_vset_ne _ _ _ _ _ h
@[simp] theorem State.stream_setStream (s : State) (i : Nat) (x : Stream) (h : i < 64) : (s.setStream i x).stream i = x := vget_vset_same _ _ _ _ h
@[simp] theorem State.stream_setStream_ne (s : State) (i j : Nat) (x : Stream) (h : j ≠ i) : (s.setStream i x).stream j = s.stream j := vget_vset_ne _ _ _ _ _ h
@[simp] theorem State.stream_modStream (s : State) (i : Nat) (f : Stream → Stream) (h : i < 64) : (s.modStream i f).stream i = f (s.stream i) := vget_vset_same _ _ _ _ h
@[simp] theorem State.stream_modStream_ne (s : State) (i j : Nat) (f : Stream → Stream) (h : j ≠ i) : (s.modStream i f).stream j = s.stream j := vget_vset_ne _ _ _ _ _ h
@[simp] theorem State.job_setJob (s : State) (j : Nat) (x : Job) (h : j < 8) : (s.setJob j x).job j = x := vget_vset_same _ _ _ _ h
@[simp] theorem State.job_setJob_ne (s : State) (i j : Nat) (x : Job) (h : i ≠ j) : (s.setJob j x).job i = s.job i := vget_vset_ne _ _ _ _ _ h
@[simp] theorem State.port_setPort (s : State) (p : Nat) (x : Port) (h : p < 12) : (s.setPort p x).port p = x := vget_vset_same _ _ _ _ h
@[simp] theorem State.port_setPort_ne (s : State) (p q : Nat) (x : Port) (h : q ≠ p) : (s.setPort p x).port q = s.port q := vget_vset_ne _ _ _ _ _ h
@[simp] theorem State.port_modPort (s : State) (p : Nat) (f : Port → Port) (h : p < 12) : (s.modPort p f).port p = f (s.port p) := vget_vset_same _ _ _ _ h
@[simp] theorem State.port_modPort_ne (s : State) (p q : Nat) (f : Port → Port) (h : q ≠ p) : (s.modPort p f).port q = s.port q := vget_vset_ne _ _ _ _ _ h
@[simp] theorem State.stack_setStack (s : State) (k : Nat) (x : Stack) (h : k < 12) : (s.setStack k x).stack k = x := vget_vset_same _ _ _ _ h
@[simp] theorem State.stack_setStack_ne (s : State) (k j : Nat) (x : Stack) (h : j ≠ k) : (s.setStack k x).stack j = s.stack j := vget_vset_ne _ _ _ _ _ h
@[simp] theorem State.stack_modStack (s : State) (k : Nat) (f : Stack → Stack) (h : k < 12) : (s.modStack k f).stack k = f (s.stack k) := vget_vset_same _ _ _ _ h
@[simp] theorem State.stack_modStack_ne (s : State) (k j : Nat) (f : Stack → Stack) (h : j ≠ k) : (s.modStack k f).stack j = s.stack j := vget_vset_ne _ _ _ _ _ h
@[simp] theorem State.counter_setCounter (s : State) (n : Nat) (x : Counter) : (s.setCounter n x).counter n = x := tget_tset_same _ _ _ _
theorem State.counter_setCounter_ne (s : State) (n m : Nat) (x : Counter) (h : m % 65536 ≠ n % 65536) :
    (s.setCounter n x).counter m = s.counter m := tget_tset_ne _ _ _ _ _ _ h
@[simp] theorem State.slot_setSlot (s : State) (n : Nat) (x : Slot) : (s.setSlot n x).slot n = x := tget_tset_same _ _ _ _
@[simp] theorem State.slot_setSlot_ne (s : State) (n m : Nat) (x : Slot) (h : m ≠ n) : (s.setSlot n x).slot m = s.slot m := tget_tset_ne _ _ _ _ _ _ h
@[simp] theorem State.objGet_objSet (s : State) (o m v : Nat) : (s.objSet o m v).objGet o m = v := tget_tset_same _ _ _ _
theorem State.objGet_objSet_ne (s : State) (o m v p n : Nat) (h : 256 * p + n ≠ 256 * o + m) : (s.objSet o m v).objGet p n = s.objGet p n :=
  tget_tset_ne _ _ _ _ _ _ h
@[simp] theorem State.objGet_bump (s : State) (o m n : Nat) : (s.bump o m n).objGet o m = min (2 ^ 64 - 1) (s.objGet o m + n) := State.objGet_objSet _ _ _ _
theorem State.rising_objSet (s : State) (o m v : Nat) (hs : Rising s.obj) : Rising (s.objSet o m v).obj := rising_tset _ _ _ _ hs
@[simp] theorem State.emit_out (s : State) (x : Output) : (s.emit x).out = s.out ++ [x] := rfl
@[simp] theorem State.takeFree_fst (s : State) : s.takeFree.1 = Config.freeValue s.free := rfl
@[simp] theorem State.takeFree_free (s : State) : s.takeFree.2.free = s.free + 1 := rfl

/-! ## Registers of a core -/

@[simp] theorem Core.s_setS (x : Core) (i : Nat) (v : Word) (p : Bool) (h : i ≠ 0) (h' : i < 32) : (x.setS i v p).s i = v := by
  simp [Core.s, Core.setS, h, h']
@[simp] theorem Core.s_setS_ne (x : Core) (i j : Nat) (v : Word) (p : Bool) (h : j ≠ i) : (x.setS i v p).s j = x.s j := by
  unfold Core.s Core.setS
  split
  · rfl
  · split
    · rfl
    · simp [h]
/-- s0 reads as zero (04 R118). -/
@[simp] theorem Core.s_zero (x : Core) : x.s 0 = 0 := rfl
/-- A write to s0 is discarded (04 R118). -/
@[simp] theorem Core.setS_zero (x : Core) (v : Word) (p : Bool) : x.setS 0 v p = x := rfl
/-- p0 reads as ones (04 R118). -/
@[simp] theorem Core.p_zero (x : Core) : x.p 0 = BitVec.allOnes 512 := rfl
@[simp] theorem Core.setP_zero (x : Core) (v : BitVec 512) : x.setP 0 v = x := rfl
@[simp] theorem Core.v_setV (x : Core) (i : Nat) (v : BitVec 16384) (p : BitVec 32) (h : i < 32) : (x.setV i v p).v i = v := by simp [Core.v, Core.setV, h]
@[simp] theorem Core.v_setV_ne (x : Core) (i j : Nat) (v : BitVec 16384) (p : BitVec 32) (h : j ≠ i) : (x.setV i v p).v j = x.v j := by simp [Core.v, Core.setV, h]
@[simp] theorem Core.p_setP (x : Core) (i : Nat) (v : BitVec 512) (h : i ≠ 0) (h' : i < 8) : (x.setP i v).p i = v := by simp [Core.p, Core.setP, h, h']

/-! ## The state after reset -/

/-- The memories of the state after reset are in canonical form. -/
theorem State.reset_wf : Mem.wf State.reset.unlisted State.reset.mem.cells := Mem.wf_nil _
theorem State.reset_rising : Rising State.reset.obj ∧ Rising State.reset.sync.counters ∧ Rising State.reset.sync.slots :=
  ⟨List.Pairwise.nil, List.Pairwise.nil, List.Pairwise.nil⟩

end Sys2Proof.Machine
end

