-- ==== Sys2Proof/Laws/Boot.lean ====
section
/-! SUPPORT. Which shared operations leave the boot and security part (13) as it is: one lemma per operation; those that reset or boot the device are not among them. -/

set_option linter.all false

namespace Sys2Proof.Machine

@[simp] theorem State.each_boot {α : Type} (s : State) (l : List α) (f : State → α → State) (hf : ∀ (s : State) (x0 : α), (f s x0).boot = s.boot) : (State.each s l f).boot = s.boot := by
  induction l generalizing s with
  | nil => rfl
  | cons a r ih => exact (ih _).trans (hf _ _)

@[simp] theorem State.aerReport_boot (s : State) (bit : Nat)  : (State.aerReport s bit).boot = s.boot := by
  simp [State.aerReport]

@[simp] theorem State.msix_boot (s : State) (v : Nat)  : (State.msix s v).boot = s.boot := by
  simp [State.msix, apply_ite State.boot, apply_ite Prod.fst, apply_ite Prod.snd]

@[simp] theorem State.msixFlush_boot (s : State)  : (State.msixFlush s).boot = s.boot := by
  simp [State.msixFlush, apply_ite State.boot, apply_ite Prod.fst, apply_ite Prod.snd]

@[simp] theorem State.event_boot (s : State) (code obj detail : Nat) (drill : Bool)  : (State.event s code obj detail drill).boot = s.boot := by
  simp [State.event, apply_ite State.boot, apply_ite Prod.fst, apply_ite Prod.snd]

@[simp] theorem State.eventD_boot (s : State) (code obj : Nat) (drill : Bool)  : (State.eventD s code obj drill).boot = s.boot := by
  simp [State.eventD]

@[simp] theorem State.eventOpen_boot (s : State) (obj : Nat)  : (State.eventOpen s obj).boot = s.boot := by
  simp [State.eventOpen]

@[simp] theorem State.warning_boot (s : State)  : (State.warning s).boot = s.boot := by
  simp [State.warning]

@[simp] theorem State.spareUsed_boot (s : State)  : (State.spareUsed s).boot = s.boot := by
  simp [State.spareUsed, apply_ite State.boot, apply_ite Prod.fst, apply_ite Prod.snd]

@[simp] theorem State.healthUpdate_boot (s : State)  : (State.healthUpdate s).boot = s.boot := by
  simp [State.healthUpdate, apply_ite State.boot, apply_ite Prod.fst, apply_ite Prod.snd]

@[simp] theorem State.healthWarn_boot (s : State)  : (State.healthWarn s).boot = s.boot := by
  simp [State.healthWarn, apply_ite State.boot, apply_ite Prod.fst, apply_ite Prod.snd]

@[simp] theorem State.deduct_boot (s : State) (kind points : Nat) (transient : Bool)  : (State.deduct s kind points transient).boot = s.boot := by
  simp [State.deduct, apply_ite State.boot, apply_ite Prod.fst, apply_ite Prod.snd]

@[simp] theorem State.deductLasting_boot (s : State) (kind points : Nat)  : (State.deductLasting s kind points).boot = s.boot := by
  simp [State.deductLasting, apply_ite State.boot, apply_ite Prod.fst, apply_ite Prod.snd]

@[simp] theorem State.realEvent_boot (s : State) (kind : Nat)  : (State.realEvent s kind).boot = s.boot := by
  simp [State.realEvent]

@[simp] theorem State.undeduct_boot (s : State) (kind : Nat)  : (State.undeduct s kind).boot = s.boot := by
  simp [State.undeduct]

@[simp] theorem State.throttle_boot (s : State)  : (State.throttle s).boot = s.boot := by
  simp [State.throttle]

@[simp] theorem State.objectRow_boot (s : State) (o m : Nat) (f : State → State) (hf : ∀ s : State, (f s).boot = s.boot) : (State.objectRow s o m f).boot = s.boot := by
  simp [State.objectRow, apply_ite State.boot, apply_ite Prod.fst, apply_ite Prod.snd, hf]

@[simp] theorem State.putHbm_boot (s : State) (ln : Nat) (d : Line) (mask : BitVec 64) (poison : Bool)  : (State.putHbm s ln d mask poison).boot = s.boot := by
  simp [State.putHbm]

@[simp] theorem State.putLine_boot (s : State) (ln : Nat) (d : Line) (mask : BitVec 64) (poison : Bool)  : (State.putLine s ln d mask poison).boot = s.boot := by
  unfold State.putLine; (repeat' split) <;> simp [apply_ite State.boot, apply_ite Prod.fst, apply_ite Prod.snd]

@[simp] theorem State.poisonStored_boot (s : State) (ln : Nat)  : (State.poisonStored s ln).boot = s.boot := by
  simp [State.poisonStored]

@[simp] theorem State.poisonLine_boot (s : State) (ln : Nat)  : (State.poisonLine s ln).boot = s.boot := by
  unfold State.poisonLine; (repeat' split) <;> simp [apply_ite State.boot, apply_ite Prod.fst, apply_ite Prod.snd]

@[simp] theorem State.queueRetrain_boot (s : State) (k ch : Nat)  : (State.queueRetrain s k ch).boot = s.boot := by
  simp [State.queueRetrain]

@[simp] theorem State.checkDrift_boot (s : State) (k : Nat)  : (State.checkDrift s k).boot = s.boot := by
  simp [State.checkDrift]

@[simp] theorem State.openWindow_boot (s : State) (k : Nat)  : (State.openWindow s k).boot = s.boot := by
  unfold State.openWindow
  dsimp only
  split <;> simp

@[simp] theorem State.wakeStack_boot (s : State) (k : Nat)  : (State.wakeStack s k).boot = s.boot := by
  simp [State.wakeStack, apply_ite State.boot, apply_ite Prod.fst, apply_ite Prod.snd]

@[simp] theorem State.pinCorrected_boot (s : State) (k ch pin : Nat)  : (State.pinCorrected s k ch pin).boot = s.boot := by
  simp [State.pinCorrected, apply_ite State.boot, apply_ite Prod.fst, apply_ite Prod.snd]

@[simp] theorem State.hbmUncorrectable_boot (s : State) (ln : Nat) (scrub : Bool)  : (State.hbmUncorrectable s ln scrub).boot = s.boot := by
  simp [State.hbmUncorrectable, apply_ite State.boot, apply_ite Prod.fst, apply_ite Prod.snd]

@[simp] theorem State.scrambleSector_boot (s : State) (ln sector : Nat)  : (State.scrambleSector s ln sector).boot = s.boot := by
  simp [State.scrambleSector, apply_ite State.boot, apply_ite Prod.fst, apply_ite Prod.snd]

@[simp] theorem State.sectorError_boot (s : State) (k ln sector : Nat) (pins : List Nat) (scrub : Bool)  : (State.sectorError s k ln sector pins scrub).boot = s.boot := by
  unfold State.sectorError
  dsimp only
  split
  · rfl
  · simp [apply_ite State.boot, apply_ite Prod.fst, apply_ite Prod.snd]
  · split
    · simp
    · split <;> simp

@[simp] theorem State.readSectors_boot (s : State) (k ln : Nat) (sectors : List Nat) (scrub : Bool)  : (State.readSectors s k ln sectors scrub).boot = s.boot := by
  simp [State.readSectors, apply_ite State.boot, apply_ite Prod.fst, apply_ite Prod.snd]

@[simp] theorem State.unhide_boot (s : State) (ln : Nat)  : (State.unhide s ln).boot = s.boot := by
  simp [State.unhide, apply_ite State.boot, apply_ite Prod.fst, apply_ite Prod.snd]

@[simp] theorem State.reachHbm_boot (s : State) (k ln : Nat)  : (State.reachHbm s k ln).boot = s.boot := by
  unfold State.reachHbm
  split
  · rfl
  · simp

@[simp] theorem State.dropEntry_boot (s : State) (q ln : Nat)  : (State.dropEntry s q ln).boot = s.boot := by
  simp [State.dropEntry, apply_ite State.boot, apply_ite Prod.fst, apply_ite Prod.snd]

@[simp] theorem State.tunError_boot (s : State) (ln : Nat)  : (State.tunError s ln).boot = s.boot := by
  unfold State.tunError; (repeat' split) <;> simp [apply_ite State.boot, apply_ite Prod.fst, apply_ite Prod.snd]

@[simp] theorem State.meetTun_boot (s : State) (ln : Nat)  : (State.meetTun s ln).boot = s.boot := by
  simp [State.meetTun, apply_ite State.boot, apply_ite Prod.fst, apply_ite Prod.snd]

@[simp] theorem State.clearErrors_boot (s : State) (ln : Nat)  : (State.clearErrors s ln).boot = s.boot := by
  simp [State.clearErrors, apply_ite State.boot, apply_ite Prod.fst, apply_ite Prod.snd]

@[simp] theorem State.flushEntry_boot (s : State) (q ln : Nat)  : (State.flushEntry s q ln).boot = s.boot := by
  unfold State.flushEntry; (repeat' split) <;> simp [apply_ite State.boot, apply_ite Prod.fst, apply_ite Prod.snd]

@[simp] theorem State.writeBackLine_boot (s : State) (ln : Nat)  : (State.writeBackLine s ln).boot = s.boot := by
  unfold State.writeBackLine; (repeat' split) <;> simp [apply_ite State.boot, apply_ite Prod.fst, apply_ite Prod.snd]

@[simp] theorem State.evict_boot (s : State) (q ln : Nat)  : (State.evict s q ln).boot = s.boot := by
  simp [State.evict, apply_ite State.boot, apply_ite Prod.fst, apply_ite Prod.snd]

@[simp] theorem State.allocate_boot (s : State) (q ln : Nat) (dirty keep : Bool)  : (State.allocate s q ln dirty keep).boot = s.boot := by
  simp [State.allocate]

@[simp] theorem State.cacheLine_boot (s : State) (q ln : Nat) (dirty : Bool) (cls : Nat)  : (State.cacheLine s q ln dirty cls).boot = s.boot := by
  simp [State.cacheLine, apply_ite State.boot, apply_ite Prod.fst, apply_ite Prod.snd]

@[simp] theorem State.countCache_boot (s : State) (q : Nat) (hit : Bool)  : (State.countCache s q hit).boot = s.boot := by
  simp [State.countCache, apply_ite State.boot, apply_ite Prod.fst, apply_ite Prod.snd]

@[simp] theorem State.wakeSlices_boot (s : State) (ln : Nat)  : (State.wakeSlices s ln).boot = s.boot := by
  simp [State.wakeSlices, apply_ite State.boot, apply_ite Prod.fst, apply_ite Prod.snd]

@[simp] theorem State.touchRead_boot (s : State) (ln : Nat) (cls : Nat)  : (State.touchRead s ln cls).boot = s.boot := by
  unfold State.touchRead
  repeat' (first | (simp [apply_ite State.boot, apply_ite Prod.fst, apply_ite Prod.snd]; done) | split | (refine (State.each_boot _ _ _ ?_).trans ?_ <;> intros) | simp [apply_ite State.boot, apply_ite Prod.fst, apply_ite Prod.snd])

@[simp] theorem State.touchRange_boot (s : State) (a n : Nat) (cls : Nat)  : (State.touchRange s a n cls).boot = s.boot := by
  simp [State.touchRange, apply_ite State.boot, apply_ite Prod.fst, apply_ite Prod.snd]

@[simp] theorem State.combPressure_boot (s : State) (q ln : Nat)  : (State.combPressure s q ln).boot = s.boot := by
  unfold State.combPressure
  dsimp only
  split
  · rfl
  · split
    · rfl
    · split
      · split
        · rfl
        · simp
      · rfl

@[simp] theorem State.combineWrite_boot (s : State) (k ln : Nat) (d : Line) (mask : BitVec 64) (poison : Bool) (cls : Nat)  : (State.combineWrite s k ln d mask poison cls).boot = s.boot := by
  unfold State.combineWrite
  dsimp only
  split
  · simp
  · split <;> split <;> simp

@[simp] theorem State.copyFirst_boot (s : State) (ln : Nat)  : (State.copyFirst s ln).boot = s.boot := by
  simp [State.copyFirst, apply_ite State.boot, apply_ite Prod.fst, apply_ite Prod.snd]

@[simp] theorem State.tunWrite_boot (s : State) (ln : Nat) (d : Line) (mask : BitVec 64) (poison : Bool) (cls : Nat)  : (State.tunWrite s ln d mask poison cls).boot = s.boot := by
  unfold State.tunWrite; (repeat' split) <;> simp [apply_ite State.boot, apply_ite Prod.fst, apply_ite Prod.snd]

@[simp] theorem State.deviceScan_boot (s : State) (bytes : Nat) (poisoned : Bool)  : (State.deviceScan s bytes poisoned).boot = s.boot := by
  simp [State.deviceScan]

@[simp] theorem State.access_boot (s : State) (c : Instr) (lines : List Nat) (need : Nat → Option Nat) (f : State → State) (hf : ∀ s : State, (f s).boot = s.boot) : (State.access s c lines need f).boot = s.boot := by
  simp [State.access, apply_ite State.boot, apply_ite Prod.fst, apply_ite Prod.snd, hf]

@[simp] theorem State.counterAdd_boot (s : State) (n : Nat) (a : Int)  : (State.counterAdd s n a).boot = s.boot := by
  simp [State.counterAdd, apply_ite State.boot, apply_ite Prod.fst, apply_ite Prod.snd]

@[simp] theorem State.reason_boot (s : State) (q code : Nat)  : (State.reason s q code).boot = s.boot := by
  simp [State.reason, apply_ite State.boot, apply_ite Prod.fst, apply_ite Prod.snd]

@[simp] theorem State.infReport_boot (s : State) (q job : Nat) (inf : Bool)  : (State.infReport s q job inf).boot = s.boot := by
  simp [State.infReport, apply_ite State.boot, apply_ite Prod.fst, apply_ite Prod.snd]

@[simp] theorem State.ledgerAdd_boot (s : State) (r : LedgerRec)  : (State.ledgerAdd s r).1.boot = s.boot := by
  simp [State.ledgerAdd, apply_ite State.boot, apply_ite Prod.fst, apply_ite Prod.snd]

@[simp] theorem State.undoLine_boot (s : State) (ln : Nat) (d : Line) (bad : Bool)  : (State.undoLine s ln d bad).boot = s.boot := by
  unfold State.undoLine; (repeat' split) <;> simp [apply_ite State.boot, apply_ite Prod.fst, apply_ite Prod.snd]

@[simp] theorem State.undo_boot (s : State) (r : LedgerRec)  : (State.undo s r).boot = s.boot := by
  simp [State.undo, apply_ite State.boot, apply_ite Prod.fst, apply_ite Prod.snd]

@[simp] theorem State.clearSums_boot (s : State)  : (State.clearSums s).boot = s.boot := by
  simp [State.clearSums]

@[simp] theorem State.restoreCounters_boot (s : State)  : (State.restoreCounters s).boot = s.boot := by
  simp [State.restoreCounters, apply_ite State.boot, apply_ite Prod.fst, apply_ite Prod.snd]

@[simp] theorem State.rollbackData_boot (s : State)  : (State.rollbackData s).boot = s.boot := by
  simp [State.rollbackData]

@[simp] theorem State.releaseLedger_boot (s : State)  : (State.releaseLedger s).boot = s.boot := by
  simp [State.releaseLedger]

@[simp] theorem State.releaseIn_boot (s : State)  : (State.releaseIn s).boot = s.boot := by
  simp [State.releaseIn]

@[simp] theorem State.escIdle_boot (s : State)  : (State.escIdle s).boot = s.boot := by
  simp [State.escIdle]

@[simp] theorem State.throttleUpdate_boot (s : State) (p : Nat)  : (State.throttleUpdate s p).boot = s.boot := by
  simp [State.throttleUpdate]

@[simp] theorem State.inject_boot (s : State) (p : Packet)  : (State.inject s p).boot = s.boot := by
  unfold State.inject
  repeat' (first | (simp [apply_ite State.boot, apply_ite Prod.fst, apply_ite Prod.snd]; done) | split | (refine (State.each_boot _ _ _ ?_).trans ?_ <;> intros) | simp [apply_ite State.boot, apply_ite Prod.fst, apply_ite Prod.snd])

@[simp] theorem State.refill_boot (s : State)  : (State.refill s).boot = s.boot := by
  simp [State.refill]

@[simp] theorem State.setTokens_boot (s : State) (d : BitVec 17) (n : Nat)  : (State.setTokens s d n).boot = s.boot := by
  simp [State.setTokens]

@[simp] theorem State.sendNow_boot (s : State) (r : Request) (p : Packet)  : (State.sendNow s r p).boot = s.boot := by
  simp [State.sendNow, apply_ite State.boot, apply_ite Prod.fst, apply_ite Prod.snd]

@[simp] theorem State.noteAdded_boot (s : State) (r : Request) (p : Packet)  : (State.noteAdded s r p).boot = s.boot := by
  unfold State.noteAdded; (repeat' split) <;> simp [apply_ite State.boot, apply_ite Prod.fst, apply_ite Prod.snd]

@[simp] theorem State.pump_boot (s : State)  : (State.pump s).boot = s.boot := by
  simp [State.pump, apply_ite State.boot, apply_ite Prod.fst, apply_ite Prod.snd]

@[simp] theorem State.nextInterval_boot (s : State)  : (State.nextInterval s).boot = s.boot := by
  simp [State.nextInterval, apply_ite State.boot, apply_ite Prod.fst, apply_ite Prod.snd]

@[simp] theorem State.request_boot (s : State) (r : Request) (p : Packet)  : (State.request s r p).boot = s.boot := by
  simp [State.request]

@[simp] theorem State.closeRequest_boot (s : State) (r : Request)  : (State.closeRequest s r).boot = s.boot := by
  simp [State.closeRequest]

@[simp] theorem State.respond_boot (s : State) (q : Packet) (type status : Nat) (lines : List Line) (poison : List Bool) (addr : BitVec 42) (final : Bool)  : (State.respond s q type status lines poison addr final).boot = s.boot := by
  simp [State.respond, apply_ite State.boot, apply_ite Prod.fst, apply_ite Prod.snd]

@[simp] theorem State.nackTo_boot (s : State) (q : Packet) (status : Nat)  : (State.nackTo s q status).boot = s.boot := by
  simp [State.nackTo]

@[simp] theorem State.sendSync_boot (s : State) (job slot sub phase : Nat) (dst : BitVec 17)  : (State.sendSync s job slot sub phase dst).boot = s.boot := by
  simp [State.sendSync]

@[simp] theorem State.syncNeighbours_boot (s : State) (job slot sub phase : Nat) (x : Slot) (skip : Option (BitVec 17))  : (State.syncNeighbours s job slot sub phase x skip).boot = s.boot := by
  unfold State.syncNeighbours
  repeat' (first | (simp [apply_ite State.boot, apply_ite Prod.fst, apply_ite Prod.snd]; done) | split | (refine (State.each_boot _ _ _ ?_).trans ?_ <;> intros) | simp [apply_ite State.boot, apply_ite Prod.fst, apply_ite Prod.snd])

@[simp] theorem State.sendColl_boot (s : State) (job stream : Nat) (opid : BitVec 32) (sub : Nat) (addr : Nat) (lines : List Line) (poison : List Bool) (dst : BitVec 17)  : (State.sendColl s job stream opid sub addr lines poison dst).boot = s.boot := by
  simp [State.sendColl]

@[simp] theorem State.streamIrq_boot (s : State) (i : Nat)  : (State.streamIrq s i).boot = s.boot := by
  simp [State.streamIrq]

@[simp] theorem State.writeRecord_boot (s : State) (i : Nat) (r : HeldRecord)  : (State.writeRecord s i r).boot = s.boot := by
  simp [State.writeRecord, apply_ite State.boot, apply_ite Prod.fst, apply_ite Prod.snd]

@[simp] theorem State.putRecord_boot (s : State) (i : Nat) (r : HeldRecord)  : (State.putRecord s i r).boot = s.boot := by
  simp [State.putRecord, apply_ite State.boot, apply_ite Prod.fst, apply_ite Prod.snd]

@[simp] theorem State.endCommand_boot (s : State) (i : Nat) (c : CmdRun) (r : HeldRecord)  : (State.endCommand s i c r).boot = s.boot := by
  simp [State.endCommand, apply_ite State.boot, apply_ite Prod.fst, apply_ite Prod.snd]

@[simp] theorem State.setDev_boot (s : State) (d : DevState)  : (State.setDev s d).boot = s.boot := by
  simp [State.setDev, apply_ite State.boot, apply_ite Prod.fst, apply_ite Prod.snd]

@[simp] theorem State.storeDump_boot (s : State) (d : DumpRec)  : (State.storeDump s d).boot = s.boot := by
  simp [State.storeDump]

@[simp] theorem State.copyDump_boot (s : State)  : (State.copyDump s).boot = s.boot := by
  unfold State.copyDump; (repeat' split) <;> simp [apply_ite State.boot, apply_ite Prod.fst, apply_ite Prod.snd]

@[simp] theorem State.dump_boot (s : State) (trigger cause : Nat)  : (State.dump s trigger cause).boot = s.boot := by
  simp [State.dump, apply_ite State.boot, apply_ite Prod.fst, apply_ite Prod.snd]

@[simp] theorem State.wakeCore_boot (s : State) (c : Nat)  : (State.wakeCore s c).boot = s.boot := by
  unfold State.wakeCore; (repeat' split) <;> simp [apply_ite State.boot, apply_ite Prod.fst, apply_ite Prod.snd]

@[simp] theorem State.beginWaiting_boot (s : State)  : (State.beginWaiting s).boot = s.boot := by
  unfold State.beginWaiting
  repeat' (first | (simp [apply_ite State.boot, apply_ite Prod.fst, apply_ite Prod.snd]; done) | split | (refine (State.each_boot _ _ _ ?_).trans ?_ <;> intros) | simp [apply_ite State.boot, apply_ite Prod.fst, apply_ite Prod.snd])

@[simp] theorem State.orphanBlock_boot (s : State) (b : Nat)  : (State.orphanBlock s b).boot = s.boot := by
  simp [State.orphanBlock, apply_ite State.boot, apply_ite Prod.fst, apply_ite Prod.snd]

@[simp] theorem State.orphanWaiters_boot (s : State) (n : Nat)  : (State.orphanWaiters s n).boot = s.boot := by
  simp [State.orphanWaiters, apply_ite State.boot, apply_ite Prod.fst, apply_ite Prod.snd]

@[simp] theorem State.drillFails_boot (s : State)  : (State.drillFails s).boot = s.boot := by
  simp [State.drillFails]

@[simp] theorem State.dropAssay_boot (s : State) (c : Nat) (a : AssayRec)  : (State.dropAssay s c a).boot = s.boot := by
  simp [State.dropAssay, apply_ite State.boot, apply_ite Prod.fst, apply_ite Prod.snd]

@[simp] theorem State.abandonFor_boot (s : State) (c j : Nat)  : (State.abandonFor s c j).boot = s.boot := by
  simp [State.abandonFor]

@[simp] theorem State.stopCore_boot (s : State) (c j : Nat)  : (State.stopCore s c j).boot = s.boot := by
  simp [State.stopCore, apply_ite State.boot, apply_ite Prod.fst, apply_ite Prod.snd]

@[simp] theorem State.abortColl_boot (s : State) (r : CollRun)  : (State.abortColl s r).boot = s.boot := by
  unfold State.abortColl
  repeat' (first | (simp [apply_ite State.boot, apply_ite Prod.fst, apply_ite Prod.snd]; done) | split | (refine (State.each_boot _ _ _ ?_).trans ?_ <;> intros) | simp [apply_ite State.boot, apply_ite Prod.fst, apply_ite Prod.snd])

@[simp] theorem State.orphan_boot (s : State) (j : Nat)  : (State.orphan s j).boot = s.boot := by
  simp [State.orphan, apply_ite State.boot, apply_ite Prod.fst, apply_ite Prod.snd]

@[simp] theorem State.escStopped_boot (s : State)  : (State.escStopped s).boot = s.boot := by
  unfold State.escStopped
  repeat' (first | (simp [apply_ite State.boot, apply_ite Prod.fst, apply_ite Prod.snd]; done) | split | (refine (State.each_boot _ _ _ ?_).trans ?_ <;> intros) | simp [apply_ite State.boot, apply_ite Prod.fst, apply_ite Prod.snd])

@[simp] theorem State.gatedStopped_boot (s : State)  : (State.gatedStopped s).boot = s.boot := by
  simp [State.gatedStopped, apply_ite State.boot, apply_ite Prod.fst, apply_ite Prod.snd]

@[simp] theorem State.stopCommand_boot (s : State) (i : Nat) (cause : BitVec 16) (c : CmdRun)  : (State.stopCommand s i cause c).boot = s.boot := by
  simp [State.stopCommand]

@[simp] theorem State.stopStream_boot (s : State) (i j : Nat) (cause : BitVec 16)  : (State.stopStream s i j cause).boot = s.boot := by
  simp [State.stopStream, apply_ite State.boot, apply_ite Prod.fst, apply_ite Prod.snd]

@[simp] theorem State.endWork_boot (s : State) (j : Nat)  : (State.endWork s j).boot = s.boot := by
  simp [State.endWork]

@[simp] theorem State.stopJobNow_boot (s : State) (j : Nat) (cause : BitVec 16)  : (State.stopJobNow s j cause).boot = s.boot := by
  simp [State.stopJobNow, apply_ite State.boot, apply_ite Prod.fst, apply_ite Prod.snd]

@[simp] theorem State.stopJob_boot (s : State) (j : Nat) (cause : BitVec 16)  : (State.stopJob s j cause).boot = s.boot := by
  simp [State.stopJob, apply_ite State.boot, apply_ite Prod.fst, apply_ite Prod.snd]

@[simp] theorem State.stopAll_boot (s : State) (cause : BitVec 16)  : (State.stopAll s cause).boot = s.boot := by
  simp [State.stopAll]

@[simp] theorem State.escStop_boot (s : State) (cause : BitVec 16)  : (State.escStop s cause).boot = s.boot := by
  simp [State.escStop, apply_ite State.boot, apply_ite Prod.fst, apply_ite Prod.snd]

@[simp] theorem State.record_boot (s : State) (r : LedgerRec)  : (State.record s r).boot = s.boot := by
  simp [State.record, apply_ite State.boot, apply_ite Prod.fst, apply_ite Prod.snd]

theorem foldState_boot {α : Type} (f : State × Bool → α → State × Bool) (hf : ∀ x a, (f x a).1.boot = x.1.boot) (l : List α) (x : State × Bool) :
    (l.foldl f x).1.boot = x.1.boot := by
  induction l generalizing x with
  | nil => rfl
  | cons a r ih => exact (ih _).trans (hf _ _)

@[simp] theorem State.recordThen_boot (s : State) (l : List LedgerRec) (f : State → State) (hf : ∀ s : State, (f s).boot = s.boot) : (s.recordThen l f).boot = s.boot := by
  unfold State.recordThen
  have h : ∀ x : State × Bool, (l.foldl (fun (acc : State × Bool) r => if acc.2 then acc else acc.1.ledgerAdd r) x).1.boot = x.1.boot :=
    foldState_boot _ (fun x a => by split <;> simp) l
  dsimp only
  split <;> simp [hf, h]

@[simp] theorem State.consume_boot (s : State) (line unit stream job : Nat) (drill : Bool)  : (State.consume s line unit stream job drill).boot = s.boot := by
  simp [State.consume, apply_ite State.boot, apply_ite Prod.fst, apply_ite Prod.snd]

@[simp] theorem State.enterFault_boot (s : State) (cause : Nat)  : (State.enterFault s cause).boot = s.boot := by
  simp [State.enterFault, apply_ite State.boot, apply_ite Prod.fst, apply_ite Prod.snd]

@[simp] theorem State.inDoubt_boot (s : State) (r : Request)  : (State.inDoubt s r).boot = s.boot := by
  simp [State.inDoubt, apply_ite State.boot, apply_ite Prod.fst, apply_ite Prod.snd]

@[simp] theorem State.forgetRequests_boot (s : State) (f : Request → Bool)  : (State.forgetRequests s f).boot = s.boot := by
  simp [State.forgetRequests]

@[simp] theorem State.modRun_boot (s : State) (c e : Nat) (seq : BitVec 32) (f : DmaRun → DmaRun)  : (State.modRun s c e seq f).boot = s.boot := by
  simp [State.modRun]

@[simp] theorem State.rackAbandon_boot (s : State)  : (State.rackAbandon s).boot = s.boot := by
  simp [State.rackAbandon, apply_ite State.boot, apply_ite Prod.fst, apply_ite Prod.snd]

@[simp] theorem State.failRequest_boot (s : State) (r : Request) (status : Nat)  : (State.failRequest s r status).boot = s.boot := by
  unfold State.failRequest; (repeat' split) <;> simp [apply_ite State.boot, apply_ite Prod.fst, apply_ite Prod.snd]

@[simp] theorem State.takeCmd_boot (s : State) (i : Nat) (n : NextCmd)  : (State.takeCmd s i n).boot = s.boot := by
  simp [State.takeCmd, apply_ite State.boot, apply_ite Prod.fst, apply_ite Prod.snd]

@[simp] theorem State.touchSpan_boot (s : State) (x : Nat × Nat) : (State.touchSpan s x).boot = s.boot := by
  simp [State.touchSpan, apply_ite State.boot]

@[simp] theorem State.touchRecord_boot (s : State) (b : List Byte) : (State.touchRecord s b).boot = s.boot := by
  unfold State.touchRecord; split <;> simp

@[simp] theorem State.startCmd_boot (s : State) (i : Nat) (pick : List Byte → Bool) (used : List (Nat × Nat)) (plan : State → Nat → List Byte → NextCmd → CmdPlan)
    (hp : ∀ s j b n t, ((plan s j b n).rejected t).boot = t.boot) (he : ∀ s j b n t, ((plan s j b n).eff t).1.boot = t.boot) :
    (s.startCmd i pick used plan).boot = s.boot := by
  unfold State.startCmd
  split
  · rfl
  · split
    · rfl
    · dsimp only
      split
      · simp
      · split <;> simp [hp, he, apply_ite State.boot]

@[simp] theorem State.stopSiblings_boot (s : State) (c : Nat)  : (State.stopSiblings s c).boot = s.boot := by
  simp [State.stopSiblings, apply_ite State.boot, apply_ite Prod.fst, apply_ite Prod.snd]

@[simp] theorem State.coreFault_boot (s : State) (c code : Nat) (word : BitVec 128) (detail : Nat)  : (State.coreFault s c code word detail).boot = s.boot := by
  simp [State.coreFault]

@[simp] theorem State.coreConsume_boot (s : State) (c line : Nat)  : (State.coreConsume s c line).boot = s.boot := by
  simp [State.coreConsume]

@[simp] theorem State.fetch_boot (s : State) (c : Nat)  : (State.fetch s c).boot = s.boot := by
  simp [State.fetch, apply_ite State.boot, apply_ite Prod.fst, apply_ite Prod.snd]

@[simp] theorem State.issue_boot (s : State) (c : Nat) (word : BitVec 128) (i : Issue) (eff : State → State) (heff : ∀ s : State, (eff s).boot = s.boot) : (State.issue s c word i eff).boot = s.boot := by
  unfold State.issue; (repeat' split) <;> simp [apply_ite State.boot, apply_ite Prod.fst, apply_ite Prod.snd, heff]

@[simp] theorem coreStep_boot (c : Nat) (f : Core → Core) (s : State)  : (coreStep c f s).boot = s.boot := by
  simp [coreStep]

@[simp] theorem State.effect_boot (s : State) (c : Nat) (rd : Option Nat) (eff : State → State × Word) (pz : Bool) (heff : ∀ s : State, (eff s).1.boot = s.boot) : (State.effect s c rd eff pz).boot = s.boot := by
  unfold State.effect; (repeat' split) <;> simp [apply_ite State.boot, apply_ite Prod.fst, apply_ite Prod.snd, heff]

@[simp] theorem State.scsr_boot (s : State) (c : Nat) (w : GenFields) (clear : Bool)  : (State.scsr s c w clear).boot = s.boot := by
  simp [State.scsr, apply_ite State.boot, apply_ite Prod.fst, apply_ite Prod.snd]

@[simp] theorem lanewise_boot (c w d : Nat) (p : BitVec 512) (src : List Nat) (op : List Nat → Nat) (s : State)  : (lanewise c w d p src op s).boot = s.boot := by
  simp [lanewise]

@[simp] theorem State.residueEvent_boot (s : State) (c job : Nat) (w : ResidueSite)  : (State.residueEvent s c job w).boot = s.boot := by
  simp [State.residueEvent, apply_ite State.boot, apply_ite Prod.fst, apply_ite Prod.snd]

@[simp] theorem State.blockOverflow_boot (s : State) (q job n : Nat)  : (State.blockOverflow s q job n).boot = s.boot := by
  simp [State.blockOverflow, apply_ite State.boot, apply_ite Prod.fst, apply_ite Prod.snd]

@[simp] theorem State.vscatter_boot (s : State) (c : Nat) (w : GenFields) (add : Bool)  : (State.vscatter s c w add).boot = s.boot := by
  simp [State.vscatter]

@[simp] theorem State.openAssay_boot (s : State) (c : Nat) (t : TileRec)  : (State.openAssay s c t).boot = s.boot := by
  simp [State.openAssay]

@[simp] theorem State.modAssay_boot (s : State) (c seq : Nat) (f : AssayRec → AssayRec)  : (State.modAssay s c seq f).boot = s.boot := by
  simp [State.modAssay, apply_ite State.boot, apply_ite Prod.fst, apply_ite Prod.snd]

@[simp] theorem State.claimAssay_boot (s : State) (c seq : Nat) (block : Option EpiRec)  : (State.claimAssay s c seq block).boot = s.boot := by
  unfold State.claimAssay; (repeat' split) <;> simp [apply_ite State.boot, apply_ite Prod.fst, apply_ite Prod.snd]

@[simp] theorem State.haltClaims_boot (s : State) (c : Nat)  : (State.haltClaims s c).boot = s.boot := by
  simp [State.haltClaims]

@[simp] theorem State.arrayResidue_boot (s : State) (c b : Nat) (t : TileRec)  : (State.arrayResidue s c b t).boot = s.boot := by
  simp [State.arrayResidue]

@[simp] theorem State.epiReport_boot (s : State) (c : Nat) (t : TileRec) (o : EpiOut)  : (State.epiReport s c t o).boot = s.boot := by
  simp [State.epiReport, apply_ite State.boot, apply_ite Prod.fst, apply_ite Prod.snd]

@[simp] theorem State.drainFolds_boot (s : State) (c f0 f1 : Nat)  : (State.drainFolds s c f0 f1).boot = s.boot := by
  unfold State.drainFolds; (repeat' split) <;> simp [apply_ite State.boot, apply_ite Prod.fst, apply_ite Prod.snd]

@[simp] theorem State.chargeMismatch_boot (s : State) (c : Nat)  : (State.chargeMismatch s c).boot = s.boot := by
  simp [State.chargeMismatch]

@[simp] theorem State.lateReason_boot (s : State) (q code : Nat)  : (State.lateReason s q code).boot = s.boot := by
  simp [State.lateReason, apply_ite State.boot, apply_ite Prod.fst, apply_ite Prod.snd]

@[simp] theorem State.assayMismatch_boot (s : State) (c origin : Nat) (t : TileRec)  : (State.assayMismatch s c origin t).boot = s.boot := by
  simp [State.assayMismatch, apply_ite State.boot, apply_ite Prod.fst, apply_ite Prod.snd]

@[simp] theorem State.assayJudge_boot (s : State) (c : Nat) (a : AssayRec) (own origin : Word)  : (State.assayJudge s c a own origin).boot = s.boot := by
  simp [State.assayJudge, apply_ite State.boot, apply_ite Prod.fst, apply_ite Prod.snd]

@[simp] theorem State.assayMeets_boot (s : State) (c seq : Nat) (origin : Word)  : (State.assayMeets s c seq origin).boot = s.boot := by
  unfold State.assayMeets
  refine State.each_boot _ _ _ (fun s i => ?_)
  split
  · split
    · simp
    · rfl
  · rfl

@[simp] theorem State.doorDiscard_boot (s : State)  : (State.doorDiscard s).boot = s.boot := by
  simp [State.doorDiscard]

@[simp] theorem State.tailWrite_boot (s : State) (i : Nat) (v : BitVec 32)  : (State.tailWrite s i v).boot = s.boot := by
  simp [State.tailWrite, apply_ite State.boot, apply_ite Prod.fst, apply_ite Prod.snd]

@[simp] theorem State.releaseHeld_boot (s : State) (i : Nat)  : (State.releaseHeld s i).boot = s.boot := by
  simp [State.releaseHeld]

@[simp] theorem State.compHeadWrite_boot (s : State) (i : Nat) (v : BitVec 32)  : (State.compHeadWrite s i v).boot = s.boot := by
  simp [State.compHeadWrite, apply_ite State.boot, apply_ite Prod.fst, apply_ite Prod.snd]

@[simp] theorem State.control_boot (s : State) (i : Nat) (f : Stream → Stream)  : (State.control s i f).boot = s.boot := by
  simp [State.control, apply_ite State.boot, apply_ite Prod.fst, apply_ite Prod.snd]

@[simp] theorem State.retry_boot (s : State) (i : Nat)  : (State.retry s i).boot = s.boot := by
  simp [State.retry]

@[simp] theorem State.skip_boot (s : State) (i : Nat)  : (State.skip s i).boot = s.boot := by
  simp [State.skip]

@[simp] theorem State.flush_boot (s : State) (i : Nat)  : (State.flush s i).boot = s.boot := by
  simp [State.flush]

@[simp] theorem State.streamConfig_boot (s : State) (i : Nat) (cfg : List Byte)  : (State.streamConfig s i cfg).1.boot = s.boot := by
  simp [State.streamConfig, apply_ite State.boot, apply_ite Prod.fst, apply_ite Prod.snd]

@[simp] theorem State.streamEnable_boot (s : State) (i : Nat)  : (State.streamEnable s i).1.boot = s.boot := by
  simp [State.streamEnable, apply_ite State.boot, apply_ite Prod.fst, apply_ite Prod.snd]

@[simp] theorem State.freeOwned_boot (s : State) (j : Nat)  : (State.freeOwned s j).boot = s.boot := by
  simp [State.freeOwned, apply_ite State.boot, apply_ite Prod.fst, apply_ite Prod.snd]

@[simp] theorem State.streamDisable_boot (s : State) (i : Nat)  : (State.streamDisable s i).1.boot = s.boot := by
  simp [State.streamDisable, apply_ite State.boot, apply_ite Prod.fst, apply_ite Prod.snd]

@[simp] theorem State.copyOut_boot (s : State) (host dev n : Nat)  : (State.copyOut s host dev n).boot = s.boot := by
  simp [State.copyOut]

@[simp] theorem State.hostLine_boot (s : State) (ln : Nat) (d : Line) (mask : BitVec 64) (ep : Bool)  : (State.hostLine s ln d mask ep).1.boot = s.boot := by
  simp [State.hostLine, apply_ite State.boot, apply_ite Prod.fst, apply_ite Prod.snd]

@[simp] theorem State.hostLines_boot (s : State) (l : List Nat) (f : State → Nat → State × Bool) (hf : ∀ (s : State) k, (f s k).1.boot = s.boot) :
    (s.hostLines l f).boot = s.boot := by
  unfold State.hostLines
  exact foldState_boot _ (fun x a => by split <;> simp [hf]) l _

@[simp] theorem State.copyIn_boot (s : State) (host dev n : Nat)  : (State.copyIn s host dev n).boot = s.boot := by
  simp [State.copyIn]

@[simp] theorem State.jobRelease_boot (s : State) (j : Nat)  : (State.jobRelease s j).boot = s.boot := by
  simp [State.jobRelease, apply_ite State.boot, apply_ite Prod.fst, apply_ite Prod.snd]

@[simp] theorem State.sendCard_boot (s : State) (p : Nat)  : (State.sendCard s p).boot = s.boot := by
  simp [State.sendCard]

@[simp] theorem State.word_boot (s : State) (p kind value : Nat)  : (State.word s p kind value).boot = s.boot := by
  simp [State.word]

@[simp] theorem State.freeBuffer_boot (s : State) (r v : Nat)  : (State.freeBuffer s r v).boot = s.boot := by
  simp [State.freeBuffer, apply_ite State.boot, apply_ite Prod.fst, apply_ite Prod.snd]

@[simp] theorem State.answerNack_boot (s : State) (k : Packet) (status : Nat)  : (State.answerNack s k status).boot = s.boot := by
  simp [State.answerNack]

@[simp] theorem State.loseRetry_boot (s : State) (p : Nat)  : (State.loseRetry s p).boot = s.boot := by
  simp [State.loseRetry, apply_ite State.boot, apply_ite Prod.fst, apply_ite Prod.snd]

@[simp] theorem State.holdBack_boot (s : State) (p : Nat)  : (State.holdBack s p).boot = s.boot := by
  simp [State.holdBack, apply_ite State.boot, apply_ite Prod.fst, apply_ite Prod.snd]

@[simp] theorem State.loseLink_boot (s : State) (p : Nat)  : (State.loseLink s p).boot = s.boot := by
  simp [State.loseLink]

@[simp] theorem State.portDown_boot (s : State) (p : Nat)  : (State.portDown s p).boot = s.boot := by
  simp [State.portDown, apply_ite State.boot, apply_ite Prod.fst, apply_ite Prod.snd]

@[simp] theorem State.portRetrain_boot (s : State) (p : Nat)  : (State.portRetrain s p).boot = s.boot := by
  simp [State.portRetrain, apply_ite State.boot, apply_ite Prod.fst, apply_ite Prod.snd]

@[simp] theorem State.portMatched_boot (s : State) (p : Nat)  : (State.portMatched s p).boot = s.boot := by
  simp [State.portMatched, apply_ite State.boot, apply_ite Prod.fst, apply_ite Prod.snd]

@[simp] theorem State.compareCard_boot (s : State) (p : Nat) (c : List Byte)  : (State.compareCard s p c).boot = s.boot := by
  unfold State.compareCard; (repeat' split) <;> simp [apply_ite State.boot, apply_ite Prod.fst, apply_ite Prod.snd]

@[simp] theorem State.coordWrite_boot (s : State) (v : Nat)  : (State.coordWrite s v).1.boot = s.boot := by
  simp [State.coordWrite, apply_ite State.boot, apply_ite Prod.fst, apply_ite Prod.snd]

@[simp] theorem State.laneFails_boot (s : State) (p lane : Nat)  : (State.laneFails s p lane).boot = s.boot := by
  simp [State.laneFails, apply_ite State.boot, apply_ite Prod.fst, apply_ite Prod.snd]

@[simp] theorem State.creditAudit_boot (s : State) (p : Nat)  : (State.creditAudit s p).boot = s.boot := by
  simp [State.creditAudit, apply_ite State.boot, apply_ite Prod.fst, apply_ite Prod.snd]

@[simp] theorem State.freshReport_boot (s : State) (p : Nat)  : (State.freshReport s p).boot = s.boot := by
  simp [State.freshReport]

@[simp] theorem State.d2dLost_boot (s : State) (l : Nat)  : (State.d2dLost s l).boot = s.boot := by
  simp [State.d2dLost, apply_ite State.boot, apply_ite Prod.fst, apply_ite Prod.snd]

@[simp] theorem State.bufferLine_boot (s : State) (k ln : Nat)  : (State.bufferLine s k ln).boot = s.boot := by
  simp [State.bufferLine, apply_ite State.boot, apply_ite Prod.fst, apply_ite Prod.snd]

@[simp] theorem State.adder_boot (s : State) (op mask ln : Nat) (x cmp : Line) (poison ordered : Bool)  : (State.adder s op mask ln x cmp poison ordered).1.boot = s.boot := by
  unfold State.adder
  repeat' (first | (simp [apply_ite State.boot, apply_ite Prod.fst, apply_ite Prod.snd]; done) | split | (refine (State.each_boot _ _ _ ?_).trans ?_ <;> intros) | simp [apply_ite State.boot, apply_ite Prod.fst, apply_ite Prod.snd])

@[simp] theorem State.tunBytes_boot (s : State) (a : Nat) (b : List Byte) (bad : Nat → Bool) (cls : Nat)  : (State.tunBytes s a b bad cls).boot = s.boot := by
  simp [State.tunBytes, apply_ite State.boot, apply_ite Prod.fst, apply_ite Prod.snd]

@[simp] theorem State.applyInput_boot (s : State) (r : LedgerRec)  : (State.applyInput s r).boot = s.boot := by
  unfold State.applyInput; (repeat' split) <;> simp [apply_ite State.boot, apply_ite Prod.fst, apply_ite Prod.snd]

@[simp] theorem State.touchList_boot (s : State)  : (State.touchList s).boot = s.boot := by
  unfold State.touchList; (repeat' split) <;> simp [apply_ite State.boot, apply_ite Prod.fst, apply_ite Prod.snd]

@[simp] theorem State.sendLines_boot (s : State) (dst : BitVec 17) (unit : UnitId) (a : Nat) (l : List (Line × Bool))  : (State.sendLines s dst unit a l).boot = s.boot := by
  simp [State.sendLines]

@[simp] theorem State.rackAdvance_boot (s : State)  : (State.rackAdvance s).boot = s.boot := by
  simp [State.rackAdvance, apply_ite State.boot, apply_ite Prod.fst, apply_ite Prod.snd]

@[simp] theorem State.rackSend_boot (s : State) (b : Nat) (lines : List (Line × Bool))  : (State.rackSend s b lines).boot = s.boot := by
  unfold State.rackSend
  repeat' (first | (simp [apply_ite State.boot, apply_ite Prod.fst, apply_ite Prod.snd]; done) | split | (refine (State.each_boot _ _ _ ?_).trans ?_ <;> intros) | simp [apply_ite State.boot, apply_ite Prod.fst, apply_ite Prod.snd])

@[simp] theorem State.startEpoch_boot (s : State) (step : Word)  : (State.startEpoch s step).boot = s.boot := by
  unfold State.startEpoch
  dsimp only
  split
  · rfl
  · split <;> simp

@[simp] theorem State.cellarPut_boot (s : State) (a : Nat) (d : Line) (poison : Bool)  : (State.cellarPut s a d poison).boot = s.boot := by
  unfold State.cellarPut; (repeat' split) <;> simp [apply_ite State.boot, apply_ite Prod.fst, apply_ite Prod.snd]

@[simp] theorem State.spargeTraffic_boot (s : State)  : (State.spargeTraffic s).boot = s.boot := by
  simp [State.spargeTraffic, apply_ite State.boot, apply_ite Prod.fst, apply_ite Prod.snd]

@[simp] theorem State.arrive_boot (s : State) (via : Option (Fin 12)) (p : Packet)  : (State.arrive s via p).boot = s.boot := by
  unfold State.arrive; (repeat' split) <;> simp [apply_ite State.boot, apply_ite Prod.fst, apply_ite Prod.snd]

@[simp] theorem State.requestIn_boot (s : State) (via : Option (Fin 12)) (p : Packet) (mine : Bool) (f : State → Packet → State) (hf : ∀ (s : State) (x0 : Packet), (f s x0).boot = s.boot) : (State.requestIn s via p mine f).boot = s.boot := by
  simp [State.requestIn, apply_ite State.boot, apply_ite Prod.fst, apply_ite Prod.snd, hf]

@[simp] theorem State.responseIn_boot (s : State) (via : Option (Fin 12)) (p : Packet) (mine : Bool) (kind : Option Nat) (f : State → Packet → Request → State) (hf : ∀ (s : State) (x0 : Packet) (x1 : Request), (f s x0 x1).boot = s.boot) : (State.responseIn s via p mine kind f).boot = s.boot := by
  unfold State.responseIn
  repeat' (first | (simp [apply_ite State.boot, apply_ite Prod.fst, apply_ite Prod.snd, hf]; done) | split | (refine (State.each_boot _ _ _ ?_).trans ?_ <;> intros) | simp [apply_ite State.boot, apply_ite Prod.fst, apply_ite Prod.snd, hf])

@[simp] theorem State.deadEnd_boot (s : State) (r : Nat) (p : Packet) (status : Nat)  : (State.deadEnd s r p status).boot = s.boot := by
  simp [State.deadEnd, apply_ite State.boot, apply_ite Prod.fst, apply_ite Prod.snd]

@[simp] theorem State.holdIn_boot (s : State) (p : Packet)  : (State.holdIn s p).boot = s.boot := by
  simp [State.holdIn]

@[simp] theorem State.accessIn_boot (s : State) (c : Instr) (lines : List Nat) (need : Nat → Option Nat) (f : State → State) (hf : ∀ s : State, (f s).boot = s.boot) : (State.accessIn s c lines need f).boot = s.boot := by
  simp [State.accessIn, apply_ite State.boot, apply_ite Prod.fst, apply_ite Prod.snd, hf]

@[simp] theorem State.finish_boot (s : State) (r : Request)  : (State.finish s r).boot = s.boot := by
  simp [State.finish]

@[simp] theorem State.dmaAnswered_boot (s : State) (c e : Nat) (seq : BitVec 32)  : (State.dmaAnswered s c e seq).boot = s.boot := by
  simp [State.dmaAnswered]

@[simp] theorem State.deliver_boot (s : State) (r : Request) (off : Nat) (lines : List (Line × Bool))  : (State.deliver s r off lines).boot = s.boot := by
  unfold State.deliver; (repeat' split) <;> simp [apply_ite State.boot, apply_ite Prod.fst, apply_ite Prod.snd]

@[simp] theorem State.syncTo_boot (s : State) (i sub phase part : Nat)  : (State.syncTo s i sub phase part).boot = s.boot := by
  unfold State.syncTo
  repeat' (first | (simp [apply_ite State.boot, apply_ite Prod.fst, apply_ite Prod.snd]; done) | split | (refine (State.each_boot _ _ _ ?_).trans ?_ <;> intros) | simp [apply_ite State.boot, apply_ite Prod.fst, apply_ite Prod.snd])

@[simp] theorem State.slotComplete_boot (s : State) (i : Nat)  : (State.slotComplete s i).boot = s.boot := by
  simp [State.slotComplete]

@[simp] theorem State.slotRelease_boot (s : State) (i : Nat)  : (State.slotRelease s i).boot = s.boot := by
  simp [State.slotRelease, apply_ite State.boot, apply_ite Prod.fst, apply_ite Prod.snd]

@[simp] theorem State.slotStep_boot (s : State) (i : Nat)  : (State.slotStep s i).boot = s.boot := by
  simp [State.slotStep, apply_ite State.boot, apply_ite Prod.fst, apply_ite Prod.snd]

@[simp] theorem State.slotTry_boot (s : State) (i : Nat)  : (State.slotTry s i).boot = s.boot := by
  simp [State.slotTry]

@[simp] theorem State.slotArrive_boot (s : State) (i c : Nat)  : (State.slotArrive s i c).boot = s.boot := by
  simp [State.slotArrive]

@[simp] theorem State.slotOrphaned_boot (s : State) (i : Nat) (source : BitVec 17)  : (State.slotOrphaned s i source).boot = s.boot := by
  simp [State.slotOrphaned]

@[simp] theorem State.syncIn_boot (s : State) (via : Option (Fin 12)) (p : Packet) (mine : Bool) (f : State → Packet → Nat → Option State)
    (hf : ∀ s q n t, f s q n = some t → t.boot = s.boot) : (s.syncIn via p mine f).boot = s.boot := by
  unfold State.syncIn
  refine State.requestIn_boot _ _ _ _ _ (fun s q => ?_)
  dsimp only
  split
  · simp
  · split
    · simp
    · split
      · simp
      · split
        · next h => simp [hf _ _ _ _ h]
        · simp

@[simp] theorem State.assignBlock_boot (s : State) (b j : Nat)  : (State.assignBlock s b j).boot = s.boot := by
  simp [State.assignBlock]

@[simp] theorem State.freeBlock_boot (s : State) (b : Nat)  : (State.freeBlock s b).boot = s.boot := by
  simp [State.freeBlock]

@[simp] theorem State.freeSlot_boot (s : State) (n job : Nat)  : (State.freeSlot s n job).boot = s.boot := by
  simp [State.freeSlot, apply_ite State.boot, apply_ite Prod.fst, apply_ite Prod.snd]

@[simp] theorem State.modCollRun_boot (s : State) (job : Nat) (opid : BitVec 32) (f : CollRun → CollRun)  : (State.modCollRun s job opid f).boot = s.boot := by
  simp [State.modCollRun]

@[simp] theorem State.setGrant_boot (s : State) (opid : BitVec 32) (e : BitVec 17) (n : Nat)  : (State.setGrant s opid e n).boot = s.boot := by
  simp [State.setGrant]

@[simp] theorem State.ringSend_boot (s : State) (job : Nat) (opid : BitVec 32) (plus : Bool)  : (State.ringSend s job opid plus).boot = s.boot := by
  unfold State.ringSend; (repeat' split) <;> simp [apply_ite State.boot, apply_ite Prod.fst, apply_ite Prod.snd]

@[simp] theorem State.ringGrant_boot (s : State) (job : Nat) (opid : BitVec 32) (plus : Bool) (z : Nat)  : (State.ringGrant s job opid plus z).boot = s.boot := by
  induction z generalizing s with
  | zero => simp [State.ringGrant]
  | succ k ih =>
    unfold State.ringGrant
    repeat' (first | (simp [ih, apply_ite State.boot, apply_ite Prod.fst, apply_ite Prod.snd]; done) | split | simp [ih])

@[simp] theorem State.collReport_boot (s : State) (d : CollDesc) (inf : Bool)  : (State.collReport s d inf).boot = s.boot := by
  simp [State.collReport]

@[simp] theorem State.collWrite_boot (s : State) (a w : Nat) (b : List Byte) (poisons : List Bool) (cls : Nat)  : (State.collWrite s a w b poisons cls).boot = s.boot := by
  simp [State.collWrite]

@[simp] theorem State.collOutput_boot (s : State) (r : CollRun)  : (State.collOutput s r).boot = s.boot := by
  unfold State.collOutput
  repeat' (first | (simp [apply_ite State.boot, apply_ite Prod.fst, apply_ite Prod.snd]; done) | split | (refine (State.each_boot _ _ _ ?_).trans ?_ <;> intros) | simp [apply_ite State.boot, apply_ite Prod.fst, apply_ite Prod.snd])

@[simp] theorem State.ringNext_boot (s : State) (r : CollRun)  : (State.ringNext s r).boot = s.boot := by
  unfold State.ringNext; (repeat' split) <;> simp [apply_ite State.boot, apply_ite Prod.fst, apply_ite Prod.snd]

@[simp] theorem State.ringAdvance_boot (s : State) (job : Nat) (opid : BitVec 32) (z : Nat)  : (State.ringAdvance s job opid z).boot = s.boot := by
  induction z generalizing s with
  | zero => simp [State.ringAdvance]
  | succ k ih =>
    unfold State.ringAdvance
    repeat' (first | (simp [ih, apply_ite State.boot, apply_ite Prod.fst, apply_ite Prod.snd]; done) | split | simp [ih])

@[simp] theorem State.collStart_boot (s : State) (op : Nat) (opid : BitVec 32)  : (State.collStart s op opid).boot = s.boot := by
  unfold State.collStart; (repeat' split) <;> simp [apply_ite State.boot, apply_ite Prod.fst, apply_ite Prod.snd]

@[simp] theorem State.collLand_boot (s : State) (r : CollRun) (plus : Bool) (off : Nat) (lines : List (Line × Bool))  : (State.collLand s r plus off lines).boot = s.boot := by
  unfold State.collLand; (repeat' split) <;> simp [apply_ite State.boot, apply_ite Prod.fst, apply_ite Prod.snd]

@[simp] theorem State.takeInput_boot (s : State) (r : LedgerRec)  : (State.takeInput s r).boot = s.boot := by
  unfold State.takeInput; (repeat' split) <;> simp [apply_ite State.boot, apply_ite Prod.fst, apply_ite Prod.snd]

@[simp] theorem State.applyInputs_boot (s : State) (z : Nat)  : (State.applyInputs s z).boot = s.boot := by
  induction z generalizing s with
  | zero => rfl
  | succ k ih =>
    unfold State.applyInputs
    repeat' (first | (simp [ih]; done) | split)

@[simp] theorem State.settle_boot (s : State)  : (State.settle s).boot = s.boot := by
  simp [State.settle, apply_ite State.boot, apply_ite Prod.fst, apply_ite Prod.snd]

@[simp] theorem State.collIn_boot (s : State) (via : Option (Fin 12)) (p : Packet) (mine : Bool) (f : State → Packet → State) (hf : ∀ (s : State) (x0 : Packet), (f s x0).boot = s.boot) : (State.collIn s via p mine f).boot = s.boot := by
  simp [State.collIn, apply_ite State.boot, apply_ite Prod.fst, apply_ite Prod.snd, hf]

@[simp] theorem State.collDrop_boot (s : State) (d : CollDesc)  : (State.collDrop s d).boot = s.boot := by
  simp [State.collDrop]

@[simp] theorem State.collResume_boot (s : State) (opid : BitVec 32)  : (State.collResume s opid).boot = s.boot := by
  simp [State.collResume]

@[simp] theorem State.kilnAccept_boot (s : State) (i job : Nat) (n : NextCmd) (r h : List Byte)  : (State.kilnAccept s i job n r h).boot = s.boot := by
  simp [State.kilnAccept, apply_ite State.boot, apply_ite Prod.fst, apply_ite Prod.snd]

@[simp] theorem State.kilnEnd_boot (s : State) (k id : Nat)  : (State.kilnEnd s k id).boot = s.boot := by
  simp [State.kilnEnd]

@[simp] theorem State.undoSpan_boot (s : State) (last fuel ln : Nat) : (s.undoSpan last fuel ln).1.boot = s.boot := by
  induction fuel generalizing s ln with
  | zero => rfl
  | succ k ih =>
    unfold State.undoSpan
    dsimp only
    split
    · rfl
    · split
      · simp
      · exact (ih _ _).trans (by simp)

@[simp] theorem undoFirst_boot (p : KilnPart) (x : State × Bool) (ln : Nat) : (undoFirst p x ln).1.boot = x.1.boot := by
  unfold undoFirst
  simp [apply_ite Prod.fst, apply_ite State.boot]

@[simp] theorem State.kilnOver_boot (s : State) (p : KilnPart) (refused : Bool)  : (State.kilnOver s p refused).boot = s.boot := by
  simp [State.kilnOver, apply_ite State.boot, apply_ite Prod.fst, apply_ite Prod.snd]

@[simp] theorem State.ratioAdd_boot (s : State) (p : KilnPart) (l : List (FVal × FVal))  : (State.ratioAdd s p l).boot = s.boot := by
  simp [State.ratioAdd, apply_ite State.boot, apply_ite Prod.fst, apply_ite Prod.snd]

@[simp] theorem State.kilnStore_boot (s : State) (outs : List ((Nat × Nat) × List Byte)) (lns : List Nat)  : (State.kilnStore s outs lns).boot = s.boot := by
  simp [State.kilnStore]

@[simp] theorem State.kilnShadow_boot (s : State) (p : KilnPart) (lo n : Nat) (wn : List Byte) (overflows : Nat)  : (State.kilnShadow s p lo n wn overflows).boot = s.boot := by
  simp [State.kilnShadow, apply_ite State.boot, apply_ite Prod.fst, apply_ite Prod.snd]

@[simp] theorem State.kilnTally_boot (s : State) (k : Nat) (es : List (Option ElemOut))  : (State.kilnTally s k es).boot = s.boot := by
  simp [State.kilnTally, apply_ite State.boot, apply_ite Prod.fst, apply_ite Prod.snd]

@[simp] theorem State.kilnGroup_boot (s : State) (p : KilnPart) (c : Option FVal) (lo n : Nat) : (s.kilnGroup p c lo n).1.boot = s.boot := by
  have h : ∀ (l : List Nat) (x : State × Bool), (l.foldl (fun x ln => undoFirst p x ln) x).1.boot = x.1.boot := fun l x => foldState_boot _ (by simp) l x
  unfold State.kilnGroup
  simp only [apply_ite Prod.fst, apply_ite State.boot, State.ratioAdd_boot, State.kilnTally_boot, State.kilnShadow_boot, State.kilnStore_boot, h, ite_self]

@[simp] theorem State.kilnGroups_boot (s : State) (p : KilnPart) (f : State → Nat → Nat → State × Bool) (z : List Nat) (hf : ∀ (s : State) (x0 : Nat) (x1 : Nat), (f s x0 x1).1.boot = s.boot) : (State.kilnGroups s p f z).1.boot = s.boot := by
  induction z generalizing s with
  | nil => rfl
  | cons g r ih =>
    unfold State.kilnGroups
    dsimp only
    repeat' (first | (simp [ih, hf, apply_ite State.boot, apply_ite Prod.fst, apply_ite Prod.snd]; done) | split)

@[simp] theorem State.normGroup_boot (s : State) (p : KilnPart) (lo n : Nat)  : (State.normGroup s p lo n).1.boot = s.boot := by
  simp [State.normGroup]

@[simp] theorem State.dropWork_boot (s : State) (j : Nat)  : (State.dropWork s j).boot = s.boot := by
  simp [State.dropWork]

@[simp] theorem State.beginRun_boot (s : State)  : (State.beginRun s).boot = s.boot := by
  simp [State.beginRun]

@[simp] theorem State.runAgain_boot (s : State)  : (State.runAgain s).boot = s.boot := by
  simp [State.runAgain]

@[simp] theorem State.rollBack_boot (s : State)  : (State.rollBack s).boot = s.boot := by
  simp [State.rollBack]

@[simp] theorem State.takeSnap_boot (s : State) (b : List Byte)  : (State.takeSnap s b).boot = s.boot := by
  simp [State.takeSnap, apply_ite State.boot, apply_ite Prod.fst, apply_ite Prod.snd]

@[simp] theorem State.addReason_boot (s : State) (c : Nat)  : (State.addReason s c).boot = s.boot := by
  simp [State.addReason]

@[simp] theorem State.boundTest_boot (s : State)  : (State.boundTest s).boot = s.boot := by
  unfold State.boundTest
  repeat' (first | (simp [apply_ite State.boot, apply_ite Prod.fst, apply_ite Prod.snd]; done) | split | (refine (State.each_boot _ _ _ ?_).trans ?_ <;> intros) | simp [apply_ite State.boot, apply_ite Prod.fst, apply_ite Prod.snd])

@[simp] theorem State.scanQuarter_boot (s : State) (q : Nat)  : (State.scanQuarter s q).boot = s.boot := by
  simp [State.scanQuarter, apply_ite State.boot, apply_ite Prod.fst, apply_ite Prod.snd]

@[simp] theorem State.sendFp_boot (s : State)  : (State.sendFp s).boot = s.boot := by
  simp [State.sendFp, apply_ite State.boot, apply_ite Prod.fst, apply_ite Prod.snd]

@[simp] theorem State.castVote_boot (s : State) (revoke fail : Bool)  : (State.castVote s revoke fail).boot = s.boot := by
  simp [State.castVote, apply_ite State.boot, apply_ite Prod.fst, apply_ite Prod.snd]

@[simp] theorem State.failStep_boot (s : State) (code : BitVec 16)  : (State.failStep s code).boot = s.boot := by
  simp [State.failStep]

@[simp] theorem State.toReplay_boot (s : State) (isLocal : Bool)  : (State.toReplay s isLocal).boot = s.boot := by
  simp [State.toReplay]

@[simp] theorem State.nextLocal_boot (s : State)  : (State.nextLocal s).boot = s.boot := by
  simp [State.nextLocal, apply_ite State.boot, apply_ite Prod.fst, apply_ite Prod.snd]

@[simp] theorem State.checkTwin_boot (s : State)  : (State.checkTwin s).boot = s.boot := by
  unfold State.checkTwin; (repeat' split) <;> simp [apply_ite State.boot, apply_ite Prod.fst, apply_ite Prod.snd]

@[simp] theorem State.noteSuspect_boot (s : State) (acts : List Nat)  : (State.noteSuspect s acts).boot = s.boot := by
  simp [State.noteSuspect, apply_ite State.boot, apply_ite Prod.fst, apply_ite Prod.snd]

@[simp] theorem State.stopVerdict_boot (s : State) (stops : List Nat)  : (State.stopVerdict s stops).boot = s.boot := by
  simp [State.stopVerdict, apply_ite State.boot, apply_ite Prod.fst, apply_ite Prod.snd]

@[simp] theorem State.resolveFirst_boot (s : State) (sus : List Nat) (d : Word × Word)  : (State.resolveFirst s sus d).boot = s.boot := by
  unfold State.resolveFirst
  repeat' (first | (simp [apply_ite State.boot, apply_ite Prod.fst, apply_ite Prod.snd]; done) | split | (refine (State.each_boot _ _ _ ?_).trans ?_ <;> intros) | simp [apply_ite State.boot, apply_ite Prod.fst, apply_ite Prod.snd])

@[simp] theorem State.firstVerdict_boot (s : State) (acts : List Nat) (d : Word × Word)  : (State.firstVerdict s acts d).boot = s.boot := by
  simp [State.firstVerdict, apply_ite State.boot, apply_ite Prod.fst, apply_ite Prod.snd]

@[simp] theorem State.decideVerdict_boot (s : State)  : (State.decideVerdict s).boot = s.boot := by
  simp [State.decideVerdict, apply_ite State.boot, apply_ite Prod.fst, apply_ite Prod.snd]

@[simp] theorem State.tryVerdict_boot (s : State)  : (State.tryVerdict s).boot = s.boot := by
  simp [State.tryVerdict, apply_ite State.boot, apply_ite Prod.fst, apply_ite Prod.snd]

@[simp] theorem State.passDeadline_boot (s : State)  : (State.passDeadline s).boot = s.boot := by
  simp [State.passDeadline, apply_ite State.boot, apply_ite Prod.fst, apply_ite Prod.snd]

@[simp] theorem State.addGuest_boot (s : State) (l : List GuestRec) : (s.addGuest l).1.boot = s.boot := by
  unfold State.addGuest
  exact (foldState_boot _ (fun x a => by split <;> simp) l _)

@[simp] theorem State.decline_boot (s : State) (src : BitVec 17)  : (State.decline s src).boot = s.boot := by
  simp [State.decline]

@[simp] theorem State.unlessBad_boot (s : State) (f : State → State) (hf : ∀ s : State, (f s).boot = s.boot) : (State.unlessBad s f).boot = s.boot := by
  simp [State.unlessBad, apply_ite State.boot, apply_ite Prod.fst, apply_ite Prod.snd, hf]

@[simp] theorem State.hostGuest_boot (s : State) (a : GuestAsk)  : (State.hostGuest s a).boot = s.boot := by
  simp [State.hostGuest, apply_ite State.boot, apply_ite Prod.fst, apply_ite Prod.snd]

@[simp] theorem State.guestEnd_boot (s : State) (src : BitVec 17)  : (State.guestEnd s src).boot = s.boot := by
  unfold State.guestEnd
  refine (State.unlessBad_boot _ _ (fun s => ?_)).trans ?_ <;> simp

@[simp] theorem State.resumeCheck_boot (s : State) (k : EscKeep)  : (State.resumeCheck s k).boot = s.boot := by
  simp [State.resumeCheck, apply_ite State.boot, apply_ite Prod.fst, apply_ite Prod.snd]

@[simp] theorem State.enterCheck_boot (s : State)  : (State.enterCheck s).boot = s.boot := by
  unfold State.enterCheck
  repeat' (first | (simp [apply_ite State.boot, apply_ite Prod.fst, apply_ite Prod.snd]; done) | split | (refine (State.each_boot _ _ _ ?_).trans ?_ <;> intros) | simp [apply_ite State.boot, apply_ite Prod.fst, apply_ite Prod.snd])

@[simp] theorem State.trendTest_boot (s : State)  : (State.trendTest s).boot = s.boot := by
  simp [State.trendTest, apply_ite State.boot, apply_ite Prod.fst, apply_ite Prod.snd]

@[simp] theorem State.clearEpoch_boot (s : State) (step : Word)  : (State.clearEpoch s step).boot = s.boot := by
  simp [State.clearEpoch, apply_ite State.boot, apply_ite Prod.fst, apply_ite Prod.snd]

@[simp] theorem State.finishCommit_boot (s : State)  : (State.finishCommit s).boot = s.boot := by
  unfold State.finishCommit
  repeat' (first | (simp [apply_ite State.boot, apply_ite Prod.fst, apply_ite Prod.snd]; done) | split | (refine (State.each_boot _ _ _ ?_).trans ?_ <;> intros) | simp [apply_ite State.boot, apply_ite Prod.fst, apply_ite Prod.snd])

@[simp] theorem State.modPhys_boot (s : State) (n : Nat) (f : PhysCore → PhysCore)  : (State.modPhys s n f).boot = s.boot := by
  simp [State.modPhys]

@[simp] theorem State.reportQuarter_boot (s : State) (q : Nat) (good : List Nat)  : (State.reportQuarter s q good).boot = s.boot := by
  simp [State.reportQuarter]

@[simp] theorem State.mapCores_boot (s : State) (pass : Nat → Bool)  : (State.mapCores s pass).boot = s.boot := by
  simp [State.mapCores, apply_ite State.boot, apply_ite Prod.fst, apply_ite Prod.snd]

@[simp] theorem State.abandonAssays_boot (s : State) (c : Nat)  : (State.abandonAssays s c).boot = s.boot := by
  simp [State.abandonAssays]

@[simp] theorem State.unqueue_boot (s : State) (c : Nat)  : (State.unqueue s c).boot = s.boot := by
  simp [State.unqueue]

@[simp] theorem State.goOffline_boot (s : State) (c : Nat)  : (State.goOffline s c).boot = s.boot := by
  simp [State.goOffline]

@[simp] theorem State.noSpare_boot (s : State) (q : Nat)  : (State.noSpare s q).boot = s.boot := by
  simp [State.noSpare, apply_ite State.boot, apply_ite Prod.fst, apply_ite Prod.snd]

@[simp] theorem State.startReplacement_boot (s : State) (c : Nat)  : (State.startReplacement s c).boot = s.boot := by
  unfold State.startReplacement
  repeat' (first | (simp [apply_ite State.boot, apply_ite Prod.fst, apply_ite Prod.snd]; done) | split | (refine (State.each_boot _ _ _ ?_).trans ?_ <;> intros) | simp [apply_ite State.boot, apply_ite Prod.fst, apply_ite Prod.snd])

@[simp] theorem State.serveQueue_boot (s : State) (q : Nat)  : (State.serveQueue s q).boot = s.boot := by
  simp [State.serveQueue, apply_ite State.boot, apply_ite Prod.fst, apply_ite Prod.snd]

@[simp] theorem State.drilledBack_boot (s : State)  : (State.drilledBack s).boot = s.boot := by
  simp [State.drilledBack]

@[simp] theorem State.coreFails_boot (s : State) (c : Nat)  : (State.coreFails s c).boot = s.boot := by
  simp [State.coreFails, apply_ite State.boot, apply_ite Prod.fst, apply_ite Prod.snd]

@[simp] theorem State.coreResumes_boot (s : State) (c : Nat)  : (State.coreResumes s c).boot = s.boot := by
  unfold State.coreResumes
  repeat' (first | (simp [apply_ite State.boot, apply_ite Prod.fst, apply_ite Prod.snd]; done) | split | (refine (State.each_boot _ _ _ ?_).trans ?_ <;> intros) | simp [apply_ite State.boot, apply_ite Prod.fst, apply_ite Prod.snd])

@[simp] theorem State.arise_boot (s : State) (l : List MemError)  : (State.arise s l).boot = s.boot := by
  simp [State.arise]

@[simp] theorem State.poisonTail_boot (s : State) (ln : Nat)  : (State.poisonTail s ln).boot = s.boot := by
  unfold State.poisonTail; (repeat' split) <;> simp [apply_ite State.boot, apply_ite Prod.fst, apply_ite Prod.snd]

@[simp] theorem State.scrubLine_boot (s : State) (k ln sector : Nat)  : (State.scrubLine s k ln sector).boot = s.boot := by
  simp [State.scrubLine, apply_ite State.boot, apply_ite Prod.fst, apply_ite Prod.snd]

@[simp] theorem State.trainChannel_boot (s : State) (k ch : Nat) (bad : List Nat) (cmdOk : Bool)  : (State.trainChannel s k ch bad cmdOk).boot = s.boot := by
  simp [State.trainChannel, apply_ite State.boot, apply_ite Prod.fst, apply_ite Prod.snd]

@[simp] theorem State.dropStack_boot (s : State) (k : Nat) (poison : Bool)  : (State.dropStack s k poison).boot = s.boot := by
  simp [State.dropStack]

@[simp] theorem State.dropTail_boot (s : State) (k : Nat)  : (State.dropTail s k).boot = s.boot := by
  simp [State.dropTail]

@[simp] theorem State.freshStack_boot (s : State) (k : Nat)  : (State.freshStack s k).boot = s.boot := by
  simp [State.freshStack]

@[simp] theorem State.tunModeWrite_boot (s : State) (q t mode : Nat)  : (State.tunModeWrite s q t mode).1.boot = s.boot := by
  simp [State.tunModeWrite, apply_ite State.boot, apply_ite Prod.fst, apply_ite Prod.snd]

@[simp] theorem State.flushAll_boot (s : State) (q : Nat)  : (State.flushAll s q).boot = s.boot := by
  simp [State.flushAll]

@[simp] theorem State.dropCache_boot (s : State) (q : Nat)  : (State.dropCache s q).boot = s.boot := by
  simp [State.dropCache]

@[simp] theorem State.clearScratch_boot (s : State) (q t : Nat)  : (State.clearScratch s q t).boot = s.boot := by
  simp [State.clearScratch]

@[simp] theorem State.loseCores_boot (s : State)  : (State.loseCores s).boot = s.boot := by
  simp [State.loseCores]

@[simp] theorem State.loseStreams_boot (s : State)  : (State.loseStreams s).boot = s.boot := by
  simp [State.loseStreams]

@[simp] theorem State.clearMailbox_boot (s : State)  : (State.clearMailbox s).boot = s.boot := by
  simp [State.clearMailbox]

@[simp] theorem State.pcieLink_boot (s : State) (up : Bool)  : (State.pcieLink s up).boot = s.boot := by
  simp [State.pcieLink, apply_ite State.boot, apply_ite Prod.fst, apply_ite Prod.snd]

@[simp] theorem State.msixReset_boot (s : State)  : (State.msixReset s).boot = s.boot := by
  simp [State.msixReset]

@[simp] theorem State.sendOut_boot (s : State) (p : Nat)  : (State.sendOut s p).boot = s.boot := by
  simp [State.sendOut, apply_ite State.boot, apply_ite Prod.fst, apply_ite Prod.snd]

@[simp] theorem State.losePorts_boot (s : State) (retrain : Bool)  : (State.losePorts s retrain).boot = s.boot := by
  simp [State.losePorts, apply_ite State.boot, apply_ite Prod.fst, apply_ite Prod.snd]

@[simp] theorem State.writeBack_boot (s : State)  : (State.writeBack s).boot = s.boot := by
  simp [State.writeBack]

@[simp] theorem State.loseTun_boot (s : State)  : (State.loseTun s).boot = s.boot := by
  simp [State.loseTun]

@[simp] theorem State.loseStacks_boot (s : State) (l : List Nat)  : (State.loseStacks s l).boot = s.boot := by
  simp [State.loseStacks]

@[simp] theorem State.causeOf_boot (s : State) (c : Option Nat)  : (State.causeOf s c).2.boot = s.boot := by
  unfold State.causeOf; (repeat' split) <;> simp [apply_ite State.boot, apply_ite Prod.fst, apply_ite Prod.snd]

@[simp] theorem State.resetRecord_boot (s : State) (rung cause : Nat)  : (State.resetRecord s rung cause).boot = s.boot := by
  simp [State.resetRecord]

@[simp] theorem State.stopForReset_boot (s : State)  : (State.stopForReset s).boot = s.boot := by
  simp [State.stopForReset]

@[simp] theorem State.trainStacks_boot (s : State) (bad : List TrainReport)  : (State.trainStacks s bad).boot = s.boot := by
  unfold State.trainStacks
  refine State.each_boot _ _ _ (fun s k => ?_)
  dsimp only
  refine (State.each_boot _ _ _ (fun s c => ?_)).trans (by simp only [State.modStack_boot])
  split <;> simp only [State.trainChannel_boot]

@[simp] theorem State.enablePorts_boot (s : State)  : (State.enablePorts s).boot = s.boot := by
  simp [State.enablePorts, apply_ite State.boot, apply_ite Prod.fst, apply_ite Prod.snd]

@[simp] theorem State.pickRef_boot (s : State)  : (State.pickRef s).boot = s.boot := by
  simp [State.pickRef, apply_ite State.boot, apply_ite Prod.fst, apply_ite Prod.snd]

@[simp] theorem State.startDrain_boot (s : State) (after : DevState)  : (State.startDrain s after).boot = s.boot := by
  simp [State.startDrain]

@[simp] theorem State.fence_boot (s : State) (c : Nat) (w : GenFields) (func : Nat) (f : Wait)  : (State.fence s c w func f).boot = s.boot := by
  simp [State.fence, apply_ite State.boot, apply_ite Prod.fst, apply_ite Prod.snd]

@[simp] theorem State.gldReads_boot (s : State) (c : Nat) (e : BitVec 17) (a : Nat) (p : BitVec 512)  : (State.gldReads s c e a p).boot = s.boot := by
  simp [State.gldReads]

@[simp] theorem State.sendLine_boot (s : State) (r : Request) (e : BitVec 17) (a : Nat) (d : Line) (mask : BitVec 64) (poison : Bool)  : (State.sendLine s r e a d mask poison).boot = s.boot := by
  simp [State.sendLine]

@[simp] theorem State.region_boot (s : State) (c : Nat) (w : GenFields) (func : Nat) (src : List Nat) (new : Region) (faults : List Nat)  : (State.region s c w func src new faults).boot = s.boot := by
  simp [State.region]

@[simp] theorem State.regionWrite_boot (s : State) (c : Nat) (w : GenFields) (diagonal : Bool)  : (State.regionWrite s c w diagonal).boot = s.boot := by
  simp [State.regionWrite]

@[simp] theorem State.dmaTouch_boot (s : State) (c : Nat) (go : Bool) (b : List Byte)  : (State.dmaTouch s c go b).boot = s.boot := by
  simp [State.dmaTouch, apply_ite State.boot, apply_ite Prod.fst, apply_ite Prod.snd]

@[simp] theorem State.dmaWrite_boot (s : State) (c e : Nat) (r : DmaReq) (l : List LineOut)  : (State.dmaWrite s c e r l).boot = s.boot := by
  unfold State.dmaWrite
  repeat' (first | (simp [apply_ite State.boot, apply_ite Prod.fst, apply_ite Prod.snd]; done) | split | (refine (State.each_boot _ _ _ ?_).trans ?_ <;> intros) | simp [apply_ite State.boot, apply_ite Prod.fst, apply_ite Prod.snd])

@[simp] theorem State.dmaAtomic_boot (s : State) (c e : Nat) (r : DmaReq) (ep : Option (BitVec 17)) (op mask a : Nat) (x cmp : Line) (bad : Bool)  : (State.dmaAtomic s c e r ep op mask a x cmp bad).boot = s.boot := by
  unfold State.dmaAtomic
  repeat' (first | (simp [apply_ite State.boot, apply_ite Prod.fst, apply_ite Prod.snd]; done) | split | (refine (State.each_boot _ _ _ ?_).trans ?_ <;> intros) | simp [apply_ite State.boot, apply_ite Prod.fst, apply_ite Prod.snd])

@[simp] theorem State.dmaMove_boot (s : State) (c e : Nat) (run : DmaRun)  : (State.dmaMove s c e run).boot = s.boot := by
  unfold State.dmaMove
  repeat' (first | (simp [apply_ite State.boot, apply_ite Prod.fst, apply_ite Prod.snd]; done) | split | (refine (State.each_boot _ _ _ ?_).trans ?_ <;> intros) | simp [apply_ite State.boot, apply_ite Prod.fst, apply_ite Prod.snd])

@[simp] theorem State.beginMove_boot (s : State) (c e : Nat) (r : DmaReq)  : (State.beginMove s c e r).boot = s.boot := by
  unfold State.beginMove
  repeat' (first | (simp [apply_ite State.boot, apply_ite Prod.fst, apply_ite Prod.snd]; done) | split | (refine (State.each_boot _ _ _ ?_).trans ?_ <;> intros) | simp [apply_ite State.boot, apply_ite Prod.fst, apply_ite Prod.snd])

@[simp] theorem State.dmaBegin_boot (s : State) (c e : Nat) (r : DmaReq)  : (State.dmaBegin s c e r).boot = s.boot := by
  unfold State.dmaBegin; (repeat' split) <;> simp [apply_ite State.boot, apply_ite Prod.fst, apply_ite Prod.snd]

@[simp] theorem State.dmaStart_boot (s : State) (op c e : Nat)  : (State.dmaStart s op c e).boot = s.boot := by
  unfold State.dmaStart
  repeat' (first | (simp [apply_ite State.boot, apply_ite Prod.fst, apply_ite Prod.snd]; done) | split | (refine (State.each_boot _ _ _ ?_).trans ?_ <;> intros) | simp [apply_ite State.boot, apply_ite Prod.fst, apply_ite Prod.snd])

@[simp] theorem State.serveScan_boot (s : State) (c e : Nat) (r : DmaReq)  : (State.serveScan s c e r).boot = s.boot := by
  simp [State.serveScan, apply_ite State.boot, apply_ite Prod.fst, apply_ite Prod.snd]

@[simp] theorem State.serveCombine_boot (s : State) (c e : Nat) (r : DmaReq)  : (State.serveCombine s c e r).boot = s.boot := by
  simp [State.serveCombine, apply_ite State.boot, apply_ite Prod.fst, apply_ite Prod.snd]

@[simp] theorem State.casReturn_boot (s : State) (run : DmaRun)  : (State.casReturn s run).boot = s.boot := by
  unfold State.casReturn; (repeat' split) <;> simp [apply_ite State.boot, apply_ite Prod.fst, apply_ite Prod.snd]

@[simp] theorem State.dmaEnd_boot (s : State) (c e : Nat) (run : DmaRun)  : (State.dmaEnd s c e run).boot = s.boot := by
  simp [State.dmaEnd, apply_ite State.boot, apply_ite Prod.fst, apply_ite Prod.snd]

@[simp] theorem State.openStep_boot (s : State) (r inw fpr : List Byte)  : (State.openStep s r inw fpr).boot = s.boot := by
  simp [State.openStep, apply_ite State.boot, apply_ite Prod.fst, apply_ite Prod.snd]

@[simp] theorem State.groupReplay_boot (s : State)  : (State.groupReplay s).boot = s.boot := by
  simp [State.groupReplay, apply_ite State.boot, apply_ite Prod.fst, apply_ite Prod.snd]

@[simp] theorem State.writeProfile_boot (s : State) (m v : Nat)  : (State.writeProfile s m v).1.boot = s.boot := by
  simp [State.writeProfile, apply_ite State.boot, apply_ite Prod.fst, apply_ite Prod.snd]

@[simp] theorem State.sealStack_boot (s : State) (slot k : Nat) (dir : List RackRange) (src : BitVec 17) (serial : List Byte) (epoch snap : Word)  : (State.sealStack s slot k dir src serial epoch snap).boot = s.boot := by
  simp [State.sealStack]

@[simp] theorem State.rescan_boot (s : State) (slot : Nat)  : (State.rescan s slot).boot = s.boot := by
  simp [State.rescan, apply_ite State.boot, apply_ite Prod.fst, apply_ite Prod.snd]

@[simp] theorem State.retire_boot (s : State) (v : Nat)  : (State.retire s v).1.boot = s.boot := by
  unfold State.retire
  repeat' (first | (simp [apply_ite State.boot, apply_ite Prod.fst, apply_ite Prod.snd]; done) | split | (refine (State.each_boot _ _ _ ?_).trans ?_ <;> intros) | simp [apply_ite State.boot, apply_ite Prod.fst, apply_ite Prod.snd])

@[simp] theorem State.clearRetired_boot (s : State)  : (State.clearRetired s).1.boot = s.boot := by
  simp [State.clearRetired, apply_ite State.boot, apply_ite Prod.fst, apply_ite Prod.snd]

@[simp] theorem State.setBudget_boot (s : State) (v : Nat)  : (State.setBudget s v).boot = s.boot := by
  simp [State.setBudget, apply_ite State.boot, apply_ite Prod.fst, apply_ite Prod.snd]

@[simp] theorem State.clearExpelled_boot (s : State)  : (State.clearExpelled s).boot = s.boot := by
  simp [State.clearExpelled, apply_ite State.boot, apply_ite Prod.fst, apply_ite Prod.snd]

@[simp] theorem State.drill_boot (s : State) (kind target : Nat)  : (State.drill s kind target).boot = s.boot := by
  simp [State.drill]

@[simp] theorem State.objBytes_boot (s : State) (o m : Nat)  : (State.objBytes s o m).2.boot = s.boot := by
  unfold State.objBytes; (repeat' split) <;> simp [apply_ite State.boot, apply_ite Prod.fst, apply_ite Prod.snd]

@[simp] theorem State.readMember_boot (s : State) (r : DictRow) (m : Nat)  : (State.readMember s r m).2.boot = s.boot := by
  simp [State.readMember, apply_ite State.boot, apply_ite Prod.fst, apply_ite Prod.snd]

@[simp] theorem State.redivide_boot (s : State) (d q : Nat)  : (State.redivide s d q).boot = s.boot := by
  simp [State.redivide]

@[simp] theorem State.newHost_boot (s : State)  : (State.newHost s).boot = s.boot := by
  simp [State.newHost]

@[simp] theorem State.stored_boot (s : State) (o m v : Nat)  : (State.stored s o m v).boot = s.boot := by
  unfold State.stored
  split <;> simp only [State.redivide_boot, State.healthUpdate_boot, State.throttle_boot, State.newHost_boot, apply_ite State.boot, ite_self]

@[simp] theorem State.storeNum_boot (s : State) (o m v : Nat)  : (State.storeNum s o m v).1.boot = s.boot := by
  simp [State.storeNum, apply_ite State.boot, apply_ite Prod.fst, apply_ite Prod.snd]

@[simp] theorem State.storeBytes_boot (s : State) (o m : Nat) (b : List Byte)  : (State.storeBytes s o m b).1.boot = s.boot := by
  unfold State.storeBytes; (repeat' split) <;> simp [apply_ite State.boot, apply_ite Prod.fst, apply_ite Prod.snd]

@[simp] theorem State.freeReport_boot (s : State)  : (State.freeReport s).2.boot = s.boot := by
  simp [State.freeReport]

theorem State.auditPort_boot (s : State) (p : Nat)  : ∃ t, State.auditPort s p = .next t ∧ t.boot = s.boot := by
  refine ⟨_, rfl, ?_⟩
  simp [apply_ite State.boot]

@[simp] theorem State.setSeq_boot (s : State) (t : Transport) (v : Word)  : (State.setSeq s t v).boot = s.boot := by
  unfold State.setSeq; (repeat' split) <;> simp [apply_ite State.boot, apply_ite Prod.fst, apply_ite Prod.snd]

@[simp] theorem State.setLast_boot (s : State) (t : Transport) (x : FynenMsg × FynenMsg)  : (State.setLast s t x).boot = s.boot := by
  unfold State.setLast; (repeat' split) <;> simp [apply_ite State.boot, apply_ite Prod.fst, apply_ite Prod.snd]

@[simp] theorem State.setStaged_boot (s : State) (t : Transport) (x : Option (Nat × Nat × List Byte))  : (State.setStaged s t x).boot = s.boot := by
  unfold State.setStaged; (repeat' split) <;> simp [apply_ite State.boot, apply_ite Prod.fst, apply_ite Prod.snd]

@[simp] theorem State.sendResponse_boot (s : State) (t : Transport) (r : FynenMsg)  : (State.sendResponse s t r).boot = s.boot := by
  unfold State.sendResponse; (repeat' split) <;> simp [apply_ite State.boot, apply_ite Prod.fst, apply_ite Prod.snd]

@[simp] theorem State.response_boot (s : State) (m : FynenMsg) (key : Option (List Byte)) (a : Answer)  : (State.response s m key a).2.boot = s.boot := by
  simp [State.response]

@[simp] theorem State.formatError_boot (s : State) (t : Transport) (m : FynenMsg)  : (State.formatError s t m).boot = s.boot := by
  simp [State.formatError]

@[simp] theorem State.refuseReq_boot (s : State) (t : Transport) (m : FynenMsg) (key : Option (List Byte)) (code : Nat)  : (State.refuseReq s t m key code).boot = s.boot := by
  simp [State.refuseReq]

@[simp] theorem State.readReq_boot (s : State) (m : FynenMsg) (r : DictRow)  : (State.readReq s m r).1.boot = s.boot := by
  simp [State.readReq, apply_ite State.boot, apply_ite Prod.fst, apply_ite Prod.snd]

@[simp] theorem State.submit_boot (s : State) (v : BitVec 32)  : (State.submit s v).boot = s.boot := by
  simp [State.submit, apply_ite State.boot, apply_ite Prod.fst, apply_ite Prod.snd]

@[simp] theorem State.readyClear_boot (s : State)  : (State.readyClear s).boot = s.boot := by
  simp [State.readyClear]

theorem State.doorbellWrite_boot (s : State) (i off v : Nat)  : ∀ t, State.doorbellWrite s i off v = some t → t.boot = s.boot := by
  unfold State.doorbellWrite; (repeat' split) <;> simp [apply_ite State.boot, apply_ite Prod.fst, apply_ite Prod.snd]

@[simp] theorem State.msixWrite_boot (s : State) (off : Nat) (data : List Byte)  : (State.msixWrite s off data).boot = s.boot := by
  simp [State.msixWrite]

@[simp] theorem State.setInput_boot (s : State) (i : Nat) (x : Input)  : (State.setInput s i x).boot = s.boot := by
  simp [State.setInput]

@[simp] theorem State.share_boot (s : State)  : (State.share s).boot = s.boot := by
  simp [State.share]

@[simp] theorem State.powerOn_boot (s : State)  : (State.powerOn s).boot = s.boot := by
  simp [State.powerOn, apply_ite State.boot, apply_ite Prod.fst, apply_ite Prod.snd]

@[simp] theorem State.rangeEvent_boot (s : State)  : (State.rangeEvent s).boot = s.boot := by
  simp [State.rangeEvent, apply_ite State.boot, apply_ite Prod.fst, apply_ite Prod.snd]

@[simp] theorem State.stands_boot (s : State) (i : Nat) (closed : Bool) (volts : BitVec 32)  : (State.stands s i closed volts).boot = s.boot := by
  simp [State.stands, apply_ite State.boot, apply_ite Prod.fst, apply_ite Prod.snd]

@[simp] theorem State.rejoin_boot (s : State) (i : Nat) (volts : BitVec 32)  : (State.rejoin s i volts).boot = s.boot := by
  simp [State.rejoin]

@[simp] theorem State.railOff_boot (s : State) (r : Nat)  : (State.railOff s r).boot = s.boot := by
  unfold State.railOff; (repeat' split) <;> simp [apply_ite State.boot, apply_ite Prod.fst, apply_ite Prod.snd]

@[simp] theorem State.railsOff_boot (s : State)  : (State.railsOff s).boot = s.boot := by
  simp [State.railsOff]

@[simp] theorem State.endExtest_boot (s : State)  : (State.endExtest s).boot = s.boot := by
  simp [State.endExtest, apply_ite State.boot, apply_ite Prod.fst, apply_ite Prod.snd]

@[simp] theorem State.thermalTrip_boot (s : State)  : (State.thermalTrip s).boot = s.boot := by
  simp [State.thermalTrip, apply_ite State.boot, apply_ite Prod.fst, apply_ite Prod.snd]

@[simp] theorem State.unseated_boot (s : State)  : (State.unseated s).boot = s.boot := by
  simp [State.unseated]

@[simp] theorem State.shiftOut_boot (s : State) (bits v : Nat)  : (State.shiftOut s bits v).boot = s.boot := by
  simp [State.shiftOut, apply_ite State.boot, apply_ite Prod.fst, apply_ite Prod.snd]

@[simp] theorem State.rowIssue_boot (s : State) (c op : Nat) (w : GenFields) (func funcs : Nat) (use : RowRec → RowUse) (eff : RowRec → Core → Core)  : (State.rowIssue s c op w func funcs use eff).boot = s.boot := by
  simp [State.rowIssue]

end Sys2Proof.Machine
end

