-- ==== Sys2Proof/Laws/Fetch.lean ====
section
/-! SUPPORT. A read through the home Tun leaves every core as it is (06 R199): one lemma per operation on its way. -/

set_option linter.all false

namespace Sys2Proof.Machine

@[simp] theorem State.each_cores {α : Type} (s : State) (l : List α) (f : State → α → State) (hf : ∀ (s : State) (x0 : α), (f s x0).cores = s.cores) : (State.each s l f).cores = s.cores := by
  induction l generalizing s with
  | nil => rfl
  | cons a r ih => exact (ih _).trans (hf _ _)

@[simp] theorem State.msix_cores (s : State) (v : Nat)  : (State.msix s v).cores = s.cores := by
  simp [State.msix, apply_ite State.cores, apply_ite Prod.fst, apply_ite Prod.snd]

@[simp] theorem State.event_cores (s : State) (code obj detail : Nat) (drill : Bool)  : (State.event s code obj detail drill).cores = s.cores := by
  simp [State.event, apply_ite State.cores, apply_ite Prod.fst, apply_ite Prod.snd]

@[simp] theorem State.eventD_cores (s : State) (code obj : Nat) (drill : Bool)  : (State.eventD s code obj drill).cores = s.cores := by
  simp [State.eventD]

@[simp] theorem State.eventOpen_cores (s : State) (obj : Nat)  : (State.eventOpen s obj).cores = s.cores := by
  simp [State.eventOpen]

@[simp] theorem State.warning_cores (s : State)  : (State.warning s).cores = s.cores := by
  simp [State.warning]

@[simp] theorem State.healthUpdate_cores (s : State)  : (State.healthUpdate s).cores = s.cores := by
  simp [State.healthUpdate, apply_ite State.cores, apply_ite Prod.fst, apply_ite Prod.snd]

@[simp] theorem State.healthWarn_cores (s : State)  : (State.healthWarn s).cores = s.cores := by
  simp [State.healthWarn, apply_ite State.cores, apply_ite Prod.fst, apply_ite Prod.snd]

@[simp] theorem State.deduct_cores (s : State) (kind points : Nat) (transient : Bool)  : (State.deduct s kind points transient).cores = s.cores := by
  simp [State.deduct, apply_ite State.cores, apply_ite Prod.fst, apply_ite Prod.snd]

@[simp] theorem State.putHbm_cores (s : State) (ln : Nat) (d : Line) (mask : BitVec 64) (poison : Bool)  : (State.putHbm s ln d mask poison).cores = s.cores := by
  simp [State.putHbm]

@[simp] theorem State.poisonStored_cores (s : State) (ln : Nat)  : (State.poisonStored s ln).cores = s.cores := by
  simp [State.poisonStored]

@[simp] theorem State.queueRetrain_cores (s : State) (k ch : Nat)  : (State.queueRetrain s k ch).cores = s.cores := by
  simp [State.queueRetrain]

@[simp] theorem State.checkDrift_cores (s : State) (k : Nat)  : (State.checkDrift s k).cores = s.cores := by
  simp [State.checkDrift]

@[simp] theorem State.openWindow_cores (s : State) (k : Nat)  : (State.openWindow s k).cores = s.cores := by
  unfold State.openWindow
  dsimp only
  split <;> simp

@[simp] theorem State.wakeStack_cores (s : State) (k : Nat)  : (State.wakeStack s k).cores = s.cores := by
  simp [State.wakeStack, apply_ite State.cores, apply_ite Prod.fst, apply_ite Prod.snd]

@[simp] theorem State.pinCorrected_cores (s : State) (k ch pin : Nat)  : (State.pinCorrected s k ch pin).cores = s.cores := by
  simp [State.pinCorrected, apply_ite State.cores, apply_ite Prod.fst, apply_ite Prod.snd]

@[simp] theorem State.hbmUncorrectable_cores (s : State) (ln : Nat) (scrub : Bool)  : (State.hbmUncorrectable s ln scrub).cores = s.cores := by
  simp [State.hbmUncorrectable, apply_ite State.cores, apply_ite Prod.fst, apply_ite Prod.snd]

@[simp] theorem State.scrambleSector_cores (s : State) (ln sector : Nat)  : (State.scrambleSector s ln sector).cores = s.cores := by
  simp [State.scrambleSector, apply_ite State.cores, apply_ite Prod.fst, apply_ite Prod.snd]

@[simp] theorem State.sectorError_cores (s : State) (k ln sector : Nat) (pins : List Nat) (scrub : Bool)  : (State.sectorError s k ln sector pins scrub).cores = s.cores := by
  unfold State.sectorError
  dsimp only
  split
  · rfl
  · simp [apply_ite State.cores, apply_ite Prod.fst, apply_ite Prod.snd]
  · split
    · simp
    · split <;> simp

@[simp] theorem State.readSectors_cores (s : State) (k ln : Nat) (sectors : List Nat) (scrub : Bool)  : (State.readSectors s k ln sectors scrub).cores = s.cores := by
  simp [State.readSectors, apply_ite State.cores, apply_ite Prod.fst, apply_ite Prod.snd]

@[simp] theorem State.unhide_cores (s : State) (ln : Nat)  : (State.unhide s ln).cores = s.cores := by
  simp [State.unhide, apply_ite State.cores, apply_ite Prod.fst, apply_ite Prod.snd]

@[simp] theorem State.reachHbm_cores (s : State) (k ln : Nat)  : (State.reachHbm s k ln).cores = s.cores := by
  unfold State.reachHbm
  split
  · rfl
  · simp

@[simp] theorem State.dropEntry_cores (s : State) (q ln : Nat)  : (State.dropEntry s q ln).cores = s.cores := by
  simp [State.dropEntry, apply_ite State.cores, apply_ite Prod.fst, apply_ite Prod.snd]

@[simp] theorem State.tunError_cores (s : State) (ln : Nat)  : (State.tunError s ln).cores = s.cores := by
  unfold State.tunError; (repeat' split) <;> simp [apply_ite State.cores, apply_ite Prod.fst, apply_ite Prod.snd]

@[simp] theorem State.meetTun_cores (s : State) (ln : Nat)  : (State.meetTun s ln).cores = s.cores := by
  simp [State.meetTun, apply_ite State.cores, apply_ite Prod.fst, apply_ite Prod.snd]

@[simp] theorem State.clearErrors_cores (s : State) (ln : Nat)  : (State.clearErrors s ln).cores = s.cores := by
  simp [State.clearErrors, apply_ite State.cores, apply_ite Prod.fst, apply_ite Prod.snd]

@[simp] theorem State.writeBackLine_cores (s : State) (ln : Nat)  : (State.writeBackLine s ln).cores = s.cores := by
  unfold State.writeBackLine; (repeat' split) <;> simp [apply_ite State.cores, apply_ite Prod.fst, apply_ite Prod.snd]

@[simp] theorem State.evict_cores (s : State) (q ln : Nat)  : (State.evict s q ln).cores = s.cores := by
  simp [State.evict, apply_ite State.cores, apply_ite Prod.fst, apply_ite Prod.snd]

@[simp] theorem State.allocate_cores (s : State) (q ln : Nat) (dirty keep : Bool)  : (State.allocate s q ln dirty keep).cores = s.cores := by
  simp [State.allocate]

@[simp] theorem State.cacheLine_cores (s : State) (q ln : Nat) (dirty : Bool) (cls : Nat)  : (State.cacheLine s q ln dirty cls).cores = s.cores := by
  simp [State.cacheLine, apply_ite State.cores, apply_ite Prod.fst, apply_ite Prod.snd]

@[simp] theorem State.countCache_cores (s : State) (q : Nat) (hit : Bool)  : (State.countCache s q hit).cores = s.cores := by
  simp [State.countCache, apply_ite State.cores, apply_ite Prod.fst, apply_ite Prod.snd]

@[simp] theorem State.wakeSlices_cores (s : State) (ln : Nat)  : (State.wakeSlices s ln).cores = s.cores := by
  simp [State.wakeSlices, apply_ite State.cores, apply_ite Prod.fst, apply_ite Prod.snd]

@[simp] theorem State.touchRead_cores (s : State) (ln : Nat) (cls : Nat)  : (State.touchRead s ln cls).cores = s.cores := by
  unfold State.touchRead
  repeat' (first | (simp [apply_ite State.cores, apply_ite Prod.fst, apply_ite Prod.snd]; done) | split | (refine (State.each_cores _ _ _ ?_).trans ?_ <;> intros) | simp [apply_ite State.cores, apply_ite Prod.fst, apply_ite Prod.snd])

@[simp] theorem State.fetch_cores (s : State) (c : Nat) : (s.fetch c).cores = s.cores := by
  unfold State.fetch
  split <;> simp

@[simp] theorem State.fetch_core (s : State) (c d : Nat) : (s.fetch c).core d = s.core d := by simp [State.core]

end Sys2Proof.Machine
end

