-- ==== Sys2Proof/Laws/Core.lean ====
section
/-! SUPPORT. What a core instruction does at issue (04 R122): a clean core that is ready takes its effect; one with a fault stops; one whose unit is
not ready waits. -/

namespace Sys2Proof.Machine

theorem State.setCore_setCore (s : State) (c : Nat) (x y : Core) : (s.setCore c x).setCore c y = s.setCore c y := by
  unfold State.setCore vset
  split
  · simp
  · rfl

theorem Core.sp_clean (x : Core) (h : x.clean) (i : Nat) : x.sp i = false := by simp [Core.sp, h.1]

theorem Core.vp_clean (x : Core) (h : x.clean) (i : Nat) : x.vp i = 0 := by
  simp only [Core.vp, h.2.1, vget, Vector.toList_replicate, List.getD_eq_getElem?_getD]
  rcases Nat.lt_or_ge i 32 with hi | hi
  · rw [List.getElem?_eq_getElem (by simpa using hi), List.getElem_replicate]; rfl
  · rw [List.getElem?_eq_none (by simpa using hi)]; rfl

theorem Core.poisonS_clean (x : Core) (h : x.clean) (l : List Nat) : x.poisonS l = false := by simp [Core.poisonS, Core.sp_clean x h]
theorem Core.poisonV_clean (x : Core) (h : x.clean) (l : List (Nat × BitVec 32)) : x.poisonV l = false := by simp [Core.poisonV, Core.vp_clean x h]
theorem Core.poisonedLines_clean (x : Core) (h : x.clean) (l : List (Nat × Nat)) : x.poisonedLines l = [] := by simp [Core.poisonedLines, h.2.2]

/-- A core that is ready fetches its instruction without a fault and without waiting. -/
theorem State.ready_fetch (s : State) (c : Nat) (h : s.ready c) :
    (!(s.core c).cachedFetch && ((localForm (s.core c).pc.toNat).bind s.home).isNone) = false ∧ s.fetchWaits c = false ∧
    (!(s.core c).cachedFetch && ((s.fetch c).line (s.core c).fetchLine).2) = false := by
  obtain ⟨-, -, -, -, h5 | ⟨h5, h6, h7⟩⟩ := h
  · simp [h5, State.fetchWaits]
  · simp [h6, h7, Option.isNone_eq_false_iff.mpr h5]

/-- A fetch that the instruction cache serves changes nothing. -/
theorem State.fetch_cached (s : State) (c : Nat) (h : (s.core c).cachedFetch = true) : s.fetch c = s := by simp [State.fetch, h]

/-- A core that runs no program, waits, sleeps or is fenced is given no instruction; one that is ready passes that check. -/
theorem State.ready_runs (s : State) (c : Nat) (h : s.ready c) :
    ¬ ((s.core c).run ≠ .running ∨ (s.core c).wait ≠ .none ∨ (s.core c).sleep ≠ .awake ∨ (s.core c).fenced = true) := by
  obtain ⟨h1, h2, h3, h4, -⟩ := h
  simp [h1, h2, h3, h4]

/-- A clean core that is ready takes an instruction without fault or stall: the fetch, its effect and nothing else. -/
theorem State.issue_fresh (s : State) (c : Nat) (w : BitVec 128) (i : Issue) (eff : State → State) (h : s.fresh c) (hf : i.faults = []) (hs : i.stall = .none) :
    s.issue c w i eff = eff ((s.fetch c).setCore c (s.core c).go) := by
  have hc := h.2
  have h1 := State.ready_runs s c h.1
  have h2 := State.ready_fetch s c h.1
  unfold State.issue
  dsimp only
  rw [if_neg h1, h2.1, h2.2.1, h2.2.2]
  simp [hf, hs, Core.poisonS_clean _ hc, Core.poisonV_clean _ hc, Core.poisonedLines_clean _ hc]
  rfl

/-- The lowest code that applies is the one a clean core faults with. -/
theorem State.issue_fault (s : State) (c : Nat) (w : BitVec 128) (i : Issue) (eff : State → State) (f : Nat) (h : s.fresh c) (hf : i.faults.min? = some f) :
    s.issue c w i eff = (s.fetch c).coreFault c f w i.detail := by
  have hc := h.2
  have h1 := State.ready_runs s c h.1
  have h2 := State.ready_fetch s c h.1
  unfold State.issue
  dsimp only
  rw [if_neg h1, h2.1, h2.2.1, h2.2.2]
  simp [hf, Core.poisonS_clean _ hc, Core.poisonV_clean _ hc]

/-- An instruction whose unit is not ready leaves everything but the reason for it and the line fetched. -/
theorem State.issue_stall (s : State) (c : Nat) (w : BitVec 128) (i : Issue) (eff : State → State) (h : s.fresh c) (hf : i.faults = []) (hs : i.stall ≠ .none) :
    s.issue c w i eff = (s.fetch c).setCore c { (s.core c).go with stall := i.stall } := by
  have hc := h.2
  have h1 := State.ready_runs s c h.1
  have h2 := State.ready_fetch s c h.1
  unfold State.issue
  dsimp only
  rw [if_neg h1, h2.1, h2.2.1, h2.2.2]
  simp [hf, hs, Core.poisonS_clean _ hc, Core.poisonV_clean _ hc]

/-- A core that runs no program, waits, sleeps or is fenced is given no instruction. -/
theorem State.issue_idle (s : State) (c : Nat) (w : BitVec 128) (i : Issue) (eff : State → State)
    (h : (s.core c).run ≠ .running ∨ (s.core c).wait ≠ .none ∨ (s.core c).sleep ≠ .awake ∨ (s.core c).fenced = true) : s.issue c w i eff = s := by
  simp [State.issue, h]

theorem coreStep_go (s : State) (c : Nat) (hc : c < 144) (f : Core → Core) : coreStep c f (s.setCore c (s.core c).go) = s.setCore c (f (s.core c).go).next := by
  simp [coreStep, State.modCore, hc, State.setCore_setCore]

theorem modCore_go (s : State) (c : Nat) (hc : c < 144) (f : Core → Core) : (s.setCore c (s.core c).go).modCore c f = s.setCore c (f (s.core c).go) := by
  simp [State.modCore, hc, State.setCore_setCore]

@[simp] theorem Core.go_s (x : Core) (i : Nat) : x.go.s i = x.s i := rfl
@[simp] theorem Core.go_v (x : Core) (i : Nat) : x.go.v i = x.v i := rfl
@[simp] theorem Core.go_p (x : Core) (i : Nat) : x.go.p i = x.p i := rfl
@[simp] theorem Core.go_sp (x : Core) (i : Nat) : x.go.sp i = x.sp i := rfl
@[simp] theorem Core.go_vp (x : Core) (i : Nat) : x.go.vp i = x.vp i := rfl
@[simp] theorem Core.go_pc (x : Core) : x.go.pc = x.pc := rfl
@[simp] theorem Core.go_lmem (x : Core) : x.go.lmem = x.lmem := rfl
@[simp] theorem Core.go_lread (x : Core) (a n : Nat) : x.go.lread a n = x.lread a n := rfl
@[simp] theorem Core.go_lpoison (x : Core) (a n : Nat) : x.go.lpoison a n = x.lpoison a n := rfl
@[simp] theorem Core.next_pc (x : Core) : x.next.pc = x.pc + 16 := rfl
theorem Core.clean_go (x : Core) (h : x.clean) : x.go.clean := h
theorem Core.lpoison_clean (x : Core) (h : x.clean) (a n : Nat) : x.lpoison a n = false := by simp [Core.lpoison, h.2.2]

end Sys2Proof.Machine
end

