-- ==== Sys2Proof/Laws/Crypto.lean ====
section
/-! SUPPORT. Lengths of digests and tags. -/

namespace Sys2Proof.Machine

theorem words_bytes_length (l : List W32) : (l.flatMap (fun w => beBytes 4 w.toNat)).length = 4 * l.length := by
  induction l with
  | nil => rfl
  | cons w r ih =>
    rw [List.flatMap_cons, List.length_append, ih]
    simp only [beBytes, List.length_reverse, length_leBytes, List.length_cons]
    omega

/-- A SHA-256 digest has 32 bytes. -/
@[simp] theorem sha256_length (m : List Byte) : (sha256 m).length = 32 := by
  unfold sha256
  simp only [words_bytes_length, Vector.length_toList]

/-- A Fynen tag has 16 bytes (12 R451). -/
@[simp] theorem fynenTag_length (key : List Byte) (epoch : Word) (m : FynenMsg) : (fynenTag key epoch m).length = 16 := by
  unfold fynenTag hmac256
  simp only [List.length_take, sha256_length]
  rfl

end Sys2Proof.Machine
end

