-- ==== Sys2Proof/Laws/Lanes.lean ====
section
/-! SUPPORT. Lanes of vector registers: an element of a vector built from elements is that element, and what a write of elements leaves. -/

namespace Sys2Proof.Machine

theorem foldr_lane (w : Nat) (l : List Nat) (i : Nat) :
    (l.foldr (fun x acc => 2 ^ w * acc + x % 2 ^ w) 0) / 2 ^ (w * i) % 2 ^ w = (l.getD i 0) % 2 ^ w := by
  induction l generalizing i with
  | nil => simp
  | cons a r ih =>
    have hp : 0 < 2 ^ w := Nat.two_pow_pos w
    cases i with
    | zero => simp [List.foldr_cons]
    | succ k =>
      have e : w * (k + 1) = w + w * k := by ring
      rw [List.foldr_cons, e, Nat.pow_add, ← Nat.div_div_eq_div_mul, Nat.mul_add_div hp, Nat.div_eq_of_lt (Nat.mod_lt _ hp), Nat.add_zero, ih]
      simp

theorem foldr_lt (w : Nat) (l : List Nat) : l.foldr (fun x acc => 2 ^ w * acc + x % 2 ^ w) 0 < 2 ^ (w * l.length) := by
  induction l with
  | nil => simp
  | cons a r ih =>
    have hp : 0 < 2 ^ w := Nat.two_pow_pos w
    have h1 : a % 2 ^ w < 2 ^ w := Nat.mod_lt _ hp
    have e : w * (r.length + 1) = w + w * r.length := by ring
    rw [List.foldr_cons, List.length_cons, e, Nat.pow_add]
    calc 2 ^ w * List.foldr (fun x acc => 2 ^ w * acc + x % 2 ^ w) 0 r + a % 2 ^ w
        < 2 ^ w * List.foldr (fun x acc => 2 ^ w * acc + x % 2 ^ w) 0 r + 2 ^ w := by omega
      _ = 2 ^ w * (List.foldr (fun x acc => 2 ^ w * acc + x % 2 ^ w) 0 r + 1) := by ring
      _ ≤ 2 ^ w * 2 ^ (w * r.length) := Nat.mul_le_mul_left _ ih

/-- Element `i` of a vector built from elements of width `w`. -/
theorem lane_vecOf (w : Nat) (l : List Nat) (i : Nat) (h : w * l.length ≤ 16384) : lane w (vecOf w l) i = l.getD i 0 % 2 ^ w := by
  unfold lane vecOf
  rw [BitVec.toNat_ofNat, Nat.mod_eq_of_lt (Nat.lt_of_lt_of_le (foldr_lt w l) (Nat.pow_le_pow_right (by norm_num) h)), foldr_lane]

theorem lane_lt (w : Nat) (v : BitVec 16384) (i : Nat) : lane w v i < 2 ^ w := Nat.mod_lt _ (Nat.two_pow_pos w)

/-- A write of elements: the elements that get a value hold it, every other one keeps its own. -/
theorem Core.lane_putEls (x : Core) (d w : Nat) (f : Nat → Option (Nat × Bool)) (i : Nat) (hd : d < 32) (hi : i < 16384 / w) :
    lane w ((x.putEls d w f).v d) i = match f i with
      | some v => v.1 % 2 ^ w
      | none => lane w (x.v d) i := by
  have hl : w * (16384 / w) ≤ 16384 := Nat.mul_div_le _ _
  unfold Core.putEls
  rw [Core.v_setV _ _ _ _ hd, lane_vecOf _ _ _ (by simpa using hl), List.getD_eq_getElem?_getD]
  simp only [List.getElem?_map, List.getElem?_range hi, Option.map_some, Option.getD_some]
  cases f i with
  | some v => rfl
  | none => exact Nat.mod_eq_of_lt (lane_lt _ _ _)

theorem Core.v_putEls_ne (x : Core) (d w : Nat) (f : Nat → Option (Nat × Bool)) (j : Nat) (h : j ≠ d) : (x.putEls d w f).v j = x.v j := by
  unfold Core.putEls
  exact Core.v_setV_ne _ _ _ _ _ h

/-- A write of elements changes the vector registers and their poison alone. -/
theorem Core.putEls_rest (x : Core) (d w : Nat) (f : Nat → Option (Nat × Bool)) :
    x.putEls d w f = { x with vreg := (x.putEls d w f).vreg, vPoison := (x.putEls d w f).vPoison } := rfl

end Sys2Proof.Machine
end

