-- ==== Sys2Proof/Laws/Queue.lean ====
section
/-! SUPPORT. What no shared operation touches: the queue of commands that wait. One lemma per operation. -/

set_option linter.all false

namespace Sys2Proof.Machine

@[simp] theorem State.each_pending {α : Type} (s : State) (l : List α) (f : State → α → State) (hf : ∀ (s : State) (x0 : α), (f s x0).pending = s.pending) : (State.each s l f).pending = s.pending := by
  induction l generalizing s with
  | nil => rfl
  | cons a r ih => exact (ih _).trans (hf _ _)

@[simp] theorem State.aerReport_pending (s : State) (bit : Nat)  : (State.aerReport s bit).pending = s.pending := by
  simp [State.aerReport]

@[simp] theorem State.msix_pending (s : State) (v : Nat)  : (State.msix s v).pending = s.pending := by
  simp [State.msix, apply_ite State.pending, apply_ite Prod.fst, apply_ite Prod.snd]

@[simp] theorem State.msixFlush_pending (s : State)  : (State.msixFlush s).pending = s.pending := by
  simp [State.msixFlush, apply_ite State.pending, apply_ite Prod.fst, apply_ite Prod.snd]

@[simp] theorem State.event_pending (s : State) (code obj detail : Nat) (drill : Bool)  : (State.event s code obj detail drill).pending = s.pending := by
  simp [State.event, apply_ite State.pending, apply_ite Prod.fst, apply_ite Prod.snd]

@[simp] theorem State.eventD_pending (s : State) (code obj : Nat) (drill : Bool)  : (State.eventD s code obj drill).pending = s.pending := by
  simp [State.eventD]

@[simp] theorem State.eventOpen_pending (s : State) (obj : Nat)  : (State.eventOpen s obj).pending = s.pending := by
  simp [State.eventOpen]

@[simp] theorem State.warning_pending (s : State)  : (State.warning s).pending = s.pending := by
  simp [State.warning]

@[simp] theorem State.spareUsed_pending (s : State)  : (State.spareUsed s).pending = s.pending := by
  simp [State.spareUsed, apply_ite State.pending, apply_ite Prod.fst, apply_ite Prod.snd]

@[simp] theorem State.healthUpdate_pending (s : State)  : (State.healthUpdate s).pending = s.pending := by
  simp [State.healthUpdate, apply_ite State.pending, apply_ite Prod.fst, apply_ite Prod.snd]

@[simp] theorem State.healthWarn_pending (s : State)  : (State.healthWarn s).pending = s.pending := by
  simp [State.healthWarn, apply_ite State.pending, apply_ite Prod.fst, apply_ite Prod.snd]

@[simp] theorem State.deduct_pending (s : State) (kind points : Nat) (transient : Bool)  : (State.deduct s kind points transient).pending = s.pending := by
  simp [State.deduct, apply_ite State.pending, apply_ite Prod.fst, apply_ite Prod.snd]

@[simp] theorem State.deductLasting_pending (s : State) (kind points : Nat)  : (State.deductLasting s kind points).pending = s.pending := by
  simp [State.deductLasting, apply_ite State.pending, apply_ite Prod.fst, apply_ite Prod.snd]

@[simp] theorem State.realEvent_pending (s : State) (kind : Nat)  : (State.realEvent s kind).pending = s.pending := by
  simp [State.realEvent]

@[simp] theorem State.undeduct_pending (s : State) (kind : Nat)  : (State.undeduct s kind).pending = s.pending := by
  simp [State.undeduct]

@[simp] theorem State.throttle_pending (s : State)  : (State.throttle s).pending = s.pending := by
  simp [State.throttle]

@[simp] theorem State.objectRow_pending (s : State) (o m : Nat) (f : State → State) (hf : ∀ s : State, (f s).pending = s.pending) : (State.objectRow s o m f).pending = s.pending := by
  simp [State.objectRow, apply_ite State.pending, apply_ite Prod.fst, apply_ite Prod.snd, hf]

@[simp] theorem State.putHbm_pending (s : State) (ln : Nat) (d : Line) (mask : BitVec 64) (poison : Bool)  : (State.putHbm s ln d mask poison).pending = s.pending := by
  simp [State.putHbm]

@[simp] theorem State.putLine_pending (s : State) (ln : Nat) (d : Line) (mask : BitVec 64) (poison : Bool)  : (State.putLine s ln d mask poison).pending = s.pending := by
  unfold State.putLine; (repeat' split) <;> simp [apply_ite State.pending, apply_ite Prod.fst, apply_ite Prod.snd]

@[simp] theorem State.poisonStored_pending (s : State) (ln : Nat)  : (State.poisonStored s ln).pending = s.pending := by
  simp [State.poisonStored]

@[simp] theorem State.poisonLine_pending (s : State) (ln : Nat)  : (State.poisonLine s ln).pending = s.pending := by
  unfold State.poisonLine; (repeat' split) <;> simp [apply_ite State.pending, apply_ite Prod.fst, apply_ite Prod.snd]

@[simp] theorem State.queueRetrain_pending (s : State) (k ch : Nat)  : (State.queueRetrain s k ch).pending = s.pending := by
  simp [State.queueRetrain]

@[simp] theorem State.checkDrift_pending (s : State) (k : Nat)  : (State.checkDrift s k).pending = s.pending := by
  simp [State.checkDrift]

@[simp] theorem State.openWindow_pending (s : State) (k : Nat)  : (State.openWindow s k).pending = s.pending := by
  unfold State.openWindow
  dsimp only
  split <;> simp

@[simp] theorem State.wakeStack_pending (s : State) (k : Nat)  : (State.wakeStack s k).pending = s.pending := by
  simp [State.wakeStack, apply_ite State.pending, apply_ite Prod.fst, apply_ite Prod.snd]

@[simp] theorem State.pinCorrected_pending (s : State) (k ch pin : Nat)  : (State.pinCorrected s k ch pin).pending = s.pending := by
  simp [State.pinCorrected, apply_ite State.pending, apply_ite Prod.fst, apply_ite Prod.snd]

@[simp] theorem State.hbmUncorrectable_pending (s : State) (ln : Nat) (scrub : Bool)  : (State.hbmUncorrectable s ln scrub).pending = s.pending := by
  simp [State.hbmUncorrectable, apply_ite State.pending, apply_ite Prod.fst, apply_ite Prod.snd]

@[simp] theorem State.scrambleSector_pending (s : State) (ln sector : Nat)  : (State.scrambleSector s ln sector).pending = s.pending := by
  simp [State.scrambleSector, apply_ite State.pending, apply_ite Prod.fst, apply_ite Prod.snd]

@[simp] theorem State.sectorError_pending (s : State) (k ln sector : Nat) (pins : List Nat) (scrub : Bool)  : (State.sectorError s k ln sector pins scrub).pending = s.pending := by
  unfold State.sectorError
  dsimp only
  split
  · rfl
  · simp [apply_ite State.pending, apply_ite Prod.fst, apply_ite Prod.snd]
  · split
    · simp
    · split <;> simp

@[simp] theorem State.readSectors_pending (s : State) (k ln : Nat) (sectors : List Nat) (scrub : Bool)  : (State.readSectors s k ln sectors scrub).pending = s.pending := by
  simp [State.readSectors, apply_ite State.pending, apply_ite Prod.fst, apply_ite Prod.snd]

@[simp] theorem State.unhide_pending (s : State) (ln : Nat)  : (State.unhide s ln).pending = s.pending := by
  simp [State.unhide, apply_ite State.pending, apply_ite Prod.fst, apply_ite Prod.snd]

@[simp] theorem State.reachHbm_pending (s : State) (k ln : Nat)  : (State.reachHbm s k ln).pending = s.pending := by
  unfold State.reachHbm
  split
  · rfl
  · simp

@[simp] theorem State.dropEntry_pending (s : State) (q ln : Nat)  : (State.dropEntry s q ln).pending = s.pending := by
  simp [State.dropEntry, apply_ite State.pending, apply_ite Prod.fst, apply_ite Prod.snd]

@[simp] theorem State.tunError_pending (s : State) (ln : Nat)  : (State.tunError s ln).pending = s.pending := by
  unfold State.tunError; (repeat' split) <;> simp [apply_ite State.pending, apply_ite Prod.fst, apply_ite Prod.snd]

@[simp] theorem State.meetTun_pending (s : State) (ln : Nat)  : (State.meetTun s ln).pending = s.pending := by
  simp [State.meetTun, apply_ite State.pending, apply_ite Prod.fst, apply_ite Prod.snd]

@[simp] theorem State.clearErrors_pending (s : State) (ln : Nat)  : (State.clearErrors s ln).pending = s.pending := by
  simp [State.clearErrors, apply_ite State.pending, apply_ite Prod.fst, apply_ite Prod.snd]

@[simp] theorem State.flushEntry_pending (s : State) (q ln : Nat)  : (State.flushEntry s q ln).pending = s.pending := by
  unfold State.flushEntry; (repeat' split) <;> simp [apply_ite State.pending, apply_ite Prod.fst, apply_ite Prod.snd]

@[simp] theorem State.writeBackLine_pending (s : State) (ln : Nat)  : (State.writeBackLine s ln).pending = s.pending := by
  unfold State.writeBackLine; (repeat' split) <;> simp [apply_ite State.pending, apply_ite Prod.fst, apply_ite Prod.snd]

@[simp] theorem State.evict_pending (s : State) (q ln : Nat)  : (State.evict s q ln).pending = s.pending := by
  simp [State.evict, apply_ite State.pending, apply_ite Prod.fst, apply_ite Prod.snd]

@[simp] theorem State.allocate_pending (s : State) (q ln : Nat) (dirty keep : Bool)  : (State.allocate s q ln dirty keep).pending = s.pending := by
  simp [State.allocate]

@[simp] theorem State.cacheLine_pending (s : State) (q ln : Nat) (dirty : Bool) (cls : Nat)  : (State.cacheLine s q ln dirty cls).pending = s.pending := by
  simp [State.cacheLine, apply_ite State.pending, apply_ite Prod.fst, apply_ite Prod.snd]

@[simp] theorem State.countCache_pending (s : State) (q : Nat) (hit : Bool)  : (State.countCache s q hit).pending = s.pending := by
  simp [State.countCache, apply_ite State.pending, apply_ite Prod.fst, apply_ite Prod.snd]

@[simp] theorem State.wakeSlices_pending (s : State) (ln : Nat)  : (State.wakeSlices s ln).pending = s.pending := by
  simp [State.wakeSlices, apply_ite State.pending, apply_ite Prod.fst, apply_ite Prod.snd]

@[simp] theorem State.touchRead_pending (s : State) (ln : Nat) (cls : Nat)  : (State.touchRead s ln cls).pending = s.pending := by
  unfold State.touchRead
  repeat' (first | (simp [apply_ite State.pending, apply_ite Prod.fst, apply_ite Prod.snd]; done) | split | (refine (State.each_pending _ _ _ ?_).trans ?_ <;> intros) | simp [apply_ite State.pending, apply_ite Prod.fst, apply_ite Prod.snd])

@[simp] theorem State.touchRange_pending (s : State) (a n : Nat) (cls : Nat)  : (State.touchRange s a n cls).pending = s.pending := by
  simp [State.touchRange, apply_ite State.pending, apply_ite Prod.fst, apply_ite Prod.snd]

@[simp] theorem State.combPressure_pending (s : State) (q ln : Nat)  : (State.combPressure s q ln).pending = s.pending := by
  unfold State.combPressure
  dsimp only
  split
  · rfl
  · split
    · rfl
    · split
      · split
        · rfl
        · simp
      · rfl

@[simp] theorem State.combineWrite_pending (s : State) (k ln : Nat) (d : Line) (mask : BitVec 64) (poison : Bool) (cls : Nat)  : (State.combineWrite s k ln d mask poison cls).pending = s.pending := by
  unfold State.combineWrite
  dsimp only
  split
  · simp
  · split <;> split <;> simp

@[simp] theorem State.copyFirst_pending (s : State) (ln : Nat)  : (State.copyFirst s ln).pending = s.pending := by
  simp [State.copyFirst, apply_ite State.pending, apply_ite Prod.fst, apply_ite Prod.snd]

@[simp] theorem State.tunWrite_pending (s : State) (ln : Nat) (d : Line) (mask : BitVec 64) (poison : Bool) (cls : Nat)  : (State.tunWrite s ln d mask poison cls).pending = s.pending := by
  unfold State.tunWrite; (repeat' split) <;> simp [apply_ite State.pending, apply_ite Prod.fst, apply_ite Prod.snd]

@[simp] theorem State.deviceScan_pending (s : State) (bytes : Nat) (poisoned : Bool)  : (State.deviceScan s bytes poisoned).pending = s.pending := by
  simp [State.deviceScan]

@[simp] theorem State.access_pending (s : State) (c : Instr) (lines : List Nat) (need : Nat → Option Nat) (f : State → State) (hf : ∀ s : State, (f s).pending = s.pending) : (State.access s c lines need f).pending = s.pending := by
  simp [State.access, apply_ite State.pending, apply_ite Prod.fst, apply_ite Prod.snd, hf]

@[simp] theorem State.counterAdd_pending (s : State) (n : Nat) (a : Int)  : (State.counterAdd s n a).pending = s.pending := by
  simp [State.counterAdd, apply_ite State.pending, apply_ite Prod.fst, apply_ite Prod.snd]

@[simp] theorem State.reason_pending (s : State) (q code : Nat)  : (State.reason s q code).pending = s.pending := by
  simp [State.reason, apply_ite State.pending, apply_ite Prod.fst, apply_ite Prod.snd]

@[simp] theorem State.infReport_pending (s : State) (q job : Nat) (inf : Bool)  : (State.infReport s q job inf).pending = s.pending := by
  simp [State.infReport, apply_ite State.pending, apply_ite Prod.fst, apply_ite Prod.snd]

@[simp] theorem State.ledgerAdd_pending (s : State) (r : LedgerRec)  : (State.ledgerAdd s r).1.pending = s.pending := by
  simp [State.ledgerAdd, apply_ite State.pending, apply_ite Prod.fst, apply_ite Prod.snd]

@[simp] theorem State.undoLine_pending (s : State) (ln : Nat) (d : Line) (bad : Bool)  : (State.undoLine s ln d bad).pending = s.pending := by
  unfold State.undoLine; (repeat' split) <;> simp [apply_ite State.pending, apply_ite Prod.fst, apply_ite Prod.snd]

@[simp] theorem State.undo_pending (s : State) (r : LedgerRec)  : (State.undo s r).pending = s.pending := by
  simp [State.undo, apply_ite State.pending, apply_ite Prod.fst, apply_ite Prod.snd]

@[simp] theorem State.clearSums_pending (s : State)  : (State.clearSums s).pending = s.pending := by
  simp [State.clearSums]

@[simp] theorem State.restoreCounters_pending (s : State)  : (State.restoreCounters s).pending = s.pending := by
  simp [State.restoreCounters, apply_ite State.pending, apply_ite Prod.fst, apply_ite Prod.snd]

@[simp] theorem State.rollbackData_pending (s : State)  : (State.rollbackData s).pending = s.pending := by
  simp [State.rollbackData]

@[simp] theorem State.releaseLedger_pending (s : State)  : (State.releaseLedger s).pending = s.pending := by
  simp [State.releaseLedger]

@[simp] theorem State.releaseIn_pending (s : State)  : (State.releaseIn s).pending = s.pending := by
  simp [State.releaseIn]

@[simp] theorem State.escIdle_pending (s : State)  : (State.escIdle s).pending = s.pending := by
  simp [State.escIdle]

@[simp] theorem State.throttleUpdate_pending (s : State) (p : Nat)  : (State.throttleUpdate s p).pending = s.pending := by
  simp [State.throttleUpdate]

@[simp] theorem State.inject_pending (s : State) (p : Packet)  : (State.inject s p).pending = s.pending := by
  unfold State.inject
  repeat' (first | (simp [apply_ite State.pending, apply_ite Prod.fst, apply_ite Prod.snd]; done) | split | (refine (State.each_pending _ _ _ ?_).trans ?_ <;> intros) | simp [apply_ite State.pending, apply_ite Prod.fst, apply_ite Prod.snd])

@[simp] theorem State.refill_pending (s : State)  : (State.refill s).pending = s.pending := by
  simp [State.refill]

@[simp] theorem State.setTokens_pending (s : State) (d : BitVec 17) (n : Nat)  : (State.setTokens s d n).pending = s.pending := by
  simp [State.setTokens]

@[simp] theorem State.sendNow_pending (s : State) (r : Request) (p : Packet)  : (State.sendNow s r p).pending = s.pending := by
  simp [State.sendNow, apply_ite State.pending, apply_ite Prod.fst, apply_ite Prod.snd]

@[simp] theorem State.noteAdded_pending (s : State) (r : Request) (p : Packet)  : (State.noteAdded s r p).pending = s.pending := by
  unfold State.noteAdded; (repeat' split) <;> simp [apply_ite State.pending, apply_ite Prod.fst, apply_ite Prod.snd]

@[simp] theorem State.pump_pending (s : State)  : (State.pump s).pending = s.pending := by
  simp [State.pump, apply_ite State.pending, apply_ite Prod.fst, apply_ite Prod.snd]

@[simp] theorem State.nextInterval_pending (s : State)  : (State.nextInterval s).pending = s.pending := by
  simp [State.nextInterval, apply_ite State.pending, apply_ite Prod.fst, apply_ite Prod.snd]

@[simp] theorem State.request_pending (s : State) (r : Request) (p : Packet)  : (State.request s r p).pending = s.pending := by
  simp [State.request]

@[simp] theorem State.closeRequest_pending (s : State) (r : Request)  : (State.closeRequest s r).pending = s.pending := by
  simp [State.closeRequest]

@[simp] theorem State.respond_pending (s : State) (q : Packet) (type status : Nat) (lines : List Line) (poison : List Bool) (addr : BitVec 42) (final : Bool)  : (State.respond s q type status lines poison addr final).pending = s.pending := by
  simp [State.respond, apply_ite State.pending, apply_ite Prod.fst, apply_ite Prod.snd]

@[simp] theorem State.nackTo_pending (s : State) (q : Packet) (status : Nat)  : (State.nackTo s q status).pending = s.pending := by
  simp [State.nackTo]

@[simp] theorem State.sendSync_pending (s : State) (job slot sub phase : Nat) (dst : BitVec 17)  : (State.sendSync s job slot sub phase dst).pending = s.pending := by
  simp [State.sendSync]

@[simp] theorem State.syncNeighbours_pending (s : State) (job slot sub phase : Nat) (x : Slot) (skip : Option (BitVec 17))  : (State.syncNeighbours s job slot sub phase x skip).pending = s.pending := by
  unfold State.syncNeighbours
  repeat' (first | (simp [apply_ite State.pending, apply_ite Prod.fst, apply_ite Prod.snd]; done) | split | (refine (State.each_pending _ _ _ ?_).trans ?_ <;> intros) | simp [apply_ite State.pending, apply_ite Prod.fst, apply_ite Prod.snd])

@[simp] theorem State.sendColl_pending (s : State) (job stream : Nat) (opid : BitVec 32) (sub : Nat) (addr : Nat) (lines : List Line) (poison : List Bool) (dst : BitVec 17)  : (State.sendColl s job stream opid sub addr lines poison dst).pending = s.pending := by
  simp [State.sendColl]

@[simp] theorem State.streamIrq_pending (s : State) (i : Nat)  : (State.streamIrq s i).pending = s.pending := by
  simp [State.streamIrq]

@[simp] theorem State.writeRecord_pending (s : State) (i : Nat) (r : HeldRecord)  : (State.writeRecord s i r).pending = s.pending := by
  simp [State.writeRecord, apply_ite State.pending, apply_ite Prod.fst, apply_ite Prod.snd]

@[simp] theorem State.putRecord_pending (s : State) (i : Nat) (r : HeldRecord)  : (State.putRecord s i r).pending = s.pending := by
  simp [State.putRecord, apply_ite State.pending, apply_ite Prod.fst, apply_ite Prod.snd]

@[simp] theorem State.endCommand_pending (s : State) (i : Nat) (c : CmdRun) (r : HeldRecord)  : (State.endCommand s i c r).pending = s.pending := by
  simp [State.endCommand, apply_ite State.pending, apply_ite Prod.fst, apply_ite Prod.snd]

@[simp] theorem State.setDev_pending (s : State) (d : DevState)  : (State.setDev s d).pending = s.pending := by
  simp [State.setDev, apply_ite State.pending, apply_ite Prod.fst, apply_ite Prod.snd]

@[simp] theorem State.storeDump_pending (s : State) (d : DumpRec)  : (State.storeDump s d).pending = s.pending := by
  simp [State.storeDump]

@[simp] theorem State.copyDump_pending (s : State)  : (State.copyDump s).pending = s.pending := by
  unfold State.copyDump; (repeat' split) <;> simp [apply_ite State.pending, apply_ite Prod.fst, apply_ite Prod.snd]

@[simp] theorem State.dump_pending (s : State) (trigger cause : Nat)  : (State.dump s trigger cause).pending = s.pending := by
  simp [State.dump, apply_ite State.pending, apply_ite Prod.fst, apply_ite Prod.snd]

@[simp] theorem State.wakeCore_pending (s : State) (c : Nat)  : (State.wakeCore s c).pending = s.pending := by
  unfold State.wakeCore; (repeat' split) <;> simp [apply_ite State.pending, apply_ite Prod.fst, apply_ite Prod.snd]

@[simp] theorem State.beginWaiting_pending (s : State)  : (State.beginWaiting s).pending = s.pending := by
  unfold State.beginWaiting
  repeat' (first | (simp [apply_ite State.pending, apply_ite Prod.fst, apply_ite Prod.snd]; done) | split | (refine (State.each_pending _ _ _ ?_).trans ?_ <;> intros) | simp [apply_ite State.pending, apply_ite Prod.fst, apply_ite Prod.snd])

@[simp] theorem State.orphanBlock_pending (s : State) (b : Nat)  : (State.orphanBlock s b).pending = s.pending := by
  simp [State.orphanBlock, apply_ite State.pending, apply_ite Prod.fst, apply_ite Prod.snd]

@[simp] theorem State.orphanWaiters_pending (s : State) (n : Nat)  : (State.orphanWaiters s n).pending = s.pending := by
  simp [State.orphanWaiters, apply_ite State.pending, apply_ite Prod.fst, apply_ite Prod.snd]

@[simp] theorem State.drillFails_pending (s : State)  : (State.drillFails s).pending = s.pending := by
  simp [State.drillFails]

@[simp] theorem State.dropAssay_pending (s : State) (c : Nat) (a : AssayRec)  : (State.dropAssay s c a).pending = s.pending := by
  simp [State.dropAssay, apply_ite State.pending, apply_ite Prod.fst, apply_ite Prod.snd]

@[simp] theorem State.abandonFor_pending (s : State) (c j : Nat)  : (State.abandonFor s c j).pending = s.pending := by
  simp [State.abandonFor]

@[simp] theorem State.stopCore_pending (s : State) (c j : Nat)  : (State.stopCore s c j).pending = s.pending := by
  simp [State.stopCore, apply_ite State.pending, apply_ite Prod.fst, apply_ite Prod.snd]

@[simp] theorem State.abortColl_pending (s : State) (r : CollRun)  : (State.abortColl s r).pending = s.pending := by
  unfold State.abortColl
  repeat' (first | (simp [apply_ite State.pending, apply_ite Prod.fst, apply_ite Prod.snd]; done) | split | (refine (State.each_pending _ _ _ ?_).trans ?_ <;> intros) | simp [apply_ite State.pending, apply_ite Prod.fst, apply_ite Prod.snd])

@[simp] theorem State.orphan_pending (s : State) (j : Nat)  : (State.orphan s j).pending = s.pending := by
  simp [State.orphan, apply_ite State.pending, apply_ite Prod.fst, apply_ite Prod.snd]

@[simp] theorem State.escStopped_pending (s : State)  : (State.escStopped s).pending = s.pending := by
  unfold State.escStopped
  repeat' (first | (simp [apply_ite State.pending, apply_ite Prod.fst, apply_ite Prod.snd]; done) | split | (refine (State.each_pending _ _ _ ?_).trans ?_ <;> intros) | simp [apply_ite State.pending, apply_ite Prod.fst, apply_ite Prod.snd])

@[simp] theorem State.gatedStopped_pending (s : State)  : (State.gatedStopped s).pending = s.pending := by
  simp [State.gatedStopped, apply_ite State.pending, apply_ite Prod.fst, apply_ite Prod.snd]

@[simp] theorem State.stopCommand_pending (s : State) (i : Nat) (cause : BitVec 16) (c : CmdRun)  : (State.stopCommand s i cause c).pending = s.pending := by
  simp [State.stopCommand]

@[simp] theorem State.stopStream_pending (s : State) (i j : Nat) (cause : BitVec 16)  : (State.stopStream s i j cause).pending = s.pending := by
  simp [State.stopStream, apply_ite State.pending, apply_ite Prod.fst, apply_ite Prod.snd]

@[simp] theorem State.endWork_pending (s : State) (j : Nat)  : (State.endWork s j).pending = s.pending := by
  simp [State.endWork]

@[simp] theorem State.stopJobNow_pending (s : State) (j : Nat) (cause : BitVec 16)  : (State.stopJobNow s j cause).pending = s.pending := by
  simp [State.stopJobNow, apply_ite State.pending, apply_ite Prod.fst, apply_ite Prod.snd]

@[simp] theorem State.stopJob_pending (s : State) (j : Nat) (cause : BitVec 16)  : (State.stopJob s j cause).pending = s.pending := by
  simp [State.stopJob, apply_ite State.pending, apply_ite Prod.fst, apply_ite Prod.snd]

@[simp] theorem State.stopAll_pending (s : State) (cause : BitVec 16)  : (State.stopAll s cause).pending = s.pending := by
  simp [State.stopAll]

@[simp] theorem State.escStop_pending (s : State) (cause : BitVec 16)  : (State.escStop s cause).pending = s.pending := by
  simp [State.escStop, apply_ite State.pending, apply_ite Prod.fst, apply_ite Prod.snd]

@[simp] theorem State.record_pending (s : State) (r : LedgerRec)  : (State.record s r).pending = s.pending := by
  simp [State.record, apply_ite State.pending, apply_ite Prod.fst, apply_ite Prod.snd]

theorem foldState_pending {α : Type} (f : State × Bool → α → State × Bool) (hf : ∀ x a, (f x a).1.pending = x.1.pending) (l : List α) (x : State × Bool) :
    (l.foldl f x).1.pending = x.1.pending := by
  induction l generalizing x with
  | nil => rfl
  | cons a r ih => exact (ih _).trans (hf _ _)

@[simp] theorem State.recordThen_pending (s : State) (l : List LedgerRec) (f : State → State) (hf : ∀ s : State, (f s).pending = s.pending) : (s.recordThen l f).pending = s.pending := by
  unfold State.recordThen
  have h : ∀ x : State × Bool, (l.foldl (fun (acc : State × Bool) r => if acc.2 then acc else acc.1.ledgerAdd r) x).1.pending = x.1.pending :=
    foldState_pending _ (fun x a => by split <;> simp) l
  dsimp only
  split <;> simp [hf, h]

@[simp] theorem State.consume_pending (s : State) (line unit stream job : Nat) (drill : Bool)  : (State.consume s line unit stream job drill).pending = s.pending := by
  simp [State.consume, apply_ite State.pending, apply_ite Prod.fst, apply_ite Prod.snd]

@[simp] theorem State.enterFault_pending (s : State) (cause : Nat)  : (State.enterFault s cause).pending = s.pending := by
  simp [State.enterFault, apply_ite State.pending, apply_ite Prod.fst, apply_ite Prod.snd]

@[simp] theorem State.inDoubt_pending (s : State) (r : Request)  : (State.inDoubt s r).pending = s.pending := by
  simp [State.inDoubt, apply_ite State.pending, apply_ite Prod.fst, apply_ite Prod.snd]

@[simp] theorem State.forgetRequests_pending (s : State) (f : Request → Bool)  : (State.forgetRequests s f).pending = s.pending := by
  simp [State.forgetRequests]

@[simp] theorem State.modRun_pending (s : State) (c e : Nat) (seq : BitVec 32) (f : DmaRun → DmaRun)  : (State.modRun s c e seq f).pending = s.pending := by
  simp [State.modRun]

@[simp] theorem State.rackAbandon_pending (s : State)  : (State.rackAbandon s).pending = s.pending := by
  simp [State.rackAbandon, apply_ite State.pending, apply_ite Prod.fst, apply_ite Prod.snd]

@[simp] theorem State.failRequest_pending (s : State) (r : Request) (status : Nat)  : (State.failRequest s r status).pending = s.pending := by
  unfold State.failRequest; (repeat' split) <;> simp [apply_ite State.pending, apply_ite Prod.fst, apply_ite Prod.snd]

@[simp] theorem State.takeCmd_pending (s : State) (i : Nat) (n : NextCmd)  : (State.takeCmd s i n).pending = s.pending := by
  simp [State.takeCmd, apply_ite State.pending, apply_ite Prod.fst, apply_ite Prod.snd]

@[simp] theorem State.touchSpan_pending (s : State) (x : Nat × Nat) : (State.touchSpan s x).pending = s.pending := by
  simp [State.touchSpan, apply_ite State.pending]

@[simp] theorem State.touchRecord_pending (s : State) (b : List Byte) : (State.touchRecord s b).pending = s.pending := by
  unfold State.touchRecord; split <;> simp

@[simp] theorem State.startCmd_pending (s : State) (i : Nat) (pick : List Byte → Bool) (used : List (Nat × Nat)) (plan : State → Nat → List Byte → NextCmd → CmdPlan)
    (hp : ∀ s j b n t, ((plan s j b n).rejected t).pending = t.pending) (he : ∀ s j b n t, ((plan s j b n).eff t).1.pending = t.pending) :
    (s.startCmd i pick used plan).pending = s.pending := by
  unfold State.startCmd
  split
  · rfl
  · split
    · rfl
    · dsimp only
      split
      · simp
      · split <;> simp [hp, he, apply_ite State.pending]

@[simp] theorem State.stopSiblings_pending (s : State) (c : Nat)  : (State.stopSiblings s c).pending = s.pending := by
  simp [State.stopSiblings, apply_ite State.pending, apply_ite Prod.fst, apply_ite Prod.snd]

@[simp] theorem State.coreFault_pending (s : State) (c code : Nat) (word : BitVec 128) (detail : Nat)  : (State.coreFault s c code word detail).pending = s.pending := by
  simp [State.coreFault]

@[simp] theorem State.coreConsume_pending (s : State) (c line : Nat)  : (State.coreConsume s c line).pending = s.pending := by
  simp [State.coreConsume]

@[simp] theorem State.fetch_pending (s : State) (c : Nat)  : (State.fetch s c).pending = s.pending := by
  simp [State.fetch, apply_ite State.pending, apply_ite Prod.fst, apply_ite Prod.snd]

@[simp] theorem State.issue_pending (s : State) (c : Nat) (word : BitVec 128) (i : Issue) (eff : State → State) (heff : ∀ s : State, (eff s).pending = s.pending) : (State.issue s c word i eff).pending = s.pending := by
  unfold State.issue; (repeat' split) <;> simp [apply_ite State.pending, apply_ite Prod.fst, apply_ite Prod.snd, heff]

@[simp] theorem coreStep_pending (c : Nat) (f : Core → Core) (s : State)  : (coreStep c f s).pending = s.pending := by
  simp [coreStep]

@[simp] theorem State.effect_pending (s : State) (c : Nat) (rd : Option Nat) (eff : State → State × Word) (pz : Bool) (heff : ∀ s : State, (eff s).1.pending = s.pending) : (State.effect s c rd eff pz).pending = s.pending := by
  unfold State.effect; (repeat' split) <;> simp [apply_ite State.pending, apply_ite Prod.fst, apply_ite Prod.snd, heff]

@[simp] theorem State.scsr_pending (s : State) (c : Nat) (w : GenFields) (clear : Bool)  : (State.scsr s c w clear).pending = s.pending := by
  simp [State.scsr, apply_ite State.pending, apply_ite Prod.fst, apply_ite Prod.snd]

@[simp] theorem lanewise_pending (c w d : Nat) (p : BitVec 512) (src : List Nat) (op : List Nat → Nat) (s : State)  : (lanewise c w d p src op s).pending = s.pending := by
  simp [lanewise]

@[simp] theorem State.residueEvent_pending (s : State) (c job : Nat) (w : ResidueSite)  : (State.residueEvent s c job w).pending = s.pending := by
  simp [State.residueEvent, apply_ite State.pending, apply_ite Prod.fst, apply_ite Prod.snd]

@[simp] theorem State.blockOverflow_pending (s : State) (q job n : Nat)  : (State.blockOverflow s q job n).pending = s.pending := by
  simp [State.blockOverflow, apply_ite State.pending, apply_ite Prod.fst, apply_ite Prod.snd]

@[simp] theorem State.vscatter_pending (s : State) (c : Nat) (w : GenFields) (add : Bool)  : (State.vscatter s c w add).pending = s.pending := by
  simp [State.vscatter]

@[simp] theorem State.openAssay_pending (s : State) (c : Nat) (t : TileRec)  : (State.openAssay s c t).pending = s.pending := by
  simp [State.openAssay]

@[simp] theorem State.modAssay_pending (s : State) (c seq : Nat) (f : AssayRec → AssayRec)  : (State.modAssay s c seq f).pending = s.pending := by
  simp [State.modAssay, apply_ite State.pending, apply_ite Prod.fst, apply_ite Prod.snd]

@[simp] theorem State.claimAssay_pending (s : State) (c seq : Nat) (block : Option EpiRec)  : (State.claimAssay s c seq block).pending = s.pending := by
  unfold State.claimAssay; (repeat' split) <;> simp [apply_ite State.pending, apply_ite Prod.fst, apply_ite Prod.snd]

@[simp] theorem State.haltClaims_pending (s : State) (c : Nat)  : (State.haltClaims s c).pending = s.pending := by
  simp [State.haltClaims]

@[simp] theorem State.arrayResidue_pending (s : State) (c b : Nat) (t : TileRec)  : (State.arrayResidue s c b t).pending = s.pending := by
  simp [State.arrayResidue]

@[simp] theorem State.epiReport_pending (s : State) (c : Nat) (t : TileRec) (o : EpiOut)  : (State.epiReport s c t o).pending = s.pending := by
  simp [State.epiReport, apply_ite State.pending, apply_ite Prod.fst, apply_ite Prod.snd]

@[simp] theorem State.drainFolds_pending (s : State) (c f0 f1 : Nat)  : (State.drainFolds s c f0 f1).pending = s.pending := by
  unfold State.drainFolds; (repeat' split) <;> simp [apply_ite State.pending, apply_ite Prod.fst, apply_ite Prod.snd]

@[simp] theorem State.chargeMismatch_pending (s : State) (c : Nat)  : (State.chargeMismatch s c).pending = s.pending := by
  simp [State.chargeMismatch]

@[simp] theorem State.lateReason_pending (s : State) (q code : Nat)  : (State.lateReason s q code).pending = s.pending := by
  simp [State.lateReason, apply_ite State.pending, apply_ite Prod.fst, apply_ite Prod.snd]

@[simp] theorem State.assayMismatch_pending (s : State) (c origin : Nat) (t : TileRec)  : (State.assayMismatch s c origin t).pending = s.pending := by
  simp [State.assayMismatch, apply_ite State.pending, apply_ite Prod.fst, apply_ite Prod.snd]

@[simp] theorem State.assayJudge_pending (s : State) (c : Nat) (a : AssayRec) (own origin : Word)  : (State.assayJudge s c a own origin).pending = s.pending := by
  simp [State.assayJudge, apply_ite State.pending, apply_ite Prod.fst, apply_ite Prod.snd]

@[simp] theorem State.assayMeets_pending (s : State) (c seq : Nat) (origin : Word)  : (State.assayMeets s c seq origin).pending = s.pending := by
  unfold State.assayMeets
  refine State.each_pending _ _ _ (fun s i => ?_)
  split
  · split
    · simp
    · rfl
  · rfl

@[simp] theorem State.doorDiscard_pending (s : State)  : (State.doorDiscard s).pending = s.pending := by
  simp [State.doorDiscard]

@[simp] theorem State.tailWrite_pending (s : State) (i : Nat) (v : BitVec 32)  : (State.tailWrite s i v).pending = s.pending := by
  simp [State.tailWrite, apply_ite State.pending, apply_ite Prod.fst, apply_ite Prod.snd]

@[simp] theorem State.releaseHeld_pending (s : State) (i : Nat)  : (State.releaseHeld s i).pending = s.pending := by
  simp [State.releaseHeld]

@[simp] theorem State.compHeadWrite_pending (s : State) (i : Nat) (v : BitVec 32)  : (State.compHeadWrite s i v).pending = s.pending := by
  simp [State.compHeadWrite, apply_ite State.pending, apply_ite Prod.fst, apply_ite Prod.snd]

@[simp] theorem State.control_pending (s : State) (i : Nat) (f : Stream → Stream)  : (State.control s i f).pending = s.pending := by
  simp [State.control, apply_ite State.pending, apply_ite Prod.fst, apply_ite Prod.snd]

@[simp] theorem State.retry_pending (s : State) (i : Nat)  : (State.retry s i).pending = s.pending := by
  simp [State.retry]

@[simp] theorem State.skip_pending (s : State) (i : Nat)  : (State.skip s i).pending = s.pending := by
  simp [State.skip]

@[simp] theorem State.flush_pending (s : State) (i : Nat)  : (State.flush s i).pending = s.pending := by
  simp [State.flush]

@[simp] theorem State.streamConfig_pending (s : State) (i : Nat) (cfg : List Byte)  : (State.streamConfig s i cfg).1.pending = s.pending := by
  simp [State.streamConfig, apply_ite State.pending, apply_ite Prod.fst, apply_ite Prod.snd]

@[simp] theorem State.streamEnable_pending (s : State) (i : Nat)  : (State.streamEnable s i).1.pending = s.pending := by
  simp [State.streamEnable, apply_ite State.pending, apply_ite Prod.fst, apply_ite Prod.snd]

@[simp] theorem State.freeOwned_pending (s : State) (j : Nat)  : (State.freeOwned s j).pending = s.pending := by
  simp [State.freeOwned, apply_ite State.pending, apply_ite Prod.fst, apply_ite Prod.snd]

@[simp] theorem State.streamDisable_pending (s : State) (i : Nat)  : (State.streamDisable s i).1.pending = s.pending := by
  simp [State.streamDisable, apply_ite State.pending, apply_ite Prod.fst, apply_ite Prod.snd]

@[simp] theorem State.copyOut_pending (s : State) (host dev n : Nat)  : (State.copyOut s host dev n).pending = s.pending := by
  simp [State.copyOut]

@[simp] theorem State.hostLine_pending (s : State) (ln : Nat) (d : Line) (mask : BitVec 64) (ep : Bool)  : (State.hostLine s ln d mask ep).1.pending = s.pending := by
  simp [State.hostLine, apply_ite State.pending, apply_ite Prod.fst, apply_ite Prod.snd]

@[simp] theorem State.hostLines_pending (s : State) (l : List Nat) (f : State → Nat → State × Bool) (hf : ∀ (s : State) k, (f s k).1.pending = s.pending) :
    (s.hostLines l f).pending = s.pending := by
  unfold State.hostLines
  exact foldState_pending _ (fun x a => by split <;> simp [hf]) l _

@[simp] theorem State.copyIn_pending (s : State) (host dev n : Nat)  : (State.copyIn s host dev n).pending = s.pending := by
  simp [State.copyIn]

@[simp] theorem State.jobRelease_pending (s : State) (j : Nat)  : (State.jobRelease s j).pending = s.pending := by
  simp [State.jobRelease, apply_ite State.pending, apply_ite Prod.fst, apply_ite Prod.snd]

@[simp] theorem State.sendCard_pending (s : State) (p : Nat)  : (State.sendCard s p).pending = s.pending := by
  simp [State.sendCard]

@[simp] theorem State.word_pending (s : State) (p kind value : Nat)  : (State.word s p kind value).pending = s.pending := by
  simp [State.word]

@[simp] theorem State.freeBuffer_pending (s : State) (r v : Nat)  : (State.freeBuffer s r v).pending = s.pending := by
  simp [State.freeBuffer, apply_ite State.pending, apply_ite Prod.fst, apply_ite Prod.snd]

@[simp] theorem State.answerNack_pending (s : State) (k : Packet) (status : Nat)  : (State.answerNack s k status).pending = s.pending := by
  simp [State.answerNack]

@[simp] theorem State.loseRetry_pending (s : State) (p : Nat)  : (State.loseRetry s p).pending = s.pending := by
  simp [State.loseRetry, apply_ite State.pending, apply_ite Prod.fst, apply_ite Prod.snd]

@[simp] theorem State.holdBack_pending (s : State) (p : Nat)  : (State.holdBack s p).pending = s.pending := by
  simp [State.holdBack, apply_ite State.pending, apply_ite Prod.fst, apply_ite Prod.snd]

@[simp] theorem State.loseLink_pending (s : State) (p : Nat)  : (State.loseLink s p).pending = s.pending := by
  simp [State.loseLink]

@[simp] theorem State.portDown_pending (s : State) (p : Nat)  : (State.portDown s p).pending = s.pending := by
  simp [State.portDown, apply_ite State.pending, apply_ite Prod.fst, apply_ite Prod.snd]

@[simp] theorem State.portRetrain_pending (s : State) (p : Nat)  : (State.portRetrain s p).pending = s.pending := by
  simp [State.portRetrain, apply_ite State.pending, apply_ite Prod.fst, apply_ite Prod.snd]

@[simp] theorem State.portMatched_pending (s : State) (p : Nat)  : (State.portMatched s p).pending = s.pending := by
  simp [State.portMatched, apply_ite State.pending, apply_ite Prod.fst, apply_ite Prod.snd]

@[simp] theorem State.compareCard_pending (s : State) (p : Nat) (c : List Byte)  : (State.compareCard s p c).pending = s.pending := by
  unfold State.compareCard; (repeat' split) <;> simp [apply_ite State.pending, apply_ite Prod.fst, apply_ite Prod.snd]

@[simp] theorem State.coordWrite_pending (s : State) (v : Nat)  : (State.coordWrite s v).1.pending = s.pending := by
  simp [State.coordWrite, apply_ite State.pending, apply_ite Prod.fst, apply_ite Prod.snd]

@[simp] theorem State.laneFails_pending (s : State) (p lane : Nat)  : (State.laneFails s p lane).pending = s.pending := by
  simp [State.laneFails, apply_ite State.pending, apply_ite Prod.fst, apply_ite Prod.snd]

@[simp] theorem State.creditAudit_pending (s : State) (p : Nat)  : (State.creditAudit s p).pending = s.pending := by
  simp [State.creditAudit, apply_ite State.pending, apply_ite Prod.fst, apply_ite Prod.snd]

@[simp] theorem State.freshReport_pending (s : State) (p : Nat)  : (State.freshReport s p).pending = s.pending := by
  simp [State.freshReport]

@[simp] theorem State.d2dLost_pending (s : State) (l : Nat)  : (State.d2dLost s l).pending = s.pending := by
  simp [State.d2dLost, apply_ite State.pending, apply_ite Prod.fst, apply_ite Prod.snd]

@[simp] theorem State.bufferLine_pending (s : State) (k ln : Nat)  : (State.bufferLine s k ln).pending = s.pending := by
  simp [State.bufferLine, apply_ite State.pending, apply_ite Prod.fst, apply_ite Prod.snd]

@[simp] theorem State.adder_pending (s : State) (op mask ln : Nat) (x cmp : Line) (poison ordered : Bool)  : (State.adder s op mask ln x cmp poison ordered).1.pending = s.pending := by
  unfold State.adder
  repeat' (first | (simp [apply_ite State.pending, apply_ite Prod.fst, apply_ite Prod.snd]; done) | split | (refine (State.each_pending _ _ _ ?_).trans ?_ <;> intros) | simp [apply_ite State.pending, apply_ite Prod.fst, apply_ite Prod.snd])

@[simp] theorem State.tunBytes_pending (s : State) (a : Nat) (b : List Byte) (bad : Nat → Bool) (cls : Nat)  : (State.tunBytes s a b bad cls).pending = s.pending := by
  simp [State.tunBytes, apply_ite State.pending, apply_ite Prod.fst, apply_ite Prod.snd]

@[simp] theorem State.applyInput_pending (s : State) (r : LedgerRec)  : (State.applyInput s r).pending = s.pending := by
  unfold State.applyInput; (repeat' split) <;> simp [apply_ite State.pending, apply_ite Prod.fst, apply_ite Prod.snd]

@[simp] theorem State.touchList_pending (s : State)  : (State.touchList s).pending = s.pending := by
  unfold State.touchList; (repeat' split) <;> simp [apply_ite State.pending, apply_ite Prod.fst, apply_ite Prod.snd]

@[simp] theorem State.sendLines_pending (s : State) (dst : BitVec 17) (unit : UnitId) (a : Nat) (l : List (Line × Bool))  : (State.sendLines s dst unit a l).pending = s.pending := by
  simp [State.sendLines]

@[simp] theorem State.rackAdvance_pending (s : State)  : (State.rackAdvance s).pending = s.pending := by
  simp [State.rackAdvance, apply_ite State.pending, apply_ite Prod.fst, apply_ite Prod.snd]

@[simp] theorem State.rackSend_pending (s : State) (b : Nat) (lines : List (Line × Bool))  : (State.rackSend s b lines).pending = s.pending := by
  unfold State.rackSend
  repeat' (first | (simp [apply_ite State.pending, apply_ite Prod.fst, apply_ite Prod.snd]; done) | split | (refine (State.each_pending _ _ _ ?_).trans ?_ <;> intros) | simp [apply_ite State.pending, apply_ite Prod.fst, apply_ite Prod.snd])

@[simp] theorem State.startEpoch_pending (s : State) (step : Word)  : (State.startEpoch s step).pending = s.pending := by
  unfold State.startEpoch
  dsimp only
  split
  · rfl
  · split <;> simp

@[simp] theorem State.cellarPut_pending (s : State) (a : Nat) (d : Line) (poison : Bool)  : (State.cellarPut s a d poison).pending = s.pending := by
  unfold State.cellarPut; (repeat' split) <;> simp [apply_ite State.pending, apply_ite Prod.fst, apply_ite Prod.snd]

@[simp] theorem State.spargeTraffic_pending (s : State)  : (State.spargeTraffic s).pending = s.pending := by
  simp [State.spargeTraffic, apply_ite State.pending, apply_ite Prod.fst, apply_ite Prod.snd]

@[simp] theorem State.arrive_pending (s : State) (via : Option (Fin 12)) (p : Packet)  : (State.arrive s via p).pending = s.pending := by
  unfold State.arrive; (repeat' split) <;> simp [apply_ite State.pending, apply_ite Prod.fst, apply_ite Prod.snd]

@[simp] theorem State.requestIn_pending (s : State) (via : Option (Fin 12)) (p : Packet) (mine : Bool) (f : State → Packet → State) (hf : ∀ (s : State) (x0 : Packet), (f s x0).pending = s.pending) : (State.requestIn s via p mine f).pending = s.pending := by
  simp [State.requestIn, apply_ite State.pending, apply_ite Prod.fst, apply_ite Prod.snd, hf]

@[simp] theorem State.responseIn_pending (s : State) (via : Option (Fin 12)) (p : Packet) (mine : Bool) (kind : Option Nat) (f : State → Packet → Request → State) (hf : ∀ (s : State) (x0 : Packet) (x1 : Request), (f s x0 x1).pending = s.pending) : (State.responseIn s via p mine kind f).pending = s.pending := by
  unfold State.responseIn
  repeat' (first | (simp [apply_ite State.pending, apply_ite Prod.fst, apply_ite Prod.snd, hf]; done) | split | (refine (State.each_pending _ _ _ ?_).trans ?_ <;> intros) | simp [apply_ite State.pending, apply_ite Prod.fst, apply_ite Prod.snd, hf])

@[simp] theorem State.deadEnd_pending (s : State) (r : Nat) (p : Packet) (status : Nat)  : (State.deadEnd s r p status).pending = s.pending := by
  simp [State.deadEnd, apply_ite State.pending, apply_ite Prod.fst, apply_ite Prod.snd]

@[simp] theorem State.holdIn_pending (s : State) (p : Packet)  : (State.holdIn s p).pending = s.pending := by
  simp [State.holdIn]

@[simp] theorem State.accessIn_pending (s : State) (c : Instr) (lines : List Nat) (need : Nat → Option Nat) (f : State → State) (hf : ∀ s : State, (f s).pending = s.pending) : (State.accessIn s c lines need f).pending = s.pending := by
  simp [State.accessIn, apply_ite State.pending, apply_ite Prod.fst, apply_ite Prod.snd, hf]

@[simp] theorem State.finish_pending (s : State) (r : Request)  : (State.finish s r).pending = s.pending := by
  simp [State.finish]

@[simp] theorem State.dmaAnswered_pending (s : State) (c e : Nat) (seq : BitVec 32)  : (State.dmaAnswered s c e seq).pending = s.pending := by
  simp [State.dmaAnswered]

@[simp] theorem State.deliver_pending (s : State) (r : Request) (off : Nat) (lines : List (Line × Bool))  : (State.deliver s r off lines).pending = s.pending := by
  unfold State.deliver; (repeat' split) <;> simp [apply_ite State.pending, apply_ite Prod.fst, apply_ite Prod.snd]

@[simp] theorem State.syncTo_pending (s : State) (i sub phase part : Nat)  : (State.syncTo s i sub phase part).pending = s.pending := by
  unfold State.syncTo
  repeat' (first | (simp [apply_ite State.pending, apply_ite Prod.fst, apply_ite Prod.snd]; done) | split | (refine (State.each_pending _ _ _ ?_).trans ?_ <;> intros) | simp [apply_ite State.pending, apply_ite Prod.fst, apply_ite Prod.snd])

@[simp] theorem State.slotComplete_pending (s : State) (i : Nat)  : (State.slotComplete s i).pending = s.pending := by
  simp [State.slotComplete]

@[simp] theorem State.slotRelease_pending (s : State) (i : Nat)  : (State.slotRelease s i).pending = s.pending := by
  simp [State.slotRelease, apply_ite State.pending, apply_ite Prod.fst, apply_ite Prod.snd]

@[simp] theorem State.slotStep_pending (s : State) (i : Nat)  : (State.slotStep s i).pending = s.pending := by
  simp [State.slotStep, apply_ite State.pending, apply_ite Prod.fst, apply_ite Prod.snd]

@[simp] theorem State.slotTry_pending (s : State) (i : Nat)  : (State.slotTry s i).pending = s.pending := by
  simp [State.slotTry]

@[simp] theorem State.slotArrive_pending (s : State) (i c : Nat)  : (State.slotArrive s i c).pending = s.pending := by
  simp [State.slotArrive]

@[simp] theorem State.slotOrphaned_pending (s : State) (i : Nat) (source : BitVec 17)  : (State.slotOrphaned s i source).pending = s.pending := by
  simp [State.slotOrphaned]

@[simp] theorem State.syncIn_pending (s : State) (via : Option (Fin 12)) (p : Packet) (mine : Bool) (f : State → Packet → Nat → Option State)
    (hf : ∀ s q n t, f s q n = some t → t.pending = s.pending) : (s.syncIn via p mine f).pending = s.pending := by
  unfold State.syncIn
  refine State.requestIn_pending _ _ _ _ _ (fun s q => ?_)
  dsimp only
  split
  · simp
  · split
    · simp
    · split
      · simp
      · split
        · next h => simp [hf _ _ _ _ h]
        · simp

@[simp] theorem State.assignBlock_pending (s : State) (b j : Nat)  : (State.assignBlock s b j).pending = s.pending := by
  simp [State.assignBlock]

@[simp] theorem State.freeBlock_pending (s : State) (b : Nat)  : (State.freeBlock s b).pending = s.pending := by
  simp [State.freeBlock]

@[simp] theorem State.freeSlot_pending (s : State) (n job : Nat)  : (State.freeSlot s n job).pending = s.pending := by
  simp [State.freeSlot, apply_ite State.pending, apply_ite Prod.fst, apply_ite Prod.snd]

@[simp] theorem State.modCollRun_pending (s : State) (job : Nat) (opid : BitVec 32) (f : CollRun → CollRun)  : (State.modCollRun s job opid f).pending = s.pending := by
  simp [State.modCollRun]

@[simp] theorem State.setGrant_pending (s : State) (opid : BitVec 32) (e : BitVec 17) (n : Nat)  : (State.setGrant s opid e n).pending = s.pending := by
  simp [State.setGrant]

@[simp] theorem State.ringSend_pending (s : State) (job : Nat) (opid : BitVec 32) (plus : Bool)  : (State.ringSend s job opid plus).pending = s.pending := by
  unfold State.ringSend; (repeat' split) <;> simp [apply_ite State.pending, apply_ite Prod.fst, apply_ite Prod.snd]

@[simp] theorem State.ringGrant_pending (s : State) (job : Nat) (opid : BitVec 32) (plus : Bool) (z : Nat)  : (State.ringGrant s job opid plus z).pending = s.pending := by
  induction z generalizing s with
  | zero => simp [State.ringGrant]
  | succ k ih =>
    unfold State.ringGrant
    repeat' (first | (simp [ih, apply_ite State.pending, apply_ite Prod.fst, apply_ite Prod.snd]; done) | split | simp [ih])

@[simp] theorem State.collReport_pending (s : State) (d : CollDesc) (inf : Bool)  : (State.collReport s d inf).pending = s.pending := by
  simp [State.collReport]

@[simp] theorem State.collWrite_pending (s : State) (a w : Nat) (b : List Byte) (poisons : List Bool) (cls : Nat)  : (State.collWrite s a w b poisons cls).pending = s.pending := by
  simp [State.collWrite]

@[simp] theorem State.collOutput_pending (s : State) (r : CollRun)  : (State.collOutput s r).pending = s.pending := by
  unfold State.collOutput
  repeat' (first | (simp [apply_ite State.pending, apply_ite Prod.fst, apply_ite Prod.snd]; done) | split | (refine (State.each_pending _ _ _ ?_).trans ?_ <;> intros) | simp [apply_ite State.pending, apply_ite Prod.fst, apply_ite Prod.snd])

@[simp] theorem State.ringNext_pending (s : State) (r : CollRun)  : (State.ringNext s r).pending = s.pending := by
  unfold State.ringNext; (repeat' split) <;> simp [apply_ite State.pending, apply_ite Prod.fst, apply_ite Prod.snd]

@[simp] theorem State.ringAdvance_pending (s : State) (job : Nat) (opid : BitVec 32) (z : Nat)  : (State.ringAdvance s job opid z).pending = s.pending := by
  induction z generalizing s with
  | zero => simp [State.ringAdvance]
  | succ k ih =>
    unfold State.ringAdvance
    repeat' (first | (simp [ih, apply_ite State.pending, apply_ite Prod.fst, apply_ite Prod.snd]; done) | split | simp [ih])

@[simp] theorem State.collStart_pending (s : State) (op : Nat) (opid : BitVec 32)  : (State.collStart s op opid).pending = s.pending := by
  unfold State.collStart; (repeat' split) <;> simp [apply_ite State.pending, apply_ite Prod.fst, apply_ite Prod.snd]

@[simp] theorem State.collLand_pending (s : State) (r : CollRun) (plus : Bool) (off : Nat) (lines : List (Line × Bool))  : (State.collLand s r plus off lines).pending = s.pending := by
  unfold State.collLand; (repeat' split) <;> simp [apply_ite State.pending, apply_ite Prod.fst, apply_ite Prod.snd]

@[simp] theorem State.takeInput_pending (s : State) (r : LedgerRec)  : (State.takeInput s r).pending = s.pending := by
  unfold State.takeInput; (repeat' split) <;> simp [apply_ite State.pending, apply_ite Prod.fst, apply_ite Prod.snd]

@[simp] theorem State.applyInputs_pending (s : State) (z : Nat)  : (State.applyInputs s z).pending = s.pending := by
  induction z generalizing s with
  | zero => rfl
  | succ k ih =>
    unfold State.applyInputs
    repeat' (first | (simp [ih]; done) | split)

@[simp] theorem State.settle_pending (s : State)  : (State.settle s).pending = s.pending := by
  simp [State.settle, apply_ite State.pending, apply_ite Prod.fst, apply_ite Prod.snd]

@[simp] theorem State.collIn_pending (s : State) (via : Option (Fin 12)) (p : Packet) (mine : Bool) (f : State → Packet → State) (hf : ∀ (s : State) (x0 : Packet), (f s x0).pending = s.pending) : (State.collIn s via p mine f).pending = s.pending := by
  simp [State.collIn, apply_ite State.pending, apply_ite Prod.fst, apply_ite Prod.snd, hf]

@[simp] theorem State.collDrop_pending (s : State) (d : CollDesc)  : (State.collDrop s d).pending = s.pending := by
  simp [State.collDrop]

@[simp] theorem State.collResume_pending (s : State) (opid : BitVec 32)  : (State.collResume s opid).pending = s.pending := by
  simp [State.collResume]

@[simp] theorem State.kilnAccept_pending (s : State) (i job : Nat) (n : NextCmd) (r h : List Byte)  : (State.kilnAccept s i job n r h).pending = s.pending := by
  simp [State.kilnAccept, apply_ite State.pending, apply_ite Prod.fst, apply_ite Prod.snd]

@[simp] theorem State.kilnEnd_pending (s : State) (k id : Nat)  : (State.kilnEnd s k id).pending = s.pending := by
  simp [State.kilnEnd]

@[simp] theorem State.undoSpan_pending (s : State) (last fuel ln : Nat) : (s.undoSpan last fuel ln).1.pending = s.pending := by
  induction fuel generalizing s ln with
  | zero => rfl
  | succ k ih =>
    unfold State.undoSpan
    dsimp only
    split
    · rfl
    · split
      · simp
      · exact (ih _ _).trans (by simp)

@[simp] theorem undoFirst_pending (p : KilnPart) (x : State × Bool) (ln : Nat) : (undoFirst p x ln).1.pending = x.1.pending := by
  unfold undoFirst
  simp [apply_ite Prod.fst, apply_ite State.pending]

@[simp] theorem State.kilnOver_pending (s : State) (p : KilnPart) (refused : Bool)  : (State.kilnOver s p refused).pending = s.pending := by
  simp [State.kilnOver, apply_ite State.pending, apply_ite Prod.fst, apply_ite Prod.snd]

@[simp] theorem State.ratioAdd_pending (s : State) (p : KilnPart) (l : List (FVal × FVal))  : (State.ratioAdd s p l).pending = s.pending := by
  simp [State.ratioAdd, apply_ite State.pending, apply_ite Prod.fst, apply_ite Prod.snd]

@[simp] theorem State.kilnStore_pending (s : State) (outs : List ((Nat × Nat) × List Byte)) (lns : List Nat)  : (State.kilnStore s outs lns).pending = s.pending := by
  simp [State.kilnStore]

@[simp] theorem State.kilnShadow_pending (s : State) (p : KilnPart) (lo n : Nat) (wn : List Byte) (overflows : Nat)  : (State.kilnShadow s p lo n wn overflows).pending = s.pending := by
  simp [State.kilnShadow, apply_ite State.pending, apply_ite Prod.fst, apply_ite Prod.snd]

@[simp] theorem State.kilnTally_pending (s : State) (k : Nat) (es : List (Option ElemOut))  : (State.kilnTally s k es).pending = s.pending := by
  simp [State.kilnTally, apply_ite State.pending, apply_ite Prod.fst, apply_ite Prod.snd]

@[simp] theorem State.kilnGroup_pending (s : State) (p : KilnPart) (c : Option FVal) (lo n : Nat) : (s.kilnGroup p c lo n).1.pending = s.pending := by
  have h : ∀ (l : List Nat) (x : State × Bool), (l.foldl (fun x ln => undoFirst p x ln) x).1.pending = x.1.pending := fun l x => foldState_pending _ (by simp) l x
  unfold State.kilnGroup
  simp only [apply_ite Prod.fst, apply_ite State.pending, State.ratioAdd_pending, State.kilnTally_pending, State.kilnShadow_pending, State.kilnStore_pending, h, ite_self]

@[simp] theorem State.kilnGroups_pending (s : State) (p : KilnPart) (f : State → Nat → Nat → State × Bool) (z : List Nat) (hf : ∀ (s : State) (x0 : Nat) (x1 : Nat), (f s x0 x1).1.pending = s.pending) : (State.kilnGroups s p f z).1.pending = s.pending := by
  induction z generalizing s with
  | nil => rfl
  | cons g r ih =>
    unfold State.kilnGroups
    dsimp only
    repeat' (first | (simp [ih, hf, apply_ite State.pending, apply_ite Prod.fst, apply_ite Prod.snd]; done) | split)

@[simp] theorem State.normGroup_pending (s : State) (p : KilnPart) (lo n : Nat)  : (State.normGroup s p lo n).1.pending = s.pending := by
  simp [State.normGroup]

@[simp] theorem State.dropWork_pending (s : State) (j : Nat)  : (State.dropWork s j).pending = s.pending := by
  simp [State.dropWork]

@[simp] theorem State.beginRun_pending (s : State)  : (State.beginRun s).pending = s.pending := by
  simp [State.beginRun]

@[simp] theorem State.runAgain_pending (s : State)  : (State.runAgain s).pending = s.pending := by
  simp [State.runAgain]

@[simp] theorem State.rollBack_pending (s : State)  : (State.rollBack s).pending = s.pending := by
  simp [State.rollBack]

@[simp] theorem State.takeSnap_pending (s : State) (b : List Byte)  : (State.takeSnap s b).pending = s.pending := by
  simp [State.takeSnap, apply_ite State.pending, apply_ite Prod.fst, apply_ite Prod.snd]

@[simp] theorem State.addReason_pending (s : State) (c : Nat)  : (State.addReason s c).pending = s.pending := by
  simp [State.addReason]

@[simp] theorem State.boundTest_pending (s : State)  : (State.boundTest s).pending = s.pending := by
  unfold State.boundTest
  repeat' (first | (simp [apply_ite State.pending, apply_ite Prod.fst, apply_ite Prod.snd]; done) | split | (refine (State.each_pending _ _ _ ?_).trans ?_ <;> intros) | simp [apply_ite State.pending, apply_ite Prod.fst, apply_ite Prod.snd])

@[simp] theorem State.scanQuarter_pending (s : State) (q : Nat)  : (State.scanQuarter s q).pending = s.pending := by
  simp [State.scanQuarter, apply_ite State.pending, apply_ite Prod.fst, apply_ite Prod.snd]

@[simp] theorem State.sendFp_pending (s : State)  : (State.sendFp s).pending = s.pending := by
  simp [State.sendFp, apply_ite State.pending, apply_ite Prod.fst, apply_ite Prod.snd]

@[simp] theorem State.castVote_pending (s : State) (revoke fail : Bool)  : (State.castVote s revoke fail).pending = s.pending := by
  simp [State.castVote, apply_ite State.pending, apply_ite Prod.fst, apply_ite Prod.snd]

@[simp] theorem State.failStep_pending (s : State) (code : BitVec 16)  : (State.failStep s code).pending = s.pending := by
  simp [State.failStep]

@[simp] theorem State.toReplay_pending (s : State) (isLocal : Bool)  : (State.toReplay s isLocal).pending = s.pending := by
  simp [State.toReplay]

@[simp] theorem State.nextLocal_pending (s : State)  : (State.nextLocal s).pending = s.pending := by
  simp [State.nextLocal, apply_ite State.pending, apply_ite Prod.fst, apply_ite Prod.snd]

@[simp] theorem State.checkTwin_pending (s : State)  : (State.checkTwin s).pending = s.pending := by
  unfold State.checkTwin; (repeat' split) <;> simp [apply_ite State.pending, apply_ite Prod.fst, apply_ite Prod.snd]

@[simp] theorem State.noteSuspect_pending (s : State) (acts : List Nat)  : (State.noteSuspect s acts).pending = s.pending := by
  simp [State.noteSuspect, apply_ite State.pending, apply_ite Prod.fst, apply_ite Prod.snd]

@[simp] theorem State.stopVerdict_pending (s : State) (stops : List Nat)  : (State.stopVerdict s stops).pending = s.pending := by
  simp [State.stopVerdict, apply_ite State.pending, apply_ite Prod.fst, apply_ite Prod.snd]

@[simp] theorem State.resolveFirst_pending (s : State) (sus : List Nat) (d : Word × Word)  : (State.resolveFirst s sus d).pending = s.pending := by
  unfold State.resolveFirst
  repeat' (first | (simp [apply_ite State.pending, apply_ite Prod.fst, apply_ite Prod.snd]; done) | split | (refine (State.each_pending _ _ _ ?_).trans ?_ <;> intros) | simp [apply_ite State.pending, apply_ite Prod.fst, apply_ite Prod.snd])

@[simp] theorem State.firstVerdict_pending (s : State) (acts : List Nat) (d : Word × Word)  : (State.firstVerdict s acts d).pending = s.pending := by
  simp [State.firstVerdict, apply_ite State.pending, apply_ite Prod.fst, apply_ite Prod.snd]

@[simp] theorem State.decideVerdict_pending (s : State)  : (State.decideVerdict s).pending = s.pending := by
  simp [State.decideVerdict, apply_ite State.pending, apply_ite Prod.fst, apply_ite Prod.snd]

@[simp] theorem State.tryVerdict_pending (s : State)  : (State.tryVerdict s).pending = s.pending := by
  simp [State.tryVerdict, apply_ite State.pending, apply_ite Prod.fst, apply_ite Prod.snd]

@[simp] theorem State.passDeadline_pending (s : State)  : (State.passDeadline s).pending = s.pending := by
  simp [State.passDeadline, apply_ite State.pending, apply_ite Prod.fst, apply_ite Prod.snd]

@[simp] theorem State.addGuest_pending (s : State) (l : List GuestRec) : (s.addGuest l).1.pending = s.pending := by
  unfold State.addGuest
  exact (foldState_pending _ (fun x a => by split <;> simp) l _)

@[simp] theorem State.decline_pending (s : State) (src : BitVec 17)  : (State.decline s src).pending = s.pending := by
  simp [State.decline]

@[simp] theorem State.unlessBad_pending (s : State) (f : State → State) (hf : ∀ s : State, (f s).pending = s.pending) : (State.unlessBad s f).pending = s.pending := by
  simp [State.unlessBad, apply_ite State.pending, apply_ite Prod.fst, apply_ite Prod.snd, hf]

@[simp] theorem State.hostGuest_pending (s : State) (a : GuestAsk)  : (State.hostGuest s a).pending = s.pending := by
  simp [State.hostGuest, apply_ite State.pending, apply_ite Prod.fst, apply_ite Prod.snd]

@[simp] theorem State.guestEnd_pending (s : State) (src : BitVec 17)  : (State.guestEnd s src).pending = s.pending := by
  unfold State.guestEnd
  refine (State.unlessBad_pending _ _ (fun s => ?_)).trans ?_ <;> simp

@[simp] theorem State.resumeCheck_pending (s : State) (k : EscKeep)  : (State.resumeCheck s k).pending = s.pending := by
  simp [State.resumeCheck, apply_ite State.pending, apply_ite Prod.fst, apply_ite Prod.snd]

@[simp] theorem State.enterCheck_pending (s : State)  : (State.enterCheck s).pending = s.pending := by
  unfold State.enterCheck
  repeat' (first | (simp [apply_ite State.pending, apply_ite Prod.fst, apply_ite Prod.snd]; done) | split | (refine (State.each_pending _ _ _ ?_).trans ?_ <;> intros) | simp [apply_ite State.pending, apply_ite Prod.fst, apply_ite Prod.snd])

@[simp] theorem State.trendTest_pending (s : State)  : (State.trendTest s).pending = s.pending := by
  simp [State.trendTest, apply_ite State.pending, apply_ite Prod.fst, apply_ite Prod.snd]

@[simp] theorem State.clearEpoch_pending (s : State) (step : Word)  : (State.clearEpoch s step).pending = s.pending := by
  simp [State.clearEpoch, apply_ite State.pending, apply_ite Prod.fst, apply_ite Prod.snd]

@[simp] theorem State.finishCommit_pending (s : State)  : (State.finishCommit s).pending = s.pending := by
  unfold State.finishCommit
  repeat' (first | (simp [apply_ite State.pending, apply_ite Prod.fst, apply_ite Prod.snd]; done) | split | (refine (State.each_pending _ _ _ ?_).trans ?_ <;> intros) | simp [apply_ite State.pending, apply_ite Prod.fst, apply_ite Prod.snd])

@[simp] theorem State.modPhys_pending (s : State) (n : Nat) (f : PhysCore → PhysCore)  : (State.modPhys s n f).pending = s.pending := by
  simp [State.modPhys]

@[simp] theorem State.reportQuarter_pending (s : State) (q : Nat) (good : List Nat)  : (State.reportQuarter s q good).pending = s.pending := by
  simp [State.reportQuarter]

@[simp] theorem State.mapCores_pending (s : State) (pass : Nat → Bool)  : (State.mapCores s pass).pending = s.pending := by
  simp [State.mapCores, apply_ite State.pending, apply_ite Prod.fst, apply_ite Prod.snd]

@[simp] theorem State.abandonAssays_pending (s : State) (c : Nat)  : (State.abandonAssays s c).pending = s.pending := by
  simp [State.abandonAssays]

@[simp] theorem State.unqueue_pending (s : State) (c : Nat)  : (State.unqueue s c).pending = s.pending := by
  simp [State.unqueue]

@[simp] theorem State.goOffline_pending (s : State) (c : Nat)  : (State.goOffline s c).pending = s.pending := by
  simp [State.goOffline]

@[simp] theorem State.noSpare_pending (s : State) (q : Nat)  : (State.noSpare s q).pending = s.pending := by
  simp [State.noSpare, apply_ite State.pending, apply_ite Prod.fst, apply_ite Prod.snd]

@[simp] theorem State.startReplacement_pending (s : State) (c : Nat)  : (State.startReplacement s c).pending = s.pending := by
  unfold State.startReplacement
  repeat' (first | (simp [apply_ite State.pending, apply_ite Prod.fst, apply_ite Prod.snd]; done) | split | (refine (State.each_pending _ _ _ ?_).trans ?_ <;> intros) | simp [apply_ite State.pending, apply_ite Prod.fst, apply_ite Prod.snd])

@[simp] theorem State.serveQueue_pending (s : State) (q : Nat)  : (State.serveQueue s q).pending = s.pending := by
  simp [State.serveQueue, apply_ite State.pending, apply_ite Prod.fst, apply_ite Prod.snd]

@[simp] theorem State.drilledBack_pending (s : State)  : (State.drilledBack s).pending = s.pending := by
  simp [State.drilledBack]

@[simp] theorem State.coreFails_pending (s : State) (c : Nat)  : (State.coreFails s c).pending = s.pending := by
  simp [State.coreFails, apply_ite State.pending, apply_ite Prod.fst, apply_ite Prod.snd]

@[simp] theorem State.coreResumes_pending (s : State) (c : Nat)  : (State.coreResumes s c).pending = s.pending := by
  unfold State.coreResumes
  repeat' (first | (simp [apply_ite State.pending, apply_ite Prod.fst, apply_ite Prod.snd]; done) | split | (refine (State.each_pending _ _ _ ?_).trans ?_ <;> intros) | simp [apply_ite State.pending, apply_ite Prod.fst, apply_ite Prod.snd])

@[simp] theorem State.arise_pending (s : State) (l : List MemError)  : (State.arise s l).pending = s.pending := by
  simp [State.arise]

@[simp] theorem State.poisonTail_pending (s : State) (ln : Nat)  : (State.poisonTail s ln).pending = s.pending := by
  unfold State.poisonTail; (repeat' split) <;> simp [apply_ite State.pending, apply_ite Prod.fst, apply_ite Prod.snd]

@[simp] theorem State.scrubLine_pending (s : State) (k ln sector : Nat)  : (State.scrubLine s k ln sector).pending = s.pending := by
  simp [State.scrubLine, apply_ite State.pending, apply_ite Prod.fst, apply_ite Prod.snd]

@[simp] theorem State.trainChannel_pending (s : State) (k ch : Nat) (bad : List Nat) (cmdOk : Bool)  : (State.trainChannel s k ch bad cmdOk).pending = s.pending := by
  simp [State.trainChannel, apply_ite State.pending, apply_ite Prod.fst, apply_ite Prod.snd]

@[simp] theorem State.dropStack_pending (s : State) (k : Nat) (poison : Bool)  : (State.dropStack s k poison).pending = s.pending := by
  simp [State.dropStack]

@[simp] theorem State.dropTail_pending (s : State) (k : Nat)  : (State.dropTail s k).pending = s.pending := by
  simp [State.dropTail]

@[simp] theorem State.freshStack_pending (s : State) (k : Nat)  : (State.freshStack s k).pending = s.pending := by
  simp [State.freshStack]

@[simp] theorem State.tunModeWrite_pending (s : State) (q t mode : Nat)  : (State.tunModeWrite s q t mode).1.pending = s.pending := by
  simp [State.tunModeWrite, apply_ite State.pending, apply_ite Prod.fst, apply_ite Prod.snd]

@[simp] theorem State.flushAll_pending (s : State) (q : Nat)  : (State.flushAll s q).pending = s.pending := by
  simp [State.flushAll]

@[simp] theorem State.dropCache_pending (s : State) (q : Nat)  : (State.dropCache s q).pending = s.pending := by
  simp [State.dropCache]

@[simp] theorem State.clearScratch_pending (s : State) (q t : Nat)  : (State.clearScratch s q t).pending = s.pending := by
  simp [State.clearScratch]

@[simp] theorem State.loseCores_pending (s : State)  : (State.loseCores s).pending = s.pending := by
  simp [State.loseCores]

@[simp] theorem State.loseStreams_pending (s : State)  : (State.loseStreams s).pending = s.pending := by
  simp [State.loseStreams]

@[simp] theorem State.endSession_pending (s : State)  : (State.endSession s).pending = s.pending := by
  unfold State.endSession; (repeat' split) <;> simp [apply_ite State.pending, apply_ite Prod.fst, apply_ite Prod.snd]

@[simp] theorem State.clearMailbox_pending (s : State)  : (State.clearMailbox s).pending = s.pending := by
  simp [State.clearMailbox]

@[simp] theorem State.newEpoch_pending (s : State)  : (State.newEpoch s).pending = s.pending := by
  simp [State.newEpoch]

@[simp] theorem State.pcieLink_pending (s : State) (up : Bool)  : (State.pcieLink s up).pending = s.pending := by
  simp [State.pcieLink, apply_ite State.pending, apply_ite Prod.fst, apply_ite Prod.snd]

@[simp] theorem State.msixReset_pending (s : State)  : (State.msixReset s).pending = s.pending := by
  simp [State.msixReset]

@[simp] theorem State.sendOut_pending (s : State) (p : Nat)  : (State.sendOut s p).pending = s.pending := by
  simp [State.sendOut, apply_ite State.pending, apply_ite Prod.fst, apply_ite Prod.snd]

@[simp] theorem State.losePorts_pending (s : State) (retrain : Bool)  : (State.losePorts s retrain).pending = s.pending := by
  simp [State.losePorts, apply_ite State.pending, apply_ite Prod.fst, apply_ite Prod.snd]

@[simp] theorem State.writeBack_pending (s : State)  : (State.writeBack s).pending = s.pending := by
  simp [State.writeBack]

@[simp] theorem State.loseTun_pending (s : State)  : (State.loseTun s).pending = s.pending := by
  simp [State.loseTun]

@[simp] theorem State.loseStacks_pending (s : State) (l : List Nat)  : (State.loseStacks s l).pending = s.pending := by
  simp [State.loseStacks]

@[simp] theorem State.causeOf_pending (s : State) (c : Option Nat)  : (State.causeOf s c).2.pending = s.pending := by
  unfold State.causeOf; (repeat' split) <;> simp [apply_ite State.pending, apply_ite Prod.fst, apply_ite Prod.snd]

@[simp] theorem State.resetRecord_pending (s : State) (rung cause : Nat)  : (State.resetRecord s rung cause).pending = s.pending := by
  simp [State.resetRecord]

@[simp] theorem State.stopForReset_pending (s : State)  : (State.stopForReset s).pending = s.pending := by
  simp [State.stopForReset]

@[simp] theorem State.toIdle_pending (s : State)  : (State.toIdle s).pending = s.pending := by
  simp [State.toIdle, apply_ite State.pending, apply_ite Prod.fst, apply_ite Prod.snd]

@[simp] theorem State.reinit_pending (s : State) (cause : Option Nat)  : (State.reinit s cause).pending = s.pending := by
  simp [State.reinit]

@[simp] theorem State.warm_pending (s : State) (cause : Option Nat)  : (State.warm s cause).pending = s.pending := by
  simp [State.warm]

@[simp] theorem State.fastOff_pending (s : State)  : (State.fastOff s).pending = s.pending := by
  simp [State.fastOff]

@[simp] theorem State.powerCycle_pending (s : State) (cause : Option Nat)  : (State.powerCycle s cause).pending = s.pending := by
  simp [State.powerCycle]

@[simp] theorem State.powerLost_pending (s : State)  : (State.powerLost s).pending = s.pending := by
  unfold State.powerLost
  repeat' (first | (simp [apply_ite State.pending, apply_ite Prod.fst, apply_ite Prod.snd]; done) | split | (refine (State.each_pending _ _ _ ?_).trans ?_ <;> intros) | simp [apply_ite State.pending, apply_ite Prod.fst, apply_ite Prod.snd])

@[simp] theorem State.toRecovery_pending (s : State) (status : Nat)  : (State.toRecovery s status).pending = s.pending := by
  simp [State.toRecovery]

@[simp] theorem State.romRun_pending (s : State) (rpmb : Nat)  : (State.romRun s rpmb).1.pending = s.pending := by
  unfold State.romRun
  repeat' (first | (simp [apply_ite State.pending, apply_ite Prod.fst, apply_ite Prod.snd]; done) | split | (refine (State.each_pending _ _ _ ?_).trans ?_ <;> intros) | simp [apply_ite State.pending, apply_ite Prod.fst, apply_ite Prod.snd])

@[simp] theorem State.enterIdle_pending (s : State)  : (State.enterIdle s).pending = s.pending := by
  simp [State.enterIdle]

@[simp] theorem State.trainStacks_pending (s : State) (bad : List TrainReport)  : (State.trainStacks s bad).pending = s.pending := by
  unfold State.trainStacks
  refine State.each_pending _ _ _ (fun s k => ?_)
  dsimp only
  refine (State.each_pending _ _ _ (fun s c => ?_)).trans (by simp only [State.modStack_pending])
  split <;> simp only [State.trainChannel_pending]

@[simp] theorem State.enablePorts_pending (s : State)  : (State.enablePorts s).pending = s.pending := by
  simp [State.enablePorts, apply_ite State.pending, apply_ite Prod.fst, apply_ite Prod.snd]

@[simp] theorem State.pickRef_pending (s : State)  : (State.pickRef s).pending = s.pending := by
  simp [State.pickRef, apply_ite State.pending, apply_ite Prod.fst, apply_ite Prod.snd]

@[simp] theorem State.bootEnds_pending (s : State)  : (State.bootEnds s).pending = s.pending := by
  simp [State.bootEnds, apply_ite State.pending, apply_ite Prod.fst, apply_ite Prod.snd]

@[simp] theorem State.loadQuarters_pending (s : State) (loadOk : Bool)  : (State.loadQuarters s loadOk).1.pending = s.pending := by
  simp [State.loadQuarters]

@[simp] theorem State.bringUp_pending (s : State) (loadOk : Bool) (bad : List TrainReport) (pass : Nat → Bool)  : (State.bringUp s loadOk bad pass).pending = s.pending := by
  simp [State.bringUp, apply_ite State.pending, apply_ite Prod.fst, apply_ite Prod.snd]

@[simp] theorem State.newNonce_pending (s : State)  : (State.newNonce s).pending = s.pending := by
  simp [State.newNonce]

@[simp] theorem State.storeKey_pending (s : State) (i : Nat) (l : List Byte)  : (State.storeKey s i l).pending = s.pending := by
  simp [State.storeKey]

@[simp] theorem State.ownership_pending (s : State) (r : List Byte)  : (State.ownership s r).1.pending = s.pending := by
  unfold State.ownership
  repeat' (first | (simp [apply_ite State.pending, apply_ite Prod.fst, apply_ite Prod.snd]; done) | split | (refine (State.each_pending _ _ _ ?_).trans ?_ <;> intros) | simp [apply_ite State.pending, apply_ite Prod.fst, apply_ite Prod.snd])

@[simp] theorem State.sealKey_pending (s : State) (i : Nat) (key : List Byte)  : (State.sealKey s i key).pending = s.pending := by
  simp [State.sealKey]

@[simp] theorem State.installKey_pending (s : State) (r : List Byte)  : (State.installKey s r).1.pending = s.pending := by
  unfold State.installKey; (repeat' split) <;> simp [apply_ite State.pending, apply_ite Prod.fst, apply_ite Prod.snd]

@[simp] theorem State.attest_pending (s : State) (nonce : List Byte)  : (State.attest s nonce).1.pending = s.pending := by
  simp [State.attest, apply_ite State.pending, apply_ite Prod.fst, apply_ite Prod.snd]

@[simp] theorem State.ownershipOp_pending (s : State) (rec_ : List Byte) (op : Byte)  : (State.ownershipOp s rec_ op).pending = s.pending := by
  simp [State.ownershipOp]

@[simp] theorem State.startDrain_pending (s : State) (after : DevState)  : (State.startDrain s after).pending = s.pending := by
  simp [State.startDrain]

@[simp] theorem State.toStandby_pending (s : State)  : (State.toStandby s).pending = s.pending := by
  simp [State.toStandby]

@[simp] theorem State.endDrain_pending (s : State)  : (State.endDrain s).pending = s.pending := by
  simp [State.endDrain, apply_ite State.pending, apply_ite Prod.fst, apply_ite Prod.snd]

@[simp] theorem State.fence_pending (s : State) (c : Nat) (w : GenFields) (func : Nat) (f : Wait)  : (State.fence s c w func f).pending = s.pending := by
  simp [State.fence, apply_ite State.pending, apply_ite Prod.fst, apply_ite Prod.snd]

@[simp] theorem State.gldReads_pending (s : State) (c : Nat) (e : BitVec 17) (a : Nat) (p : BitVec 512)  : (State.gldReads s c e a p).pending = s.pending := by
  simp [State.gldReads]

@[simp] theorem State.sendLine_pending (s : State) (r : Request) (e : BitVec 17) (a : Nat) (d : Line) (mask : BitVec 64) (poison : Bool)  : (State.sendLine s r e a d mask poison).pending = s.pending := by
  simp [State.sendLine]

@[simp] theorem State.region_pending (s : State) (c : Nat) (w : GenFields) (func : Nat) (src : List Nat) (new : Region) (faults : List Nat)  : (State.region s c w func src new faults).pending = s.pending := by
  simp [State.region]

@[simp] theorem State.regionWrite_pending (s : State) (c : Nat) (w : GenFields) (diagonal : Bool)  : (State.regionWrite s c w diagonal).pending = s.pending := by
  simp [State.regionWrite]

@[simp] theorem State.dmaTouch_pending (s : State) (c : Nat) (go : Bool) (b : List Byte)  : (State.dmaTouch s c go b).pending = s.pending := by
  simp [State.dmaTouch, apply_ite State.pending, apply_ite Prod.fst, apply_ite Prod.snd]

@[simp] theorem State.dmaWrite_pending (s : State) (c e : Nat) (r : DmaReq) (l : List LineOut)  : (State.dmaWrite s c e r l).pending = s.pending := by
  unfold State.dmaWrite
  repeat' (first | (simp [apply_ite State.pending, apply_ite Prod.fst, apply_ite Prod.snd]; done) | split | (refine (State.each_pending _ _ _ ?_).trans ?_ <;> intros) | simp [apply_ite State.pending, apply_ite Prod.fst, apply_ite Prod.snd])

@[simp] theorem State.dmaAtomic_pending (s : State) (c e : Nat) (r : DmaReq) (ep : Option (BitVec 17)) (op mask a : Nat) (x cmp : Line) (bad : Bool)  : (State.dmaAtomic s c e r ep op mask a x cmp bad).pending = s.pending := by
  unfold State.dmaAtomic
  repeat' (first | (simp [apply_ite State.pending, apply_ite Prod.fst, apply_ite Prod.snd]; done) | split | (refine (State.each_pending _ _ _ ?_).trans ?_ <;> intros) | simp [apply_ite State.pending, apply_ite Prod.fst, apply_ite Prod.snd])

@[simp] theorem State.dmaMove_pending (s : State) (c e : Nat) (run : DmaRun)  : (State.dmaMove s c e run).pending = s.pending := by
  unfold State.dmaMove
  repeat' (first | (simp [apply_ite State.pending, apply_ite Prod.fst, apply_ite Prod.snd]; done) | split | (refine (State.each_pending _ _ _ ?_).trans ?_ <;> intros) | simp [apply_ite State.pending, apply_ite Prod.fst, apply_ite Prod.snd])

@[simp] theorem State.beginMove_pending (s : State) (c e : Nat) (r : DmaReq)  : (State.beginMove s c e r).pending = s.pending := by
  unfold State.beginMove
  repeat' (first | (simp [apply_ite State.pending, apply_ite Prod.fst, apply_ite Prod.snd]; done) | split | (refine (State.each_pending _ _ _ ?_).trans ?_ <;> intros) | simp [apply_ite State.pending, apply_ite Prod.fst, apply_ite Prod.snd])

@[simp] theorem State.dmaBegin_pending (s : State) (c e : Nat) (r : DmaReq)  : (State.dmaBegin s c e r).pending = s.pending := by
  unfold State.dmaBegin; (repeat' split) <;> simp [apply_ite State.pending, apply_ite Prod.fst, apply_ite Prod.snd]

@[simp] theorem State.dmaStart_pending (s : State) (op c e : Nat)  : (State.dmaStart s op c e).pending = s.pending := by
  unfold State.dmaStart
  repeat' (first | (simp [apply_ite State.pending, apply_ite Prod.fst, apply_ite Prod.snd]; done) | split | (refine (State.each_pending _ _ _ ?_).trans ?_ <;> intros) | simp [apply_ite State.pending, apply_ite Prod.fst, apply_ite Prod.snd])

@[simp] theorem State.serveScan_pending (s : State) (c e : Nat) (r : DmaReq)  : (State.serveScan s c e r).pending = s.pending := by
  simp [State.serveScan, apply_ite State.pending, apply_ite Prod.fst, apply_ite Prod.snd]

@[simp] theorem State.serveCombine_pending (s : State) (c e : Nat) (r : DmaReq)  : (State.serveCombine s c e r).pending = s.pending := by
  simp [State.serveCombine, apply_ite State.pending, apply_ite Prod.fst, apply_ite Prod.snd]

@[simp] theorem State.casReturn_pending (s : State) (run : DmaRun)  : (State.casReturn s run).pending = s.pending := by
  unfold State.casReturn; (repeat' split) <;> simp [apply_ite State.pending, apply_ite Prod.fst, apply_ite Prod.snd]

@[simp] theorem State.dmaEnd_pending (s : State) (c e : Nat) (run : DmaRun)  : (State.dmaEnd s c e run).pending = s.pending := by
  simp [State.dmaEnd, apply_ite State.pending, apply_ite Prod.fst, apply_ite Prod.snd]

@[simp] theorem State.openStep_pending (s : State) (r inw fpr : List Byte)  : (State.openStep s r inw fpr).pending = s.pending := by
  simp [State.openStep, apply_ite State.pending, apply_ite Prod.fst, apply_ite Prod.snd]

@[simp] theorem State.groupReplay_pending (s : State)  : (State.groupReplay s).pending = s.pending := by
  simp [State.groupReplay, apply_ite State.pending, apply_ite Prod.fst, apply_ite Prod.snd]

@[simp] theorem State.writeProfile_pending (s : State) (m v : Nat)  : (State.writeProfile s m v).1.pending = s.pending := by
  simp [State.writeProfile, apply_ite State.pending, apply_ite Prod.fst, apply_ite Prod.snd]

@[simp] theorem State.sealStack_pending (s : State) (slot k : Nat) (dir : List RackRange) (src : BitVec 17) (serial : List Byte) (epoch snap : Word)  : (State.sealStack s slot k dir src serial epoch snap).pending = s.pending := by
  simp [State.sealStack]

@[simp] theorem State.rescan_pending (s : State) (slot : Nat)  : (State.rescan s slot).pending = s.pending := by
  simp [State.rescan, apply_ite State.pending, apply_ite Prod.fst, apply_ite Prod.snd]

@[simp] theorem State.retire_pending (s : State) (v : Nat)  : (State.retire s v).1.pending = s.pending := by
  unfold State.retire
  repeat' (first | (simp [apply_ite State.pending, apply_ite Prod.fst, apply_ite Prod.snd]; done) | split | (refine (State.each_pending _ _ _ ?_).trans ?_ <;> intros) | simp [apply_ite State.pending, apply_ite Prod.fst, apply_ite Prod.snd])

@[simp] theorem State.clearRetired_pending (s : State)  : (State.clearRetired s).1.pending = s.pending := by
  simp [State.clearRetired, apply_ite State.pending, apply_ite Prod.fst, apply_ite Prod.snd]

@[simp] theorem State.setBudget_pending (s : State) (v : Nat)  : (State.setBudget s v).pending = s.pending := by
  simp [State.setBudget, apply_ite State.pending, apply_ite Prod.fst, apply_ite Prod.snd]

@[simp] theorem State.finishExpulsion_pending (s : State)  : (State.finishExpulsion s).pending = s.pending := by
  simp [State.finishExpulsion, apply_ite State.pending, apply_ite Prod.fst, apply_ite Prod.snd]

@[simp] theorem State.clearExpelled_pending (s : State)  : (State.clearExpelled s).pending = s.pending := by
  simp [State.clearExpelled, apply_ite State.pending, apply_ite Prod.fst, apply_ite Prod.snd]

@[simp] theorem State.drill_pending (s : State) (kind target : Nat)  : (State.drill s kind target).pending = s.pending := by
  simp [State.drill]

@[simp] theorem State.objBytes_pending (s : State) (o m : Nat)  : (State.objBytes s o m).2.pending = s.pending := by
  unfold State.objBytes; (repeat' split) <;> simp [apply_ite State.pending, apply_ite Prod.fst, apply_ite Prod.snd]

@[simp] theorem State.readMember_pending (s : State) (r : DictRow) (m : Nat)  : (State.readMember s r m).2.pending = s.pending := by
  simp [State.readMember, apply_ite State.pending, apply_ite Prod.fst, apply_ite Prod.snd]

@[simp] theorem State.redivide_pending (s : State) (d q : Nat)  : (State.redivide s d q).pending = s.pending := by
  simp [State.redivide]

@[simp] theorem State.newHost_pending (s : State)  : (State.newHost s).pending = s.pending := by
  simp [State.newHost]

@[simp] theorem State.stored_pending (s : State) (o m v : Nat)  : (State.stored s o m v).pending = s.pending := by
  unfold State.stored
  split <;> simp only [State.redivide_pending, State.healthUpdate_pending, State.throttle_pending, State.newHost_pending, apply_ite State.pending, ite_self]

@[simp] theorem State.storeNum_pending (s : State) (o m v : Nat)  : (State.storeNum s o m v).1.pending = s.pending := by
  simp [State.storeNum, apply_ite State.pending, apply_ite Prod.fst, apply_ite Prod.snd]

@[simp] theorem State.storeBytes_pending (s : State) (o m : Nat) (b : List Byte)  : (State.storeBytes s o m b).1.pending = s.pending := by
  unfold State.storeBytes; (repeat' split) <;> simp [apply_ite State.pending, apply_ite Prod.fst, apply_ite Prod.snd]

@[simp] theorem State.seal_pending (s : State)  : (State.seal s).pending = s.pending := by
  simp [State.seal]

@[simp] theorem State.freeReport_pending (s : State)  : (State.freeReport s).2.pending = s.pending := by
  simp [State.freeReport]

theorem State.auditPort_pending (s : State) (p : Nat)  : ∃ t, State.auditPort s p = .next t ∧ t.pending = s.pending := by
  refine ⟨_, rfl, ?_⟩
  simp [apply_ite State.pending]

@[simp] theorem State.setSeq_pending (s : State) (t : Transport) (v : Word)  : (State.setSeq s t v).pending = s.pending := by
  unfold State.setSeq; (repeat' split) <;> simp [apply_ite State.pending, apply_ite Prod.fst, apply_ite Prod.snd]

@[simp] theorem State.setLast_pending (s : State) (t : Transport) (x : FynenMsg × FynenMsg)  : (State.setLast s t x).pending = s.pending := by
  unfold State.setLast; (repeat' split) <;> simp [apply_ite State.pending, apply_ite Prod.fst, apply_ite Prod.snd]

@[simp] theorem State.setStaged_pending (s : State) (t : Transport) (x : Option (Nat × Nat × List Byte))  : (State.setStaged s t x).pending = s.pending := by
  unfold State.setStaged; (repeat' split) <;> simp [apply_ite State.pending, apply_ite Prod.fst, apply_ite Prod.snd]

@[simp] theorem State.sendResponse_pending (s : State) (t : Transport) (r : FynenMsg)  : (State.sendResponse s t r).pending = s.pending := by
  unfold State.sendResponse; (repeat' split) <;> simp [apply_ite State.pending, apply_ite Prod.fst, apply_ite Prod.snd]

@[simp] theorem State.response_pending (s : State) (m : FynenMsg) (key : Option (List Byte)) (a : Answer)  : (State.response s m key a).2.pending = s.pending := by
  simp [State.response]

@[simp] theorem State.formatError_pending (s : State) (t : Transport) (m : FynenMsg)  : (State.formatError s t m).pending = s.pending := by
  simp [State.formatError]

@[simp] theorem State.refuseReq_pending (s : State) (t : Transport) (m : FynenMsg) (key : Option (List Byte)) (code : Nat)  : (State.refuseReq s t m key code).pending = s.pending := by
  simp [State.refuseReq]

@[simp] theorem State.readReq_pending (s : State) (m : FynenMsg) (r : DictRow)  : (State.readReq s m r).1.pending = s.pending := by
  simp [State.readReq, apply_ite State.pending, apply_ite Prod.fst, apply_ite Prod.snd]

@[simp] theorem State.submit_pending (s : State) (v : BitVec 32)  : (State.submit s v).pending = s.pending := by
  simp [State.submit, apply_ite State.pending, apply_ite Prod.fst, apply_ite Prod.snd]

@[simp] theorem State.readyClear_pending (s : State)  : (State.readyClear s).pending = s.pending := by
  simp [State.readyClear]

theorem State.doorbellWrite_pending (s : State) (i off v : Nat)  : ∀ t, State.doorbellWrite s i off v = some t → t.pending = s.pending := by
  unfold State.doorbellWrite; (repeat' split) <;> simp [apply_ite State.pending, apply_ite Prod.fst, apply_ite Prod.snd]

@[simp] theorem State.msixWrite_pending (s : State) (off : Nat) (data : List Byte)  : (State.msixWrite s off data).pending = s.pending := by
  simp [State.msixWrite]

@[simp] theorem State.setInput_pending (s : State) (i : Nat) (x : Input)  : (State.setInput s i x).pending = s.pending := by
  simp [State.setInput]

@[simp] theorem State.share_pending (s : State)  : (State.share s).pending = s.pending := by
  simp [State.share]

@[simp] theorem State.powerOn_pending (s : State)  : (State.powerOn s).pending = s.pending := by
  simp [State.powerOn, apply_ite State.pending, apply_ite Prod.fst, apply_ite Prod.snd]

@[simp] theorem State.rangeEvent_pending (s : State)  : (State.rangeEvent s).pending = s.pending := by
  simp [State.rangeEvent, apply_ite State.pending, apply_ite Prod.fst, apply_ite Prod.snd]

@[simp] theorem State.stands_pending (s : State) (i : Nat) (closed : Bool) (volts : BitVec 32)  : (State.stands s i closed volts).pending = s.pending := by
  simp [State.stands, apply_ite State.pending, apply_ite Prod.fst, apply_ite Prod.snd]

@[simp] theorem State.rejoin_pending (s : State) (i : Nat) (volts : BitVec 32)  : (State.rejoin s i volts).pending = s.pending := by
  simp [State.rejoin]

@[simp] theorem State.dropInput_pending (s : State) (i : Nat) (x : Input) (event : Bool)  : (State.dropInput s i x event).pending = s.pending := by
  simp [State.dropInput, apply_ite State.pending, apply_ite Prod.fst, apply_ite Prod.snd]

@[simp] theorem State.railOff_pending (s : State) (r : Nat)  : (State.railOff s r).pending = s.pending := by
  unfold State.railOff; (repeat' split) <;> simp [apply_ite State.pending, apply_ite Prod.fst, apply_ite Prod.snd]

@[simp] theorem State.railsOff_pending (s : State)  : (State.railsOff s).pending = s.pending := by
  simp [State.railsOff]

@[simp] theorem State.endExtest_pending (s : State)  : (State.endExtest s).pending = s.pending := by
  simp [State.endExtest, apply_ite State.pending, apply_ite Prod.fst, apply_ite Prod.snd]

@[simp] theorem State.thermalTrip_pending (s : State)  : (State.thermalTrip s).pending = s.pending := by
  simp [State.thermalTrip, apply_ite State.pending, apply_ite Prod.fst, apply_ite Prod.snd]

@[simp] theorem State.resetPin_pending (s : State)  : (State.resetPin s).pending = s.pending := by
  simp [State.resetPin, apply_ite State.pending, apply_ite Prod.fst, apply_ite Prod.snd]

@[simp] theorem State.unseated_pending (s : State)  : (State.unseated s).pending = s.pending := by
  simp [State.unseated]

@[simp] theorem State.tapLoad_pending (s : State) (t : TapInstr)  : (State.tapLoad s t).pending = s.pending := by
  simp [State.tapLoad, apply_ite State.pending, apply_ite Prod.fst, apply_ite Prod.snd]

@[simp] theorem State.shiftOut_pending (s : State) (bits v : Nat)  : (State.shiftOut s bits v).pending = s.pending := by
  simp [State.shiftOut, apply_ite State.pending, apply_ite Prod.fst, apply_ite Prod.snd]

@[simp] theorem State.extestLoad_pending (s : State) (t : TapInstr)  : (State.extestLoad s t).pending = s.pending := by
  simp [State.extestLoad]

@[simp] theorem State.rowIssue_pending (s : State) (c op : Nat) (w : GenFields) (func funcs : Nat) (use : RowRec → RowUse) (eff : RowRec → Core → Core)  : (State.rowIssue s c op w func funcs use eff).pending = s.pending := by
  simp [State.rowIssue]

end Sys2Proof.Machine
end

