-- ==== Sys2Proof/WellFormed.lean ====
section
/-! DEFINITION. Well-formed commands: the operands that the outside of the block can send. A list that reports a fixed number of readings has that
many; a packet carries as many payload lines as its LEN says; a message has the lengths that its fields say. What the device itself checks and
rejects is no part of this. -/

namespace Sys2Proof

/-- A packet with the payload that LEN gives (08 Table 7). -/
def Packet.wf (p : Packet) : Bool := p.payload.length == p.len.toNat && decide (p.len.toNat ≤ 4)

/-- A message whose LENGTH and TAG agree with its value and its AUTH flag (12 Table 10). -/
def FynenMsg.wf (m : FynenMsg) : Bool :=
  m.value.length == m.length.toNat && decide (m.length.toNat ≤ 1024) && m.tag.length == (if m.flags.getLsbD 0 then 16 else 0)

/-- Every list of a list has a length. -/
def allLen {α : Type} (n k : Nat) (l : List (List α)) : Bool := l.length == n && l.all (fun x => x.length == k)

/-- A ledger record of a guest request: its payload is a whole number of lines, its stack and ring numbers exist. -/
def GuestRec.wf (g : GuestRec) : Bool := decide (g.stack < 12)

/-- Well-formedness of a command, one arm per constructor. -/
def Instr.wf (i : Instr) : Bool :=
  match i with
  | .salu _ _ => true
  | .salui _ _ => true
  | .sli _ _ => true
  | .sfp _ _ => true
  | .sld _ _ => true
  | .sst _ _ => true
  | .scsrRead _ _ => true
  | .scsrReadAndClear _ _ => true
  | .br _ _ => true
  | .jal _ _ => true
  | .jr _ _ => true
  | .nop _ _ => true
  | .halt _ _ => true
  | .haltComplete _ => true
  | .illegalOpcode _ _ => true
  | .vfp _ _ _ => true
  | .vint _ _ => true
  | .vcmp _ _ => true
  | .vcvt _ _ => true
  | .vperm _ _ => true
  | .vred _ _ => true
  | .vld _ _ => true
  | .vst _ _ => true
  | .vbcast _ _ => true
  | .vmovs _ _ => true
  | .plog _ _ => true
  | .vgather _ _ => true
  | .vscatterStore _ _ => true
  | .vscatterAdd _ _ => true
  | .vtbl _ _ => true
  | .tblld _ _ => true
  | .tile _ _ => true
  | .stld _ _ => true
  | .swap _ _ => true
  | .epi _ _ => true
  | .accfree _ _ => true
  | .accwait _ _ => true
  | .accrd _ _ => true
  | .rowstat _ _ => true
  | .rowapply _ _ => true
  | .rowbwd _ _ => true
  | .rowcombPart _ _ => true
  | .rowcombJoin _ _ => true
  | .rowsvSave _ _ => true
  | .rowsvRestore _ _ => true
  | .dmaq _ _ => true
  | .gld _ _ => true
  | .gst _ _ => true
  | .regionLinear _ _ => true
  | .regionDiagonal _ _ => true
  | .regionDisable _ _ => true
  | .cadd _ _ => true
  | .crd _ _ => true
  | .cwait _ _ => true
  | .csig _ _ => true
  | .barrive _ _ => true
  | .barwait _ _ => true
  | .fenceLocal _ _ => true
  | .fenceGlobal _ _ => true
  | .fenceAll _ _ => true
  | .fenceRelease _ => true
  | .tgb _ _ => true
  | .snapshotWriteComplete _ => true
  | .groupBoundaryClose _ => true
  | .assay _ _ => true
  | .brk _ _ => true
  | .trap _ _ => true
  | .brkResume _ => true
  | .cwaitSatisfied _ => true
  | .cwaitLimitExpiry _ => true
  | .barwaitRelease _ => true
  | .barwaitLimitExpiry _ => true
  | .accwaitRelease _ => true
  | .tileEnterArray _ _ => true
  | .stationaryLoadComplete _ => true
  | .columnFoldComplete _ => true
  | .tileAccumulationComplete _ => true
  | .epilogueDrainStart _ => true
  | .epilogueDrainComplete _ => true
  | .dmaCopy _ _ => true
  | .dmaGather _ _ => true
  | .dmaScatter _ _ => true
  | .dmaScatterAdd _ _ => true
  | .dmaWindow _ _ => true
  | .dmaAtomic _ _ => true
  | .dmaScan _ _ => true
  | .dmaCombine _ _ => true
  | .dmaComplete _ _ _ => true
  | .memorySideRequest _ => true
  | .adderLineIdleWriteback _ => true
  | .patrolScrub _ _ _ => true
  | .driftCheck _ => true
  | .retrainRequest _ => true
  | .retrainWindowOpen _ => true
  | .retrainSliceStart _ => true
  | .retrainSliceEnd _ => true
  | .retrainComplete _ _ _ => true
  | .retrainWindowClose _ => true
  | .laneRewriteComplete _ _ => true
  | .stackEnterTest _ => true
  | .stackLeaveTest _ => true
  | .stackZeroFillComplete _ => true
  | .trafficGeneratorStart => true
  | .trafficGeneratorStop => true
  | .trafficGeneratorDone _ results => allLen 64 32 results
  | .stackSelfRefreshEntry _ => true
  | .stackWake _ => true
  | .tunModeWrite _ _ _ => true
  | .tunModeSwitchComplete _ => true
  | .combiningIdleFlush _ _ => true
  | .tunSliceSleep _ _ => true
  | .tunSliceWake _ _ => true
  | .bar2Read _ len _ => decide (0 < len.toNat ∧ len.toNat ≤ 4096)
  | .bar2Write _ data _ => decide (0 < data.length ∧ data.length ≤ 512)
  | .portEnableWrite _ _ => true
  | .portRetrain _ => true
  | .portTakeDown _ => true
  | .portAdopt _ => true
  | .portCreditAudit _ report => report.length == 2
  | .farEndDetect _ => true
  | .linkTrainingComplete _ _ => true
  | .neighbourCardReceived _ card => card.length == 64
  | .cardResend _ => true
  | .portDownRetry _ => true
  | .codewordReceived _ _ _ packets => packets.all Packet.wf
  | .codewordUncorrectable _ _ => true
  | .linkAckReceived _ _ => true
  | .linkNackReceived _ _ => true
  | .creditReturn _ _ _ => true
  | .laneFailure _ _ => true
  | .swapRequest _ _ => true
  | .swapMarker _ _ => true
  | .marginCheck _ margins => margins.length == 9
  | .linkLost _ => true
  | .handoffExchange _ _ => true
  | .packetTransmit _ _ => true
  | .packetForward _ pkt => pkt.wf
  | .writePacket _ pkt => pkt.wf
  | .maskedWrite _ pkt => pkt.wf
  | .readPacket _ pkt => pkt.wf
  | .atomicPacket _ pkt => pkt.wf
  | .signalPacket _ pkt => pkt.wf
  | .collData _ pkt => pkt.wf
  | .collReady _ pkt => pkt.wf
  | .collAbort _ pkt => pkt.wf
  | .syncArrive _ pkt => pkt.wf
  | .syncRelease _ pkt => pkt.wf
  | .syncOrphan _ pkt => pkt.wf
  | .writeAck _ pkt => pkt.wf
  | .readData _ pkt => pkt.wf
  | .atomicResp _ pkt => pkt.wf
  | .signalAck _ pkt => pkt.wf
  | .collAck _ pkt => pkt.wf
  | .syncAck _ pkt => pkt.wf
  | .nack _ pkt => pkt.wf
  | .responseTimeout _ => true
  | .spargeStart => true
  | .spargeDrained => true
  | .spargeTimeout => true
  | .tableCommit => true
  | .coordinateWrite _ => true
  | .d2dLaneFailure _ => true
  | .d2dLinkLoss _ => true
  | .syncAllocAssign _ => true
  | .syncAllocFree _ => true
  | .barrierSetupConfigure _ => true
  | .barrierSetupFree _ => true
  | .jobSetup _ => true
  | .collective _ => true
  | .allReduce _ => true
  | .reduceScatter _ => true
  | .allGather _ => true
  | .normSum _ => true
  | .maxIndex _ => true
  | .collectiveComplete _ => true
  | .auditRun => true
  | .kiln _ => true
  | .kilnUpdate _ _ => true
  | .kilnNorm _ _ => true
  | .kilnDescriptorComplete _ => true
  | .stepOpen _ => true
  | .stepEnd _ => true
  | .computeEnd => true
  | .quarterGateReport _ => true
  | .fingerprintRecord record => record.length == 64
  | .checkDeadlineExpiry => true
  | .commitVoteResult => true
  | .voteTimeout => true
  | .rollbackComplete _ => true
  | .guestRequest _ _ _ records => records.all GuestRec.wf
  | .guestDigestReturned _ _ => true
  | .guestDecline => true
  | .assayTileStart _ => true
  | .assayTileComplete _ => true
  | .assayAbandon _ => true
  | .profileWrite _ _ => true
  | .coreFaultDetected _ _ => true
  | .coreReplacementResume _ => true
  | .retireCommand _ => true
  | .clearRetiredList => true
  | .watchdogExpiry _ => true
  | .commandTimeout _ _ => true
  | .chronographDump => true
  | .chronographUnitTimeout _ _ => true
  | .rackingBlockCopy _ => true
  | .priorityCopy _ => true
  | .rackingSumsReceived _ _ _ serial sums dirs => serial.length == 16 && sums.length == 12 && dirs.length == 12
  | .epochSealed _ => true
  | .restoreCommand _ => true
  | .restoreComplete _ => true
  | .healthRestoreTick => true
  | .expulsionBudgetWrite _ => true
  | .selfExpulsion => true
  | .clearExpelled => true
  | .drillCoreHang _ => true
  | .drillLaneDrop _ _ => true
  | .drillPoison _ => true
  | .drillFalseAssay _ => true
  | .resetReinit => true
  | .warmReset => true
  | .powerCycle => true
  | .warmResetComplete _ => true
  | .pcieReset => true
  | .d3hotEntry => true
  | .pcieLinkLoss => true
  | .doorbellTailWrite _ _ => true
  | .compHeadWrite _ _ => true
  | .controlRetry _ => true
  | .controlSkip _ => true
  | .controlFlush _ => true
  | .streamConfigWrite _ _ => true
  | .streamEnable _ => true
  | .streamDisable _ => true
  | .launch _ => true
  | .marker _ => true
  | .hostCopy _ _ => true
  | .reservedCommand _ => true
  | .commandComplete _ _ => true
  | .interruptModerationTimeout _ => true
  | .jobStop _ => true
  | .jobRelease _ => true
  | .mailboxSubmit _ => true
  | .mailboxReadyClear => true
  | .fynenRead _ m => m.wf
  | .fynenWrite _ m => m.wf
  | .fynenDescribe _ m => m.wf
  | .fynenEventAck _ m => m.wf
  | .eventResend _ => true
  | .objectWrite _ _ _ => true
  | .stateRequestStandby => true
  | .stateRequestIdle => true
  | .stateRequestRun => true
  | .drainQuiet => true
  | .drainTimeout => true
  | .configSeal => true
  | .islandPowerUp _ _ => true
  | .romBoot _ _ _ coreOk => allLen 4 40 coreOk
  | .imageSessionOpen _ _ => true
  | .imageSlotData _ data => decide (data.length ≤ 1024)
  | .imageCommit _ => true
  | .imageVerifyComplete _ => true
  | .ownershipRegister _ => true
  | .ownershipTransfer _ => true
  | .ownershipRelease _ => true
  | .keyInstall _ => true
  | .attestationNonce _ => true
  | .inputApplied _ _ => true
  | .inputUndervoltage _ _ => true
  | .inputUndervoltageRecovery _ _ => true
  | .inputOvervoltage _ _ => true
  | .inputOvervoltageRecovery _ _ => true
  | .inputReverseCurrent _ => true
  | .bothInputsLost => true
  | .railOutOfRegulation _ => true
  | .fabRefclkLoss => true
  | .pcieRefclkLoss => true
  | .pcieRefclkReturn => true
  | .crystalCheck _ => true
  | .coreSleepEntry _ => true
  | .fuseeGrant => true
  | .corePllLock _ => true
  | .powerLimitWindow _ => true
  | .thermalStepTick _ => true
  | .sensorReading junction stackTemps => allLen 4 16 junction && stackTemps.length == 12
  | .resetNAssert _ => true
  | .resetNRelease => true
  | .throttleNAssert => true
  | .throttleNRelease => true
  | .presentNDeassert => true
  | .presentNAssert => true
  | .inputChatter _ => true
  | .inputHeld _ => true
  | .tapBypass => true
  | .tapIdcode => true
  | .tapSamplePreload _ => true
  | .extest => true
  | .extestPulse => true
  | .extestTrain => true
  | .extestLeave => true
  | .neighborDiscovery _ => true
  | .fynenFormatError _ _ => true
  | .barWriteDiscarded _ data => decide (0 < data.length ∧ data.length ≤ 512)
  | .d0Return => true
  | .pcieLinkUp => true

end Sys2Proof
end

