-- ==== Sys2Proof/Tests/Slice0.lean ====
section
/-! SUPPORT. Tests: ill-formed terms that the well-formedness check refuses, small tests of single commands against the spec's tables and worked
values, and for every statement with hypotheses concrete states and operands that meet them. -/

set_option linter.all false
set_option maxRecDepth 4000
set_option Elab.async false

namespace Sys2Proof.Tests
open Sys2Proof Sys2Proof.Machine

/-- The device in RUN. -/
def run : State := { State.reset with dev := { State.reset.dev with state := .run } }

/-- A core that runs a program placed in its own local memory, which is clean. -/
def live : Core := { Core.reset with run := .running, sleep := .awake, pc := 0x31000000000 }

/-- A state in RUN whose core 0 is this one. -/
def on (x : Core) : State := run.setCore 0 x

def w0 : GenFields := { func := 0, d := 0, a := 0, b := 0, c := 0, pred := 0, type := 0, rnd := 0, x := 0, rsv := 0, imm := 0 }

/-- No reserved or unused field of the instruction is set. -/
abbrev fits (u : Uses) (w : GenFields) : Prop := u.bad w = false

/-! ## Well-formedness refuses -/

/-- A packet whose LEN says `n` lines and that carries `l`. -/
def pkt (n l : Nat) : Packet :=
  { dst := 0, src := 0, type := 0, vc := false, order := 0, plane := false, len := BitVec.ofNat 3 n, poison := 0, hops := 0, sub := 0, status := 0
    tag := 0, arg := 0, rsv := 0, addr := 0, payload := List.replicate l 0, crc := 0 }

/-- A Fynen message of a kind with a value. -/
def msg (kind : Nat) (o m type : Nat) (v : List Byte) : FynenMsg :=
  { format := 1, kind := BitVec.ofNat 8 kind, flags := 0, requestId := 7, seq := 0, object := BitVec.ofNat 16 o, member := BitVec.ofNat 8 m
    type := BitVec.ofNat 8 type, status := 0, length := BitVec.ofNat 16 v.length, offset := 0, value := v, tag := [] }

def guest (stack : Nat) : GuestRec :=
  { kind := 0, stack := stack, addr := 0, source := 0, outSeq := 0, ptype := 0, sub := 0, pos := 0, arg := 0, poison := false, payload := [] }

theorem test_wf_packet : (Instr.packetForward 0 (pkt 2 1)).wf = false ∧ (Instr.packetForward 0 (pkt 5 5)).wf = false ∧ (Instr.packetForward 0 (pkt 4 4)).wf = true := by decide
theorem test_wf_writePacket : (Instr.writePacket none (pkt 1 0)).wf = false ∧ (Instr.readPacket none (pkt 0 1)).wf = false ∧ (Instr.nack none (pkt 1 0)).wf = false := by decide
theorem test_wf_codeword : (Instr.codewordReceived 0 0 [] [pkt 0 0, pkt 3 2]).wf = false ∧ (Instr.codewordReceived 0 0 [] [pkt 0 0]).wf = true := by decide
theorem test_wf_message_value : (Instr.fynenRead .t1s { msg 1 0x1010 0 2 [] with length := 1 }).wf = false := by decide
theorem test_wf_message_tag : (Instr.fynenWrite .t1s { msg 2 0x1010 1 2 [1] with flags := 1 }).wf = false ∧ (Instr.fynenDescribe .t1s { msg 3 0x1010 1 2 [] with tag := [0] }).wf = false := by decide
theorem test_wf_message_long : (Instr.fynenEventAck .t1s (msg 6 0 0 0 (List.replicate 1025 0))).wf = false := by decide +kernel
theorem test_wf_guest : (Instr.guestRequest 0 1 0 [guest 12]).wf = false ∧ (Instr.guestRequest 0 1 0 [guest 11]).wf = true := by decide
theorem test_wf_generator : (Instr.trafficGeneratorDone 0 (List.replicate 63 (List.replicate 32 0))).wf = false ∧ (Instr.trafficGeneratorDone 0 (List.replicate 64 (List.replicate 31 0))).wf = false := by decide +kernel
theorem test_wf_bar2 : (Instr.bar2Read 0 0 []).wf = false ∧ (Instr.bar2Read 0 4097 []).wf = false ∧ (Instr.bar2Write 0 [] false).wf = false := by decide
theorem test_wf_bar2_long : (Instr.bar2Write 0 (List.replicate 513 0) false).wf = false := by decide +kernel
theorem test_wf_barWrite : (Instr.barWriteDiscarded 0 []).wf = false := by decide
theorem test_wf_audit : (Instr.portCreditAudit 0 [⟨160, 0, 0⟩]).wf = false := by decide
theorem test_wf_card : (Instr.neighbourCardReceived 0 [0]).wf = false := by decide
theorem test_wf_margin : (Instr.marginCheck 0 [0]).wf = false := by decide
theorem test_wf_fingerprint : (Instr.fingerprintRecord [0]).wf = false := by decide
theorem test_wf_sums : (Instr.rackingSumsReceived 0 0 0 [] [] []).wf = false := by decide
theorem test_wf_cores : (Instr.romBoot 0 true [] [[true]]).wf = false := by decide
theorem test_wf_image : (Instr.imageSlotData .t1s (List.replicate 1025 0)).wf = false := by decide +kernel
theorem test_wf_sensors : (Instr.sensorReading [] []).wf = false := by decide

/-! ## Witnesses: scalar and vector instructions -/

theorem fresh_of (s : State) (c : Nat) (h : ((s.core c).run = .running ∧ (s.core c).wait = .none ∧ (s.core c).sleep = .awake ∧ (s.core c).fenced = false ∧
    ((s.core c).cachedFetch = true ∨ (((localForm (s.core c).pc.toNat).bind s.home).isSome = true ∧ s.fetchWaits c = false ∧ ((s.fetch c).line (s.core c).fetchLine).2 = false))) ∧
    (s.core c).sPoison = 0 ∧ (s.core c).vPoison = Vector.replicate 32 0 ∧ (s.core c).lPoison = []) : s.fresh c := h

theorem errorFree_of (s : State) (h : s.mem.errors = [] ∧ s.mem.hidden = [] ∧ ∀ k, k < 12 → (s.stack k).eccCovered = [] ∧ (s.stack k).rewriting = []) : s.errorFree := h

theorem fresh_live : (on live).fresh 0 := fresh_of _ _ (by decide +kernel)

theorem witness_ScalarResults : (on live).fresh 0 ∧
    fits { d := true, a := true, b := true } { w0 with func := 18 } ∧ fits { d := true, a := true, imm := 64 } { w0 with func := 18, d := 31, imm := -1 } ∧
    fits { d := true, imm := 64 } { w0 with d := 1, imm := -1 } ∧ fits { d := true, a := true, b := true, c := true, rnd := true } { w0 with func := 9, rnd := 1 } ∧
    fits { d := true, imm := 64 } { w0 with func := 1, imm := 8 } ∧ fits { d := true, imm := 64 } { w0 with func := 1 } ∧ fits {} w0 ∧
    fits { d := true, imm := 64 } { w0 with imm := 9 } ∧ 8 < (9 : Word).toNat ∧ fits { d := true, imm := 64 } { w0 with func := 2 } := ⟨fresh_live, by decide⟩

theorem witness_ScalarValues : (BitVec.intMin 64).toInt = -2 ^ 63 ∧ (-1 : Word).toInt = -1 ∧ (1 : Word) ≠ 0 ∧ ¬((5 : Word).toInt = -2 ^ 63 ∧ (-1 : Word).toInt = -1) := by decide

/-- Core 0 with some values in s1, s2 and s3. -/
def withS (a b c : Word) : Core := { live with sreg := vset (vset (vset live.sreg 1 a) 2 b) 3 c }

theorem witness_LoadsAndStores : (on live).fresh 0 ∧
    fits { d := true, a := true, imm := 64 } { w0 with func := 6, d := 31, imm := 0x3FFFFC } ∧ 0x3FFFFC % memSize 6 = 0 ∧ 0x3FFFFC + memSize 6 ≤ 2 ^ 22 ∧ ((on live).core 0).conflict 0x3FFFFC 0x400000 false = false ∧
    fits { a := true, b := true, imm := 64 } { w0 with func := 3, imm := 0x3FFFF8 } ∧ 0x3FFFF8 % memSize 3 = 0 ∧ 0x3FFFF8 + memSize 3 ≤ 2 ^ 22 ∧ ((on live).core 0).writeStall [(0x3FFFF8, memSize 3)] = false ∧
    0x3FFFFD % memSize 6 ≠ 0 ∧ 0x400000 % memSize 6 = 0 ∧ 2 ^ 22 < 0x400000 + memSize 6 ∧ 4 % memSize 3 ≠ 0 ∧ 0x400000 % memSize 3 = 0 ∧ 2 ^ 22 < 0x400000 + memSize 3 ∧
    fits { a := true, b := true, pred := true, imm := 64 } { w0 with imm := 0x3FF800, pred := 7 } ∧ 0x3FF800 % 64 = 0 ∧ 0x3FF800 + 2048 ≤ 2 ^ 22 ∧ ((on live).core 0).writeStall [(0x3FF800, 2048)] = false :=
  ⟨fresh_live, by decide +kernel⟩

theorem witness_ControlAndTraps : (on (withS 16 8 0)).fresh 0 ∧ fits { a := true, b := true, imm := 32 } { w0 with func := 5, a := 1, b := 2, imm := 0xFFFFFFFF } ∧
    (let x := (on (withS 16 8 0)).core 0; (x.s 2).toNat ≤ (x.s 1).toNat ∧ x.s 1 ≠ x.s 2 ∧ (x.s 1).toNat % 16 = 0 ∧ (x.s 2).toNat % 16 ≠ 0) ∧
    fits { d := true, imm := 32 } { w0 with d := 31, imm := 0xFFFFFFFF } ∧ fits { a := true } { w0 with a := 2 } ∧ fits { imm := 32 } { w0 with imm := 0xFFFFFFFF } ∧
    (0xFF : BitVec 128).toNat % 256 ∉ assignedOps ∧ (0 : BitVec 128).toNat % 256 ∉ assignedOps := ⟨fresh_of _ _ (by decide +kernel), by decide +kernel⟩

/-- A core that runs, with its program counter in no window, at a poisoned line, with a poisoned register, and clean. -/
def lost : Core := { live with pc := 0x3FFFFFFFFC0 }

theorem witness_FaultOrder : (∀ x : Core, x = lost ∨ x = { live with lPoison := [0] } ∨ x = { live with sPoison := 2 } ∨ x = live → let s := on x;
      (s.core 0).run = .running ∧ (s.core 0).wait = .none ∧ (s.core 0).sleep = .awake ∧ (s.core 0).fenced = false ∧ (s.core 0).cachedFetch = false ∧
      ((localForm (s.core 0).pc.toNat).bind s.home = none ↔ x = lost) ∧ s.fetchWaits 0 = false ∧ (((s.fetch 0).line (s.core 0).fetchLine).2 = true ↔ x.lPoison = [0])) ∧
    ((on { live with sPoison := 2 }).core 0).poisonS [1] = true ∧ ((on live).core 0).poisonS [1] = false ∧ ((on live).core 0).poisonV [(1, 1)] = false ∧ (3 ∈ [8, 3] ∧ ∀ g ∈ [8, 3], 3 ≤ g) := by
  refine ⟨?_, by decide +kernel⟩
  rintro x (rfl | rfl | rfl | rfl) <;> decide +kernel

/-- A core whose instruction cache holds the poisoned line of its PC. -/
def cached : Core := { live with lPoison := [0], icache := [live.fetchLine] }

theorem witness_FaultOrder_cached : (on cached).ready 0 ∧ ((on cached).core 0).cachedFetch = true ∧ (((on cached).fetch 0).line cached.fetchLine).2 = true ∧ ((on { live with lPoison := [0] }).core 0).cachedFetch = false := by
  refine ⟨⟨by decide +kernel, by decide +kernel, by decide +kernel, by decide +kernel, .inl (by decide +kernel)⟩, by decide +kernel⟩

/-- A core that has reached HALT with `n` claims in its epilogue queue. -/
def halting (n : Nat) : Core := { live with epiQ := List.replicate n { seq := 0, b0 := 0, block := none } }

theorem witness_ProgramEnd : (on (halting 4)).fresh 0 ∧ fits { func := false } w0 ∧ ((on (halting 4)).core 0).unclaimed.length ≤ 4 - ((on (halting 4)).core 0).epiQ.length ∧
    (let x : Core := { halting 4 with unclaimed := [(0, 0)] }; (on x).fresh 0 ∧ 4 - ((on x).core 0).epiQ.length < ((on x).core 0).unclaimed.length) ∧
    (let s := on { live with wait := .halt }; let x := s.core 0; x.run = .running ∧ x.wait = .halt ∧ x.arrayQ = [] ∧ x.current = none ∧ x.epiQ = [] ∧ x.draining = none ∧ x.done = [] ∧ x.loadBusy = false ∧
      (∀ e, e < 2 → (vget x.dma e DmaEngine.reset).queue = [] ∧ (vget x.dma e DmaEngine.reset).running = []) ∧ s.gstsOut 0 = [] ∧ s.csigsOut 0 = []) ∧
    (let x := (on { halting 1 with wait := .halt }).core 0; x.run = .running ∧ x.wait = .halt ∧ x.quiet = false) :=
  ⟨fresh_of _ _ (by decide +kernel), by decide, by decide +kernel, ⟨fresh_of _ _ (by decide +kernel), by decide +kernel⟩, by decide +kernel⟩

theorem witness_VectorLanes : (on live).fresh 0 ∧
    fits { d := true, a := true, b := true, c := true, pred := true, type := true, rnd := true } { w0 with func := 8, type := 2, rnd := 1, pred := 7, d := 31 } ∧
    fits { d := true, a := true, b := true, pred := true, type := true } { w0 with func := 10, type := 3 } ∧ fits { d := true, a := true, b := true, pred := true } w0 ∧
    fits { d := true, a := true, pred := true } w0 ∧ fits { d := true, a := true, pred := true, type := true, imm := 4 } { w0 with func := 1, type := 2, imm := 15 } := ⟨fresh_live, by decide⟩

theorem witness_VectorConvert : (on live).fresh 0 ∧ fits { d := true, a := true, pred := true, type := true, rnd := true, x := true } { w0 with rnd := 1 } ∧
    elW 0 = elW 3 ∧ elW 3 = 32 ∧ elW 2 = 16 ∧ elW 1 = 16 ∧ elW 0 = 32 ∧ isBlock 6 = true ∧ isBlock 4 = true ∧
    fits { d := true, a := true, pred := true, type := true, rnd := true, x := true } { w0 with type := 3, x := 2, func := 1 } ∧
    fits { d := true, a := true, pred := true, type := true, rnd := true, x := true } { w0 with type := 6, x := 2 } := ⟨fresh_live, by decide⟩

theorem witness_VectorReduces : (on live).fresh 0 ∧ fits { d := true, a := true, b := true, pred := true, type := true, x := true } { w0 with d := 7, func := 6, type := 3, x := 1 } ∧
    fits { d := true, a := true, b := true } { w0 with d := 7, a := 7, b := 7, func := 6 } ∧
    (∀ f, f ≤ 4 → fits { d := true, a := true, b := true, c := true, pred := true, type := true } { w0 with func := BitVec.ofNat 5 f, type := 2 }) ∧
    fits { d := true, a := true, b := true, c := true, pred := true, type := true } { w0 with func := 0, type := 3 } ∧
    fits { d := true, a := true, imm := 64 } { w0 with imm := 512 } ∧ ((on live).core 0).p 1 = 0 := ⟨fresh_live, by decide +kernel⟩

/-- Core 0 with one active lane in p1, 1 in s1, and a table header from 0 to 1.0 at address 0. -/
def gathering : Core := { withS 1 0 0 with preg := vset live.preg 1 1, lmem := [(6, 0x80), (7, 0x3F)] }

theorem witness_VectorMemory : (on gathering).fresh 0 ∧ ((on gathering).core 0).ranges = [] ∧
    fits { d := true, a := true, pred := true, imm := 64 } { w0 with imm := 0x3FF800 } ∧ 0x3FF800 % 64 = 0 ∧ 0x3FF800 + 2048 ≤ 2 ^ 22 ∧
    fits { d := true, a := true, b := true, c := true, pred := true, type := true, x := true } { w0 with c := 1, pred := 1 } ∧
    (∀ t, t ≤ 3 → let x := (on gathering).core 0; codes (indexFaults t 0 1 0 0 (x.indices t 0 1 0 (x.p 1))) = []) ∧
    fits { d := true, a := true, b := true, c := true, pred := true, type := true, x := true } { w0 with func := 1, d := 1, pred := 1 } ∧
    fits { d := true, a := true, b := true, c := true, pred := true, type := true, x := true } { w0 with func := 1, d := 1, pred := 1, type := 3 } ∧
    fits { a := true, imm := 4 } { w0 with imm := 12 } ∧ fits { a := true, imm := 4 } { w0 with imm := 15 } ∧ 0 + 6208 ≤ 2 ^ 22 ∧ tableHeaderOk (((on gathering).core 0).lread 0 64) = true :=
  ⟨fresh_of _ _ (by decide +kernel), by decide +kernel⟩

/-! ## Witnesses: tiles, banks, the array, the epilogue, assays, the row engine -/

/-- Core 0 with two operand views of one BF16 element at 0x100 and 0x110, their addresses in s1 and s2, K = 1 in s3 and 0x200 in s4. -/
def tiling : Core :=
  { withS 0x100 0x110 1 with sreg := vset (withS 0x100 0x110 1).sreg 4 0x200
                             lmem := [(0x101, 0x10), (0x104, 64), (0x108, 1), (0x110, 0x40), (0x111, 0x10), (0x114, 64), (0x118, 1)] }

def tileW : TileFields :=
  { ri := 0, re := 0, rx := 0, rk := 3, rb := 2, ra := 1, mm1 := 0, nm1 := 0, active := false, epi := false, mode := false, kind := 0, b0 := 0, rsv := 0 }

/-- The tile of that instruction. -/
def tile1 : TileRec := (on tiling).tileOf 0 tileW

theorem witness_TileGroups : (on live).fresh 0 ∧ fits { imm := 32 } { w0 with imm := 0xFFFFFFFF } ∧ ((on live).core 0).saveBusy = false ∧
    (on { live with saveBusy := true }).fresh 0 ∧ ((on { live with saveBusy := true }).core 0).saveBusy = true ∧
    (let b : Boundary := { snap := { pc := 0, sreg := live.sreg, sPoison := 0, vreg := live.vreg, vPoison := live.vPoison, preg := live.preg, regions := live.regions, tables := live.tables, group := 0 }
                           closed := false, saved := false, work := { arr := 0, tiles := 0, epis := [], dmas := [], reqs := 0 }, log := { count := 0, cadds := [] } };
      let s := on { live with bounds := [b] }; (s.core 0).bounds = [b] ∧ b.closed = false ∧ [].all (fun (x : Boundary) => x.closed) = true ∧ s.workDone 0 b.work = true) :=
  ⟨fresh_live, by decide, by decide +kernel, fresh_of _ _ (by decide +kernel), by decide +kernel⟩

/-- A device in RUN whose core 5 stands at a breakpoint and whose job 0 is a debug job. -/
def debugging (x : Core) : State := ((run.setCore 0 x).setCore 5 { live with run := .brk }).objSet 0x3110 0 1

theorem witness_DebugInstructions : (debugging live).fresh 0 ∧ fits {} w0 ∧ ((debugging live).objGet 0x3110 0).testBit ((debugging live).jobOf 0) = true ∧
    (on live).fresh 0 ∧ ((on live).objGet 0x3110 0).testBit ((on live).jobOf 0) = false ∧ ((debugging live).fynenSilent = false ∧ (debugging live).writeStop 0x3110 4 = 0) ∧
    ((debugging live).core (5 : BitVec 8).toNat).run = .brk ∧ (143 : BitVec 8).toNat < 144 ∧ ((debugging live).core (143 : BitVec 8).toNat).run ≠ .brk ∧ 144 ≤ (254 : BitVec 8).toNat ∧ (254 : BitVec 8) ≠ 255 :=
  ⟨fresh_of _ _ (by decide +kernel), by decide, by decide +kernel, fresh_live, by decide +kernel⟩

theorem witness_TileIssue : (on tiling).fresh 0 ∧ (codes (tileCodes ((on tiling).core 0) tileW tile1) = [] ∧ ((on tiling).core 0).arrayQ.length < 4 ∧ ((on tiling).core 0).rangeStall tile1.entries = false ∧
    [(0x100, 16), (0x110, 16)].any (fun p => ((on tiling).core 0).conflict p.1 (p.1 + p.2) false) = false ∧ tile1.assay = false ∧
    ((on tiling).tileOf 0 { tileW with rk := 0 }).k = 0 ∧ 131072 < ((on tiling).tileOf 0 { tileW with mm1 := 1023, nm1 := 1023 }).m * 1024) ∧
    (let x := { tiling with arrayQ := List.replicate 4 .swap }; (on x).fresh 0 ∧ codes (tileCodes ((on x).core 0) tileW ((on x).tileOf 0 tileW)) = [] ∧ 4 ≤ ((on x).core 0).arrayQ.length) :=
  ⟨fresh_of _ _ (by decide +kernel), by decide +kernel, fresh_of _ _ (by decide +kernel), by decide +kernel⟩

/-- The view at 0x100 as STLD reads it: one element. -/
def view1 : View := viewOf (((on tiling).core 0).lread 0x100 16) 1 1

theorem witness_StationaryOperands : (on tiling).fresh 0 ∧ (fits { a := true, b := true, c := true, type := true } { w0 with a := 1, b := 3, c := 3, type := 1 } ∧
    ((pairM 1 view1.fmt).isSome = true ∨ 7 < view1.fmt) ∧ 0 < view1.rows ∧ view1.rows ≤ pairKp 1 ∧ 0 < view1.cols ∧ view1.cols ≤ pairNp 1 ∧ codes (viewCodes 0x100 (((on tiling).core 0).lread 0x100 16) view1) = [] ∧
    ((on tiling).core 0).arrayQ.length < 4 ∧ ((on tiling).core 0).rangeStall (rangeEntries [view1.span] false 3) = false ∧ ((on tiling).core 0).conflict 0x100 0x110 false = false ∧
    fits {} w0 ∧ ((on tiling).core 0).arrayQ = []) ∧ (let x := { tiling with arrayQ := [.tile tile1] }; (on x).fresh 0 ∧ ((on x).core 0).arrayQ = .tile tile1 :: []) ∧
    (let x := (on { tiling with arrayQ := [.stld view1 1, .tile tile1], loadBusy := true }).core 0; x.arrayQ = .stld view1 1 :: .tile tile1 :: [] ∧ x.loadBusy = true ∧ x.lPoison = []) :=
  ⟨fresh_of _ _ (by decide +kernel), by decide +kernel, ⟨fresh_of _ _ (by decide +kernel), by decide +kernel⟩, by decide +kernel⟩

/-- Core 0 with a completed, unclaimed tile at bank 0 and `n` claims in the queue. -/
def claimable (n : Nat) : Core := { tiling with done := [tile1], unclaimed := [(0, 0)], epiQ := List.replicate n { seq := 9, b0 := 1, block := none } }

theorem witness_BanksClaimed : (on (claimable 3)).fresh 0 ∧
    (let x := (on (claimable 3)).core 0; let b := x.lread 0x200 128; let e := epiOf b ((x.s (recNat b 11 1)).setWidth 32);
      x.claimOf 0 = some (0, 0) ∧ x.tileBy 0 = some tile1 ∧ codes (epiCodes 0x200 b e 1 1 0 false false) = [] ∧ x.epiQ.length < 4 ∧
      x.rangeStall (rangeEntries (e.readSpans 1 1) false 1 ++ rangeEntries (e.writeSpans 1 1) true 2) = false ∧ x.conflict 0x200 0x280 false = false ∧ x.claimOf 7 = none ∧
      (∀ f ∈ codes (epiCodes 0x200 b e 1 1 0 false false), 0x06 ≤ f) ∧ x.conflict 0x200 (0x200 + 128) false = false) ∧ fits { a := true, imm := 3 } { w0 with a := 4, imm := 7 } ∧ fits { imm := 3 } { w0 with imm := 7 } ∧
    (on (claimable 4)).fresh 0 ∧ ((on (claimable 4)).core 0).claimOf 0 = some (0, 0) ∧ 4 ≤ ((on (claimable 4)).core 0).epiQ.length :=
  ⟨fresh_of _ _ (by decide +kernel), by decide +kernel, by decide, by decide, fresh_of _ _ (by decide +kernel), by decide +kernel⟩

def busyBank : Bank := { Bank.reset with state := .accumulating }

theorem witness_BanksClaimed_waits : (on live).fresh 0 ∧ fits { imm := 8 } { w0 with imm := 255 } ∧
    (∀ b, b < 8 → (255 : BitVec 8).getLsbD b = true → (vget ((on live).core 0).banks b Bank.reset).state = .free ∧ ((on live).core 0).awaited b = false) ∧
    (let x := { live with banks := vset live.banks 7 busyBank }; (on x).fresh 0 ∧ (vget ((on x).core 0).banks 7 Bank.reset).state ≠ .free) ∧
    ((on { live with wait := .banks 255 }).core 0).wait = .banks 255 ∧
    (debugging live).fresh 0 ∧ fits { d := true, a := true, imm := 3 } { w0 with d := 31, imm := 7 } ∧ ((debugging live).objGet 0x3110 0).testBit ((debugging live).jobOf 0) = true ∧
    ¬((vget ((debugging live).core 0).banks 7 Bank.reset).state = .free ∧ ((debugging live).core 0).awaited 7 = true) ∧
    (let x := { live with banks := vset live.banks 7 busyBank }; (debugging x).fresh 0 ∧ (vget ((debugging x).core 0).banks 7 Bank.reset).state = .accumulating) ∧
    ((on live).objGet 0x3110 0).testBit ((on live).jobOf 0) = false :=
  ⟨fresh_live, by decide, by decide +kernel, ⟨fresh_of _ _ (by decide +kernel), by decide +kernel⟩, by decide +kernel, fresh_of _ _ (by decide +kernel), by decide, by decide +kernel, by decide +kernel,
    ⟨fresh_of _ _ (by decide +kernel), by decide +kernel⟩, by decide +kernel⟩

/-- An assay of core 1's tile on core 0. -/
def assay1 (started : Bool) : AssayRec :=
  { tile := { tile1 with assay := true }, origin := 1, carry := [], stat := none, originDigest := if started then some 0 else none, claimed := started, started := started, bank := 0
    ahead := [], combine := [], poison := false, digest := none }

theorem witness_ArrayStreaming : (let x := (on { tiling with arrayQ := [.tile tile1] }).core 0; x.arrayQ = .tile tile1 :: [] ∧ x.current = none ∧
      (∀ i, i < tile1.banks → (vget x.banks (tile1.b0 + i) Bank.reset).state = .free) ∧ x.lPoison = [] ∧ tile1.active = false ∧ tile1.compact = false ∧ x.assayNext = none) ∧
    (let x := (on { tiling with arrayQ := [.tile tile1], assays := [assay1 false] }).core 0; x.arrayQ = .tile tile1 :: [] ∧ x.assayNext ≠ none) ∧
    (let x := (on { tiling with arrayQ := [.tile tile1], current := some tile1 }).core 0; x.arrayQ = .tile tile1 :: [] ∧ x.current ≠ none) ∧
    (let x := (on { tiling with arrayQ := [.tile tile1], banks := vset live.banks 0 busyBank }).core 0; 0 < tile1.banks ∧ (vget x.banks (tile1.b0 + 0) Bank.reset).state ≠ .free) ∧
    (let s := on { tiling with current := some tile1 }; let x := s.core 0; x.current = some tile1 ∧ (x.draining.map (fun d => d.1.seq)) ≠ some tile1.seq ∧ x.folds < tile1.folds ∧ s.assayOf 0 tile1.seq = none) ∧
    tile1.folds ≤ ((on { tiling with current := some tile1, folds := tile1.folds }).core 0).folds ∧ ((on live).core 0).current = none := by decide +kernel

/-- The claim of the tile of `tiling`. -/
def claim1 : EpiOp := { seq := 0, b0 := 0, block := none }

/-- The claim of that tile with the block at 0x200. -/
def claim2 : EpiOp := { claim1 with block := some (epiOf (tiling.lread 0x200 128) 0) }

theorem witness_EpilogueDrains : (∀ e, e = claim1 ∨ e = claim2 → let x := (on { tiling with done := [tile1], epiQ := [e] }).core 0; x.draining = none ∧ x.nextAssay = none ∧ x.lPoison = [] ∧
      x.done.findSome? (fun u => (x.epiQ.find? (fun (o : EpiOp) => o.seq == u.seq)).map (fun o => (u, o))) = some (tile1, e) ∧ x.nextDrain = some (tile1, e, tile1.folds)) ∧ claim1.block = none ∧ claim2.block.isSome = true ∧
    (let x := (on { tiling with current := some tile1, folds := 1, epiQ := [claim1] }).core 0; x.done = [] ∧ x.current = some tile1 ∧ x.folds ≠ 0 ∧ x.epiQ.find? (fun (o : EpiOp) => o.seq == tile1.seq) = some claim1 ∧
      x.draining = none ∧ x.nextAssay = none ∧ x.nextDrain = some (tile1, claim1, 1)) ∧
    (let x := (on { tiling with draining := some (tile1, none) }).core 0; x.draining = some (tile1, none) ∧ (x.current.map (fun u => u.seq)) ≠ some tile1.seq ∧ ∀ a ∈ x.assays, ¬(a.origin = 0 ∧ a.tile.seq = tile1.seq)) ∧ ((on live).core 0).draining = none ∧ ((on live).core 0).nextDrain = none := by
  refine ⟨?_, by decide +kernel⟩
  rintro e (rfl | rfl) <;> decide +kernel

theorem witness_TileAssay : (let s := on { live with assays := [assay1 false] }; let x := s.core 0; x.assays.find? (fun (a : AssayRec) => !a.started) = some (assay1 false) ∧
      x.freeRun (assay1 false).tile.banks = some 0 ∧ (assay1 false).origin ≠ 0 ∧ (assay1 false).origin < 144 ∧ (s.core (assay1 false).origin).poisonedLines (assay1 false).tile.operandRanges = [] ∧ (assay1 false).tile.active = false ∧ x.sleep = .awake ∧ x.fenced = false ∧ x.current = none ∧
      ¬((s.core 1).unstreamed (assay1 false).tile.seq = true ∨ ((s.core 1).current.map (fun u => u.seq)) = some (assay1 false).tile.seq)) ∧
    (let s := (on { live with assays := [assay1 false] }).setCore 1 { live with lPoison := [64] }; (s.core (assay1 false).origin).poisonedLines (assay1 false).tile.operandRanges ≠ []) ∧
    (let x := (on { live with assays := [assay1 false], banks := Vector.replicate 8 busyBank }).core 0; x.assays.find? (fun (a : AssayRec) => !a.started) = some (assay1 false) ∧ x.freeRun (assay1 false).tile.banks = none) ∧
    (let x := (on { live with assays := [assay1 true] }).core 0; x.draining = none ∧ x.nextAssay = some (assay1 true)) ∧ (assay1 true).originDigest = some 0 ∧
    (let x := (on { live with assays := [{ assay1 true with originDigest := none }] }).core 0; x.draining = none ∧ x.nextAssay = some { assay1 true with originDigest := none }) ∧
    ((on live).core 0).assays.find? (fun (a : AssayRec) => !a.started) = none ∧ ((on live).core 0).nextAssay = none := by decide +kernel


/-- Core 0 with a row-engine block at 0x100 (its address in s1): `rows` rows of one FP32 element from 0x1000 to 0x2000, pitch 64. -/
def rowing (rows : Byte) (m : Mem) : Core :=
  { withS 0x100 0 0 with lmem := [(0x101, 0x10), (0x105, 0x20), (0x11C, 1), (0x120, rows), (0x124, 64), (0x128, 64)] ++ m }

/-- Y holds two combination records whose counts add up to 2^32. -/
def tooMany : Mem := [(0x200C, 255), (0x200D, 255), (0x200E, 255), (0x200F, 255), (0x204C, 1)]

theorem witness_RowStatistics : (on (rowing 1 [])).fresh 0 ∧ ((on (rowing 1 [])).core 0).ranges = [] ∧ fits { a := true } { w0 with a := 1 } ∧
    (let x := (on (rowing 1 [])).core 0; let b := x.lread 0x100 64; let r := rowRecOf b;
      codes (rowCodes 0x100 b r { reads := r.rowsAt r.x r.xPitch r.rowLen, slots := r.rows }) = [] ∧
      codes (rowCodes 0x100 b r { writes := [(r.x, 8 * r.rows)], len := false, xPitch := false, slots := r.rows }) = [] ∧
      codes (rowCodes 0x100 b r { reads := [(r.x, 8 * r.rows)], len := false, xPitch := false, slots := r.rows }) = [] ∧
      codes (rowCodes 0x100 b r { reads := r.rowsAt r.x r.xPitch r.rowLen, writes := r.rowsAt r.y r.yPitch 64, yPitch := true }) = [] ∧
      codes (rowCodes 0x100 b r { reads := [(r.y, 64 * r.rows)], len := false, xPitch := false, slots := 1 }) = [] ∧
      (joinSlot (chunks 64 (x.lread r.y (64 * r.rows))) (f32 r.eps)).1.isSome = true) ∧
    fits { a := true } { w0 with a := 1, func := 3 } ∧ fits { a := true } { w0 with a := 1, func := 2 } ∧
    (on (rowing 2 tooMany)).fresh 0 ∧
    (let x := (on (rowing 2 tooMany)).core 0; let b := x.lread 0x100 64; let r := rowRecOf b;
      codes (rowCodes 0x100 b r { reads := [(r.y, 64 * r.rows)], len := false, xPitch := false, slots := 1 }) = [] ∧
      (joinSlot (chunks 64 (x.lread r.y (64 * r.rows))) (f32 r.eps)).1 = none) :=
  ⟨fresh_of _ _ (by decide +kernel), by decide +kernel, by decide, by decide +kernel, by decide, by decide, fresh_of _ _ (by decide +kernel), by decide +kernel⟩

theorem witness_RowNormalise : (on (rowing 1 [])).fresh 0 ∧ ((on (rowing 1 [])).core 0).ranges = [] ∧ fits { a := true } { w0 with a := 1, func := 2 } ∧
    (let x := (on (rowing 1 [])).core 0; let b := x.lread 0x100 64; let r := rowRecOf b;
      codes (rowCodes 0x100 b r { reads := r.rowsAt r.x r.xPitch r.rowLen ++ r.affineRanges 2, writes := r.rowsAt r.y r.yPitch r.rowLen, yPitch := true, slots := r.rows }) = [] ∧
      codes (rowCodes 0x100 b r { reads := r.bwdReads 2 ++ r.sumRanges 2, writes := r.rowsAt r.y r.yPitch r.rowLen ++ r.sumRanges 2, yPitch := true, slots := r.rows }) = []) :=
  ⟨fresh_of _ _ (by decide +kernel), by decide +kernel, by decide, by decide +kernel⟩

/-- Gain and bias stand at 0x3000 and their gradient sums at 0x3100 and 0x3200. -/
def grads : Mem := [(0x10D, 0x30), (0x115, 0x31), (0x119, 0x32), (0x12F, 3)]

theorem witness_RowNormalise_sums : (on (rowing 1 grads)).fresh 0 ∧ (let x := (on (rowing 1 grads)).core 0; let b := x.lread 0x100 64; let r := rowRecOf b;
    codes (rowCodes 0x100 b r { reads := r.bwdReads 0 ++ r.sumRanges 0, writes := r.rowsAt r.y r.yPitch r.rowLen ++ r.sumRanges 0, yPitch := true, slots := r.rows }) = [] ∧
    (∀ q ∈ [(r.gain, 4 * r.len)] ++ r.sumRanges 0, ¬(r.y < q.1 + q.2 ∧ q.1 < r.y + r.rowLen)) ∧ ¬(r.dgain < r.dbias + 16 * r.len ∧ r.dbias < r.dgain + 16 * r.len) ∧ r.rows = 1 ∧ r.gainEn = true ∧ r.sumRanges 0 ≠ []) :=
  ⟨fresh_of _ _ (by decide +kernel), by decide +kernel⟩

/-! ## Witnesses: global memory, regions, synchronisation, DMA -/

/-- A place in the local window of core 0, and one on another device. -/
def here : Word := 0x31000000000
def there : Word := 0x4000540000000000

/-- An open GST. -/
def gstOut (n : Nat) : Request :=
  { tag := BitVec.ofNat 16 n, dst := 5, kind := 0, unit := .core 0, job := 0, stream := 0, tokens := 0, lines := 1, got := 0, addr := 0, reg := n, pos := 0 }

def full : State := { on (withS here there 0) with fabric := { run.fabric with requests := (List.range 64).map gstOut } }

theorem witness_GlobalAccess : (on (withS here there 0)).fresh 0 ∧ (on (withS here there 0)).appliesInputs = false ∧ fits { d := true, a := true, pred := true, imm := 64 } { w0 with d := 31, a := 1 } ∧
    fits { a := true, b := true, pred := true, imm := 64 } { w0 with a := 2 } ∧
    (let s := on (withS here there 0); let x := s.core 0; x.s 1 = here ∧ x.s 2 = there ∧ here.toNat % 64 = 0 ∧ there.toNat % 64 = 0 ∧ reachOf here.toNat = .here here.toNat ∧
      s.unreachable (reachOf here.toNat) (x.p 0) = false ∧ s.offline ((segsOf (x.p 0)).map (fun i => here.toNat / 64 + i)) s.missChan = false ∧ reachOf there.toNat = .there 21 0 ∧ x.p 0 ≠ 0 ∧ x.skip = 0 ∧ x.groupFull false = false ∧ (s.gstsOut 0).length < 64 ∧
      s.unreachable (reachOf 0x8000000000000000) (x.p 0) = true ∧ (here + 32).toNat % 64 ≠ 0) ∧
    full.fresh 0 ∧ full.appliesInputs = false ∧ 64 ≤ (full.gstsOut 0).length ∧ (full.core 0).groupFull false = false :=
  ⟨fresh_of _ _ (by decide +kernel), by decide +kernel, by decide, by decide, by decide +kernel, fresh_of _ _ (by decide +kernel), by decide +kernel⟩

theorem witness_GlobalAccess_errors : ((on (withS here there 0)).fetch 0).errorFree := errorFree_of _ (by decide +kernel)

theorem witness_GlobalAccess_lines : ∀ i, i < 32 → ∃ k o, (on (withS here there 0)).home (here.toNat + 64 * i) = some (.localMem k o) := by
  intro i hi
  have h : ∀ i, i < 32 → (on (withS here there 0)).home (here.toNat + 64 * i) = some (.localMem 0 (64 * i)) := by decide +kernel
  exact ⟨_, _, h i hi⟩

/-- Core 0 with region 0 from 0, and base 64 KiB, size 64 KiB, pitch 64 in s1 to s3; `b` is the size. -/
def regions (b : Word) : Core := { withS 0x10000 b 64 with regions := vset live.regions 0 { enabled := true, base := 0, size := 0x10000, diagonal := false, pitch := 64 } }

theorem witness_Regions : (on (regions 0x10000)).fresh 0 ∧ ((on (regions 0x10000)).core 0).ranges = [] ∧
    fits { func := false, a := true, b := true, c := true, imm := 4 } { w0 with a := 1, b := 2, c := 3, imm := 15 } ∧
    (let x := (on (regions 0x10000)).core 0; let a := (x.s 1).toNat; let b := (x.s 2).toNat; let p := (x.s 3).toNat;
      a % 65536 = 0 ∧ b % 65536 = 0 ∧ p % 64 = 0 ∧ 64 ≤ p ∧ p ≤ 65536 ∧ a + b ≤ 2 ^ 22 ∧ 0 < b ∧
      ∀ i, i < 16 → i ≠ 15 → ¬((vget x.regions i Region.reset).span.1 < a + b ∧ a < (vget x.regions i Region.reset).span.1 + (vget x.regions i Region.reset).span.2)) ∧
    (on (regions 0)).fresh 0 ∧ (let x := (on (regions 0)).core 0; (x.s 2).toNat = 0 ∧
      ∀ i, i < 16 → i ≠ 15 → ¬((vget x.regions i Region.reset).span.1 < 0x10000 ∧ 0x10000 < (vget x.regions i Region.reset).span.1 + (vget x.regions i Region.reset).span.2)) ∧
    fits { imm := 4 } w0 ∧ (vget ((on (regions 0)).core 0).regions 0 Region.reset).enabled = true :=
  ⟨fresh_of _ _ (by decide +kernel), by decide +kernel, by decide, by decide +kernel, fresh_of _ _ (by decide +kernel), by decide +kernel⟩

/-- Counter block 255 and slot 255 belong to job 0. -/
def owned (s : State) : State := { s with sync := { s.sync with owners := [(255, 0)], slotOwners := [(255, 0)] } }

theorem witness_CounterReturns : (owned (on live)).fresh 0 ∧ (owned (on live)).counterOwner 65535 = (owned (on live)).jobOf 0 ∧
    fits { d := true, a := true, b := true, imm := 16 } { w0 with d := 1, imm := 65535 } ∧ ((owned (on live)).core 0).skip = 0 ∧ ((owned (on live)).core 0).groupFull true = false ∧
    (owned (on live)).jobOf 0 < 8 ∧ fits { d := true, a := true, imm := 16 } { w0 with d := 1, imm := 65535 } :=
  ⟨fresh_of _ _ (by decide +kernel), by decide +kernel⟩

theorem witness_CounterSaturates : (-2 ^ 31 : Int) ≤ 2 ^ 31 - 1 ∧ (2 ^ 31 - 1 : Int) < 2 ^ 31 ∧ (on (withS 0x8000000000000000 5 0)).fresh 0 ∧ (on (withS 0x8000000000000000 5 0)).appliesInputs = false ∧
    fits { a := true, b := true, imm := 16 } { w0 with a := 1, imm := 65535 } ∧
    (let x := (on (withS 0x8000000000000000 5 0)).core 0; x.skip = 0 ∧ x.groupFull false = false ∧ bits (x.s 1).toNat 62 17 = 0 ∧ (x.s 1).getLsbD 63 = true ∧ bits (x.s 2).toNat 62 17 = 0 ∧ (x.s 2).getLsbD 63 = false) :=
  ⟨by decide, by decide, fresh_of _ _ (by decide +kernel), by decide +kernel, by decide, by decide +kernel⟩

theorem witness_SyncWaits_counters : (owned (on (withS 0 1 0))).fresh 0 ∧ (∀ f : BitVec 5, f ≤ 1 → fits { d := true, a := true, b := true, c := true, imm := 16 } { w0 with func := f, d := 31, b := 2, imm := 65535 }) ∧
    (let s := owned (on (withS 0 1 0)); s.counterOwner 65535 = s.jobOf 0 ∧ ((s.core 0).s 0).toNat ≤ (s.counter 65535).val.toNat ∧ ¬((s.counter 65535).val = ((s.core 0).s 2).setWidth 32) ∧ s.counterOwner 0 ≠ s.jobOf 0) ∧
    (let s := owned (on { live with wait := .counter 65535 true 0 1 true }); (s.core 0).wait = .counter 65535 true 0 1 true ∧ (s.counter 65535).val = 0) ∧
    (let s := owned (on { live with wait := .counter 65535 false 1 1 false }); (s.core 0).wait = .counter 65535 false 1 1 false ∧ ¬((1 : BitVec 32).toNat ≤ (s.counter 65535).val.toNat)) :=
  ⟨fresh_of _ _ (by decide +kernel), by decide +kernel⟩

/-- Slot 255 of job 0 with a mask, and the cores that have arrived, come early and ever arrived. -/
def barrier (mask arrived next ever : BitVec 144) (x : Core) : State :=
  let s := owned (on x)
  s.setSlot 255 { Slot.reset with state := .opened, mask := mask, arrived := arrived, next := next, everArrived := ever }

theorem witness_SyncWaits_arrive : fits { imm := 8 } { w0 with imm := 255 } ∧
    (let s := barrier 1 0 0 0 live; let k := s.slot 255; s.fresh 0 ∧ (s.core 0).skip = 0 ∧ (s.core 0).groupFull false = false ∧ s.slotOwner 255 = s.jobOf 0 ∧ k.mask.getLsbD 0 = true ∧ k.state = .opened ∧
      k.group = false ∧ k.next = 0 ∧ k.arrived.getLsbD 0 = false ∧ (k.arrived ||| BitVec.twoPow 144 0) &&& k.mask = k.mask ∧ s.slotOwner 0 ≠ s.jobOf 0) ∧
    (let s := barrier 3 0 0 0 live; let k := s.slot 255; s.fresh 0 ∧ k.mask.getLsbD 0 = true ∧ k.next = 0 ∧ k.arrived.getLsbD 0 = false ∧ (k.arrived ||| BitVec.twoPow 144 0) &&& k.mask ≠ k.mask) ∧
    (let s := barrier 3 1 0 1 live; let k := s.slot 255; s.fresh 0 ∧ k.next = 0 ∧ k.arrived.getLsbD 0 = true ∧ k.arrived &&& k.mask ≠ k.mask) ∧
    (let s := barrier 3 1 1 1 live; s.fresh 0 ∧ (s.slot 255).mask.getLsbD 0 = true ∧ (s.slot 255).next.getLsbD 0 = true) :=
  ⟨by decide, ⟨fresh_of _ _ (by decide +kernel), by decide +kernel⟩, ⟨fresh_of _ _ (by decide +kernel), by decide +kernel⟩, ⟨fresh_of _ _ (by decide +kernel), by decide +kernel⟩,
    ⟨fresh_of _ _ (by decide +kernel), by decide +kernel⟩⟩

theorem witness_SyncWaits_wait : fits { d := true, c := true, imm := 8 } { w0 with d := 31, imm := 255 } ∧
    (let s := barrier 3 0 1 1 live; s.fresh 0 ∧ ¬((s.slot 255).state = .orphaned ∧ tget 8 s.sync.orphanOf (256 + 255) = s.jobOf 0) ∧ s.slotOwner 255 = s.jobOf 0 ∧ (s.slot 255).next.getLsbD 0 = true ∧ s.slotOwner 0 ≠ s.jobOf 0) ∧
    (let s := barrier 3 1 0 1 live; s.fresh 0 ∧ (s.slot 255).next.getLsbD 0 = false ∧ (s.slot 255).arrived.getLsbD 0 = true) ∧
    (let s := barrier 3 0 0 1 live; s.fresh 0 ∧ (s.slot 255).next.getLsbD 0 = false ∧ (s.slot 255).arrived.getLsbD 0 = false ∧ (s.slot 255).everArrived.getLsbD 0 = true) ∧
    (let u := on live; let s := { u with sync := { u.sync with slots := [(255, { Slot.reset with state := .orphaned })], orphanOf := [(511, 0)] } };
      s.fresh 0 ∧ (s.slot 255).state = .orphaned ∧ tget 8 s.sync.orphanOf (256 + 255) = s.jobOf 0) ∧
    (let s := barrier 3 0 0 1 { live with wait := .barrier 255 0xFFFFFFFF 1 true }; (s.core 0).wait = .barrier 255 0xFFFFFFFF 1 true ∧ 0 < ((s.slot 255).phase - 0xFFFFFFFF).toInt) ∧
    (let s := barrier 3 0 0 1 { live with wait := .barrier 255 0 1 false }; (s.core 0).wait = .barrier 255 0 1 false ∧ ((s.slot 255).phase - 0).toInt ≤ 0) :=
  ⟨by decide, ⟨fresh_of _ _ (by decide +kernel), by decide +kernel⟩, ⟨fresh_of _ _ (by decide +kernel), by decide +kernel⟩, ⟨fresh_of _ _ (by decide +kernel), by decide +kernel⟩,
    ⟨fresh_of _ _ (by decide +kernel), by decide +kernel⟩, by decide +kernel, by decide +kernel⟩

theorem witness_Fences : (on live).fresh 0 ∧ fits { func := false } { w0 with func := 0 } ∧
    (let x := (on live).core 0; x.arrayQ = [] ∧ x.current = none ∧ x.loadBusy = false ∧ x.epiQ = [] ∧ x.draining = none) ∧ (on live).gstsOut 0 = [] ∧ (on live).csigsOut 0 = [] ∧
    (on { live with loadBusy := true }).fresh 0 ∧ ((on { live with loadBusy := true }).core 0).loadBusy ≠ false ∧ full.fresh 0 ∧ full.gstsOut 0 ≠ [] ∧
    ((on { live with wait := .fenceLocal }).core 0).wait = .fenceLocal ∧ ((on { live with wait := .fenceGlobal }).core 0).wait = .fenceGlobal ∧ ((on { live with wait := .fenceAll }).core 0).wait = .fenceAll :=
  ⟨fresh_live, by decide, by decide +kernel, by decide +kernel, by decide +kernel, fresh_of _ _ (by decide +kernel), by decide +kernel, fresh_of _ _ (by decide +kernel), by decide +kernel⟩

/-- Core 0 with a DMA descriptor at 0x100 (its address in s1): a SCAN of 32 bytes of local memory into 0x1000; `op` is its opcode. -/
def scanning (op : Byte) (n : Nat) : Core :=
  { withS 0x100 0 0 with lmem := [(0x100, op), (0x10C, 0x10), (0x10D, 3), (0x111, 0x10), (0x114, 0x10), (0x115, 3), (0x118, 32)]
                         dma := Vector.replicate 2 { DmaEngine.reset with queue := List.replicate n (dmaReqOf [] 0 0 none none) } }

/-- A state in which the core has read the records that the descriptor at 0x100 names. -/
def touched (x : Core) : State := (on x).dmaTouch 0 true (((on x).core 0).lread 0x100 64)

theorem witness_DmaIssue_queue : (touched (scanning 6 15)).fresh 0 ∧ (on (scanning 6 15)).errorFree ∧ (on (scanning 6 16)).errorFree ∧ (on (scanning 9 0)).errorFree ∧ fits { d := true, a := true } { w0 with func := 1, d := 31, a := 1 } ∧
    (let s := on (scanning 6 15); let x := s.core 0; let p := (s.dmaTouch 0 true (x.lread 0x100 64)).dmaPlan (x.lread 0x100 64) (s.jobOf 0) x.stream; p.poison = [] ∧ p.codes = [] ∧ x.skip = 0 ∧ x.groupFull false = false ∧ x.conflict 0x100 (0x100 + 64) false = false ∧
      (vget x.dma 1 DmaEngine.reset).queue.length < 16) ∧
    (touched (scanning 6 16)).fresh 0 ∧ 16 ≤ (vget ((on (scanning 6 16)).core 0).dma 0 DmaEngine.reset).queue.length ∧
    (touched (scanning 9 0)).fresh 0 ∧ (let s := on (scanning 9 0); let x := s.core 0; let p := (s.dmaTouch 0 true (x.lread 0x100 64)).dmaPlan (x.lread 0x100 64) (s.jobOf 0) x.stream; p.poison = [] ∧ ∃ f ∈ p.codes, ∀ g ∈ p.codes, f ≤ g) :=
  ⟨fresh_of _ _ (by decide +kernel), errorFree_of _ (by decide +kernel), errorFree_of _ (by decide +kernel), errorFree_of _ (by decide +kernel), by decide, by decide +kernel,
    fresh_of _ _ (by decide +kernel), by decide +kernel, fresh_of _ _ (by decide +kernel), by decide +kernel⟩

def vec16 : TensorDesc :=
  { rank := 1, kind := 0, fmt := 0, tensorId := 0, extents := [16, 1, 1, 1, 1, 1], shards := List.replicate 6 (0, 0, 0), aux := 0, base := 0x31000001000, raw := [] }

def box16 : Box := { srcOrg := List.replicate 6 0, dstOrg := List.replicate 6 0, ext := [16, 1, 1, 1, 1, 1], perm := List.range 6 }

/-- A move of 16 FP32 elements onto themselves, with `op` and an index list at 0x2000. -/
def move16 (op : Nat) : DmaReq := { dmaReqOf [] 0 0 none none with op := op, srcT := some vec16, dstT := some vec16, box := some box16, xrec := 0x31000002000 }

def moving (op : Nat) (run : List DmaRun) (m : Mem) : State :=
  on { live with lmem := m, dma := vset live.dma 0 { DmaEngine.reset with queue := [move16 op], running := run } }

def run16 (op : Nat) (waiting : Nat) (moved : Bool) : DmaRun := { req := move16 op, waiting := waiting, fetched := [], moved := moved, code := 0, poisoned := false }

theorem witness_DmaIssue_start : (∀ op, op ≤ 7 → let s := moving op [] []; let d := vget (s.core 0).dma 0 DmaEngine.reset; d.queue = move16 op :: [] ∧ (move16 op).op ≤ 7 ∧ d.running.length < 4 ∧ d.running = [] ∧ s.appliesInputs = false ∧ (s.core 0).fenced = false ∧ s.offline [(move16 op).dst / 64] s.adderChan = false) ∧
    (let s := moving 0 (List.replicate 4 (run16 0 0 false)) []; 4 ≤ (vget (s.core 0).dma 0 DmaEngine.reset).running.length) ∧
    (let s := moving 0 [] []; ∃ p, s.sides (move16 0) = some p ∧ dmaGridLines p.1 p.2 (move16 0) box16 [] = [] ∧ (move16 0).selfCopy p.1 p.2 box16 = true) ∧
    (let s := moving 1 [] [(0x2003, 0x80)]; ∃ p, s.sides (move16 1) = some p ∧ (s.touchRange 0x31000002000 (4 * box16.ext.getD 0 0) 0).poisonedIn 0x31000002000 (4 * box16.ext.getD 0 0) = [] ∧
      Index.bad ∈ (s.touchRange 0x31000002000 (4 * box16.ext.getD 0 0) 0).dmaIndex (move16 1) p.1 p.2 box16) :=
  ⟨by decide +kernel, by decide +kernel, ⟨_, rfl, by decide +kernel⟩, ⟨_, rfl, by decide +kernel⟩⟩

def win1 : WindowRec := { kx := 1, ky := 1, sx := 1, sy := 1, dx := 1, dy := 1, pxl := 1, pxh := 0, pyl := 0, pyh := 0 }

theorem witness_DmaMoves : (let s := moving 0 [] []; ∃ p, s.sides (move16 0) = some p ∧ p.2.ext.length ≤ 6 ∧ ((move16 0).rows p.1 p.2 box16 []).flatten.length = 16 ∧
      (let r := { move16 4 with win := some win1 }; r.op = 4 ∧ r.win = some win1 ∧ (r.rows p.1 p.2 box16 []).flatten.length = 16)) ∧
    (let s := moving 0 [run16 0 1 false] []; s.dmaRun 0 0 0 = some (run16 0 1 false) ∧ (run16 0 1 false).waiting ≠ 0 ∧ (s.core 0).fenced = false) ∧
    (let s := moving 0 [run16 0 0 true] []; s.dmaRun 0 0 0 = some (run16 0 0 true) ∧ (run16 0 0 true).moved = true ∧ (move16 0).status = 0) ∧
    (let r : DmaReq := { move16 6 with src := 0x31000000000, dst := 0x31000001000, boxLen := 32 }; let u : DmaRun := { run16 6 0 false with req := r };
      let t := on { live with dma := vset live.dma 0 { DmaEngine.reset with running := [u] } }; let s := { t with grist := { t.grist with pending := [(0, 0, 0)] } };
      s.dmaRun 0 0 0 = some u ∧ u.waiting = 0 ∧ u.moved = false ∧ u.code = 0 ∧ r.op = 6 ∧ r.subop < 3 ∧ r.status = 0 ∧ r.inc = 0 ∧ s.gristHead (coreQuarter 0) = some (0, 0, 0) ∧ s.offline (linesIn r.src r.boxLen) s.missChan = false ∧ (s.mem.errors = [] ∧ s.mem.hidden = [] ∧ ∀ k, k < 12 → (s.stack k).eccCovered = [] ∧ (s.stack k).rewriting = []) ∧ s.poisonedIn r.src r.boxLen = [] ∧
      r.dst % 32 = 0 ∧ s.home (64 * (r.dst / 64)) = some (.localMem 0 0x1000)) :=
  ⟨⟨_, rfl, by decide +kernel⟩, by decide +kernel⟩

/-! ## Witnesses: memory -/

/-- The first line of the stack-local window of stack 0. -/
def hbm0 : Nat := 0x20800000000

theorem hbm0_home (s : State) (h : s.home hbm0 = some (.hbm 0)) : ∃ k, s.home (64 * (hbm0 / 64)) = some (.hbm k) := ⟨0, h⟩

theorem witness_TunCoherent : run.home (64 * (hbm0 / 64)) = some (.hbm 0) ∧ (1 : BitVec 64) ≠ 0 ∧ run.combEntry (0 / 3) (hbm0 / 64) = none ∧ run.cached (0 / 3) (hbm0 / 64) = false ∧
    0 < run.slicesIn (0 / 3) 1 ∧ ((vget run.mem.comb (0 / 3) []).filter (fun e => run.combSlice (0 / 3) e.line == run.combSlice (0 / 3) (hbm0 / 64))).length < 76800 ∧ run.mustCopy (hbm0 / 64) = false ∧ run.retraining = false ∧ (0 : Fin 4).val = 0 / 3 ∧ (BitVec.ofNat 36 (hbm0 / 64)).toNat = hbm0 / 64 := by decide +kernel

theorem errorFree_run : run.errorFree := errorFree_of _ (by decide +kernel)

def atomic (op mask addr : Nat) : AtomicReq := { op := BitVec.ofNat 4 op, addr := BitVec.ofNat 42 addr, mask := BitVec.ofNat 32 mask, operands := 0, compares := 0, poison := false, job := none }

/-- A stack in a slice of the retraining of a channel. -/
def offStack (c : Nat) : Stack := { Stack.reset with state := .retrain, window := some { chan := c, slices := 1, offline := true, complete := false } }

/-- The channel of the first line of stack 0 is offline for retraining. -/
def offline (s : State) : State := s.setStack 0 (offStack (pcOf (hbm0 / 64) / 2))

/-- Core 0 with that line's address in s1. -/
def reading : Core := withS (BitVec.ofNat 64 hbm0) 0 0

theorem chan0_lt : pcOf (hbm0 / 64) / 2 < 32 := by
  have h : pcOf (hbm0 / 64) = stackPlace 0 (2 ^ 35) := by rfl
  rw [h]
  simp only [stackPlace]
  omega

theorem offline_facts : ∀ c, c < 32 → let s := (on reading).setStack 0 (offStack c); ((s.core 0).run = .running ∧ (s.core 0).wait = .none ∧ (s.core 0).sleep = .awake ∧ (s.core 0).fenced = false ∧
    ((s.core 0).cachedFetch = true ∨ (((localForm (s.core 0).pc.toNat).bind s.home).isSome = true ∧ s.fetchWaits 0 = false ∧ ((s.fetch 0).line (s.core 0).fetchLine).2 = false))) ∧ s.appliesInputs = false ∧
    s.unreachable (reachOf hbm0) ((s.core 0).p 0) = false ∧ s.home (64 * (hbm0 / 64)) = some (.hbm 0) ∧ s.cached (0 / 3) (hbm0 / 64) = false ∧ s.chanOffline (32 * 0 + c) = true ∧ s.retraining = true ∧ s.mem.serving = false ∧ s.prioChan (hbm0 / 64) = none ∧
    hbm0 / 64 ∈ (segsOf ((s.core 0).p 0)).map (fun i => hbm0 / 64 + i) := by decide +kernel

theorem offline_of (s : State) (l : List Nat) (need : Nat → Option Nat) (ln c : Nat) (h1 : s.retraining = true) (h2 : need ln = some c) (h3 : s.chanOffline c = true) (hm : ln ∈ l) : s.offline l need = true := by
  simp only [State.offline, h1, Bool.true_and, List.any_eq_true, List.mem_filterMap]
  exact ⟨c, ⟨ln, hm, h2⟩, by simp [h3]⟩

theorem chan_of (s : State) (ln : Nat) (h1 : s.home (64 * ln) = some (.hbm 0)) (h2 : s.cached (0 / 3) ln = false) (h3 : s.prioChan ln = none) : s.missChan ln = some (32 * 0 + pcOf ln / 2) ∧ s.adderChan ln = some (32 * 0 + pcOf ln / 2) := by
  simp [State.missChan, State.adderChan, State.channelOf, h1, h2, h3]

theorem witness_GlobalAccess_offline : let s := offline (on reading); s.fresh 0 ∧ s.appliesInputs = false ∧ hbm0 % 64 = 0 ∧ ((s.core 0).s 1 + 0).toNat = hbm0 ∧ reachOf hbm0 = .here hbm0 ∧
    s.unreachable (reachOf hbm0) ((s.core 0).p 0) = false ∧ s.offline ((segsOf ((s.core 0).p 0)).map (fun i => hbm0 / 64 + i)) s.missChan = true := by
  obtain ⟨h1, h2, h3, h4, h5, h6, h7, -, h9, h8⟩ := offline_facts _ chan0_lt
  exact ⟨fresh_of _ _ ⟨h1, rfl, rfl, rfl⟩, h2, by decide +kernel, rfl, by decide +kernel, h3, offline_of _ _ _ _ _ h7 (chan_of _ _ h4 h5 h9).1 h6 h8⟩

theorem witness_MemorySideAdd_offline : let s := offline (on reading); s.mem.serving = false ∧ s.offline [hbm0 / 64] s.adderChan = true := by
  obtain ⟨-, -, -, h4, h5, h6, h7, h8, h9, -⟩ := offline_facts _ chan0_lt
  exact ⟨h8, offline_of _ _ _ _ _ h7 (chan_of _ _ h4 h5 h9).2 h6 (by simp)⟩

theorem witness_MemorySideAdd : run.retraining = false ∧ run.mustCopy (hbm0 / 64) = false ∧ run.home (64 * (hbm0 / 64)) = some (.hbm 0) ∧ (run.line (hbm0 / 64)).2 = false ∧
    (∀ p, p ∈ [(0, 0xFFFF), (1, 0xFF), (2, 0x8000), (3, 0xFFFFFFFF), (4, 1), (5, 1), (6, 0x8000), (7, 0x80)] → adderMaskOk (atomic p.1 p.2 hbm0).op.toNat (atomic p.1 p.2 hbm0).mask.toNat = true) ∧
    adderMaskOk (atomic 6 3 hbm0).op.toNat (atomic 6 3 hbm0).mask.toNat = false ∧ adderMaskOk (atomic 8 1 hbm0).op.toNat (atomic 8 1 hbm0).mask.toNat = false := by decide +kernel

theorem witness_MemorySideAdd_outside : ∀ k, run.home (64 * ((atomic 0 1 0x31000000000).addr.toNat / 64)) ≠ some (.hbm k) := by
  intro k
  rw [show run.home (64 * ((atomic 0 1 0x31000000000).addr.toNat / 64)) = some (.localMem 0 0) from by decide +kernel]
  simp

/-- The device in IDLE. -/
def idle : State := { run with dev := { run.dev with state := .idle } }

def stk (s : State) (x : Stack) : State := s.setStack 11 x

theorem witness_StacksAndChannels : (run.fynenSilent = false ∧ run.writeStop 0x4004 2 = 0) ∧ (383 : BitVec 16).toNat < 384 ∧ 384 ≤ (384 : BitVec 16).toNat ∧
    (let x := (stk run { Stack.reset with retrainQ := [31] }).stack 11; x.retrainQ = 31 :: [] ∧ x.window = none ∧ x.state = .active) ∧
    (let w : RetrainWin := { chan := 31, slices := 79, offline := false, complete := false }; let x := (stk run { Stack.reset with window := some w, state := .retrain }).stack 11; x.window = some w ∧ w.slices < 80 ∧ x.state = .retrain) ∧
    (let w : RetrainWin := { chan := 31, slices := 80, offline := false, complete := true }; let x := (stk run { Stack.reset with window := some w, state := .retrain }).stack 11; x.window = some w ∧ 80 ≤ w.slices ∧ x.state = .retrain) ∧
    (let s := run; s.home (64 * (BitVec.ofNat 36 (hbm0 / 64)).toNat) = some (.hbm (0 : Fin 12)) ∧ (s.stack 0).state ≠ .selfRefresh ∧ hbm0 / 64 ∉ s.mem.poison ∧ s.heldAbove (hbm0 / 64) = false ∧ ({ s with mem := { s.mem with adder := [hbm0 / 64] } } : State).heldAbove (hbm0 / 64) = true) ∧
    ([35] : List (Fin 36)).Nodup ∧ ([0, 35] : List (Fin 36)).Nodup ∧ ([0, 1, 35] : List (Fin 36)).Nodup ∧ ([] : List (Fin 72)).length ≤ 1 ∧ ([71] : List (Fin 72)).length ≤ 1 ∧
    (let w : RetrainWin := { chan := 31, slices := 79, offline := false, complete := false }; let x := (stk run { Stack.reset with window := some w, state := .retrain }).stack 11; x.dataSpares.any (fun q => q.1 == w.chan / 2) = false ∧
      ((stk run { Stack.reset with window := some w, state := .retrain, dataSpares := [(15, 3)] }).stack 11).dataSpares.any (fun q => q.1 == w.chan / 2) = true) := by decide +kernel

theorem witness_StacksAndChannels_test : (idle.fynenSilent = false ∧ idle.writeStop 0x4001 11 = 0 ∧ idle.writeStop 0x4020 9 = 0) ∧ (run.fynenSilent = false ∧ run.writeStop 0x4001 11 = 0) ∧ idle.dev.state = .idle ∧ run.dev.state ≠ .idle ∧
    (idle.stack 11).state ≠ .failed ∧ (let s := stk idle { Stack.reset with state := .test }; s.generatorOn 11 = false ∧ (s.stack 11).state = .test) ∧
    (let x := (stk idle { Stack.reset with state := .test, zeroFilling := true }).stack 11; x.zeroFilling = true ∧ x.state = .test) ∧
    (let s := idle.setStack 0 { Stack.reset with state := .test }; s.mem.tgState ≠ 1 ∧ (s.stack (s.objGet 0x4020 0)).state = .test ∧ (s.stack (s.objGet 0x4020 0)).zeroFilling = false) ∧
    (let s : State := { idle with mem := { idle.mem with tgState := 1 } }; s.mem.tgState = 1 ∧ s.fynenSilent = false ∧ s.writeStop 0x4020 9 = 0) ∧ (let s : State := { idle with mem := { idle.mem with tgState := 3 } }; s.mem.tgState = 3 ∧ s.mem.tgRes = []) ∧
    idle.mem.tgState ≠ 1 ∧ (idle.stack (idle.objGet 0x4020 0)).state ≠ .test ∧ (idle.stack 11).state = .active ∧ (idle.stack 11).window = none ∧
    ((stk idle { Stack.reset with state := .selfRefresh }).stack 11).state = .selfRefresh := by decide +kernel

theorem witness_TunAndHostWindow_tun : (idle.fynenSilent = false ∧ idle.writeStop 0x4010 (32 * 3 + 0) = 0) ∧ (idle.dev.state = .idle ∨ idle.dev.state = .run) ∧ (0 : Fin 32).val < 31 ∧ (2 : BitVec 8).toNat ≤ 2 ∧
    vget idle.mem.tunMode (32 * 3 + 0) 0 ≠ (2 : BitVec 8).toNat ∧ (31 : Fin 32).val = 31 ∧ 2 < (3 : BitVec 8).toNat ∧
    (let s : State := { run with dev := { run.dev with state := .drain } }; s.fynenSilent = false ∧ s.writeStop 0x4010 96 = 0 ∧ s.dev.state ≠ .idle ∧ s.dev.state ≠ .run) ∧
    (let s : State := { idle with mem := { idle.mem with tunSwitch := vset idle.mem.tunSwitch 3 [(0, 2)] } }; vget s.mem.tunSwitch 3 [] = ((0 : Fin 32).val, 2) :: [] ∧ vget s.mem.tunMode (32 * 3 + 0) 0 ≠ 2) ∧ vget idle.mem.comb 3 [] = [] := by decide +kernel

/-- Slice 5 of quarter 3 combines, and holds an entry of a line of stack 9. -/
def combining : State :=
  let e : CombEntry := { line := 0x20800000000 / 64 + 9 * 2 ^ 30, data := 0, mask := 1, poison := false }
  { idle with mem := { idle.mem with tunMode := vset (Vector.replicate 128 0) (32 * 3 + 5) 1, comb := vset idle.mem.comb 3 [e] } }

theorem witness_TunAndHostWindow_holds : vget combining.mem.tunMode (32 * 3 + 5) 0 = 1 ∧ ∃ e ∈ vget combining.mem.comb 3 [], combining.combSlice 3 e.line = 5 := by
  refine ⟨by decide +kernel, _, List.mem_cons_self, ?_⟩
  have h : combining.slicesOf 3 1 = [5] := by decide +kernel
  simp [State.combSlice, h, Nat.mod_one]

/-- RUN with the PCI Express link up, and BAR2 on the local window of core 0. -/
def linked : State := State.objSet { run with host := { run.host with linkUp := true } } 0x1020 1 0x31000000000

theorem witness_TunAndHostWindow : run.host.linkUp = false ∧ linked.host.linkUp = true ∧ linked.objGet 0x1020 1 + (0 : Word).toNat = 0x31000000000 ∧ linked.assigned 0x31000000000 (4096 : BitVec 13).toNat = true ∧ linked.mem.errors = [] ∧ linked.retraining = false ∧
    linked.assigned (linked.objGet 0x1020 1 + (0x10000000000 : Word).toNat) 1 = false ∧ linked.esc.record = none ∧ linked.assigned 0x31000000000 (List.replicate 512 (0 : Byte)).length = true ∧ [(0 : Byte)] ≠ [] := by decide +kernel

theorem witness_TunAndHostWindow_lines : ∀ i, i < ceilDiv (0x31000000000 % 64 + 4096) 64 → ∀ k, linked.home (64 * (0x31000000000 / 64 + i)) ≠ some (.hbm k) := by
  intro i hi k
  have h : ∀ i, i < ceilDiv (0x31000000000 % 64 + 4096) 64 → linked.home (64 * (0x31000000000 / 64 + i)) = some (.localMem 0 (64 * i)) := by decide +kernel
  rw [h i hi]; simp

/-! ## Witnesses: the fabric -/

def prt (s : State) (p : Nat) (x : Port) : State := s.setPort p x

/-- A device at coordinate (1, 1) of floor 0. -/
def placed (s : State) : State := { s with dev := { s.dev with coordAssigned := true, coord := 0x11 } }

/-- A neighbour's card with the fields of 08 Table 4 that the port compares with; its check value closes it. -/
def sealCard (b : List Byte) : List Byte := b.take 60 ++ leBytes (crc32c (b.take 60)) 4

theorem witness_PortTraining : (run.fynenSilent = false ∧ run.writeStop 0x5002 11 = 0 ∧ run.writeStop 0x5003 11 = 0) ∧ (run.port 11).state = .disabled ∧
    (let x := (prt run 11 { Port.reset with state := .down }).port 11; x.carries = false ∧ x.state ≠ .parked ∧ x.state ≠ .disabled ∧ x.state ≠ .miswired ∧ x.state = .down) ∧
    (let x := (prt run 11 { Port.reset with state := .miswired, observed := List.replicate 14 0 ++ [1] ++ List.replicate 49 0 }).port 11; x.state = .miswired ∧ recNat x.observed 14 1 = 1 ∧ x.laneCount = 8 ∧ x.detour = none) ∧
    ((prt run 11 { Port.reset with state := .detect }).port 11).state = .detect ∧ ((prt run 11 { Port.reset with state := .up }).port 11).carries = true ∧ ((prt run 11 { Port.reset with state := .training }).port 11).state = .training ∧
    run.dev.state ≠ .reset ∧ ({ run with dev := { run.dev with state := .reset } } : State).dev.state = .reset ∧ (run.port 11).written = false ∧
    3 ≤ ((List.range 9).filter (7 : BitVec 9).getLsbD).length ∧ ((List.range 9).filter (3 : BitVec 9).getLsbD).length < 3 := by decide +kernel

theorem witness_PortTraining_card : (let s := prt (placed run) 0 { Port.reset with state := .cardExchange }; (s.port 0).state = .cardExchange ∧ (s.port 0).detour = none) ∧
    (let c := sealCard ([1, 0, 0, 9] ++ List.replicate 60 0); c.length = 64 ∧ recNat c 0 2 = 1 ∧ recNat c 60 4 = crc32c (c.take 60) ∧ cardVersion c = none) ∧
    (let c := sealCard ([1, 0, 1, 1, 1] ++ List.replicate 59 0); c.length = 64 ∧ recNat c 0 2 = 1 ∧ recNat c 60 4 = crc32c (c.take 60) ∧ cardVersion c ≠ none ∧
      cardMatches ((prt (placed run) 0 { Port.reset with state := .cardExchange }).recordInForce 0) c = false) ∧
    (let e := (prt (placed run) 0 { Port.reset with state := .cardExchange }).recordInForce 0;
      let c := sealCard ([1, 0, 1, 1, 1, 0, 0, 0] ++ leBytes (2 ^ 31 + recNat e 0 4) 4 ++ [e.getD 4 0, 0, e.getD 5 0, 0] ++ (e.drop 8).take 16 ++ List.replicate 32 0); c.length = 64 ∧ recNat c 0 2 = 1 ∧
      recNat c 60 4 = crc32c (c.take 60) ∧ cardVersion c ≠ none ∧ cardMatches e c = true) ∧
    (idle.fynenSilent = false ∧ idle.writeStop 0x5000 0 = 0 ∧ idle.dev.state = .idle) ∧ (run.writeStop 0x5000 0 = 0 ∧ run.dev.state ≠ .idle) ∧ (0x1FFFF : BitVec 32).toNat < 2 ^ 17 := by decide +kernel

/-- A port that carries packets, with credits. -/
def up : Port := { Port.reset with state := .up, credits := Vector.replicate 2 160 }

theorem witness_LinkRetry : (let x := (prt run 3 up).port 3; let fixes : List (Fin 136) := [0, 7, 8, 135]; x.carries = true ∧ x.swapping = none ∧ ((prt run 3 { up with swapping := some 7 }).port 3).carries = true ∧ fixes.length ≤ 4 ∧ (0 : BitVec 12) = x.rxCw ∧
      (∀ l, l < 9 → tget 0 (x.countFixes fixes).corrected l < (prt run 3 up).objGet 0x5021 0)) ∧ 4 < ([0, 1, 2, 3, 4] : List (Fin 136)).length ∧
    (let x := (prt run 3 { up with rxCw := 5 }).port 3; (4 : BitVec 12) ≠ x.rxCw ∧ (x.rxCw - 4).toNat < 2048) ∧
    (let x := (prt run 3 { up with ackCw := 4000 }).port 3; x.carries = true ∧ x.fresh (4095 + 1) = true ∧ x.fresh 4000 = true ∧ (4000 : BitVec 12) = x.ackCw ∧ x.fresh (3999 + 1) = true ∧ x.fresh (3998 + 1) = false ∧ x.fresh 3999 = false) ∧
    (let k := pkt 0 0; let s := prt run 3 { up with txQ := vset (Vector.replicate 2 []) 1 [(3, k)], credits := Vector.replicate 2 2 }; let x := s.port 3; s.dev.state ≠ .fault ∧ s.dev.state ≠ .reset ∧ x.lostHeld = false ∧
      x.txQ = vset (Vector.replicate 2 []) 1 ((3, k) :: []) ∧ x.injQ = Vector.replicate 2 [] ∧ creditsNeeded 3 3 ≤ vget x.credits 1 0 ∧ x.retryRoom k = true ∧ k.poison = 0 ∧ vget (prt run 3 up |>.port 4).credits 1 0 < creditsNeeded 3 4 ∧
      ({ x with txCw := 500 } : Port).retryRoom k = false) := by decide +kernel

/-- A report of both channels. -/
def report (n : Nat) (owed : Nat) : List AuditReport := List.replicate 2 { free := BitVec.ofNat 8 n, owed := BitVec.ofNat 8 owed, flight := 0 }

/-- The sparge is draining. -/
def sparging (s : State) : State := { s with fabric := { s.fabric with sparge := .draining } }

theorem witness_LanesAndSparge_lanes : (let x := (prt run 3 up).port 3; x.carries = true ∧ x.failedLanes.getLsbD 7 = false ∧ x.swapped = none ∧ x.swapping = none ∧ x.badLanes.getLsbD 8 = false ∧ x.failedLanes.getLsbD 8 = false) ∧
    (∀ out, let y := ((prt run 3 up).port 3).restripe 7 out; 7 ≤ (stripeOver y.txSwap y.txOut).length) ∧ (let y := ((prt run 3 { up with txOut := 1 }).port 3).restripe 7 true; (stripeOver y.txSwap y.txOut).length < 7) ∧
    (let s := prt run 3 { up with swapping := some 7 }; (s.port 3).swapping = some (7 : Fin 9).val ∧ s.resil.drill = none) ∧
    (let x := (prt run 3 { up with carried := true }).port 3; x.carries = true ∧ x.carried = true ∧
      ∀ i, i < 9 → x.lanes.testBit i = true → (f32 ((List.replicate 9 (0x7F000000 : BitVec 32)).getD i 0).toNat).lt (f32 ((prt run 3 { up with carried := true }).objGet 0x5021 2)) = false) ∧ (run.port 3).carries = false ∧
    ((prt run 3 { Port.reset with state := .training }).port 3).state = .training ∧ ((prt run 7 { up with handoff := true }).port 7).handoff = true ∧ (7 : Fin 12).val < 8 := by decide +kernel

theorem witness_LanesAndSparge : (run.fynenSilent = false ∧ run.writeStop 0x5003 3 = 0) ∧ ¬((run.port 3).carries = true ∨ (run.port 3).state = .parked) ∧
    (let x := (prt run 3 { up with credits := Vector.replicate 2 157 }).port 3; (x.carries = true ∨ x.state = .parked) ∧
      (∀ v, v < 2 → vget x.credits v 0 + ((report 157 3).getD v { free := 160, owed := 0, flight := 0 }).owed.toNat + ((report 157 3).getD v { free := 160, owed := 0, flight := 0 }).flight.toNat = 160) ∧
      ¬(∀ v, v < 2 → vget x.credits v 0 + ((report 157 2).getD v { free := 160, owed := 0, flight := 0 }).owed.toNat + ((report 157 2).getD v { free := 160, owed := 0, flight := 0 }).flight.toNat = 160)) ∧
    (∀ d : Fin 2, vget (vget run.fabric.d2d 5 D2D.reset).spares d 0 ≠ 0) ∧ (vget run.fabric.d2d 5 D2D.reset).lost = false ∧ (∀ i, i < 6 → (vget run.fabric.d2d i D2D.reset).lost = false) ∧
    (let s : State := { run with fabric := { run.fabric with d2d := vset run.fabric.d2d 5 { spares := Vector.replicate 2 0, lost := true } } }; vget (vget s.fabric.d2d 5 D2D.reset).spares 1 0 = 0 ∧ (vget s.fabric.d2d 5 D2D.reset).lost = true) ∧
    (run.writeStop 0x5011 0 = 0 ∧ run.writeStop 0x5010 4 = 0) ∧ (let s := sparging run; s.fabric.sparge = .draining ∧ s.drained = true ∧ s.fabric.waiting = [] ∧ s.auditedPorts = []) ∧
    (let s := sparging (prt run 3 { up with credits := Vector.replicate 2 161 }); s.fabric.sparge = .draining ∧ s.drained = true ∧ s.auditedPorts = [3]) ∧
    run.fabric.sparge ≠ .draining ∧ run.fabric.sparge ≠ .drained ∧ (let s : State := { run with fabric := { run.fabric with sparge := .drained } }; s.fabric.sparge = .drained ∧ s.fabric.waiting = []) := by decide +kernel

/-- A request packet as a far device sends it, with its trailer. -/
def sent (type sub len addr arg : Nat) (payload : List Line) : Packet :=
  packetSeal { pkt len 0 with dst := 0x11, src := 0x12, type := BitVec.ofNat 5 type, sub := BitVec.ofNat 4 sub, addr := BitVec.ofNat 42 addr, arg := BitVec.ofNat 32 arg, payload := payload }

/-- A packet reaches this device over port 3, which carries poison per line. -/
def facing (s : State) : State := prt (placed s) 3 { up with features := 7 }

theorem witness_FabricRequests : (∀ v : Option (Fin 12), v = none ∨ v = some 3 → (facing run).forMe v (sent 0 0 1 0x31000000000 0 [1]) = true ∧ (∀ i, v = some i → ((facing run).port i).features.getLsbD 2 = true)) ∧
    (facing run).inLocalRun = false ∧ (facing run).esc.record = none ∧ (facing run).retraining = false ∧ (facing run).mem.errors = [] ∧
    (∀ p, p ∈ [sent 0 0 1 0x31000000000 0 [1], sent 0 1 2 0x31000000000 0 [1, 5], sent 1 0 0 0x31000000000 32 [], sent 2 0 1 hbm0 1 [1], sent 2 6 2 hbm0 1 [1, 0], sent 3 0 0 65535 5 []] → packetCrc p = p.crc ∧ packetHeaderBad p = false) ∧
    packetCrc { sent 0 0 1 0 0 [1] with crc := 0 } ≠ 0 ∧ packetHeaderBad (sent 0 0 4 0 0 [1]) = true ∧ packetMaskBad (sent 0 1 2 0x31000000000 0 [1, 5]) = false := by
  refine ⟨?_, by decide +kernel⟩
  rintro v (rfl | rfl)
  · exact ⟨by decide +kernel, by simp⟩
  · refine ⟨by decide +kernel, ?_⟩
    rintro i h
    cases h
    decide +kernel

theorem witness_FabricRequests_places : (let u := ((facing run).arrive none (sent 0 0 1 0 0 [])).bump 0x5060 4 1; (List.range 1).all (fun i => u.cellarTakes 0x12 (0x31000000000 + 64 * i)) = false ∧ u.linesAssigned 0x3F000000000 1 = false ∧
      u.linesAssigned 0x31000000000 32 = true ∧ (u.adder 0 1 (0x31000000000 / 64) 1 0 false false).2 = none ∧ (u.adder 0 1 (hbm0 / 64) 1 0 false false).2.isSome = true) ∧
    adderMaskOk 0 1 = true ∧ adderMaskOk 6 1 = true ∧ adderCas 6 = true ∧ adderCas 0 = false ∧ (owned (facing run)).counterOwner 65535 < 8 ∧ 8 ≤ (owned (facing run)).counterOwner 0 := by decide +kernel

theorem witness_FabricRequests_outside : ∀ i, i < 1 → (facing run).home (0x31000000000 + 64 * i) ≠ none ∧ ∀ k, (facing run).home (0x31000000000 + 64 * i) ≠ some (.hbm k) := by
  intro i hi
  have h : ∀ i, i < 1 → (facing run).home (0x31000000000 + 64 * i) = some (.localMem 0 (64 * i)) := by decide +kernel
  rw [h i hi]; simp

/-- A request in flight with TAG 7. -/
def flying (kind : Nat) (unit : UnitId) (job : Nat) : Request :=
  { tag := 7, dst := 0x12, kind := kind, unit := unit, job := job, stream := 0, tokens := 1, lines := 1, got := 0, addr := 0, reg := 0, pos := 0 }

def flight (s : State) (r : Request) : State := { s with fabric := { s.fabric with requests := [r] } }

def answer (type status : Nat) (payload : List Line) : Packet := packetSeal { sent type 0 payload.length 0 0 payload with vc := true, tag := 7, status := BitVec.ofNat 8 status }

theorem witness_FabricResponses : (∀ e, e ∈ [(16, 0), (18, 2), (19, 3), (20, 4), (21, 5)] → let p := answer e.1 0 []; packetCrc p = p.crc ∧ p.payload = [] ∧
      (let s := flight (moving 0 [run16 0 1 false] []) (flying e.2 (.dma 0 0 0) 0); s.fabric.waiting = [] ∧ s.fabric.requests.find? (fun q => q.tag == p.tag && some e.2 == some q.kind) = some (flying e.2 (.dma 0 0 0) 0) ∧
        s.dmaRun 0 0 0 = some (run16 0 1 false)) ∧ run.fabric.requests.find? (fun q => q.tag == p.tag && some e.2 == some q.kind) = none) ∧
    (let p := answer 31 6 []; packetCrc p = p.crc ∧ p.type = 31 ∧ p.status ≠ 8 ∧ (flight (moving 0 [run16 0 1 false] []) (flying 0 (.dma 0 0 0) 0)).fabric.requests.find? (fun q => q.tag == p.tag) = some (flying 0 (.dma 0 0 0) 0)) ∧
    (let p := answer 17 0 [5]; let s := flight (on { live with wait := .gld 31 0 }) (flying 1 (.core 0) 0); packetCrc p = p.crc ∧ s.fabric.requests.find? (fun q => q.tag == p.tag && some 1 == some q.kind) = some (flying 1 (.core 0) 0) ∧
      (s.core 0).wait = .gld 31 0 ∧ (∀ q ∈ s.readsOut 0, q.tag = (flying 1 (.core 0) 0).tag) ∧ s.stepOpenFor 0 = false ∧ 1 ≤ 0 + p.payload.length ∧ 0 + p.addr.toNat / 64 + p.payload.length ≤ 32) ∧
    (flight run (flying 1 .racking 8)).fabric.requests.find? (fun q => q.tag == 7) = some (flying 1 .racking 8) ∧
    (let s := facing run; let p := sent 0 0 1 0 0 [1]; let f := { p with dst := 0x12 }; (s.port 3).carries = true ∧ s.ep = some 0x11 ∧ f.dst ≠ 0x11 ∧ f.hops ≠ 63 ∧ f.poison = 0 ∧ s.route (s.onRing 3 f) = .port 0 ∧ s.carrier 0 < 12 ∧ s.fabric.sparge ≠ .drained ∧
      s.fabric.waiting = [] ∧ packetCrc (packetSeal f) = (packetSeal f).crc) := by decide +kernel


theorem witness_StacksAndChannels_wake :
    let drift := fun (s : State) => (List.range 32).any (fun h => driftReached ((s.stack 11).stamps.getD h 0) (s.stack 11).temp (BitVec.ofNat 32 (s.objGet 0x4004 0)))
    let s := stk idle { Stack.reset with state := .selfRefresh }
    let t := stk idle { Stack.reset with state := .selfRefresh, temp := 0x41A00000 }
    (s.stack 11).window = none ∧ drift s = false ∧ (t.stack 11).state = .selfRefresh ∧ (t.stack 11).window = none ∧ drift t = true := by decide +kernel

/-- An audit fails whatever the far end reports while a port counts more credits than there are buffers. -/
theorem witness_Sparge_fails : let s := sparging (prt run 3 { up with credits := Vector.replicate 2 161 }); ¬(∀ p ∈ s.auditedPorts, ((s.auditedPorts.foldl State.freshReport s).port p).auditPasses = true) := by
  intro s h
  have e : s.auditedPorts = [3] := by decide +kernel
  have h3 := h 3 (by simp [e])
  rw [e] at h3
  have key : ∀ x : Port, x.credits = Vector.replicate 2 161 → x.auditPasses = false := by
    intro x hx
    have : vget x.credits 0 0 = 161 := by rw [hx]; rfl
    simp [Port.auditPasses, List.range_succ, this]
    intro h; omega
  have hx : (([3].foldl State.freshReport s).port 3).credits = Vector.replicate 2 161 := by
    rfl
  rw [key _ hx] at h3
  cases h3

/-! ## Witnesses: commands of streams -/

def memOf (off : Nat) (l : List Byte) : Mem := (l.zipIdx.map (fun x => (off + x.2, x.1))).filter (fun x => x.2 != 0)

/-- A command: opcode, FLAGS, operands from byte 16. -/
def cmd (op flags : Byte) (operands : List Byte) : List Byte := [op, flags] ++ List.replicate 14 0 ++ operands

/-- Stream 63, ready, of job `j`, which is active; the command stands in slot 0 of its window. -/
def asking (s : State) (j : Nat) (b : List Byte) : State :=
  (s.setJob j { Job.reset with state := .active }).setStream 63 { Stream.reset with state := .ready, job := j, tail := 1, window := memOf 0 b }

/-- The command that stream 63 takes next. -/
def first (b : List Byte) : NextCmd := { count := 0, raw := lineOf (b ++ List.replicate (64 - b.length) 0), replay := false, redo := false }

theorem starts_of (s : State) (n : NextCmd) (op : Nat) (used : List (Nat × Nat)) (h : s.nextCmd 63 = some n ∧ s.mayStart 63 n = true ∧ n.op = op ∧ s.headerCodes 63 n used = [] ∧
    ((s.stream 63).job = s.gatedJob → s.esc.phase = .compute → n.replay = true)) : s.starts 63 n op used := h

def alloc (op : Byte) (k : Nat) : List Byte := cmd 9 0 ([op, 0] ++ leBytes k 2)

theorem witness_SyncCommands_alloc : (asking run 1 (alloc 0 255)).starts 63 (first (alloc 0 255)) 0x09 [(16, 17), (18, 20)] ∧ (asking run 1 (alloc 0 0xFFFF)).starts 63 (first (alloc 0 0xFFFF)) 0x09 [(16, 17), (18, 20)] ∧
    (asking (owned run) 0 (alloc 1 255)).starts 63 (first (alloc 1 255)) 0x09 [(16, 17), (18, 20)] ∧
    (let b := (first (alloc 0 255)).bytes; let s := asking run 1 (alloc 0 255); recNat b 16 1 = 0 ∧ recNat b 18 2 = 255 ∧ s.blockOwner 255 = 0xFF ∧ (asking (owned run) 1 (alloc 0 255)).blockOwner 255 ≠ 0xFF) ∧
    (let b := (first (alloc 0 0xFFFF)).bytes; recNat b 16 1 = 0 ∧ recNat b 18 2 = 0xFFFF ∧ (asking run 1 (alloc 0 0xFFFF)).blockOwner 0 = 0xFF) ∧
    (let b := (first (alloc 1 255)).bytes; let s := asking (owned run) 0 (alloc 1 255); recNat b 16 1 = 1 ∧ s.blockOwner 255 = (s.stream 63).job ∧
      ¬((asking run 1 (alloc 1 255)).blockOwner 255 = 1 ∨ ((asking run 1 (alloc 1 255)).blockOwner 255 = 0xFE ∧ tget 8 (asking run 1 (alloc 1 255)).sync.orphanOf 255 = 1))) :=
  ⟨starts_of _ _ _ _ (by decide +kernel), starts_of _ _ _ _ (by decide +kernel), starts_of _ _ _ _ (by decide +kernel), by decide +kernel⟩

/-- A record at offset 0x1000 of the local memory of core 0. -/
def holding (s : State) (r : List Byte) : State := s.setCore 0 { s.core 0 with lmem := memOf 0x1000 r }

def setup (op k : Byte) (g : Nat) : List Byte := cmd 10 0 ([op, k, 0, 0, 0, 0, 0, 0] ++ leBytes g 8)

/-- CORE_MASK of core 143 alone, core kind. -/
def maskRec : List Byte := leBytes (2 ^ 143) 18 ++ List.replicate 14 0

theorem witness_SyncCommands_barrier : (let s := asking (holding run maskRec) 1 (setup 0 255 0x31000001000); let n := first (setup 0 255 0x31000001000); let b := n.bytes; s.starts 63 n 0x0A [(16, 18), (24, 32)] ∧ s.errorFree ∧
      recNat b 16 1 = 0 ∧ recNat b 24 8 % 32 = 0 ∧ localForm (recNat b 24 8) = some 0x31000001000 ∧ s.inOneWindow 0x31000001000 32 = true ∧ s.poisonedIn 0x31000001000 32 = [] ∧
      barrierRecordCodes (s.view 0x31000001000 32) = [] ∧ s.slotCodes (recNat b 17 1) 1 = []) ∧
    (let s := asking (owned run) 0 (setup 1 255 0); let n := first (setup 1 255 0); s.starts 63 n 0x0A [(16, 18)] ∧ recNat n.bytes 16 1 = 1 ∧ s.slotOwner (recNat n.bytes 17 1) = (s.stream 63).job ∧
      ¬((asking run 1 (setup 1 255 0)).slotOwner 255 = 1 ∨ ((asking run 1 (setup 1 255 0)).slotOwner 255 = 0xFE ∧ tget 8 (asking run 1 (setup 1 255 0)).sync.orphanOf 511 = 1))) :=
  ⟨⟨starts_of _ _ _ _ (by decide +kernel), errorFree_of _ (by decide +kernel), by decide +kernel⟩,
    starts_of _ _ _ _ (by decide +kernel), by decide +kernel⟩

/-- A group table of one device: P 1 and RANK 0 on every axis. -/
def aloneRec : List Byte := (List.replicate 8 [1, 0, 0, 0, 0, 0, 0, 0]).flatten ++ List.replicate 12 0 ++ [1] ++ List.replicate 51 0

theorem witness_SyncCommands_job : (let s := asking (holding run aloneRec) 1 (cmd 8 0 (leBytes 0x31000001000 8)); let n := first (cmd 8 0 (leBytes 0x31000001000 8)); let b := n.bytes; s.starts 63 n 0x08 [(16, 24)] ∧
      recNat b 16 8 % 64 = 0 ∧ localForm (recNat b 16 8) = some 0x31000001000 ∧ s.inOneWindow 0x31000001000 128 = true ∧ s.poisonedIn 0x31000001000 128 = [] ∧
      s.groupTableBad (s.view 0x31000001000 128) = false ∧ s.objGet 0x6050 4 ≠ 3 ∧ (s.stream 63).job < 8 ∧ s.groupTableBad (s.view 0x31000002000 128) = true) ∧ (asking (holding run aloneRec) 1 (cmd 8 0 (leBytes 0x31000001000 8))).errorFree :=
  ⟨⟨starts_of _ _ _ _ (by decide +kernel), by decide +kernel⟩, errorFree_of _ (by decide +kernel)⟩

theorem witness_SyncCommands_expelled : let c := cmd 8 0 (leBytes 0x31000001000 8); let s := asking (holding (State.objSet run 0x6050 4 3) aloneRec) 1 c; let n := first c; s.starts 63 n 0x08 [(16, 24)] ∧
    (s.inOneWindow 0x31000001000 128 = true ∧ s.poisonedIn 0x31000001000 128 = [] ∧ s.groupTableBad (s.view 0x31000001000 128) = false ∧ s.objGet 0x6050 4 = 3) ∧ s.errorFree :=
  ⟨starts_of _ _ _ _ (by decide +kernel), by decide +kernel, errorFree_of _ (by decide +kernel)⟩

theorem witness_SyncCommands_audit : (run.fynenSilent = false ∧ run.writeStop 0x5060 11 = 0) ∧ (let s : State := { run with fabric := { run.fabric with sparge := .drained } }; s.fabric.sparge = .drained ∧
    s.dmaBusy = 0 ∧ (∀ u ∈ s.kiln.units.toList, u.parts = []) ∧ s.coll.queue = [] ∧ s.coll.running = []) ∧ run.fabric.sparge ≠ .drained := by decide +kernel
/-! ## Witnesses: collectives -/

def collRec (op : Byte) (opid : Nat) : List Byte := [op, 0, 0, 0, 1, 0, 0, 0] ++ leBytes 0x31000010000 8 ++ leBytes 0x31000020000 8 ++ leBytes 4 8 ++ List.replicate 12 0 ++ leBytes opid 4 ++ List.replicate 16 0

/-- The operation that the record describes, of stream 63 and job 1. -/
def collD (op opid : Nat) : CollDesc := collDescOf (collRec (BitVec.ofNat 8 op) opid) 1 63 0

def queued (s : State) (l : List CollDesc) : State := { s with coll := { s.coll with queue := l } }

theorem queued_home (s : State) (l : List CollDesc) (a : Nat) : (queued s l).home a = s.home a := rfl

theorem witness_CollectiveRuns_command : (run.appliesInputs = false ∧ run.retraining = false) ∧ (let c := cmd 0x13 0 (leBytes 0x31000001000 8); let s := asking (holding run (collRec 2 5)) 1 c; let n := first c; s.starts 63 n 0x13 [(16, 24)] ∧ s.appliesInputs = false ∧ s.retraining = false ∧
      recNat n.bytes 16 8 % 64 = 0 ∧ localForm (recNat n.bytes 16 8) = some 0x31000001000 ∧ s.inOneWindow 0x31000001000 64 = true ∧ s.poisonedIn 0x31000001000 64 = [] ∧
      s.collCodes (collDescOf (s.view 0x31000001000 64) (s.stream 63).job 63 n.count) (s.view 0x31000001000 64) = [] ∧ s.coll.queue.length < 32 ∧ 32 ≤ (queued s (List.replicate 32 (collD 2 6))).coll.queue.length) ∧
    (let c := cmd 0x13 0 (leBytes 0x31000001000 8); let s := asking (holding run (collRec 2 5)) 1 c; let t := queued s (List.replicate 32 (collD 2 6)); t.starts 63 (first c) 0x13 [(16, 24)] ∧ s.errorFree ∧ t.errorFree) :=
  ⟨by decide +kernel, ⟨starts_of _ _ _ _ (by decide +kernel), by decide +kernel⟩, starts_of _ _ _ _ (by decide +kernel), errorFree_of _ (by decide +kernel), errorFree_of _ (by decide +kernel)⟩

theorem witness_CollectiveRuns_start : ∀ op, op < 5 → let d := if op = 3 then { collD 3 5 with inFmt := 7, wire := 3, outFmt := 7, count := 1, src := 0, dst := 0 } else collD op 5; let s := queued run [d];
    s.appliesInputs = false ∧ s.retraining = false ∧ s.coll.queue = d :: [] ∧ s.coll.running.length < 8 ∧ (∀ r ∈ s.coll.running, r.desc.job = d.job → r.desc.opid ≠ d.opid) ∧ d.ready s = true ∧ d.axes ≠ 0 ∧ d.opid.toNat < 0xFFFF0000 ∧ d.op = op ∧
    (let t0 := (s.job d.job).table; t0.g = 1 ∧ ∀ a, a < 8 → t0.p a = 1 ∧ t0.rank a = 0) ∧ (op ≠ 3 → d.inFmt = 0 ∧ d.wire = 0 ∧ d.outFmt = 0 ∧ d.dst % 64 = 0) := by decide +kernel


/-- The result and the indices of four elements land in the local memory of core 0. -/
theorem witness_CollectiveRuns_lands (op : Nat) : ∀ ln, 0x31000020000 / 64 ≤ ln → 64 * ln < 0x31000020000 + (indexOff 4 + 2 * (4 * 4)) → ∃ k o, k < 144 ∧ (queued run [collD op 5]).home (64 * ln) = some (.localMem k o) := by
  have h : ∀ ln, ln ∈ [0xC40000800, 0xC40000801] → (run.home (64 * ln)).any (fun x => match x with
      | .localMem k _ => decide (k < 144)
      | _ => false) = true := by decide +kernel
  have e : indexOff 4 + 2 * (4 * 4) = 96 := by decide
  intro ln h1 h2
  rw [e] at h2
  have h3 := h ln (by simp only [List.mem_cons, List.not_mem_nil, or_false]; omega)
  rw [queued_home]
  revert h3
  cases run.home (64 * ln) with
  | none => simp
  | some x => cases x <;> simp

/-- Operation 5, over axis 0, of 64 FP32 elements, with grants for all that its neighbours send. -/
def ring5 (done : Bool) : CollRun :=
  { desc := { collD 0 5 with count := 64 }, steps := [0], gather := false, lo := 0, hi := 64, vals := List.replicate 64 0, poisons := List.replicate 64 false, rxPlus := [], rxMinus := []
    sentPlus := 0, sentMinus := 0, givenPlus := 128, givenMinus := 0, ranges := [], finished := done }

def ringing (s : State) (done : Bool) : State := { s with coll := { s.coll with running := [ring5 done] } }

theorem witness_CollectiveRuns_complete : (let s := ringing run true; s.coll.running.find? (fun r => r.desc.opid == 5 && r.finished) = some (ring5 true) ∧ s.appliesInputs = false ∧ s.retraining = false) ∧
    (5 : BitVec 32).toNat < 0xFFFF0000 ∧ (let s := ringing run false; (∀ r ∈ s.coll.running, r.desc.opid ≠ 6) ∧ s.appliesInputs = false ∧ s.retraining = false) := by decide +kernel

theorem witness_CollectiveRuns_errors (l : List CollDesc) (b : Bool) : (queued run l).errorFree ∧ (ringing run b).errorFree := ⟨errorFree_run, errorFree_run⟩

/-- Job `j` in a group of `p` devices along axis 0, this device at rank `r`; the grid stands in the local memory of core 0, and the last rank has endpoint 0x12. -/
def grouped (s : State) (j p r : Nat) : State :=
  (holding (placed s) ((List.range p).flatMap (fun k => leBytes (if k = r then 0x11 else if k + 1 = p then 0x12 else 0x40 + k) 4))).setJob j
    { Job.reset with state := .active, table := { axes := (p, r) :: List.replicate 7 (1, 0), grid := 0x31000001000, g := p } }

/-- A packet that needs no reading rights: as `sent`, over the port that faces the sender or without a port. -/
theorem witness_CollectivePackets_in : (∀ v : Option (Fin 12), v = none ∨ v = some 3 → (facing run).forMe v (sent 4 1 0 64 5 []) = true ∧ (∀ i, v = some i → ((facing run).port i).features.getLsbD 2 = true)) ∧
    (facing run).inLocalRun = false ∧ (∀ p, p ∈ [sent 4 0 1 0 5 [1], sent 4 1 0 64 5 [], sent 4 2 0 0 5 [], sent 5 0 0 255 0 [], sent 5 1 0 255 0 [], sent 5 2 0 255 0 []] → packetCrc p = p.crc ∧ packetHeaderBad p = false) := by
  refine ⟨?_, by decide +kernel⟩
  rintro v (rfl | rfl)
  · exact ⟨by decide +kernel, by simp⟩
  · refine ⟨by decide +kernel, ?_⟩
    rintro i h
    cases h
    decide +kernel

theorem witness_CollectivePackets_coll : (∀ k, k < 3 → let p := sent 4 k (if k = 0 then 1 else 0) (if k = 1 then 64 else 0) 5 (if k = 0 then [1] else []); p.type = 4 ∧ p.sub = BitVec.ofNat 4 k ∧ (k = 0 ↔ p.len ≠ 0) ∧ (k = 2 → p.addr = 0) ∧
      (run.collFor p.arg p.src).isSome = false ∧ (∀ d ∈ run.coll.queue, d.opid ≠ p.arg) ∧ p.arg ∈ ({ run with coll := { run.coll with ended := [5] } } : State).coll.ended ∧ p.arg ∉ run.coll.ended) ∧
    (let s := queued run [collD 0 5]; (∃ d ∈ s.coll.queue, d.opid = 5) ∧ s.collFor 5 0x12 = none ∧ s.collDescFor 5 0x12 = some (collD 0 5)) ∧
    (let s := ringing (grouped run 1 2 0) false; let r := ring5 false; let p := sent 4 0 1 0 5 [1]; s.inLocalRun = false ∧ s.collFor p.arg p.src = some r ∧ s.stepOpenFor r.desc.job = false ∧ s.collWay r p.src = some true ∧ s.ringAxis r = some (0, 2, 0) ∧
      p.addr.toNat = 64 * r.rxPlus.length ∧ r.rxPlus.length + p.payload.length < r.planLines 2 (recvPlan 2 0 r.gather true) ∧ s.coll.grants = [] ∧
      64 * r.planLines 2 (recvPlan 2 0 r.gather true) ≤ r.givenPlus ∧ 64 * r.planLines 2 (recvPlan 2 0 r.gather false) ≤ r.givenMinus) := by decide +kernel

theorem witness_CollectivePackets_grants (e : BitVec 17) : (ringing (grouped run 1 2 0) false).granted 5 e = 0 := by
  have h : (ringing (grouped run 1 2 0) false).coll.grants = [] := by decide +kernel
  simp [State.granted, h]

/-- Slot 255 of job 0 for a group along axis 0. -/
def treed (p r : Nat) (x : Slot) : State := (owned (grouped run 0 p r)).setSlot 255 { x with group := true, axes := 1, mask := 1 }

theorem witness_CollectivePackets_sync : (let p := sent 5 0 0 255 0 []; p.type = 5 ∧ p.len = 0 ∧ p.addr.toNat < 256 ∧ (run.slot 255).state = .free) ∧
    (let s := (owned (grouped run 0 2 0)).setSlot 255 { Slot.reset with state := .opened }; (s.slot 255).group = false) ∧
    (let s := treed 1 0 { Slot.reset with state := .opened }; let t := s.slotTree 255; (s.slot 255).group = true ∧ (s.slot 255).state = .opened ∧ (treeKids t.n t.me).find? (fun k => s.memberEp t.table t.axes k == some (0x12 : BitVec 17)) = none) ∧
    (let s := treed 2 0 { Slot.reset with state := .opened }; let t := s.slotTree 255; let x := s.slot 255; x.group = true ∧ (treeKids t.n t.me).find? (fun k => s.memberEp t.table t.axes k == some (0x12 : BitVec 17)) = some 1 ∧ x.past 0 = false ∧
      (1, (0 : BitVec 32)) ∉ x.kids ∧ x.arrived &&& x.mask ≠ x.mask) ∧
    (let s := treed 2 0 { Slot.reset with state := .localDone, arrived := 1 }; let t := s.slotTree 255; let x := s.slot 255; (treeKids t.n t.me).find? (fun k => s.memberEp t.table t.axes k == some (0x12 : BitVec 17)) = some 1 ∧ x.past 0 = false ∧
      x.state = .localDone ∧ x.mask ≠ 0 ∧ x.arrived &&& x.mask = x.mask ∧ (∀ k ∈ treeKids t.n t.me, (k, x.phase) ∈ x.kids ++ [(1, (0 : BitVec 32))]) ∧ t.me = 0 ∧ x.next = 0) ∧
    (let s := treed 10 1 { Slot.reset with state := .localDone, arrived := 1 }; let t := s.slotTree 255; let x := s.slot 255; (treeKids t.n t.me).find? (fun k => s.memberEp t.table t.axes k == some (0x12 : BitVec 17)) = some 9 ∧ x.past 0 = false ∧
      x.arrived &&& x.mask = x.mask ∧ (∀ k ∈ treeKids t.n t.me, (k, x.phase) ∈ x.kids ++ [(9, (0 : BitVec 32))]) ∧ t.me ≠ 0 ∧ x.sent = false) ∧
    (let s := treed 10 1 { Slot.reset with state := .localDone, arrived := 1, sent := true }; let x := s.slot 255; x.state = .localDone ∧ x.sent = true ∧ x.phase = (sent 5 1 0 255 0 []).arg ∧ x.next = 0 ∧ x.mask ≠ 0) ∧
    (let s := treed 10 1 { Slot.reset with state := .opened }; let x := s.slot 255; x.group = true ∧ x.state ≠ .free ∧ x.state ≠ .localDone ∧ x.state ≠ .orphaned ∧ (sent 5 2 0 255 0 []).arg = 0) := by decide +kernel
/-! ## Witnesses: the Kiln and the Escapement -/

/-- A Kiln descriptor of three elements for stack 0 with FP32 gradients; `op` 0 is UPDATE, `flags` FLAGS. -/
def kilnRec (op flags : Byte) : List Byte := leBytes hbm0 8 ++ List.replicate 8 0 ++ leBytes (hbm0 + 0x1000) 8 ++ leBytes (hbm0 + 0x2000) 8 ++ leBytes (hbm0 + 0x3000) 8 ++ List.replicate 40 0 ++
  leBytes 3 4 ++ leBytes 512 4 ++ List.replicate 6 0 ++ leBytes 1 2 ++ leBytes 0xFFFF 2 ++ [op, 0, 0, 0, 1, flags] ++ List.replicate 8 0 ++ leBytes 0x31000001080 8 ++ List.replicate 8 0

/-- Its hyperparameter block: LR 0, EPS and both bias corrections 1. -/
def kilnHyper : List Byte := List.replicate 12 0 ++ leBytes 0x3F800000 4 ++ List.replicate 4 0 ++ leBytes 0x3F800000 4 ++ leBytes 0x3F800000 4 ++ List.replicate 36 0

def kilnD (op flags : Byte) : KilnDesc := kilnDescOf (kilnRec op flags) kilnHyper

def kilnP (op flags : Byte) (stage : PartStage) : KilnPart := { id := 9, desc := kilnD op flags, stack := 0, first := 0, count := 3, stage := stage, job := 0, stream := 63, command := 0 }

def kilned (s : State) (p : KilnPart) : State := s.modKiln 0 (fun u => { u with parts := [p] })

/-- The step record that is open: step 1 of a group of one device. -/
def rec1 : StepRec := stepRecOf (leBytes 1 8 ++ List.replicate 56 0) [] []

/-- A step is open in COMPUTE. -/
def open1 (s : State) : State := { s with esc := { s.esc with phase := .compute, record := some rec1 } }

theorem roomy_of (s : State) (h : ∀ k, k < 12 → s.shareUsed k + 8192 ≤ s.shareSize ∧ s.stackOut k = false) : s.roomy := h

theorem clean_of (s : State) (l : List (Nat × Nat)) (h : ∀ ln ∈ linesOf l, s.home (64 * ln) = some (.hbm 0) ∧ (s.line ln).2 = false) : s.cleanHbm l := fun ln m => ⟨⟨0, by decide, (h ln m).1⟩, (h ln m).2⟩

def kilnCmd : List Byte := cmd 0x12 0 (leBytes 0x31000001000 8 ++ leBytes 1 4)

theorem witness_KilnUpdates_command : (let s := asking (holding run (kilnRec 0 0 ++ kilnHyper)) run.gatedJob kilnCmd; (s.stream 63).job = s.gatedJob ∧ s.esc.phase ≠ .compute ∧ s.inLocalRun = false) ∧
    (let s := open1 (asking (holding run (kilnRec 0 0 ++ kilnHyper)) run.gatedJob kilnCmd); s.roomy ∧ s.errorFree ∧ s.esc.record ≠ none) ∧
    (let s := open1 (asking (holding run (kilnRec 0 0 ++ kilnHyper)) run.gatedJob kilnCmd); let n := first kilnCmd; let d := kilnD 0 0; (s.stream 63).job = s.gatedJob ∧
      s.esc.phase = .compute ∧ s.nextCmd 63 = some n ∧ s.mayStart 63 n = true ∧ n.op = 0x12 ∧ n.replay = false ∧ s.headerCodes 63 n [(16, 28)] = [] ∧ kilnDescOf (s.view 0x31000001000 128) (s.view 0x31000001080 64) = d ∧
      recNat n.bytes 24 4 = 1 ∧ recNat n.bytes 16 8 % 64 = 0 ∧ localForm (recNat n.bytes 16 8) = some 0x31000001000 ∧ s.inOneWindow 0x31000001000 128 = true ∧ s.poisonedIn 0x31000001000 128 = [] ∧
      recNat (s.view 0x31000001000 128) 112 8 % 64 = 0 ∧ localForm (recNat (s.view 0x31000001000 128) 112 8) = some 0x31000001080 ∧ s.inOneWindow 0x31000001080 64 = true ∧ s.poisonedIn 0x31000001080 64 = [] ∧
      d.malformed (s.view 0x31000001000 128) (s.view 0x31000001080 64) = false ∧ ceilDiv d.count d.perStack = d.stacksOf.length ∧ s.kilnMisplaced d = false ∧ s.kilnRangesBad [d] [] = false ∧ d.op ≠ 1 ∧ d.waitEn = false ∧ d.doneEn = false) :=
  ⟨by decide +kernel, ⟨roomy_of _ (by decide +kernel), errorFree_of _ (by decide +kernel), by decide +kernel⟩, by decide +kernel⟩

theorem witness_KilnUpdates_update : (kilned run (kilnP 0 1 .waiting)).kilnReady 0 9 0 = some (kilnP 0 1 .waiting) ∧ (kilnP 0 1 .waiting).desc.frozen = true ∧
    (let p := kilnP 0 0 .waiting; let s := kilned run p; s.kilnReady 0 9 0 = some p ∧ s.retraining = false ∧ p.desc.frozen = false ∧ p.stack = (0 : Fin 12).val ∧ 0 < p.count ∧ p.count ≤ 512 ∧ p.desc.shadow = 0 ∧ (∀ q, q < 4 → vget s.mem.comb q [] = []) ∧
      (∀ l ∈ linesOf [groupRange 1 (p.desc.inStack p.desc.w 0) 0 p.count], l ∉ linesOf [groupRange 4 (p.desc.inStack p.desc.m 0) 0 p.count, groupRange 4 (p.desc.inStack p.desc.q 0) 0 p.count])) := by decide +kernel

theorem witness_KilnUpdates_lines : (kilned run (kilnP 0 0 .waiting)).roomy ∧ (kilned run (kilnP 0 0 .waiting)).errorFree ∧ (kilned run (kilnP 1 0 .waiting)).errorFree ∧ (kilned run (kilnP 0 0 .waiting)).cleanHbm ((kilnP 0 0 .waiting).reads 0 3) ∧ (kilned run (kilnP 1 0 .waiting)).cleanHbm ((kilnP 1 0 .waiting).reads 0 3) :=
  ⟨roomy_of _ (by decide +kernel), errorFree_run, errorFree_run, clean_of _ _ (by decide +kernel), clean_of _ _ (by decide +kernel)⟩

theorem witness_KilnUpdates_norm : (kilned run (kilnP 1 1 .waiting)).kilnReady 0 9 1 = some (kilnP 1 1 .waiting) ∧ (kilnP 1 1 .waiting).desc.frozen = true ∧ (kilned run (kilnP 1 0 .waiting)).kilnReady 0 9 1 = some (kilnP 1 0 .waiting) ∧
    (kilnP 1 0 .waiting).desc.frozen = false ∧ (kilned run (kilnP 0 0 .finished)).kiln.units.toList.flatMap (fun u => u.parts.filter (fun x => x.id == 9)) = [kilnP 0 0 .finished] ∧ (kilnP 0 0 .finished).stage = .finished ∧
    (kilned run (kilnP 0 0 .waiting)).kiln.units.toList.flatMap (fun u => u.parts.filter (fun x => x.id == 9)) = [kilnP 0 0 .waiting] ∧ (kilnP 0 0 .waiting).stage ≠ .finished := by decide +kernel

/-- A STEP record of step 1, empty ranges. -/
def stepCmd : List Byte := cmd 0x10 0 (leBytes 0x31000001000 8)

def stepping (j : Nat) (c : List Byte) : State := asking (holding run (leBytes 1 8)) j c

theorem witness_StepsCommit_open : (let s := stepping run.gatedJob stepCmd; let n := first stepCmd; s.starts 63 n 0x10 [(16, 24)] ∧ s.errorFree ∧ s.stackOut 0 = false) ∧ (let s := stepping 1 stepCmd; let n := first stepCmd; s.starts 63 n 0x10 [(16, 24)] ∧ s.errorFree ∧ (s.stream 63).job ≠ s.gatedJob) ∧
    (let s := stepping run.gatedJob stepCmd; let n := first stepCmd; let r := s.view 0x31000001000 64; recNat n.bytes 16 8 % 64 = 0 ∧ localForm (recNat n.bytes 16 8) = some 0x31000001000 ∧ s.inOneWindow 0x31000001000 64 = true ∧ s.poisonedIn 0x31000001000 64 = [] ∧
      (s.stream 63).job = s.gatedJob ∧ s.esc.phase = .idle ∧ s.stepRecBad r = false ∧ s.esc.committed.toNat < recNat r 0 8 ∧ (s.setJob s.gatedJob { Job.reset with state := .active, fresh := true } |>.job s.gatedJob).fresh = true ∧ s.recordPoison (recNat r 8 8) (16 * recNat r 32 2) 1 = [] ∧ s.recordPoison (recNat r 16 8) (16 * recNat r 36 2) 1 = [] ∧ recNat r 24 8 = 0 ∧
      s.resil.expelling = false ∧ s.objGet 0x6050 4 ≠ 3 ∧
      4096 + 64 * (5 + (linesOfBytes (s.recordAt (recNat r 8 8) (16 * recNat r 32 2))).length + (linesOfBytes (s.recordAt (recNat r 16 8) (16 * recNat r 36 2))).length +
        (linesOfBytes (snapBytes (s.jobCounters s.gatedJob) (s.jobSlots s.gatedJob))).length) ≤ s.shareSize) ∧
    (let s := stepping run.gatedJob stepCmd; let t : State := { s with esc := { s.esc with phase := .check, record := some rec1 } }; let n := first stepCmd; t.starts 63 n 0x10 [(16, 24)] ∧ t.errorFree ∧ t.esc.phase ≠ .idle ∧ t.esc.phase ≠ .commit) :=
  ⟨⟨starts_of _ _ _ _ (by decide +kernel), errorFree_of _ (by decide +kernel), by decide +kernel⟩, ⟨starts_of _ _ _ _ (by decide +kernel), errorFree_of _ (by decide +kernel), by decide +kernel⟩, by decide +kernel,
    starts_of _ _ _ _ (by decide +kernel), errorFree_of _ (by decide +kernel), by decide +kernel⟩

theorem witness_StepsCommit_end : (let s := open1 (stepping run.gatedJob (cmd 0x11 0 [])); let n := first (cmd 0x11 0 []); (s.stream 63).job = s.gatedJob ∧ s.nextCmd 63 = some n ∧ s.mayStart 63 n = true ∧ n.op = 0x11 ∧ n.replay = false ∧
      s.headerCodes 63 n [] = [] ∧ s.esc.phase = .compute) ∧ (open1 (stepping run.gatedJob (cmd 0x11 0 []))).roomy ∧
    (let s := stepping run.gatedJob (cmd 0x11 0 []); let n := first (cmd 0x11 0 []); s.nextCmd 63 = some n ∧ s.mayStart 63 n = true ∧ s.esc.phase ≠ .compute ∧ s.inLocalRun = false) ∧
    (let s := (open1 run).setStream 63 { Stream.reset with state := .ready, job := run.gatedJob, stepEnded := true }; s.esc.phase = .compute ∧ s.esc.record ≠ none ∧ s.esc.guestAsk = none ∧ s.computeOver = true) ∧
    ((open1 run).setStream 63 { Stream.reset with state := .ready, job := run.gatedJob }).computeOver = false := by
  refine ⟨by decide +kernel, roomy_of _ (by decide +kernel), by decide +kernel, by decide +kernel, by decide +kernel⟩

/-- In CHECK, with the quarters that have reported and the reasons raised. -/
def check (reported : BitVec 4) (reasons : List Nat) (voted : Bool) (x : Esc → Esc) : State :=
  { run with esc := x { run.esc with phase := .check, record := some rec1, reported := reported, reasons := reasons, ratioDone := true, voted := voted } }

/-- The gated job is active. -/
def active (s : State) : State := s.setJob s.gatedJob { Job.reset with state := .active }

theorem witness_StepsCommit_check : (∀ m : BitVec 4, m = 3 ∨ m = 11 → let s := check m [] false id; let e := s.esc; e.phase = .check ∧ e.reported.getLsbD (2 : Fin 4) = false ∧ e.ratioDone = true ∧ (∀ x ∈ e.assays, coreQuarter x.1 ≠ 2) ∧ s.needsFp = false ∧ e.verdict = none) ∧
    (3 : BitVec 4) ||| BitVec.twoPow 4 2 ≠ 15 ∧ (11 : BitVec 4) ||| BitVec.twoPow 4 2 = 15 ∧ (let s := check 11 [] false id; s.actingReasons = [] ∧ s.esc.seen = [] ∧ s.esc.localRun = false ∧ (s.esc.record.map (·.axes)).getD 0 = 0) ∧
    (check 4 [] false id).esc.reported.getLsbD (2 : Fin 4) = true ∧ run.esc.phase ≠ .check ∧ (let s : State := { run with esc := { run.esc with phase := .guest } }; s.esc.phase = .guest) := by decide +kernel

theorem witness_StepsCommit_vote : (let s := active (check 15 [] true id); s.esc.phase = .check ∧ s.esc.voted = true ∧ (s.esc.record.map (·.axes)).getD 0 = 0 ∧ s.esc.failVote = false ∧ s.esc.revoke = false ∧ s.gatedJob < 8 ∧ (s.job s.gatedJob).state = .active) ∧
    (active (check 15 [] true (fun e => { e with failVote := true, failCode := 0x0A02 }))).esc.failVote = true ∧ (check 15 [] false id).esc.voted = false ∧
    (let s : State := { run with esc := { run.esc with phase := .commit, record := some rec1 } }; s.esc.phase = .commit ∧ s.esc.record = some rec1 ∧ s.esc.stopAfter = none ∧ s.resil.expelling = false ∧ s.pending = [] ∧ s.mem.deferred = []) := by decide +kernel

/-- CHECK with every reason's action 0. -/
def calm : State :=
  let s := (List.range 11).foldl (fun (s : State) c => s.objSet 0x3203 c 0) (check 3 [] false id)
  (s.objSet 0x3102 0 0).objSet 0x3120 2 0

theorem tget_zeros (t : Tbl Nat) (k : Nat) (h : ∀ e ∈ t, e.2 = 0) : tget 0 t k = 0 := by
  induction t with
  | nil => rfl
  | cons e r ih =>
    obtain ⟨a, v⟩ := e
    have h1 : v = 0 := h (a, v) (by simp)
    simp only [tget, h1, ih (fun e m => h e (by simp [m]))]
    split <;> rfl

theorem witness_StepsCommit_calm (c : Nat) : calm.actionOf c = 0 := by
  have h : ∀ m, m < 256 → calm.actionOf m = 0 := by decide +kernel
  by_cases hc : c < 256
  · exact h c hc
  · have hr : ∀ r ∈ dict, r.obj = 0x3203 → r.memHi < 256 := by decide +kernel
    have hz : ∀ e ∈ calm.obj, e.2 = 0 := by decide +kernel
    have hd : dictRow 0x3203 c = none := by
      unfold dictRow
      rw [List.find?_eq_none]
      intro r m
      by_cases ho : r.obj = 0x3203
      · have := hr r m ho
        simp; omega
      · simp [ho]
    have hdef : dictDefault 0x3203 c = 0 := by simp [dictDefault, hd]
    have ha : calm.actionOf c = calm.objGet 0x3203 c := by
      unfold State.actionOf
      split
      · omega
      · omega
      · rfl
    rw [ha]
    unfold State.objGet
    rw [hdef]
    exact tget_zeros _ _ hz

theorem witness_StepsCommit_deadline : calm.esc.phase = .check ∧ calm.esc.verdict = none ∧ calm.esc.seen = [] ∧ calm.esc.localRun = false ∧ (calm.esc.record.map (·.axes)).getD 0 = 0 ∧ calm.needsFp = false := by decide +kernel

theorem witness_StepsCommit_profile : (run.fynenSilent = false ∧ run.writeStop 0x3200 0 = 0) ∧ profileOk 0 (1 : BitVec 32).toNat = true ∧ profileOk 0 (77 : BitVec 32).toNat = false ∧ run.esc.phase = .idle ∧ (open1 run).esc.phase ≠ .idle ∧
    ((open1 run).fynenSilent = false ∧ (open1 run).writeStop 0x3200 0 = 0) := by decide +kernel
/-! ## Witnesses: replay, replacement, racking -/

/-- An undo record of the first line of stack 0, with its HCRC. -/
def undo1 : LedgerRec := (plainRec 6 0 hbm0 [5]).closed

/-- Rolling back a step whose ledger holds one undo record, of the first line of stack 0. -/
def rolling : State :=
  { active run with esc := { run.esc with phase := .replay, rolling := true, record := some rec1, ledger := [undo1], snapshot := [(65535, Counter.reset)] } }

theorem witness_StepsReplay_rollback : (let s := owned rolling; let e := s.esc; let r := undo1; e.phase = .replay ∧ e.rolling = true ∧ e.ledger = [r] ∧ (∀ r ∈ e.ledger, r.kind ≠ 5 ∧ (r.kind = 6 → r.addr % 64 = 0)) ∧ s.ledgerBad = false ∧
      r.flags.getLsbD 0 = false ∧ r.spoilt = false ∧ s.home (r.addr + 64 * 0) ≠ none ∧ e.ledger.countP (fun q => q.kind == 6 && decide (q.addr ≤ r.addr + 64 * 0) && decide (r.addr + 64 * 0 < q.addr + 64 * q.payload.length)) = 1 ∧
      s.counterOwner 65535 = s.gatedJob ∧ (e.snapshot.filter (fun x => x.1 % 65536 == 65535)).length = 1 ∧ s.gatedJob < 8 ∧ (s.job s.gatedJob).state = .active ∧ ({ s with esc := { s.esc with ledger := [{ undo1 with hcrc := undo1.hcrc + 1 }] } } : State).ledgerBad = true) := by decide +kernel

/-- In CHECK as the twin of endpoint 0x12, and taking guest runs. -/
def twinned : State := State.objSet (State.objSet (check 0 [] false id) 0x6000 1 1) 0x6000 0 0x12

theorem witness_StepsReplay_guest : (open1 run).esc.phase = .compute ∧ run.esc.phase = .idle ∧ (let s := State.objSet (check 0 [] false id) 0x3201 7 0; s.esc.phase = .check ∧ s.objGet 0x3201 7 = 0) ∧
    (let s := twinned; let l := [guest 11]; s.esc.phase = .check ∧ s.objGet 0x3201 7 ≠ 0 ∧ s.objGet 0x6000 1 = 1 ∧ s.objGet 0x6000 0 = (0x12 : BitVec 17).toNat ∧ s.actingReasons = [] ∧ s.esc.seen = [] ∧ (∀ r ∈ l, r.kind ≠ 5) ∧ s.ledgerBad = false ∧
      (({ s with free := s.free + 1 } : State).addGuest l).2 = false) ∧
    (let s := check 15 [] false (fun e => { e with guestWait := true }); s.esc.phase = .check ∧ s.esc.guestWait = true ∧ (s.esc.record.map (·.axes)).getD 0 = 0 ∧ s.esc.resolveRuns + 1 < s.objGet 0x3201 5 ∧ ((1, 0) : Word × Word) ≠ (s.esc.ud, s.esc.od)) ∧
    (check 15 [] false id).esc.guestWait = false := by decide +kernel

/-- No spare is left in any quarter. -/
def spareless : State := { run with resil := { run.resil with phys := Vector.replicate 160 { PhysCore.reset with failed := true } } }

/-- Core 143 being replaced by a spare, awake, with a boundary whose snapshot is saved. -/
def replaced : State :=
  let s := run.setCore 143 { live with fenced := true, bounds := [{ Boundary.reset with closed := true, saved := true }] }
  { s with resil := { s.resil with replacing := [143] } }

theorem witness_CoreReplacement_core : (let s := run; let c : Fin 144 := 143; (s.phys (s.physOf c)).residues < s.objGet 0x6001 9 ∧ (s.phys (s.physOf c)).mismatches < s.objGet 0x6001 10 ∧ (s.core c).offline = false ∧ (s.core c).fenced = false ∧
      (∀ d ∈ s.resil.replacing ++ s.resil.replQ, coreQuarter d ≠ coreQuarter c) ∧ s.resil.drill = none ∧ vget s.resil.map c 0 < 40 ∧ s.spares (coreQuarter c) = 36 :: [37, 38, 39]) ∧
    (let s := spareless; (s.core 143).offline = false ∧ (s.core 143).fenced = false ∧ (∀ d ∈ s.resil.replacing ++ s.resil.replQ, coreQuarter d ≠ coreQuarter 143) ∧ s.resil.drill = none ∧ vget s.resil.map 143 0 < 40 ∧ s.spares (coreQuarter 143) = []) ∧
    (let s := active (spareless.setStream 63 { Stream.reset with state := .running, job := run.gatedJob, progress := [{ count := 0, raw := 0, cores := [143], ops := [], remoteErr := false, detail := 0, replay := false }] });
      (∃ r ∈ (s.stream 63).progress, (143 : Fin 144).val ∈ r.cores) ∧ (s.stream 63).job < 8 ∧ (s.job (s.stream 63).job).state = .active ∧ s.esc.phase ≠ .commit) ∧
    (let s := replaced; let x := s.core 143; (143 : Fin 144).val ∈ s.resil.replacing ∧ x.sleep = .awake ∧ x.run = .running ∧ s.resil.drill = none ∧ (∀ d ∈ s.resil.replQ, coreQuarter d ≠ coreQuarter 143) ∧
      x.bounds = { Boundary.reset with closed := true, saved := true } :: []) ∧ (143 : Fin 144).val ∉ run.resil.replacing ∧ (on live).holdsWork (.core 0) = true := by decide +kernel

theorem witness_CoreReplacement_host : (run.fynenSilent = false ∧ run.writeStop 0x6001 12 = 0 ∧ run.writeStop 0x6001 13 = 0 ∧ run.writeStop 0x6030 0 = 0 ∧ run.resil.t31Dump = none) ∧ (idle.writeStop 0x6001 13 = 0 ∧ idle.fynenSilent = false) ∧
    ((0x0327 : BitVec 16).toNat / 256 < 4 ∧ (0x0327 : BitVec 16).toNat % 256 < 40 ∧ run.carriedBy ((0x0327 : BitVec 16).toNat / 256) ((0x0327 : BitVec 16).toNat % 256) = none) ∧ 40 ≤ (0x0328 : BitVec 16).toNat % 256 ∧ 4 ≤ (0x0400 : BitVec 16).toNat / 256 ∧
    idle.dev.state = .idle ∧ run.dev.state ≠ .idle ∧ run.holdsWork (.core 143) = false ∧ (kilned run (kilnP 0 0 .waiting)).holdsWork (.kiln 0) = true ∧ (State.objSet run 0x6020 64 0).objGet 0x6020 64 ≠ 1 ∧ (State.objSet (kilned run (kilnP 0 0 .waiting)) 0x6020 64 0).holdsWork (.kiln 0) = true ∧
    (let s := active (kilned run (kilnP 0 0 .waiting)); ∀ p ∈ (s.kilnUnit 0).parts, p.job < 8 ∧ (s.job p.job).state = .active) ∧
    (let s := run.setStream 63 { Stream.reset with progress := [{ count := 3, raw := 0, cores := [], ops := [], remoteErr := false, detail := 0, replay := false }] }; (s.inProgress 63 3).isSome = true ∧ s.inProgress 63 4 = none) ∧
    (∀ b : Bool, let x := if b then live else { live with run := .brk }; let r : CmdRun := { count := 3, raw := 0, cores := [143], ops := [], remoteErr := false, detail := 0, replay := false }; let s := active ((run.setCore 143 x).setStream 63 { Stream.reset with job := run.gatedJob, progress := [r] });
      s.inProgress 63 3 = some r ∧ (b = false → (s.core 143).run = .brk) ∧ (b = true → ∀ c ∈ r.cores, (s.core c).run ≠ .brk) ∧ (s.stream 63).job < 8 ∧ (s.job (s.stream 63).job).state = .active) ∧
    (let d : DumpRec := { num := 1, trigger := 0, cause := 0, noAnswer := [], valid := true }; let s : State := { run with resil := { run.resil with dumps := [d] } };
      s.resil.dumps = d :: [] ∧ s.resil.t31Dump = none ∧ (({ s with resil := { s.resil with t31Dump := some d } } : State).resil.t31Dump = some d) ∧ (159 : BitVec 8).toNat < unitsOfKind (5 : Fin 16) ∧ ((5 : Fin 16).val, (159 : BitVec 8).toNat) ∉ d.noAnswer ∧ unitsOfKind (5 : Fin 16) ≤ (160 : BitVec 8).toNat) := by decide +kernel

/-- One racked block at the start of the window of stack 0; `state` is the racking state. -/
def racked (state : Nat) : State :=
  { run with rack := { run.rack with list := [{ start := hbm0, length := 4096, narrow := false, twin := false }], state := state, copied := [], prio := [{ block := hbm0 / 4096, lines := [] }] } }

theorem witness_RackingRestore_blocks : (let s := racked 1; let b : BitVec 34 := BitVec.ofNat 34 (hbm0 / 4096); let n := b.toNat; s.rack.state = 1 ∧ 2 ^ 41 ≤ 4096 * n ∧
      ((s.rackBlocks (stackOf (4096 * n))).filter (fun x => !s.rack.copied.contains x)).head? = some n ∧ stackOf (4096 * n) < 12 ∧
      (rackPlaces s.narrowOn (s.rack.list.filter (fun x => stackOf x.start == stackOf (4096 * n)))).find? (fun x => x.1 == n) = some (n, 0, false) ∧
      s.offline ((List.range 64).map (fun i => 64 * n + i)) s.missChan = false ∧ s.rack.prio.find? (fun x => x.block == n) = some { block := hbm0 / 4096, lines := [] }) ∧
    run.rack.state ≠ 1 ∧ run.rack.prio.find? (fun x => x.block == 0) = none := by decide +kernel

/-- This device holds the cellar of endpoint 0x12. -/
def hosting : State := State.objSet (State.objSet run 0x6000 5 1) 0x6000 4 0x12

theorem witness_RackingRestore_sums : hosting.objGet 0x6000 5 = 1 ∧ hosting.objGet 0x6000 4 = (0x12 : BitVec 17).toNat ∧ run.objGet 0x6000 5 ≠ 1 ∧
    (∀ k, k < 12 → hosting.hostSum hosting.rack.writeSlot k ((chunks 16 (([] : List (List Byte)).getD k [])).map (fun e => (rackEntry e).1)) = (List.replicate 12 (0 : Word)).getD k 0) ∧
    (∀ k, k < 12 → hosting.hostSum hosting.rack.writeSlot k ((chunks 16 (([] : List (List Byte)).getD k [])).map (fun e => (rackEntry e).1)) ≠ (List.replicate 12 (1 : Word)).getD k 0 ∧ hosting.rack.sealedStacks.getLsbD k = false) ∧
    ({ hosting with rack := { hosting.rack with sealedStacks := BitVec.allOnes 12 } } : State).rack.sealedStacks = BitVec.allOnes 12 ∧ hosting.rack.sealedStacks ≠ BitVec.allOnes 12 ∧ (racked 2).rack.state = 2 ∧ (racked 0).rack.state = 0 := by decide +kernel

/-- Slot A holds an epoch without blocks. -/
def kept : State := { run with rack := { run.rack with hdrs := (List.range 12).map (fun k => (k, { CellarHdr.zero with stack := k, valid := true, dcrc := BitVec.ofNat 64 (crc64 []) })) } }

theorem witness_RackingRestore_restore : (run.fynenSilent = false ∧ run.writeStop 0x6011 3 = 0) ∧ run.rack.restore ≠ 1 ∧ run.rack.restore ≠ 2 ∧ run.restoreChoice 1 = none ∧ (kept.fynenSilent = false ∧ kept.writeStop 0x6011 3 = 0 ∧ kept.rack.restore = 0) ∧ kept.restoreChoice 1 = some 0 ∧ kept.restoreChoice 3 = some 0 ∧
    (let s : State := { run with rack := { run.rack with restore := 2 } }; s.fynenSilent = false ∧ s.writeStop 0x6011 3 = 0 ∧ s.rack.restore = 2 ∧ (∀ q ∈ s.fabric.requests ++ s.fabric.waiting.map (·.1), q.unit ≠ .restore)) := by decide +kernel
/-! ## Witnesses: drills, resets, streams -/

/-- The same state in another device state. -/
def inSt (s : State) (d : DevState) : State := { s with dev := { s.dev with state := d } }

/-- Drills are on. -/
def drilling : State := State.objSet run 0x6060 0 1

theorem witness_HealthDrills : (run.fynenSilent = false ∧ run.writeStop 0x6050 3 = 0 ∧ run.writeStop 0x6050 7 = 0) ∧ run.resil.expelling = false ∧
    (let s := State.objSet (State.objSet run 0x6050 4 1) 0x6050 3 1; s.objGet 0x6050 4 = 1 ∧ 0 < s.objGet 0x6050 3 ∧ s.esc.phase = .idle ∧ (open1 s).esc.phase ≠ .idle) ∧ run.objGet 0x6050 4 ≠ 1 ∧
    (let s := State.objSet run 0x6050 4 3; s.fynenSilent = false ∧ s.writeStop 0x6050 7 = 0 ∧ s.objGet 0x6050 4 = 3 ∧ s.resil.expelling = false) ∧ run.objGet 0x6050 4 ≠ 3 ∧ (∀ k, k < 4 → (State.objSet run 0x6060 0 0).drillReady k = false) ∧ (run.realEvent 3).drillReady 3 = false ∧ (run.realEvent 3).drillReady 2 = run.drillReady 2 := by decide +kernel

theorem witness_HealthDrills_drills : (∀ k, k < 4 → drilling.drillReady k = true) ∧
    (let s := drilling.setCore 143 live; s.drillReady 0 = true ∧ (s.core 143).run = .running ∧ (s.core 143).fenced = false ∧ (s.core 143).offline = false ∧ s.jobOf 143 = s.gatedJob ∧ s.spares (coreQuarter 143) ≠ [] ∧
      (∀ d ∈ s.resil.replacing ++ s.resil.replQ, coreQuarter d ≠ coreQuarter 143) ∧ vget s.resil.map 143 0 < 40) ∧
    (let x := (prt drilling 11 up).port 11; x.state = .up ∧ x.lanes.testBit 7 = true ∧ x.swapped = none ∧ x.swapping = none ∧ x.badLanes.getLsbD 8 = false ∧ x.failedLanes.getLsbD 8 = false ∧ x.failedLanes.getLsbD 7 = false) ∧
    inFirmware (64 * (BitVec.ofNat 36 ((2 ^ 41 + 2 ^ 36) / 64 - 1)).toNat) = true ∧
    (let s : State := { drilling with esc := { (open1 drilling).esc with assays := [(143, 0)] } }; s.drillReady 3 = true ∧ s.esc.phase = .compute ∧ (∃ a ∈ s.esc.assays, a.1 = (143 : Fin 144).val) ∧ s.esc.reported.getLsbD (coreQuarter 143) = false) := by decide +kernel

theorem witness_Resets : (run.fynenSilent = false ∧ run.writeStop 0x6040 0 = 0 ∧ run.takesReset = true ∧ run.esc.phase = .idle ∧ run.dev.state ≠ .off) ∧ ((inSt run .fault).fynenSilent = false ∧ (inSt run .fault).writeStop 0x6040 0 = 0 ∧ (inSt run .fault).takesReset = false) ∧
    (let s : State := { inSt run .reset with resil := { run.resil with resetRung := 3 }, boot := { run.boot with booted := 0 } }; s.dev.state = .reset ∧ s.resil.resetRung = 3 ∧ s.boot.booted ≠ 0xFF ∧ s.dev.resetHeld = false) ∧ run.dev.state ≠ .reset ∧
    (linked.host.linkUp = true ∧ linked.takesReset = true ∧ linked.host.d3hot = false) ∧ ((inSt linked .fault).host.linkUp = true ∧ (inSt linked .fault).takesReset = false) ∧ run.host.linkUp = false ∧
    (let s := inSt run .standby; s.takesReset = false ∧ s.dev.state ≠ .recovery ∧ s.dev.state ≠ .fault) ∧
    (let s := inSt { run with power := { run.power with rails := 2 } } .fault; s.dev.state = .fault ∧ s.power.rails.getLsbD 1 = true ∧ s.takesReset = false ∧ (inSt run .fault).power.rails.getLsbD 1 = false) := by decide +kernel

/-- Stream 63 in some state, with the link up. -/
def door (x : Stream) : State := linked.setStream 63 x

theorem witness_StreamDoors : run.host.linkUp = false ∧ linked.host.linkUp = true ∧
    (let x := (door { Stream.reset with state := .ready, tail := 0xFFFFFFFF, head := 0xFFFFFFFF }).stream 63; x.state ≠ .disabled ∧ ((4095 : BitVec 32) - x.tail).toNat < 2 ^ 31 ∧ (4095 - x.head).toNat ≤ 4096 ∧ ¬((4096 - x.head).toNat ≤ 4096)) ∧
    (let x := (door { Stream.reset with compTail := 1, compHead := 0xFFFFFFFF }).stream 63; ((1 : BitVec 32) - x.compHead).toNat ≤ (x.compTail - x.compHead).toNat ∧ x.held = [] ∧ (x.compTail - x.compHead).toNat < (2 - x.compHead).toNat) ∧
    (let s := door { Stream.reset with state := .stopped, failed := [5] }; (s.stream 63).state = .stopped ∧ (s.job (s.stream 63).job).state ≠ .stopped) ∧ (door Stream.reset).host.linkUp = true ∧ ((door Stream.reset).stream 63).state ≠ .stopped ∧
    (run.fynenSilent = false ∧ run.writeStop 0x1021 63 = 0 ∧ run.writeStop 0x1022 63 = 0 ∧ run.writeStop 0x1025 7 = 0) ∧ (run.stream 63).state = .disabled ∧ (List.replicate 64 (0 : Byte)).length = 64 ∧ (let cfg : List Byte := List.replicate 64 0; (recZero cfg 15 16 && recZero cfg 24 64) = true) ∧
    (let cfg : List Byte := List.replicate 63 0 ++ [1]; cfg.length = 64 ∧ (recZero cfg 15 16 && recZero cfg 24 64) = false) ∧ (List.replicate 63 (0 : Byte)).length ≠ 64 := by decide +kernel

theorem witness_StreamDoors_enable : (run.stream 63).cfgCode ≠ 0 ∧ (let s := run.setStream 63 { Stream.reset with compEntries := 65536, modCount := 1, job := 7 }; s.fynenSilent = false ∧ s.writeStop 0x1022 63 = 0 ∧ (s.stream 63).state = .disabled ∧ (s.stream 63).cfgCode = 0) ∧
    (let s := run.setStream 63 { Stream.reset with state := .ready, job := 7 }; s.fynenSilent = false ∧ s.writeStop 0x1022 63 = 0 ∧ (s.stream 63).state ≠ .disabled ∧ (s.stream 63).progress = [] ∧ (s.stream 63).job < 8 ∧ ∀ k, k < 64 → k ≠ 63 → (s.stream k).state = .disabled) ∧
    (let s := run.setStream 63 { Stream.reset with state := .running, progress := [(first (alloc 0 0)).run 0] }; s.fynenSilent = false ∧ s.writeStop 0x1022 63 = 0 ∧ (s.stream 63).state ≠ .disabled ∧ (s.stream 63).progress ≠ []) ∧
    (let s := door { Stream.reset with unsignalled := 1, vector := 253 }; let t : State := { s with host := { s.host with msixMask := [] } }; (t.stream 63).unsignalled ≠ 0 ∧ t.host.linkUp = true ∧ (t.stream 63).vector.toNat ∉ t.host.msixMask) ∧ (run.stream 63).unsignalled = 0 ∧
    (let s := run.setJob 7 { Job.reset with state := .active }; s.fynenSilent = false ∧ s.writeStop 0x1025 7 = 0 ∧ (s.job 7).state = .active ∧ s.esc.phase ≠ .commit) ∧
    (let s := (run.setJob 7 { Job.reset with state := .stopped }).setStream 63 { Stream.reset with state := .stopped, job := 7 }; s.fynenSilent = false ∧ s.writeStop 0x1025 7 = 0 ∧ (s.job 7).state = .stopped ∧
      ∃ k, k < 64 ∧ (s.stream k).state ≠ .disabled ∧ (s.stream k).job = 7) ∧
    (let s := run.setJob 7 { Job.reset with state := .stopped }; (s.job 7).state = .stopped ∧ ∀ k, k < 64 → (s.stream k).state = .disabled) ∧ (run.job 7).state ≠ .stopped := by decide +kernel

def launchCmd (mask : Nat) : List Byte := cmd 1 0 (leBytes mask 18 ++ List.replicate 6 0 ++ leBytes 0x31000000000 8 ++ leBytes 1 8 ++ leBytes 2 8)

theorem witness_StreamCommands_launch : (let c := launchCmd (2 ^ 143 + 1); let s := (asking run 1 c).setCore 143 { Core.reset with sleep := .awake }; let n := first c; s.starts 63 n 0x01 [(16, 34), (40, 64)] ∧ recNat n.bytes 40 8 % 16 = 0 ∧ recNat n.bytes 16 18 ≠ 0 ∧ (∀ c, c < 144 → (s.core c).offline = false) ∧
      (∀ k, k < 64 → ∀ r ∈ (s.stream k).progress, r.ops = []) ∧ (s.stream 63).progress = [] ∧ (recNat n.bytes 16 18).testBit 143 = true ∧ s.coreBusy 143 = false ∧ (s.core 143).sleep = .awake) ∧
    (let c := launchCmd (2 ^ 143 + 1); let s := (asking run 1 c).setCore 143 { live with offline := true }; let n := first c; s.starts 63 n 0x01 [(16, 34), (40, 64)] ∧ (s.core 143).offline = true) ∧
    (let c := launchCmd 0; let s := asking run 1 c; let n := first c; s.starts 63 n 0x01 [(16, 34), (40, 64)] ∧ recNat n.bytes 16 18 = 0) :=
  ⟨⟨starts_of _ _ _ _ (by decide +kernel), by decide +kernel⟩, ⟨starts_of _ _ _ _ (by decide +kernel), by decide +kernel⟩, starts_of _ _ _ _ (by decide +kernel), by decide +kernel⟩

def markCmd (k inc : Nat) : List Byte := cmd 2 0 (leBytes k 2 ++ [0, 0] ++ leBytes inc 4)

theorem witness_StreamCommands_marker : (∀ inc, inc ∈ ([0, 1, 2 ^ 31] : List Nat) → let c := markCmd 65535 inc; let n := first c; ((asking (owned run) 0 c).nextCmd 63 = some n ∧ (asking (owned run) 0 c).mayStart 63 n = true ∧ n.op = 0x02 ∧
      (asking (owned run) 0 c).headerCodes 63 n [(16, 18), (20, 24)] = [] ∧ (asking (owned run) 0 c).esc.phase ≠ .compute) ∧ recNat n.bytes 16 2 = 65535 ∧ sint 32 (recNat n.bytes 20 4) = if inc = 2 ^ 31 then (-2 ^ 31 : Int) else (inc : Int)) ∧
    (asking (owned run) 0 (markCmd 65535 1)).counterOwner 65535 = ((asking (owned run) 0 (markCmd 65535 1)).stream 63).job ∧ ((asking (owned run) 0 (markCmd 65535 1)).stream 63).job < 8 ∧ (asking run 0 (markCmd 65535 1)).counterOwner 65535 ≠ 0 := by decide +kernel

def copyCmd (dir : Byte) (dev : Nat) : List Byte := cmd 3 0 (leBytes 0x7000 8 ++ leBytes dev 8 ++ leBytes 128 4 ++ [dir])

/-- A copy of 128 bytes at an even and at an odd place of the local memory of core 0. -/
theorem witness_StreamCommands_copy : ∀ dir, dir < 2 → ∀ off, off = 0 ∨ off = 36 → let c := copyCmd (BitVec.ofNat 8 dir) (0x31000001000 + off); let s : State := { asking run 1 c with host := linked.host }; let n := first c; let b := n.bytes;
    (s.nextCmd 63 = some n ∧ s.mayStart 63 n = true ∧ n.op = 0x03 ∧ s.headerCodes 63 n [(16, 37)] = [] ∧ s.esc.phase ≠ .compute) ∧ s.host.linkUp = true ∧ s.retraining = false ∧ (s.mem.errors = [] ∧ s.mem.hidden = [] ∧ ∀ k, k < 12 → (s.stack k).eccCovered = [] ∧ (s.stack k).rewriting = []) ∧ recNat b 32 4 ≠ 0 ∧ recNat b 32 4 % 64 = 0 ∧ (recNat b 24 8 % 64 = 0 ↔ off = 0) ∧
    localForm (recNat b 24 8) = some (recNat b 24 8) ∧ s.inOneWindow (recNat b 24 8) (recNat b 32 4) = true ∧ recNat b 36 1 = dir ∧ s.esc.record = none ∧ (s.stream 63).progress = [] ∧ (s.stream 63).ringFull = true ∧
    ∀ ln ∈ linesIn (recNat b 24 8) (recNat b 32 4), s.home (64 * ln) = some (.localMem 0 (64 * ln - 0x31000000000)) := by
  rintro dir hd off (rfl | rfl)
  · revert dir; decide +kernel
  · revert dir; decide +kernel

def doing (c : CmdRun) : State := door { Stream.reset with state := .running, progress := [c], compEntries := 64 }

theorem witness_StreamCommands_end : (let c := cmd 4 0 []; let s := asking run 1 c; (first c).op ∉ streamOps ∧ s.starts 63 (first c) (first c).op [(16, 64)]) ∧ run.inProgress 63 0 = none ∧
    (let c := (first (alloc 0 0)).run 0; let s := doing c; s.inProgress 63 0 = some c ∧ c.raw.toNat % 256 = 9 ∧ s.host.linkUp = true ∧ (s.stream 63).ringFull = false ∧ (s.stream 63).held = [] ∧ c.replay = false ∧ c.flags.testBit 1 = false) ∧
    (let c : CmdRun := { (first (launchCmd 1)).run 0 with cores := [0] }; let s := doing c; s.inProgress 63 0 = some c ∧ c.raw.toNat % 256 = 0x01 ∧ s.launchOver (s.withRemote c) = true ∧ (∀ k, k < 64 → ∀ r ∈ (s.stream k).progress, r.ops = []) ∧
      (let t := s.setCore 0 live; t.inProgress 63 0 = some c ∧ t.launchOver (t.withRemote c) = false)) :=
  ⟨⟨by decide +kernel, starts_of _ _ _ _ (by decide +kernel)⟩, by decide +kernel⟩
/-! ## Witnesses: Fynen, host, device states -/

/-- A key vault. -/
def keys : Vault := { attestation := [1], rpmb := [2], storage := [3], kemD := [4], kemZ := [5] }

/-- Powered in STANDBY, going to IDLE, with PRESENT_N asserted and keys in the vault. -/
def booting : State :=
  let s := inSt run .standby
  { s with dev := { s.dev with powered := true, wantIdle := true }
           boot := { s.boot with vault := some keys }
           power := { s.power with presentN := { s.power.presentN with asserted := true } } }

theorem receives_of (s : State) (tr : Transport) (m : FynenMsg) (h : s.fynenSilent = false ∧ (tr = .mailbox → s.host.busy = true ∧ mgetN zeroByte s.host.mbReq 0 s.host.submitted = msgBytes m)) : s.receives tr m := h

/-- A message stands in the mailbox as the request. -/
def mailed (s : State) (m : FynenMsg) : State := { s with host := { s.host with busy := true, submitted := (msgBytes m).length, mbReq := memOf 0 (msgBytes m) } }

theorem witness_FynenRequests_reads : (∀ m : FynenMsg, run.receives .t1s m) ∧ (mailed linked (msg 1 0x1010 2 0 [])).receives .mailbox (msg 1 0x1010 2 0 []) ∧ ({ run with fynen := { run.fynen with silent := true } } : State).fynenSilent = true ∧
    msgWellFormed { msg 1 0x1010 2 0 [] with format := 2 } = false ∧
    (∀ m ∈ [msg 1 0x3203 1 0 [], msg 1 0x1FFF 0 0 [], msg 1 0x1010 200 0 [], msg 1 0x1010 1 0 [], msg 1 0x1010 2 0 [], msg 3 0x1010 2 0 [], msg 2 0x1010 2 4 [1, 0, 0, 0], msg 6 0 0 0 []],
      msgWellFormed m = true ∧ msgAuth m = false ∧ m.flags.toNat / 4 = 0 ∧ m.status = 0 ∧ m.offset = 0) ∧
    (booting.serves 0x3203 = false ∧ booting.fynenSilent = false) ∧ run.serves 0x1FFF = true ∧ dictHas 0x1FFF = false ∧ dictHas 0x1010 = true ∧ dictRow 0x1010 200 = none ∧ (dictRow 0x1010 1).map (·.access) = some 3 ∧
    ((dictRow 0x1010 2).map (·.access) ≠ some 3 ∧ (dictRow 0x1010 2).map (·.type) = some 4) ∧ needsAuth (msg 2 0x1010 2 4 [1, 0, 0, 0]) = true ∧ msgWellFormed (msgOf []) = false :=
  ⟨fun m => receives_of _ _ _ ⟨by decide +kernel, nofun⟩, receives_of _ _ _ (by decide +kernel), by decide +kernel⟩

/-- A host of the management network with a key. -/
def keyed : State := { run with fynen := { run.fynen with keyMgmt := some [1, 2, 3] } }

/-- A write of 3 to object 0x3203.1 with SEQ `q`, tagged with the key. -/
def tagged (q : BitVec 64) : FynenMsg :=
  let m := { msg 2 0x3203 1 2 [3] with flags := 1, seq := q }
  { m with tag := fynenTag [1, 2, 3] keyed.fynen.epochId m }

/-- An acknowledgement in the mailbox, and a request there that is no message. -/
theorem witness_FynenRequests_mailbox : (mailed linked (msg 6 0 0 0 [])).receives .mailbox (msg 6 0 0 0 []) ∧
    (let s : State := { linked with host := { linked.host with busy := true, submitted := 32 } }; s.fynenSilent = false ∧ s.host.busy = true ∧ mgetN zeroByte s.host.mbReq 0 s.host.submitted = List.replicate 32 0 ∧
      (msgWellFormed (msgOf (List.replicate 32 0)) && msgBytes (msgOf (List.replicate 32 0)) == List.replicate 32 0) = false) := ⟨receives_of _ _ _ (by decide +kernel), by decide +kernel⟩

theorem witness_FynenRequests_write (q : BitVec 64) : let m := tagged q; msgWellFormed m = true ∧ m.flags = 1 ∧ m.status = 0 ∧ keyed.keyOf .t1s = some [1, 2, 3] ∧ m.tag = fynenTag [1, 2, 3] keyed.fynen.epochId m ∧ m.kind = 2 ∧
    m.object = 0x3203 ∧ m.member = 1 ∧ m.type = 2 ∧ m.offset = 0 ∧ m.value = [3] ∧ m.seq = q := by
  refine ⟨?_, rfl, rfl, rfl, ?_, rfl, rfl, rfl, rfl, rfl, rfl, rfl⟩
  · simp [msgWellFormed, tagged, msg, msgAuth]
  · simp only [tagged, fynenTag, msgBody]

theorem witness_FynenRequests_again : let s : State := { keyed with fynen := { keyed.fynen with lastReqT1s := some (tagged 5, msg 4 0x3203 1 2 []) } }; s.lastReq .t1s = some (tagged 5, msg 4 0x3203 1 2 []) ∧ s.fynenSilent = false := by
  generalize tagged 5 = m
  exact ⟨rfl, rfl⟩

theorem witness_FynenRequests_seq : keyed.fynenSilent = false ∧ keyed.lastReq .t1s = none ∧ (2 : BitVec 64) ≤ ((keyed.setSeq .t1s 3).seqOf .t1s).getD 0 ∧ (0 : BitVec 64) ≤ (keyed.seqOf .t1s).getD 0 ∧ (keyed.seqOf .t1s).getD 0 < 5 ∧ keyed.serves 0x3203 = true ∧ keyed.dev.state ≠ .fault ∧ (3 : Byte).toNat ≤ 3 := by
  decide +kernel

def event5 : EventRec := { seq := 5, beats := 0, code := 0x0904, obj := 0x7030, drill := false, detail := 0 }

def unacked (n : Nat) : State := { run with fynen := { run.fynen with log := [event5], unacked := [(5, n)] } }

theorem witness_HostRegisters : run.host.linkUp = false ∧ linked.host.linkUp = true ∧ linked.host.busy = false ∧ (1072 : BitVec 32).toNat ≤ 1072 ∧ 1072 < (1073 : BitVec 32).toNat ∧
    (let off : Word := 0x1FFFFFC; off.toNat = 0x1000000 + 0x40000 * (63 : Fin 64).val + 0x3FFFC ∧ 0x3FFFC % 4 = 0 ∧ 0x3FFFC < 0x40000) ∧ 0x2000000 ≤ (0x2000000 : Word).toNat ∧ (barReadOnly (0x10018 : Word).toNat = true ∧ ([1, 2, 3, 4] : List Byte).length = 4 ∧ (0x10018 : Word).toNat % 4 = 0) ∧
    (∀ n ∈ [9, 10], let s := unacked n; s.fynenSilent = false ∧ s.fynen.unacked.find? (fun x => x.1 == 5) = some (5, n) ∧ s.fynen.log.find? (fun e => e.seq == 5) = some event5) ∧ run.fynen.unacked.find? (fun x => x.1 == 5) = none ∧
    (0xFE80000000000000004B4DFFFE4C4801 : BitVec 128).toNat = 0xFE80000000000000004B4DFFFE4C4801 + run.power.mgmtId.toNat ∧ ¬((0 : BitVec 128).toNat = 0xFE80000000000000004B4DFFFE4C4801 + run.power.mgmtId.toNat) ∧
    run.serves 0x3203 = true ∧ dictHas 0x1FFF = false ∧ dictRow 0x1010 200 = none ∧ (dictRow 0x1010 0).map (·.access) = some 0 ∧ run.dev.state ≠ .fault ∧ (inSt run .fault).dev.state = .fault ∧ (inSt run .fault).fynenSilent = false ∧ booting.dev.state ≠ .fault ∧ 3 < (4 : Byte).toNat ∧ booting.serves 0x3203 = false ∧ booting.fynenSilent = false := by decide +kernel

theorem witness_DeviceStates : (∀ d, d ∈ [DevState.idle, .run, .drain, .standby, .recovery] → let s := inSt booting d; s.fynenSilent = false ∧ s.writeStop 0x1010 1 = 0 ∧ s.extestLoaded = false ∧ s.host.d3hot = false) ∧
    (let s : State := { idle with power := { idle.power with tap := .extest } }; s.fynenSilent = false ∧ s.writeStop 0x1010 1 = 0 ∧ s.extestLoaded = true) ∧ ({ run with host := { run.host with d3hot := true } } : State).host.d3hot = true ∧
    (let s : State := { booting with power := { booting.power with presentN := { booting.power.presentN with asserted := false } } }; s.power.presentN.asserted = false ∧ s.dev.state = .standby ∧ s.fynenSilent = false ∧ s.writeStop 0x1010 1 = 0 ∧ s.extestLoaded = false) ∧ booting.power.presentN.asserted = true ∧ (inSt run .drain).quiet = true ∧ (inSt (queued run [collD 0 5]) .drain).quiet = false ∧ (inSt run .drain).dev.afterDrain ≠ .standby ∧
    (let s := active (inSt run .drain); (s.job s.gatedJob).state = .active ∧ s.esc.phase ≠ .commit) ∧ (booting.fynenSilent = false ∧ booting.writeStop 0x1010 5 = 0) ∧ ((inSt run .standby).dev.state = .standby ∧ (inSt run .standby).dev.powered = false) := by decide +kernel

theorem witness_DeviceStates_rom : run.romStarts = false ∧ booting.romStarts = true ∧ booting.bootWanted = true ∧
    (let s : State := { booting with dev := { booting.dev with wantIdle := false }, fynen := { booting.fynen with silent := true } }; s.romStarts = true ∧ s.dev.state = .standby ∧ s.bootWanted = false) ∧ booting.dev.state = .standby ∧ booting.dev.powered = true ∧ booting.boot.vault.isSome = true ∧ booting.dev.wantIdle = true ∧ booting.fynen.silent = false ∧
    booting.dev.powerCycling = false ∧ booting.boot.pending = none ∧ booting.imageCode booting.boot.confirmed ≠ 0 ∧ booting.imageCode (1 - booting.boot.confirmed) ≠ 0 ∧
    (∀ n, n < 160 → (booting.phys n).retired = false) := by decide +kernel

theorem witness_DeviceStates_cores : ∀ q p, q < 4 → p < 40 → ((List.replicate 4 (List.replicate 40 true)).getD q []).getD p false = true := by
  have h : ∀ q, q < 4 → ∀ p, p < 40 → ((List.replicate 4 (List.replicate 40 true)).getD q []).getD p false = true := by decide +kernel
  exact fun q p a b => h q a p b

/-! Whether a signature verifies, the serial number and Kamober's key are constants that nothing in the model fixes: a witness of a good image or record is one
for the devices on which they have the values named. -/

/-- The SHA-256 digest of four zero bytes. -/
def zeroDigest : List Byte :=
  [223, 63, 97, 152, 4, 169, 47, 219, 64, 87, 25, 45, 196, 61, 215, 72, 234, 119, 138, 220, 82, 188, 73, 140, 232, 5, 36, 192, 20, 184, 17, 25]

/-- Its CRC-32C, computed outside the model from the polynomial of 07 Table 9. -/
theorem test_crc32c_zeros : crc32c [0, 0, 0, 0] = 0x48674BC7 := by decide +kernel

theorem test_sha256_zeros : sha256 [0, 0, 0, 0] = zeroDigest := by decide +kernel

/-- An image of 8 KiB: its header, the signature block at 4096 and two components of four bytes. -/
def image : List Byte :=
  let part := fun (t : Byte) (o : Nat) => [t, 0, 0, 0] ++ leBytes o 4 ++ leBytes 4 4 ++ [0, 0, 0, 0] ++ zeroDigest ++ leBytes 0x48674BC7 4 ++ List.replicate 12 0
  leBytes 1 4 ++ List.replicate 12 0 ++ leBytes 8192 4 ++ leBytes 4096 4 ++ List.replicate 8 0 ++ List.replicate 60 1 ++ List.replicate 164 0 ++ part 1 4352 ++ part 2 4416

def imaged (s : State) : State := { s with boot := { s.boot with slots := vset s.boot.slots s.boot.confirmed (memOf 0 image) } }

theorem mgetN_add (u : Nat → Byte) (m : Mem) (a n k : Nat) : mgetN u m a (n + k) = mgetN u m a n ++ mgetN u m (a + n) k := by
  induction n generalizing a with
  | zero => simp [mgetN]
  | succ n ih => rw [Nat.succ_add, mgetN, ih, mgetN, List.cons_append, Nat.add_right_comm a 1 n]; rfl

theorem mgetN_zeros (m : Mem) (a n : Nat) (h : ∀ c ∈ m, c.1 < a) : mgetN zeroByte m a n = List.replicate n 0 := by
  induction n generalizing a with
  | zero => rfl
  | succ n ih =>
    rw [mgetN, ih (a + 1) (fun c hc => Nat.lt_succ_of_lt (h c hc)), mget, tget_not_mem _ _ _ (fun c hc => Nat.ne_of_lt (h c hc)), List.replicate_succ]
    rfl

theorem imaged_slot : (imaged booting).slotBytesAt (imaged booting).boot.confirmed 0 4096 = image ++ List.replicate (4096 - 384) 0 := by
  show mgetN zeroByte (memOf 0 image) 0 (384 + 3712) = _
  rw [mgetN_add, mgetN_zeros (memOf 0 image) (0 + 384) 3712 (by decide +kernel), show mgetN zeroByte (memOf 0 image) 0 384 = image from by decide +kernel]

theorem imaged_components : headerComponents (image ++ List.replicate (4096 - 384) 0) = ([⟨1, 4352, 4, zeroDigest, 0x48674BC7⟩, ⟨2, 4416, 4, zeroDigest, 0x48674BC7⟩], false) := by decide +kernel

theorem witness_DeviceStates_check : crc32c ((imaged booting).componentBytes (imaged booting).boot.confirmed 2) = ((imaged booting).component (imaged booting).boot.confirmed 2).check := by
  have hc : (imaged booting).component (imaged booting).boot.confirmed 2 = ⟨2, 4416, 4, zeroDigest, 0x48674BC7⟩ := by
    unfold State.component
    rw [imaged_slot, imaged_components]
    rfl
  unfold State.componentBytes
  rw [hc]
  decide +kernel

theorem witness_DeviceStates_image (hk : Config.kamoberKey = List.replicate 60 1) (hv : ∀ m g, Config.hssVerify (List.replicate 60 1) m g = true) : (imaged booting).imageCode (imaged booting).boot.confirmed = 0 := by
  have hs : (imaged booting).signatures (imaged booting).boot.confirmed (image ++ List.replicate (4096 - 384) 0) = some ([], [], 4100) := by decide +kernel
  have hkey : ((image ++ List.replicate (4096 - 384) 0).drop 32).take 60 = List.replicate 60 1 := by decide +kernel
  have h1 : (imaged booting).slotBytesAt (imaged booting).boot.confirmed 4352 4 = [0, 0, 0, 0] := by decide +kernel
  have h2 : (imaged booting).slotBytesAt (imaged booting).boot.confirmed 4416 4 = [0, 0, 0, 0] := by decide +kernel
  unfold State.imageCode
  simp only [imaged_slot, hs, imaged_components, hk, hkey, hv, List.any_cons, List.any_nil, h1, h2, test_sha256_zeros, ne_eq, not_true_eq_false, if_false]
  decide +kernel
/-! ## Witnesses: images, owner, power, pins -/

/-- A session on the slot that is not confirmed, with `n` bytes written. -/
def session (n : Nat) : State := { run with boot := { run.boot with session := some (1 - run.boot.confirmed, .t1s), offset := n } }

theorem witness_ImagesAndOwner_images : (run.fynenSilent = false ∧ run.writeStop 0x1110 2 = 0 ∧ run.writeStop 0x1110 4 = 0 ∧ run.writeStop 0x1110 5 = 0) ∧ 1 < (2 : BitVec 8).toNat ∧ (booting.fynenSilent = false ∧ booting.writeStop 0x1110 2 = 0 ∧ booting.imageServes = false) ∧
    run.imageServes = true ∧ (BitVec.ofNat 8 run.boot.confirmed).toNat = run.boot.confirmed ∧ run.dev.state ≠ .recovery ∧ run.boot.session = none ∧ (BitVec.ofNat 8 (1 - run.boot.confirmed)).toNat ≤ 1 ∧ (BitVec.ofNat 8 (1 - run.boot.confirmed)).toNat ≠ run.boot.confirmed ∧
    (let s := session (4 * 2 ^ 20 - 4); s.fynenSilent = false ∧ s.writeStop 0x1110 4 = 0 ∧ s.writeStop 0x1110 5 = 0 ∧ s.boot.session = some (1 - run.boot.confirmed, .t1s) ∧ 1 - run.boot.confirmed < 2 ∧ s.boot.offset + (List.replicate 4 (0 : Byte)).length ≤ 4 * 2 ^ 20 ∧
      4 * 2 ^ 20 < s.boot.offset + (List.replicate 8 (0 : Byte)).length ∧ ¬((List.replicate 6 (0 : Byte)).length % 4 = 0) ∧ s.dev.state ≠ .recovery) ∧ Transport.mailbox ≠ Transport.t1s ∧
    vget run.boot.slotState 0 .invalid ≠ .verifying ∧
    (let s : State := { run with boot := { run.boot with slotState := vset run.boot.slotState 0 .verifying } }; vget s.boot.slotState 0 .invalid = .verifying ∧ s.imageCode 0 ≠ 0) := by decide +kernel

theorem witness_ImagesAndOwner_image (hk : Config.kamoberKey = List.replicate 60 1) (hv : ∀ m g, Config.hssVerify (List.replicate 60 1) m g = true) :
    let s := imaged booting; let t : State := { s with boot := { s.boot with slotState := vset s.boot.slotState s.boot.confirmed .verifying } }
    vget t.boot.slotState t.boot.confirmed .invalid = .verifying ∧ t.imageCode t.boot.confirmed = 0 :=
  ⟨by decide +kernel, witness_DeviceStates_image hk hv⟩

/-- The device has a nonce, and an owner or none. -/
def nonced (owned : Bool) : State := { run with boot := { run.boot with nonce := List.replicate 32 7, owned := owned } }

/-- A record of ownership for operation `op`, for the serial number of 16 letters A. -/
def ownRec (op : Byte) : List Byte :=
  List.replicate 12 0 ++ List.replicate 32 7 ++ List.replicate 16 0x41 ++ List.replicate 60 (if op = 3 then 0 else 9) ++ [1, 0, op, 0] ++ List.replicate 8 0

theorem witness_ImagesAndOwner_owner (hs : Config.serial = List.replicate 16 0x41) (hv : ∀ k m g, Config.hssVerify k m g = true) (ho : ∀ k m g, Config.ownerVerify k m g = true) :
    (nonced false).ownerCode (ownRec 1) = 0 ∧ (nonced true).ownerCode (ownRec 2) = 0 ∧ (nonced true).ownerCode (ownRec 3) = 0 := by
  have h : ∀ op, op ∈ [(1 : Byte), 2, 3] → recSignature (ownRec op) 128 = some [] := by decide +kernel
  refine ⟨?_, ?_, ?_⟩ <;> unfold State.ownerCode <;> rw [h _ (by decide)] <;> simp only [serialBytes, hs, hv, ho] <;> decide +kernel

theorem witness_ImagesAndOwner_refused : (run.fynenSilent = false ∧ run.writeStop 0x1101 4 = 0 ∧ run.writeStop 0x1102 0 = 0 ∧ run.writeStop 0x1120 0 = 0) ∧ (∀ op, op < 4 → run.ownerCode (([] : List Byte).set 122 (BitVec.ofNat 8 op)) ≠ 0) := by decide +kernel

def keyRec (slot : Byte) : List Byte := [1, 0, slot, 0] ++ List.replicate 32 7 ++ List.replicate 16 0x41 ++ List.replicate 1152 0

theorem witness_ImagesAndOwner_key (hs : Config.serial = List.replicate 16 0x41) : ∀ slot, slot = 1 ∨ slot = 2 → let r := keyRec slot; recSignature r 1200 = some [] ∧ recNat r 0 2 = 1 ∧ recNat r 3 1 = 0 ∧ (recNat r 2 1 = 1 ∨ recNat r 2 1 = 2) ∧
    (nonced true).boot.owned = true ∧ (nonced false).boot.owned = false ∧ (r.drop 4).take 32 = (nonced true).boot.nonce ∧ (r.drop 36).take 16 = serialBytes ∧ (r.drop 4).take 32 ≠ run.boot.nonce := by
  rintro slot (rfl | rfl) <;> simp only [serialBytes, hs] <;> decide +kernel

theorem witness_ImagesAndOwner_attest : (List.replicate 32 (0 : Byte)).length = 32 ∧ (List.replicate 31 (0 : Byte)).length ≠ 32 ∧ 0 < run.boot.burst ∧ run.boot.usedIndex < 2 ^ 25 ∧
    ({ run with boot := { run.boot with usedIndex := 2 ^ 25 } } : State).boot.usedIndex = 2 ^ 25 := by decide +kernel

/-- An input at 51 V. -/
def v51 (closed : Bool) : Input := { inRange := true, switchClosed := closed, supplying := closed, volts := 0x424C0000 }

/-- A voltage keeps a closed switch closed. -/
def holds (v : BitVec 32) : Bool := !opensSwitch (f32 v.toNat) && !(f32 v.toNat).lt (ofNatVal 45) && !(ofNatVal 57).le (f32 v.toNat)

/-- A voltage lies where an overvoltage has ended. -/
def fallen (v : BitVec 32) : Bool := (ofNatVal 47).le (f32 v.toNat) && (f32 v.toNat).lt (ofNatVal 55)

/-- 0, 46, 51, 56 and 57 V. -/
theorem witness_PowerSupply_volts : (opensSwitch (f32 (0 : BitVec 32).toNat) = true ∧ (f32 (0 : BitVec 32).toNat).lt (ofNatVal 45) = true) ∧
    (opensSwitch (f32 (0x42640000 : BitVec 32).toNat) = true ∧ (ofNatVal 57).le (f32 (0x42640000 : BitVec 32).toNat) = true) ∧ inOperation 0x424C0000 = true ∧ inOperation 0 = false ∧
    (holds 0x42380000 = true ∧ (run.input 1).recloses (f32 (0x42380000 : BitVec 32).toNat) = false) ∧ (holds 0x424C0000 = true ∧ (run.input 1).recloses (f32 (0x424C0000 : BitVec 32).toNat) = true) ∧
    (holds 0x42600000 = true ∧ (run.input 1).recloses (f32 (0x42600000 : BitVec 32).toNat) = true) ∧
    (let x : Input := { v51 false with volts := 0x42640000 }; x.switchClosed = false ∧ x.recloses (f32 (0x42600000 : BitVec 32).toNat) = false) ∧ fallen 0x424C0000 = true ∧ fallen 0x42600000 = false := by decide +kernel

theorem witness_PowerSupply : (run.input 1).switchClosed = false ∧ ((run.setInput 1 (v51 true)).input 1).switchClosed = true ∧ run.dev.state ≠ .off ∧ State.reset.dev.state = .off ∧
    (let o := (run.setInput 0 (v51 false)).input (1 - 1); inOperation o.volts = true ∧ o.switchClosed = false) ∧ (let o := (run.setInput 0 { v51 true with volts := 0 }).input (1 - 1); inOperation o.volts = false ∧ o.switchClosed = true) ∧
    (let o := run.input (1 - 1); inOperation o.volts = false ∧ o.switchClosed = false) ∧
    (let s : State := { run with power := { run.power with rails := 15, quarterClocks := true } }; ∀ r, r < 4 → s.power.rails.getLsbD r = true) ∧ (run.power.rails.getLsbD 0 = false ∧ run.dev.state ≠ .standby) ∧
    (booting.dev.state = .standby ∧ booting.dev.wantIdle = true ∧ booting.power.rails = 0 ∧ booting.power.quarterClocks = false) ∧
    run.power.refOsc = false ∧ ({ run with power := { run.power with refOsc := true } } : State).power.refOsc = true ∧ run.power.crystalOk = true ∧ ({ run with power := { run.power with crystalOk := false } } : State).power.crystalOk = false := by decide +kernel

/-- Core 143 waiting for the Fusee on one of its lists. -/
def fusee (a b c : List Nat) : State := { run with power := { run.power with fuseeRemontoire := a, fusee := b, fuseeSleep := c } }

theorem witness_SleepAndSteps : (let s := run.setCore 143 { Core.reset with sleep := .awake }; let x := s.core 143; s.takesReset = true ∧ x.sleep = .awake ∧ x.offline = false ∧ x.fenced = false ∧ s.coreIdle 143 = true) ∧
    ¬(run.core 143).sleep = .awake ∧ ((run.setCore 143 { Core.reset with sleep := .locking }).core 143).sleep = .locking ∧ (run.core 143).sleep ≠ .locking ∧ (fusee [143, 0] [5] []).power.fuseeRemontoire = (143 : Fin 144).val :: [0] ∧
    ((fusee [] [143] []).power.fuseeRemontoire = [] ∧ (fusee [] [143] []).power.fusee = (143 : Fin 144).val :: []) ∧ ((fusee [] [] [143]).power.fuseeRemontoire = [] ∧ (fusee [] [] [143]).power.fusee = [] ∧ (fusee [] [] [143]).power.fuseeSleep = (143 : Fin 144).val :: []) ∧
    run.power.fuseeSleep = [] ∧ run.dev.state ≠ .off ∧ State.reset.dev.state = .off ∧ run.power.tripped = false ∧ ({ run with power := { run.power with tripped := true } } : State).power.tripped = true ∧
    (anyAt [0x42D20000] 105 || anyAt [] 105) = true ∧ (anyAt [0x42D00000] 105 || anyAt [] 105) = false ∧ (ofNatVal 95).le (f32 (0x42BE0000 : BitVec 32).toNat) = true ∧ (f32 (0x42B60000 : BitVec 32).toNat).lt (ofNatVal 92) = true := by decide +kernel

/-- EXTEST is loaded. -/
def extesting : State := { idle with power := { idle.power with tap := .extest } }

theorem witness_PinsTap : run.dev.state ≠ .off ∧ ({ run with power := { run.power with tripped := true } } : State).power.tripped = true ∧ run.power.tripped = false ∧ run.takesReset = true ∧ (inSt run .reset).dev.state = .reset ∧
    ((inSt run .fault).takesReset = false ∧ (inSt run .fault).dev.state ≠ .reset) ∧ run.esc.phase ≠ .commit ∧ (run.power.resetN.asserted || run.power.resetN.chatter) = false ∧
    (let s : State := { run with power := { run.power with resetN := { run.power.resetN with asserted := true }, throttleN := { run.power.throttleN with asserted := true }, presentN := { run.power.presentN with chatter := true } } };
      (s.power.resetN.asserted || s.power.resetN.chatter) = true ∧ (s.power.throttleN.asserted || s.power.throttleN.chatter) = true ∧ s.power.presentN.chatter = true) ∧ run.power.presentN.chatter = false ∧ run.power.throttleN.asserted = false ∧
    State.reset.dev.state = .off ∧ run.extestLoaded = false ∧ (extesting.extestLoaded = true ∧ extesting.takesReset = true) ∧ (idle.dev.state = .idle ∧ ∀ j, j < 8 → (idle.job j).state = .free) ∧ run.dev.state ≠ .idle ∧
    (let s := active idle; (s.job s.gatedJob).state ≠ .free ∧ s.gatedJob < 8) := by decide +kernel

theorem boot_wf_of (b : Boot) (h : (b.owned = false → b.ownerHash = List.replicate 32 0 ∧ b.requireOwner = false) ∧ (∀ l ∈ [b.ownerHash, b.m0, b.m1, b.m2, b.m3, b.m4], l.length = 32) ∧
    b.confirmed ≤ 1 ∧ b.tries ≤ 3 ∧ b.burst ≤ 16 ∧ b.usedIndex ≤ b.nextIndex ∧ b.nextIndex ≤ 2 ^ 25) (hp : b.pending = none) (hs : b.session = none) : b.wf := by
  obtain ⟨h1, h2, h3, h4, h5, h6, h7⟩ := h
  simp only [List.forall_mem_cons] at h2
  exact ⟨h1, h2.1, h2.2.1, h2.2.2.1, h2.2.2.2.1, h2.2.2.2.2.1, h2.2.2.2.2.2.1, h3, by simp [hp], by simp [hs], h4, h5, h6, h7⟩

/-- RUN with one report waiting to be signed and an index reserved. -/
theorem witness_BootInvariant : let s : State := { run with pending := [.attestationNonce (List.replicate 32 0)], boot := { run.boot with nextIndex := 1024 } }; s.boot.wf ∧ ∃ t, step s = .next t :=
  ⟨boot_wf_of _ (by decide +kernel) rfl rfl, _, rfl⟩

theorem witness_SvnAndIndexOnlyRise : let s : State := { run with pending := [.attestationNonce (List.replicate 32 0)], boot := { run.boot with nextIndex := 1024 } }; s.boot.wf ∧ ∃ t, step s = .next t := witness_BootInvariant
/-! ## Small tests: worked examples and tables of the spec, and the check values of the standards it names -/

/-- The next state of an answer. -/
def next (o : Host.Outcome State Fault Refusal) : State := match o with
  | .next t => t
  | _ => State.reset

theorem test_reset_queue : State.reset.pending = [] ∧ State.reset.dev.state = .off ∧ State.reset.mem.cells = [] ∧ State.reset.mem.poison = [] := by decide +kernel

/-- No row of the table gives bits. -/
theorem test_decode_none : decodeTableWord 128 5 = none ∧ run.withFetchWord 128 5 = run := ⟨rfl, rfl⟩

/-! Checks and random numbers: CRC-32, CRC-32C and CRC-64/ECMA-182 of "123456789"; SHA-256 of "abc"; Threefry-2x64-20 of zeros (Random123). -/

theorem test_crc : crc 0 [49, 50, 51, 52, 53, 54, 55, 56, 57] = 0xCBF43926 ∧ crc32c [49, 50, 51, 52, 53, 54, 55, 56, 57] = 0xE3069283 := by decide +kernel
theorem test_crc64 : crc64 [49, 50, 51, 52, 53, 54, 55, 56, 57] = 0x6C40DF5F0B497347 := by decide +kernel
theorem test_crc_combine : crcCombine 1 (crc32c [49, 50, 51, 52]) (crc32c [53, 54, 55, 56, 57]) 5 = 0xE3069283 := by decide +kernel
theorem test_sha256 : sha256 [97, 98, 99] = beBytes 32 0xba7816bf8f01cfea414140de5dae2223b00361a396177a9cb410ff61f20015ad := by decide +kernel
theorem test_threefry : threefry 0 0 0 0 = (0xc2b6e3a8c2c69865, 0x6f81ed42f350084d) := by decide +kernel

/-! Number formats (02): its example of an MB8 block, of MB6 planes, of stochastic rounding, of a block that outgrows its exponent. -/

theorem test_mb8_block : mbRound 8 122 .rne (f32 0x40466666) = (99, false) ∧ mbRound 8 122 .rne (f32 0x3F800000) = (32, false) ∧ mbRound 8 122 .rne (f32 0xBD4CCCCD) = (-2, false) := by decide
theorem test_mb8_exponent : clampE (ebm 8 [f32 0x3F800000, f32 0x40466666, f32 0xBD4CCCCD]) = 122 ∧ mbVal 99 122 = .fin false 99 (-5) := by decide
theorem test_mb6_planes : (let g := mbPack 5 (List.replicate 13 0 ++ [-5] ++ List.replicate 498 0) (List.replicate 16 0); [1, 65, 129, 193, 257, 321].map (fun i => g.getD i 0) = [32, 32, 0, 32, 32, 32] ∧ mbSig 5 g 13 = -5 ∧ g.length = 400) := by decide +kernel
theorem test_stochastic : bf16.enc (.sr 45875) (.fin false (128 * 65536 + 19660) (-23)) = 0x3F80 ∧ bf16.enc (.sr 45876) (.fin false (128 * 65536 + 19660) (-23)) = 0x3F81 := by decide
theorem test_gradient_overflow : mbRound 8 120 .rne (f32 0x3FA66666) = (127, true) ∧ mbRound 8 122 .rne (f32 0x3FA66666) = (42, false) ∧ ebm 8 [f32 0x3FA66666] = 121 := by decide

/-! The Kiln (05): its example of carried rounding, where d is 1.25 and LR 2^-8; its clip factor for S = 9. -/

def carried : KilnDesc := { kilnD 0 0 with mode := 2, lr := 0x3B800000, beta1 := 0, beta2 := 0, eps := 0x30800000, bc1 := 0x3FA00000, bc2 := 0x3F800000 }

theorem test_carried_1 : (kilnElem carried (some (f32 0x3F800000)) (f32 0x3F800000) 0x3FC0 40 .zero .zero .rne).map (fun e => (e.w, e.r)) = some (0x3FC0, -120) := by decide +kernel
theorem test_carried_2 : (kilnElem carried (some (f32 0x3F800000)) (f32 0x3F800000) 0x3FC0 (-120) .zero .zero .rne).map (fun e => (e.w, e.r)) = some (0x3FBF, -24) := by decide +kernel
theorem test_nearest : (kilnElem { carried with mode := 0 } (some (f32 0x3F800000)) (f32 0x3F800000) 0x3FC0 0 .zero .zero .rne).map (fun e => e.w) = some 0x3FBF := by decide +kernel

/-! Memory (06): its three FP32 adds in order, and the addresses of its tensor over three stacks. -/

theorem test_three_adds : (adderElem 2 (adderElem 2 (adderElem 2 0 0x3F800000 0).1 0x33800000 0).1 0x33800000 0).1 = 0x3F800000 ∧ (adderElem 2 (adderElem 2 0x33800000 0x33800000 0).1 0x3F800000 0).1 = 0x3F800001 := by decide
theorem test_adder_wraps : adderElem 0 0xFFFFFFFF 2 0 = (1, false) ∧ adderElem 4 0xFFFFFFFF 1 0 = (1, false) ∧ adderElem 5 0xFFFFFFFF 1 0 = (0xFFFFFFFF, false) ∧ adderElem 6 5 7 5 = (7, false) ∧ adderElem 6 5 7 4 = (5, false) := by decide
theorem test_three_stacks : [0x026820000000, 0x027820000000, 0x028820000000].map run.home = [some (.hbm 6), some (.hbm 7), some (.hbm 8)] := by decide +kernel

/-! Sharding (07): its distributed tensor of 10,000 by 3,000. -/

theorem test_shard : ownerLocal 3000 (1, 0, 0) 8 1234 = (3, 109) ∧ ownerLocal 10000 (3, 1, 1024) 4 9500 = (1, 2332) ∧ (List.range 4).map (localExtent 10000 (3, 1, 1024) 4) = [3072, 2832, 2048, 2048] ∧ shardFactor 3000 (1, 0, 0) 8 = 375 := by decide
theorem test_shard_back : globalCoord 10000 (3, 1, 1024) 4 1 2332 = 9500 ∧ globalCoord 3000 (1, 0, 0) 8 3 109 = 1234 := by decide

/-! The fabric (08): its DMA write from (3, 2, 5) to (3, 9, 14) on plane b leaves through P4 and turns into P7. -/

theorem test_route : (let at_ := fun (x y : Nat) => { run with dev := { run.dev with coordAssigned := true, coord := BitVec.ofNat 17 (3 * 256 + 16 * y + x) } }; let p := { pkt 0 0 with dst := BitVec.ofNat 17 (3 * 256 + 16 * 14 + 9), plane := true };
    (at_ 2 5).route p = .port 4 ∧ (at_ 9 5).route p = .port 7) := by decide +kernel

/-! Racking (11): a narrowed remainder 0x13 is restored as 0x18. -/

theorem test_narrow : widenBytes (narrowBytes [0x13, 0xF7]) = [0x18, 0xF8] := by decide

/-! Scalar instructions (04 Table 3): wrap, division corners, shifts by the low six bits, a write of s0. -/

def salu (f : Nat) (d : Nat) (a b : Word) : Word := ((next (exec (.salu 0 { w0 with func := BitVec.ofNat 5 f, d := BitVec.ofNat 5 d, a := 1, b := 2 }) (on (withS a b 0)))).core 0).s d

theorem test_salu_wrap : salu 0 5 0xFFFFFFFFFFFFFFFF 2 = 1 ∧ salu 1 5 0 1 = 0xFFFFFFFFFFFFFFFF ∧ salu 8 5 (-1) 0 = 1 ∧ salu 9 5 (-1) 0 = 0 := by decide +kernel
theorem test_salu_divide : salu 15 1 (-7) 2 = -3 ∧ salu 17 1 (-7) 2 = -1 ∧ salu 13 5 (-1) 2 = -1 ∧ salu 14 5 (-1) 2 = 1 := by decide +kernel
theorem test_salu_zero : salu 0 0 1 1 = 0 := by decide +kernel

/-! Pins and power (14, 15): the TAP's IDCODE; an input at 54 V is in operation and one at 54.5 V is not. -/

theorem test_idcode : (next (exec .tapIdcode run)).out = [.tdo 32 0x10180A3D] := by decide +kernel
theorem test_operation : inOperation 0x42580000 = true ∧ inOperation 0x425A0000 = false ∧ inOperation 0x42400000 = true ∧ inOperation 0x423F0000 = false := by decide

/-- The queue: the front command runs, the rest waits. -/
theorem test_queue : (let s : State := { run with pending := [.nop 0 w0, .d0Return] }; (next (step s)).pending = [.d0Return]) := by decide +kernel

end Sys2Proof.Tests
end

section
/-! SUPPORT. Laws of the array, the accumulators and the banks (03 R86 to R90): what a read of them gives after the updates that tiles make, and what
the updates shared by the events of the array leave of a core and of every other core. -/

namespace Sys2Proof.Machine

/-! ## Repeated operations -/

/-- What holds at the start and is kept by each repetition holds at the end. -/
theorem State.each_invariant {α : Type} {P : State → Prop} (s : State) (l : List α) (f : State → α → State) (start : P s)
    (keeps : ∀ s, P s → ∀ a ∈ l, P (f s a)) : P (s.each l f) :=
  List.foldlRecOn l f start keeps

/-- A core has no number above 143. -/
theorem State.core_out (s : State) (k : Nat) (h : 144 ≤ k) : s.core k = Core.reset := by
  simp [State.core, vget, h]

/-- An update of a core relates it as the update does, and every other core is left. -/
theorem State.core_modCore_rel {R : Core → Core → Prop} (refl : ∀ x, R x x) (s : State) (c : Nat) (f : Core → Core)
    (h : R (s.core c) (f (s.core c))) (k : Nat) : R (s.core k) ((s.modCore c f).core k) := by
  by_cases hk : k = c
  · subst hk
    by_cases hlt : k < 144
    · rwa [State.core_modCore _ _ _ hlt]
    · rw [State.core_out _ k (by omega), State.core_out _ k (by omega)]
      exact refl _
  · rw [State.core_modCore_ne _ _ _ _ hk]
    exact refl _

/-- An operation on each core in turn that changes the core's own record alone. -/
theorem State.core_each_own (g : Core → Core) (f : State → Nat → State) (hreset : g Core.reset = Core.reset)
    (same : ∀ s i, i < 144 → (f s i).core i = g (s.core i)) (other : ∀ s i k, k ≠ i → (f s i).core k = s.core k) (s : State) (k : Nat) :
    (s.each (List.range 144) f).core k = g (s.core k) := by
  have upTo : ∀ n, n ≤ 144 → (s.each (List.range n) f).core k = if k < n then g (s.core k) else s.core k := by
    intro n
    induction n with
    | zero => intro; rfl
    | succ n ih =>
      intro hn
      have split : s.each (List.range (n + 1)) f = f (s.each (List.range n) f) n := by
        simp [State.each, List.range_succ]
      rw [split]
      by_cases hk : k = n
      · subst hk
        rw [same _ _ (by omega), ih (by omega)]
        simp
      · rw [other _ _ _ hk, ih (by omega)]
        simp only [show k < n + 1 ↔ k < n by omega]
  rw [upTo 144 le_rfl]
  split
  · rfl
  · rw [State.core_out s k (by omega), hreset]

/-! ## Banks -/

@[simp] theorem vget_ofFn {α : Type} {n : Nat} (f : Fin n → α) (i : Nat) (d : α) (h : i < n) : vget (Vector.ofFn f) i d = f ⟨i, h⟩ := by
  simp [vget, h]

theorem vget_eq_getElem {α : Type} {n : Nat} (v : Vector α n) (i : Nat) (d : α) (h : i < n) : vget v i d = v[i] := by
  simp [vget, h]

/-- The banks of a tile are updated, every other bank is left. -/
theorem vget_setBanks (v : Vector Bank 8) (b n : Nat) (f : Bank → Bank) (i : Nat) (d : Bank) (h : i < 8) :
    vget (setBanks v b n f) i d = if b ≤ i ∧ i < b + n then f (vget v i d) else vget v i d := by
  simp [setBanks, h, vget_eq_getElem v i d h]

/-! ## Accumulator entries -/

theorem tget_append_of_not_mem_left {α : Type} (d : α) (t u : Tbl α) (i : Nat) (h : ∀ e ∈ t, e.1 ≠ i) : tget d (t ++ u) i = tget d u i := by
  rw [tget_append, if_neg]
  simpa using fun v hv => h (i, v) hv rfl

theorem tget_append_of_not_mem_right {α : Type} (d : α) (t u : Tbl α) (i : Nat) (h : ∀ e ∈ u, e.1 ≠ i) : tget d (t ++ u) i = tget d t i := by
  rw [tget_append]
  split
  · rfl
  · next hany =>
    rw [tget_not_mem d u i h, tget_not_mem d t i]
    rintro ⟨k, v⟩ hv rfl
    exact hany (List.any_eq_true.mpr ⟨_, hv, by simp⟩)

/-- A list written from a key on, without the values that are the default, reads as the list. -/
theorem tget_numbered {α : Type} [DecidableEq α] (d : α) (l : List α) (lo k i : Nat) :
    tget d (((l.zipIdx k).map (fun e => (lo + e.2, e.1))).filter (fun e => e.2 ≠ d)) (lo + (k + i)) = l.getD i d := by
  induction l generalizing k i with
  | nil => rfl
  | cons a r ih =>
    rw [List.zipIdx_cons, List.map_cons]
    cases i with
    | zero =>
      by_cases ha : a = d
      · rw [List.filter_cons_of_neg (by simpa using ha), tget_not_mem, List.getD_cons_zero, ha]
        intro e he
        obtain ⟨⟨v, j⟩, hj, rfl⟩ := List.mem_map.mp (List.mem_filter.mp he).1
        have := List.le_snd_of_mem_zipIdx hj
        simp only at this ⊢
        omega
      · rw [List.filter_cons_of_pos (by simpa using ha)]
        simp [tget]
    | succ i =>
      have tail := ih (k + 1) i
      rw [show k + 1 + i = k + (i + 1) by omega] at tail
      rw [List.getD_cons_succ, ← tail]
      by_cases ha : a = d
      · rw [List.filter_cons_of_neg (by simpa using ha)]
      · rw [List.filter_cons_of_pos (by simpa using ha), tget, if_neg (by simp)]

/-- Keys of a list written from a key on. -/
theorem key_of_mem_numbered {α : Type} (l : List α) (lo : Nat) (p : Nat × α → Bool) (e : Nat × α)
    (h : e ∈ (l.zipIdx.map (fun e => (lo + e.2, e.1))).filter p) : lo ≤ e.1 ∧ e.1 < lo + l.length := by
  obtain ⟨⟨v, j⟩, hj, rfl⟩ := List.mem_map.mp (List.mem_filter.mp h).1
  have := List.snd_lt_of_mem_zipIdx hj
  simp only at this ⊢
  omega

/-- An entry that a tile writes holds what it writes (03 R88). -/
theorem tget_accPut_in (acc : Tbl AccEntry) (b : Nat) (l : List AccEntry) (i : Nat) (h : i < l.length) :
    tget AccEntry.reset (accPut acc b l) (16384 * b + i) = l.getD i AccEntry.reset := by
  unfold accPut
  rw [tget_append_of_not_mem_right, tget_append_of_not_mem_left]
  · simpa using tget_numbered AccEntry.reset l (16384 * b) 0 i
  · intro e he
    have : e.1 < 16384 * b := by simpa using (List.mem_filter.mp he).2
    omega
  · intro e he
    have : 16384 * b + l.length ≤ e.1 := by simpa using (List.mem_filter.mp he).2
    omega

/-- Every entry outside those that a tile writes is left. -/
theorem tget_accPut_out (acc : Tbl AccEntry) (b : Nat) (l : List AccEntry) (i : Nat) (h : i < 16384 * b ∨ 16384 * b + l.length ≤ i) :
    tget AccEntry.reset (accPut acc b l) i = tget AccEntry.reset acc i := by
  have below := tget_filter AccEntry.reset acc (fun k => decide (k < 16384 * b)) i
  have above := tget_filter AccEntry.reset acc (fun k => decide (16384 * b + l.length ≤ k)) i
  have middle : ∀ e ∈ (l.zipIdx.map (fun e => (16384 * b + e.2, e.1))).filter (fun (e : Nat × AccEntry) => e.2 ≠ AccEntry.reset), e.1 ≠ i := by
    intro e he
    have := key_of_mem_numbered l (16384 * b) _ e he
    omega
  unfold accPut
  rcases h with h | h
  · rw [tget_append_of_not_mem_right, tget_append_of_not_mem_right _ _ _ _ middle, below, if_pos (by simpa using h)]
    intro e he
    have : 16384 * b + l.length ≤ e.1 := by simpa using (List.mem_filter.mp he).2
    omega
  · rw [List.append_assoc, tget_append_of_not_mem_left, tget_append_of_not_mem_left _ _ _ _ middle, above, if_pos (by simpa using h)]
    intro e he
    have : e.1 < 16384 * b := by simpa using (List.mem_filter.mp he).2
    omega

/-- Cleared banks read as reset, every other entry is left (03 R90). -/
theorem tget_accClear (acc : Tbl AccEntry) (b n i : Nat) :
    tget AccEntry.reset (accClear acc b n) i = if 16384 * b ≤ i ∧ i < 16384 * (b + n) then AccEntry.reset else tget AccEntry.reset acc i := by
  have kept := tget_filter AccEntry.reset acc (fun k => decide (k < 16384 * b) || decide (16384 * (b + n) ≤ k)) i
  unfold accClear
  rw [kept]
  by_cases h : 16384 * b ≤ i ∧ i < 16384 * (b + n)
  · rw [if_pos h, if_neg]
    simp
    omega
  · rw [if_neg h, if_pos]
    simp
    omega

/-- Outside compact-40 each output has an entry of its own, in the order of its number (03 R88). -/
theorem packEntries_wide_length (t : TileRec) (get : Nat → Nat → List Byte) (st : Option Stationary) :
    (packEntries false (t.results get st)).length = t.m * t.n := by
  simp [packEntries, TileRec.results]

theorem packEntries_wide_getD (t : TileRec) (get : Nat → Nat → List Byte) (st : Option Stationary) (i : Nat) (h : i < t.m * t.n) :
    (packEntries false (t.results get st)).getD i AccEntry.reset = (t.reduce get st (i / t.n) (i % t.n)).entry := by
  simp [packEntries, TileRec.results, h]

/-! ## The array queue -/

/-- Settling the array queue moves its head, the boundaries' counts, the stationary registers and the loader, and leaves everything else. -/
theorem Core.settle_frame (x : Core) : x.settle =
    { x with
      arrayQ := x.settle.arrayQ, bounds := x.settle.bounds, statActive := x.settle.statActive, statLoading := x.settle.statLoading
      loadBusy := x.settle.loadBusy } := by
  have frame : ∀ n (x : Core), x.settleArray n =
      { x with
        arrayQ := (x.settleArray n).arrayQ, bounds := (x.settleArray n).bounds, statActive := (x.settleArray n).statActive
        statLoading := (x.settleArray n).statLoading, loadBusy := (x.settleArray n).loadBusy } := by
    intro n
    induction n with
    | zero => intro x; rfl
    | succ n ih =>
      intro x
      unfold Core.settleArray
      split
      · rw [ih]; rfl
      · rfl
      · rfl
  exact frame _ x

/-- An empty queue is settled. -/
theorem Core.settle_nil (x : Core) (h : x.arrayQ = []) : x.settle = x := by simp [Core.settle, h, Core.settleArray]

/-- A queue with a tile at its head is settled. -/
theorem Core.settle_tile (x : Core) (r : TileRec) (q : List ArrOp) (h : x.arrayQ = .tile r :: q) : x.settle = x := by
  simp [Core.settle, h, Core.settleArray]

/-- An STLD at the head of the queue starts to load (03 R77). -/
theorem Core.settle_stld (x : Core) (v : View) (f : Nat) (q : List ArrOp) (h : x.arrayQ = .stld v f :: q) : x.settle = { x with loadBusy := true } := by
  simp [Core.settle, h, Core.settleArray]

/-- A SWAP that stands alone takes effect and leaves the queue (03 R79). -/
theorem Core.settle_swap (x : Core) (h : x.arrayQ = [.swap]) :
    x.settle = ({ x with statActive := x.statLoading, statLoading := x.statActive } : Core).popArray := by
  simp [Core.settle, h, Core.settleArray]

/-- Only SWAPs leave the queue as it settles: any other last entry stays the last. -/
theorem Core.settle_getLast? (x : Core) (op : ArrOp) (h : x.arrayQ.getLast? = some op) (hop : op ≠ .swap) : x.settle.arrayQ.getLast? = some op := by
  have keeps : ∀ n (x : Core), x.arrayQ.getLast? = some op → (x.settleArray n).arrayQ.getLast? = some op := by
    intro n
    induction n with
    | zero => intro x h; exact h
    | succ n ih =>
      intro x h
      unfold Core.settleArray
      split
      · next q hq =>
        apply ih
        rw [hq] at h
        cases q with
        | nil => exact absurd (by simpa using h.symm) hop
        | cons a q => simpa [Core.popArray, hq] using h
      · exact h
      · exact h
  exact keeps _ x h

/-- Without poisoned lines no range reads one. -/
theorem Core.poisonedLines_nil (x : Core) (h : x.lPoison = []) (l : List (Nat × Nat)) : x.poisonedLines l = [] := by simp [Core.poisonedLines, h]

/-! ## Assays of a tile -/

/-- Where no record is the tile's, an update of the tile's assay changes none. -/
theorem assays_map_other (l : List AssayRec) (c seq : Nat) (f : AssayRec → AssayRec) (h : ∀ a ∈ l, ¬(a.origin = c ∧ a.tile.seq = seq)) :
    l.map (fun a => if a.origin = c ∧ a.tile.seq = seq then f a else a) = l :=
  (List.map_congr_left (g := id) fun a ha => if_neg (h a ha)).trans (List.map_id l)

/-- An update of the assay of a tile changes that record wherever it waits, and nothing else of any core. -/
theorem State.core_modAssay (s : State) (c seq : Nat) (f : AssayRec → AssayRec) (k : Nat) :
    (s.modAssay c seq f).core k = { s.core k with assays := (s.core k).assays.map (fun a => if a.origin = c ∧ a.tile.seq = seq then f a else a) } := by
  unfold State.modAssay
  apply State.core_each_own (fun x => { x with assays := x.assays.map (fun a => if a.origin = c ∧ a.tile.seq = seq then f a else a) })
  · rfl
  · intro s i hi
    split
    · rw [State.core_modCore _ _ _ hi]
    · next none_here =>
      rw [assays_map_other]
      intro a ha hit
      exact none_here (List.any_eq_true.mpr ⟨a, ha, by simpa using hit⟩)
  · intro s i k hk
    split
    · exact State.core_modCore_ne _ _ _ _ hk
    · rfl

end Sys2Proof.Machine
end

section
/-! O17: a tile enters the array, its column folds land, and its last update makes it COMPLETE (03 R83, R86 to R88). -/

namespace Sys2Proof.Machine

theorem exec_tileEnterArray (c : Fin 144) (residue : Bool) (s : State) : exec (.tileEnterArray c residue) s = execTileEnterArray c residue s := rfl
theorem exec_columnFoldComplete (c : Fin 144) (s : State) : exec (.columnFoldComplete c) s = execColumnFoldComplete c s := rfl
theorem exec_tileAccumulationComplete (c : Fin 144) (s : State) : exec (.tileAccumulationComplete c) s = execTileAccumulationComplete c s := rfl

/-- The banks of a tile are ready exactly when each is FREE (03 R87). -/
theorem Core.banksReady_iff (x : Core) (r : TileRec) : x.banksReady r = true ↔ ∀ i, i < r.banks → (vget x.banks (r.b0 + i) Bank.reset).state = .free := by
  simp [Core.banksReady]

/-- The entries of a core once a tile has left its results there (03 R88). -/
def Core.accWith (x : Core) (r : TileRec) : Tbl AccEntry :=
  accPut x.acc r.b0 (packEntries r.compact (r.results x.lread (if r.active then some x.statActive else none)))

/-- Outside compact-40 the entry of an output holds its reduction (03 R88). -/
theorem Core.tget_accWith_in (x : Core) (r : TileRec) (hr : r.compact = false) (i : Nat) (h : i < r.m * r.n) :
    tget AccEntry.reset (x.accWith r) (16384 * r.b0 + i) =
      (r.reduce x.lread (if r.active then some x.statActive else none) (i / r.n) (i % r.n)).entry := by
  rw [Core.accWith, hr, tget_accPut_in _ _ _ _ (by rwa [packEntries_wide_length]), packEntries_wide_getD _ _ _ _ h]

/-- Every entry outside a tile's outputs is left. -/
theorem Core.tget_accWith_out (x : Core) (r : TileRec) (hr : r.compact = false) (i : Nat) (h : i < 16384 * r.b0 ∨ 16384 * r.b0 + r.m * r.n ≤ i) :
    tget AccEntry.reset (x.accWith r) i = tget AccEntry.reset x.acc i := by
  rw [Core.accWith, hr, tget_accPut_out _ _ _ _ (by rwa [packEntries_wide_length])]

/-- The core with a clean tile in its array, before the queue settles (03 R86 to R88). -/
def Core.streaming (x : Core) (r : TileRec) : Core :=
  let y : Core := { x.popArray with current := some r, folds := 0, acc := x.accWith r, banks := setBanks x.banks r.b0 r.banks (fun _ => r.header false) }
  if r.active then y else y.afterFolds r

/-- Beside its banks and entries a tile that enters moves the array queue and the stationary registers, and leaves everything else. -/
theorem Core.settle_streaming_frame (x : Core) (r : TileRec) : (x.streaming r).settle =
    { x with
      current := some r, folds := 0, acc := x.accWith r, banks := setBanks x.banks r.b0 r.banks (fun _ => r.header false)
      arrayQ := (x.streaming r).settle.arrayQ, bounds := (x.streaming r).settle.bounds, statActive := (x.streaming r).settle.statActive
      statLoading := (x.streaming r).settle.statLoading, loadBusy := (x.streaming r).settle.loadBusy } := by
  refine (Core.settle_frame _).trans ?_
  unfold Core.streaming
  split
  · rfl
  · unfold Core.afterFolds
    split <;> rfl

/-- A tile on the active operand with nothing behind it leaves that operand (03 R79). -/
theorem Core.settle_streaming_statActive (x : Core) (r : TileRec) (ha : r.active = true) (hq : x.arrayQ = [.tile r]) :
    (x.streaming r).settle.statActive = x.statActive := by
  have empty : (x.streaming r).arrayQ = [] := by simp [Core.streaming, ha, Core.popArray, hq]
  rw [Core.settle_nil _ empty, Core.streaming, if_pos ha]
  rfl

/-- The array takes the tile at the queue head: it is free, no assay goes first, the tile's banks are FREE and its operands clean (03 R87). -/
structure Core.TakesTile (x : Core) (r : TileRec) (q : List ArrOp) : Prop where
  queued : x.arrayQ = .tile r :: q
  arrayFree : x.current = none
  noAssay : x.assayNext = none
  banksFree : x.banksReady r = true
  linesClean : x.lPoison = []
  operandClean : r.active = true → x.statActive.poison = false

/-- A tile whose operands are clean enters a free array (03 R87). -/
theorem execTileEnterArray_enters (s : State) (c : Fin 144) (r : TileRec) (q : List ArrOp) (h : (s.core c).TakesTile r q) :
    execTileEnterArray c false s = .next (if r.active then
        (s.setCore c ((s.core c).streaming r).settle).modAssay c r.seq (fun a => { a with stat := some (s.core c).statActive })
      else s.setCore c ((s.core c).streaming r).settle) := by
  have hpoison : (r.active && (s.core c).statActive.poison) = false := by
    cases ha : r.active with
    | false => rfl
    | true => rw [h.operandClean ha]; rfl
  unfold execTileEnterArray
  simp only [h.queued, h.arrayFree, h.noAssay, h.banksFree, Core.poisonedLines_nil _ h.linesClean, hpoison, Option.isSome_none,
    Bool.not_true, Bool.or_self, Bool.false_eq_true, if_false, List.isEmpty_nil, Bool.false_and, State.each, List.foldl_nil]
  cases ha : r.active <;> simp only [Core.streaming, Core.accWith, ha, if_true, if_false, Bool.false_eq_true]

/-- What that makes of the core, but for the record of the tile's assay. -/
theorem tileEnterArray_core (s : State) (c : Fin 144) (r : TileRec) (q : List ArrOp) (h : (s.core c).TakesTile r q) :
    Runs (.tileEnterArray c false) s (fun t => ∃ l, t.core c = { ((s.core c).streaming r).settle with assays := l }) := by
  refine ⟨_, (exec_tileEnterArray c false s).trans (execTileEnterArray_enters s c r q h), ?_⟩
  dsimp only
  split
  · rw [State.core_modAssay, State.core_setCore _ _ _ c.isLt]
    exact ⟨_, rfl⟩
  · rw [State.core_setCore _ _ _ c.isLt]
    exact ⟨_, rfl⟩

/-- A tile that may not enter leaves the state (03 R87). -/
theorem execTileEnterArray_waits (s : State) (c : Fin 144) (residue : Bool) (r : TileRec) (q : List ArrOp) (hq : (s.core c).arrayQ = .tile r :: q)
    (h : (s.core c).current ≠ none ∨ (s.core c).banksReady r = false ∨ (s.core c).assayNext ≠ none) : execTileEnterArray c residue s = .next s := by
  have busy : ((s.core c).current.isSome || !(s.core c).banksReady r || (s.core c).assayNext.isSome) = true := by
    simpa [Option.isSome_iff_ne_none, or_assoc] using h
  unfold execTileEnterArray
  simp only [hq, busy, if_true]

/-- A column fold that lands in a tile which the epilogue does not drain is counted (03 R83). -/
theorem execColumnFoldComplete_counts (s : State) (c : Fin 144) (r : TileRec) (hcur : (s.core c).current = some r)
    (hdr : ((s.core c).draining.map (fun d => d.1.seq)) ≠ some r.seq) (hf : (s.core c).folds < r.folds) :
    execColumnFoldComplete c s = .next (s.setCore c { s.core c with folds := (s.core c).folds + 1 }) := by
  unfold execColumnFoldComplete
  simp only [hcur, if_neg (Nat.not_le.mpr hf), if_neg hdr]

/-- With every column fold landed, none is to come. -/
theorem execColumnFoldComplete_done (s : State) (c : Fin 144) (r : TileRec) (hcur : (s.core c).current = some r) (hf : r.folds ≤ (s.core c).folds) :
    execColumnFoldComplete c s = .next s := by
  unfold execColumnFoldComplete
  simp only [hcur, if_pos hf]

/-- The ranges of a tile's operands once it has streamed: released, unless its assay has still to read them (04 R142, 10 R350). -/
def State.rangesAfter (s : State) (c : Nat) (r : TileRec) : List RangeEntry :=
  if s.assayReads c r.seq then (s.core c).ranges else ((s.core c).freeRanges (4 * r.seq)).ranges

/-- The last update of a tile that the epilogue does not drain makes it COMPLETE (03 R86). -/
theorem execTileAccumulationComplete_completes (s : State) (c : Fin 144) (r : TileRec) (hcur : (s.core c).current = some r)
    (hdr : ((s.core c).draining.map (fun d => d.1.seq)) ≠ some r.seq) :
    execTileAccumulationComplete c s = .next (s.setCore c { s.core c with
      current := none, folds := 0, done := (s.core c).done ++ [r]
      banks := setBanks (s.core c).banks r.b0 r.banks (fun b => { b with state := .complete }), ranges := s.rangesAfter c r }) := by
  have hdr : (((s.core c).draining.map (fun d => d.1.seq)) == some r.seq) = false := by simpa using hdr
  unfold execTileAccumulationComplete State.rangesAfter
  simp only [hcur, hdr, State.modCore, Bool.false_eq_true, if_false]
  split <;> rfl

theorem rangesAfter_subset (s : State) (c : Nat) (r : TileRec) (a : RangeEntry) (h : a ∈ s.rangesAfter c r) : a ∈ (s.core c).ranges := by
  unfold State.rangesAfter at h
  split at h
  · exact h
  · exact (List.mem_filter.mp h).1

/-- A tile without an assay keeps no range of its operands. -/
theorem rangesAfter_released (s : State) (c : Nat) (r : TileRec) (hassay : s.assayOf c r.seq = none) (a : RangeEntry) (h : a ∈ s.rangesAfter c r) :
    a.holder ≠ 4 * r.seq := by
  rw [State.rangesAfter, State.assayReads, hassay, if_neg (by simp)] at h
  simpa using (List.mem_filter.mp h).2

/-- Settles O17: the frame of each of the three events, with the laws of banks and entries for what they write. -/
theorem arrayStreaming : Obligations.ArrayStreaming := by
  unfold Obligations.ArrayStreaming
  refine ⟨fun s c r q => ?_, fun s c => ?_⟩
  · intro x hq
    refine ⟨fun hcur hassay hfree hclean hstat => ?_, fun residue h => ?_⟩
    · obtain ⟨t, ht, l, hcore⟩ := tileEnterArray_core s c r q ⟨hq, hcur, hassay, (x.banksReady_iff r).mpr hfree, hclean, hstat⟩
      have frame := hcore
      rw [Core.settle_streaming_frame] at frame
      have hacc : (t.core c).acc = x.accWith r := congrArg Core.acc frame
      have hbanks : (t.core c).banks = setBanks x.banks r.b0 r.banks (fun _ => r.header false) := congrArg Core.banks frame
      refine ⟨t, ht, congrArg Core.current frame, congrArg Core.folds frame, fun i hi => ?_, fun hr i hi => ?_, fun hr i hi => ?_,
        (congrArg Core.lmem frame :), (congrArg Core.sreg frame :), (congrArg Core.pc frame :), (congrArg Core.epiQ frame :), fun ha hlast => ?_⟩
      · rw [hbanks, vget_setBanks _ _ _ _ i _ hi]
        rfl
      · rw [hacc, Core.tget_accWith_in x r hr i hi]
      · rw [hacc, Core.tget_accWith_out x r hr i hi]
      · rw [hcore, Core.settle_streaming_statActive _ r ha (hlast ▸ hq)]
    · rw [exec_tileEnterArray]
      apply execTileEnterArray_waits s c residue r q hq
      rcases h with h | h | ⟨i, hi, hbank⟩
      · exact .inl h
      · exact .inr (.inr h)
      · refine .inr (.inl (Bool.eq_false_iff.mpr fun hready => hbank ?_))
        exact (Core.banksReady_iff _ r).mp hready i hi
  · intro x
    refine ⟨fun hcur => ⟨?_, ?_⟩, fun r hcur hdr => ⟨fun hf => ?_, fun hf => ?_, ?_⟩⟩
    · rw [exec_columnFoldComplete, execColumnFoldComplete, show (s.core c).current = none from hcur]
    · rw [exec_tileAccumulationComplete, execTileAccumulationComplete, show (s.core c).current = none from hcur]
    · exact execColumnFoldComplete_counts s c r hcur hdr hf
    · exact execColumnFoldComplete_done s c r hcur hf
    · refine ⟨_, execTileAccumulationComplete_completes s c r hcur hdr, ?_⟩
      simp only [State.core_setCore _ _ _ c.isLt]
      exact ⟨rfl, fun i hi => vget_setBanks _ _ _ _ i _ hi, rangesAfter_subset s c r, rangesAfter_released s c r⟩

end Sys2Proof.Machine
end

section
/-! O15: STLD and SWAP at issue, and the load that STATIONARY_LOAD_COMPLETE ends (03 R77, R79; 04 R140). -/

namespace Sys2Proof.Machine

theorem exec_stld (c : Fin 144) (w : GenFields) (s : State) : exec (.stld c w) s = execStld c w s := rfl
theorem exec_swap (c : Fin 144) (w : GenFields) (s : State) : exec (.swap c w) s = execSwap c w s := rfl
theorem exec_stationaryLoadComplete (c : Fin 144) (s : State) : exec (.stationaryLoadComplete c) s = execStationaryLoadComplete c s := rfl

/-- A FUNC of zero passes the check of an instruction that does not use the field. -/
theorem Uses.bad_unusedFunc (u : Uses) (w : GenFields) (h : u.bad w = false) (hf : w.func = 0) : ({ u with func := false } : Uses).bad w = false := by
  simp_all [Uses.bad]

theorem codes_append (l m : List (Bool × Nat)) : codes (l ++ m) = codes l ++ codes m := by simp [codes]

/-- An effect on a fresh core that then goes on, where nothing keeps the instruction from issuing. -/
theorem State.issue_coreStep (s : State) (c : Fin 144) (w : BitVec 128) (i : Issue) (f : Core → Core) (h : s.fresh c) (hf : i.faults = [])
    (hs : i.stall = .none) : s.issue c w i (coreStep c f) = (s.fetch c).setCore c (f (s.core c).go).next := by
  rw [State.issue_fresh s c w i _ h hf hs, ← State.fetch_core s c c, coreStep_go _ _ c.isLt]

/-- An STLD behind other work of the array. -/
def Core.queueStld (x : Core) (v : View) (f : Nat) : Core :=
  ({ x with arrayQ := x.arrayQ ++ [.stld v f], tileSeq := x.tileSeq + 1, ranges := x.ranges ++ rangeEntries [v.span] false (4 * x.tileSeq + 3) } : Core).settle

/-- A SWAP behind other work of the array. -/
def Core.queueSwap (x : Core) : Core := ({ x with arrayQ := x.arrayQ ++ [.swap] } : Core).settle

/-- The view of an STLD, in the record that sA names. -/
def Core.stldView (x : Core) (w : GenFields) : View :=
  viewOf (x.lread (x.s w.a.toNat).toNat 16) (x.s w.b.toNat).toNat (x.s w.c.toNat).toNat

/-- The codes of an STLD of a view (04 R140). -/
def stldCodes (w : GenFields) (v : View) (a : Nat) (b : List Byte) : List (Bool × Nat) :=
  [(({ func := false, a := true, b := true, c := true, type := true } : Uses).bad w, 0x02), (decide (7 < w.type.toNat), 0x03),
   (decide (w.type.toNat < 8) && decide (v.fmt < 8) && (pairM w.type.toNat v.fmt).isNone, 0x16),
   (v.rows == 0 || v.cols == 0 ||
     ((pairM w.type.toNat v.fmt).isSome && (decide (pairKp w.type.toNat < v.rows) || decide (pairNp w.type.toNat < v.cols))), 0x04)] ++ viewCodes a b v

/-- One fold of a format pair in a good view has no code. -/
theorem stldCodes_nil (w : GenFields) (v : View) (a : Nat) (b : List Byte)
    (huses : ({ a := true, b := true, c := true, type := true } : Uses).bad w = false) (hfunc : w.func = 0) (htype : w.type.toNat ≤ 7)
    (hpair : (pairM w.type.toNat v.fmt).isSome = true ∨ 7 < v.fmt) (hrows : 0 < v.rows ∧ v.rows ≤ pairKp w.type.toNat)
    (hcols : 0 < v.cols ∧ v.cols ≤ pairNp w.type.toNat) (hview : codes (viewCodes a b v) = []) : codes (stldCodes w v a b) = [] := by
  obtain ⟨hk, hkp⟩ := hrows
  obtain ⟨hn, hnp⟩ := hcols
  have fields := Uses.bad_unusedFunc _ w huses hfunc
  have pair : (decide (w.type.toNat < 8) && decide (v.fmt < 8) && (pairM w.type.toNat v.fmt).isNone) = false := by
    rcases hpair with h | h
    · simp [Option.isNone_eq_false_iff.mpr h]
    · simp [show ¬ v.fmt < 8 by omega]
  rw [stldCodes, codes_append, hview, pair, fields]
  simp [codes, Nat.ne_of_gt hk, Nat.ne_of_gt hn, Nat.not_lt.mpr hkp, Nat.not_lt.mpr hnp, Nat.not_lt.mpr htype]

/-- An STLD that nothing stops enters the array queue (04 R140). -/
theorem execStld_queues (s : State) (c : Fin 144) (w : GenFields) (h : s.fresh c) (hroom : (s.core c).arrayQ.length < 4)
    (hcodes : codes (stldCodes w ((s.core c).stldView w) ((s.core c).s w.a.toNat).toNat ((s.core c).lread ((s.core c).s w.a.toNat).toNat 16)) = [])
    (hrange : (s.core c).rangeStall (rangeEntries [((s.core c).stldView w).span] false (4 * (s.core c).tileSeq + 3)) = false)
    (hread : (s.core c).conflict ((s.core c).s w.a.toNat).toNat (((s.core c).s w.a.toNat).toNat + 16) false = false) :
    execStld c w s = .next ((s.fetch c).setCore c ((s.core c).go.queueStld ((s.core c).stldView w) w.type.toNat).next) := by
  unfold execStld
  dsimp only
  rw [State.issue_coreStep s c _ _ _ h]
  · rfl
  · simp only [hread, Bool.false_eq_true, if_false]
    exact hcodes
  · rw [Core.stldView] at hrange
    simp [hroom, hrange, hread]

/-- A SWAP with room in the array queue enters it (03 R79). -/
theorem execSwap_queues (s : State) (c : Fin 144) (w : GenFields) (h : s.fresh c) (huses : ({} : Uses).bad w = false) (hfunc : w.func = 0)
    (hroom : (s.core c).arrayQ.length < 4) : execSwap c w s = .next ((s.fetch c).setCore c (s.core c).go.queueSwap.next) := by
  unfold execSwap
  rw [State.issue_coreStep s c _ _ _ h]
  · rfl
  · simp [codes, Uses.bad_unusedFunc _ w huses hfunc]
  · simp [hroom]

/-- What an STLD in the queue leaves: it only takes its place, its number and its range. -/
theorem Core.queueStld_frame (x : Core) (v : View) (f : Nat) : x.queueStld v f =
    { x with
      tileSeq := x.tileSeq + 1, ranges := x.ranges ++ rangeEntries [v.span] false (4 * x.tileSeq + 3)
      arrayQ := (x.queueStld v f).arrayQ, bounds := (x.queueStld v f).bounds, statActive := (x.queueStld v f).statActive
      statLoading := (x.queueStld v f).statLoading, loadBusy := (x.queueStld v f).loadBusy } :=
  Core.settle_frame _

theorem Core.queueStld_last (x : Core) (v : View) (f : Nat) : (x.queueStld v f).arrayQ.getLast? = some (.stld v f) :=
  Core.settle_getLast? _ _ (by simp) (by simp)

/-- Alone in the queue it starts to load (03 R77). -/
theorem Core.queueStld_loads (x : Core) (v : View) (f : Nat) (h : x.arrayQ = []) : (x.queueStld v f).loadBusy = true := by
  rw [Core.queueStld, Core.settle_stld _ v f [] (by simp [h])]

/-- Alone in the queue a SWAP exchanges the registers at once (03 R79). -/
theorem Core.queueSwap_alone (x : Core) (h : x.arrayQ = []) :
    x.queueSwap = { x with statActive := x.statLoading, statLoading := x.statActive, bounds := x.queueSwap.bounds } := by
  rw [Core.queueSwap, Core.settle_swap _ (by simp [h])]
  simp [Core.popArray, h]

/-- Behind a tile a SWAP waits (03 R79). -/
theorem Core.queueSwap_behind (x : Core) (r : TileRec) (q : List ArrOp) (h : x.arrayQ = .tile r :: q) :
    x.queueSwap = { x with arrayQ := x.arrayQ ++ [.swap] } :=
  Core.settle_tile _ r (q ++ [.swap]) (by simp [h])

/-- The fold of an STLD at the head of the queue as the loader leaves it in the loading registers (03 R77). -/
def Core.loaded (x : Core) (v : View) (f : Nat) : Core :=
  { x.popArray with
    loadBusy := false
    statLoading := { fmtA := f, fmtB := v.fmt, k := v.rows, n := v.cols, elems := loadFold x.lread v 0 v.rows 0 v.cols, poison := false }
    ranges := x.ranges.eraseP (fun (r : RangeEntry) => r.lo == v.span.1 && r.hi == v.span.2 && r.holder % 4 == 3) }

/-- A load of clean lines before a tile ends (03 R77). -/
theorem execStationaryLoadComplete_loads (s : State) (c : Fin 144) (v : View) (f : Nat) (r : TileRec) (q : List ArrOp)
    (hq : (s.core c).arrayQ = .stld v f :: .tile r :: q) (hload : (s.core c).loadBusy = true) (hclean : (s.core c).lPoison = []) :
    execStationaryLoadComplete c s = .next (s.setCore c ((s.core c).loaded v f)) := by
  have behind : ((s.core c).loaded v f).settle = (s.core c).loaded v f := by
    apply Core.settle_tile _ r q
    simp [Core.loaded, Core.popArray, hq]
  rw [← behind]
  unfold execStationaryLoadComplete
  simp only [hq, hload, Core.poisonedLines_nil _ hclean, Bool.not_true, Bool.false_eq_true, if_false, State.each, List.foldl_nil]
  rfl

/-- Settles O15: each of the three as its core is left by `Core.queueStld`, `Core.queueSwap` and `Core.loaded`. -/
theorem stationaryOperands : Obligations.StationaryOperands := by
  unfold Obligations.StationaryOperands
  intro s c x
  refine ⟨fun w hfresh => ?_, fun w hfresh huses hfunc => ⟨fun hq => ?_, fun r q hq hlen => ?_⟩, fun v f r q hq hload hclean => ?_⟩
  · intro a v huses hfunc htype hpair hk hkp hn hnp hview hroom hrange hread
    have hcodes := stldCodes_nil w v a (x.lread a 16) huses hfunc htype hpair ⟨hk, hkp⟩ ⟨hn, hnp⟩ hview
    refine ⟨_, (exec_stld c w s).trans (execStld_queues s c w hfresh hroom hcodes hrange hread), ?_⟩
    have frame := Core.queueStld_frame x.go v w.type.toNat
    simp only [State.core_setCore _ _ _ c.isLt]
    refine ⟨Core.queueStld_last _ _ _, (congrArg Core.tileSeq frame :), congrArg (fun y => y.pc + 16) frame, fun hq => Core.queueStld_loads x.go v _ hq,
      (congrArg Core.ranges frame :), (congrArg Core.banks frame :), (congrArg Core.sreg frame :), (congrArg Core.lmem frame :), fun k hk => ?_⟩
    rw [State.core_setCore_ne _ _ _ _ hk, State.fetch_core]
  · refine ⟨_, (exec_swap c w s).trans (execSwap_queues s c w hfresh huses hfunc (by simp [show (s.core c).arrayQ = [] from hq])), ?_⟩
    simp only [State.core_setCore _ _ _ c.isLt]
    exact congrArg (fun y => (s.fetch c).setCore c (Core.next y)) (Core.queueSwap_alone x.go hq)
  · have hroom : (s.core c).arrayQ.length < 4 := by
      rw [show (s.core c).arrayQ = .tile r :: q from hq, List.length_cons]
      omega
    rw [exec_swap, execSwap_queues s c w hfresh huses hfunc hroom, Core.queueSwap_behind (s.core c).go r q hq]
    rfl
  · refine ⟨_, (exec_stationaryLoadComplete c s).trans (execStationaryLoadComplete_loads s c v f r q hq hload hclean), ?_⟩
    simp only [State.core_setCore _ _ _ c.isLt]
    exact ⟨rfl, rfl, rfl, congrArg (List.drop 1) hq, rfl, rfl, fun k hk => State.core_setCore_ne _ _ _ _ hk⟩

end Sys2Proof.Machine
end

section
/-! SUPPORT. Laws of what the epilogue writes (03 R94): the bytes of its pieces, the table of them that goes to local memory, and what a drain leaves
of the core. -/

namespace Sys2Proof.Machine

/-! ## Pieces -/

/-- The pieces leave the byte at an address alone. -/
def Spares (l : List (Nat × List Byte)) (a : Nat) : Prop := ∀ p ∈ l, a < p.1 ∨ p.1 + p.2.length ≤ a

theorem spares_append (l m : List (Nat × List Byte)) (a : Nat) : Spares (l ++ m) a ↔ Spares l a ∧ Spares m a := by
  simp only [Spares, List.mem_append, or_imp, forall_and]

/-- The keys of a table of pieces are addresses that they cover. -/
theorem mem_pieceBytes (l : List (Nat × List Byte)) (t : Tbl Byte) (a : Nat) (hl : Spares l a) (ht : ∀ e ∈ t, e.1 ≠ a) : ∀ e ∈ pieceBytes t l, e.1 ≠ a := by
  unfold pieceBytes
  refine List.foldlRecOn (motive := fun (t : Tbl Byte) => ∀ e ∈ t, e.1 ≠ a) l _ ht fun t ht p hp => ?_
  refine List.foldlRecOn (motive := fun (t : Tbl Byte) => ∀ e ∈ t, e.1 ≠ a) p.2.zipIdx _ ht fun t ht b hb e he => ?_
  rcases mem_tins _ _ _ _ he with rfl | he
  · have := List.snd_lt_of_mem_zipIdx hb
    have := hl p hp
    simp only
    omega
  · exact ht e he

theorem rising_pieceBytes (l : List (Nat × List Byte)) (t : Tbl Byte) (ht : Rising t) : Rising (pieceBytes t l) := by
  unfold pieceBytes
  refine List.foldlRecOn l _ ht fun t ht p hp => ?_
  exact List.foldlRecOn p.2.zipIdx _ ht fun t ht b hb => rising_tins _ _ _ ht

/-! ## Writes of a table of bytes -/

/-- A write of bytes changes the bytes and the poison of their lines. -/
theorem Core.lwrite_frame (x : Core) (a : Nat) (b : List Byte) (p : Bool) :
    x.lwrite a b p = { x with lmem := msetN zeroByte x.lmem a b, lPoison := (x.lwrite a b p).lPoison } := by
  unfold Core.lwrite
  dsimp only
  split
  · next h =>
    rw [List.length_eq_zero_iff.mp h]
    rfl
  · rfl

theorem Core.lwrite_lmem (x : Core) (a : Nat) (b : List Byte) (p : Bool) : (x.lwrite a b p).lmem = msetN zeroByte x.lmem a b :=
  (congrArg Core.lmem (x.lwrite_frame a b p) :)

/-- As many rising keys as a range has numbers are all of them. -/
theorem mem_keys_of_full {α : Type} (t : Tbl α) (lo n a : Nat) (ht : Rising t) (hin : ∀ e ∈ t, lo ≤ e.1 ∧ e.1 < lo + n) (hlen : t.length = n)
    (ha : lo ≤ a ∧ a < lo + n) : ∃ e ∈ t, e.1 = a := by
  have nodup : (t.map (·.1)).Nodup := List.pairwise_map.mpr (ht.imp fun h => Nat.ne_of_lt h)
  have sub : (t.map (·.1)).toFinset ⊆ Finset.Ico lo (lo + n) := by
    intro k hk
    obtain ⟨e, he, rfl⟩ := List.mem_map.mp (List.mem_toFinset.mp hk)
    exact Finset.mem_Ico.mpr (hin e he)
  have all : (t.map (·.1)).toFinset = Finset.Ico lo (lo + n) := by
    apply Finset.eq_of_subset_of_card_le sub
    rw [List.toFinset_card_of_nodup nodup, List.length_map, hlen, Nat.card_Ico]
    omega
  have : a ∈ (t.map (·.1)).toFinset := all ▸ Finset.mem_Ico.mpr ha
  simpa using this

/-- The lines of a table that are written: whole ones at once, others byte by byte (03 R94 stage 8). -/
def Core.writeLine (t : Tbl Byte) (poison : Bool) (x : Core) (l : Nat) : Core :=
  let bs := t.filter (fun b => b.1 / 64 == l)
  if bs.length = 64 then x.lwrite (64 * l) (bs.map (·.2)) poison
  else bs.foldl (fun x b => x.lwrite b.1 [b.2] poison) x

theorem Core.writeTable_eq (x : Core) (t : Tbl Byte) (poison : Bool) : x.writeTable t poison = (touchedLines t).foldl (Core.writeLine t poison) x := rfl

/-- The core differs from another at most in local memory and its poison. -/
def Core.SameButLocal (x y : Core) : Prop := y = { x with lmem := y.lmem, lPoison := y.lPoison }

theorem Core.writeLine_spares (t : Tbl Byte) (poison : Bool) (x : Core) (l a : Nat) (ht : Rising t) (ha : ∀ e ∈ t, e.1 ≠ a) :
    mget zeroByte (Core.writeLine t poison x l).lmem a = mget zeroByte x.lmem a := by
  have line : ∀ e ∈ t.filter (fun b => b.1 / 64 == l), e ∈ t ∧ 64 * l ≤ e.1 ∧ e.1 < 64 * l + 64 := by
    intro e he
    obtain ⟨hmem, hl⟩ := List.mem_filter.mp he
    have : e.1 / 64 = l := by simpa using hl
    exact ⟨hmem, by omega, by omega⟩
  unfold Core.writeLine
  dsimp only
  split
  · next full =>
    rw [Core.lwrite_lmem, mget_msetN_out]
    by_contra hin
    obtain ⟨e, he, rfl⟩ := mem_keys_of_full _ (64 * l) 64 a (ht.filter _) (fun e he => (line e he).2) full (by simp [full] at hin; omega)
    exact ha e (line e he).1 rfl
  · refine List.foldlRecOn (motive := fun (y : Core) => mget zeroByte y.lmem a = mget zeroByte x.lmem a) _ _ rfl fun y hy b hb => ?_
    have := ha b (line b hb).1
    rw [Core.lwrite_lmem, mget_msetN_out _ _ _ _ _ (by simp only [List.length_singleton]; omega), hy]

/-- A table of bytes written to local memory leaves every byte that it does not list. -/
theorem Core.mget_writeTable_out (x : Core) (t : Tbl Byte) (poison : Bool) (a : Nat) (ht : Rising t) (ha : ∀ e ∈ t, e.1 ≠ a) :
    mget zeroByte (x.writeTable t poison).lmem a = mget zeroByte x.lmem a := by
  rw [Core.writeTable_eq]
  exact List.foldlRecOn (motive := fun (y : Core) => mget zeroByte y.lmem a = mget zeroByte x.lmem a) _ _ rfl
    fun y hy l _ => (Core.writeLine_spares t poison y l a ht ha).trans hy

theorem Core.SameButLocal.refl (x : Core) : x.SameButLocal x := rfl

theorem Core.SameButLocal.lwrite {x y : Core} (h : x.SameButLocal y) (a : Nat) (b : List Byte) (p : Bool) : x.SameButLocal (y.lwrite a b p) := by
  unfold Core.SameButLocal at h ⊢
  rw [Core.lwrite_frame]
  rw [h]

/-- It leaves everything else of the core but the poison of lines. -/
theorem Core.writeTable_sameButLocal (x : Core) (t : Tbl Byte) (poison : Bool) : x.SameButLocal (x.writeTable t poison) := by
  rw [Core.writeTable_eq]
  refine List.foldlRecOn _ _ (Core.SameButLocal.refl x) fun y hy l _ => ?_
  unfold Core.writeLine
  dsimp only
  split
  · exact hy.lwrite _ _ _
  · exact List.foldlRecOn _ _ hy fun z hz b _ => hz.lwrite _ _ _

/-! ## Reports leave the cores -/

@[simp] theorem State.reason_cores (s : State) (q code : Nat) : (s.reason q code).cores = s.cores := by
  unfold State.reason
  split <;> rfl

@[simp] theorem State.infReport_cores (s : State) (q job : Nat) (inf : Bool) : (s.infReport q job inf).cores = s.cores := by
  unfold State.infReport
  split
  · exact s.reason_cores q 3
  · rfl

@[simp] theorem State.blockOverflow_cores (s : State) (q job n : Nat) : (s.blockOverflow q job n).cores = s.cores := by
  unfold State.blockOverflow
  split
  · rfl
  · dsimp only
    split
    · exact State.reason_cores _ q 3
    · rfl

/-- What an epilogue reports of a core is in its ASYNC register (03 R91). -/
theorem State.epiReport_core_ne (s : State) (c k : Nat) (t : TileRec) (o : EpiOut) (h : k ≠ c) : (s.epiReport c t o).core k = s.core k := by
  unfold State.epiReport
  simp only [State.core, State.infReport_cores, State.blockOverflow_cores]
  split
  · exact State.core_modCore_ne _ _ _ _ h
  · rfl

theorem State.epiReport_core (s : State) (c : Fin 144) (t : TileRec) (o : EpiOut) :
    (s.epiReport c t o).core c = { s.core c with async := if o.async then (s.core c).async ||| 1 else (s.core c).async } := by
  unfold State.epiReport
  simp only [State.core, State.infReport_cores, State.blockOverflow_cores]
  split
  · exact State.core_modCore _ _ _ c.isLt
  · rfl

/-! ## Column folds that drain -/

/-- What the epilogue produces for `n` column folds from fold `f0` on (03 R97). -/
def EpiIn.folds (i : EpiIn) (f0 n : Nat) : EpiOut := (List.range n).foldl (fun o j => o.join (i.fold (f0 + j))) EpiOut.none

/-- The core differs from another at most in what a drain changes: local memory, entries, the bytes drained, ASYNC. -/
def Core.SameButDrain (x y : Core) : Prop :=
  y = { x with lmem := y.lmem, lPoison := y.lPoison, acc := y.acc, drainOut := y.drainOut, async := y.async }

theorem Core.SameButDrain.draining {x y : Core} (h : x.SameButDrain y) : y.draining = x.draining := (congrArg Core.draining h :)
theorem Core.SameButDrain.epiQ {x y : Core} (h : x.SameButDrain y) : y.epiQ = x.epiQ := (congrArg Core.epiQ h :)
theorem Core.SameButDrain.done {x y : Core} (h : x.SameButDrain y) : y.done = x.done := (congrArg Core.done h :)
theorem Core.SameButDrain.banks {x y : Core} (h : x.SameButDrain y) : y.banks = x.banks := (congrArg Core.banks h :)
theorem Core.SameButDrain.sreg {x y : Core} (h : x.SameButDrain y) : y.sreg = x.sreg := (congrArg Core.sreg h :)
theorem Core.SameButDrain.vreg {x y : Core} (h : x.SameButDrain y) : y.vreg = x.vreg := (congrArg Core.vreg h :)
theorem Core.SameButDrain.pc {x y : Core} (h : x.SameButDrain y) : y.pc = x.pc := (congrArg Core.pc h :)
theorem Core.SameButDrain.arrayQ {x y : Core} (h : x.SameButDrain y) : y.arrayQ = x.arrayQ := (congrArg Core.arrayQ h :)
theorem Core.SameButDrain.current {x y : Core} (h : x.SameButDrain y) : y.current = x.current := (congrArg Core.current h :)

/-- The core once what the epilogue has produced is written (03 R94). -/
def Core.drained (x : Core) (t : TileRec) (f1 : Nat) (o : EpiOut) (poison : Bool) : Core :=
  let y := (x.writeTable (pieceBytes [] o.dst) poison).writeTable (pieceBytes [] o.carry) poison
  { y with acc := y.acc.filter (fun a => !t.drainedEntry f1 a.1), drainOut := pieceBytes y.drainOut o.dst }

theorem Core.drained_frame (x : Core) (t : TileRec) (f1 : Nat) (o : EpiOut) (poison : Bool) : x.SameButDrain (x.drained t f1 o poison) := by
  have first := x.writeTable_sameButLocal (pieceBytes [] o.dst) poison
  have second := (x.writeTable (pieceBytes [] o.dst) poison).writeTable_sameButLocal (pieceBytes [] o.carry) poison
  unfold Core.SameButLocal at first second
  unfold Core.SameButDrain Core.drained
  dsimp only
  rw [second, first]

/-- A drain writes no byte that its pieces spare. -/
theorem Core.drained_spares (x : Core) (t : TileRec) (f1 : Nat) (o : EpiOut) (poison : Bool) (a : Nat) (h : Spares (o.dst ++ o.carry) a) :
    mget zeroByte (x.drained t f1 o poison).lmem a = mget zeroByte x.lmem a := by
  obtain ⟨hdst, hcarry⟩ := (spares_append _ _ _).mp h
  have table : ∀ (x : Core) l, Spares l a → mget zeroByte (x.writeTable (pieceBytes [] l) poison).lmem a = mget zeroByte x.lmem a := fun x l hl =>
    x.mget_writeTable_out _ poison a (rising_pieceBytes l [] List.Pairwise.nil) (mem_pieceBytes l [] a hl (by simp))
  exact (table _ _ hcarry).trans (table _ _ hdst)

/-- A drain for ACCFREE returns entries and writes nothing (04 R141). -/
theorem State.drainFolds_accfree (s : State) (c f0 f1 : Nat) (t : TileRec) (h : (s.core c).draining = some (t, none)) :
    s.drainFolds c f0 f1 = s.modCore c (fun x => { x with acc := x.acc.filter (fun a => !t.drainedEntry f1 a.1) }) := by
  unfold State.drainFolds
  rw [h]

/-- A drain with a block writes what its stages produce and reports (03 R94); without a poisoned line it consumes none. -/
theorem State.drainFolds_block (s : State) (c f0 f1 : Nat) (t : TileRec) (e : EpiRec) (h : (s.core c).draining = some (t, some e))
    (hclean : (s.core c).lPoison = []) :
    s.drainFolds c f0 f1 = (s.setCore c ((s.core c).drained t f1 ((s.epiIn c t e).folds f0 (f1 - f0)) (vget (s.core c).banks t.b0 Bank.reset).poison)).epiReport c t
      ((s.epiIn c t e).folds f0 (f1 - f0)) := by
  unfold State.drainFolds
  rw [h]
  simp only [Core.poisonedLines_nil _ hclean, List.isEmpty_nil, Bool.not_true, Bool.or_false, if_true, List.append_nil, State.each, List.foldl_nil]
  rfl

end Sys2Proof.Machine
end

section
/-! SUPPORT. What the end of an assay leaves of every core (10 R350, R352): its banks, entries and ranges go, and nothing else changes. -/

namespace Sys2Proof.Machine

/-- The core differs from another at most in the assays it holds, with their banks and entries, and in its ranges. -/
def Core.SameButAssays (x y : Core) : Prop := y = { x with assays := y.assays, banks := y.banks, acc := y.acc, ranges := y.ranges }

/-- The core differs from another at most in its ranges. -/
def Core.SameButRanges (x y : Core) : Prop := y = { x with ranges := y.ranges }

theorem Core.SameButAssays.refl (x : Core) : x.SameButAssays x := rfl

theorem Core.SameButAssays.trans {x y z : Core} (h : x.SameButAssays y) (h' : y.SameButAssays z) : x.SameButAssays z := by
  unfold Core.SameButAssays at *
  rw [h', h]

theorem Core.SameButRanges.refl (x : Core) : x.SameButRanges x := rfl

theorem Core.SameButRanges.trans {x y z : Core} (h : x.SameButRanges y) (h' : y.SameButRanges z) : x.SameButRanges z := by
  unfold Core.SameButRanges at *
  rw [h', h]

theorem Core.SameButRanges.sameButAssays {x y : Core} (h : x.SameButRanges y) : x.SameButAssays y := by
  unfold Core.SameButRanges Core.SameButAssays at *
  rw [h]

theorem Core.SameButRanges.assays {x y : Core} (h : x.SameButRanges y) : y.assays = x.assays := (congrArg Core.assays h :)

/-! ## One assay ends -/

@[simp] theorem State.lateReason_cores (s : State) (q code : Nat) : (s.lateReason q code).cores = s.cores := by
  unfold State.lateReason
  split <;> rfl

@[simp] theorem State.assayMismatch_cores (s : State) (c origin : Nat) (t : TileRec) : (s.assayMismatch c origin t).cores = s.cores := by
  unfold State.assayMismatch
  dsimp only
  split
  · rfl
  · split
    · exact State.reason_cores _ _ 2
    · exact State.lateReason_cores _ _ 2

/-- After its record has gone, an assay that ends releases ranges of its original core alone. -/
theorem State.dropAssay_releases (s : State) (c : Nat) (a : AssayRec) (k : Nat) :
    ((s.modCore c (fun x => x.dropAssays (fun r => r.origin == a.origin && r.tile.seq == a.tile.seq))).core k).SameButRanges ((s.dropAssay c a).core k) := by
  have release : ∀ (s : State) (holder : Nat), (s.core k).SameButRanges ((s.modCore a.origin (fun o => o.freeRanges holder)).core k) :=
    fun s holder => State.core_modCore_rel Core.SameButRanges.refl s a.origin (fun o => o.freeRanges holder) (by unfold Core.SameButRanges; rfl) k
  have operands : ∀ (s : State) (live : Bool),
      (s.core k).SameButRanges ((if live then s else s.modCore a.origin (fun o => o.freeRanges (4 * a.tile.seq))).core k) := by
    intro s live
    cases live
    · exact release s _
    · exact .refl _
  unfold State.dropAssay
  by_cases hdrained : a.originDigest.isSome = true
  · simp only [if_pos hdrained]
    exact (operands _ _).trans (release _ _)
  · simp only [if_neg hdrained]
    exact operands _ _

theorem State.dropAssay_core (s : State) (c : Nat) (a : AssayRec) (k : Nat) : (s.core k).SameButAssays ((s.dropAssay c a).core k) := by
  have record := State.core_modCore_rel Core.SameButAssays.refl s c
    (fun x => x.dropAssays (fun r => r.origin == a.origin && r.tile.seq == a.tile.seq)) (by unfold Core.SameButAssays; rfl) k
  exact record.trans (s.dropAssay_releases c a k).sameButAssays

theorem State.dropAssay_core_ne (s : State) (c : Nat) (a : AssayRec) (k : Nat) (h : k ≠ c) : (s.core k).SameButRanges ((s.dropAssay c a).core k) := by
  have releases := s.dropAssay_releases c a k
  rwa [State.core_modCore_ne _ _ _ _ h] at releases

/-- An assay that is judged ends; a mismatch is reported and leaves the cores (10 R352). -/
theorem State.assayJudge_core (s : State) (c : Nat) (a : AssayRec) (own origin : Word) (k : Nat) :
    (s.assayJudge c a own origin).core k = (s.dropAssay c a).core k := by
  unfold State.assayJudge
  dsimp only
  split
  · rfl
  · rw [State.core, State.assayMismatch_cores, State.core]

/-! ## Both digests of a tile are there -/

theorem State.assayMeets_core (s : State) (c seq : Nat) (d : Word) (k : Nat) : (s.core k).SameButAssays ((s.assayMeets c seq d).core k) := by
  unfold State.assayMeets
  refine State.each_invariant (P := fun t => (s.core k).SameButAssays (t.core k)) s _ _ (.refl _) fun t ht i _ => ?_
  split
  · split
    · rw [State.assayJudge_core]
      exact ht.trans (t.dropAssay_core i _ k)
    · exact ht
  · exact ht

/-- A core that holds no assay of the tile has only ranges of its own released. -/
theorem State.assayMeets_core_other (s : State) (c seq : Nat) (d : Word) (k : Nat) (h : ∀ a ∈ (s.core k).assays, ¬(a.origin = c ∧ a.tile.seq = seq)) :
    (s.core k).SameButRanges ((s.assayMeets c seq d).core k) := by
  unfold State.assayMeets
  refine State.each_invariant (P := fun t => (s.core k).SameButRanges (t.core k)) s _ _ (.refl _) fun t ht i _ => ?_
  split
  · next a found =>
    have elsewhere : k ≠ i := by
      rintro rfl
      refine h a (ht.assays ▸ List.mem_of_find?_eq_some found) ?_
      simpa using List.find?_some found
    split
    · rw [State.assayJudge_core]
      exact ht.trans (t.dropAssay_core_ne i a k elsewhere)
    · exact ht
  · exact ht

end Sys2Proof.Machine
end

section
/-! O18: the order in which the epilogue serves tiles, what a drain leaves of the core, and the return of entries and banks (03 R90, R94, R97). -/

namespace Sys2Proof.Machine

theorem exec_epilogueDrainStart (c : Fin 144) (s : State) : exec (.epilogueDrainStart c) s = execEpilogueDrainStart c s := rfl
theorem exec_epilogueDrainComplete (c : Fin 144) (s : State) : exec (.epilogueDrainComplete c) s = execEpilogueDrainComplete c s := rfl

/-! ## Which tile is served -/

/-- The first claimed tile in order of completion is served, with every column fold (03 R97). -/
theorem Core.nextDrain_done (x : Core) (r : TileRec) (e : EpiOp)
    (h : x.done.findSome? (fun u => (x.epiQ.find? (fun (o : EpiOp) => o.seq == u.seq)).map (fun o => (u, o))) = some (r, e)) :
    x.nextDrain = some (r, e, r.folds) := by
  have first : x.done.findSome? (fun t => (x.epiQ.find? (fun (o : EpiOp) => o.seq == t.seq)).map (fun o => (t, o, t.folds))) = some (r, e, r.folds) := by
    have mapped := congrArg (Option.map (fun p : TileRec × EpiOp => (p.1, p.2, p.1.folds))) h
    rw [List.map_findSome?] at mapped
    simpa [Function.comp_def] using mapped
  simp only [Core.nextDrain, first]

/-- With no tile COMPLETE, the claimed tile that streams is served with the column folds that have landed (03 R97). -/
theorem Core.nextDrain_current (x : Core) (r : TileRec) (e : EpiOp) (hdone : x.done = []) (hcur : x.current = some r) (hf : x.folds ≠ 0)
    (h : x.epiQ.find? (fun (o : EpiOp) => o.seq == r.seq) = some e) : x.nextDrain = some (r, e, x.folds) := by
  simp [Core.nextDrain, hdone, hcur, hf, h]

/-! ## The start of a drain -/

/-- The core whose epilogue takes up a claimed tile. -/
def Core.startDrain (x : Core) (r : TileRec) (e : EpiOp) : Core :=
  { x with
    draining := some (r, e.block), drainOut := [], epiQ := x.epiQ.filter (fun (o : EpiOp) => o.seq != r.seq)
    done := x.done.filter (fun (o : TileRec) => o.seq != r.seq), banks := setBanks x.banks r.b0 r.banks (fun b => { b with state := .draining }) }

/-- A drain starts with the column folds that have landed (03 R97). -/
theorem execEpilogueDrainStart_serves (s : State) (c : Fin 144) (r : TileRec) (e : EpiOp) (f : Nat) (hdr : (s.core c).draining = none)
    (hassay : (s.core c).nextAssay = none) (hnext : (s.core c).nextDrain = some (r, e, f)) :
    execEpilogueDrainStart c s = .next ((s.setCore c ((s.core c).startDrain r e)).drainFolds c 0 f) := by
  unfold execEpilogueDrainStart
  simp only [hdr, hassay, hnext, Option.isSome_none, Bool.or_self, Bool.false_eq_true, if_false]
  rfl

/-- With a drain in progress, an assay that goes first or nothing to serve, none starts (log 6). -/
theorem execEpilogueDrainStart_idle (s : State) (c : Fin 144)
    (h : (s.core c).draining ≠ none ∨ (s.core c).nextAssay ≠ none ∨ (s.core c).nextDrain = none) : execEpilogueDrainStart c s = .next s := by
  unfold execEpilogueDrainStart
  rcases h with hdr | hassay | hnext
  · simp [Option.isSome_iff_ne_none.mpr hdr]
  · simp [Option.isSome_iff_ne_none.mpr hassay]
  · simp only [hnext]
    split <;> rfl

/-- A drain of clean lines leaves everything of its core but what a drain changes. -/
theorem State.drainFolds_frame (s : State) (c : Fin 144) (f0 f1 : Nat) (t : TileRec) (b : Option EpiRec) (h : (s.core c).draining = some (t, b))
    (hclean : (s.core c).lPoison = []) : (s.core c).SameButDrain ((s.drainFolds c f0 f1).core c) := by
  cases b with
  | none =>
    rw [State.drainFolds_accfree s c f0 f1 t h, State.core_modCore _ _ _ c.isLt]
    unfold Core.SameButDrain
    rfl
  | some e =>
    have written := (s.core c).drained_frame t f1 ((s.epiIn c t e).folds f0 (f1 - f0)) (vget (s.core c).banks t.b0 Bank.reset).poison
    rw [State.drainFolds_block s c f0 f1 t e h hclean, State.epiReport_core, State.core_setCore _ _ _ c.isLt]
    unfold Core.SameButDrain at written ⊢
    rw [written]

/-- It leaves every other core. -/
theorem State.drainFolds_core_ne (s : State) (c : Fin 144) (f0 f1 : Nat) (t : TileRec) (b : Option EpiRec) (h : (s.core c).draining = some (t, b))
    (hclean : (s.core c).lPoison = []) (k : Nat) (hk : k ≠ c.val) : (s.drainFolds c f0 f1).core k = s.core k := by
  cases b with
  | none => rw [State.drainFolds_accfree s c f0 f1 t h, State.core_modCore_ne _ _ _ _ hk]
  | some e => rw [State.drainFolds_block s c f0 f1 t e h hclean, State.epiReport_core_ne _ _ _ _ _ hk, State.core_setCore_ne _ _ _ _ hk]

/-- A drain for ACCFREE leaves local memory (04 R141). -/
theorem State.drainFolds_lmem_accfree (s : State) (c : Fin 144) (f0 f1 : Nat) (t : TileRec) (h : (s.core c).draining = some (t, none)) :
    ((s.drainFolds c f0 f1).core c).lmem = (s.core c).lmem := by
  rw [State.drainFolds_accfree s c f0 f1 t h, State.core_modCore _ _ _ c.isLt]

/-- A drain with a block leaves every byte that its stages do not produce (03 R94). -/
theorem State.drainFolds_spares (s : State) (c : Fin 144) (f0 f1 : Nat) (t : TileRec) (e : EpiRec) (h : (s.core c).draining = some (t, some e))
    (hclean : (s.core c).lPoison = []) (a : Nat)
    (ha : Spares (((s.epiIn c t e).folds f0 (f1 - f0)).dst ++ ((s.epiIn c t e).folds f0 (f1 - f0)).carry) a) :
    mget zeroByte ((s.drainFolds c f0 f1).core c).lmem a = mget zeroByte (s.core c).lmem a := by
  rw [State.drainFolds_block s c f0 f1 t e h hclean, State.epiReport_core, State.core_setCore _ _ _ c.isLt]
  exact Core.drained_spares (s.core c) t f1 _ _ a ha

/-- What the start of a drain makes of the cores: its own writes only what the stages produce. -/
theorem epilogueDrainStart_core (s : State) (c : Fin 144) (r : TileRec) (e : EpiOp) (f : Nat) (hdr : (s.core c).draining = none)
    (hassay : (s.core c).nextAssay = none) (hnext : (s.core c).nextDrain = some (r, e, f)) (hclean : (s.core c).lPoison = []) :
    Runs (.epilogueDrainStart c) s (fun t =>
      ((s.core c).startDrain r e).SameButDrain (t.core c) ∧ (e.block = none → (t.core c).lmem = (s.core c).lmem) ∧
      (∀ b, e.block = some b → ∀ a,
        let o := ((s.setCore c ((s.core c).startDrain r e)).epiIn c r b).folds 0 f
        Spares (o.dst ++ o.carry) a → mget zeroByte (t.core c).lmem a = mget zeroByte (s.core c).lmem a) ∧
      (∀ k, k ≠ c.val → t.core k = s.core k)) := by
  have started : (s.setCore c ((s.core c).startDrain r e)).core c = (s.core c).startDrain r e := State.core_setCore _ _ _ c.isLt
  have draining : ((s.setCore c ((s.core c).startDrain r e)).core c).draining = some (r, e.block) := congrArg Core.draining started
  have lmem : ((s.setCore c ((s.core c).startDrain r e)).core c).lmem = (s.core c).lmem := (congrArg Core.lmem started :)
  have clean : ((s.setCore c ((s.core c).startDrain r e)).core c).lPoison = [] := (congrArg Core.lPoison started :).trans hclean
  have frame := State.drainFolds_frame _ c 0 f r e.block draining clean
  rw [started] at frame
  refine ⟨_, execEpilogueDrainStart_serves s c r e f hdr hassay hnext, frame, fun hnone => ?_, fun b hb a ha => ?_, fun k hk => ?_⟩
  · rw [State.drainFolds_lmem_accfree _ c 0 f r (hnone ▸ draining), lmem]
  · rw [State.drainFolds_spares _ c 0 f r b (hb ▸ draining) clean a ha, lmem]
  · rw [State.drainFolds_core_ne _ c 0 f r e.block draining clean k hk, State.core_setCore_ne _ _ _ _ hk]

/-! ## The end of a drain -/

/-- The core once a drain has ended: the banks FREE, their entries in the reset state, the ranges released but those that an assay has still
to read (03 R90, 04 R142, 10 R350). -/
def Core.endDrain (x : Core) (r : TileRec) (keep : Bool) : Core :=
  let y : Core := { x with draining := none, drainOut := [], banks := setBanks x.banks r.b0 r.banks (fun _ => Bank.reset), acc := accClear x.acc r.b0 r.banks }
  let y := y.freeRanges (4 * r.seq + 2)
  if keep then y else y.freeRanges (4 * r.seq + 1)

theorem Core.endDrain_frame (x : Core) (r : TileRec) (keep : Bool) : x.endDrain r keep =
    { x with
      draining := none, drainOut := [], banks := setBanks x.banks r.b0 r.banks (fun _ => Bank.reset), acc := accClear x.acc r.b0 r.banks
      ranges := (x.endDrain r keep).ranges } := by
  cases keep <;> rfl

/-- The digest of what a drain in progress has written of a tile (10 R352). -/
def Core.drainDigest (x : Core) (c : Nat) (r : TileRec) : Word := outputDigest c x.drainOut (vget x.banks r.b0 Bank.reset).poison

/-- A drain of a tile that no longer streams ends; an assay of the tile gets its digest (03 R90, 10 R352). -/
theorem execEpilogueDrainComplete_frees (s : State) (c : Fin 144) (r : TileRec) (b : Option EpiRec) (hdr : (s.core c).draining = some (r, b))
    (hcur : ((s.core c).current.map (fun u => u.seq)) ≠ some r.seq) :
    execEpilogueDrainComplete c s = .next (if (s.assayOf c r.seq).isSome then
        ((s.setCore c ((s.core c).endDrain r (s.assayReads c r.seq))).modAssay c r.seq
          (fun a => { a with originDigest := some ((s.core c).drainDigest c r) })).assayMeets c r.seq ((s.core c).drainDigest c r)
      else s.setCore c ((s.core c).endDrain r (s.assayReads c r.seq))) := by
  unfold execEpilogueDrainComplete
  simp only [hdr, if_neg hcur]
  rfl

/-- A drain that ends changes its core as `Core.endDrain` says, but for an assay that ends with it. -/
theorem epilogueDrainComplete_core (s : State) (c : Fin 144) (r : TileRec) (b : Option EpiRec) (hdr : (s.core c).draining = some (r, b))
    (hcur : ((s.core c).current.map (fun u => u.seq)) ≠ some r.seq) :
    Runs (.epilogueDrainComplete c) s (fun t =>
      ((s.core c).endDrain r (s.assayReads c r.seq)).SameButAssays (t.core c) ∧
      ((∀ a ∈ (s.core c).assays, ¬(a.origin = c.val ∧ a.tile.seq = r.seq)) →
        ((s.core c).endDrain r (s.assayReads c r.seq)).SameButRanges (t.core c))) := by
  have own : ((s.core c).endDrain r (s.assayReads c r.seq)).assays = (s.core c).assays := (congrArg Core.assays (Core.endDrain_frame _ _ _) :)
  refine ⟨_, execEpilogueDrainComplete_frees s c r b hdr hcur, ?_⟩
  generalize (s.core c).endDrain r (s.assayReads c r.seq) = y at own ⊢
  generalize (s.core c).drainDigest c r = d
  split
  · have record := State.core_modAssay (s.setCore c y) c r.seq (fun a => { a with originDigest := some d }) c
    rw [State.core_setCore _ _ _ c.isLt] at record
    refine ⟨Core.SameButAssays.trans ?_ (State.assayMeets_core _ c r.seq d c), fun other => ?_⟩
    · rw [record]
      unfold Core.SameButAssays
      rfl
    · rw [← own] at other
      rw [assays_map_other _ _ _ _ other] at record
      have released := State.assayMeets_core_other ((s.setCore c y).modAssay c r.seq (fun a => { a with originDigest := some d })) c r.seq d c
        (by rwa [record])
      rwa [record] at released
  · rw [State.core_setCore _ _ _ c.isLt]
    exact ⟨.refl _, fun _ => .refl _⟩

/-- Settles O18: which tile is served, the frame of the drain of its landed folds, and what the end of a drain returns. -/
theorem epilogueDrains : Obligations.EpilogueDrains := by
  unfold Obligations.EpilogueDrains
  intro s c x
  refine ⟨x.nextDrain_done, x.nextDrain_current, execEpilogueDrainStart_serves s c, execEpilogueDrainStart_idle s c,
    fun r e f hdr hassay hnext hclean => ?_, fun r b hdr hcur => ?_, fun hdr => ?_⟩
  · obtain ⟨t, ht, frame, free, written, others⟩ := epilogueDrainStart_core s c r e f hdr hassay hnext hclean
    refine ⟨t, ht, frame.draining, frame.epiQ, frame.done, fun i hi => ?_, frame.sreg, frame.vreg, frame.pc, frame.arrayQ, frame.current, free, fun b hb => ?_,
      others⟩
    · rw [frame.banks, Core.startDrain, vget_setBanks _ _ _ _ i _ hi]
      split <;> rfl
    · have same : s.setCore c { x with draining := some (r, e.block), drainOut := [], epiQ := (t.core c).epiQ, done := (t.core c).done, banks := (t.core c).banks } =
          s.setCore c (x.startDrain r e) := by
        rw [frame.epiQ, frame.done, frame.banks]
        rfl
      intro u o a ha
      apply written b hb a
      rw [← same]
      exact ha
  · obtain ⟨t, ht, frame, other⟩ := epilogueDrainComplete_core s c r b hdr hcur
    unfold Core.SameButAssays at frame
    unfold Core.SameButRanges at other
    rw [Core.endDrain_frame] at frame other
    refine ⟨t, ht, (congrArg Core.draining frame :), (congrArg Core.lmem frame :), (congrArg Core.sreg frame :), (congrArg Core.done frame :),
      (congrArg Core.epiQ frame :), (congrArg Core.arrayQ frame :), fun hother => ⟨fun i hi => ?_, fun i => ?_⟩⟩
    · have hbanks : (t.core c).banks = setBanks x.banks r.b0 r.banks (fun _ => Bank.reset) := congrArg Core.banks (other hother)
      rw [hbanks, vget_setBanks _ _ _ _ i _ hi]
    · have hacc : (t.core c).acc = accClear x.acc r.b0 r.banks := congrArg Core.acc (other hother)
      rw [hacc, tget_accClear]
  · rw [exec_epilogueDrainComplete, execEpilogueDrainComplete, show (s.core c).draining = none from hdr]

end Sys2Proof.Machine
end

section
/-! O3: the integer results of SALU and SALUI (04 R125). -/

namespace Sys2Proof.Machine

theorem Word.toInt_bounds (a : Word) : -2 ^ 63 ≤ a.toInt ∧ a.toInt < 2 ^ 63 := ⟨BitVec.le_toInt a, BitVec.toInt_lt⟩

theorem Word.toInt_ofInt (n : Int) (h : -2 ^ 63 ≤ n ∧ n < 2 ^ 63) : (BitVec.ofInt 64 n).toInt = n :=
  BitVec.toInt_ofInt_eq_self (by norm_num) h.1 h.2

/-- The upper half of the exact product of two words is a word. -/
theorem mulh_bounds (a b : Word) : -2 ^ 63 ≤ a.toInt * b.toInt / 2 ^ 64 ∧ a.toInt * b.toInt / 2 ^ 64 < 2 ^ 63 := by
  obtain ⟨ha, ha'⟩ := Word.toInt_bounds a
  obtain ⟨hb, hb'⟩ := Word.toInt_bounds b
  have : |a.toInt * b.toInt| ≤ 2 ^ 63 * 2 ^ 63 := by
    rw [abs_mul]
    exact mul_le_mul (abs_le.mpr ⟨ha, ha'.le⟩) (abs_le.mpr ⟨hb, hb'.le⟩) (abs_nonneg _) (by norm_num)
  rw [abs_le] at this
  omega

theorem Word.toInt_ne_zero (b : Word) (hb : b ≠ 0) : b.toInt ≠ 0 := fun h => hb (BitVec.eq_of_toInt_eq h)

/-- The quotient of two words is a word, but for the one that overflows. -/
theorem tdiv_bounds (a b : Word) (hb : b ≠ 0) (h : ¬(a.toInt = -2 ^ 63 ∧ b.toInt = -1)) :
    -2 ^ 63 ≤ a.toInt.tdiv b.toInt ∧ a.toInt.tdiv b.toInt < 2 ^ 63 := by
  obtain ⟨ha, ha'⟩ := Word.toInt_bounds a
  have hb := Word.toInt_ne_zero b hb
  have size : (a.toInt.tdiv b.toInt).natAbs = a.toInt.natAbs / b.toInt.natAbs := Int.natAbs_tdiv _ _
  have le : a.toInt.natAbs / b.toInt.natAbs ≤ a.toInt.natAbs := Nat.div_le_self _ _
  by_cases one : b.toInt.natAbs = 1
  · rcases Int.natAbs_eq_iff.mp one with e | e
    · rw [e, Nat.cast_one, Int.tdiv_one]
      exact ⟨ha, ha'⟩
    · have := fun h' => h ⟨h', e⟩
      rw [e, Nat.cast_one, Int.tdiv_neg, Int.tdiv_one]
      omega
  · have : a.toInt.natAbs / b.toInt.natAbs ≤ a.toInt.natAbs / 2 := Nat.div_le_div_left (by omega) (by norm_num)
    omega

/-- The remainder of two words is smaller than the divisor, and has the sign of the dividend. -/
theorem tmod_bounds (a b : Word) (hb : b ≠ 0) :
    (a.toInt.tmod b.toInt).natAbs < b.toInt.natAbs ∧ (0 ≤ a.toInt → 0 ≤ a.toInt.tmod b.toInt) ∧ (a.toInt ≤ 0 → a.toInt.tmod b.toInt ≤ 0) := by
  have hb := Word.toInt_ne_zero b hb
  refine ⟨?_, fun h => Int.tmod_nonneg _ h, fun h => ?_⟩
  · rw [Int.natAbs_tmod]
    exact Nat.mod_lt _ (by omega)
  · have := Int.tmod_nonneg b.toInt (a := -a.toInt) (by omega)
    rw [Int.neg_tmod] at this
    omega

/-- Settles O3: each function of 04 Table 5 as an operation on the numbers that the words stand for. -/
theorem scalarValues : Obligations.ScalarValues := by
  unfold Obligations.ScalarValues
  intro a b
  have hb := b.isLt
  refine ⟨BitVec.toNat_add a b, ?_, BitVec.toNat_mul a b, rfl, rfl, rfl, ?_, ?_, ?_, ?_, ?_, ?_, ?_, ?_, ?_, ?_, ?_, ?_, ?_⟩
  · show (a - b).toNat = _
    rw [BitVec.toNat_sub]
    congr 1; omega
  · show (a <<< (b.toNat % 64)).toNat = _
    rw [BitVec.toNat_shiftLeft, Nat.shiftLeft_eq]
  · show (a >>> (b.toNat % 64)).toNat = _
    rw [BitVec.toNat_ushiftRight, Nat.shiftRight_eq_div_pow]
  · show (a.sshiftRight (b.toNat % 64)).toInt = _
    rw [BitVec.toInt_sshiftRight, Int.shiftRight_eq_div_pow]
    norm_num
  · simp only [saluOp, BitVec.slt_eq_decide, decide_eq_true_eq]
  · simp only [saluOp, BitVec.ult_eq_decide, decide_eq_true_eq]
  · simp only [saluOp, BitVec.slt_eq_decide, decide_eq_true_eq]
    split <;> omega
  · simp only [saluOp, BitVec.slt_eq_decide, decide_eq_true_eq]
    split <;> omega
  · exact Word.toInt_ofInt _ (mulh_bounds a b)
  · have : a.toNat * b.toNat < 2 ^ 64 * 2 ^ 64 := Nat.mul_lt_mul'' a.isLt b.isLt
    exact Nat.mod_eq_of_lt (Nat.div_lt_of_lt_mul this)
  · rintro rfl
    exact ⟨rfl, rfl, rfl, rfl⟩
  · intro hb
    have pos : 0 < b.toNat := Nat.pos_of_ne_zero fun h => hb (BitVec.eq_of_toNat_eq h)
    have quot : a.toNat / b.toNat < 2 ^ 64 := Nat.lt_of_le_of_lt (Nat.div_le_self _ _) a.isLt
    have rem : a.toNat % b.toNat < b.toNat := Nat.mod_lt _ pos
    simp only [saluOp, if_neg hb, BitVec.toNat_ofNat, Nat.mod_eq_of_lt quot, Nat.mod_eq_of_lt (Nat.lt_trans rem b.isLt)]
    exact ⟨Nat.div_add_mod' _ _, rem⟩
  · intro ha hb
    have hb0 : b ≠ 0 := by rintro rfl; simp at hb
    simp only [saluOp, if_neg hb0, ha, hb]
    decide
  · intro hb h
    obtain ⟨small, pos, neg⟩ := tmod_bounds a b hb
    obtain ⟨blo, bhi⟩ := Word.toInt_bounds b
    simp only [saluOp, if_neg hb, Word.toInt_ofInt _ (tdiv_bounds a b hb h), Word.toInt_ofInt (a.toInt.tmod b.toInt) (by omega)]
    exact ⟨by rw [Int.mul_comm]; exact Int.mul_tdiv_add_tmod _ _, small, pos, neg⟩

end Sys2Proof.Machine
end

section
/-! SUPPORT. Laws of the issue of a core instruction (04 R122): the checks of a list of codes, and what an issued instruction leaves. -/

namespace Sys2Proof.Machine

@[simp] theorem codes_nil : codes [] = [] := rfl
@[simp] theorem codes_cons (b : Bool) (n : Nat) (l : List (Bool × Nat)) : codes ((b, n) :: l) = if b then n :: codes l else codes l := by
  cases b <;> rfl

theorem modCore_issued (s : State) (c : Fin 144) (f : Core → Core) :
    ((s.fetch c).setCore c (s.core c).go).modCore c f = (s.fetch c).setCore c (f (s.core c).go) := by
  rw [← State.fetch_core s c c, modCore_go _ _ c.isLt]

/-- An effect on the core's own record alone, where nothing keeps the instruction from issuing. -/
theorem State.issue_modCore (s : State) (c : Fin 144) (w : BitVec 128) (i : Issue) (f : Core → Core) (h : s.fresh c) (hf : i.faults = [])
    (hs : i.stall = .none) : s.issue c w i (fun s => s.modCore c f) = (s.fetch c).setCore c (f (s.core c).go) := by
  rw [State.issue_fresh s c w i _ h hf hs, modCore_issued]

theorem coreStep_takeFree (s : State) (c : Nat) (f : Core → Core) : coreStep c f s.takeFree.2 = (coreStep c f s).takeFree.2 := rfl

/-- An effect on the core alone of an instruction that issues. -/
theorem coreStep_issued (s : State) (c : Fin 144) (f : Core → Core) :
    coreStep c f ((s.fetch c).setCore c (s.core c).go) = (s.fetch c).setCore c (f (s.core c).go).next := by
  rw [← State.fetch_core s c c, coreStep_go _ _ c.isLt]

/-- Of codes that apply, the one that no other is below. -/
theorem min?_eq_some_of_least (l : List Nat) (f : Nat) (hf : f ∈ l) (least : ∀ g ∈ l, f ≤ g) : l.min? = some f :=
  List.min?_eq_some_iff.mpr ⟨hf, least⟩

theorem Uses.bad_func (u : Uses) (w : GenFields) (v : BitVec 5) (hu : u.func = true) : u.bad { w with func := v } = u.bad w := by
  simp [Uses.bad, hu]

/-- IMM is zero above the bits that an instruction names. -/
theorem imm_small (u : Uses) (w : GenFields) (h : u.bad w = false) : w.imm.toNat / 2 ^ u.imm = 0 := by
  simp only [Uses.bad, Bool.or_eq_false_iff] at h
  simpa using h.2

theorem withFunc_eq (w : GenFields) (func funcs : Nat) (h : w.func.toNat < funcs) : withFunc w func funcs = { w with func := BitVec.ofNat 5 func } := if_pos h
theorem withFunc_reserved (w : GenFields) (func funcs : Nat) (h : funcs ≤ w.func.toNat) : withFunc w func funcs = w := if_neg (Nat.not_lt.mpr h)

end Sys2Proof.Machine
end

section
/-! O2: the scalar instructions that write a register and go on (04 R118, R125). -/

namespace Sys2Proof.Machine

theorem exec_salu (c : Fin 144) (w : GenFields) (s : State) : exec (.salu c w) s = execSalu c w s := rfl
theorem exec_salui (c : Fin 144) (w : GenFields) (s : State) : exec (.salui c w) s = execSalui c w s := rfl
theorem exec_sli (c : Fin 144) (w : GenFields) (s : State) : exec (.sli c w) s = execSli c w s := rfl
theorem exec_sfp (c : Fin 144) (w : GenFields) (s : State) : exec (.sfp c w) s = execSfp c w s := rfl
theorem exec_scsrRead (c : Fin 144) (w : GenFields) (s : State) : exec (.scsrRead c w) s = execScsrRead c w s := rfl
theorem exec_scsrReadAndClear (c : Fin 144) (w : GenFields) (s : State) : exec (.scsrReadAndClear c w) s = execScsrReadAndClear c w s := rfl
theorem exec_nop (c : Fin 144) (w : GenFields) (s : State) : exec (.nop c w) s = execNop c w s := rfl

theorem execSalu_writes (s : State) (c : Fin 144) (w : GenFields) (h : s.fresh c) (hu : ({ d := true, a := true, b := true } : Uses).bad w = false)
    (hf : w.func.toNat ≤ 18) : execSalu c w s = .next ((s.fetch c).setCore c
      ((s.core c).go.setS w.d.toNat (saluOp w.func.toNat ((s.core c).s w.a.toNat) ((s.core c).s w.b.toNat)) false).next) := by
  unfold execSalu
  dsimp only
  rw [State.issue_coreStep s c _ _ _ h (by simp [hu, hf]) rfl]
  simp [Core.sp_clean _ h.2]

theorem execSalui_writes (s : State) (c : Fin 144) (w : GenFields) (h : s.fresh c) (hu : ({ d := true, a := true, imm := 64 } : Uses).bad w = false)
    (hf : w.func.toNat ≤ 18) : execSalui c w s = .next ((s.fetch c).setCore c
      ((s.core c).go.setS w.d.toNat (saluOp w.func.toNat ((s.core c).s w.a.toNat) w.imm) false).next) := by
  unfold execSalui
  dsimp only
  rw [State.issue_coreStep s c _ _ _ h (by simp [hu, hf]) rfl]
  simp [Core.sp_clean _ h.2]

theorem execSli_writes (s : State) (c : Fin 144) (w : GenFields) (h : s.fresh c) (hu : ({ d := true, imm := 64 } : Uses).bad w = false)
    (hf : w.func = 0) : execSli c w s = .next ((s.fetch c).setCore c ((s.core c).go.setS w.d.toNat w.imm false).next) := by
  unfold execSli
  rw [State.issue_coreStep s c _ _ _ h (by simp [hu, hf]) rfl]

theorem execSfp_writes (s : State) (c : Fin 144) (w : GenFields) (h : s.fresh c)
    (hu : ({ d := true, a := true, b := true, c := true, rnd := true } : Uses).bad w = false) (hf : w.func.toNat ≤ 9) (hr : w.rnd.toNat ≤ 1) :
    execSfp c w s = .next ((s.fetch c).setCore c ((s.core c).go.setS w.d.toNat
      (sfpOp w.func.toNat (rndOf w.rnd.toNat) ((s.core c).s w.a.toNat) ((s.core c).s w.b.toNat) ((s.core c).s w.c.toNat)) false).next) := by
  unfold execSfp
  dsimp only
  rw [State.issue_coreStep s c _ _ _ h (by simp [hu, hf, hr]) rfl, Core.poisonS_clean _ (Core.clean_go _ h.2)]
  rfl

theorem execNop_next (s : State) (c : Fin 144) (w : GenFields) (h : s.fresh c) (hu : ({} : Uses).bad w = false) (hf : w.func = 0) :
    execNop c w s = .next ((s.fetch c).setCore c (s.core c).go.next) := by
  unfold execNop
  rw [State.issue_coreStep s c _ _ _ h (by simp [hu, hf]) rfl]
  rfl

/-- A control register is the same once the instruction has been fetched. -/
theorem State.csr_go (s : State) (c : Fin 144) (n : Nat) : (s.setCore c (s.core c).go).csr c n = s.csr c n := by
  unfold State.csr
  rw [State.core_setCore _ _ _ c.isLt]
  rfl

theorem Core.setS_async (x : Core) (i : Nat) (v : Word) (p : Bool) : (x.setS i v p).async = x.async := by
  unfold Core.setS
  split <;> rfl

/-- What SCSR leaves of a core: the register in sD, and ASYNC cleared by the second form. -/
def Core.scsr (x : Core) (d : Nat) (v : Word) (clear : Bool) : Core :=
  if clear then { (x.setS d v false).next with async := 0 } else (x.setS d v false).next

theorem Core.scsr_eq (x : Core) (d : Nat) (v : Word) (clear : Bool) :
    ({ x.setS d v false with async := if clear then 0 else x.async } : Core).next = x.scsr d v clear := by
  cases clear
  · rw [← Core.setS_async x d v false]
    rfl
  · rfl

/-- Both forms of SCSR (04 Table 6); a read of CYCLE takes a free value. -/
theorem State.scsr_writes (s : State) (c : Fin 144) (w : GenFields) (clear : Bool) (h : s.fresh c) (hu : ({ d := true, imm := 64 } : Uses).bad w = false)
    (hf : w.func.toNat ≤ 1) (hi : w.imm.toNat ≤ 8) : s.scsr c w clear =
      let t := (s.fetch c).setCore c ((s.core c).go.scsr w.d.toNat ((s.fetch c).csr c w.imm.toNat) clear)
      if w.imm = 0 then { t with free := (s.fetch c).free + 1 } else t := by
  have word : (withFunc w (if clear then 1 else 0) 2).func.toNat ≤ 1 := by
    rw [withFunc_eq _ _ _ (by omega)]
    cases clear <;> simp
  have fields : ({ d := true, imm := 64 } : Uses).bad (withFunc w (if clear then 1 else 0) 2) = false := by
    rw [withFunc_eq _ _ _ (by omega), Uses.bad_func _ _ _ rfl, hu]
  have csr := State.csr_go (s.fetch c) c w.imm.toNat
  rw [State.fetch_core] at csr
  unfold State.scsr
  dsimp only
  rw [State.issue_fresh s c _ _ _ h (by simp [fields, word, hi]) rfl, csr, ← Core.scsr_eq]
  by_cases hi : w.imm = 0
  · rw [if_pos hi, if_pos hi, coreStep_takeFree, coreStep_issued]
    rfl
  · rw [if_neg hi, if_neg hi, coreStep_issued]

/-- A control register number above 8 faults, and so does a reserved FUNC (04 R116). -/
theorem State.scsr_faults (s : State) (c : Fin 144) (w : GenFields) (clear : Bool) (h : s.fresh c) (hu : ({ d := true, imm := 64 } : Uses).bad w = false)
    (hr : 1 < w.func.toNat ∨ 8 < w.imm.toNat) :
    s.scsr c w clear = (s.fetch c).coreFault c 0x03 (genWord 0x07 (withFunc w (if clear then 1 else 0) 2)) 0 := by
  have fields : ({ d := true, imm := 64 } : Uses).bad (withFunc w (if clear then 1 else 0) 2) = false := by
    unfold withFunc
    split
    · rw [Uses.bad_func _ _ _ rfl, hu]
    · exact hu
  have reserved : (decide (1 < (withFunc w (if clear then 1 else 0) 2).func.toNat) || decide (8 < w.imm.toNat)) = true := by
    rcases hr with hr | hr
    · rw [withFunc_reserved _ _ _ hr]
      simp [hr]
    · simp [hr]
  unfold State.scsr
  dsimp only
  rw [State.issue_fault s c _ _ _ 0x03 h (by rw [codes_cons, codes_cons, fields, reserved]; rfl)]

/-- The control registers that read what the machine holds under their names (04 Table 6). -/
theorem State.csr_lcore (s : State) (c : Fin 144) : (s.csr c 1).toNat = c.val := Nat.mod_eq_of_lt (Nat.lt_trans c.isLt (by norm_num))

/-- Settles O2: each instruction by the lemma on what it writes, with the values of the control registers. -/
theorem scalarResults : Obligations.ScalarResults := by
  unfold Obligations.ScalarResults
  intro s c w h f
  refine ⟨execSalu_writes s c w h, execSalui_writes s c w h, execSli_writes s c w h, execSfp_writes s c w h, fun hu hf hne hi => ?_, fun hu hf hi => ?_,
    execNop_next s c w h, fun hu hf hi => ?_, fun hu hf => ?_, s.csr_lcore c, rfl, rfl, rfl, rfl, rfl, rfl⟩
  · have both := fun clear => State.scsr_writes s c w clear h hu hf hi
    simp only [if_neg hne] at both
    exact ⟨congrArg Host.Outcome.next (both false), congrArg Host.Outcome.next (both true)⟩
  · have zero : w.imm.toNat = 0 := congrArg BitVec.toNat hi
    have both := fun clear => State.scsr_writes s c w clear h hu hf (by omega)
    simp only [if_pos hi, zero] at both
    exact ⟨congrArg Host.Outcome.next (both false), congrArg Host.Outcome.next (both true)⟩
  · have stop := State.scsr_faults s c w false h hu (.inr hi)
    rw [withFunc_eq _ _ _ (show w.func.toNat < 2 from Nat.lt_succ_of_le hf)] at stop
    exact congrArg Host.Outcome.next stop
  · have both := fun clear => State.scsr_faults s c w clear h hu (.inl hf)
    simp only [withFunc_reserved w _ 2 hf] at both
    exact ⟨congrArg Host.Outcome.next (both false), congrArg Host.Outcome.next (both true)⟩

end Sys2Proof.Machine
end


section
/-! SUPPORT. What a core fault leaves (04 R122): its own core records it, the others of its LAUNCH stop, and nothing else changes. -/

namespace Sys2Proof.Machine

/-- A core that a fault elsewhere in its LAUNCH has stopped (12 R441). -/
def Core.halted (x : Core) : Core := { x with run := .stopped, wait := .none }

/-- A core with a fault recorded (04 R122). -/
def Core.faultedWith (x : Core) (code : Nat) (word : BitVec 128) (detail : Nat) : Core :=
  { x with run := .faulted, stall := .none, fault := some { code := BitVec.ofNat 16 code, pc := x.pc, instr := word, detail := BitVec.ofNat 64 detail } }

/-- The commands of a stream once one of their cores has faulted: the command of the core keeps the cores on which it has begun. -/
def Stream.withoutCore (y : Stream) (command : BitVec 32) (c : Nat) : Stream :=
  { y with progress := y.progress.map (fun (z : CmdRun) => if z.count = command ∧ z.cores.contains c = true then { z with cores := z.begun, ops := [] } else z) }

theorem State.stopSiblings_core (s : State) (c : Nat) : (s.stopSiblings c).core c = s.core c := by
  unfold State.stopSiblings
  refine State.each_invariant (P := fun t => t.core c = s.core c) _ _ _ rfl fun t ht i _ => ?_
  dsimp only
  split
  · next h => rw [State.core_setCore_ne _ _ _ _ (Ne.symm h.1), ht]
  · exact ht

/-- Another core is left, or has stopped. -/
theorem State.stopSiblings_core_ne (s : State) (c k : Nat) (hk : k < 144) :
    (s.stopSiblings c).core k = s.core k ∨ (s.stopSiblings c).core k = (s.core k).halted := by
  unfold State.stopSiblings
  refine State.each_invariant (P := fun t => t.core k = s.core k ∨ t.core k = (s.core k).halted) _ _ _ (.inl rfl) fun t ht i _ => ?_
  dsimp only
  split
  · by_cases hi : k = i
    · subst hi
      rw [State.core_setCore _ _ _ hk]
      rcases ht with ht | ht <;> rw [ht] <;> exact .inr rfl
    · rwa [State.core_setCore_ne _ _ _ _ hi]
  · exact ht

theorem State.stopSiblings_frame (s : State) (c : Nat) : { s.stopSiblings c with cores := s.cores } =
    s.modStream (s.core c).stream (fun y => y.withoutCore (s.core c).command c) := by
  unfold State.stopSiblings
  refine State.each_invariant (P := fun t => { t with cores := s.cores } = s.modStream (s.core c).stream (fun y => y.withoutCore (s.core c).command c))
    _ _ _ rfl fun t ht i _ => ?_
  dsimp only
  split
  · exact ht
  · exact ht

theorem State.coreFault_core (s : State) (c : Nat) (hc : c < 144) (code : Nat) (word : BitVec 128) (detail : Nat) :
    (s.coreFault c code word detail).core c = (s.core c).faultedWith code word detail := by
  unfold State.coreFault
  rw [State.stopSiblings_core, State.core_setCore _ _ _ hc]
  rfl

theorem State.coreFault_core_ne (s : State) (c k : Nat) (code : Nat) (word : BitVec 128) (detail : Nat) (hk : k < 144) (h : k ≠ c) :
    (s.coreFault c code word detail).core k = s.core k ∨ (s.coreFault c code word detail).core k = (s.core k).halted := by
  have sibling := State.stopSiblings_core_ne (s.setCore c ((s.core c).faultedWith code word detail)) c k hk
  rwa [State.core_setCore_ne _ _ _ _ h] at sibling

/-- A fault changes cores and the stream of its program alone. -/
theorem State.coreFault_frame (s : State) (c : Nat) (hc : c < 144) (code : Nat) (word : BitVec 128) (detail : Nat) :
    { s.coreFault c code word detail with cores := s.cores } = s.modStream (s.core c).stream (fun y => y.withoutCore (s.core c).command c) := by
  have frame := State.stopSiblings_frame (s.setCore c ((s.core c).faultedWith code word detail)) c
  rw [State.core_setCore _ _ _ hc] at frame
  exact congrArg (fun t : State => { t with cores := s.cores }) frame

theorem State.coreFault_rest (s : State) (c : Nat) (hc : c < 144) (code : Nat) (word : BitVec 128) (detail : Nat) :
    { s.coreFault c code word detail with cores := s.cores, streams := s.streams } = s :=
  (congrArg (fun t : State => { t with streams := s.streams }) (s.coreFault_frame c hc code word detail) :)

theorem State.coreFault_stream (s : State) (c : Nat) (hc : c < 144) (code : Nat) (word : BitVec 128) (detail j : Nat) (hj : j < 64) :
    (s.coreFault c code word detail).stream j = if j = (s.core c).stream then (s.stream j).withoutCore (s.core c).command c else s.stream j := by
  have streams : (s.coreFault c code word detail).stream j = (s.modStream (s.core c).stream (fun y => y.withoutCore (s.core c).command c)).stream j :=
    congrArg (fun v => vget v j Stream.reset) (congrArg State.streams (s.coreFault_frame c hc code word detail) :)
  rw [streams]
  split
  · next h => rw [← h, State.stream_modStream _ _ _ hj]
  · next h => rw [State.stream_modStream_ne _ _ _ _ h]

end Sys2Proof.Machine
end

section
/-! O6: the order of a fetch and of the faults of an instruction (04 R122, R126; 03 R104). -/

namespace Sys2Proof.Machine

/-- Settles O6: the checks of `State.issue` in their order, and what a fault leaves. -/
theorem faultOrder : Obligations.FaultOrder := by
  unfold Obligations.FaultOrder
  intro s c word i eff hc hrun hwait hsleep hfence x g placed fetched
  have runs : ¬(x.run ≠ .running ∨ x.wait ≠ .none ∨ x.sleep ≠ .awake ∨ x.fenced = true) := by
    simp [x, hrun, hwait, hsleep, hfence]
  have unplaced : placed ↔ ((localForm x.pc.toNat).bind s.home).isNone = false := by simp [placed, ← Option.isNone_iff_eq_none]
  have passes : fetched → (!x.cachedFetch && ((localForm x.pc.toNat).bind s.home).isNone) = false ∧ s.fetchWaits c = false ∧
      (!x.cachedFetch && (g.line x.fetchLine).2) = false := by
    rintro (cached | ⟨hplaced, hwaits, hline⟩)
    · simp [cached, State.fetchWaits, show (s.core c).cachedFetch = true from cached]
    · simp [unplaced.mp hplaced, hwaits, hline]
  refine ⟨fun cached hplaced => ?_, fun cached hplaced hwaits => ?_, fun cached hplaced hwaits hline => ?_, fun hfetched hpoison => ?_,
    fun hfetched hs hv f hf least => ?_, fun f word d => s.coreFault_core c hc f word d,
    fun f word d => ⟨s.coreFault_rest c hc f word d, fun j hj => ?_⟩, fun f word d k hk hkc => s.coreFault_core_ne c k f word d hk hkc⟩
  · have nowhere : (!x.cachedFetch && ((localForm x.pc.toNat).bind s.home).isNone) = true := by
      simpa [cached, unplaced] using hplaced
    unfold State.issue
    dsimp only
    rw [if_neg runs, if_pos nowhere]
  · have somewhere : (!x.cachedFetch && ((localForm x.pc.toNat).bind s.home).isNone) = false := by simp [unplaced.mp hplaced]
    unfold State.issue
    dsimp only
    rw [if_neg runs, somewhere, if_neg (by simp), if_pos hwaits]
  · have somewhere : (!x.cachedFetch && ((localForm x.pc.toNat).bind s.home).isNone) = false := by simp [unplaced.mp hplaced]
    have poisoned : (!x.cachedFetch && (g.line x.fetchLine).2) = true := by simp [cached, hline]
    unfold State.issue
    dsimp only
    rw [if_neg runs, somewhere, hwaits, if_neg (by simp), if_neg (by simp), if_pos poisoned]
  · obtain ⟨h1, h2, h3⟩ := passes hfetched
    have poisoned : (x.poisonS i.addrS || x.poisonV i.addrV) = true := by simpa using hpoison
    unfold State.issue
    dsimp only
    rw [if_neg runs, h1, h2, h3, if_neg (by simp), if_neg (by simp), if_neg (by simp), if_pos poisoned]
  · obtain ⟨h1, h2, h3⟩ := passes hfetched
    unfold State.issue
    dsimp only
    rw [if_neg runs, h1, h2, h3, hs, hv, min?_eq_some_of_least _ _ hf least]
    rfl
  · rw [s.coreFault_stream c hc f word d j hj]
    by_cases h : j = x.stream
    · rw [if_pos h]
      simp [Stream.withoutCore, h, x]
    · rw [if_neg h]
      simp [h]

end Sys2Proof.Machine
end


section
/-! O5: branches and jumps (04 R125, R115), TRAP (R156) and unassigned opcodes (R116). -/

namespace Sys2Proof.Machine

theorem exec_br (c : Fin 144) (w : GenFields) (s : State) : exec (.br c w) s = execBr c w s := rfl
theorem exec_jal (c : Fin 144) (w : GenFields) (s : State) : exec (.jal c w) s = execJal c w s := rfl
theorem exec_jr (c : Fin 144) (w : GenFields) (s : State) : exec (.jr c w) s = execJr c w s := rfl
theorem exec_trap (c : Fin 144) (w : GenFields) (s : State) : exec (.trap c w) s = execTrap c w s := rfl
theorem exec_illegalOpcode (c : Fin 144) (word : BitVec 128) (s : State) : exec (.illegalOpcode c word) s = execIllegalOpcode c word s := rfl

/-- The signed value of the low 32 bits of a word. -/
theorem sint_eq_toInt (v : Word) : sint 32 v.toNat = (v.setWidth 32).toInt := by
  simp only [sint, BitVec.toInt, BitVec.toNat_setWidth]

/-- A relative target counts instructions of 16 bytes from the PC (04 Table 5). -/
theorem relTarget_eq (pc imm : Word) : relTarget pc imm = pc + BitVec.ofInt 64 (16 * (imm.setWidth 32).toInt) := by
  rw [relTarget, sint_eq_toInt]

/-- The six conditions of BR (04 Table 5). -/
theorem brCond_iff (f : BitVec 5) (a b : Word) (hf : f.toNat ≤ 5) : brCond f.toNat a b = true ↔
    (f = 0 ∧ a = b) ∨ (f = 1 ∧ a ≠ b) ∨ (f = 2 ∧ a.toInt < b.toInt) ∨ (f = 3 ∧ b.toInt ≤ a.toInt) ∨ (f = 4 ∧ a.toNat < b.toNat) ∨
    (f = 5 ∧ b.toNat ≤ a.toNat) := by
  obtain ⟨n, hn⟩ : ∃ n : Fin 6, f = BitVec.ofNat 5 n.val := ⟨⟨f.toNat, by omega⟩, by simp⟩
  subst hn
  fin_cases n <;> simp [brCond, BitVec.slt_eq_decide, BitVec.ult_eq_decide]

theorem execBr_goes (s : State) (c : Fin 144) (w : GenFields) (h : s.fresh c) (hu : ({ a := true, b := true, imm := 32 } : Uses).bad w = false)
    (hf : w.func.toNat ≤ 5) : execBr c w s = .next ((s.fetch c).setCore c
      (if brCond w.func.toNat ((s.core c).s w.a.toNat) ((s.core c).s w.b.toNat) then { (s.core c).go with pc := relTarget (s.core c).pc w.imm }
        else (s.core c).go.next)) := by
  unfold execBr
  rw [State.issue_modCore s c _ _ _ h (by simp [hu, hf]) rfl]
  rfl

theorem execJal_goes (s : State) (c : Fin 144) (w : GenFields) (h : s.fresh c) (hu : ({ d := true, imm := 32 } : Uses).bad w = false)
    (hf : w.func = 0) : execJal c w s = .next ((s.fetch c).setCore c
      { (s.core c).go.setS w.d.toNat ((s.core c).pc + 16) false with pc := relTarget (s.core c).pc w.imm }) := by
  unfold execJal
  rw [State.issue_modCore s c _ _ _ h (by simp [hu, hf]) rfl]
  rfl

theorem execJr_goes (s : State) (c : Fin 144) (w : GenFields) (h : s.fresh c) (hu : ({ a := true } : Uses).bad w = false) (hf : w.func = 0)
    (ht : ((s.core c).s w.a.toNat).toNat % 16 = 0) :
    execJr c w s = .next ((s.fetch c).setCore c { (s.core c).go with pc := (s.core c).s w.a.toNat }) := by
  unfold execJr
  dsimp only
  rw [State.issue_modCore s c _ _ _ h (by simp [hu, hf, ht]) rfl]

/-- A target off a multiple of 16 faults (04 R115). -/
theorem execJr_faults (s : State) (c : Fin 144) (w : GenFields) (h : s.fresh c) (hu : ({ a := true } : Uses).bad w = false) (hf : w.func = 0)
    (ht : ((s.core c).s w.a.toNat).toNat % 16 ≠ 0) : execJr c w s = .next ((s.fetch c).coreFault c 0x08 (genWord 0x0A w) 0) := by
  unfold execJr
  dsimp only
  rw [State.issue_fault s c _ _ _ 0x08 h (by simp [hu, hf, ht])]

/-- TRAP faults with its value (04 R156). -/
theorem execTrap_faults (s : State) (c : Fin 144) (w : GenFields) (h : s.fresh c) (hu : ({ imm := 32 } : Uses).bad w = false) (hf : w.func = 0) :
    execTrap c w s = .next ((s.fetch c).coreFault c 0x14 (genWord 0x83 w) w.imm.toNat) := by
  have imm : w.imm.toNat < 2 ^ 32 := Nat.lt_of_div_eq_zero (by norm_num) (imm_small _ w hu)
  have fields := Uses.bad_unusedFunc _ w hu hf
  unfold execTrap
  dsimp only
  rw [Nat.mod_eq_of_lt imm, State.issue_fault s c _ _ _ 0x14 h (by simp [fields])]
  simp [fields]

/-- An unassigned opcode faults (04 R116). -/
theorem execIllegalOpcode_faults (s : State) (c : Fin 144) (word : BitVec 128) (h : s.fresh c) (hop : word.toNat % 256 ∉ assignedOps) :
    execIllegalOpcode c word s = .next ((s.fetch c).coreFault c 0x01 word 0) := by
  unfold execIllegalOpcode
  rw [if_neg (by simpa using hop), State.issue_fault s c _ _ _ 0x01 h rfl]

/-- Settles O5: the next PC of each instruction, and the record of each fault. -/
theorem controlAndTraps : Obligations.ControlAndTraps := by
  unfold Obligations.ControlAndTraps
  refine ⟨fun s c w h => ?_, fun s c h => ⟨fun w hu hf => ?_, fun word hop => ?_, by decide⟩⟩
  · intro f x target cond
    refine ⟨fun hu hf => ?_, fun hu hf => ?_, execJr_goes s c w h, execJr_faults s c w h⟩
    · have holds : brCond w.func.toNat (x.s w.a.toNat) (x.s w.b.toNat) = true ↔ cond (x.s w.a.toNat) (x.s w.b.toNat) := brCond_iff _ _ _ hf
      rw [exec_br, execBr_goes s c w h hu hf]
      refine ⟨fun hc => ?_, fun hc => ?_⟩
      · rw [if_pos (holds.mpr hc), relTarget_eq]
      · rw [if_neg (fun hb => hc (holds.mp hb))]
    · rw [exec_jal, execJal_goes s c w h hu hf, relTarget_eq]
  · refine ⟨_, execTrap_faults s c w h hu hf, ?_⟩
    refine (State.coreFault_core _ _ c.isLt _ _ _).trans ?_
    rw [State.fetch_core, Core.faultedWith, BitVec.ofNat_toNat, BitVec.setWidth_eq]
    rfl
  · refine ⟨_, execIllegalOpcode_faults s c word h hop, ?_⟩
    refine (State.coreFault_core _ _ c.isLt _ _ _).trans ?_
    rw [State.fetch_core]
    rfl

end Sys2Proof.Machine
end


section
/-! SUPPORT. A read through the Tun, and so the fetch of an instruction (04 R121), leaves everything outside the memories, the statistics and the log. -/

namespace Sys2Proof.Machine

/-- The objects in which a read of memory counts (06 R205, R221, 11 R404). -/
def readStatistics : List Nat := [0x4002, 0x4012, 0x6050]

/-- The members of the other objects. -/
def controls (t : Tbl Nat) : Tbl Nat := t.filter (fun e => !readStatistics.contains (e.1 / 256))

theorem controls_tins (t : Tbl Nat) (i v : Nat) (h : i / 256 ∈ readStatistics) : controls (tins t i v) = controls t := by
  induction t with
  | nil => simp [controls, tins, h]
  | cons a r ih =>
    simp only [controls, tins] at ih ⊢
    split
    · simp [List.filter_cons, h]
    · split
      · next he => simp [h, ← he]
      · rw [List.filter_cons, ih, List.filter_cons]

theorem controls_tdel (t : Tbl Nat) (i : Nat) (h : i / 256 ∈ readStatistics) : controls (tdel t i) = controls t := by
  unfold controls tdel
  rw [List.filter_filter]
  refine List.filter_congr fun e _ => ?_
  by_cases he : e.1 = i
  · simp [he, h]
  · simp [he]

theorem controls_tset (d : Nat) (t : Tbl Nat) (i v : Nat) (h : i / 256 ∈ readStatistics) : controls (tset d t i v) = controls t := by
  unfold tset
  split
  · exact controls_tdel t i h
  · exact controls_tins t i v h

/-- What a read of memory through the Tun cannot reach: the state without the memories, the statistics, the health record, the log and its messages. -/
def State.outsideMem (s : State) : State :=
  { s with mem := State.reset.mem, obj := controls s.obj, resil := State.reset.resil, host := State.reset.host, fynen := State.reset.fynen, out := [], free := 0 }

@[simp] theorem State.outsideMem_update (s : State) (r : Resil) (m : MemSys) (h : HostPort) (f : Fynen) (u : List Output) (n : Nat) :
    State.outsideMem { s with resil := r, mem := m, host := h, fynen := f, out := u, free := n } = s.outsideMem := rfl

@[simp] theorem State.modMem_outsideMem (s : State) (f : MemSys → MemSys) : (s.modMem f).outsideMem = s.outsideMem := rfl
@[simp] theorem State.modStack_outsideMem (s : State) (k : Nat) (f : Stack → Stack) : (s.modStack k f).outsideMem = s.outsideMem := rfl
@[simp] theorem State.setStack_outsideMem (s : State) (k : Nat) (x : Stack) : (s.setStack k x).outsideMem = s.outsideMem := rfl
@[simp] theorem State.objSet_outsideMem (s : State) (o m v : Nat) (ho : o ∈ readStatistics) (hm : m < 256) : (s.objSet o m v).outsideMem = s.outsideMem := by
  have h : (256 * o + m) / 256 ∈ readStatistics := by rwa [show (256 * o + m) / 256 = o by omega]
  unfold State.outsideMem State.objSet
  simp only [controls_tset _ _ _ _ h]

@[simp] theorem State.bump_outsideMem (s : State) (o m n : Nat) (ho : o ∈ readStatistics) (hm : m < 256) : (s.bump o m n).outsideMem = s.outsideMem :=
  s.objSet_outsideMem _ _ _ ho hm

@[simp] theorem mem_readStatistics (o : Nat) : o ∈ readStatistics ↔ o = 0x4002 ∨ o = 0x4012 ∨ o = 0x6050 := by simp [readStatistics]

@[simp] theorem State.emit_outsideMem (s : State) (x : Output) : (s.emit x).outsideMem = s.outsideMem := rfl
@[simp] theorem State.takeFree_outsideMem (s : State) : s.takeFree.2.outsideMem = s.outsideMem := rfl
@[simp] theorem State.each_outsideMem {α : Type} (s : State) (l : List α) (f : State → α → State) (hf : ∀ (s : State) (a : α), (f s a).outsideMem = s.outsideMem) :
    (s.each l f).outsideMem = s.outsideMem := by
  induction l generalizing s with
  | nil => rfl
  | cons a r ih => exact (ih _).trans (hf _ _)

@[simp] theorem State.msix_outsideMem (s : State) (v : Nat) : (s.msix v).outsideMem = s.outsideMem := by simp [State.msix, apply_ite State.outsideMem]
@[simp] theorem State.event_outsideMem (s : State) (code obj detail : Nat) (drill : Bool) : (s.event code obj detail drill).outsideMem = s.outsideMem := by
  simp [State.event, apply_ite State.outsideMem]
@[simp] theorem State.eventD_outsideMem (s : State) (code obj : Nat) (drill : Bool) : (s.eventD code obj drill).outsideMem = s.outsideMem := by
  simp [State.eventD]
@[simp] theorem State.eventOpen_outsideMem (s : State) (obj : Nat) : (s.eventOpen obj).outsideMem = s.outsideMem := by simp [State.eventOpen]
@[simp] theorem State.warning_outsideMem (s : State) : s.warning.outsideMem = s.outsideMem := by simp [State.warning]
@[simp] theorem State.healthUpdate_outsideMem (s : State) : s.healthUpdate.outsideMem = s.outsideMem := by
  simp [State.healthUpdate, apply_ite State.outsideMem]
@[simp] theorem State.healthWarn_outsideMem (s : State) : s.healthWarn.outsideMem = s.outsideMem := by
  simp [State.healthWarn, apply_ite State.outsideMem]
@[simp] theorem State.deduct_outsideMem (s : State) (kind points : Nat) (transient : Bool) : (s.deduct kind points transient).outsideMem = s.outsideMem := by
  simp [State.deduct, apply_ite State.outsideMem]
@[simp] theorem State.putHbm_outsideMem (s : State) (ln : Nat) (d : Line) (mask : BitVec 64) (poison : Bool) : (s.putHbm ln d mask poison).outsideMem = s.outsideMem := by
  simp [State.putHbm]
@[simp] theorem State.poisonStored_outsideMem (s : State) (ln : Nat) : (s.poisonStored ln).outsideMem = s.outsideMem := by simp [State.poisonStored]
@[simp] theorem State.queueRetrain_outsideMem (s : State) (k ch : Nat) : (s.queueRetrain k ch).outsideMem = s.outsideMem := by
  simp [State.queueRetrain]
@[simp] theorem State.checkDrift_outsideMem (s : State) (k : Nat) : (s.checkDrift k).outsideMem = s.outsideMem := by simp [State.checkDrift]
@[simp] theorem State.openWindow_outsideMem (s : State) (k : Nat) : (s.openWindow k).outsideMem = s.outsideMem := by
  unfold State.openWindow
  dsimp only
  split <;> simp

@[simp] theorem State.wakeStack_outsideMem (s : State) (k : Nat) : (s.wakeStack k).outsideMem = s.outsideMem := by
  simp [State.wakeStack, apply_ite State.outsideMem]
@[simp] theorem State.pinCorrected_outsideMem (s : State) (k ch pin : Nat) : (s.pinCorrected k ch pin).outsideMem = s.outsideMem := by
  simp [State.pinCorrected, apply_ite State.outsideMem]
@[simp] theorem State.hbmUncorrectable_outsideMem (s : State) (ln : Nat) (scrub : Bool) : (s.hbmUncorrectable ln scrub).outsideMem = s.outsideMem := by
  simp [State.hbmUncorrectable, apply_ite State.outsideMem]
@[simp] theorem State.scrambleSector_outsideMem (s : State) (ln sector : Nat) : (s.scrambleSector ln sector).outsideMem = s.outsideMem := by
  simp [State.scrambleSector, apply_ite State.outsideMem]
@[simp] theorem State.sectorError_outsideMem (s : State) (k ln sector : Nat) (pins : List Nat) (scrub : Bool) : (s.sectorError k ln sector pins scrub).outsideMem = s.outsideMem := by
  unfold State.sectorError
  dsimp only
  split
  · rfl
  · simp [apply_ite State.outsideMem]
  · split
    · simp
    · split <;> simp

@[simp] theorem State.readSectors_outsideMem (s : State) (k ln : Nat) (sectors : List Nat) (scrub : Bool) : (s.readSectors k ln sectors scrub).outsideMem = s.outsideMem := by
  simp [State.readSectors, apply_ite State.outsideMem]
@[simp] theorem State.unhide_outsideMem (s : State) (ln : Nat) : (s.unhide ln).outsideMem = s.outsideMem := by
  simp [State.unhide, apply_ite State.outsideMem]
@[simp] theorem State.reachHbm_outsideMem (s : State) (k ln : Nat) : (s.reachHbm k ln).outsideMem = s.outsideMem := by
  unfold State.reachHbm
  split
  · rfl
  · simp

@[simp] theorem State.dropEntry_outsideMem (s : State) (q ln : Nat) : (s.dropEntry q ln).outsideMem = s.outsideMem := by
  simp [State.dropEntry, apply_ite State.outsideMem]
@[simp] theorem State.tunError_outsideMem (s : State) (ln : Nat) : (s.tunError ln).outsideMem = s.outsideMem := by
  unfold State.tunError; (repeat' split) <;> simp [apply_ite State.outsideMem]

@[simp] theorem State.meetTun_outsideMem (s : State) (ln : Nat) : (s.meetTun ln).outsideMem = s.outsideMem := by
  simp [State.meetTun, apply_ite State.outsideMem]
@[simp] theorem State.clearErrors_outsideMem (s : State) (ln : Nat) : (s.clearErrors ln).outsideMem = s.outsideMem := by
  simp [State.clearErrors, apply_ite State.outsideMem]
@[simp] theorem State.writeBackLine_outsideMem (s : State) (ln : Nat) : (s.writeBackLine ln).outsideMem = s.outsideMem := by
  unfold State.writeBackLine; (repeat' split) <;> simp

@[simp] theorem State.evict_outsideMem (s : State) (q ln : Nat) : (s.evict q ln).outsideMem = s.outsideMem := by
  simp [State.evict, apply_ite State.outsideMem]
@[simp] theorem State.allocate_outsideMem (s : State) (q ln : Nat) (dirty keep : Bool) : (s.allocate q ln dirty keep).outsideMem = s.outsideMem := by
  simp [State.allocate]
@[simp] theorem State.cacheLine_outsideMem (s : State) (q ln : Nat) (dirty : Bool) (cls : Nat) : (s.cacheLine q ln dirty cls).outsideMem = s.outsideMem := by
  simp [State.cacheLine, apply_ite State.outsideMem]
@[simp] theorem State.countCache_outsideMem (s : State) (q : Nat) (hit : Bool) : (s.countCache q hit).outsideMem = s.outsideMem := by
  unfold State.countCache
  cases hit <;> simp [apply_ite State.outsideMem]

@[simp] theorem State.wakeSlices_outsideMem (s : State) (ln : Nat) : (s.wakeSlices ln).outsideMem = s.outsideMem := by
  simp [State.wakeSlices, apply_ite State.outsideMem]
/-- A read through the Tun changes nothing outside the memories and what a memory error reaches (06 R199). -/
@[simp] theorem State.touchRead_outsideMem (s : State) (ln cls : Nat) : (s.touchRead ln cls).outsideMem = s.outsideMem := by
  unfold State.touchRead
  split
  · dsimp only
    split
    · simp
    · split
      · simp
      · split <;> simp
  · simp
  · rfl

@[simp] theorem State.fetch_outsideMem (s : State) (c : Nat) : (s.fetch c).outsideMem = s.outsideMem := by
  unfold State.fetch
  split <;> simp

@[simp] theorem State.fetch_streams (s : State) (c : Nat) : (s.fetch c).streams = s.streams := (congrArg State.streams (s.fetch_outsideMem c) :)
@[simp] theorem State.fetch_stream (s : State) (c j : Nat) : (s.fetch c).stream j = s.stream j := by simp [State.stream]
@[simp] theorem State.fetch_fabric (s : State) (c : Nat) : (s.fetch c).fabric = s.fabric := (congrArg State.fabric (s.fetch_outsideMem c) :)
@[simp] theorem State.fetch_sync (s : State) (c : Nat) : (s.fetch c).sync = s.sync := (congrArg State.sync (s.fetch_outsideMem c) :)
@[simp] theorem State.fetch_esc (s : State) (c : Nat) : (s.fetch c).esc = s.esc := (congrArg State.esc (s.fetch_outsideMem c) :)
@[simp] theorem State.fetch_jobOf (s : State) (c d : Nat) : (s.fetch c).jobOf d = s.jobOf d := by simp [State.jobOf]
@[simp] theorem State.fetch_gstsOut (s : State) (c d : Nat) : (s.fetch c).gstsOut d = s.gstsOut d := by simp [State.gstsOut]
@[simp] theorem State.fetch_csigsOut (s : State) (c d : Nat) : (s.fetch c).csigsOut d = s.csigsOut d := by simp [State.csigsOut]
/-- What changes nothing outside the memories changes no member of an object that counts no reads. -/
theorem State.objGet_of_outsideMem (s t : State) (h : t.outsideMem = s.outsideMem) (o m : Nat) (ho : o ∉ readStatistics) (hm : m < 256) : t.objGet o m = s.objGet o m := by
  have key (u : Tbl Nat) (d : Nat) : tget d (controls u) (256 * o + m) = tget d u (256 * o + m) := by
    unfold controls
    rw [tget_filter d u (fun k => !readStatistics.contains (k / 256)), show (256 * o + m) / 256 = o by omega]
    exact if_pos (by simpa using ho)
  have same : controls t.obj = controls s.obj := congrArg State.obj h
  unfold State.objGet
  rw [← key, same, key]

theorem State.fetch_objGet (s : State) (c o m : Nat) (ho : o ∉ readStatistics) (hm : m < 256) : (s.fetch c).objGet o m = s.objGet o m :=
  State.objGet_of_outsideMem _ _ (s.fetch_outsideMem c) o m ho hm

end Sys2Proof.Machine
end


section
/-! O27: fences (04 R151). -/

namespace Sys2Proof.Machine

theorem exec_fenceLocal (c : Fin 144) (w : GenFields) (s : State) : exec (.fenceLocal c w) s = execFenceLocal c w s := rfl
theorem exec_fenceGlobal (c : Fin 144) (w : GenFields) (s : State) : exec (.fenceGlobal c w) s = execFenceGlobal c w s := rfl
theorem exec_fenceAll (c : Fin 144) (w : GenFields) (s : State) : exec (.fenceAll c w) s = execFenceAll c w s := rfl
theorem exec_fenceRelease (c : Fin 144) (s : State) : exec (.fenceRelease c) s = execFenceRelease c s := rfl

theorem Core.localQuiet_iff (x : Core) :
    x.localQuiet = true ↔ x.arrayQ = [] ∧ x.current = none ∧ x.loadBusy = false ∧ x.epiQ = [] ∧ x.draining = none := by
  simp [Core.localQuiet, and_assoc]

theorem State.globalQuiet_iff (s : State) (c : Nat) : s.globalQuiet c = true ↔ s.gstsOut c = [] ∧ s.csigsOut c = [] := by
  simp [State.globalQuiet]

/-- What a fence waits for is the same once the instruction has been fetched. -/
theorem State.fenceDone_issued (s : State) (c : Fin 144) (f : Wait) : ((s.fetch c).setCore c (s.core c).go).fenceDone c f = s.fenceDone c f := by
  have acked : ((s.fetch c).setCore c (s.core c).go).globalQuiet c = s.globalQuiet c := by simp [State.globalQuiet, State.gstsOut, State.csigsOut]
  cases f <;> simp [State.fenceDone, acked] <;> rfl

/-- A fence passes at once when its condition holds, and waits otherwise. -/
theorem State.fence_passes_or_waits (s : State) (c : Fin 144) (w : GenFields) (func : Nat) (f : Wait) (h : s.fresh c)
    (hu : ({ func := false } : Uses).bad { w with func := 0 } = false) (hf : func ≤ 2) :
    s.fence c w func f = (s.fetch c).setCore c (if s.fenceDone c f then (s.core c).go.next else { (s.core c).go with wait := f }) := by
  have fields : ({} : Uses).bad { w with func := BitVec.ofNat 5 func } = false := by simpa [Uses.bad] using hu
  unfold State.fence
  dsimp only
  rw [State.issue_fresh s c _ _ _ h (by simp [fields, hf]) rfl, State.fenceDone_issued]
  split
  · exact coreStep_issued s c id
  · exact modCore_issued s c _

/-- The end of a fence's wait goes on to the next instruction. -/
theorem Core.release_fence (x : Core) (status : Nat) (h : x.wait = .fenceLocal ∨ x.wait = .fenceGlobal ∨ x.wait = .fenceAll) :
    x.release status = { x with wait := .none, pc := x.pc + 16 } := by
  unfold Core.release
  rcases h with h | h | h <;> simp only [h] <;> rfl

/-- A fence that waits is released once its condition holds. -/
theorem execFenceRelease_releases (s : State) (c : Fin 144) (f : Wait) (hw : (s.core c).wait = f) (hf : f = .fenceLocal ∨ f = .fenceGlobal ∨ f = .fenceAll) :
    execFenceRelease c s = .next (if s.fenceDone c f then s.setCore c { s.core c with wait := .none, pc := (s.core c).pc + 16 } else s) := by
  subst hw
  rw [execFenceRelease, State.modCore, Core.release_fence _ 0 hf]

/-- Settles O27: each fence by what it waits for. -/
theorem fences : Obligations.Fences := by
  unfold Obligations.Fences
  intro s c x quiet acked
  have local_ : s.fenceDone c .fenceLocal = true ↔ quiet := x.localQuiet_iff
  have global : s.fenceDone c .fenceGlobal = true ↔ acked := s.globalQuiet_iff c
  have all : s.fenceDone c .fenceAll = true ↔ quiet ∧ acked := by
    rw [← local_, ← global]
    exact Bool.and_eq_true_iff
  refine ⟨fun w h hu => ?_, fun hw => ?_, fun hw => ?_, fun hw => ?_⟩
  · have fence := fun func f => State.fence_passes_or_waits s c w func f h hu
    simp only [exec_fenceLocal, exec_fenceGlobal, exec_fenceAll, execFenceLocal, execFenceGlobal, execFenceAll,
      fence 0 _ (by omega), fence 1 _ (by omega), local_, global]
    refine ⟨fun h => by rw [if_pos h], fun h => by rw [if_neg h], fun h => by rw [if_pos h], fun h => by rw [if_neg h], fun hf => ?_⟩
    have hf : max 2 w.func.toNat = 2 := max_eq_left hf
    simp only [hf, fence 2 _ (by omega), all]
    exact ⟨fun h => by rw [if_pos h], fun h => by rw [if_neg h]⟩
  · rw [exec_fenceRelease, execFenceRelease_releases s c _ hw (by simp), if_congr local_ rfl rfl]
  · rw [exec_fenceRelease, execFenceRelease_releases s c _ hw (by simp), if_congr global rfl rfl]
  · rw [exec_fenceRelease, execFenceRelease_releases s c _ hw (by simp), if_congr all rfl rfl]

end Sys2Proof.Machine
end


section
/-! O13: ASSAY and BRK (04 R155, R157). -/

namespace Sys2Proof.Machine

theorem exec_assay (c : Fin 144) (w : GenFields) (s : State) : exec (.assay c w) s = execAssay c w s := rfl
theorem exec_brk (c : Fin 144) (w : GenFields) (s : State) : exec (.brk c w) s = execBrk c w s := rfl
theorem exec_brkResume (n : BitVec 8) (s : State) : exec (.brkResume n) s = execBrkResume n s := rfl

theorem State.msix_alike (s : State) (v : Nat) : s.alike (s.msix v) := by
  unfold State.msix
  split <;> rfl

theorem State.msix_fynen (s : State) (v : Nat) : (s.msix v).fynen = s.fynen := by
  unfold State.msix
  split <;> rfl

/-- An event touches the log and its messages, MSI-X, the outputs and the count of free values alone (12 R456). -/
theorem State.event_alike (s : State) (code obj detail : Nat) : s.alike (s.event code obj detail) := by
  unfold State.event State.alike
  dsimp only
  split
  all_goals exact congrArg (fun t : State => { t with fynen := s.fynen, host := s.host, out := s.out, free := s.free }) (State.msix_alike _ 255)

/-- The event is the newest of the log. -/
theorem State.event_logged (s : State) (code obj detail : Nat) : (s.event code obj detail).logged code obj detail := by
  have log : ∃ e r, (s.event code obj detail).fynen.log = e :: r ∧ e.code = BitVec.ofNat 16 code ∧ e.obj = BitVec.ofNat 16 obj ∧
      e.detail = BitVec.ofNat 64 detail := by
    unfold State.event
    dsimp only
    split
    all_goals
      refine ⟨_, _, (congrArg Fynen.log (State.msix_fynen _ 255)).trans (List.take_succ_cons ..), rfl, rfl, rfl⟩
  exact log

/-- What the member answers stands for the write that reaches it. -/
theorem State.objectRow_answers (s : State) (o m : Nat) (f : State → State) (h : s.answers o m) : s.objectRow o m f = f s := by
  obtain ⟨hsilent, hstop⟩ := h
  simp [State.objectRow, hsilent, hstop]

theorem execAssay_marks (s : State) (c : Fin 144) (w : GenFields) (h : s.fresh c) (hu : ({} : Uses).bad w = false) (hf : w.func = 0) :
    execAssay c w s = .next ((s.fetch c).setCore c { (s.core c).go with
      assayMark := if s.esc.profile = 0 then (s.core c).assayMark else true, pc := (s.core c).pc + 16 }) := by
  unfold execAssay
  rw [State.issue_coreStep s c _ _ _ h (by simp [Uses.bad_unusedFunc _ w hu hf]) rfl]
  have mark : ((s.core c).assayMark || s.esc.profile != 0) = if s.esc.profile = 0 then (s.core c).assayMark else true := by
    by_cases hp : s.esc.profile = 0 <;> simp [hp]
  rw [← mark]
  rfl

/-- BRK halts its core in a debug job and raises event 0x04FE; in another job it goes on (04 R157). -/
theorem execBrk_halts (s : State) (c : Fin 144) (w : GenFields) (h : s.fresh c) (hu : ({} : Uses).bad w = false) (hf : w.func = 0) :
    execBrk c w s = .next (if (s.objGet 0x3110 0).testBit (s.jobOf c) then
        ((s.fetch c).setCore c { (s.core c).go with run := .brk, pc := (s.core c).pc + 16 }).event 0x04FE 0x3110
          (c.val + 2 ^ 8 * (((s.core c).pc + 16).toNat / 16))
      else (s.fetch c).setCore c (s.core c).go.next) := by
  unfold execBrk
  dsimp only
  rw [State.issue_fresh s c _ _ _ h (by simp [Uses.bad_unusedFunc _ w hu hf]) rfl, coreStep_issued, State.core_setCore _ _ _ c.isLt]
  by_cases on : (s.objGet 0x3110 0).testBit (s.jobOf c) = true
  · simp only [if_pos on]
    rfl
  · simp only [if_neg on]

/-- A core that BRK has halted goes on; another is left. -/
def Core.resumed (x : Core) : Core := if x.run = .brk then { x with run := .running } else x

/-- BRK_RESUME of one core (04 R157). -/
def State.resume (s : State) (c : Nat) : State := if (s.core c).run = .brk then s.modCore c (fun x => { x with run := .running }) else s

theorem State.resume_all_core (s : State) (k : Nat) : (s.each (List.range 144) State.resume).core k = (s.core k).resumed := by
  refine State.core_each_own Core.resumed State.resume rfl (fun s i hi => ?_) (fun s i k hk => ?_) s k
  · unfold State.resume Core.resumed
    split
    · exact State.core_modCore _ _ _ hi
    · rfl
  · unfold State.resume
    split
    · exact State.core_modCore_ne _ _ _ _ hk
    · rfl

theorem State.resume_all_frame (s : State) : { s.each (List.range 144) State.resume with cores := s.cores } = s := by
  refine State.each_invariant (P := fun t => { t with cores := s.cores } = s) _ _ _ rfl fun t ht i _ => ?_
  unfold State.resume
  split <;> exact ht

theorem execBrkResume_answers (s : State) (n : BitVec 8) (h : s.answers 0x3110 4) :
    execBrkResume n s = .next (if n = 255 then (s.each (List.range 144) State.resume).reply 0x3110 4 0
      else if 144 ≤ n.toNat then s.reply 0x3110 4 0x0201
      else if (s.core n.toNat).run = .brk then (s.resume n.toNat).reply 0x3110 4 0
      else s.reply 0x3110 4 0x0205) := by
  rw [execBrkResume, State.objectRow_answers _ _ _ _ h]
  rfl

/-- Settles O13: the mark, the halt with its event, and the answers of object 0x3110.4. -/
theorem debugInstructions : Obligations.DebugInstructions := by
  unfold Obligations.DebugInstructions
  intro s c x
  refine ⟨fun w h hu hf => ⟨execAssay_marks s c w h hu hf, fun on => ?_, fun off => ?_⟩, fun h n => ?_⟩
  · refine ⟨_, execBrk_halts s c w h hu hf, ?_⟩
    rw [if_pos on]
    exact ⟨State.event_alike _ _ _ _, State.event_logged _ _ _ _⟩
  · rw [exec_brk, execBrk_halts s c w h hu hf, if_neg (by simp [off])]
  · have row := (exec_brkResume n s).trans (execBrkResume_answers s n h)
    refine ⟨fun hn hbrk => ?_, fun hn hrun => ?_, fun hn => ⟨_, row, ?_⟩, fun hn hne => ?_⟩
    · have hne : n ≠ 255 := by rintro rfl; exact absurd hn (by decide)
      rw [row, if_neg hne, if_neg (by omega), if_pos hbrk, State.resume, if_pos hbrk]
      rfl
    · have hne : n ≠ 255 := by rintro rfl; exact absurd hn (by decide)
      rw [row, if_neg hne, if_neg (by omega), if_neg hrun]
    · rw [if_pos hn]
      have frame := s.resume_all_frame
      have cores := s.resume_all_core
      generalize s.each (List.range 144) State.resume = t at frame cores ⊢
      exact ⟨(congrArg (fun t : State => t.reply 0x3110 4 0) frame :), fun k _ => cores k⟩
    · rw [row, if_neg hne, if_pos hn]

end Sys2Proof.Machine
end


section
/-! O12: tile groups and their boundaries (04 R152, R153). -/

namespace Sys2Proof.Machine

theorem exec_tgb (c : Fin 144) (w : GenFields) (s : State) : exec (.tgb c w) s = execTgb c w s := rfl
theorem exec_snapshotWriteComplete (c : Fin 144) (s : State) : exec (.snapshotWriteComplete c) s = execSnapshotWriteComplete c s := rfl
theorem exec_groupBoundaryClose (c : Fin 144) (s : State) : exec (.groupBoundaryClose c) s = execGroupBoundaryClose c s := rfl

/-- The newest boundary stays when older ones go. -/
theorem trimBounds_head (b : Boundary) (r : List Boundary) : (trimBounds (b :: r)).head? = some b := by
  unfold trimBounds
  split <;> rfl

/-- With every older boundary closed, the newest closes once its work is done (04 R153). -/
theorem closeOldest_newest (done : BoundWork → Bool) (b : Boundary) (r : List Boundary) (hopen : b.closed = false) (hr : r.all (·.closed) = true) :
    closeOldest done (b :: r) = if done b.work then { b with closed := true } :: r else b :: closeOldest done r := by
  simp only [closeOldest, hopen, hr, Bool.not_false, Bool.true_and]

/-- TGB ends the group and takes the snapshot (04 R152). -/
theorem execTgb_ends (s : State) (c : Fin 144) (w : GenFields) (h : s.fresh c) (hu : ({ imm := 32 } : Uses).bad w = false) (hf : w.func = 0)
    (hfree : (s.core c).saveBusy = false) :
    execTgb c w s = .next ((s.fetch c).setCore c ((s.core c).go.endGroup (w.imm.setWidth 32)).next) := by
  unfold execTgb
  rw [State.issue_coreStep s c _ _ _ h (by simp [Uses.bad_unusedFunc _ w hu hf]) (by simp [hfree])]

/-- With the save buffer busy TGB waits. -/
theorem execTgb_waits (s : State) (c : Fin 144) (w : GenFields) (h : s.fresh c) (hu : ({ imm := 32 } : Uses).bad w = false) (hf : w.func = 0)
    (hbusy : (s.core c).saveBusy = true) : execTgb c w s = .next ((s.fetch c).setCore c { (s.core c).go with stall := .saveBuffer }) := by
  unfold execTgb
  rw [State.issue_stall s c _ _ _ h (by simp [Uses.bad_unusedFunc _ w hu hf]) (by simp [hbusy]), hbusy, if_pos rfl]

/-- The newest snapshot is marked as saved. -/
def saveNewest : List Boundary → List Boundary
  | b :: r => { b with saved := true } :: r
  | [] => []

/-- The write of a snapshot ends. -/
theorem execSnapshotWriteComplete_saves (s : State) (c : Fin 144) (hbusy : (s.core c).saveBusy = true) :
    execSnapshotWriteComplete c s = .next (s.setCore c { s.core c with saveBusy := false, bounds := trimBounds (saveNewest (s.core c).bounds) }) := by
  unfold execSnapshotWriteComplete
  dsimp only
  rw [if_pos hbusy]
  rfl

/-- Settles O12: the boundary that TGB adds, and the marks that the two events give it. -/
theorem tileGroups : Obligations.TileGroups := by
  unfold Obligations.TileGroups
  intro s c x
  refine ⟨fun w h hu hf => ⟨fun hfree => ?_, fun hbusy => execTgb_waits s c w h hu hf hbusy⟩, fun hbusy => ?_, fun b r hb hopen hr => ?_⟩
  · refine ⟨_, execTgb_ends s c w h hu hf hfree, ?_⟩
    simp only [State.core_setCore _ _ _ c.isLt]
    refine ⟨rfl, fun hskip => ?_, _, rfl, rfl, rfl, rfl⟩
    have none_left : (s.core c).go.skipNext = [] := hskip
    simp only [Core.next, Core.endGroup, none_left, List.headD_nil, and_self]
  · refine ⟨_, execSnapshotWriteComplete_saves s c hbusy, ?_⟩
    simp only [State.core_setCore _ _ _ c.isLt]
    refine ⟨rfl, fun b r hb => ?_⟩
    rw [show (s.core c).bounds = b :: r from hb]
    exact trimBounds_head _ _
  · have bounds : closeOldest (s.workDone c) (s.core c).bounds = _ := (congrArg _ hb).trans (closeOldest_newest _ b r hopen hr)
    refine ⟨_, exec_groupBoundaryClose c s, ?_⟩
    simp only [State.modCore, State.core_setCore _ _ _ c.isLt, bounds]
    refine ⟨rfl, fun hdone => ?_, fun hdone => ?_⟩
    · rw [if_pos hdone, trimBounds_head]
    · rw [if_neg (by simp [hdone]), trimBounds_head]

end Sys2Proof.Machine
end


section
/-! SUPPORT. Laws of effect instructions outside a replay (04 R154). -/

namespace Sys2Proof.Machine

/-- The count of the effect instructions of a group rises by one. -/
def Core.countEffect (x : Core) : Core := { x with effects := { x.effects with count := x.effects.count + 1 } }

/-- An effect instruction without a result, outside a replay: its effect, then the core goes on with one more effect counted. -/
theorem State.effect_counts (s : State) (c : Fin 144) (eff : State → State × Word) (pz : Bool) (hskip : (s.core c).skip = 0) :
    s.effect c none eff pz = (eff s).1.modCore c (fun x => x.countEffect.next) := by
  unfold State.effect
  dsimp only
  rw [if_neg (by simp [hskip])]
  simp [State.modCore, State.setCore_setCore, Core.countEffect]

end Sys2Proof.Machine
end

section
/-! O26: waits on counters and barriers, and arrivals (04 R149, R150; 09 R314, R321, R322). -/

namespace Sys2Proof.Machine

theorem exec_cwait (c : Fin 144) (w : GenFields) (s : State) : exec (.cwait c w) s = execCwait c w s := rfl
theorem exec_barrive (c : Fin 144) (w : GenFields) (s : State) : exec (.barrive c w) s = execBarrive c w s := rfl
theorem exec_barwait (c : Fin 144) (w : GenFields) (s : State) : exec (.barwait c w) s = execBarwait c w s := rfl
theorem exec_cwaitSatisfied (c : Fin 144) (s : State) : exec (.cwaitSatisfied c) s = execCwaitSatisfied c s := rfl
theorem exec_cwaitLimitExpiry (c : Fin 144) (s : State) : exec (.cwaitLimitExpiry c) s = execCwaitLimitExpiry c s := rfl
theorem exec_barwaitRelease (c : Fin 144) (s : State) : exec (.barwaitRelease c) s = execBarwaitRelease c s := rfl
theorem exec_barwaitLimitExpiry (c : Fin 144) (s : State) : exec (.barwaitLimitExpiry c) s = execBarwaitLimitExpiry c s := rfl

/-! ## Counters -/

theorem State.counter_of_sync (s t : State) (h : s.sync = t.sync) (n : Nat) : s.counter n = t.counter n := by simp [State.counter, h]
theorem State.slot_of_sync (s t : State) (h : s.sync = t.sync) (i : Nat) : s.slot i = t.slot i := by simp [State.slot, h]

/-- The condition of a wait on a counter: equal, or at least, unsigned (09 R314). -/
theorem condHolds_iff (v : BitVec 32) (eq : Bool) (lim : BitVec 32) :
    condHolds v eq lim = true ↔ if eq then v = lim else lim.toNat ≤ v.toNat := by
  cases eq <;> simp [condHolds]

/-- CWAIT of a counter of the job: it goes on with status 0, or waits (04 R150). -/
theorem execCwait_passes_or_waits (s : State) (c : Fin 144) (w : GenFields) (h : s.fresh c)
    (hu : ({ d := true, a := true, b := true, c := true, imm := 16 } : Uses).bad w = false) (hf : w.func.toNat ≤ 1)
    (howner : s.counterOwner (s.counterOf c w) = s.jobOf c) :
    let x := s.core c
    let lim := (x.s w.b.toNat).setWidth 32
    execCwait c w s = .next ((s.fetch c).setCore c (if condHolds (s.counter (s.counterOf c w)).val (w.func == 1) lim then (x.go.setS w.d.toNat 0 false).next
      else { x.go with wait := .counter (BitVec.ofNat 16 (s.counterOf c w)) (w.func == 1) lim w.d (x.s w.c.toNat != 0) })) := by
  intro x lim
  have counter : ((s.fetch c).setCore c (s.core c).go).counter (s.counterOf c w) = s.counter (s.counterOf c w) :=
    State.counter_of_sync _ _ (by simp) _
  unfold execCwait
  dsimp only
  rw [State.issue_fresh s c _ _ _ h (by simp [hu, hf, howner]) rfl, counter]
  split
  · rw [coreStep_issued]
  · rw [modCore_issued]
    rfl

/-- A counter that the job does not own faults (09 R316). -/
theorem execCwait_faults (s : State) (c : Fin 144) (w : GenFields) (h : s.fresh c)
    (hu : ({ d := true, a := true, b := true, c := true, imm := 16 } : Uses).bad w = false)
    (howner : s.counterOwner (s.counterOf c w) ≠ s.jobOf c) : execCwait c w s = .next ((s.fetch c).coreFault c 0x03 (genWord 0x71 w) 0) := by
  unfold execCwait
  dsimp only
  rw [State.issue_fault s c _ _ _ 0x03 h (by simp [hu, howner])]

/-- A wait on a counter or a barrier that ends with a status in its register. -/
def Core.endWait (x : Core) (d : BitVec 5) (status : Nat) : Core := (({ x with wait := .none } : Core).setS d.toNat (BitVec.ofNat 64 status) false).next

theorem Core.release_counter (x : Core) (status : Nat) (n : BitVec 16) (eq : Bool) (v : BitVec 32) (d : BitVec 5) (limited : Bool)
    (h : x.wait = .counter n eq v d limited) : x.release status = x.endWait d status := by
  simp only [Core.release, h, Core.endWait]

theorem Core.release_barrier (x : Core) (status : Nat) (i : BitVec 8) (p : BitVec 32) (d : BitVec 5) (limited : Bool)
    (h : x.wait = .barrier i p d limited) : x.release status = x.endWait d status := by
  simp only [Core.release, h, Core.endWait]

theorem execCwaitSatisfied_ends (s : State) (c : Fin 144) (n : BitVec 16) (eq : Bool) (v : BitVec 32) (d : BitVec 5) (limited : Bool)
    (h : (s.core c).wait = .counter n eq v d limited) :
    execCwaitSatisfied c s = .next (if condHolds (s.counter n.toNat).val eq v then s.setCore c ((s.core c).endWait d 0) else s) := by
  unfold execCwaitSatisfied
  simp only [h, State.modCore, Core.release_counter _ _ n eq v d limited h]

theorem execCwaitLimitExpiry_ends (s : State) (c : Fin 144) (n : BitVec 16) (eq : Bool) (v : BitVec 32) (d : BitVec 5) (limited : Bool)
    (h : (s.core c).wait = .counter n eq v d limited) :
    execCwaitLimitExpiry c s = .next (if limited then s.setCore c ((s.core c).endWait d 1) else s) := by
  unfold execCwaitLimitExpiry
  simp only [h, State.modCore, Core.release_counter _ _ n eq v d limited h]

/-! ## Arrivals -/

/-- A slot with an arrival of a core counted (09 R322). -/
def Slot.arrive (x : Slot) (c : Nat) : Slot :=
  let y := if x.arrived.getLsbD c then { x with next := x.next ||| BitVec.twoPow 144 c } else { x with arrived := x.arrived ||| BitVec.twoPow 144 c }
  { y with everArrived := x.everArrived ||| BitVec.twoPow 144 c }

/-- A core-kind slot whose phase completes (09 R321). -/
def Slot.completed (x : Slot) : Slot :=
  { x with state := .opened, phase := x.phase + 1, arrived := x.next, next := 0, sent := false, kids := x.kids.filter (fun k => k.2 != x.phase) }

/-- While an arrival is missing, a look at a slot changes nothing. -/
theorem State.slotStep_waits (s : State) (i : Nat) (h : (s.slot i).arrived &&& (s.slot i).mask ≠ (s.slot i).mask) : s.slotStep i = s := by
  unfold State.slotStep
  dsimp only
  rw [if_pos (.inr (.inr h))]

/-- With every arrival there, a core-kind slot completes its phase. -/
theorem State.slotStep_completes (s : State) (i : Nat) (hopen : (s.slot i).state = .opened) (hmask : (s.slot i).mask ≠ 0) (hkind : (s.slot i).group = false)
    (h : (s.slot i).arrived &&& (s.slot i).mask = (s.slot i).mask) : s.slotStep i = (s.setSlot i (s.slot i).completed).bump 0x5040 8 1 := by
  unfold State.slotStep
  dsimp only
  rw [if_neg (by simpa [hopen, h] using hmask), if_pos (by simp [hkind])]
  rfl

theorem State.slotArrive_eq (s : State) (i c : Nat) : s.slotArrive i c = (s.setSlot i ((s.slot i).arrive c)).slotTry i := by
  unfold State.slotArrive Slot.arrive
  dsimp only
  split <;> rfl

/-- An arrival leaves the mask, the state and the kind of a slot. -/
theorem Slot.arrive_same (x : Slot) (c : Nat) : (x.arrive c).mask = x.mask ∧ (x.arrive c).state = x.state ∧ (x.arrive c).group = x.group := by
  unfold Slot.arrive
  dsimp only
  split <;> exact ⟨rfl, rfl, rfl⟩

theorem State.slot_bump (s : State) (o m n i : Nat) : (s.bump o m n).slot i = s.slot i := rfl

/-- An arrival that does not complete the phase (09 R322). -/
theorem State.slotArrive_waits (s : State) (i c : Nat) (h : ((s.slot i).arrive c).arrived &&& (s.slot i).mask ≠ (s.slot i).mask) :
    s.slotArrive i c = s.setSlot i ((s.slot i).arrive c) := by
  have still : (s.setSlot i ((s.slot i).arrive c)).slotStep i = s.setSlot i ((s.slot i).arrive c) := by
    apply State.slotStep_waits
    rwa [State.slot_setSlot, ((s.slot i).arrive_same c).1]
  rw [State.slotArrive_eq, State.slotTry, still, still]

/-- The arrival of the last core completes the phase (09 R321). -/
theorem State.slotArrive_completes (s : State) (i c : Nat) (hopen : (s.slot i).state = .opened) (hmask : (s.slot i).mask ≠ 0)
    (hkind : (s.slot i).group = false) (hnext : ((s.slot i).arrive c).next = 0)
    (h : ((s.slot i).arrive c).arrived &&& (s.slot i).mask = (s.slot i).mask) :
    s.slotArrive i c = ((s.setSlot i ((s.slot i).arrive c)).setSlot i ((s.slot i).arrive c).completed).bump 0x5040 8 1 := by
  obtain ⟨same, opened, kind⟩ := (s.slot i).arrive_same c
  have first := (s.setSlot i ((s.slot i).arrive c)).slotStep_completes i
  rw [State.slot_setSlot, same, opened, kind] at first
  rw [State.slotArrive_eq, State.slotTry, first hopen hmask hkind h]
  apply State.slotStep_waits
  rw [State.slot_bump, State.slot_setSlot, Slot.completed]
  simp only [hnext, same]
  simpa using hmask.symm

/-- A state after an arrival at a slot differs from the one before in that slot and in statistics. -/
def State.ArrivedAt (u t : State) (i : Nat) (x : Slot) : Prop :=
  t.slot i = x ∧ (∀ m, m ≠ i → t.slot m = u.slot m) ∧ { t with sync := u.sync, obj := u.obj } = u

theorem State.setSlot_arrivedAt (u : State) (i : Nat) (x : Slot) : u.ArrivedAt (u.setSlot i x) i x :=
  ⟨State.slot_setSlot _ _ _, fun _ hm => State.slot_setSlot_ne _ _ _ _ hm, rfl⟩

theorem State.setSlot_setSlot_arrivedAt (u : State) (i : Nat) (x y : Slot) : u.ArrivedAt (((u.setSlot i x).setSlot i y).bump 0x5040 8 1) i y :=
  ⟨State.slot_setSlot _ _ _, fun _ hm => (State.slot_setSlot_ne _ _ _ _ hm).trans (State.slot_setSlot_ne _ _ _ _ hm), rfl⟩

/-- BARRIVE of a core of the slot's mask counts as an effect, and arrives (04 R149, R154). -/
theorem execBarrive_arrives (s : State) (c : Fin 144) (w : GenFields) (h : s.fresh c) (hu : ({ imm := 8 } : Uses).bad w = false) (hf : w.func = 0)
    (hskip : (s.core c).skip = 0) (hfull : (s.core c).groupFull false = false) (howner : s.slotOwner w.imm.toNat = s.jobOf c)
    (hmask : (s.slot w.imm.toNat).mask.getLsbD c = true) (hnext : (s.slot w.imm.toNat).next.getLsbD c = false) :
    execBarrive c w s = .next ((((s.fetch c).setCore c (s.core c).go).slotArrive w.imm.toNat c).modCore c (fun x => x.countEffect.next)) := by
  have small : w.imm.toNat % 256 = w.imm.toNat := Nat.mod_eq_of_lt (Nat.lt_of_div_eq_zero (by norm_num) (imm_small _ w hu))
  have skip : (((s.fetch c).setCore c (s.core c).go).core c).skip = 0 := by
    rw [State.core_setCore _ _ _ c.isLt]
    exact hskip
  unfold execBarrive
  dsimp only
  rw [small, State.issue_fresh s c _ _ _ h (by simp [hu, hf, hfull, howner, hmask]) (if_neg fun ahead => absurd (hnext.symm.trans ahead.2) (by simp)),
    State.effect_counts _ _ _ _ skip]

/-- A second arrival ahead stalls (09 R322). -/
theorem execBarrive_stalls (s : State) (c : Fin 144) (w : GenFields) (h : s.fresh c) (hu : ({ imm := 8 } : Uses).bad w = false) (hf : w.func = 0)
    (hskip : (s.core c).skip = 0) (hfull : (s.core c).groupFull false = false) (howner : s.slotOwner w.imm.toNat = s.jobOf c)
    (hmask : (s.slot w.imm.toNat).mask.getLsbD c = true) (hnext : (s.slot w.imm.toNat).next.getLsbD c = true) :
    execBarrive c w s = .next ((s.fetch c).setCore c { (s.core c).go with stall := .barrierAhead }) := by
  have small : w.imm.toNat % 256 = w.imm.toNat := Nat.mod_eq_of_lt (Nat.lt_of_div_eq_zero (by norm_num) (imm_small _ w hu))
  unfold execBarrive
  dsimp only
  rw [small, State.issue_stall s c _ _ _ h (by simp [hu, hf, hfull, howner, hmask]) (by rw [if_pos ⟨hskip, hnext⟩]; simp), if_pos ⟨hskip, hnext⟩]

/-- A slot of another job, or one whose mask leaves the core out, faults (09 R322). -/
theorem execBarrive_faults (s : State) (c : Fin 144) (w : GenFields) (h : s.fresh c) (hu : ({ imm := 8 } : Uses).bad w = false)
    (hfull : (s.core c).groupFull false = false) (hother : s.slotOwner w.imm.toNat ≠ s.jobOf c ∨ (s.slot w.imm.toNat).mask.getLsbD c = false) :
    execBarrive c w s = .next ((s.fetch c).coreFault c 0x03 (genWord 0x73 w) 0) := by
  have small : w.imm.toNat % 256 = w.imm.toNat := Nat.mod_eq_of_lt (Nat.lt_of_div_eq_zero (by norm_num) (imm_small _ w hu))
  have other : (decide (w.func ≠ 0) || s.slotOwner w.imm.toNat != s.jobOf c || !(s.slot w.imm.toNat).mask.getLsbD c) = true := by
    rcases hother with ho | ho
    · simp [ho]
    · rw [ho]
      simp
  unfold execBarrive
  dsimp only
  rw [small, State.issue_fault s c _ _ _ 0x03 h (by rw [codes_cons, codes_cons, codes_cons, hu, other, hfull]; rfl)]

/-! ## Waits on barriers -/

/-- Whether a slot has become ORPHANED while the job of a core owned it (09 R324). -/
def State.slotGone (s : State) (i c : Nat) : Prop := (s.slot i).state = .orphaned ∧ tget 8 s.sync.orphanOf (256 + i) = s.jobOf c

theorem State.slotGone_iff (s : State) (i c : Nat) :
    ((s.slot i).state == .orphaned && tget 8 s.sync.orphanOf (256 + i) == s.jobOf c) = true ↔ s.slotGone i c := by
  simp [State.slotGone]

/-- BARWAIT on a slot that has gone returns 2 at once (04 R150). -/
theorem execBarwait_gone (s : State) (c : Fin 144) (w : GenFields) (h : s.fresh c) (hu : ({ d := true, c := true, imm := 8 } : Uses).bad w = false)
    (hf : w.func = 0) (hgone : s.slotGone w.imm.toNat c) :
    execBarwait c w s = .next ((s.fetch c).setCore c ((s.core c).go.setS w.d.toNat 2 false).next) := by
  have small : w.imm.toNat % 256 = w.imm.toNat := Nat.mod_eq_of_lt (Nat.lt_of_div_eq_zero (by norm_num) (imm_small _ w hu))
  have gone := (s.slotGone_iff _ _).mpr hgone
  unfold execBarwait
  dsimp only
  rw [small, gone, State.issue_fresh s c _ _ _ h (by simp [hu, hf]) rfl, if_pos rfl, coreStep_issued]

/-- A slot of another job faults. -/
theorem execBarwait_faults (s : State) (c : Fin 144) (w : GenFields) (h : s.fresh c) (hu : ({ d := true, c := true, imm := 8 } : Uses).bad w = false)
    (hgone : ¬s.slotGone w.imm.toNat c) (howner : s.slotOwner w.imm.toNat ≠ s.jobOf c) :
    execBarwait c w s = .next ((s.fetch c).coreFault c 0x03 (genWord 0x74 w) 0) := by
  have small : w.imm.toNat % 256 = w.imm.toNat := Nat.mod_eq_of_lt (Nat.lt_of_div_eq_zero (by norm_num) (imm_small _ w hu))
  have here := Bool.eq_false_iff.mpr (mt (s.slotGone_iff _ _).mp hgone)
  unfold execBarwait
  dsimp only
  rw [small, here, State.issue_fault s c _ _ _ 0x03 h (by simp [hu, howner])]

/-- BARWAIT on a slot of the job waits for the phase of the core's latest arrival, or goes on once it has completed (09 R322). -/
theorem execBarwait_waits (s : State) (c : Fin 144) (w : GenFields) (h : s.fresh c) (hu : ({ d := true, c := true, imm := 8 } : Uses).bad w = false)
    (hf : w.func = 0) (hgone : ¬s.slotGone w.imm.toNat c) (howner : s.slotOwner w.imm.toNat = s.jobOf c) :
    execBarwait c w s = .next ((s.fetch c).setCore c (match (s.slot w.imm.toNat).waitPhase c with
      | none => ((s.core c).go.setS w.d.toNat 0 false).next
      | some p => { (s.core c).go with wait := .barrier (BitVec.ofNat 8 w.imm.toNat) p w.d ((s.core c).s w.c.toNat != 0) })) := by
  have small : w.imm.toNat % 256 = w.imm.toNat := Nat.mod_eq_of_lt (Nat.lt_of_div_eq_zero (by norm_num) (imm_small _ w hu))
  have here := Bool.eq_false_iff.mpr (mt (s.slotGone_iff _ _).mp hgone)
  have slot : ((s.fetch c).setCore c (s.core c).go).slot w.imm.toNat = s.slot w.imm.toNat := State.slot_of_sync _ _ (by simp) _
  unfold execBarwait
  dsimp only
  rw [small, here, State.issue_fresh s c _ _ _ h (by simp [hu, hf, howner]) rfl, if_neg (by simp), slot]
  cases (s.slot w.imm.toNat).waitPhase c with
  | none => exact congrArg _ (coreStep_issued s c _)
  | some p => exact congrArg _ (modCore_issued s c _)

theorem Slot.past_iff (x : Slot) (p : BitVec 32) : x.past p = true ↔ 0 < (x.phase - p).toInt := by simp [Slot.past]

theorem execBarwaitRelease_ends (s : State) (c : Fin 144) (i : BitVec 8) (p : BitVec 32) (d : BitVec 5) (limited : Bool)
    (h : (s.core c).wait = .barrier i p d limited) :
    execBarwaitRelease c s = .next (if (s.slot i.toNat).past p then s.setCore c ((s.core c).endWait d 0) else s) := by
  unfold execBarwaitRelease
  simp only [h, State.modCore, Core.release_barrier _ _ i p d limited h]

theorem execBarwaitLimitExpiry_ends (s : State) (c : Fin 144) (i : BitVec 8) (p : BitVec 32) (d : BitVec 5) (limited : Bool)
    (h : (s.core c).wait = .barrier i p d limited) :
    execBarwaitLimitExpiry c s = .next (if limited then s.setCore c ((s.core c).endWait d 1) else s) := by
  unfold execBarwaitLimitExpiry
  simp only [h, State.modCore, Core.release_barrier _ _ i p d limited h]

/-- What BARRIVE leaves once its arrival is known. -/
theorem barrive_leaves (s t : State) (c : Fin 144) (i : Nat) (z : Slot) (h : ((s.fetch c).setCore c (s.core c).go).ArrivedAt t i z) :
    (t.modCore c (fun x => x.countEffect.next)).slot i = z ∧ (∀ m, m ≠ i → (t.modCore c (fun x => x.countEffect.next)).slot m = s.slot m) ∧
    { t.modCore c (fun x => x.countEffect.next) with sync := s.sync, obj := (s.fetch c).obj } =
      (s.fetch c).setCore c { (s.core c).go with effects := { (s.core c).effects with count := (s.core c).effects.count + 1 }, pc := (s.core c).pc + 16 } := by
  obtain ⟨own, others, frame⟩ := h
  refine ⟨own, fun m hm => (others m hm).trans (State.slot_of_sync _ _ (by simp) m), ?_⟩
  have after := congrArg (fun u : State => u.modCore c (fun x => x.countEffect.next)) frame
  rw [modCore_issued] at after
  rw [← State.fetch_sync s c]
  exact after

/-- The first arrival of the last core (09 R321). -/
theorem Slot.arrive_completed (k : Slot) (c : Nat) (hopen : k.state = .opened) (hnext : k.next = 0) (harr : k.arrived.getLsbD c = false) :
    (k.arrive c).completed = { k with
      phase := k.phase + 1, arrived := 0, sent := false, kids := (k.arrive c).completed.kids, everArrived := k.everArrived ||| BitVec.twoPow 144 c } := by
  simp [Slot.arrive, Slot.completed, harr, hopen, hnext]

theorem Slot.arrive_first (k : Slot) (c : Nat) (harr : k.arrived.getLsbD c = false) :
    k.arrive c = { k with arrived := k.arrived ||| BitVec.twoPow 144 c, everArrived := k.everArrived ||| BitVec.twoPow 144 c } := by
  simp [Slot.arrive, harr]

/-- An arrival ahead is held for the next phase (09 R322). -/
theorem Slot.arrive_ahead (k : Slot) (c : Nat) (harr : k.arrived.getLsbD c = true) (hnext : k.next = 0) :
    k.arrive c = { k with next := BitVec.twoPow 144 c, everArrived := k.everArrived ||| BitVec.twoPow 144 c } := by
  simp [Slot.arrive, harr, hnext]

/-- The phase for which BARWAIT waits (09 R322). -/
theorem Slot.waitPhase_ahead (k : Slot) (c : Nat) (h : k.next.getLsbD c = true) : k.waitPhase c = some (k.phase + 1) := by
  rw [Slot.waitPhase, if_pos h]
theorem Slot.waitPhase_current (k : Slot) (c : Nat) (hnext : k.next.getLsbD c = false)
    (h : k.arrived.getLsbD c = true ∨ k.everArrived.getLsbD c = false) : k.waitPhase c = some k.phase := by
  rcases h with h | h
  · simp only [Slot.waitPhase, hnext, h, if_true, Bool.false_eq_true, if_false]
  · simp only [Slot.waitPhase, hnext, h, Bool.false_eq_true, if_false, ite_self]
theorem Slot.waitPhase_past (k : Slot) (c : Nat) (hnext : k.next.getLsbD c = false) (harr : k.arrived.getLsbD c = false)
    (hever : k.everArrived.getLsbD c = true) : k.waitPhase c = none := by
  simp only [Slot.waitPhase, hnext, harr, hever, if_true, Bool.false_eq_true, if_false]

/-- The counter that CWAIT names, as a 16-bit number. -/
theorem State.counterOf_eq (s : State) (c : Nat) (w : GenFields) :
    (BitVec.ofNat 16 (w.imm.toNat % 65536 + ((s.core c).s w.a.toNat).toNat % 65536)).toNat = s.counterOf c w := BitVec.toNat_ofNat _ _

/-- The counter part of O26. -/
theorem counterWaits (s : State) (c : Fin 144) (w : GenFields) (h : s.fresh c)
    (hu : ({ d := true, a := true, b := true, c := true, imm := 16 } : Uses).bad w = false) (hf : w.func.toNat ≤ 1) (n : BitVec 16)
    (hn : n.toNat = s.counterOf c w) (howner : s.counterOwner n.toNat = s.jobOf c) :
    let x := s.core c
    let v : BitVec 32 := (x.s w.b.toNat).setWidth 32
    (condHolds (s.counter n.toNat).val (w.func == 1) v = true →
      exec (.cwait c w) s = .next ((s.fetch c).setCore c (x.go.setS w.d.toNat 0 false).next)) ∧
    (condHolds (s.counter n.toNat).val (w.func == 1) v = false →
      exec (.cwait c w) s = .next ((s.fetch c).setCore c { x.go with wait := .counter n (w.func == 1) v w.d (x.s w.c.toNat != 0) })) := by
  intro x v
  have number : BitVec.ofNat 16 (s.counterOf c w) = n := by rw [← hn]; simp
  rw [hn] at howner ⊢
  rw [exec_cwait, execCwait_passes_or_waits s c w h hu hf howner]
  exact ⟨fun hc => by rw [if_pos hc], fun hc => by rw [if_neg (by rw [hc]; exact Bool.false_ne_true), number]⟩

/-- Settles O26: waits by their conditions, arrivals by what they leave of the slot. -/
theorem syncWaits : Obligations.SyncWaits := by
  unfold Obligations.SyncWaits
  refine ⟨fun s c => ?_, fun s c => ?_⟩
  · intro x holds ends
    have cond : ∀ n eq v, condHolds (s.counter (BitVec.toNat n)).val eq v = true ↔ holds n eq v := fun n eq v => condHolds_iff _ eq v
    have fails : ∀ n eq v, ¬holds n eq v → condHolds (s.counter (BitVec.toNat n)).val eq v = false := fun n eq v h =>
      Bool.eq_false_iff.mpr (mt (cond n eq v).mp h)
    refine ⟨fun w h hu hf => ?_, fun n eq v d limited hw => ⟨fun hc => ?_, fun hc => ?_, execCwaitLimitExpiry_ends s c n eq v d limited hw⟩⟩
    · intro n v
      have wait := counterWaits s c w h hu hf n (s.counterOf_eq c w)
      refine ⟨fun howner hc => (wait howner).1 ((cond _ _ _).mpr hc), fun howner hc => (wait howner).2 (fails _ _ _ hc), fun howner => ?_⟩
      exact execCwait_faults s c w h hu (by rwa [← s.counterOf_eq c w])
    · rw [exec_cwaitSatisfied, execCwaitSatisfied_ends s c n eq v d limited hw, if_pos ((cond _ _ _).mpr hc)]
      rfl
    · rw [exec_cwaitSatisfied, execCwaitSatisfied_ends s c n eq v d limited hw, fails _ _ _ hc, if_neg (by simp)]
  · intro x ends
    refine ⟨fun w h hu hf hskip hfull => ?_, fun w h hu hf => ?_, fun i p d limited hw => ⟨fun hp => ?_, fun hp => ?_,
      execBarwaitLimitExpiry_ends s c i p d limited hw⟩⟩
    · intro i k me
      refine ⟨fun howner hmask hopen hkind hnext => ?_, execBarrive_stalls s c w h hu hf hskip hfull, execBarrive_faults s c w h hu hfull⟩
      intro out
      have slot : ((s.fetch c).setCore c (s.core c).go).slot i = k := State.slot_of_sync _ _ (by simp) i
      have row := (exec_barrive c w s).trans (execBarrive_arrives s c w h hu hf hskip hfull howner hmask (by rw [show (s.slot w.imm.toNat).next = 0 from hnext]; simp))
      have some_core : k.mask ≠ 0 := fun h0 => by rw [h0] at hmask; simp at hmask
      refine ⟨fun harr hall => ⟨_, row, ?_⟩, fun harr hall => ⟨_, row, ?_⟩, fun harr hall => ⟨_, row, ?_⟩⟩
      · have first := k.arrive_first c harr
        have done := State.slotArrive_completes ((s.fetch c).setCore c (s.core c).go) i c
        rw [slot] at done
        have after := barrive_leaves s _ c i _ (State.setSlot_setSlot_arrivedAt
          ((s.fetch c).setCore c (s.core c).go) i (k.arrive c) (k.arrive c).completed)
        rw [← done hopen some_core hkind (by rw [first]; exact hnext) (by rw [first]; exact hall)] at after
        obtain ⟨own, others, frame⟩ := after
        refine ⟨?_, others, frame⟩
        rw [own]
        exact k.arrive_completed c hopen hnext harr
      · have first := k.arrive_first c harr
        have done := State.slotArrive_waits ((s.fetch c).setCore c (s.core c).go) i c
        rw [slot] at done
        have after := barrive_leaves s _ c i _ (State.setSlot_arrivedAt ((s.fetch c).setCore c (s.core c).go) i (k.arrive c))
        rw [← done (by rw [first]; exact hall), first] at after
        exact after
      · have ahead := k.arrive_ahead c harr hnext
        have done := State.slotArrive_waits ((s.fetch c).setCore c (s.core c).go) i c
        rw [slot] at done
        have after := barrive_leaves s _ c i _ (State.setSlot_arrivedAt ((s.fetch c).setCore c (s.core c).go) i (k.arrive c))
        rw [← done (by rw [ahead]; exact hall), ahead] at after
        exact after
    · intro i k waits gone
      refine ⟨execBarwait_gone s c w h hu hf, execBarwait_faults s c w h hu, fun hgone howner => ?_⟩
      have row := (exec_barwait c w s).trans (execBarwait_waits s c w h hu hf hgone howner)
      refine ⟨fun hnext => ?_, fun hnext harr => ?_, fun hnext harr hever => ?_⟩
      · exact row.trans (by rw [Slot.waitPhase_ahead _ _ hnext])
      · exact row.trans (by rw [Slot.waitPhase_current _ _ hnext harr])
      · exact row.trans (by rw [Slot.waitPhase_past _ _ hnext harr hever])
    · rw [exec_barwaitRelease, execBarwaitRelease_ends s c i p d limited hw, if_pos ((Slot.past_iff _ _).mpr hp)]
      rfl
    · rw [exec_barwaitRelease, execBarwaitRelease_ends s c i p d limited hw, if_neg (mt (Slot.past_iff _ _).mp (by omega))]

end Sys2Proof.Machine
end

section
/-! SUPPORT. Laws of bytes: the bytes of a number and of a vector register (00 R8), what a run of bytes of local memory reads as after a write, and
writes that carry no poison into a local memory without any (03 R104). -/

namespace Sys2Proof.Machine

/-! ## Bytes of numbers -/

theorem leNat_drop (l : List Byte) (k : Nat) : leNat (l.drop k) = leNat l / 256 ^ k := by
  induction k generalizing l with
  | zero => simp
  | succ k ih =>
    cases l with
    | nil => simp [leNat]
    | cons b r =>
      have hb : b.toNat / 256 = 0 := Nat.div_eq_of_lt b.isLt
      rw [List.drop_succ_cons, ih, leNat, Nat.pow_succ, Nat.mul_comm (256 ^ k), ← Nat.div_div_eq_div_mul, Nat.add_mul_div_left _ _ (by norm_num), hb,
        Nat.zero_add]

theorem leNat_take (l : List Byte) (k : Nat) : leNat (l.take k) = leNat l % 256 ^ k := by
  induction k generalizing l with
  | zero => simp [leNat, Nat.mod_one]
  | succ k ih =>
    cases l with
    | nil => simp [leNat]
    | cons b r =>
      have hb : b.toNat < 256 := b.isLt
      rw [List.take_succ_cons, leNat, leNat, ih, Nat.pow_succ, Nat.mul_comm (256 ^ k), Nat.mod_mul, Nat.add_mul_mod_self_left, Nat.mod_eq_of_lt hb,
        Nat.add_mul_div_left _ _ (by norm_num), Nat.div_eq_of_lt hb, Nat.zero_add]

theorem getD_leBytes (v n k : Nat) (h : k < n) : (leBytes v n).getD k 0 = BitVec.ofNat 8 (v / 256 ^ k) := by
  induction n generalizing v k with
  | zero => omega
  | succ n ih =>
    cases k with
    | zero => simp [leBytes]
    | succ k =>
      have : (leBytes v (n + 1)).getD (k + 1) 0 = (leBytes (v / 256) n).getD k 0 := rfl
      rw [this, ih _ _ (by omega), Nat.div_div_eq_div_mul, Nat.pow_succ, Nat.mul_comm]

/-- Bytes are those of a number when each is the number's at its place. -/
theorem eq_leBytes (l : List Byte) (v : Nat) (h : ∀ k, k < l.length → l.getD k 0 = BitVec.ofNat 8 (v / 256 ^ k)) : l = leBytes v l.length := by
  refine List.ext_getElem (by simp) fun k hk hk' => ?_
  have := h k hk
  rw [← getD_leBytes v l.length k hk] at this
  simpa [List.getD_eq_getElem?_getD, hk, hk'] using this

/-! ## Bytes of a memory -/

theorem drop_mgetN (u : Nat → Byte) (m : Mem) (a n k : Nat) : (mgetN u m a (k + n)).drop k = mgetN u m (a + k) n := by
  induction k generalizing a with
  | zero => simp
  | succ k ih => rw [Nat.add_right_comm, mgetN, List.drop_succ_cons, ih, Nat.add_assoc, Nat.add_comm 1]

theorem take_mgetN (u : Nat → Byte) (m : Mem) (a n k : Nat) : (mgetN u m a (k + n)).take k = mgetN u m a k := by
  induction k generalizing a with
  | zero => simp [mgetN]
  | succ k ih => rw [Nat.add_right_comm, mgetN, List.take_succ_cons, ih, mgetN]

/-- A byte after a write of bytes is the written one inside the write and the old one outside. -/
theorem mget_msetN (u : Nat → Byte) (m : Mem) (a q : Nat) (l : List Byte) :
    mget u (msetN u m a l) q = if a ≤ q ∧ q < a + l.length then l.getD (q - a) 0 else mget u m q := by
  split
  · next h =>
    obtain ⟨i, rfl⟩ := Nat.exists_eq_add_of_le h.1
    have hi : i < l.length := by omega
    rw [mget_msetN_in _ _ _ _ _ hi, Nat.add_sub_cancel_left]
  · next h => rw [mget_msetN_out _ _ _ _ _ (by omega)]

/-- Bytes read alike where each of them reads alike. -/
theorem mgetN_congr (u : Nat → Byte) (m m' : Mem) (a n : Nat) (h : ∀ i, i < n → mget u m (a + i) = mget u m' (a + i)) : mgetN u m a n = mgetN u m' a n := by
  refine List.ext_getElem (by simp) fun k hk hk' => ?_
  have hk : k < n := by simpa using hk
  have := h k hk
  rw [← getD_mgetN _ _ _ n _ hk, ← getD_mgetN _ m' _ n _ hk] at this
  simpa [List.getD_eq_getElem?_getD, hk] using this

/-- A run of bytes that are those of a number reads as that number. -/
theorem mgetN_eq_leBytes (u : Nat → Byte) (m : Mem) (a n v : Nat) (h : ∀ k, k < n → mget u m (a + k) = BitVec.ofNat 8 (v / 256 ^ k)) :
    mgetN u m a n = leBytes v n := by
  have := eq_leBytes (mgetN u m a n) v (fun k hk => by
    rw [length_mgetN] at hk
    rw [getD_mgetN _ _ _ _ _ hk, h k hk])
  rwa [length_mgetN] at this

/-! ## Bytes of a vector register -/

/-- Byte `k` of a lane is byte `4 * i + k` of the register. -/
theorem byte_lane (v : BitVec 16384) (i k : Nat) (hk : k < 4) : BitVec.ofNat 8 (lane 32 v i / 256 ^ k) = BitVec.ofNat 8 (v.toNat / 256 ^ (4 * i + k)) := by
  apply BitVec.eq_of_toNat_eq
  have h32 : (2 : Nat) ^ (32 * i) = 256 ^ (4 * i) := by rw [show (256 : Nat) = 2 ^ 8 from rfl, ← Nat.pow_mul]; ring_nf
  have h4 : (2 : Nat) ^ 32 = 256 ^ k * 256 ^ (4 - k) := by rw [← Nat.pow_add, show k + (4 - k) = 4 by omega]; rfl
  rw [BitVec.toNat_ofNat, BitVec.toNat_ofNat, lane, h32, h4, Nat.mod_mul_right_div_self, Nat.pow_add, ← Nat.div_div_eq_div_mul]
  exact Nat.mod_mod_of_dvd _ (dvd_pow_self 256 (by omega))

/-- A lane of a register that bytes make is the number of its four bytes. -/
theorem lane_bytesVec (b : List Byte) (i : Nat) (h : b.length ≤ 2048) : lane 32 (bytesVec b) i = leNat ((b.drop (4 * i)).take 4) := by
  have h32 : (2 : Nat) ^ (32 * i) = 256 ^ (4 * i) := by rw [show (256 : Nat) = 2 ^ 8 from rfl, ← Nat.pow_mul]; ring_nf
  have bytes : (256 : Nat) ^ 2048 = 2 ^ 16384 := (Nat.pow_mul 2 8 2048).symm
  have small : leNat b < 2 ^ 16384 := lt_of_lt_of_le (leNat_lt b) (le_of_le_of_eq (Nat.pow_le_pow_right (by norm_num) h) bytes)
  rw [leNat_take, leNat_drop, lane, bytesVec, List.take_of_length_le h, BitVec.toNat_ofNat, Nat.mod_eq_of_lt small, h32]
  rfl

/-! ## Local memory without poison -/

/-- A write without poison into a local memory without any changes its bytes alone. -/
theorem Core.lwrite_unpoisoned (x : Core) (a : Nat) (b : List Byte) (h : x.lPoison = []) :
    x.lwrite a b false = { x with lmem := msetN zeroByte x.lmem a b } := by
  have poison : (x.lwrite a b false).lPoison = [] := by
    unfold Core.lwrite
    dsimp only
    split
    · exact h
    · simp [h]
  rw [x.lwrite_frame a b false, poison, ← h]

/-- A core that differs from another in the bytes of its local memory alone, both without poison there. -/
def Core.SameButBytes (x y : Core) : Prop := y = { x with lmem := y.lmem } ∧ x.lPoison = []

theorem Core.SameButBytes.refl (x : Core) (h : x.lPoison = []) : x.SameButBytes x := ⟨rfl, h⟩

theorem Core.SameButBytes.lPoison {x y : Core} (h : x.SameButBytes y) : y.lPoison = [] := (congrArg Core.lPoison h.1 :).trans h.2

theorem Core.SameButBytes.lwrite {x y : Core} (h : x.SameButBytes y) (a : Nat) (b : List Byte) : x.SameButBytes (y.lwrite a b false) := by
  refine ⟨?_, h.2⟩
  rw [Core.lwrite_unpoisoned y a b h.lPoison]
  exact congrArg (fun z : Core => { z with lmem := msetN zeroByte y.lmem a b }) h.1

end Sys2Proof.Machine
end


section
/-! SUPPORT. A store of the active lanes of a register (04 R127): every byte after it. -/

namespace Sys2Proof.Machine

/-- No code applies when every check passes. -/
theorem codes_eq_nil (l : List (Bool × Nat)) : codes l = [] ↔ ∀ e ∈ l, e.1 = false := by simp [codes]

/-- One 64-byte segment of `storeLanes`. -/
def Core.storeSeg (a : Nat) (v : BitVec 16384) (vp : BitVec 32) (p : BitVec 512) (x : Core) (g : Nat) : Core :=
  let m := p.toNat / 2 ^ (16 * g) % 2 ^ 16
  if m = 0 then x
  else if m = 2 ^ 16 - 1 then x.lwrite (a + 64 * g) (((vecBytes v).drop (64 * g)).take 64) (vp.getLsbD g)
  else (List.range 16).foldl (fun x i => if m / 2 ^ i % 2 = 1 then x.lwrite (a + 64 * g + 4 * i) (leBytes (lane 32 v (16 * g + i)) 4) (vp.getLsbD g) else x) x

theorem storeLanes_eq (x : Core) (a : Nat) (v : BitVec 16384) (vp : BitVec 32) (p : BitVec 512) :
    storeLanes x a v vp p = (List.range 32).foldl (Core.storeSeg a v vp p) x := rfl

/-- Bit `i` of the sixteen that a segment takes of a predicate. -/
theorem segment_bit (p : BitVec 512) (g i : Nat) (hi : i < 16) : p.toNat / 2 ^ (16 * g) % 2 ^ 16 / 2 ^ i % 2 = 1 ↔ p.getLsbD (16 * g + i) = true := by
  rw [BitVec.getLsbD, ← Nat.testBit_shiftRight, Nat.shiftRight_eq_div_pow]
  have h := Nat.testBit_mod_two_pow (p.toNat / 2 ^ (16 * g)) 16 i
  rw [show (decide (i < 16)) = true by simp [hi], Bool.true_and] at h
  rw [← h, Nat.testBit_eq_decide_div_mod_eq]
  simp

/-- What each byte is once the lanes `lo` to `hi - 1` that are active have been stored at `a`. -/
def storedByte (a : Nat) (v : BitVec 16384) (p : BitVec 512) (lo hi : Nat) (m : Mem) (q : Nat) : Byte :=
  if a + 4 * lo ≤ q ∧ q < a + 4 * hi ∧ p.getLsbD ((q - a) / 4) = true then BitVec.ofNat 8 (v.toNat / 256 ^ (q - a)) else mget zeroByte m q

/-- The active lanes `lo` to `hi - 1` of a register have been stored in `y` over `x`. -/
def Core.Stored (a : Nat) (v : BitVec 16384) (p : BitVec 512) (lo hi : Nat) (x y : Core) : Prop :=
  x.SameButBytes y ∧ ∀ q, mget zeroByte y.lmem q = storedByte a v p lo hi x.lmem q

theorem Core.Stored.refl (a : Nat) (v : BitVec 16384) (p : BitVec 512) (lo : Nat) (x : Core) (h : x.lPoison = []) : Core.Stored a v p lo lo x x :=
  ⟨.refl x h, fun q => by rw [storedByte, if_neg (by omega)]⟩

/-- Stores of lanes one after another. -/
theorem Core.Stored.trans {a : Nat} {v : BitVec 16384} {p : BitVec 512} {lo mid hi : Nat} {x y z : Core} (h : Core.Stored a v p lo mid x y)
    (h' : Core.Stored a v p mid hi y z) (hlo : lo ≤ mid) (hhi : mid ≤ hi) : Core.Stored a v p lo hi x z := by
  refine ⟨⟨?_, h.1.2⟩, fun q => ?_⟩
  · exact h'.1.1.trans (congrArg (fun w : Core => { w with lmem := z.lmem }) h.1.1)
  · rw [h'.2, storedByte, storedByte, h.2, storedByte]
    by_cases hp : p.getLsbD ((q - a) / 4) = true
    · simp only [hp, and_true]
      grind
    · simp only [hp, and_false, if_false, Bool.false_eq_true]

/-- A lane that is not active stores nothing. -/
theorem Core.Stored.skip {a : Nat} {v : BitVec 16384} {p : BitVec 512} (lo hi : Nat) (x : Core) (h : x.lPoison = [])
    (hp : ∀ i, lo ≤ i → i < hi → p.getLsbD i = false) : Core.Stored a v p lo hi x x := by
  refine ⟨.refl x h, fun q => ?_⟩
  rw [storedByte, if_neg]
  rintro ⟨h1, h2, h3⟩
  rw [hp _ (by omega) (by omega)] at h3
  exact Bool.false_ne_true h3

/-- A write of all bytes of lanes that are all active stores them. -/
theorem Core.Stored.write {a : Nat} {v : BitVec 16384} {p : BitVec 512} (lo hi : Nat) (x : Core) (b : List Byte) (h : x.lPoison = [])
    (hlen : 4 * lo + b.length = 4 * hi) (hb : ∀ k, k < b.length → b.getD k 0 = BitVec.ofNat 8 (v.toNat / 256 ^ (4 * lo + k)))
    (hp : ∀ i, lo ≤ i → i < hi → p.getLsbD i = true) : Core.Stored a v p lo hi x (x.lwrite (a + 4 * lo) b false) := by
  refine ⟨(Core.SameButBytes.refl x h).lwrite _ _, fun q => ?_⟩
  rw [Core.lwrite_lmem, mget_msetN, storedByte]
  by_cases hq : a + 4 * lo ≤ q ∧ q < a + 4 * hi
  · rw [if_pos (by omega), if_pos ⟨hq.1, hq.2, hp _ (by omega) (by omega)⟩, hb _ (by omega), show 4 * lo + (q - (a + 4 * lo)) = q - a by omega]
  · rw [if_neg (by omega), if_neg (fun hc => hq ⟨hc.1, hc.2.1⟩)]

/-- Steps that each store their lanes store them all. -/
theorem Core.Stored.foldl {a : Nat} {v : BitVec 16384} {p : BitVec 512} (f : Core → Nat → Core) (lo width n : Nat) (x : Core) (hx : x.lPoison = [])
    (step : ∀ y i, i < n → y.lPoison = [] → Core.Stored a v p (lo + width * i) (lo + width * (i + 1)) y (f y i)) :
    Core.Stored a v p lo (lo + width * n) x ((List.range n).foldl f x) := by
  induction n with
  | zero => exact .refl a v p lo x hx
  | succ n ih =>
    have before := ih (fun y i hi => step y i (by omega))
    rw [List.range_succ, List.foldl_append]
    exact before.trans (step _ n (by omega) before.1.lPoison) (by omega) (by rw [Nat.mul_succ]; omega)

theorem Core.storeSeg_stored (a : Nat) (v : BitVec 16384) (p : BitVec 512) (x : Core) (g : Nat) (hg : g < 32) (h : x.lPoison = []) :
    Core.Stored a v p (16 * g) (16 * (g + 1)) x (x.storeSeg a v 0 p g) := by
  have bit := fun i (hi : i < 16) => segment_bit p g i hi
  have at_ : ∀ i, 16 * g ≤ i → i < 16 * (g + 1) → ∃ k, k < 16 ∧ i = 16 * g + k := fun i h1 h2 => ⟨i - 16 * g, by omega, by omega⟩
  unfold Core.storeSeg
  generalize p.toNat / 2 ^ (16 * g) % 2 ^ 16 = m at bit ⊢
  dsimp only
  rw [show (0 : BitVec 32).getLsbD g = false by simp]
  split
  · next none =>
    refine .skip _ _ x h fun i h1 h2 => ?_
    obtain ⟨k, hk, rfl⟩ := at_ i h1 h2
    rw [Bool.eq_false_iff, ne_eq, ← bit k hk, none]
    simp
  · split
    · next whole =>
      have ones : ∀ i, i < 16 → (2 ^ 16 - 1) / 2 ^ i % 2 = 1 := by decide
      have bytes : (((vecBytes v).drop (64 * g)).take 64).length = 64 := by simp [vecBytes]; omega
      rw [show a + 64 * g = a + 4 * (16 * g) by omega]
      refine .write (16 * g) (16 * (g + 1)) x _ h (by rw [bytes]; omega) (fun k hk => ?_) fun i h1 h2 => ?_
      · rw [bytes] at hk
        have : (((vecBytes v).drop (64 * g)).take 64).getD k 0 = (vecBytes v).getD (4 * (16 * g) + k) 0 := by
          rw [List.getD_eq_getElem?_getD, List.getElem?_take_of_lt hk, List.getElem?_drop, List.getD_eq_getElem?_getD, show 4 * (16 * g) + k = 64 * g + k by omega]
        rw [this, vecBytes, getD_leBytes _ _ _ (by omega)]
      · obtain ⟨k, hk, rfl⟩ := at_ i h1 h2
        rw [← bit k hk, whole]
        exact ones k hk
    · rw [show 16 * (g + 1) = 16 * g + 1 * 16 by omega]
      refine Core.Stored.foldl _ (16 * g) 1 16 x h fun y i hi hy => ?_
      rw [Nat.one_mul, Nat.one_mul]
      split
      · next active =>
        rw [show a + 64 * g + 4 * i = a + 4 * (16 * g + i) by omega]
        refine .write (16 * g + i) (16 * g + (i + 1)) y _ hy (by rw [length_leBytes]; omega) (fun k hk => ?_) fun j h1 h2 => ?_
        · rw [length_leBytes] at hk
          rw [getD_leBytes _ _ _ hk, byte_lane _ _ _ hk]
        · rw [show j = 16 * g + i by omega, ← bit i hi, active]
      · next idle =>
        refine .skip _ _ y hy fun j h1 h2 => ?_
        rw [show j = 16 * g + i by omega, Bool.eq_false_iff, ne_eq, ← bit i hi]
        exact idle

/-- A store of a register without poison: the active lanes are stored, and nothing else changes. -/
theorem storeLanes_stored (a : Nat) (v : BitVec 16384) (p : BitVec 512) (x : Core) (h : x.lPoison = []) :
    Core.Stored a v p 0 512 x (storeLanes x a v 0 p) := by
  rw [storeLanes_eq]
  have := Core.Stored.foldl (fun y g => y.storeSeg a v 0 p g) 0 16 32 x h (fun y g hg hy => by
    simpa only [Nat.zero_add] using y.storeSeg_stored a v p g hg hy)
  exact this

/-- A byte in no active lane is left by a store of the lanes. -/
theorem storedByte_out (a : Nat) (v : BitVec 16384) (p : BitVec 512) (m : Mem) (q : Nat)
    (h : ∀ i, i < 512 → p.getLsbD i = true → q < a + 4 * i ∨ a + 4 * i + 4 ≤ q) : storedByte a v p 0 512 m q = mget zeroByte m q := by
  rw [storedByte, if_neg]
  rintro ⟨h1, h2, hp⟩
  have := h ((q - a) / 4) (by omega) hp
  omega

/-- The word of an active lane after a store of the lanes is the lane. -/
theorem storedByte_lane (a : Nat) (v : BitVec 16384) (p : BitVec 512) (x y : Core) (i : Nat) (hi : i < 512) (hp : p.getLsbD i = true)
    (h : ∀ q, mget zeroByte y.lmem q = storedByte a v p 0 512 x.lmem q) : leNat (y.lread (a + 4 * i) 4) = lane 32 v i := by
  have bytes : y.lread (a + 4 * i) 4 = leBytes (lane 32 v i) 4 := mgetN_eq_leBytes _ _ _ _ _ fun k hk => by
    rw [h, storedByte, if_pos ⟨by omega, by omega, by rwa [show (a + 4 * i + k - a) / 4 = i by omega]⟩, byte_lane _ _ _ hk,
      show a + 4 * i + k - a = 4 * i + k by omega]
  rw [bytes, leNat_leBytes]
  exact Nat.mod_eq_of_lt (lane_lt 32 v i)

end Sys2Proof.Machine
end

section
/-! O4: the scalar loads and stores, and VST (04 R125, R127). -/

namespace Sys2Proof.Machine

theorem exec_sld (c : Fin 144) (w : GenFields) (s : State) : exec (.sld c w) s = execSld c w s := rfl
theorem exec_sst (c : Fin 144) (w : GenFields) (s : State) : exec (.sst c w) s = execSst c w s := rfl
theorem exec_vst (c : Fin 144) (w : GenFields) (s : State) : exec (.vst c w) s = execVst c w s := rfl

theorem execSld_loads (s : State) (c : Fin 144) (w : GenFields) (h : s.fresh c) (hu : ({ d := true, a := true, imm := 64 } : Uses).bad w = false)
    (hf : w.func.toNat ≤ 6) (n a : Nat) (hn : n = memSize w.func.toNat) (ha : a = ((s.core c).s w.a.toNat + w.imm).toNat) (aligned : a % n = 0)
    (inside : a + n ≤ 2 ^ 22) (quiet : (s.core c).conflict a (a + n) false = false) :
    execSld c w s = .next ((s.fetch c).setCore c (((s.core c).go.setS w.d.toNat (if w.func.toNat < 4 then BitVec.ofNat 64 (leNat ((s.core c).lread a n))
      else BitVec.ofInt 64 (sint (8 * n) (leNat ((s.core c).lread a n)))) false).next)) := by
  unfold execSld
  dsimp only
  rw [← hn, ← ha, State.issue_coreStep s c _ _ _ h ((codes_eq_nil _).mpr (by simp [hu, hf, aligned, show a + n ≤ lmemSize from inside])) (by simp [quiet]),
    Core.lpoison_clean _ (Core.clean_go _ h.2)]
  rfl

theorem execSst_stores (s : State) (c : Fin 144) (w : GenFields) (h : s.fresh c) (hu : ({ a := true, b := true, imm := 64 } : Uses).bad w = false)
    (hf : w.func.toNat ≤ 3) (n a : Nat) (hn : n = memSize w.func.toNat) (ha : a = ((s.core c).s w.a.toNat + w.imm).toNat) (aligned : a % n = 0)
    (inside : a + n ≤ 2 ^ 22) (quiet : (s.core c).writeStall [(a, n)] = false) :
    execSst c w s = .next ((s.fetch c).setCore c { (s.core c).go with
      lmem := msetN zeroByte (s.core c).lmem a (leBytes ((s.core c).s w.b.toNat).toNat n), pc := (s.core c).pc + 16 }) := by
  unfold execSst
  dsimp only
  rw [← hn, ← ha, State.issue_coreStep s c _ _ _ h ((codes_eq_nil _).mpr (by simp [hu, hf, aligned, show a + n ≤ lmemSize from inside])) (by simp [quiet]), Core.go_s, Core.go_sp,
    Core.sp_clean _ h.2, Core.lwrite_unpoisoned _ _ _ (Core.clean_go _ h.2).2.2]
  rfl

theorem execVst_stores (s : State) (c : Fin 144) (w : GenFields) (h : s.fresh c)
    (hu : ({ a := true, b := true, pred := true, imm := 64 } : Uses).bad w = false) (hf : w.func = 0) (a : Nat)
    (ha : a = ((s.core c).s w.a.toNat + w.imm).toNat) (aligned : a % 64 = 0) (inside : a + 2048 ≤ 2 ^ 22)
    (quiet : (s.core c).writeStall [(a, 2048)] = false) :
    execVst c w s = .next ((s.fetch c).setCore c (storeLanes (s.core c).go a ((s.core c).v w.b.toNat) 0 ((s.core c).p w.pred.toNat)).next) := by
  unfold execVst
  dsimp only
  rw [← ha, State.issue_coreStep s c _ _ _ h ((codes_eq_nil _).mpr (by simp [hu, hf, aligned, show a + 2048 ≤ lmemSize from inside])) (by simp [quiet]), Core.go_vp, Core.vp_clean _ h.2]
  rfl

/-- Of the two checks of an address the one of its boundary comes first. -/
theorem codes_address (off outside : Bool) : (off = true → (codes [(off, 0x08), (outside, 0x09)]).min? = some 0x08) ∧
    (off = false → outside = true → (codes [(off, 0x08), (outside, 0x09)]).min? = some 0x09) := by
  cases off <;> cases outside <;> decide

theorem execSld_faults (s : State) (c : Fin 144) (w : GenFields) (h : s.fresh c) (hu : ({ d := true, a := true, imm := 64 } : Uses).bad w = false)
    (hf : w.func.toNat ≤ 6) (n a : Nat) (hn : n = memSize w.func.toNat) (ha : a = ((s.core c).s w.a.toNat + w.imm).toNat) :
    (a % n ≠ 0 → execSld c w s = .next ((s.fetch c).coreFault c 0x08 (genWord 0x05 w) 0)) ∧
    (a % n = 0 → 2 ^ 22 < a + n → execSld c w s = .next ((s.fetch c).coreFault c 0x09 (genWord 0x05 w) 0)) := by
  obtain ⟨first, second⟩ := codes_address (decide (a % n ≠ 0)) (decide (lmemSize < a + n))
  have passes : ∀ l, codes ((({ d := true, a := true, imm := 64 } : Uses).bad w, 0x02) :: (decide (6 < w.func.toNat), 0x03) :: l) = codes l := fun l => by
    simp [hu, hf]
  unfold execSld
  dsimp only
  rw [← hn, ← ha]
  exact ⟨fun off => congrArg _ (State.issue_fault s c _ _ _ 0x08 h (by rw [passes]; exact first (by simpa using off))),
    fun aligned outside => congrArg _ (State.issue_fault s c _ _ _ 0x09 h (by
      rw [passes]; exact second (by simpa using aligned) (decide_eq_true outside)))⟩

theorem execSst_faults (s : State) (c : Fin 144) (w : GenFields) (h : s.fresh c) (hu : ({ a := true, b := true, imm := 64 } : Uses).bad w = false)
    (hf : w.func.toNat ≤ 3) (n a : Nat) (hn : n = memSize w.func.toNat) (ha : a = ((s.core c).s w.a.toNat + w.imm).toNat) :
    (a % n ≠ 0 → execSst c w s = .next ((s.fetch c).coreFault c 0x08 (genWord 0x06 w) 0)) ∧
    (a % n = 0 → 2 ^ 22 < a + n → execSst c w s = .next ((s.fetch c).coreFault c 0x09 (genWord 0x06 w) 0)) := by
  obtain ⟨first, second⟩ := codes_address (decide (a % n ≠ 0)) (decide (lmemSize < a + n))
  have passes : ∀ l, codes ((({ a := true, b := true, imm := 64 } : Uses).bad w, 0x02) :: (decide (3 < w.func.toNat), 0x03) :: l) = codes l := fun l => by
    simp [hu, hf]
  unfold execSst
  dsimp only
  rw [← hn, ← ha]
  exact ⟨fun off => congrArg _ (State.issue_fault s c _ _ _ 0x08 h (by rw [passes]; exact first (by simpa using off))),
    fun aligned outside => congrArg _ (State.issue_fault s c _ _ _ 0x09 h (by
      rw [passes]; exact second (by simpa using aligned) (decide_eq_true outside)))⟩

/-- Settles O4: the loads and stores at issue, and every byte after a store. -/
theorem loadsAndStores : Obligations.LoadsAndStores := by
  unfold Obligations.LoadsAndStores
  constructor <;> intro s c w h f x n a
  · refine ⟨fun hu hf aligned inside quiet => ?_, fun hu hf aligned inside quiet => ?_,
      fun hu hf => (execSld_faults s c w h hu hf n a rfl rfl).1, fun hu hf => (execSld_faults s c w h hu hf n a rfl rfl).2,
      fun hu hf => (execSst_faults s c w h hu hf n a rfl rfl).1, fun hu hf => (execSst_faults s c w h hu hf n a rfl rfl).2⟩
    · rw [exec_sld, execSld_loads s c w h hu hf n a rfl rfl aligned inside quiet]
      simp [BitVec.lt_def, f, x]
    · rw [exec_sst, execSst_stores s c w h hu hf n a rfl rfl aligned inside quiet]
  · refine ⟨fun hu hf aligned inside quiet => ⟨_, (exec_sst c w s).trans (execSst_stores s c w h hu hf n a rfl rfl aligned inside quiet), ?_⟩,
      fun hu hf aligned inside quiet => ⟨_, (exec_vst c w s).trans (execVst_stores s c w h hu hf a rfl aligned inside quiet), ?_⟩⟩
    · simp only [State.core_setCore _ _ _ c.isLt]
      refine ⟨rfl, fun p hp => ?_, fun i hi => ?_⟩
      · rw [mget_msetN_out _ _ _ _ _ (by rw [length_leBytes]; exact hp)]
      · rw [mget_msetN_in _ _ _ _ _ (by rwa [length_leBytes])]
    · simp only [State.core_setCore _ _ _ c.isLt]
      obtain ⟨frame, bytes⟩ := storeLanes_stored a (x.v w.b.toNat) (x.p w.pred.toNat) x.go h.2.2.2
      refine ⟨?_, fun q hq => ?_, fun i hi hp => ?_⟩
      · exact congrArg (fun y : Core => (s.fetch c).setCore c y.next) frame.1
      · exact (bytes q).trans (storedByte_out _ _ _ _ _ hq)
      · exact storedByte_lane _ _ _ x.go _ i hi hp bytes

end Sys2Proof.Machine
end


section
/-! O8: the lane-by-lane vector instructions, VPERM and VBCAST (04 R121, R127, R133). -/

namespace Sys2Proof.Machine

theorem exec_vfp (c : Fin 144) (w : GenFields) (r : Bool) (s : State) : exec (.vfp c w r) s = execVfp c w r s := rfl
theorem exec_vint (c : Fin 144) (w : GenFields) (s : State) : exec (.vint c w) s = execVint c w s := rfl
theorem exec_vperm (c : Fin 144) (w : GenFields) (s : State) : exec (.vperm c w) s = execVperm c w s := rfl
theorem exec_vbcast (c : Fin 144) (w : GenFields) (s : State) : exec (.vbcast c w) s = execVbcast c w s := rfl
theorem exec_vtbl (c : Fin 144) (w : GenFields) (s : State) : exec (.vtbl c w) s = execVtbl c w s := rfl

/-- An instruction of a core has written elements of a vector register: those for which `value` gives one, and nothing else but the PC. -/
def State.WroteEls (s u : State) (c d width : Nat) (value : Nat → Option Nat) : Prop :=
  u = (s.fetch c).setCore c { (s.core c).go with vreg := (u.core c).vreg, vPoison := (u.core c).vPoison, pc := (s.core c).pc + 16 } ∧
  (∀ r, r ≠ d → (u.core c).v r = (s.core c).v r) ∧
  (∀ i, i < 16384 / width → lane width ((u.core c).v d) i = ((value i).map (· % 2 ^ width)).getD (lane width ((s.core c).v d) i))

theorem State.wroteEls_putEls (s : State) (c : Fin 144) (d : BitVec 5) (width : Nat) (f : Nat → Option (Nat × Bool)) :
    s.WroteEls ((s.fetch c).setCore c ((s.core c).go.putEls d.toNat width f).next) c d.toNat width (fun i => (f i).map (·.1)) := by
  unfold State.WroteEls
  rw [State.core_setCore _ _ _ c.isLt]
  refine ⟨rfl, fun r hr => Core.v_putEls_ne _ _ _ _ _ hr, fun i hi => ?_⟩
  refine (Core.lane_putEls (s.core c).go d.toNat width f i d.isLt hi).trans ?_
  cases hf : f i <;> simp [hf]

/-- A write of the elements for which a condition holds. -/
theorem State.wroteEls_putWhere (s : State) (c : Fin 144) (d : BitVec 5) (width : Nat) (act : Nat → Prop) [DecidablePred act] (value : Nat → Nat)
    (psn : Nat → Bool) :
    s.WroteEls ((s.fetch c).setCore c ((s.core c).go.putEls d.toNat width (fun i => if act i then some (value i, psn i) else none)).next) c d.toNat width
      (fun i => if act i then some (value i) else none) := by
  have wrote := s.wroteEls_putEls c d width (fun i => if act i then some (value i, psn i) else none)
  have values : (fun i => (if act i then some (value i, psn i) else none).map (·.1)) = fun i => if act i then some (value i) else none := by
    funext i
    split <;> rfl
  rwa [values] at wrote

/-- A lane-by-lane operation of a core that goes on. -/
theorem lanewise_issued (s : State) (c : Fin 144) (width : Nat) (d : BitVec 5) (p : BitVec 512) (src : List Nat) (op : List Nat → Nat) :
    s.WroteEls (lanewise c width d.toNat p src op ((s.fetch c).setCore c (s.core c).go)) c d.toNat width
      (fun i => if activeAt p width i then some (op (src.map (fun r => lane width ((s.core c).v r) i))) else none) := by
  unfold lanewise
  rw [coreStep_issued]
  simp only [List.map_map]
  exact s.wroteEls_putWhere c d width _ _ _

/-- The elements that `State.WroteEls` names, by whether they are active. -/
theorem State.WroteEls.lanes {s u : State} {c d width : Nat} {act : Nat → Bool} {value : Nat → Nat}
    (h : s.WroteEls u c d width (fun i => if act i then some (value i) else none)) (i : Nat) (hi : i < 16384 / width) :
    lane width ((u.core c).v d) i = if act i then value i % 2 ^ width else lane width ((s.core c).v d) i := by
  rw [h.2.2 i hi]
  by_cases ha : act i = true <;> simp [ha]

theorem execVfp_writes (s : State) (c : Fin 144) (w : GenFields) (h : s.fresh c)
    (hu : ({ d := true, a := true, b := true, c := true, pred := true, type := true, rnd := true } : Uses).bad w = false) (hf : w.func.toNat ≤ 8)
    (ht : w.type.toNat ≤ 2) (hr : w.rnd.toNat ≤ 1) : execVfp c w false s = .next (lanewise c (elW w.type.toNat) w.d.toNat ((s.core c).p w.pred.toNat)
      (vfpSources w.func.toNat w.a.toNat w.b.toNat w.c.toNat)
      (fun l => vfpOp w.func.toNat w.type.toNat (rndOf w.rnd.toNat) (l.getD 0 0) (l.getD 1 0) (l.getD 2 0)) ((s.fetch c).setCore c (s.core c).go)) := by
  unfold execVfp
  dsimp only
  rw [State.issue_fresh s c _ _ _ h ((codes_eq_nil _).mpr (by simp [hu, hf, ht, hr])) rfl]
  simp only [Bool.false_and, Bool.false_eq_true, if_false]

/-- The operands that VFP does not name do not enter its result. -/
theorem vfpOp_sources (f t : Nat) (m : Rnd) (hf : f ≤ 8) (a b c : Nat) (val : Nat → Nat) :
    vfpOp f t m (((vfpSources f a b c).map val).getD 0 0) (((vfpSources f a b c).map val).getD 1 0) (((vfpSources f a b c).map val).getD 2 0) =
      vfpOp f t m (val a) (val b) (val c) := by
  unfold vfpSources
  split
  · rfl
  · next hab =>
    split
    · next hone => rcases hone with rfl | rfl <;> rfl
    · rcases (show f = 0 ∨ f = 1 ∨ f = 2 ∨ f = 5 ∨ f = 6 by omega) with rfl | rfl | rfl | rfl | rfl <;> rfl

theorem execVint_writes (s : State) (c : Fin 144) (w : GenFields) (h : s.fresh c)
    (hu : ({ d := true, a := true, b := true, pred := true, type := true } : Uses).bad w = false) (hf : w.func.toNat ≤ 10) (ht : w.type = 3) :
    execVint c w s = .next (lanewise c 32 w.d.toNat ((s.core c).p w.pred.toNat) [w.a.toNat, w.b.toNat]
      (fun l => vintOp w.func.toNat (l.getD 0 0) (l.getD 1 0)) ((s.fetch c).setCore c (s.core c).go)) := by
  unfold execVint
  dsimp only
  rw [State.issue_fresh s c _ _ _ h ((codes_eq_nil _).mpr (by simp [hu, hf, ht])) rfl]

theorem execVtbl_writes (s : State) (c : Fin 144) (w : GenFields) (h : s.fresh c)
    (hu : ({ d := true, a := true, pred := true, type := true, imm := 4 } : Uses).bad w = false) (hf : w.func.toNat ≤ 1) (ht : w.type.toNat ≤ 2) :
    execVtbl c w s = .next (lanewise c (elW w.type.toNat) w.d.toNat ((s.core c).p w.pred.toNat) [w.a.toNat] (fun l => (typeFmt w.type.toNat).enc .rne
      (tableEval (s.core c) (w.imm.toNat % 16) (w.func == 1) (elVal w.type.toNat (l.getD 0 0)))) ((s.fetch c).setCore c (s.core c).go)) := by
  unfold execVtbl
  dsimp only
  rw [State.issue_fresh s c _ _ _ h ((codes_eq_nil _).mpr (by simp [hu, hf, ht])) rfl]

theorem execVperm_writes (s : State) (c : Fin 144) (w : GenFields) (h : s.fresh c)
    (hu : ({ d := true, a := true, b := true, pred := true } : Uses).bad w = false) (hf : w.func = 0) :
    Runs (.vperm c w) s (fun u => s.WroteEls u c w.d.toNat 32 (fun i => if ((s.core c).p w.pred.toNat).getLsbD i then
      some (lane 32 ((s.core c).v w.a.toNat) (lane 32 ((s.core c).v w.b.toNat) i % 512)) else none)) := by
  rw [Runs, exec_vperm]
  unfold execVperm
  dsimp only
  rw [State.issue_coreStep s c _ _ _ h ((codes_eq_nil _).mpr (by simp [hu, hf])) rfl]
  exact ⟨_, rfl, s.wroteEls_putWhere c w.d 32 _ _ _⟩

theorem execVbcast_writes (s : State) (c : Fin 144) (w : GenFields) (h : s.fresh c)
    (hu : ({ d := true, a := true, pred := true } : Uses).bad w = false) (hf : w.func = 0) :
    Runs (.vbcast c w) s (fun u => s.WroteEls u c w.d.toNat 32 (fun i => if ((s.core c).p w.pred.toNat).getLsbD i then
      some (((s.core c).s w.a.toNat).toNat % 2 ^ 32) else none)) := by
  rw [Runs, exec_vbcast]
  unfold execVbcast
  dsimp only
  rw [State.issue_coreStep s c _ _ _ h ((codes_eq_nil _).mpr (by simp [hu, hf])) rfl]
  exact ⟨_, rfl, s.wroteEls_putWhere c w.d 32 _ _ _⟩

/-- What O8 says of the elements follows from what an instruction wrote. -/
theorem Runs.lanes {i : Instr} {s : State} {c d width : Nat} {act : Nat → Bool} {value : Nat → Nat}
    (h : Runs i s (fun u => s.WroteEls u c d width (fun i => if act i then some (value i) else none))) :
    Runs i s (fun u =>
      u = (s.fetch c).setCore c { (s.core c).go with vreg := (u.core c).vreg, vPoison := (u.core c).vPoison, pc := (s.core c).pc + 16 } ∧
      (∀ r, r ≠ d → (u.core c).v r = (s.core c).v r) ∧
      (∀ i, i < 16384 / width → lane width ((u.core c).v d) i = if act i then value i % 2 ^ width else lane width ((s.core c).v d) i)) := by
  obtain ⟨u, hrow, hu⟩ := h
  exact ⟨u, hrow, hu.1, hu.2.1, hu.lanes⟩

/-- Settles O8: the elements that each instruction writes. -/
theorem vectorLanes : Obligations.VectorLanes := by
  unfold Obligations.VectorLanes
  intro s c w h f x p t done
  refine ⟨fun hu hf ht hr => ?_, fun hu hf ht => ?_, fun hu hf => (execVperm_writes s c w h hu hf).lanes, fun hu hf => (execVbcast_writes s c w h hu hf).lanes,
    fun hu hf ht => ?_⟩
  · refine Runs.lanes ⟨_, (exec_vfp c w false s).trans (execVfp_writes s c w h hu hf ht hr), ?_⟩
    have wrote := lanewise_issued s c (elW t) w.d p (vfpSources w.func.toNat w.a.toNat w.b.toNat w.c.toNat)
      (fun l => vfpOp w.func.toNat t (rndOf w.rnd.toNat) (l.getD 0 0) (l.getD 1 0) (l.getD 2 0))
    simpa only [vfpOp_sources w.func.toNat t _ hf] using wrote
  · exact Runs.lanes ⟨_, (exec_vint c w s).trans (execVint_writes s c w h hu hf ht), lanewise_issued s c 32 w.d _ _ _⟩
  · exact Runs.lanes ⟨_, (exec_vtbl c w s).trans (execVtbl_writes s c w h hu hf ht), lanewise_issued s c _ w.d _ _ _⟩

end Sys2Proof.Machine
end


section
/-! O9: VCVT (04 R128; 02 R59, R66). -/

namespace Sys2Proof.Machine

theorem exec_vcvt (c : Fin 144) (w : GenFields) (s : State) : exec (.vcvt c w) s = execVcvt c w s := rfl

/-- The job of a core whose instruction issues is the one it had. -/
theorem State.jobOf_issued (s : State) (c : Fin 144) : ((s.fetch c).setCore c (s.core c).go).jobOf c = s.jobOf c := by
  unfold State.jobOf
  rw [State.core_setCore _ _ _ c.isLt]
  exact (congrArg (fun v => (vget v (s.core c).stream Stream.reset).job) (s.fetch_streams c) :)

/-- A VCVT among element types: the conversion of the core's elements, and the report of an infinity. -/
theorem execVcvt_elems (s : State) (c : Fin 144) (w : GenFields) (h : s.fresh c)
    (hu : ({ d := true, a := true, pred := true, type := true, rnd := true, x := true } : Uses).bad w = false) (hr : w.rnd.toNat ≤ 1)
    (ht : w.type.toNat < 4) (hx : w.x.toNat < 4) (hf : w.func.toNat ≤ 1) (hone : elW w.type.toNat = elW w.x.toNat → w.func = 0) :
    execVcvt c w s = .next (((s.fetch c).setCore c (vcvtElems (s.core c).go w ((s.core c).p w.pred.toNat)).next).infReport (coreQuarter c) (s.jobOf c)
      (vcvtInf (s.core c) w ((s.core c).p w.pred.toNat))) := by
  have blockT : isBlock w.type.toNat = false := by simp [isBlock]; omega
  have blockX : isBlock w.x.toNat = false := by simp [isBlock]; omega
  have pair : vcvtPair w.type.toNat w.x.toNat = true := by simp [vcvtPair, ht, hx]
  unfold execVcvt
  dsimp only
  rw [State.issue_fresh s c _ _ _ h ((codes_eq_nil _).mpr (by simp [hu, hr, hf, blockT, blockX, pair]; exact hone)) rfl]
  simp only [blockT, blockX, Bool.false_eq_true, if_false, coreStep_issued, State.jobOf_issued, State.core_setCore _ _ _ c.isLt]
  rfl

/-- Clean segments poison none of a conversion to a block format. -/
theorem toSegs_clean (t u : Nat) : toSegs t u 0 = 0 := by simp [toSegs, segSet]

/-- A VCVT to a block format: the register in block layout, and the count of block overflows. -/
theorem execVcvt_toBlocks (s : State) (c : Fin 144) (w : GenFields) (h : s.fresh c)
    (hu : ({ d := true, a := true, pred := true, type := true, rnd := true, x := true } : Uses).bad w = false) (hr : w.rnd.toNat ≤ 1)
    (ht : w.type.toNat < 3) (hx : isBlock w.x.toNat = true) (hf : w.func = 0) (r : BitVec 16384 × Nat)
    (hres : r = toBlocks w.type.toNat w.x.toNat (rndOf w.rnd.toNat) ((s.core c).v w.a.toNat)) :
    execVcvt c w s = .next (((s.fetch c).setCore c ((s.core c).go.setV w.d.toNat r.1 0).next).blockOverflow (coreQuarter c) (s.jobOf c) r.2) := by
  have pair : vcvtPair w.type.toNat w.x.toNat = true := by simp [vcvtPair, ht, hx]
  unfold execVcvt
  dsimp only
  rw [State.issue_fresh s c _ _ _ h ((codes_eq_nil _).mpr (by simp [hu, hr, hf, pair])) rfl]
  rw [if_pos hx, coreStep_issued, State.core_setCore _ _ _ c.isLt, Core.go_vp, Core.vp_clean _ h.2, toSegs_clean, Core.go_v, ← hres]
  exact congrArg (fun j => Host.Outcome.next (State.blockOverflow _ _ j _)) (congrArg (fun v => (vget v (s.core c).stream Stream.reset).job) (s.fetch_streams c) :)

/-- A VCVT from a block format: the active elements take the unpacked values, and the report of an infinity. -/
theorem execVcvt_fromBlocks (s : State) (c : Fin 144) (w : GenFields) (h : s.fresh c)
    (hu : ({ d := true, a := true, pred := true, type := true, rnd := true, x := true } : Uses).bad w = false) (hr : w.rnd.toNat ≤ 1)
    (ht : isBlock w.type.toNat = true) (hx : w.x.toNat < 3) (hf : w.func = 0) (p : BitVec 512) (hp : p = (s.core c).p w.pred.toNat) (l : List (Nat × Bool))
    (hl : l = fromBlocks w.type.toNat w.x.toNat (rndOf w.rnd.toNat) ((s.core c).v w.a.toNat)) :
    execVcvt c w s = .next (((s.fetch c).setCore c ((s.core c).go.putEls w.d.toNat (elW w.x.toNat) (fun i => if activeAt p (elW w.x.toNat) i then
      some ((l.getD i (0, false)).1, (blockSegs w.type.toNat i).any ((s.core c).vp w.a.toNat).getLsbD) else none)).next).infReport (coreQuarter c) (s.jobOf c)
        (l.zipIdx.any (fun y => activeAt p (elW w.x.toNat) y.2 && y.1.2))) := by
  have blockX : isBlock w.x.toNat = false := by simp [isBlock]; omega
  have pair : vcvtPair w.type.toNat w.x.toNat = true := by simp [vcvtPair, ht, hx]
  unfold execVcvt
  dsimp only
  rw [State.issue_fresh s c _ _ _ h ((codes_eq_nil _).mpr (by simp [hu, hr, hf, pair])) rfl]
  simp only [blockX, ht, Bool.false_eq_true, if_false, if_true, coreStep_issued, State.jobOf_issued, State.core_setCore _ _ _ c.isLt, Core.go_v, Core.go_vp,
    ← hl, ← hp]

/-- What O9 says of a conversion: the elements that it writes, and the report of an infinity. -/
theorem State.WroteEls.reported {s u : State} {c d width : Nat} {value : Nat → Option Nat} (h : s.WroteEls u c d width value) (q j : Nat) (inf : Bool) :
    (u.infReport q j inf = ((s.fetch c).setCore c { (s.core c).go with
      vreg := ((u.infReport q j inf).core c).vreg, vPoison := ((u.infReport q j inf).core c).vPoison, pc := (s.core c).pc + 16 }).infReport q j inf) ∧
    (∀ k, k ≠ d → ((u.infReport q j inf).core c).v k = (s.core c).v k) ∧
    (∀ i, i < 16384 / width → lane width (((u.infReport q j inf).core c).v d) i = match value i with
      | some v => v % 2 ^ width
      | none => lane width ((s.core c).v d) i) := by
  have core : (u.infReport q j inf).core c = u.core c := congrArg (fun v => vget v c Core.reset) (u.infReport_cores q j inf)
  rw [core]
  refine ⟨congrArg (State.infReport · q j inf) h.1, h.2.1, fun i hi => (h.2.2 i hi).trans ?_⟩
  cases value i <;> rfl

/-- The value that a conversion of element type `t` to `u` gives. -/
def convEl (t u : Nat) (m : Rnd) (v : Nat) : Nat := if t = u then v else elEnc u m (elVal t v)

theorem vcvtElems_sameWidth (s : State) (c : Fin 144) (w : GenFields) (p : BitVec 512) (hw : elW w.type.toNat = elW w.x.toNat) :
    s.WroteEls ((s.fetch c).setCore c (vcvtElems (s.core c).go w p).next) c w.d.toNat (elW w.x.toNat) (fun i => if activeAt p (elW w.x.toNat) i then
      some (convEl w.type.toNat w.x.toNat (rndOf w.rnd.toNat) (lane (elW w.type.toNat) ((s.core c).v w.a.toNat) i)) else none) := by
  unfold vcvtElems
  dsimp only
  rw [if_pos hw]
  exact s.wroteEls_putWhere c w.d (elW w.x.toNat) _ _ _

theorem vcvtElems_narrow (s : State) (c : Fin 144) (w : GenFields) (p : BitVec 512) (ht : elW w.type.toNat = 32) (hx : elW w.x.toNat = 16) :
    s.WroteEls ((s.fetch c).setCore c (vcvtElems (s.core c).go w p).next) c w.d.toNat 16 (fun j => if j / 512 = w.func.toNat ∧ p.getLsbD (j % 512) = true then
      some (convEl w.type.toNat w.x.toNat (rndOf w.rnd.toNat) (lane 32 ((s.core c).v w.a.toNat) (j % 512))) else none) := by
  unfold vcvtElems
  dsimp only
  rw [if_neg (by omega), if_pos hx]
  have pairs : ∀ j, j / 512 = w.func.toNat → j - 512 * w.func.toNat = j % 512 := fun j hj => by omega
  convert s.wroteEls_putWhere c w.d 16 _ _ _ using 2 with j
  by_cases hj : j / 512 = w.func.toNat
  · simp only [pairs j hj]
    rfl
  · rw [if_neg (fun h => hj h.1), if_neg (fun h => hj h.1)]

theorem vcvtElems_widen (s : State) (c : Fin 144) (w : GenFields) (p : BitVec 512) (ht : elW w.type.toNat = 16) (hx : elW w.x.toNat = 32) :
    s.WroteEls ((s.fetch c).setCore c (vcvtElems (s.core c).go w p).next) c w.d.toNat 32 (fun i => if p.getLsbD i then
      some (convEl w.type.toNat w.x.toNat (rndOf w.rnd.toNat) (lane 16 ((s.core c).v w.a.toNat) (512 * w.func.toNat + i))) else none) := by
  unfold vcvtElems
  dsimp only
  rw [if_neg (by omega), if_neg (by omega)]
  exact s.wroteEls_putWhere c w.d 32 _ _ _

/-- A conversion to a wider type makes no infinity. -/
theorem vcvtInf_widen (x : Core) (w : GenFields) (p : BitVec 512) (ht : elW w.type.toNat = 16) (hx : elW w.x.toNat = 32) : vcvtInf x w p = false := by
  simp [vcvtInf, ht, hx]

/-- Settles O9: the elements that each kind of conversion writes, with the report of an infinity or the count of overflows. -/
theorem vectorConvert : Obligations.VectorConvert := by
  unfold Obligations.VectorConvert
  intro s c w h g hu hr x p t u m conv done
  refine ⟨fun ht hx hw hf => ?_, fun ht hx h32 h16 hf => ?_, fun ht hx h16 h32 hf => ?_, fun ht hx hf => ?_, fun ht hx hf => ?_⟩
  · exact ⟨_, (exec_vcvt c w s).trans (execVcvt_elems s c w h hu hr ht hx (by rw [hf]; decide) (fun _ => hf)), (vcvtElems_sameWidth s c w p hw).reported _ _ _⟩
  · exact ⟨_, (exec_vcvt c w s).trans (execVcvt_elems s c w h hu hr ht hx hf (fun hw => absurd (h32.symm.trans (hw.trans h16)) (by decide))), (vcvtElems_narrow s c w p h32 h16).reported _ _ _⟩
  · have row := execVcvt_elems s c w h hu hr ht hx hf (fun hw => absurd (h16.symm.trans (hw.trans h32)) (by decide))
    rw [vcvtInf_widen _ w _ h16 h32] at row
    exact ⟨_, (exec_vcvt c w s).trans row, (vcvtElems_widen s c w p h16 h32).reported _ _ _⟩
  · exact (exec_vcvt c w s).trans (execVcvt_toBlocks s c w h hu hr ht hx hf _ rfl)
  · refine ⟨_, (exec_vcvt c w s).trans (execVcvt_fromBlocks s c w h hu hr ht hx hf p rfl _ rfl), ?_⟩
    exact (s.wroteEls_putWhere c w.d (elW u) _ _ _).reported _ _ _

end Sys2Proof.Machine
end


section
/-! O10: VCMP, PLOG, VRED and VMOVS (04 R118, R127, R129). -/

namespace Sys2Proof.Machine

theorem exec_vcmp (c : Fin 144) (w : GenFields) (s : State) : exec (.vcmp c w) s = execVcmp c w s := rfl
theorem exec_plog (c : Fin 144) (w : GenFields) (s : State) : exec (.plog c w) s = execPlog c w s := rfl
theorem exec_vred (c : Fin 144) (w : GenFields) (s : State) : exec (.vred c w) s = execVred c w s := rfl
theorem exec_vmovs (c : Fin 144) (w : GenFields) (s : State) : exec (.vmovs c w) s = execVmovs c w s := rfl

/-- A number built of bits, the first of a list lowest. -/
def ofBits (b : Nat → Bool) (l : List Nat) : Nat := l.foldr (fun i acc => 2 * acc + (if b i then 1 else 0)) 0

theorem testBit_ofBits (b : Nat → Bool) (l : List Nat) (k : Nat) (hk : k < l.length) : (ofBits b l).testBit k = b l[k] := by
  induction l generalizing k with
  | nil => simp at hk
  | cons i r ih =>
    have bit : ofBits b (i :: r) = Nat.bit (b i) (ofBits b r) := by
      rw [ofBits, List.foldr_cons, Nat.bit_val, ← ofBits]
      cases b i <;> rfl
    rw [bit]
    cases k with
    | zero => exact Nat.testBit_bit_zero _ _
    | succ k => rw [Nat.testBit_bit_succ, ih k (by simpa using hk), List.getElem_cons_succ]

/-- A predicate built of its bits. -/
theorem getLsbD_ofBits (b : Nat → Bool) (i : Nat) (hi : i < 512) : (BitVec.ofNat 512 (ofBits b (List.range 512))).getLsbD i = b i := by
  rw [BitVec.getLsbD_ofNat, testBit_ofBits _ _ _ (by simpa using hi), List.getElem_range]
  simp [hi]

/-- The condition that VCMP writes for lane `i` (04 R127). -/
def Core.vcmpBit (x : Core) (w : GenFields) (i : Nat) : Bool :=
  let t := w.type.toNat
  let k := if elW t = 16 then 2 * i + w.x.toNat else i
  let a := lane (elW t) (x.v w.a.toNat) k
  let b := lane (elW t) (x.v w.b.toNat) k
  (x.p w.pred.toNat).getLsbD i && (if t = 3 then cmpCondI w.func.toNat (sint 32 a) (sint 32 b) else cmpCond w.func.toNat (elVal t a) (elVal t b))

theorem execVcmp_writes (s : State) (c : Fin 144) (w : GenFields) (h : s.fresh c)
    (hu : ({ d := true, a := true, b := true, pred := true, type := true, x := true } : Uses).bad w = false) (hd : w.d.toNat ≤ 7)
    (hf : w.func.toNat ≤ 6) (ht : w.type.toNat ≤ 3) (hx : w.x.toNat ≤ 1) :
    execVcmp c w s = .next ((s.fetch c).setCore c
      ((s.core c).go.setP w.d.toNat (BitVec.ofNat 512 (ofBits ((s.core c).vcmpBit w) (List.range 512)))).next) := by
  unfold execVcmp
  dsimp only
  rw [State.issue_coreStep s c _ _ _ h ((codes_eq_nil _).mpr (by simp [hu, hd, hf, ht, hx])) rfl, Nat.mod_eq_of_lt (Nat.lt_succ_of_le hx)]
  rfl

theorem Core.setP_p_ne (x : Core) (i j : Nat) (v : BitVec 512) (h : j ≠ i) : (x.setP i v).p j = x.p j := by
  by_cases hi : i = 0
  · rw [hi, Core.setP_zero]
  · simp [Core.p, Core.setP, hi, vget_vset_ne _ _ _ _ _ h]

/-- A write of a predicate changes the predicates alone. -/
theorem Core.setP_frame (x : Core) (i : Nat) (v : BitVec 512) : x.setP i v = { x with preg := (x.setP i v).preg } := by
  unfold Core.setP
  split <;> rfl

theorem execPlog_writes (s : State) (c : Fin 144) (w : GenFields) (h : s.fresh c)
    (hu : ({ d := true, a := true, b := true } : Uses).bad w = false) (hd : w.d.toNat ≤ 7) (ha : w.a.toNat ≤ 7) (hb : w.b.toNat ≤ 7) (hf : w.func.toNat ≤ 6) :
    execPlog c w s = .next ((s.fetch c).setCore c
      ((s.core c).go.setP w.d.toNat (plogOp w.func.toNat ((s.core c).p w.a.toNat) ((s.core c).p w.b.toNat))).next) := by
  unfold execPlog
  rw [State.issue_coreStep s c _ _ _ h ((codes_eq_nil _).mpr (by simp [hu, hd, ha, hb, hf])) rfl]
  rfl

/-- The seven functions of PLOG (04 Table 7). -/
theorem plogOp_eq (f : BitVec 5) (hf : f.toNat ≤ 6) (a b : BitVec 512) : plogOp f.toNat a b =
    if f = 0 then a &&& b else if f = 1 then a ||| b else if f = 2 then a ^^^ b else if f = 3 then a &&& ~~~b else if f = 4 then ~~~a
    else if f = 5 then BitVec.allOnes 512 else 0 := by
  obtain ⟨n, rfl⟩ : ∃ n : Fin 7, f = BitVec.ofNat 5 n.val := ⟨⟨f.toNat, by omega⟩, by simp⟩
  fin_cases n <;> rfl

/-- The active elements of a register with their numbers. -/
def Core.activeEls (x : Core) (w : Nat) (p : BitVec 512) (r : Nat) : List (Nat × Nat) := ((lanes w (x.v r)).zipIdx).filter (fun e => activeAt p w e.2)

theorem execVmovs_writes (s : State) (c : Fin 144) (w : GenFields) (h : s.fresh c) (hu : ({ d := true, a := true, imm := 64 } : Uses).bad w = false)
    (hf : w.func = 0) : execVmovs c w s = .next ((s.fetch c).setCore c
      ((s.core c).go.setS w.d.toNat (BitVec.ofNat 64 (lane 32 ((s.core c).v w.a.toNat) (w.imm.toNat % 512))) false).next) := by
  unfold execVmovs
  dsimp only
  rw [State.issue_coreStep s c _ _ _ h ((codes_eq_nil _).mpr (by simp [hu, hf])) rfl]
  simp [Core.vp_clean _ h.2]

/-- A report of no infinity changes nothing. -/
@[simp] theorem State.infReport_false (s : State) (q j : Nat) : s.infReport q j false = s := rfl

section vred
variable (s : State) (c : Fin 144) (w : GenFields) (h : s.fresh c)
  (hu : ({ d := true, a := true, b := true, c := true, pred := true, type := true } : Uses).bad w = false) (ht : w.type.toNat ≤ 3)
include h hu ht

/-- A VRED sum in a float type. -/
theorem execVred_sums (hf : w.func.toNat ≤ 2) (hfloat : w.type.toNat ≤ 2) (terms : Nat × List Term)
    (hterms : terms = vredTerms w.func.toNat w.type.toNat (((s.core c).activeEls (elW w.type.toNat) ((s.core c).p w.pred.toNat) w.a.toNat).map (·.1))
      (((s.core c).activeEls (elW w.type.toNat) ((s.core c).p w.pred.toNat) w.b.toNat).map (·.1))) :
    execVred c w s = .next (((s.fetch c).setCore c ((s.core c).go.setS w.d.toNat (BitVec.ofNat 64 (fp32.enc .rne (reduceExact terms.1 terms.2).val))
      false).next).infReport (coreQuarter c) (s.jobOf c) (fp32.round .rne (reduceExact terms.1 terms.2).val).2) := by
  have notInt : w.type.toNat ≠ 3 := by omega
  have sum : w.func.toNat < 3 := by omega
  unfold execVred
  dsimp only
  rw [State.issue_fresh s c _ _ _ h ((codes_eq_nil _).mpr (by simp [hu, ht, notInt]; omega)) rfl]
  simp only [sum, notInt, if_true, if_false, coreStep_issued, State.jobOf_issued, State.core_setCore _ _ _ c.isLt, Core.poisonV_clean _ (Core.clean_go _ h.2),
    Core.go_v, decide_true, Bool.true_and]
  subst hterms
  rw [show (w.type.toNat != 3) = true by simpa using notInt, Bool.true_and]
  rfl

omit ht in
/-- A VRED SUM in INT32. -/
theorem execVred_sumsInt (hf : w.func = 0) (hint : w.type = 3) :
    execVred c w s = .next ((s.fetch c).setCore c ((s.core c).go.setS w.d.toNat (BitVec.ofNat 64 (uint 64 (sint 32
      (((s.core c).activeEls (elW w.type.toNat) ((s.core c).p w.pred.toNat) w.a.toNat).map (·.1)).sum))) false).next) := by
  unfold execVred
  dsimp only
  rw [State.issue_fresh s c _ _ _ h ((codes_eq_nil _).mpr (by simp [hu, hf, hint])) rfl]
  have func : w.func.toNat = 0 := congrArg BitVec.toNat hf
  have type : w.type.toNat = 3 := congrArg BitVec.toNat hint
  simp only [func, type, Nat.ofNat_pos, if_true, coreStep_issued, Core.poisonV_clean _ (Core.clean_go _ h.2), Core.go_v, bne_self_eq_false, Bool.and_false,
    Bool.false_and, State.infReport_false]
  rfl

/-- VRED MAX and MIN. -/
theorem execVred_best (hf : w.func = 3 ∨ w.func = 4) (best : Nat × Nat) (hbest : best = vredBest (w.func == 3) w.type.toNat
      ((s.core c).activeEls (elW w.type.toNat) ((s.core c).p w.pred.toNat) w.a.toNat)) :
    execVred c w s = .next ((s.fetch c).setCore c (((s.core c).go.setS w.d.toNat (BitVec.ofNat 64 best.1) false).setS w.c.toNat
      (BitVec.ofNat 64 best.2) false).next) := by
  have notSum : ¬w.func.toNat < 3 := by rcases hf with hf | hf <;> simp [hf]
  have which : (w.func == 3) = (w.func.toNat == 3) := by rcases hf with hf | hf <;> rw [hf] <;> rfl
  unfold execVred
  dsimp only
  rw [State.issue_fresh s c _ _ _ h ((codes_eq_nil _).mpr (by rcases hf with hf | hf <;> simp [hu, hf, ht])) rfl]
  simp only [notSum, decide_false, Bool.false_and, State.infReport_false, if_false, coreStep_issued, Core.poisonV_clean _ (Core.clean_go _ h.2), Core.go_v]
  rw [hbest, which]
  rfl

end vred

/-- Without an active lane there is no active element. -/
theorem Core.activeEls_none (x : Core) (w r : Nat) : x.activeEls w 0 r = [] := by
  refine List.filter_eq_nil_iff.mpr fun e _ => ?_
  simp [activeAt]

/-- The sum of no terms. -/
theorem vredTerms_nil (u : Nat) (hu : u ≤ 2) : fp32.enc .rne (reduceExact (vredTerms 0 u [] []).1 (vredTerms 0 u [] []).2).val = 0 := by
  interval_cases u <;> decide

/-- The winner among no elements. -/
theorem vredBest_nil (u : Nat) (hu : u ≤ 2) : vredBest true u [] = (0xFF800000, 0xFFFFFFFF) ∧ vredBest false u [] = (0x7F800000, 0xFFFFFFFF) := by
  interval_cases u <;> decide

/-- Settles O10: the conditions and predicates, the reductions with those of no element, and VMOVS. -/
theorem vectorReduces : Obligations.VectorReduces := by
  unfold Obligations.VectorReduces
  constructor <;> intro s c w h f x p t
  · refine ⟨fun hu hd hf ht hx => ⟨_, (exec_vcmp c w s).trans (execVcmp_writes s c w h hu hd hf ht hx), ?_⟩, fun hu hd ha hb hf => ?_⟩
    · simp only [State.core_setCore _ _ _ c.isLt]
      refine ⟨congrArg (fun y : Core => f.setCore c y.next) (x.go.setP_frame _ _), fun r hr => Core.setP_p_ne _ _ _ _ hr, fun hd0 i hi => ?_⟩
      have nonzero : w.d.toNat ≠ 0 := fun h0 => hd0 (BitVec.eq_of_toNat_eq h0)
      exact (congrArg (BitVec.getLsbD · i) (Core.p_setP x.go w.d.toNat _ nonzero (Nat.lt_succ_of_le hd))).trans (getLsbD_ofBits _ i hi)
    · rw [exec_plog, execPlog_writes s c w h hu hd ha hb hf, plogOp_eq _ hf]
  · intro pick a b
    refine ⟨fun hu ht => ⟨fun hf hfloat => (exec_vred c w s).trans (execVred_sums s c w h hu ht hf hfloat _ rfl),
      fun hf hint => (exec_vred c w s).trans (execVred_sumsInt s c w h hu hf hint),
      fun hf => (exec_vred c w s).trans (execVred_best s c w h hu ht hf _ rfl)⟩, fun hp => ?_, fun u hu => ⟨vredTerms_nil u hu, vredBest_nil u hu⟩,
      by decide, by decide, fun hu hf => (exec_vmovs c w s).trans (execVmovs_writes s c w h hu hf)⟩
    exact (congrArg (fun q => x.activeEls (elW t) q w.a.toNat) hp).trans (x.activeEls_none _ _)

end Sys2Proof.Machine
end


section
/-! O11: the vector instructions that reach local memory, and TBLLD (04 R127, R130 to R132, R134). -/

namespace Sys2Proof.Machine

theorem exec_vld (c : Fin 144) (w : GenFields) (s : State) : exec (.vld c w) s = execVld c w s := rfl
theorem exec_vgather (c : Fin 144) (w : GenFields) (s : State) : exec (.vgather c w) s = execVgather c w s := rfl
theorem exec_vscatterStore (c : Fin 144) (w : GenFields) (s : State) : exec (.vscatterStore c w) s = .next (s.vscatter c w false) := rfl
theorem exec_vscatterAdd (c : Fin 144) (w : GenFields) (s : State) : exec (.vscatterAdd c w) s = .next (s.vscatter c w true) := rfl
theorem exec_tblld (c : Fin 144) (w : GenFields) (s : State) : exec (.tblld c w) s = execTblld c w s := rfl

theorem Core.conflict_quiet (x : Core) (h : x.ranges = []) (lo hi : Nat) (b : Bool) : x.conflict lo hi b = false := by simp [Core.conflict, h]
theorem Core.tracked_quiet (x : Core) (h : x.ranges = []) : x.tracked = false := by simp [Core.tracked, h]
theorem Core.writeStall_quiet (x : Core) (h : x.ranges = []) (l : List (Nat × Nat)) : x.writeStall l = false := by
  simp [Core.writeStall, x.tracked_quiet h, Core.conflict_quiet x h]

/-- An FP32 encoding has 32 bits. -/
theorem fp32_enc_lt (v : FVal) : fp32.enc .rne v < 2 ^ 32 := by
  have inf : fp32.infBits < 2 ^ 31 := by decide
  have sign : ∀ b : Bool, (if b then fp32.signBit else 0) ≤ 2 ^ 31 := by decide
  have nan : fp32.nanBits < 2 ^ 32 := by decide
  cases v with
  | nan => exact nan
  | inf b => have := sign b; simp only [Fmt.enc, Fmt.round]; omega
  | fin b mag e =>
    have := sign b
    simp only [Fmt.enc, Fmt.round]
    by_cases hm : mag = 0
    · rw [if_pos hm]; dsimp only; omega
    · rw [if_neg hm]
      by_cases ho : fp32.infBits ≤ fp32.magBits .rne mag e
      · simp only [ho, decide_true, if_true]; omega
      · simp only [ho, decide_false, Bool.false_eq_true, if_false]; omega

/-- What a load leaves: the elements that it writes, each less than what its width holds. -/
theorem State.WroteEls.loads {s u : State} {c d width : Nat} {value : Nat → Option Nat} (h : s.WroteEls u c d width value)
    (small : ∀ i v, value i = some v → v < 2 ^ width) (i : Nat) (hi : i < 16384 / width) :
    lane width ((u.core c).v d) i = (value i).getD (lane width ((s.core c).v d) i) := by
  rw [h.2.2 i hi]
  cases hv : value i with
  | none => rfl
  | some v => exact Nat.mod_eq_of_lt (small i v hv)

/-- A word of the bytes that VLD reads. -/
theorem Core.lane_lread (x : Core) (a i : Nat) (hi : i < 512) : lane 32 (bytesVec (x.lread a 2048)) i = leNat (x.lread (a + 4 * i) 4) := by
  rw [lane_bytesVec _ _ (by simp [Core.lread])]
  unfold Core.lread
  rw [show 2048 = 4 * i + (4 + (2044 - 4 * i)) by omega, drop_mgetN, take_mgetN]

theorem execVld_loads (s : State) (c : Fin 144) (w : GenFields) (h : s.fresh c) (quiet : (s.core c).ranges = [])
    (hu : ({ d := true, a := true, pred := true, imm := 64 } : Uses).bad w = false) (hf : w.func = 0) (a : Nat)
    (ha : a = ((s.core c).s w.a.toNat + w.imm).toNat) (aligned : a % 64 = 0) (inside : a + 2048 ≤ 2 ^ 22) :
    Runs (.vld c w) s (fun u => s.WroteEls u c w.d.toNat 32 (fun i => if ((s.core c).p w.pred.toNat).getLsbD i then
      some (lane 32 (bytesVec ((s.core c).lread a 2048)) i) else none)) := by
  rw [Runs, exec_vld]
  unfold execVld
  dsimp only
  rw [← ha, State.issue_coreStep s c _ _ _ h ((codes_eq_nil _).mpr (by simp [hu, hf, aligned, show a + 2048 ≤ lmemSize from inside]))
    (by simp [Core.conflict_quiet _ quiet])]
  exact ⟨_, rfl, s.wroteEls_putWhere c w.d 32 _ _ _⟩

/-! ## Gathers -/

/-- An element's entry among those of a list of elements that have an address. -/
theorem find_filterMap (l : List Nat) (g : Nat → Option Nat) (i : Nat) :
    (l.filterMap (fun k => (g k).map (k, ·))).find? (fun e => e.1 == i) = if i ∈ l then (g i).map (i, ·) else none := by
  induction l with
  | nil => rfl
  | cons k r ih =>
    by_cases hk : k = i
    · subst hk
      cases hg : g k with
      | none => simp [hg, ih]
      | some a => simp [hg]
    · cases hg : g k with
      | none => simp [hg, ih, Ne.symm hk]
      | some a => simp [hg, ih, hk, Ne.symm hk]

/-- The address of what an index has become. -/
def Index.addr (a size : Nat) : Index → Option Nat
  | .elem j => some (a + j * size)
  | _ => none

theorem indexAddrs_eq (x : Core) (t mode L vb : Nat) (p : BitVec 512) (a size : Nat) : indexAddrs a size (x.indices t mode L vb p) =
    ((List.range (16384 / elW t)).filter (activeAt p (elW t))).filterMap
      (fun i => ((resolveIndex mode L (x.indexAt vb i)).addr a size).map (i, ·)) := by
  unfold indexAddrs Core.indices
  rw [List.filterMap_map]
  congr 1
  funext i
  simp only [Function.comp_apply]
  cases resolveIndex mode L (x.indexAt vb i) <;> rfl

/-- The entry of an active element. -/
theorem find_indexAddrs (x : Core) (t mode L vb : Nat) (p : BitVec 512) (a size i : Nat) (hi : i < 16384 / elW t) (hp : activeAt p (elW t) i = true) :
    (indexAddrs a size (x.indices t mode L vb p)).find? (fun e => e.1 == i) = ((resolveIndex mode L (x.indexAt vb i)).addr a size).map (i, ·) := by
  rw [indexAddrs_eq, find_filterMap, if_pos (List.mem_filter.mpr ⟨List.mem_range.mpr hi, hp⟩)]

/-- A type whose indices pass the checks has elements of its width in bytes. -/
theorem indexFaults_type {t mode L vb a : Nat} {ix : List (Nat × Index)} (h : codes (indexFaults t mode L vb a ix) = []) : t ≤ 3 := by
  have := (codes_eq_nil _).mp h _ List.mem_cons_self
  simp only [Bool.or_eq_false_iff, decide_eq_false_iff_not] at this
  omega

theorem typeBytes_width (t : Nat) (ht : t ≤ 3) : 0 < typeBytes t ∧ 256 ^ typeBytes t = 2 ^ elW t := by
  interval_cases t <;> decide

/-- The value that a gather gives element `i` (04 R131): that of its address, or 0. -/
def Core.gathered (x : Core) (t : Nat) (r : Option Nat) : Nat × Bool := match r with
  | some a => (leNat (x.lread a (typeBytes t)), x.lpoison a (typeBytes t))
  | none => (0, false)

theorem execVgather_loads (s : State) (c : Fin 144) (w : GenFields) (h : s.fresh c) (quiet : (s.core c).ranges = [])
    (hu : ({ d := true, a := true, b := true, c := true, pred := true, type := true, x := true } : Uses).bad w = false) (hf : w.func = 0)
    (x : Core) (hx : x = s.core c) (t A L : Nat) (ht : t = w.type.toNat) (hA : A = (x.s w.a.toNat).toNat) (hL : L = (x.s w.c.toNat).toNat) (p : BitVec 512)
    (hp : p = x.p w.pred.toNat) (passes : codes (indexFaults t w.x.toNat L w.b.toNat A (x.indices t w.x.toNat L w.b.toNat p)) = []) :
    Runs (.vgather c w) s (fun u => s.WroteEls u c w.d.toNat (elW t) (fun i => if activeAt p (elW t) i = true then
      some (x.gathered t ((indexAddrs A (typeBytes t) (x.indices t w.x.toNat L w.b.toNat p)).find? (fun e => e.1 == i) |>.map (·.2))).1 else none)) := by
  rw [Runs, exec_vgather]
  unfold execVgather
  dsimp only
  rw [← hx, ← ht, ← hA, ← hL, ← hp, State.issue_coreStep s c _ _ _ h (by simp [hu, hf, passes])
    (by subst hx; simp [Core.tracked_quiet _ quiet, Core.conflict_quiet _ quiet])]
  refine ⟨_, rfl, ?_⟩
  subst hx
  convert s.wroteEls_putWhere c w.d (elW t) (fun i => activeAt p (elW t) i = true) _ (fun i => ((s.core c).gathered t
    ((indexAddrs A (typeBytes t) ((s.core c).indices t w.x.toNat L w.b.toNat p)).find? (fun e => e.1 == i) |>.map (·.2))).2) using 5 with i
  split
  · cases (indexAddrs A (typeBytes t) ((s.core c).indices t w.x.toNat L w.b.toNat p)).find? (fun e => e.1 == i) <;> rfl
  · rfl

/-! ## Scatters -/

/-- One lane of a scatter: the element at its address becomes what the operation makes of it and the lane. -/
def Core.scatterLane (n : Nat) (value : Nat → Nat) (op : Nat → Nat → Nat) (y : Core) (e : Nat × Nat) : Core :=
  y.lwrite e.2 (leBytes (op (leNat (y.lread e.2 n)) (value e.1)) n) false

section scatter
variable (n : Nat) (value : Nat → Nat) (op : Nat → Nat → Nat)

theorem scatterLanes_sameButBytes (l : List (Nat × Nat)) (x y : Core) (h : x.SameButBytes y) : x.SameButBytes (l.foldl (Core.scatterLane n value op) y) :=
  List.foldlRecOn l _ h fun _ hz _ _ => hz.lwrite _ _

/-- A byte in no element that a lane names is left. -/
theorem scatterLanes_out (l : List (Nat × Nat)) (y : Core) (q : Nat) (hq : ∀ e ∈ l, q < e.2 ∨ e.2 + n ≤ q) :
    mget zeroByte (l.foldl (Core.scatterLane n value op) y).lmem q = mget zeroByte y.lmem q := by
  induction l generalizing y with
  | nil => rfl
  | cons e r ih =>
    rw [List.foldl_cons, ih _ (fun e' he' => hq e' (List.mem_cons_of_mem _ he')), Core.scatterLane, Core.lwrite_lmem,
      mget_msetN_out _ _ _ _ _ (by rw [length_leBytes]; exact hq e List.mem_cons_self)]

/-- An element after a scatter: the lanes that name it, applied in their order. -/
theorem scatterLanes_element (base : Nat) (hn : 0 < n) (small : ∀ old k, op old (value k) < 256 ^ n) (j : Nat) (l : List (Nat × Nat)) (y : Core)
    (hl : ∀ e ∈ l, ∃ k, e.2 = base + k * n) :
    leNat ((l.foldl (Core.scatterLane n value op) y).lread (base + j * n) n) =
      (l.filter (fun e => e.2 == base + j * n)).foldl (fun acc e => op acc (value e.1)) (leNat (y.lread (base + j * n) n)) := by
  induction l generalizing y with
  | nil => rfl
  | cons e r ih =>
    rw [List.foldl_cons, ih _ (fun e' he' => hl e' (List.mem_cons_of_mem _ he')), List.filter_cons]
    obtain ⟨k, hk⟩ := hl e List.mem_cons_self
    by_cases hj : k = j
    · subst hj
      have stored : leNat ((y.scatterLane n value op e).lread (base + k * n) n) = op (leNat (y.lread (base + k * n) n)) (value e.1) := by
        have bytes := mgetN_msetN zeroByte y.lmem (base + k * n) (leBytes (op (leNat (y.lread (base + k * n) n)) (value e.1)) n)
        rw [length_leBytes] at bytes
        rw [Core.scatterLane, hk, Core.lread, Core.lwrite_lmem, bytes, leNat_leBytes, Nat.mod_eq_of_lt (small _ _)]
      rw [if_pos (by simp [hk]), List.foldl_cons, stored]
    · have apart : k * n + n ≤ j * n ∨ j * n + n ≤ k * n := by
        rcases Nat.lt_or_gt_of_ne hj with hlt | hlt
        · exact .inl (by rw [← Nat.succ_mul]; exact Nat.mul_le_mul_right n hlt)
        · exact .inr (by rw [← Nat.succ_mul]; exact Nat.mul_le_mul_right n hlt)
      have left : (y.scatterLane n value op e).lread (base + j * n) n = y.lread (base + j * n) n := mgetN_congr _ _ _ _ _ fun i hi => by
        rw [Core.scatterLane, Core.lwrite_lmem, mget_msetN_out _ _ _ _ _ (by rw [length_leBytes, hk]; omega)]
      rw [if_neg (by rw [hk, beq_iff_eq]; omega), left]

end scatter

/-- Every address of a gather or scatter is that of an element. -/
theorem mem_indexAddrs {a size : Nat} {ix : List (Nat × Index)} {e : Nat × Nat} (h : e ∈ indexAddrs a size ix) : ∃ k, e.2 = a + k * size := by
  obtain ⟨⟨i, r⟩, -, he⟩ := List.mem_filterMap.mp h
  cases r with
  | elem j => exact ⟨j, (congrArg Prod.snd (Option.some.inj he)).symm⟩
  | skip => exact absurd he (by simp)
  | bad => exact absurd he (by simp)

/-- What a lane of a scatter makes of the element (04 R132). -/
def scatterOp (add : Bool) (t old v : Nat) : Nat :=
  if add then (if t = 3 then (old + v) % 2 ^ 32 else fp32.enc .rne ((f32 old).add (f32 v))) else v

theorem vscatter_stores (s : State) (c : Fin 144) (w : GenFields) (add : Bool) (h : s.fresh c) (quiet : (s.core c).ranges = [])
    (hu : ({ d := true, a := true, b := true, c := true, pred := true, type := true, x := true } : Uses).bad w = false) (hf : w.func.toNat ≤ 1)
    (x : Core) (hx : x = s.core c) (t A L : Nat) (ht : t = w.type.toNat) (hA : A = (x.s w.a.toNat).toNat) (hL : L = (x.s w.d.toNat).toNat)
    (ix : List (Nat × Index)) (hix : ix = x.indices t w.x.toNat L w.b.toNat (x.p w.pred.toNat))
    (passes : codes (indexFaults t w.x.toNat L w.b.toNat A ix) = []) (hadd : add = true → t = 0 ∨ t = 3) :
    s.vscatter c w add = (s.fetch c).setCore c ((indexAddrs A (typeBytes t) ix).foldl
      (Core.scatterLane (typeBytes t) (lane (elW t) (x.v w.c.toNat)) (scatterOp add t)) x.go).next := by
  have kinds : (add && t != 0 && t != 3) = false := by
    cases add with
    | false => rfl
    | true => rcases hadd rfl with rfl | rfl <;> rfl
  unfold State.vscatter
  dsimp only
  rw [← hx, ← ht, ← hA, ← hL, ← hix, withFunc_eq w _ 2 (by omega), State.issue_coreStep s c _ _ _ h
    (by simp only [codes_cons, Uses.bad_func, hu, kinds, passes]; cases add <;> rfl)
    (by subst hx; simp [Core.writeStall_quiet _ quiet])]
  subst hx
  simp only [Core.go_vp, Core.vp_clean _ h.2, Core.go_v, show ∀ i, (0 : BitVec 32).getLsbD i = false by simp]
  rfl

/-- What O11 says of a scatter follows from the fold of its lanes. -/
theorem vscatter_leaves (s : State) (c : Fin 144) (h : s.fresh c) (t A : Nat) (value : Nat → Nat) (op : Nat → Nat → Nat) (ad : List (Nat × Nat))
    (had : ∀ e ∈ ad, ∃ k, e.2 = A + k * typeBytes t) (ht : 0 < typeBytes t) (small : ∀ old k, op old (value k) < 256 ^ typeBytes t) (u : State)
    (hu : u = (s.fetch c).setCore c (ad.foldl (Core.scatterLane (typeBytes t) value op) (s.core c).go).next) :
    u = (s.fetch c).setCore c { (s.core c).go with lmem := (u.core c).lmem, pc := (s.core c).pc + 16 } ∧
    (∀ j, leNat ((u.core c).lread (A + j * typeBytes t) (typeBytes t)) =
      (ad.filter (fun e => e.2 == A + j * typeBytes t)).foldl (fun acc e => op acc (value e.1)) (leNat ((s.core c).lread (A + j * typeBytes t) (typeBytes t)))) ∧
    (∀ q, (∀ e ∈ ad, q < e.2 ∨ e.2 + typeBytes t ≤ q) → mget zeroByte (u.core c).lmem q = mget zeroByte (s.core c).lmem q) := by
  have frame := (scatterLanes_sameButBytes (typeBytes t) value op ad _ _ (.refl (s.core c).go h.2.2.2)).1
  have core : u.core c = _ := (congrArg (State.core · c) hu).trans (State.core_setCore _ _ _ c.isLt)
  rw [core]
  refine ⟨hu.trans (congrArg (fun y : Core => (s.fetch c).setCore c y.next) frame), fun j => ?_, fun q hq => ?_⟩
  · exact scatterLanes_element (typeBytes t) value op A ht small j ad (s.core c).go had
  · exact scatterLanes_out (typeBytes t) value op ad (s.core c).go q hq

theorem execTblld_loads (s : State) (c : Fin 144) (w : GenFields) (h : s.fresh c) (quiet : (s.core c).ranges = [])
    (hu : ({ a := true, imm := 4 } : Uses).bad w = false) (hf : w.func = 0) (hslot : 12 ≤ w.imm.toNat) (A : Nat) (hA : A = ((s.core c).s w.a.toNat).toNat)
    (aligned : A % 64 = 0) (inside : A + 6208 ≤ 2 ^ 22) (header : tableHeaderOk ((s.core c).lread A 64) = true) :
    execTblld c w s = .next ((s.fetch c).setCore c { (s.core c).go with
      tables := vset (s.core c).tables (w.imm.toNat - 12) (some { words := (chunks 4 ((s.core c).lread A 6208)).map (fun b => BitVec.ofNat 32 (leNat b)) }),
      pc := (s.core c).pc + 16 }) := by
  have small := imm_small _ w hu
  have slot : w.imm.toNat % 16 = w.imm.toNat := by simp at small; omega
  unfold execTblld
  dsimp only
  rw [slot, ← hA, State.issue_coreStep s c _ _ _ h ((codes_eq_nil _).mpr (by
      simp [hu, hf, aligned, hslot, header, show A + 6208 ≤ lmemSize from inside])) (by simp [Core.conflict_quiet _ quiet])]
  rfl

/-- Settles O11: the elements that loads write, and every element and byte after a scatter. -/
theorem vectorMemory : Obligations.VectorMemory := by
  unfold Obligations.VectorMemory
  intro s c w h f quiet x p t n A loads stores
  refine ⟨?_, ?_, ?_,
    fun hu hf hslot aligned inside header => (exec_tblld c w s).trans (execTblld_loads s c w h quiet hu hf hslot A rfl aligned inside header)⟩
  · intro hu hf a aligned inside
    obtain ⟨u, row, wrote⟩ := execVld_loads s c w h quiet hu hf a rfl aligned inside
    refine ⟨u, row, wrote.1, wrote.2.1, fun i hi => (wrote.loads (fun i v hv => ?_) i hi).trans ?_⟩
    · split at hv
      · exact Option.some.inj hv ▸ lane_lt 32 _ i
      · cases hv
    · have word := x.lane_lread a i hi
      simp only [word, x, p]
  · intro hu hf L passes
    have ht := indexFaults_type passes
    obtain ⟨u, row, wrote⟩ := execVgather_loads s c w h quiet hu hf x rfl t A L rfl rfl rfl p rfl passes
    refine ⟨u, row, wrote.1, wrote.2.1, fun i hi => (wrote.loads (fun i v hv => ?_) i hi).trans ?_⟩
    · split at hv
      · rw [← Option.some.inj hv]
        cases ((indexAddrs A (typeBytes t) (x.indices t w.x.toNat L w.b.toNat p)).find? (fun e => e.1 == i)).map (·.2) with
        | none => exact Nat.two_pow_pos _
        | some a => exact lt_of_lt_of_eq (leNat_lt _) (by rw [Core.lread, length_mgetN, (typeBytes_width t ht).2])
      · cases hv
    · by_cases hp : activeAt p (elW t) i = true
      · simp only [if_pos hp]
        rw [find_indexAddrs x t _ L _ p A _ i hi hp]
        cases resolveIndex w.x.toNat L (x.indexAt w.b.toNat i) <;> rfl
      · simp only [if_neg hp]
        rfl
  · intro hu hf L ix passes
    have ht := indexFaults_type passes
    obtain ⟨size, width⟩ := typeBytes_width t ht
    have lane_small : ∀ k, lane (elW t) (x.v w.c.toNat) k < 256 ^ typeBytes t := fun k => width ▸ lane_lt _ _ _
    refine ⟨⟨_, (exec_vscatterStore c w s).trans (congrArg _ (vscatter_stores s c w false h quiet hu hf x rfl t A L rfl rfl rfl ix rfl passes nofun)),
        vscatter_leaves s c h t A (lane (elW t) (x.v w.c.toNat)) (scatterOp false t) _ (fun e he => mem_indexAddrs he) size (fun _ k => lane_small k) _ rfl⟩,
      fun h0 => ⟨_, (exec_vscatterAdd c w s).trans (congrArg _ (vscatter_stores s c w true h quiet hu hf x rfl t A L rfl rfl rfl ix rfl passes (fun _ => .inl h0))),
        ?_⟩,
      fun h3 => ⟨_, (exec_vscatterAdd c w s).trans (congrArg _ (vscatter_stores s c w true h quiet hu hf x rfl t A L rfl rfl rfl ix rfl passes (fun _ => .inr h3))),
        ?_⟩⟩
    · have ops : scatterOp true t = fun old v => fp32.enc .rne ((f32 old).add (f32 v)) := by rw [h0]; rfl
      rw [ops]
      exact vscatter_leaves s c h t A (lane (elW t) (x.v w.c.toNat)) _ _ (fun e he => mem_indexAddrs he) size (fun _ _ => by rw [h0]; exact fp32_enc_lt _) _ rfl
    · have ops : scatterOp true t = fun old v => (old + v) % 2 ^ 32 := by rw [h3]; rfl
      rw [ops]
      exact vscatter_leaves s c h t A (lane (elW t) (x.v w.c.toNat)) _ _ (fun e he => mem_indexAddrs he) size (fun _ _ => by rw [h3]; exact Nat.mod_lt _ (by norm_num)) _ rfl

end Sys2Proof.Machine
end

section
/-! O23: region descriptors (04 R148, 03 R100). -/

namespace Sys2Proof.Machine

theorem exec_regionLinear (c : Fin 144) (w : GenFields) (s : State) : exec (.regionLinear c w) s = .next (s.regionWrite c w false) := rfl
theorem exec_regionDiagonal (c : Fin 144) (w : GenFields) (s : State) : exec (.regionDiagonal c w) s = .next (s.regionWrite c w true) := rfl
theorem exec_regionDisable (c : Fin 144) (w : GenFields) (s : State) : exec (.regionDisable c w) s =
    .next (s.region c w (max 2 w.func.toNat) [] { vget (s.core c).regions (w.imm.toNat % 16) Region.reset with enabled := false }
      (codes [(({ imm := 4 } : Uses).bad { w with func := 0 }, 0x02), (decide (2 < w.func.toNat), 0x03)])) := rfl

/-- A byte after a fill with zeros. -/
theorem mget_mclear (m : Mem) (lo hi q : Nat) : mget zeroByte (mclear m lo hi) q = if lo ≤ q ∧ q < hi then 0 else mget zeroByte m q := by
  unfold mget mclear
  rw [tget_filter (p := fun i => i < lo || hi ≤ i)]
  by_cases h : lo ≤ q ∧ q < hi
  · rw [if_pos h, if_neg (by simp; omega)]
    rfl
  · rw [if_neg h, if_pos (by simp; omega)]

theorem vset_vget {α : Type} {n : Nat} (v : Vector α n) (i : Nat) (d : α) : vset v i (vget v i d) = v := by
  unfold vset vget
  split
  · next h =>
    refine Vector.ext fun j hj => ?_
    by_cases hij : i = j
    · subst hij
      simp [h]
    · rw [Vector.getElem_set_ne h hj hij]
  · rfl

/-- A core whose descriptor `n` has been written (03 R100): a change fills the old and the new region. -/
def Core.regionWritten (x : Core) (n : Nat) (new : Region) : Core :=
  let old := vget x.regions n Region.reset
  if old = new then x else { ((x.zeroFill old.span.1 old.span.2).zeroFill new.span.1 new.span.2) with regions := vset x.regions n new }

/-- Without an access in flight a descriptor is written at once. -/
theorem State.region_writes (s : State) (c : Fin 144) (w : GenFields) (func : Nat) (src : List Nat) (new : Region) (h : s.fresh c)
    (quiet : (s.core c).ranges = []) (hn : w.imm.toNat < 16)
    (on : (vget (s.core c).regions w.imm.toNat Region.reset).enabled = true ∨ new.enabled = true) :
    s.region c w func src new [] = (s.fetch c).setCore c ((s.core c).go.regionWritten w.imm.toNat new).next := by
  have enabled : (!(vget (s.core c).regions w.imm.toNat Region.reset).enabled && !new.enabled) = false := by
    rcases on with h | h <;> simp [h]
  unfold State.region
  dsimp only
  rw [Nat.mod_eq_of_lt hn, enabled, Bool.or_false, State.issue_coreStep s c _ _ _ h rfl (by simp [Core.conflict_quiet _ quiet])]
  simp only [decide_eq_true_eq]
  rfl

/-- A descriptor written: what changes, and every byte after it. -/
theorem Core.regionWritten_bytes (x : Core) (n : Nat) (new : Region) :
    let y := x.regionWritten n new
    let old := vget x.regions n Region.reset
    y = { x with lmem := y.lmem, lPoison := y.lPoison, regions := vset x.regions n new } ∧
    ∀ q, (old ≠ new → (old.span.1 ≤ q ∧ q < old.span.1 + old.span.2) ∨ (new.span.1 ≤ q ∧ q < new.span.1 + new.span.2) → mget zeroByte y.lmem q = 0) ∧
      (old = new ∨ (¬(old.span.1 ≤ q ∧ q < old.span.1 + old.span.2) ∧ ¬(new.span.1 ≤ q ∧ q < new.span.1 + new.span.2)) →
        mget zeroByte y.lmem q = mget zeroByte x.lmem q) := by
  intro y old
  by_cases hsame : old = new
  · have left : y = x := if_pos hsame
    rw [left]
    refine ⟨?_, fun q => ⟨fun hne => absurd hsame hne, fun _ => rfl⟩⟩
    rw [← hsame, vset_vget]
  · have changed : y = { ((x.zeroFill old.span.1 old.span.2).zeroFill new.span.1 new.span.2) with regions := vset x.regions n new } := if_neg hsame
    have byte : ∀ q, mget zeroByte y.lmem q = if new.span.1 ≤ q ∧ q < new.span.1 + new.span.2 then 0 else
        if old.span.1 ≤ q ∧ q < old.span.1 + old.span.2 then 0 else mget zeroByte x.lmem q := fun q => by
      rw [changed]
      exact (mget_mclear _ _ _ _).trans (if_congr Iff.rfl rfl (mget_mclear _ _ _ _))
    refine ⟨by rw [changed]; rfl, fun q => ⟨fun _ hin => ?_, fun hout => ?_⟩⟩
    · rw [byte]
      rcases hin with hin | hin
      · rw [if_pos hin, ite_self]
      · rw [if_pos hin]
    · obtain ⟨ho, hn⟩ := hout.resolve_left hsame
      rw [byte, if_neg hn, if_neg ho]

/-- The codes of a REGION LINEAR or DIAGONAL (04 R148). -/
def Core.regionCodes (x : Core) (w : GenFields) : List (Bool × Nat) :=
  let a := (x.s w.a.toNat).toNat
  let b := (x.s w.b.toNat).toNat
  let p := (x.s w.c.toNat).toNat
  [(({ a := true, b := true, c := true, imm := 4 } : Uses).bad { w with func := 0 }, 0x02), (b == 0, 0x03),
    (decide (a % 65536 ≠ 0) || decide (b % 65536 ≠ 0) || decide (p % 64 ≠ 0) || decide (p < 64) || decide (65536 < p), 0x08),
    (outside a b, 0x09), ((List.range 16).any (fun i => i != w.imm.toNat % 16 && spansMeet (vget x.regions i Region.reset).span (a, b)), 0x11)]

/-- A region without a fault but for its size: only an empty one has a code. -/
theorem Core.regionCodes_eq (x : Core) (w : GenFields)
    (hu : ({ func := false, a := true, b := true, c := true, imm := 4 } : Uses).bad { w with func := 0 } = false)
    (ha : (x.s w.a.toNat).toNat % 65536 = 0) (hb : (x.s w.b.toNat).toNat % 65536 = 0) (hp : (x.s w.c.toNat).toNat % 64 = 0)
    (hlo : 64 ≤ (x.s w.c.toNat).toNat) (hhi : (x.s w.c.toNat).toNat ≤ 65536) (inside : (x.s w.a.toNat).toNat + (x.s w.b.toNat).toNat ≤ 2 ^ 22)
    (apart : ∀ i, i < 16 → i ≠ w.imm.toNat → ¬((vget x.regions i Region.reset).span.1 < (x.s w.a.toNat).toNat + (x.s w.b.toNat).toNat ∧
      (x.s w.a.toNat).toNat < (vget x.regions i Region.reset).span.1 + (vget x.regions i Region.reset).span.2)) :
    codes (x.regionCodes w) = if (x.s w.b.toNat).toNat = 0 then [0x03] else [] := by
  have bad : ({ a := true, b := true, c := true, imm := 4 } : Uses).bad { w with func := 0 } = false := by simpa [Uses.bad] using hu
  have small := imm_small _ _ bad
  have hn : w.imm.toNat % 16 = w.imm.toNat := by simp at small; omega
  have clear : (List.range 16).any (fun i => i != w.imm.toNat % 16 && spansMeet (vget x.regions i Region.reset).span ((x.s w.a.toNat).toNat, (x.s w.b.toNat).toNat))
      = false := by
    rw [hn, List.any_eq_false]
    intro i hi
    simp only [Bool.and_eq_true, bne_iff_ne, spansMeet, decide_eq_true_eq]
    exact fun hc => apart i (List.mem_range.mp hi) hc.1 hc.2
  have aligned : (decide ((x.s w.a.toNat).toNat % 65536 ≠ 0) || decide ((x.s w.b.toNat).toNat % 65536 ≠ 0) || decide ((x.s w.c.toNat).toNat % 64 ≠ 0) ||
      decide ((x.s w.c.toNat).toNat < 64) || decide (65536 < (x.s w.c.toNat).toNat)) = false := by simp [ha, hb, hp]; omega
  have within : outside (x.s w.a.toNat).toNat (x.s w.b.toNat).toNat = false := decide_eq_false (Nat.not_lt.mpr inside)
  unfold Core.regionCodes
  dsimp only
  rw [clear, aligned, within, bad]
  simp

/-- The region that REGION LINEAR or DIAGONAL describes (04 R148). -/
def Core.regionNamed (x : Core) (w : GenFields) (diagonal : Bool) : Region :=
  { enabled := true, base := BitVec.ofNat 32 (x.s w.a.toNat).toNat, size := BitVec.ofNat 32 (x.s w.b.toNat).toNat, diagonal := diagonal,
    pitch := BitVec.ofNat 32 (x.s w.c.toNat).toNat }

theorem State.regionWrite_writes (s : State) (c : Fin 144) (w : GenFields) (diagonal : Bool) (h : s.fresh c) (quiet : (s.core c).ranges = [])
    (hn : w.imm.toNat < 16) (passes : codes ((s.core c).regionCodes w) = []) :
    s.regionWrite c w diagonal = (s.fetch c).setCore c ((s.core c).go.regionWritten w.imm.toNat ((s.core c).regionNamed w diagonal)).next := by
  unfold Core.regionCodes at passes
  unfold State.regionWrite
  dsimp only at passes ⊢
  rw [passes, State.region_writes s c w _ _ _ h quiet hn (.inr rfl)]
  rfl

theorem State.regionWrite_faults (s : State) (c : Fin 144) (w : GenFields) (h : s.fresh c) (code : codes ((s.core c).regionCodes w) = [0x03]) :
    s.regionWrite c w false = (s.fetch c).coreFault c 0x03 (genWord 0x64 { w with func := 0 }) 0 := by
  unfold Core.regionCodes at code
  unfold State.regionWrite State.region
  dsimp only at code ⊢
  rw [code, State.issue_fault s c _ _ _ 0x03 h rfl]
  rfl

/-- Settles O23: the descriptor written, and every byte of local memory after it. -/
theorem regions : Obligations.Regions := by
  unfold Obligations.Regions
  intro s c w h quiet x n a b p old inside done ok region
  have written : ∀ new : Region, old.enabled = true ∨ new.enabled = true →
      done ((s.fetch c).setCore c (x.go.regionWritten n new).next) new := fun new hon => by
    have bytes := x.go.regionWritten_bytes n new
    obtain ⟨frame, byte⟩ := bytes
    simp only [done, State.core_setCore _ _ _ c.isLt]
    exact ⟨congrArg (fun y : Core => (s.fetch c).setCore c y.next) frame, fun q => ⟨fun hne => (byte q).1 hne.1, (byte q).2⟩⟩
  have number : ∀ (u : Uses) (w' : GenFields), u.imm = 4 → u.bad w' = false → w'.imm.toNat < 16 := fun u w' h4 hu => by
    have small := imm_small u w' hu
    rw [h4] at small
    simp at small
    omega
  refine ⟨fun hok hb => ?_, fun hok hb => ?_, fun hu hf hon => ?_⟩
  · obtain ⟨hu, ha, hb', hp, hlo, hhi, hin, apart⟩ := hok
    have passes := (x.regionCodes_eq w hu ha hb' hp hlo hhi hin apart).trans (if_neg (Nat.pos_iff_ne_zero.mp hb))
    have hn : w.imm.toNat < 16 := number _ { w with func := 0 } rfl hu
    exact ⟨⟨_, (exec_regionLinear c w s).trans (congrArg _ (s.regionWrite_writes c w false h quiet hn passes)), written (region false) (.inr rfl)⟩,
      ⟨_, (exec_regionDiagonal c w s).trans (congrArg _ (s.regionWrite_writes c w true h quiet hn passes)), written (region true) (.inr rfl)⟩⟩
  · obtain ⟨hu, ha, hb', hp, hlo, hhi, hin, apart⟩ := hok
    have code := (x.regionCodes_eq w hu ha hb' hp hlo hhi hin apart).trans (if_pos hb)
    exact ⟨_, (exec_regionLinear c w s).trans (congrArg _ (s.regionWrite_faults c w h code)), rfl⟩
  · have hn : w.imm.toNat < 16 := number _ { w with func := 0 } rfl hu
    have passes : codes [(({ imm := 4 } : Uses).bad { w with func := 0 }, 0x02), (decide (2 < w.func.toNat), 0x03)] = [] := by
      rw [hu, decide_eq_false (Nat.not_lt.mpr (show w.func.toNat ≤ 2 from hf))]
      rfl
    have row := exec_regionDisable c w s
    rw [passes, Nat.mod_eq_of_lt hn, State.region_writes s c w _ _ _ h quiet hn (.inl hon)] at row
    exact ⟨_, row, written _ (.inl hon)⟩

end Sys2Proof.Machine
end


section
/-! SUPPORT. Laws of the row engine (04 R143, R144): the issue of a row instruction, slots written one after another, and rows written one after another
into a local memory without poison. -/

namespace Sys2Proof.Machine

/-! ## Issue -/

/-- The control block of a row instruction. -/
def Core.rowBlock (x : Core) (w : GenFields) : RowRec := rowRecOf (x.lread (x.s w.a.toNat).toNat 64)

section issue
variable (s : State) (c : Fin 144) (op : Nat) (w : GenFields) (func funcs : Nat) (use : RowRec → RowUse) (eff : RowRec → Core → Core) (h : s.fresh c)
  (quiet : (s.core c).ranges = []) (hu : ({ a := true } : Uses).bad w = false)
  (passes : codes (rowCodes ((s.core c).s w.a.toNat).toNat ((s.core c).lread ((s.core c).s w.a.toNat).toNat 64) ((s.core c).rowBlock w)
    (use ((s.core c).rowBlock w))) = [])
include h quiet hu passes

/-- A row instruction whose block has no fault changes the core and goes on. -/
theorem State.rowIssue_runs (hf : w.func.toNat < funcs) (hfunc : func < funcs) (hsmall : funcs ≤ 32) : s.rowIssue c op w func funcs use eff =
    (s.fetch c).setCore c (eff ((s.core c).rowBlock w) (s.core c).go).next := by
  have taken : (withFunc w func funcs).func.toNat = func := by
    rw [withFunc_eq w _ _ hf]
    exact Nat.mod_eq_of_lt (by omega)
  have bad : ({ a := true } : Uses).bad (withFunc w func funcs) = false := by rw [withFunc_eq w _ _ hf, Uses.bad_func _ _ _ rfl, hu]
  unfold State.rowIssue
  dsimp only
  rw [taken, bad, Core.conflict_quiet _ quiet]
  rw [State.issue_coreStep s c _ _ _ h (by
    rw [codes_cons, codes_cons, decide_eq_false (Nat.not_le.mpr hfunc)]
    exact passes) (by simp [Core.conflict_quiet _ quiet, Core.writeStall_quiet _ quiet])]
  rfl

/-- A reserved FUNC of a row instruction. -/
theorem State.rowIssue_reserved (hf : funcs ≤ w.func.toNat) : s.rowIssue c op w func funcs use eff = (s.fetch c).coreFault c 0x03 (genWord op w) 0 := by
  unfold State.rowIssue
  dsimp only
  rw [withFunc_reserved w _ _ hf, Core.conflict_quiet _ quiet, State.issue_fault s c _ _ _ 0x03 h (by
    rw [codes_cons, codes_cons, hu, decide_eq_true hf]
    exact min?_eq_some_of_least _ _ (by simp) (by
      have := passes
      unfold Core.rowBlock at this
      simp [this]))]

end issue

/-! ## Slots -/

/-- A write of slot `base + i`. -/
def Core.writeSlot (base : Nat) (value : Core → Nat → Word) (y : Core) (i : Nat) : Core := { y with side := tset 0 y.side (base + i) (value y i) }

/-- Slots written one after another, each with a value that the slots do not enter. -/
theorem Core.writeSlots (base : Nat) (value : Core → Nat → Word) (x : Core) (own : ∀ (t : Tbl Word) (i : Nat), value { x with side := t } i = value x i) (n : Nat) :
    let y := (List.range n).foldl (Core.writeSlot base value) x
    y = { x with side := y.side } ∧ ∀ k, tget 0 y.side k = if base ≤ k ∧ k < base + n then value x (k - base) else tget 0 x.side k := by
  intro y
  induction n with
  | zero => exact ⟨rfl, fun k => (if_neg (by omega)).symm⟩
  | succ n ih =>
    obtain ⟨frame, slots⟩ := ih
    have last : y = ((List.range n).foldl (Core.writeSlot base value) x).writeSlot base value n := by
      simp only [y, List.range_succ, List.foldl_append]
      rfl
    generalize (List.range n).foldl (Core.writeSlot base value) x = z at frame slots last
    have now : value z n = value x n := frame ▸ own z.side n
    rw [last]
    refine ⟨congrArg (fun u : Core => { u with side := tset 0 z.side (base + n) (value z n) }) frame, fun k => ?_⟩
    by_cases hk : k = base + n
    · subst hk
      rw [if_pos (by omega), Nat.add_sub_cancel_left, ← now]
      exact tget_tset_same _ _ _ _
    · refine (tget_tset_ne _ _ _ _ _ _ hk).trans ((slots k).trans ?_)
      exact if_congr (by omega) rfl rfl

/-! ## Rows -/

/-- A write of row `i`. -/
def Core.writeRow (at_ : Nat → Nat) (bytes : Core → Nat → List Byte) (psn : Core → Nat → Bool) (y : Core) (i : Nat) : Core :=
  y.lwrite (at_ i) (bytes y i) (psn y i)

section rows
variable (at_ : Nat → Nat) (bytes : Core → Nat → List Byte) (psn : Core → Nat → Bool) (size : Nat) (x : Core) (clean : x.lPoison = [])
  (hpsn : ∀ y i, y.lPoison = [] → psn y i = false) (hsize : ∀ y i, (bytes y i).length = size)
include clean hpsn

theorem Core.writeRows_sameButBytes (n : Nat) : x.SameButBytes ((List.range n).foldl (Core.writeRow at_ bytes psn) x) :=
  List.foldlRecOn (List.range n) _ (.refl x clean) fun y hy i _ => by
    unfold Core.writeRow
    rw [hpsn y i hy.lPoison]
    exact hy.lwrite _ _

include hsize

omit clean hpsn in
/-- A byte in no row is left. -/
theorem Core.writeRows_out (n q : Nat) (hq : ∀ i, i < n → q < at_ i ∨ at_ i + size ≤ q) :
    mget zeroByte ((List.range n).foldl (Core.writeRow at_ bytes psn) x).lmem q = mget zeroByte x.lmem q := by
  induction n with
  | zero => rfl
  | succ n ih =>
    rw [List.range_succ, List.foldl_append, List.foldl_cons, List.foldl_nil, Core.writeRow, Core.lwrite_lmem,
      mget_msetN_out _ _ _ _ _ (by rw [hsize]; exact hq n (Nat.lt_succ_self n)), ih (fun i hi => hq i (Nat.lt_succ_of_lt hi))]

/-- Rows that do not meet each other, each with bytes that the rows before it do not enter. -/
theorem Core.writeRows_row (n : Nat) (value : Nat → List Byte) (apart : ∀ i j, j < i → i < n → at_ j + size ≤ at_ i ∨ at_ i + size ≤ at_ j)
    (own : ∀ (y : Core) (i : Nat), i < n → x.SameButBytes y →
      (∀ q, (∀ j, j < i → q < at_ j ∨ at_ j + size ≤ q) → mget zeroByte y.lmem q = mget zeroByte x.lmem q) → bytes y i = value i) (i : Nat) (hi : i < n) :
    ((List.range n).foldl (Core.writeRow at_ bytes psn) x).lread (at_ i) size = value i := by
  induction n with
  | zero => omega
  | succ n ih =>
    have before := Core.writeRows_sameButBytes at_ bytes psn x clean hpsn n
    have out := Core.writeRows_out at_ bytes psn size x hsize n
    have row := ih (fun i j hj hi => apart i j hj (by omega)) (fun y i hi => own y i (by omega))
    rw [List.range_succ, List.foldl_append, List.foldl_cons, List.foldl_nil]
    generalize (List.range n).foldl (Core.writeRow at_ bytes psn) x = z at before out row
    rw [Core.lread, Core.writeRow, Core.lwrite_lmem]
    by_cases hn : i = n
    · subst hn
      have written := mgetN_msetN zeroByte z.lmem (at_ i) (bytes z i)
      rw [hsize] at written
      rw [written, own z i hi before (fun q hq => out q hq)]
    · have hlt : i < n := by omega
      rw [← row hlt]
      refine mgetN_congr _ _ _ _ _ fun k hk => mget_msetN_out _ _ _ _ _ ?_
      have := apart n i hlt (Nat.lt_succ_self n)
      rw [hsize]
      omega

end rows

end Sys2Proof.Machine
end


section
/-! O20: statistics of rows, copies of slots, and part records (04 R143, R144; 05 R166, R169). -/

namespace Sys2Proof.Machine

theorem exec_rowstat (c : Fin 144) (w : GenFields) (s : State) : exec (.rowstat c w) s = execRowstat c w s := rfl
theorem exec_rowsvSave (c : Fin 144) (w : GenFields) (s : State) : exec (.rowsvSave c w) s = execRowsvSave c w s := rfl
theorem exec_rowsvRestore (c : Fin 144) (w : GenFields) (s : State) : exec (.rowsvRestore c w) s = execRowsvRestore c w s := rfl
theorem exec_rowcombPart (c : Fin 144) (w : GenFields) (s : State) : exec (.rowcombPart c w) s = execRowcombPart c w s := rfl
theorem exec_rowcombJoin (c : Fin 144) (w : GenFields) (s : State) : exec (.rowcombJoin c w) s = execRowcombJoin c w s := rfl

@[simp] theorem Core.next_lread (x : Core) (a n : Nat) : x.next.lread a n = x.lread a n := rfl

/-- A piece of bytes that pieces of one length make. -/
theorem piece_flatMap (f : Nat → List Byte) (k : Nat) (hf : ∀ i, (f i).length = k) (n i : Nat) (hi : i < n) :
    (((List.range n).flatMap f).drop (k * i)).take k = f i := by
  induction n with
  | zero => omega
  | succ n ih =>
    have length : ((List.range n).flatMap f).length = k * n := by
      rw [List.length_flatMap, List.map_congr_left (fun i _ => hf i)]
      simp [Nat.mul_comm]
    rw [List.range_succ, List.flatMap_append]
    by_cases hn : i = n
    · subst hn
      rw [← length, List.drop_left, List.flatMap_cons, List.flatMap_nil, List.append_nil, ← hf i, List.take_length]
    · have hlt : i < n := by omega
      have room : k * i + k ≤ k * n := by
        rw [← Nat.mul_succ]
        exact Nat.mul_le_mul_left k hlt
      rw [List.drop_append_of_le_length (by omega), List.take_append_of_le_length (by rw [List.length_drop]; omega), ih hlt]

/-- The bytes that ROWSV SAVE stores, read back slot by slot. -/
theorem lread_lwrite_words (x : Core) (a n i : Nat) (v : Nat → Word) (p : Bool) (hi : i < n) :
    leNat ((x.lwrite a ((List.range n).flatMap (fun i => leBytes (v i).toNat 8)) p).lread (a + 8 * i) 8) = (v i).toNat := by
  have length : ((List.range n).flatMap (fun i => leBytes (v i).toNat 8)).length = 8 * i + (8 + 8 * (n - i - 1)) := by
    rw [List.length_flatMap, List.map_congr_left (fun i _ => length_leBytes _ _)]
    simp
    omega
  have all := mgetN_msetN zeroByte x.lmem a ((List.range n).flatMap (fun i => leBytes (v i).toNat 8))
  have piece := piece_flatMap (fun i => leBytes (v i).toNat 8) 8 (fun i => length_leBytes _ _) n i hi
  rw [← all, length, drop_mgetN, take_mgetN] at piece
  rw [Core.lread, Core.lwrite_lmem, piece, leNat_leBytes]
  exact Nat.mod_eq_of_lt (v i).isLt

theorem length_partRecord (fmt : Nat) (l : List FVal) : (partRecord fmt l).length = 64 := by
  unfold partRecord
  simp only [List.length_append, length_leBytes, List.length_replicate]

/-- A row reads alike where its bytes do. -/
theorem Core.rowAt_congr (x y : Core) (r : RowRec) (a : Nat)
    (h : ∀ q, a ≤ q → q < a + r.rowLen → mget zeroByte y.lmem q = mget zeroByte x.lmem q) : y.rowAt r a = x.rowAt r a := by
  unfold Core.rowAt Core.lread
  rw [mgetN_congr zeroByte y.lmem x.lmem _ _ (fun i hi => h _ (by omega) (by unfold RowRec.rowLen; omega))]

/-- The side memory holds two FP32 values as bits. -/
def pairBits (v : FVal × FVal) : Word := BitVec.ofNat 64 (v.1.bits32 + 2 ^ 32 * v.2.bits32)

/-- A core that took an instruction has another PC than a core that did not. -/
theorem pc_moves (pc : Word) : pc + 16 ≠ pc := by
  intro h
  have : (16 : Word) = 0 := by
    calc (16 : Word) = pc + 16 - pc := by ring
      _ = 0 := by rw [h]; exact BitVec.sub_self pc
  exact absurd this (by decide)

/-- What O20 says of an instruction that writes slots; statistics may have been counted. -/
theorem slots_left (s : State) (c : Fin 144) (base n : Nat) (v : Nat → Word) (y : Core) (t : State)
    (ht : { t with obj := (s.fetch c).obj } = (s.fetch c).setCore c y.next)
    (hy : y = { (s.core c).go with side := y.side } ∧ ∀ k, tget 0 y.side k = if base ≤ k ∧ k < base + n then v (k - base) else tget 0 (s.core c).side k) :
    { t with obj := (s.fetch c).obj } = (s.fetch c).setCore c { (s.core c).go with side := (t.core c).side, pc := (s.core c).pc + 16 } ∧
    ∀ i, tget 0 (t.core c).side i = if base ≤ i ∧ i < base + n then v (i - base) else tget 0 (s.core c).side i := by
  have core : t.core c = y.next := (congrArg (State.core · c) ht :).trans (State.core_setCore _ _ _ c.isLt)
  rw [core]
  exact ⟨ht.trans (congrArg (fun z : Core => (s.fetch c).setCore c z.next) hy.1), hy.2⟩

/-- A write of bytes changes the bytes and the poison of local memory alone. -/
theorem Core.lwrite_local (x : Core) (a : Nat) (b : List Byte) (p : Bool) :
    x.lwrite a b p = { x with lmem := (x.lwrite a b p).lmem, lPoison := (x.lwrite a b p).lPoison } := by
  rw [Core.lwrite_lmem]
  exact x.lwrite_frame a b p

/-- What O20 says of an instruction that stores bytes. -/
theorem stores_left (s : State) (c : Fin 144) (l : List (Nat × Nat)) (y : Core) (t : State) (ht : t = (s.fetch c).setCore c y.next)
    (hy : y = { (s.core c).go with lmem := y.lmem, lPoison := y.lPoison })
    (out : ∀ p, (∀ q ∈ l, p < q.1 ∨ q.1 + q.2 ≤ p) → mget zeroByte y.lmem p = mget zeroByte (s.core c).lmem p) :
    t = (s.fetch c).setCore c { (s.core c).go with lmem := (t.core c).lmem, lPoison := (t.core c).lPoison, pc := (s.core c).pc + 16 } ∧
    ∀ p, (∀ q ∈ l, p < q.1 ∨ q.1 + q.2 ≤ p) → mget zeroByte (t.core c).lmem p = mget zeroByte (s.core c).lmem p := by
  have core : t.core c = y.next := by
    rw [ht]
    exact State.core_setCore _ _ _ c.isLt
  rw [core]
  exact ⟨ht.trans (congrArg (fun z : Core => (s.fetch c).setCore c z.next) hy), out⟩

section join
variable (s : State) (c : Fin 144) (w : GenFields) (h : s.fresh c) (quiet : (s.core c).ranges = []) (hu : ({ a := true } : Uses).bad w = false)
  (r : RowRec) (hr : r = (s.core c).rowBlock w) (j : Option (FVal × FVal) × Nat)
  (hj : j = joinSlot (chunks 64 ((s.core c).lread r.y (64 * r.rows))) (f32 r.eps))
  (passes : codes (rowCodes ((s.core c).s w.a.toNat).toNat ((s.core c).lread ((s.core c).s w.a.toNat).toNat 64) r
    { reads := [(r.y, 64 * r.rows)], len := false, xPitch := false, slots := 1 }) = [])
include h quiet hu hr hj passes

/-- ROWCOMB JOIN: the slot, or the code of a rejected combination, and the count of misfits. -/
theorem execRowcombJoin_joins (hf : w.func.toNat ≤ 1) : execRowcombJoin c w s = .next (((s.fetch c).setCore c
    (j.1.elim (s.core c).go.combineOver ((s.core c).go.setSlot r.slot)).next).bump 0x3103 5 j.2) := by
  have block : rowRecOf ((s.core c).lread ((s.core c).s w.a.toNat).toNat 64) = r := hr.symm
  subst hr
  unfold execRowcombJoin
  dsimp only
  rw [block, ← hj, State.rowIssue_runs s c 0x53 w 1 2
    (fun r => { reads := [(r.y, 64 * r.rows)], len := false, xPitch := false, slots := 1 }) _ h quiet hu passes (by omega) (by omega) (by omega)]
  have moved : (((s.fetch c).setCore c (j.1.elim (s.core c).go.combineOver ((s.core c).go.setSlot ((s.core c).rowBlock w).slot)).next).core c).pc ≠ (s.core c).pc := by
    rw [State.core_setCore _ _ _ c.isLt]
    cases j.1 <;> exact pc_moves _
  cases hj1 : j.1 with
  | none => rw [hj1] at moved; exact congrArg _ (if_neg moved)
  | some v => rw [hj1] at moved; exact congrArg _ (if_neg moved)

omit hj in
theorem execRowcombJoin_reserved (hf : 2 ≤ w.func.toNat) : execRowcombJoin c w s = .next ((s.fetch c).coreFault c 0x03 (genWord 0x53 w) 0) := by
  subst hr
  unfold execRowcombJoin
  dsimp only
  rw [State.rowIssue_reserved s c 0x53 w 1 2
    (fun r => { reads := [(r.y, 64 * r.rows)], len := false, xPitch := false, slots := 1 }) _ h quiet hu passes hf]
  refine congrArg _ (if_pos ?_)
  rw [State.coreFault_core _ _ c.isLt, State.fetch_core]
  rfl

end join

section rows
variable (s : State) (c : Fin 144) (w : GenFields) (h : s.fresh c) (quiet : (s.core c).ranges = []) (hu : ({ a := true } : Uses).bad w = false)
include h quiet hu

theorem execRowstat_writes (hf : w.func.toNat ≤ 2) (r : RowRec) (hr : r = (s.core c).rowBlock w) (passes : codes (rowCodes ((s.core c).s w.a.toNat).toNat
      ((s.core c).lread ((s.core c).s w.a.toNat).toNat 64) r { reads := r.rowsAt r.x r.xPitch r.rowLen, slots := r.rows }) = []) :
    execRowstat c w s = .next ((s.fetch c).setCore c ((List.range r.rows).foldl (Core.writeSlot r.slot (fun y i =>
      pairBits (rowStat w.func.toNat r.fmt (y.rowAt r (r.x + i * r.xPitch)) (f32 r.eps)))) (s.core c).go).next) := by
  subst hr
  unfold execRowstat
  dsimp only
  rw [State.rowIssue_runs s c 0x50 w w.func.toNat 3 (fun r => { reads := r.rowsAt r.x r.xPitch r.rowLen, slots := r.rows }) _ h quiet hu passes (by omega)
    (by omega) (by omega)]
  rfl

theorem execRowstat_reserved (hf : 3 ≤ w.func.toNat) (r : RowRec) (hr : r = (s.core c).rowBlock w) (passes : codes (rowCodes ((s.core c).s w.a.toNat).toNat
      ((s.core c).lread ((s.core c).s w.a.toNat).toNat 64) r { reads := r.rowsAt r.x r.xPitch r.rowLen, slots := r.rows }) = []) :
    execRowstat c w s = .next ((s.fetch c).coreFault c 0x03 (genWord 0x50 w) 0) := by
  subst hr
  unfold execRowstat
  dsimp only
  rw [State.rowIssue_reserved s c 0x50 w w.func.toNat 3 (fun r => { reads := r.rowsAt r.x r.xPitch r.rowLen, slots := r.rows }) _ h quiet hu passes hf]

theorem execRowsvSave_stores (hf : w.func.toNat ≤ 1) (r : RowRec) (hr : r = (s.core c).rowBlock w) (passes : codes (rowCodes ((s.core c).s w.a.toNat).toNat
      ((s.core c).lread ((s.core c).s w.a.toNat).toNat 64) r { writes := [(r.x, 8 * r.rows)], len := false, xPitch := false, slots := r.rows }) = []) :
    execRowsvSave c w s = .next ((s.fetch c).setCore c ((s.core c).go.lwrite r.x
      ((List.range r.rows).flatMap (fun i => leBytes (tget 0 (s.core c).side (r.slot + i)).toNat 8)) false).next) := by
  subst hr
  unfold execRowsvSave
  rw [State.rowIssue_runs s c 0x54 w 0 2 (fun r => { writes := [(r.x, 8 * r.rows)], len := false, xPitch := false, slots := r.rows }) _ h quiet hu passes
    (by omega) (by omega) (by omega)]
  rfl

theorem execRowsvRestore_writes (hf : w.func.toNat ≤ 1) (r : RowRec) (hr : r = (s.core c).rowBlock w) (passes : codes (rowCodes ((s.core c).s w.a.toNat).toNat
      ((s.core c).lread ((s.core c).s w.a.toNat).toNat 64) r { reads := [(r.x, 8 * r.rows)], len := false, xPitch := false, slots := r.rows }) = []) :
    execRowsvRestore c w s = .next ((s.fetch c).setCore c ((List.range r.rows).foldl (Core.writeSlot r.slot (fun y i =>
      BitVec.ofNat 64 (leNat (y.lread (r.x + 8 * i) 8)))) (s.core c).go).next) := by
  subst hr
  unfold execRowsvRestore
  rw [State.rowIssue_runs s c 0x54 w 1 2 (fun r => { reads := [(r.x, 8 * r.rows)], len := false, xPitch := false, slots := r.rows }) _ h quiet hu passes
    (by omega) (by omega) (by omega)]
  rfl

theorem execRowcombPart_stores (hf : w.func.toNat ≤ 1) (r : RowRec) (hr : r = (s.core c).rowBlock w) (passes : codes (rowCodes ((s.core c).s w.a.toNat).toNat
      ((s.core c).lread ((s.core c).s w.a.toNat).toNat 64) r
      { reads := r.rowsAt r.x r.xPitch r.rowLen, writes := r.rowsAt r.y r.yPitch 64, yPitch := true }) = []) :
    execRowcombPart c w s = .next ((s.fetch c).setCore c ((List.range r.rows).foldl (Core.writeRow (fun i => r.y + i * r.yPitch)
      (fun y i => partRecord r.fmt (y.rowAt r (r.x + i * r.xPitch))) (fun y i => y.lpoison (r.x + i * r.xPitch) r.rowLen)) (s.core c).go).next) := by
  subst hr
  unfold execRowcombPart
  rw [State.rowIssue_runs s c 0x53 w 0 2 (fun r => { reads := r.rowsAt r.x r.xPitch r.rowLen, writes := r.rowsAt r.y r.yPitch 64, yPitch := true }) _ h quiet hu
    passes (by omega) (by omega) (by omega)]
  rfl

end rows

/-- Without a poisoned line no byte is poisoned. -/
theorem Core.lpoison_none (x : Core) (h : x.lPoison = []) (a n : Nat) : x.lpoison a n = false := by simp [Core.lpoison, h]

/-- A place outside every row of an array. -/
theorem RowRec.out_of_rowsAt (r : RowRec) (a pitch n q : Nat) (hq : ∀ e ∈ r.rowsAt a pitch n, q < e.1 ∨ e.1 + e.2 ≤ q) (i : Nat) (hi : i < r.rows) :
    q < a + i * pitch ∨ a + i * pitch + n ≤ q := hq (a + i * pitch, n) (List.mem_map.mpr ⟨i, List.mem_range.mpr hi, rfl⟩)

/-- The rows of ROWCOMB PART: every byte outside them, and each row when they meet no other one and no later row of X. -/
theorem partRows_left (x : Core) (r : RowRec) (clean : x.lPoison = []) :
    let y := (List.range r.rows).foldl (Core.writeRow (fun i => r.y + i * r.yPitch)
      (fun y i => partRecord r.fmt (y.rowAt r (r.x + i * r.xPitch))) (fun y i => y.lpoison (r.x + i * r.xPitch) r.rowLen)) x
    y = { x with lmem := y.lmem, lPoison := y.lPoison } ∧
    (∀ p, (∀ q ∈ r.rowsAt r.y r.yPitch 64, p < q.1 ∨ q.1 + q.2 ≤ p) → mget zeroByte y.lmem p = mget zeroByte x.lmem p) ∧
    ((∀ i j, j < i → i < r.rows → r.y + j * r.yPitch + 64 ≤ r.y + i * r.yPitch ∧
        (r.y + j * r.yPitch + 64 ≤ r.x + i * r.xPitch ∨ r.x + i * r.xPitch + r.rowLen ≤ r.y + j * r.yPitch)) →
      ∀ i, i < r.rows → y.lread (r.y + i * r.yPitch) 64 = partRecord r.fmt (x.rowAt r (r.x + i * r.xPitch))) := by
  intro y
  have unpoisoned : ∀ (y : Core) (i : Nat), y.lPoison = [] → y.lpoison (r.x + i * r.xPitch) r.rowLen = false := fun y i hy => y.lpoison_none hy _ _
  have frame := Core.writeRows_sameButBytes (fun i => r.y + i * r.yPitch) (fun y i => partRecord r.fmt (y.rowAt r (r.x + i * r.xPitch)))
    (fun y i => y.lpoison (r.x + i * r.xPitch) r.rowLen) x clean unpoisoned r.rows
  refine ⟨?_, fun p hp => ?_, fun apart i hi => ?_⟩
  · have same := frame.1
    have poison := frame.lPoison.trans clean.symm
    exact same.trans (congrArg (fun l => ({ x with lmem := y.lmem, lPoison := l } : Core)) poison.symm)
  · exact Core.writeRows_out _ _ _ 64 x (fun y i => length_partRecord _ _) r.rows p (fun i hi => r.out_of_rowsAt r.y r.yPitch 64 p hp i hi)
  · refine Core.writeRows_row _ _ _ 64 x clean unpoisoned (fun y i => length_partRecord _ _) r.rows
      (fun i => partRecord r.fmt (x.rowAt r (r.x + i * r.xPitch))) (fun i j hj hi => .inl (apart i j hj hi).1) (fun z i hi _ hz => ?_) i hi
    refine congrArg (partRecord r.fmt) (x.rowAt_congr z r _ fun q hlo hhi => hz q fun j hj => ?_)
    have := (apart i j hj hi).2
    omega

/-- Settles O20: slots and rows written one after another. -/
theorem rowStatistics : Obligations.RowStatistics := by
  unfold Obligations.RowStatistics
  intro s c w h quiet hu g x a b r pair slots stores
  refine ⟨fun hf passes => ?_, fun hf passes => ?_, fun hf passes => ?_, fun hf passes => ?_, ?_,
    fun hf passes => (exec_rowstat c w s).trans (execRowstat_reserved s c w h quiet hu hf r rfl passes),
    fun hf passes => (exec_rowcombJoin c w s).trans (execRowcombJoin_reserved s c w h quiet hu r rfl passes hf)⟩
  · have written := Core.writeSlots r.slot (fun y i => pairBits (rowStat w.func.toNat r.fmt (y.rowAt r (r.x + i * r.xPitch)) (f32 r.eps))) x.go
      (fun _ _ => rfl) r.rows
    have row := (exec_rowstat c w s).trans (execRowstat_writes s c w h quiet hu hf r rfl passes)
    exact ⟨_, row, slots_left s c r.slot r.rows (fun i => pair (rowStat w.func.toNat r.fmt (x.rowAt r (r.x + i * r.xPitch)) (f32 r.eps))) _ _ rfl written⟩
  · refine ⟨_, (exec_rowsvSave c w s).trans (execRowsvSave_stores s c w h quiet hu hf r rfl passes), stores_left s c _ _ _ rfl ?_ (fun p hp => ?_),
      fun i hi => ?_⟩
    · exact Core.lwrite_local _ _ _ _
    · have length : ((List.range r.rows).flatMap (fun i => leBytes (tget 0 x.side (r.slot + i)).toNat 8)).length = 8 * r.rows := by
        rw [List.length_flatMap, List.map_congr_left (fun i _ => length_leBytes _ _)]
        simp [Nat.mul_comm]
      rw [Core.lwrite_lmem, mget_msetN_out _ _ _ _ _ (by rw [length]; exact hp _ List.mem_cons_self)]
      rfl
    · rw [State.core_setCore _ _ _ c.isLt, Core.next_lread]
      exact lread_lwrite_words x.go r.x r.rows i (fun i => tget 0 x.side (r.slot + i)) false hi
  · exact ⟨_, (exec_rowsvRestore c w s).trans (execRowsvRestore_writes s c w h quiet hu hf r rfl passes),
      slots_left s c r.slot r.rows (fun i => BitVec.ofNat 64 (leNat (x.lread (r.x + 8 * i) 8))) _ _ rfl
        (Core.writeSlots r.slot _ x.go (fun t i => rfl) r.rows)⟩
  · obtain ⟨frame, out, rows⟩ := partRows_left x.go r h.2.2.2
    have row := (exec_rowcombPart c w s).trans (execRowcombPart_stores s c w h quiet hu hf r rfl passes)
    have left := stores_left s c (r.rowsAt r.y r.yPitch 64) _ _ rfl frame out
    refine ⟨_, row, left, fun apart i hi => ?_⟩
    rw [State.core_setCore _ _ _ c.isLt, Core.next_lread]
    exact rows apart i hi
  · intro hf passes j
    have row := (exec_rowcombJoin c w s).trans (execRowcombJoin_joins s c w h quiet hu r rfl j rfl passes hf)
    refine ⟨fun v hv => ?_, fun hnone => ?_⟩
    · rw [hv] at row
      exact ⟨_, row, slots_left s c r.slot 1 (fun _ => pair v) _ _ rfl (Core.writeSlots r.slot (fun _ _ => pairBits v) x.go (fun _ _ => rfl) 1)⟩
    · rw [hnone] at row
      exact ⟨_, row, rfl⟩

end Sys2Proof.Machine
end


section
/-! O21: normalised rows, input gradients and the sums of the gain and bias gradients (04 R144; 05 R166, R167; 02 R49). -/

namespace Sys2Proof.Machine

theorem exec_rowapply (c : Fin 144) (w : GenFields) (s : State) : exec (.rowapply c w) s = execRowapply c w s := rfl
theorem exec_rowbwd (c : Fin 144) (w : GenFields) (s : State) : exec (.rowbwd c w) s = execRowbwd c w s := rfl

/-! ## Lengths of rows -/

theorem length_chunksAux {α : Type} (n : Nat) (hn : 0 < n) (k m : Nat) (l : List α) (hl : l.length = m * n) (hk : m ≤ k) : (chunksAux n k l).length = m := by
  induction k generalizing m l with
  | zero =>
    obtain rfl : m = 0 := by omega
    rfl
  | succ k ih =>
    unfold chunksAux
    cases m with
    | zero =>
      obtain rfl : l = [] := List.length_eq_zero_iff.mp (by simpa using hl)
      rfl
    | succ m =>
      rw [Nat.succ_mul] at hl
      have some_ : l.isEmpty = false := by
        rw [Bool.eq_false_iff, ne_eq, List.isEmpty_iff, ← List.length_eq_zero_iff]
        omega
      rw [some_, if_neg Bool.false_ne_true, List.length_cons, ih m _ (by rw [List.length_drop]; omega) (by omega)]

theorem typeBytes_pos (t : Nat) : 0 < typeBytes t := by
  unfold typeBytes
  split
  · omega
  · split <;> omega

theorem Core.length_rowAt (x : Core) (r : RowRec) (a : Nat) : (x.rowAt r a).length = r.len := by
  unfold Core.rowAt chunks
  rw [List.length_map]
  exact length_chunksAux _ (typeBytes_pos _) _ _ _ (by rw [Core.lread, length_mgetN]) (by
    rw [Core.lread, length_mgetN]
    exact Nat.le_mul_of_pos_right _ (typeBytes_pos _))

theorem length_rowStore (r : RowRec) (l : List FVal) : (rowStore r l).length = l.length * typeBytes r.fmt := by
  unfold rowStore
  rw [List.length_flatMap, List.map_congr_left (fun v _ => length_leBytes _ _), List.map_const', List.sum_replicate, smul_eq_mul]

theorem length_rowXh (form : Nat) (x : List FVal) (a b : FVal) : (rowXh form x a b).length = x.length := by
  unfold rowXh
  split <;> rw [List.length_map]

theorem length_rowApply (form : Nat) (x : List FVal) (a b : FVal) (gain bias : Nat → FVal) : (rowApply form x a b gain bias).length = x.length := by
  unfold rowApply
  split
  · exact List.length_map _
  · split
    · split
      · exact List.length_map _
      · split
        · exact List.length_map _
        · exact List.length_map _
    · rw [List.length_map, List.length_zipIdx, length_rowXh]

theorem length_rowBwd (form : Nat) (x dy : List FVal) (a b : FVal) (gain : Option (Nat → FVal)) (h : dy.length = x.length) :
    (rowBwd form x dy a b gain).length = x.length := by
  have zips : (x.zip dy).length = x.length := by rw [List.length_zip, h, Nat.min_self]
  unfold rowBwd
  dsimp only
  split
  · split
    · exact List.length_map _
    · rw [List.length_map, zips]
  · have same : ∀ l : List FVal, l.length = x.length → ((rowXh form x a b).zip l).length = x.length := fun l hl => by
      rw [List.length_zip, hl, length_rowXh, Nat.min_self]
    cases gain with
    | none => split <;> rw [List.length_map, same _ h]
    | some g => split <;> rw [List.length_map, same _ (by rw [List.length_map, List.length_zipIdx, h])]

/-! ## What a row takes of gain and bias -/

theorem map_zipIdx_congr {α β : Type} (l : List α) (f g : α × Nat → β) (h : ∀ e : α × Nat, e.2 < l.length → f e = g e) : l.zipIdx.map f = l.zipIdx.map g := by
  refine List.map_congr_left fun e he => h e ?_
  have := List.snd_lt_of_mem_zipIdx he
  omega

/-- A normalisation takes the gain and bias of its elements, and only when it is no softmax. -/
theorem rowApply_congr (form : Nat) (x : List FVal) (a b : FVal) (gain gain' bias bias' : Nat → FVal) (hform : form ≤ 2)
    (hgain : form < 2 → ∀ k, k < x.length → gain k = gain' k) (hbias : form < 2 → ∀ k, k < x.length → bias k = bias' k) :
    rowApply form x a b gain bias = rowApply form x a b gain' bias' := by
  unfold rowApply
  by_cases h2 : form = 2
  · simp only [h2, if_true]
  · have h : form < 2 := by omega
    simp only [h2, if_false]
    rw [map_zipIdx_congr _ _ _ (fun e he => ?_)]
    rw [length_rowXh] at he
    rw [hgain h _ he, hbias h _ he]

/-- A backward row takes the gain of its elements, and only when it is no softmax. -/
theorem rowBwd_congr (form : Nat) (x dy : List FVal) (a b : FVal) (on : Bool) (gain gain' : Nat → FVal) (hform : form ≤ 2)
    (hgain : form < 2 → on = true → ∀ k, k < dy.length → gain k = gain' k) :
    rowBwd form x dy a b (if on then some gain else none) = rowBwd form x dy a b (if on then some gain' else none) := by
  unfold rowBwd
  by_cases h2 : form = 2
  · simp only [h2, if_true]
  · have h : form < 2 := by omega
    cases on with
    | false => rfl
    | true =>
      have same : (dy.zipIdx).map (fun p => (p.1.mul (gain p.2)).f) = (dy.zipIdx).map (fun p => (p.1.mul (gain' p.2)).f) :=
        map_zipIdx_congr _ _ _ fun e he => by rw [hgain h rfl _ he]
      simp only [h2, if_false, if_true, same]

/-- An element of an array reads alike where its bytes do. -/
theorem Core.f32At_congr (x y : Core) (a k n : Nat) (hk : k < n) (h : ∀ q, a ≤ q → q < a + 4 * n → mget zeroByte y.lmem q = mget zeroByte x.lmem q) :
    y.f32At a k = x.f32At a k := by
  unfold Core.f32At Core.lread
  rw [mgetN_congr zeroByte y.lmem x.lmem _ _ (fun i hi => h _ (by omega) (by omega))]

/-! ## Combined sums -/

/-- The stored value of a sum after its combination: the combined one, or the old one when the combination is rejected (02 R49). -/
def Core.combined (x : Core) (g : Nat × Win) : Nat :=
  match combine [Win.ofXa80 (leNat (x.lread g.1 16)), g.2] with
  | some v => v.1.xa80 % 2 ^ 128
  | none => leNat (x.lread g.1 16)

/-- Whether the combination of a sum is rejected. -/
def Core.rejects (x : Core) (g : Nat × Win) : Bool := (combine [Win.ofXa80 (leNat (x.lread g.1 16)), g.2]).isNone

/-- A core that differs from another in the bytes of its local memory and ASYNC alone, both without poison there. -/
def Core.SameButSums (x y : Core) : Prop := y = { x with lmem := y.lmem, async := y.async } ∧ x.lPoison = []

theorem Core.SameButSums.lPoison {x y : Core} (h : x.SameButSums y) : y.lPoison = [] := (congrArg Core.lPoison h.1 :).trans h.2

theorem Core.SameButSums.trans {x y z : Core} (h : x.SameButSums y) (h' : y.SameButSums z) : x.SameButSums z :=
  ⟨h'.1.trans (congrArg (fun u : Core => { u with lmem := z.lmem, async := z.async }) h.1 :), h.2⟩

/-- One combination: its frame, what it leaves of the bytes, the stored value and ASYNC. -/
theorem Core.xaAdd_left (x : Core) (g : Nat × Win) (h : x.lPoison = []) :
    x.SameButSums (x.xaAdd g.1 g.2 false) ∧
    (∀ q, q < g.1 ∨ g.1 + 16 ≤ q → mget zeroByte (x.xaAdd g.1 g.2 false).lmem q = mget zeroByte x.lmem q) ∧
    leNat ((x.xaAdd g.1 g.2 false).lread g.1 16) = x.combined g ∧
    (x.xaAdd g.1 g.2 false).async = if x.rejects g then x.async ||| 1 else x.async := by
  unfold Core.xaAdd Core.combined Core.rejects
  cases combine [Win.ofXa80 (leNat (x.lread g.1 16)), g.2] with
  | none => exact ⟨⟨rfl, h⟩, fun q _ => rfl, rfl, rfl⟩
  | some v =>
    have stored := mgetN_msetN zeroByte x.lmem g.1 (leBytes v.1.xa80 16)
    rw [length_leBytes] at stored
    simp only [Core.lpoison_none _ h, Bool.or_false, Core.lwrite_unpoisoned _ _ _ h, Option.isNone_some, Bool.false_eq_true, if_false]
    refine ⟨⟨rfl, h⟩, fun q hq => mget_msetN_out _ _ _ _ _ (by rwa [length_leBytes]), ?_, trivial⟩
    rw [Core.lread, stored, leNat_leBytes]
    rfl

/-- Two sums that do not meet. -/
def SumsApart (a b : Nat × Win) : Prop := a.1 + 16 ≤ b.1 ∨ b.1 + 16 ≤ a.1

/-- Combinations one after another change the bytes of their sums and ASYNC alone. -/
theorem Core.xaAdds_frame (l : List (Nat × Win)) (x : Core) (h : x.lPoison = []) :
    x.SameButSums (l.foldl (fun y p => y.xaAdd p.1 p.2 false) x) ∧
    ∀ q, (∀ g ∈ l, q < g.1 ∨ g.1 + 16 ≤ q) → mget zeroByte (l.foldl (fun y p => y.xaAdd p.1 p.2 false) x).lmem q = mget zeroByte x.lmem q := by
  induction l generalizing x with
  | nil => exact ⟨⟨rfl, h⟩, fun _ _ => rfl⟩
  | cons g r ih =>
    obtain ⟨frame, out, -, -⟩ := x.xaAdd_left g h
    obtain ⟨frame', out'⟩ := ih (x.xaAdd g.1 g.2 false) frame.lPoison
    exact ⟨frame.trans frame', fun q hq => (out' q (fun e he => hq e (List.mem_cons_of_mem _ he))).trans (out q (hq g List.mem_cons_self))⟩

/-- Sums that do not meet, combined one after another. -/
theorem Core.xaAdds_values (l : List (Nat × Win)) (x : Core) (h : x.lPoison = []) (apart : l.Pairwise SumsApart) :
    (∀ g ∈ l, leNat ((l.foldl (fun y p => y.xaAdd p.1 p.2 false) x).lread g.1 16) = x.combined g) ∧
    (l.foldl (fun y p => y.xaAdd p.1 p.2 false) x).async = if l.any x.rejects then x.async ||| 1 else x.async := by
  induction l generalizing x with
  | nil => exact ⟨nofun, rfl⟩
  | cons g r ih =>
    obtain ⟨first, rest⟩ := List.pairwise_cons.mp apart
    obtain ⟨frame, out, value, async⟩ := x.xaAdd_left g h
    simp only [List.foldl_cons]
    generalize x.xaAdd g.1 g.2 false = y at frame out value async
    obtain ⟨values', async'⟩ := ih y frame.lPoison rest
    have out' := (Core.xaAdds_frame r y frame.lPoison).2
    have reads : ∀ e ∈ r, y.lread e.1 16 = x.lread e.1 16 := fun e he => mgetN_congr _ _ _ _ _ fun i hi => out _ (by
      have := first e he
      unfold SumsApart at this
      omega)
    have any_ : r.any y.rejects = r.any x.rejects := by
      rw [Bool.eq_iff_iff, List.any_eq_true, List.any_eq_true]
      exact exists_congr fun e => and_congr_right fun he => by unfold Core.rejects; rw [reads e he]
    refine ⟨fun e he => ?_, ?_⟩
    · rcases List.mem_cons.mp he with rfl | he
      · rw [← value]
        exact congrArg leNat (mgetN_congr _ _ _ _ _ fun i hi => out' _ fun e' he' => by
          have := first e' he'
          unfold SumsApart at this
          omega)
      · rw [values' e he]
        unfold Core.combined
        rw [reads e he]
    · rw [async', any_, async, List.any_cons]
      cases x.rejects g <;> cases r.any x.rejects <;> simp [BitVec.or_assoc]

/-! ## The sums of ROWBWD -/

/-- Whether two ranges of (start, length) share a byte. -/
def RangesMeet (p q : Nat × Nat) : Prop := p.1 < q.1 + q.2 ∧ q.1 < p.1 + p.2

/-- The sums of one array of gradients. -/
theorem sums_apart (base n : Nat) (value : Nat → Win) : ((List.range n).map (fun k => (base + 16 * k, value k))).Pairwise SumsApart := by
  rw [List.pairwise_map]
  exact List.pairwise_lt_range.imp fun {i j} hij => Or.inl (by dsimp only; omega)

/-- Every sum lies in the arrays that the form updates. -/
theorem Core.gradSums_inside (x : Core) (r : RowRec) (form : Nat) (hform : form ≤ 2) (g : Nat × Win) (hg : g ∈ x.gradSums r form) :
    ∃ q ∈ r.sumRanges form, q.1 ≤ g.1 ∧ g.1 + 16 ≤ q.1 + q.2 := by
  unfold Core.gradSums at hg
  dsimp only at hg
  split at hg
  · exact absurd hg List.not_mem_nil
  · next h2 =>
    have h : form < 2 := by omega
    rcases List.mem_append.mp hg with hg | hg
    · split at hg
      · next on =>
        obtain ⟨k, hk, rfl⟩ := List.mem_map.mp hg
        have hk := List.mem_range.mp hk
        exact ⟨(r.dgain, 16 * r.len), List.mem_append_left _ (by simp [h, on]), by dsimp only; omega, by dsimp only; omega⟩
      · exact absurd hg List.not_mem_nil
    · split at hg
      · next on =>
        obtain ⟨k, hk, rfl⟩ := List.mem_map.mp hg
        have hk := List.mem_range.mp hk
        exact ⟨(r.dbias, 16 * r.len), List.mem_append_right _ (by simp [h, on]), by dsimp only; omega, by dsimp only; omega⟩
      · exact absurd hg List.not_mem_nil

/-- The sums do not meet when the two arrays do not. -/
theorem Core.gradSums_apart (x : Core) (r : RowRec) (form : Nat) (h : ¬RangesMeet (r.dgain, 16 * r.len) (r.dbias, 16 * r.len)) :
    (x.gradSums r form).Pairwise SumsApart := by
  unfold Core.gradSums
  dsimp only
  split
  · exact .nil
  · refine List.pairwise_append.mpr ⟨?_, ?_, fun a ha b hb => ?_⟩
    · split
      · exact sums_apart _ _ _
      · exact .nil
    · split
      · exact sums_apart _ _ _
      · exact .nil
    · split at ha
      · split at hb
        · obtain ⟨i, hi, rfl⟩ := List.mem_map.mp ha
          obtain ⟨j, hj, rfl⟩ := List.mem_map.mp hb
          have hi := List.mem_range.mp hi
          have hj := List.mem_range.mp hj
          unfold RangesMeet at h
          unfold SumsApart
          dsimp only at h ⊢
          omega
        · exact absurd hb List.not_mem_nil
      · exact absurd ha List.not_mem_nil

/-! ## Rows of Y -/

/-- The rows of Y meet no other row of Y, no later row of X or dY, and none of some ranges. -/
def RowRec.Clear (r : RowRec) (l : List (Nat × Nat)) : Prop := ∀ i, i < r.rows →
  (∀ q ∈ l, ¬RangesMeet (r.y + i * r.yPitch, r.rowLen) q) ∧
  ∀ j, j < i → ¬RangesMeet (r.y + j * r.yPitch, r.rowLen) (r.y + i * r.yPitch, r.rowLen) ∧
    ¬RangesMeet (r.y + j * r.yPitch, r.rowLen) (r.x + i * r.xPitch, r.rowLen) ∧ ¬RangesMeet (r.y + j * r.yPitch, r.rowLen) (r.dy + i * r.xPitch, r.rowLen)

/-- A range that a row of Y does not meet is left by what leaves everything outside earlier rows. -/
theorem RangesMeet.left {x y : Core} {r : RowRec} {i a n : Nat} (hn : ∀ j, j < i → ¬RangesMeet (r.y + j * r.yPitch, r.rowLen) (a, n))
    (h : ∀ q, (∀ j, j < i → q < r.y + j * r.yPitch ∨ r.y + j * r.yPitch + r.rowLen ≤ q) → mget zeroByte y.lmem q = mget zeroByte x.lmem q) :
    ∀ q, a ≤ q → q < a + n → mget zeroByte y.lmem q = mget zeroByte x.lmem q := fun q hlo hhi => h q fun j hj => by
  have := hn j hj
  unfold RangesMeet at this
  dsimp only at this
  omega

theorem Core.anyPoison_none (x : Core) (h : x.lPoison = []) (l : List (Nat × Nat)) : x.anyPoison l = false := by
  simp [Core.anyPoison, Core.lpoison_none _ h]

/-- The row that ROWAPPLY writes. -/
def Core.applyRow (f : Nat) (r : RowRec) (y : Core) (i : Nat) : List Byte :=
  rowStore r (rowApply f (y.rowAt r (r.x + i * r.xPitch)) (y.slotVals (r.slot + i)).1 (y.slotVals (r.slot + i)).2
    (fun k => if r.gainEn then y.f32At r.gain k else natVal 1) (fun k => if r.biasEn then y.f32At r.bias k else .zero))

theorem Core.length_applyRow (f : Nat) (r : RowRec) (y : Core) (i : Nat) : (y.applyRow f r i).length = r.rowLen := by
  unfold Core.applyRow
  rw [length_rowStore, length_rowApply, Core.length_rowAt]
  rfl

/-- The row that ROWBWD writes. -/
def Core.bwdRow (f : Nat) (r : RowRec) (y : Core) (i : Nat) : List Byte :=
  rowStore r (rowBwd f (y.rowAt r (r.x + i * r.xPitch)) (y.rowAt r (r.dy + i * r.xPitch)) (y.slotVals (r.slot + i)).1 (y.slotVals (r.slot + i)).2
    (if r.gainEn then some (fun k => y.f32At r.gain k) else none))

theorem Core.length_bwdRow (f : Nat) (r : RowRec) (y : Core) (i : Nat) : (y.bwdRow f r i).length = r.rowLen := by
  unfold Core.bwdRow
  rw [length_rowStore, length_rowBwd _ _ _ _ _ _ (by rw [Core.length_rowAt, Core.length_rowAt]), Core.length_rowAt]
  rfl

section own
variable (x y : Core) (r : RowRec) (f i : Nat) (hf : f ≤ 2) (hi : i < r.rows) (same : x.SameButBytes y)
  (left : ∀ q, (∀ j, j < i → q < r.y + j * r.yPitch ∨ r.y + j * r.yPitch + r.rowLen ≤ q) → mget zeroByte y.lmem q = mget zeroByte x.lmem q)
include hf hi same left

/-- A row of ROWAPPLY does not depend on the rows before it. -/
theorem Core.applyRow_own (clear : r.Clear (r.affineRanges f)) : y.applyRow f r i = x.applyRow f r i := by
  have side : y.side = x.side := (congrArg Core.side same.1 :)
  have slot : y.slotVals (r.slot + i) = x.slotVals (r.slot + i) := by unfold Core.slotVals; rw [side]
  have row := x.rowAt_congr y r (r.x + i * r.xPitch) (RangesMeet.left (fun j hj => ((clear i hi).2 j hj).2.1) left)
  have affine : ∀ q ∈ r.affineRanges f, ∀ p, q.1 ≤ p → p < q.1 + q.2 → mget zeroByte y.lmem p = mget zeroByte x.lmem p := fun q hq =>
    RangesMeet.left (fun j hj => (clear j (by omega)).1 q hq) left
  unfold Core.applyRow
  rw [row, slot, rowApply_congr f _ _ _ _ (fun k => if r.gainEn then x.f32At r.gain k else natVal 1) _
    (fun k => if r.biasEn then x.f32At r.bias k else .zero) hf (fun h k hk => ?_) (fun h k hk => ?_)]
  · rw [Core.length_rowAt] at hk
    split
    · next on => exact x.f32At_congr y r.gain k r.len hk (affine (r.gain, 4 * r.len) (List.mem_append_left _ (by simp [h, on])))
    · rfl
  · rw [Core.length_rowAt] at hk
    split
    · next on => exact x.f32At_congr y r.bias k r.len hk (affine (r.bias, 4 * r.len) (List.mem_append_right _ (by simp [h, on])))
    · rfl

/-- A row of ROWBWD does not depend on the rows before it. -/
theorem Core.bwdRow_own (l : List (Nat × Nat)) (clear : r.Clear ((if f < 2 && r.gainEn then [(r.gain, 4 * r.len)] else []) ++ l)) :
    y.bwdRow f r i = x.bwdRow f r i := by
  have side : y.side = x.side := (congrArg Core.side same.1 :)
  have slot : y.slotVals (r.slot + i) = x.slotVals (r.slot + i) := by unfold Core.slotVals; rw [side]
  have row := x.rowAt_congr y r (r.x + i * r.xPitch) (RangesMeet.left (fun j hj => ((clear i hi).2 j hj).2.1) left)
  have grad := x.rowAt_congr y r (r.dy + i * r.xPitch) (RangesMeet.left (fun j hj => ((clear i hi).2 j hj).2.2) left)
  unfold Core.bwdRow
  rw [row, grad, slot, rowBwd_congr f _ _ _ _ r.gainEn _ (fun k => x.f32At r.gain k) hf (fun h on k hk => ?_)]
  rw [Core.length_rowAt] at hk
  exact x.f32At_congr y r.gain k r.len hk (RangesMeet.left (fun j hj => (clear j (by omega)).1 (r.gain, 4 * r.len)
    (List.mem_append_left _ (by simp [h, on]))) left)

end own

/-! ## Whole instructions -/

/-- The rows that ROWAPPLY writes, one after another. -/
def Core.applyRows (x : Core) (f : Nat) (r : RowRec) : Core :=
  (List.range r.rows).foldl (Core.writeRow (fun i => r.y + i * r.yPitch) (fun y i => y.applyRow f r i)
    (fun y i => y.anyPoison ((r.x + i * r.xPitch, r.rowLen) :: r.affineRanges f))) x

theorem Core.applyRows_left (x : Core) (f : Nat) (r : RowRec) (clean : x.lPoison = []) (hf : f ≤ 2) :
    x.SameButBytes (x.applyRows f r) ∧
    (∀ p, (∀ q ∈ r.rowsAt r.y r.yPitch r.rowLen, p < q.1 ∨ q.1 + q.2 ≤ p) → mget zeroByte (x.applyRows f r).lmem p = mget zeroByte x.lmem p) ∧
    (r.Clear (r.affineRanges f) → ∀ i, i < r.rows → (x.applyRows f r).lread (r.y + i * r.yPitch) r.rowLen = x.applyRow f r i) := by
  have unpoisoned : ∀ (y : Core) (i : Nat), y.lPoison = [] → y.anyPoison ((r.x + i * r.xPitch, r.rowLen) :: r.affineRanges f) = false :=
    fun y i hy => y.anyPoison_none hy _
  refine ⟨Core.writeRows_sameButBytes _ _ _ x clean unpoisoned r.rows, fun p hp => ?_, fun clear i hi => ?_⟩
  · exact Core.writeRows_out _ _ _ r.rowLen x (fun y i => y.length_applyRow f r i) r.rows p (fun i hi => r.out_of_rowsAt r.y r.yPitch r.rowLen p hp i hi)
  · refine Core.writeRows_row _ _ _ r.rowLen x clean unpoisoned (fun y i => y.length_applyRow f r i) r.rows (fun i => x.applyRow f r i)
      (fun i j hj hi => ?_) (fun z i hi same left => x.applyRow_own z r f i hf hi same left clear) i hi
    have := ((clear i hi).2 j hj).1
    unfold RangesMeet at this
    dsimp only at this
    omega

/-- The rows that ROWBWD writes, one after another. -/
def Core.bwdRows (x : Core) (f : Nat) (r : RowRec) : Core :=
  (List.range r.rows).foldl (Core.writeRow (fun i => r.y + i * r.yPitch) (fun y i => y.bwdRow f r i)
    (fun y i => y.anyPoison ((r.x + i * r.xPitch, r.rowLen) :: (r.dy + i * r.xPitch, r.rowLen) :: (if f < 2 && r.gainEn then [(r.gain, 4 * r.len)] else [])))) x

theorem Core.bwdRows_left (x : Core) (f : Nat) (r : RowRec) (clean : x.lPoison = []) (hf : f ≤ 2) :
    x.SameButBytes (x.bwdRows f r) ∧
    (∀ p, (∀ q ∈ r.rowsAt r.y r.yPitch r.rowLen, p < q.1 ∨ q.1 + q.2 ≤ p) → mget zeroByte (x.bwdRows f r).lmem p = mget zeroByte x.lmem p) ∧
    (∀ l, r.Clear ((if f < 2 && r.gainEn then [(r.gain, 4 * r.len)] else []) ++ l) → ∀ i, i < r.rows →
      (x.bwdRows f r).lread (r.y + i * r.yPitch) r.rowLen = x.bwdRow f r i) := by
  have unpoisoned : ∀ (y : Core) (i : Nat), y.lPoison = [] → y.anyPoison ((r.x + i * r.xPitch, r.rowLen) :: (r.dy + i * r.xPitch, r.rowLen) ::
      (if f < 2 && r.gainEn then [(r.gain, 4 * r.len)] else [])) = false := fun y i hy => y.anyPoison_none hy _
  refine ⟨Core.writeRows_sameButBytes _ _ _ x clean unpoisoned r.rows, fun p hp => ?_, fun l clear i hi => ?_⟩
  · exact Core.writeRows_out _ _ _ r.rowLen x (fun y i => y.length_bwdRow f r i) r.rows p (fun i hi => r.out_of_rowsAt r.y r.yPitch r.rowLen p hp i hi)
  · refine Core.writeRows_row _ _ _ r.rowLen x clean unpoisoned (fun y i => y.length_bwdRow f r i) r.rows (fun i => x.bwdRow f r i)
      (fun i j hj hi => ?_) (fun z i hi same left => x.bwdRow_own z r f i hf hi same left l clear) i hi
    have := ((clear i hi).2 j hj).1
    unfold RangesMeet at this
    dsimp only at this
    omega

/-- ROWBWD on a core without poison is its rows, then its sums. -/
theorem rowBwdEff_eq (f : Nat) (r : RowRec) (x : Core) (clean : x.lPoison = []) :
    rowBwdEff f r x = (x.gradSums r f).foldl (fun y p => y.xaAdd p.1 p.2 false) (x.bwdRows f r) := by
  unfold rowBwdEff
  dsimp only
  rw [x.anyPoison_none clean]
  rfl

/-- A write of bytes alone changes no more than sums do. -/
theorem Core.SameButBytes.sums {x y : Core} (h : x.SameButBytes y) : x.SameButSums y :=
  ⟨h.1.trans (congrArg (fun a => ({ x with lmem := y.lmem, async := a } : Core)) (congrArg Core.async h.1 :).symm), h.2⟩

/-- What ROWBWD leaves outside the rows of Y and the arrays of sums. -/
theorem rowBwdEff_frame (f : Nat) (r : RowRec) (x : Core) (clean : x.lPoison = []) (hf : f ≤ 2) :
    x.SameButSums (rowBwdEff f r x) ∧
    ∀ p, (∀ q ∈ r.rowsAt r.y r.yPitch r.rowLen ++ r.sumRanges f, p < q.1 ∨ q.1 + q.2 ≤ p) → mget zeroByte (rowBwdEff f r x).lmem p = mget zeroByte x.lmem p := by
  obtain ⟨rowsFrame, rowsOut, -⟩ := x.bwdRows_left f r clean hf
  obtain ⟨sumsFrame, sumsOut⟩ := Core.xaAdds_frame (x.gradSums r f) (x.bwdRows f r) rowsFrame.lPoison
  rw [rowBwdEff_eq f r x clean]
  refine ⟨rowsFrame.sums.trans sumsFrame, fun p hp => ?_⟩
  refine (sumsOut p fun g hg => ?_).trans (rowsOut p fun q hq => hp q (List.mem_append_left _ hq))
  obtain ⟨q, hq, hlo, hhi⟩ := x.gradSums_inside r f hf g hg
  have := hp q (List.mem_append_right _ hq)
  omega

/-- The rows and sums of ROWBWD when none meets another. -/
theorem rowBwdEff_values (f : Nat) (r : RowRec) (x : Core) (clean : x.lPoison = []) (hf : f ≤ 2)
    (clear : r.Clear ((if f < 2 && r.gainEn then [(r.gain, 4 * r.len)] else []) ++ r.sumRanges f))
    (apart : ¬RangesMeet (r.dgain, 16 * r.len) (r.dbias, 16 * r.len)) :
    (∀ i, i < r.rows → (rowBwdEff f r x).lread (r.y + i * r.yPitch) r.rowLen = x.bwdRow f r i) ∧
    (rowBwdEff f r x).async = (if (x.gradSums r f).any x.rejects then x.async ||| 1 else x.async) ∧
    ∀ g ∈ x.gradSums r f, leNat ((rowBwdEff f r x).lread g.1 16) = x.combined g := by
  obtain ⟨rowsFrame, rowsOut, rows⟩ := x.bwdRows_left f r clean hf
  have sumsOut := (Core.xaAdds_frame (x.gradSums r f) (x.bwdRows f r) rowsFrame.lPoison).2
  obtain ⟨sums, async⟩ := Core.xaAdds_values (x.gradSums r f) (x.bwdRows f r) rowsFrame.lPoison (x.gradSums_apart r f apart)
  have away : ∀ g ∈ x.gradSums r f, ∀ i, i < r.rows → g.1 + 16 ≤ r.y + i * r.yPitch ∨ r.y + i * r.yPitch + r.rowLen ≤ g.1 ∨ r.rowLen = 0 := fun g hg i hi => by
    obtain ⟨q, hq, hlo, hhi⟩ := x.gradSums_inside r f hf g hg
    have := (clear i hi).1 q (List.mem_append_right _ hq)
    unfold RangesMeet at this
    dsimp only at this
    omega
  have reads : ∀ g ∈ x.gradSums r f, (x.bwdRows f r).lread g.1 16 = x.lread g.1 16 := fun g hg => mgetN_congr _ _ _ _ _ fun k hk => rowsOut _ fun q hq => by
    obtain ⟨i, hi, rfl⟩ := List.mem_map.mp hq
    have := away g hg i (List.mem_range.mp hi)
    dsimp only
    omega
  rw [rowBwdEff_eq f r x clean]
  refine ⟨fun i hi => ?_, ?_, fun g hg => ?_⟩
  · rw [← rows _ clear i hi]
    exact mgetN_congr _ _ _ _ _ fun k hk => sumsOut _ fun g hg => by
      have := away g hg i hi
      omega
  · have any_ : (x.gradSums r f).any (x.bwdRows f r).rejects = (x.gradSums r f).any x.rejects := by
      rw [Bool.eq_iff_iff, List.any_eq_true, List.any_eq_true]
      exact exists_congr fun e => and_congr_right fun he => by unfold Core.rejects; rw [reads e he]
    rw [async, any_, show (x.bwdRows f r).async = x.async from (congrArg Core.async rowsFrame.1 :)]
  · rw [sums g hg]
    unfold Core.combined
    rw [reads g hg]

section issue
variable (s : State) (c : Fin 144) (w : GenFields) (h : s.fresh c) (quiet : (s.core c).ranges = []) (hu : ({ a := true } : Uses).bad w = false)
  (hf : w.func.toNat ≤ 2) (r : RowRec) (hr : r = (s.core c).rowBlock w)
include h quiet hu hf hr

theorem execRowapply_stores (passes : codes (rowCodes ((s.core c).s w.a.toNat).toNat ((s.core c).lread ((s.core c).s w.a.toNat).toNat 64) r
      { reads := r.rowsAt r.x r.xPitch r.rowLen ++ r.affineRanges w.func.toNat, writes := r.rowsAt r.y r.yPitch r.rowLen, yPitch := true, slots := r.rows }) = []) :
    execRowapply c w s = .next ((s.fetch c).setCore c ((s.core c).go.applyRows w.func.toNat r).next) := by
  subst hr
  unfold execRowapply
  dsimp only
  rw [State.rowIssue_runs s c 0x51 w w.func.toNat 3 (fun r =>
    { reads := r.rowsAt r.x r.xPitch r.rowLen ++ r.affineRanges w.func.toNat, writes := r.rowsAt r.y r.yPitch r.rowLen, yPitch := true, slots := r.rows }) _ h quiet hu passes (by omega) (by omega) (by omega)]
  rfl

theorem execRowbwd_stores (passes : codes (rowCodes ((s.core c).s w.a.toNat).toNat ((s.core c).lread ((s.core c).s w.a.toNat).toNat 64) r
      { reads := r.bwdReads w.func.toNat ++ r.sumRanges w.func.toNat, writes := r.rowsAt r.y r.yPitch r.rowLen ++ r.sumRanges w.func.toNat, yPitch := true
        slots := r.rows }) = []) :
    execRowbwd c w s = .next (((s.fetch c).setCore c (rowBwdEff w.func.toNat r (s.core c).go).next).bump 0x3103 5
      ((((s.core c).gradSums r w.func.toNat).map (fun p => (s.core c).xaMisfit p.1 p.2)).sum)) := by
  have block : rowRecOf ((s.core c).lread ((s.core c).s w.a.toNat).toNat 64) = r := hr.symm
  subst hr
  have frame := (rowBwdEff_frame w.func.toNat ((s.core c).rowBlock w) (s.core c).go h.2.2.2 hf).1.1
  have moved : (((s.fetch c).setCore c (rowBwdEff w.func.toNat ((s.core c).rowBlock w) (s.core c).go).next).core c).pc ≠ (s.core c).pc := by
    rw [State.core_setCore _ _ _ c.isLt, Core.next_pc, (congrArg Core.pc frame :)]
    exact pc_moves _
  unfold execRowbwd
  dsimp only
  rw [block, State.rowIssue_runs s c 0x52 w w.func.toNat 3 (fun r =>
    { reads := r.bwdReads w.func.toNat ++ r.sumRanges w.func.toNat, writes := r.rowsAt r.y r.yPitch r.rowLen ++ r.sumRanges w.func.toNat, yPitch := true
      slots := r.rows }) _ h quiet hu passes (by omega) (by omega)
    (by omega), if_neg moved]

end issue

/-- What O21 says of an instruction that stores rows: local memory and ASYNC of the core change, and statistics may have been counted. -/
theorem rows_left (s : State) (c : Fin 144) (y : Core) (t : State) (hy : (s.core c).go.SameButSums y)
    (ht : { t with obj := (s.fetch c).obj } = (s.fetch c).setCore c y.next) :
    t.core c = y.next ∧ { t with obj := (s.fetch c).obj } = (s.fetch c).setCore c { (s.core c).go with
      lmem := (t.core c).lmem, lPoison := (t.core c).lPoison, async := (t.core c).async, pc := (s.core c).pc + 16 } := by
  have core : t.core c = y.next := (congrArg (State.core · c) ht :).trans (State.core_setCore _ _ _ c.isLt)
  refine ⟨core, ?_⟩
  rw [core]
  have poison : y.lPoison = (s.core c).go.lPoison := hy.lPoison.trans hy.2.symm
  have frame := hy.1.trans (congrArg (fun l => ({ (s.core c).go with lmem := y.lmem, lPoison := l, async := y.async } : Core)) poison.symm)
  exact ht.trans (congrArg (fun z : Core => (s.fetch c).setCore c z.next) frame)

@[simp] theorem Core.go_applyRow (x : Core) (f : Nat) (r : RowRec) (i : Nat) : x.go.applyRow f r i = x.applyRow f r i := rfl
@[simp] theorem Core.go_bwdRow (x : Core) (f : Nat) (r : RowRec) (i : Nat) : x.go.bwdRow f r i = x.bwdRow f r i := rfl
@[simp] theorem Core.go_combined (x : Core) (g : Nat × Win) : x.go.combined g = x.combined g := rfl
@[simp] theorem Core.go_rejects (x : Core) (g : Nat × Win) : x.go.rejects g = x.rejects g := rfl
@[simp] theorem Core.go_gradSums (x : Core) (f : Nat) (r : RowRec) : x.go.gradSums r f = x.gradSums r f := rfl

/-- Settles O21: the rows one after another, then the sums one after another. -/
theorem rowNormalise : Obligations.RowNormalise := by
  unfold Obligations.RowNormalise
  intro s c w h quiet hu hf g x a b r f meets rowY stores clear sl
  refine ⟨fun passes => ?_, fun passes => ?_⟩
  · obtain ⟨frame, out, rows⟩ := x.go.applyRows_left f r h.2.2.2 hf
    have row := (exec_rowapply c w s).trans (execRowapply_stores s c w h quiet hu hf r rfl passes)
    simp only [Core.go_applyRow] at rows
    change _ = Host.Outcome.next ((s.fetch c).setCore c (x.go.applyRows f r).next) at row
    generalize x.go.applyRows f r = y at frame out rows row
    obtain ⟨core, rest⟩ := rows_left s c y ((s.fetch c).setCore c y.next) frame.sums rfl
    refine ⟨_, row, ⟨rest, ?_⟩, ?_, ?_⟩
    · rw [core]
      exact out
    · rw [core]
      exact (congrArg Core.async frame.1 :)
    · rw [core]
      exact rows
  · obtain ⟨frame, out⟩ := rowBwdEff_frame f r x.go h.2.2.2 hf
    have values := rowBwdEff_values f r x.go h.2.2.2 hf
    have row := (exec_rowbwd c w s).trans (execRowbwd_stores s c w h quiet hu hf r rfl passes)
    simp only [Core.go_bwdRow, Core.go_combined, Core.go_gradSums] at values
    change _ = Host.Outcome.next (((s.fetch c).setCore c (rowBwdEff f r x.go).next).bump 0x3103 5 _) at row
    generalize rowBwdEff f r x.go = y at frame out values row
    generalize (((s.core c).gradSums r w.func.toNat).map (fun p => (s.core c).xaMisfit p.1 p.2)).sum = misfits at row
    obtain ⟨core, rest⟩ := rows_left s c y (((s.fetch c).setCore c y.next).bump 0x3103 5 misfits) frame rfl
    refine ⟨_, row, ⟨rest, ?_⟩, fun hclear apart => ?_⟩
    · rw [core]
      exact out
    · obtain ⟨rows, async, sums⟩ := values hclear apart
      rw [core]
      exact ⟨rows, async, sums⟩

end Sys2Proof.Machine
end

section
/-! SUPPORT. Claims of tiles (04 R141) as the assays of those tiles see them (10 R350). -/

namespace Sys2Proof.Machine

/-- A claim's note in an assay changes no core but in its assays. -/
theorem State.claimAssay_core (s : State) (c seq : Nat) (block : Option EpiRec) (k : Nat) :
    ∃ l, (s.claimAssay c seq block).core k = { s.core k with assays := l } := by
  unfold State.claimAssay
  dsimp only
  cases s.assayOf c seq with
  | none => exact ⟨_, rfl⟩
  | some a => exact ⟨_, s.core_modAssay c seq _ k⟩

/-- Every assay of a tile, wherever it waits, knows of a claim without a block. -/
def State.FreeClaimed (s : State) (c seq : Nat) : Prop :=
  ∀ k, k < 144 → ∀ a ∈ (s.core k).assays, a.origin = c → a.tile.seq = seq → a.claimed = true ∧ a.tile.epi = none

/-- The assay found for a tile is one of that tile. -/
theorem State.assayOf_some {s : State} {c seq : Nat} {a : AssayRec} (h : s.assayOf c seq = some a) :
    (∃ k, k < 144 ∧ a ∈ (s.core k).assays) ∧ a.origin = c ∧ a.tile.seq = seq := by
  have tile := List.find?_some h
  have here := List.mem_of_find?_eq_some h
  simp only [Bool.and_eq_true, beq_iff_eq] at tile
  obtain ⟨k, hk, hmem⟩ := List.mem_flatMap.mp here
  exact ⟨⟨k, List.mem_range.mp hk, hmem⟩, tile⟩

theorem State.assayOf_none {s : State} {c seq : Nat} (h : s.assayOf c seq = none) (k : Nat) (hk : k < 144) (a : AssayRec) (ha : a ∈ (s.core k).assays) :
    ¬(a.origin = c ∧ a.tile.seq = seq) := by
  have := List.find?_eq_none.mp h a (List.mem_flatMap.mpr ⟨k, List.mem_range.mpr hk, ha⟩)
  simpa using this

/-- A claim without a block is known to the assays of its tile. -/
theorem State.claimAssay_freeClaimed (s : State) (c seq : Nat) : (s.claimAssay c seq none).FreeClaimed c seq := by
  unfold State.claimAssay
  dsimp only
  cases hof : s.assayOf c seq with
  | none => exact fun k hk a ha horigin hseq => absurd ⟨horigin, hseq⟩ (State.assayOf_none hof k hk a ha)
  | some r =>
    intro k hk a ha horigin hseq
    rw [s.core_modAssay] at ha
    obtain ⟨b, -, rfl⟩ := List.mem_map.mp ha
    split at horigin
    · next hit => rw [if_pos hit]; exact ⟨rfl, rfl⟩
    · next miss => rw [if_neg miss] at hseq; exact absurd ⟨horigin, hseq⟩ miss

theorem State.FreeClaimed.congr {s t : State} {c seq : Nat} (same : ∀ k, (t.core k).assays = (s.core k).assays) (h : s.FreeClaimed c seq) :
    t.FreeClaimed c seq := fun k hk a ha => h k hk a (same k ▸ ha)

/-- A later claim without a block leaves what the assays of a tile know. -/
theorem State.FreeClaimed.claimAssay {s : State} {c seq : Nat} (h : s.FreeClaimed c seq) (seq' : Nat) : (s.claimAssay c seq' none).FreeClaimed c seq := by
  unfold State.claimAssay
  dsimp only
  cases s.assayOf c seq' with
  | none => exact h
  | some r =>
    intro k hk a ha horigin hseq
    rw [s.core_modAssay] at ha
    obtain ⟨b, hb, rfl⟩ := List.mem_map.mp ha
    by_cases hit : b.origin = c ∧ b.tile.seq = seq'
    · rw [if_pos hit]
      exact ⟨rfl, rfl⟩
    · rw [if_neg hit] at horigin hseq ⊢
      exact h k hk b hb horigin hseq

end Sys2Proof.Machine
end

section
/-! O7: HALT and HALT_COMPLETE (04 R126). -/

namespace Sys2Proof.Machine

theorem exec_halt (c : Fin 144) (w : GenFields) (s : State) : exec (.halt c w) s = execHalt c w s := rfl
theorem exec_haltComplete (c : Fin 144) (s : State) : exec (.haltComplete c) s = execHaltComplete c s := rfl

/-- Claims without a block of tiles one after another: no core changes but in its assays, and the assays of each tile know of its claim. -/
theorem State.each_claimAssay (l : List (Nat × Nat)) (s : State) (c : Nat) :
    (∀ k, ∃ a, (s.each l (fun s u => s.claimAssay c u.1 none)).core k = { s.core k with assays := a }) ∧
    (∀ seq, s.FreeClaimed c seq ∨ seq ∈ l.map (·.1) → (s.each l (fun s u => s.claimAssay c u.1 none)).FreeClaimed c seq) := by
  induction l generalizing s with
  | nil => exact ⟨fun k => ⟨_, rfl⟩, fun seq h => h.resolve_right List.not_mem_nil⟩
  | cons u r ih =>
    obtain ⟨cores, claims⟩ := ih (s.claimAssay c u.1 none)
    refine ⟨fun k => ?_, fun seq h => claims seq ?_⟩
    · obtain ⟨a, ha⟩ := cores k
      obtain ⟨b, hb⟩ := s.claimAssay_core c u.1 none k
      rw [hb] at ha
      exact ⟨a, ha⟩
    · rcases h with h | h
      · exact .inl (h.claimAssay u.1)
      · rcases List.mem_cons.mp h with rfl | h
        · exact .inl (s.claimAssay_freeClaimed c u.1)
        · exact .inr h

/-- A core whose HALT has put unclaimed tiles into the epilogue queue, as many as it has room for. -/
def Core.halting (x : Core) : Core :=
  let room := 4 - x.epiQ.length
  { x with epiQ := x.epiQ ++ (x.unclaimed.take room).map claimOp, unclaimed := x.unclaimed.drop room }

/-- HALT waits once every tile is claimed, and stays at its PC before (04 R126). -/
def Core.haltWait (x : Core) : Core := if x.unclaimed.isEmpty then { x with wait := .halt }.next else { x with stall := .epilogueQueue }

/-- The claims of a HALT that issues. -/
theorem State.haltClaims_issued (s : State) (c : Fin 144) : ((s.fetch c).setCore c (s.core c).go).haltClaims c =
    ((s.fetch c).setCore c (s.core c).go.halting).each ((s.core c).unclaimed.take (4 - (s.core c).epiQ.length)) (fun s u => s.claimAssay c u.1 none) := by
  unfold State.haltClaims
  dsimp only
  rw [State.core_setCore _ _ _ c.isLt, State.setCore_setCore]
  rfl

theorem execHalt_claims (s : State) (c : Fin 144) (w : GenFields) (h : s.fresh c) (hu : ({ func := false } : Uses).bad w = false) :
    Runs (.halt c w) s (fun t => (∃ a, t.core c = { (s.core c).go.halting.haltWait with assays := a }) ∧
      ∀ u ∈ (s.core c).unclaimed.take (4 - (s.core c).epiQ.length), t.FreeClaimed c u.1) := by
  rw [Runs, exec_halt]
  unfold execHalt
  rw [State.issue_fresh s c _ _ _ h ((codes_eq_nil _).mpr (by simp [hu])) rfl, State.haltClaims_issued]
  obtain ⟨cores, claims⟩ := State.each_claimAssay ((s.core c).unclaimed.take (4 - (s.core c).epiQ.length)) ((s.fetch c).setCore c (s.core c).go.halting) c
  generalize State.each _ _ _ = u at cores claims
  obtain ⟨a, ha⟩ := cores c
  rw [State.core_setCore _ _ _ c.isLt] at ha
  refine ⟨_, rfl, ⟨a, ?_⟩, fun v hv => State.FreeClaimed.congr (fun k => ?_) (claims v.1 (.inr (List.mem_map_of_mem hv)))⟩
  · rw [State.core_modCore _ _ _ c.isLt, ha]
    unfold Core.haltWait
    dsimp only
    split <;> rfl
  · by_cases hk : k = c
    · subst hk
      rw [State.core_modCore _ _ _ c.isLt]
      split <;> rfl
    · rw [State.core_modCore_ne _ _ _ _ hk]

theorem Core.quiet_iff (x : Core) : x.quiet = true ↔ x.arrayQ = [] ∧ x.current = none ∧ x.epiQ = [] ∧ x.draining = none ∧ x.done = [] ∧ x.loadBusy = false ∧
    ∀ e, e < 2 → (vget x.dma e DmaEngine.reset).queue = [] ∧ (vget x.dma e DmaEngine.reset).running = [] := by
  have engines : (x.dma.toList.all (fun e => e.queue.isEmpty && e.running.isEmpty)) = true ↔
      ∀ e, e < 2 → (vget x.dma e DmaEngine.reset).queue = [] ∧ (vget x.dma e DmaEngine.reset).running = [] := by
    rw [List.all_eq_true]
    constructor
    · intro h e he
      have := h (vget x.dma e DmaEngine.reset) (by rw [vget_eq_getElem _ _ _ he]; exact Vector.mem_toList_iff.mpr (Vector.getElem_mem he))
      simpa using this
    · intro h d hd
      obtain ⟨e, he, rfl⟩ := List.mem_iff_getElem.mp hd
      have he : e < 2 := by simpa using he
      have := h e he
      rw [vget_eq_getElem _ _ _ he] at this
      simpa using this
  unfold Core.quiet
  simp only [Bool.and_eq_true, engines, List.isEmpty_iff, Option.isNone_iff_eq_none, Bool.not_eq_true']
  simp only [and_assoc]

/-- Settles O7: the claims that HALT makes, and the end of the program. -/
theorem programEnd : Obligations.ProgramEnd := by
  unfold Obligations.ProgramEnd
  intro s c x room
  refine ⟨fun w h hu => ?_, fun hrun hwait => ⟨?_, ?_⟩⟩
  · obtain ⟨t, row, ⟨a, core⟩, claims⟩ := execHalt_claims s c w h hu
    have running : x.run = .running := h.1.1
    have idle : x.wait = .none := h.1.2.1
    have known : ∀ u ∈ x.unclaimed.take room, ∀ a, t.assayOf c u.1 = some a → a.claimed = true ∧ a.tile.epi = none := fun u hu a ha => by
      obtain ⟨⟨k, hk, hmem⟩, horigin, hseq⟩ := State.assayOf_some ha
      exact claims u hu k hk a hmem horigin hseq
    refine ⟨t, row, ?_⟩
    dsimp only
    rw [core]
    by_cases hall : x.unclaimed.length ≤ room
    · have empty : x.go.halting.unclaimed.isEmpty = true := by
        rw [List.isEmpty_iff]
        exact List.drop_eq_nil_iff.mpr hall
      rw [Core.haltWait, if_pos empty]
      exact ⟨rfl, rfl, running, rfl, rfl, known, fun _ => ⟨rfl, rfl⟩, fun hlt => absurd hall (Nat.not_le.mpr hlt)⟩
    · have rest : ¬x.go.halting.unclaimed.isEmpty = true := by
        rw [List.isEmpty_iff]
        exact fun hnil => hall (List.drop_eq_nil_iff.mp hnil)
      rw [Core.haltWait, if_neg rest]
      exact ⟨rfl, rfl, running, rfl, rfl, known, fun hle => absurd hle hall, fun _ => ⟨idle, rfl, rfl⟩⟩
  · intro h1 h2 h3 h4 h5 h6 h7 h8 h9
    rw [exec_haltComplete, execHaltComplete]
    exact congrArg _ (if_pos ⟨hrun, hwait, x.quiet_iff.mpr ⟨h1, h2, h3, h4, h5, h6, h7⟩, h8, h9⟩)
  · intro busy
    rw [exec_haltComplete, execHaltComplete]
    refine congrArg _ (if_neg fun ⟨_, _, hquiet, hgsts, hcsigs⟩ => ?_)
    rcases busy with h | h | h
    · exact Bool.false_ne_true (h.symm.trans hquiet)
    · exact h hgsts
    · exact h hcsigs

end Sys2Proof.Machine
end


section
/-! O16: the instructions that claim banks, wait for them and read them (04 R140 to R142; 03 R113). -/

namespace Sys2Proof.Machine

theorem exec_epi (c : Fin 144) (w : GenFields) (s : State) : exec (.epi c w) s = execEpi c w s := rfl
theorem exec_accfree (c : Fin 144) (w : GenFields) (s : State) : exec (.accfree c w) s = execAccfree c w s := rfl
theorem exec_accwait (c : Fin 144) (w : GenFields) (s : State) : exec (.accwait c w) s = execAccwait c w s := rfl
theorem exec_accwaitRelease (c : Fin 144) (s : State) : exec (.accwaitRelease c) s = execAccwaitRelease c s := rfl
theorem exec_accrd (c : Fin 144) (w : GenFields) (s : State) : exec (.accrd c w) s = execAccrd c w s := rfl

/-! ## Claims -/

/-- A tile has been claimed by an instruction that goes on: its entry in the epilogue queue, and the ranges that it takes. -/
def State.Claimed (s t : State) (c : Nat) (u : Nat × Nat) (block : Option EpiRec) (es : List RangeEntry) : Prop :=
  ∃ a, t.core c = { ({ (s.core c).go.claim u block with ranges := (s.core c).ranges ++ es } : Core).next with assays := a }

theorem State.claimed_claimAssay (s : State) (c : Fin 144) (u : Nat × Nat) (block : Option EpiRec) (es : List RangeEntry) :
    s.Claimed (((s.fetch c).setCore c ({ (s.core c).go.claim u block with ranges := (s.core c).ranges ++ es } : Core).next).claimAssay c u.1 block) c u block es := by
  obtain ⟨a, ha⟩ := State.claimAssay_core ((s.fetch c).setCore c ({ (s.core c).go.claim u block with ranges := (s.core c).ranges ++ es } : Core).next) c u.1 block c
  rw [State.core_setCore _ _ _ c.isLt] at ha
  exact ⟨a, ha⟩

theorem execEpi_claims (s : State) (c : Fin 144) (w : GenFields) (h : s.fresh c) (hu : ({ a := true, imm := 3 } : Uses).bad w = false) (hf : w.func = 0)
    (x : Core) (hx : x = s.core c) (u : Nat × Nat) (r : TileRec) (hclaim : x.claimOf (w.imm.toNat % 8) = some u) (htile : x.tileBy u.1 = some r)
    (a : Nat) (ha : a = (x.s w.a.toNat).toNat) (e : EpiRec) (he : e = epiOf (x.lread a 128) ((x.s (recNat (x.lread a 128) 11 1)).setWidth 32))
    (es : List RangeEntry) (hes : es = rangeEntries (e.readSpans r.m r.n) false (4 * u.1 + 1) ++ rangeEntries (e.writeSpans r.m r.n) true (4 * u.1 + 2))
    (passes : codes (epiCodes a (x.lread a 128) e r.m r.n r.kind r.compact r.compat) = []) (room : x.epiQ.length < 4) (quiet : x.rangeStall es = false)
    (clear : x.conflict a (a + 128) false = false) :
    Runs (.epi c w) s (fun t => s.Claimed t c u (some e) es) := by
  have fields := Uses.bad_unusedFunc _ w hu hf
  rw [Runs, exec_epi]
  unfold execEpi
  dsimp only
  simp only [← hx, hclaim, Option.bind_some, htile, Option.map_some, Option.getD_some, ← ha, ← he, ← hes]
  rw [State.issue_fresh s c _ _ _ h (by rw [clear, codes_append]; simp [fields, passes]) (by simp [Nat.not_le.mpr room, quiet, clear])]
  refine ⟨_, rfl, ?_⟩
  rw [coreStep_issued]
  subst hx
  exact s.claimed_claimAssay c u (some e) es

theorem execEpi_unclaimed (s : State) (c : Fin 144) (w : GenFields) (h : s.fresh c) (hu : ({ a := true, imm := 3 } : Uses).bad w = false) (hf : w.func = 0)
    (x : Core) (hx : x = s.core c) (hclaim : x.claimOf (w.imm.toNat % 8) = none) (a : Nat) (ha : a = (x.s w.a.toNat).toNat)
    (clear : x.conflict a (a + 128) false = false)
    (above : ∀ f ∈ codes (epiCodes a (x.lread a 128) (epiOf (x.lread a 128) ((x.s (recNat (x.lread a 128) 11 1)).setWidth 32)) 1 1 0 false false), 0x06 ≤ f) :
    execEpi c w s = .next ((s.fetch c).coreFault c 0x06 (genWord 0x43 w) 0) := by
  have fields := Uses.bad_unusedFunc _ w hu hf
  unfold execEpi
  dsimp only
  simp only [← hx, hclaim, Option.bind_none, Option.map_none, Option.getD_none, ← ha]
  rw [State.issue_fault s c _ _ _ 0x06 h]
  rw [clear, codes_append]
  refine min?_eq_some_of_least _ _ (by simp [fields]) (fun f hf => ?_)
  rcases List.mem_append.mp hf with hf | hf
  · simp [fields] at hf
    omega
  · exact above f hf

theorem execAccfree_claims (s : State) (c : Fin 144) (w : GenFields) (h : s.fresh c) (hu : ({ imm := 3 } : Uses).bad w = false) (hf : w.func = 0)
    (u : Nat × Nat) (hclaim : (s.core c).claimOf (w.imm.toNat % 8) = some u) (room : (s.core c).epiQ.length < 4) :
    Runs (.accfree c w) s (fun t => s.Claimed t c u none []) := by
  have fields := Uses.bad_unusedFunc _ w hu hf
  rw [Runs, exec_accfree]
  unfold execAccfree
  simp only [hclaim]
  rw [State.issue_fresh s c _ _ _ h ((codes_eq_nil _).mpr (by simp [fields])) (by simp [Nat.not_le.mpr room])]
  refine ⟨_, rfl, ?_⟩
  rw [coreStep_issued]
  have claimed := s.claimed_claimAssay c u none []
  rwa [List.append_nil] at claimed

theorem execAccfree_stalls (s : State) (c : Fin 144) (w : GenFields) (h : s.fresh c) (hu : ({ imm := 3 } : Uses).bad w = false) (hf : w.func = 0)
    (u : Nat × Nat) (hclaim : (s.core c).claimOf (w.imm.toNat % 8) = some u) (full : 4 ≤ (s.core c).epiQ.length) :
    execAccfree c w s = .next ((s.fetch c).setCore c { (s.core c).go with stall := .epilogueQueue }) := by
  have fields := Uses.bad_unusedFunc _ w hu hf
  unfold execAccfree
  simp only [hclaim]
  rw [State.issue_stall s c _ _ _ h ((codes_eq_nil _).mpr (by simp [fields])) (by simp [full])]
  simp [full]

theorem execAccfree_unclaimed (s : State) (c : Fin 144) (w : GenFields) (h : s.fresh c) (hu : ({ imm := 3 } : Uses).bad w = false) (hf : w.func = 0)
    (hclaim : (s.core c).claimOf (w.imm.toNat % 8) = none) : execAccfree c w s = .next ((s.fetch c).coreFault c 0x06 (genWord 0x44 w) 0) := by
  have fields := Uses.bad_unusedFunc _ w hu hf
  unfold execAccfree
  simp only [hclaim]
  rw [State.issue_fault s c _ _ _ 0x06 h (by simp [fields])]

/-! ## Waits for banks -/

theorem Core.banksFree_iff (x : Core) (mask : BitVec 8) : x.banksFree mask = true ↔
    ∀ b, b < 8 → mask.getLsbD b = true → (vget x.banks b Bank.reset).state = .free ∧ x.awaited b = false := by
  unfold Core.banksFree
  rw [List.all_eq_true]
  refine forall_congr' fun b => ?_
  rw [List.mem_range]
  refine imp_congr_right fun _ => ?_
  cases mask.getLsbD b <;> simp

/-- A nonzero IMM of eight bits names a bank. -/
theorem bankMask_ne_zero (w : GenFields) (hu : ({ imm := 8 } : Uses).bad w = false) (hm : w.imm ≠ 0) : (w.imm.setWidth 8 : BitVec 8) ≠ 0 := by
  have small := imm_small _ w hu
  intro h0
  refine hm (BitVec.eq_of_toNat_eq ?_)
  have := congrArg BitVec.toNat h0
  simp only [BitVec.toNat_setWidth, BitVec.ofNat_eq_ofNat, BitVec.toNat_ofNat] at this ⊢
  simp at small
  omega

theorem execAccwait_waits (s : State) (c : Fin 144) (w : GenFields) (h : s.fresh c) (hu : ({ imm := 8 } : Uses).bad w = false) (hf : w.func = 0) (hm : w.imm ≠ 0) :
    execAccwait c w s = .next ((s.fetch c).setCore c (if (s.core c).banksFree (w.imm.setWidth 8) then (s.core c).go.next
      else { (s.core c).go with wait := .banks (w.imm.setWidth 8) })) := by
  have fields := Uses.bad_unusedFunc _ w hu hf
  have mask := bankMask_ne_zero w hu hm
  unfold execAccwait
  dsimp only
  rw [State.issue_modCore s c _ _ _ h ((codes_eq_nil _).mpr (by simp [fields]; exact mask)) rfl]
  rfl

theorem execAccwait_empty (s : State) (c : Fin 144) (w : GenFields) (h : s.fresh c) (hu : ({ imm := 8 } : Uses).bad w = false) (hf : w.func = 0) (hm : w.imm = 0) :
    execAccwait c w s = .next ((s.fetch c).coreFault c 0x03 (genWord 0x45 w) 0) := by
  have fields := Uses.bad_unusedFunc _ w hu hf
  unfold execAccwait
  dsimp only
  rw [State.issue_fault s c _ _ _ 0x03 h (by simp [fields, hm])]

theorem execAccwaitRelease_releases (s : State) (c : Fin 144) (mask : BitVec 8) (hw : (s.core c).wait = .banks mask) :
    execAccwaitRelease c s = .next (if (s.core c).banksFree mask then s.setCore c { s.core c with wait := .none, pc := (s.core c).pc + 16 } else s) := by
  have released : (s.core c).release 0 = { s.core c with wait := .none, pc := (s.core c).pc + 16 } := by simp only [Core.release, hw, Core.next]
  unfold execAccwaitRelease
  simp only [hw, released]

/-! ## Reads of a bank -/

/-- The entry that ACCRD reads: those of a FREE bank are the reset values. -/
def Core.bankEntry (x : Core) (b n : Nat) : AccEntry :=
  if (vget x.banks b Bank.reset).state = .free then AccEntry.reset else tget AccEntry.reset x.acc (16384 * b + n)

theorem accRecord_lt (k : Nat) (e : AccEntry) : accRecord k e < 2 ^ 128 := by
  have entry := e.entry.isLt
  have tag := e.tag.isLt
  have words := Nat.mod_lt k (show 0 < 2 ^ 32 by norm_num)
  unfold accRecord
  omega

/-- The register that ACCRD writes. -/
def Core.accrdVec (x : Core) (b first : Nat) : BitVec 16384 :=
  BitVec.ofNat 16384 ((List.range 128).foldr (fun i acc => 2 ^ 128 * acc + accRecord (vget x.banks b Bank.reset).k
    (if (vget x.banks b Bank.reset).state = .free then AccEntry.reset else tget AccEntry.reset x.acc (16384 * b + first + i))) 0)

theorem Core.lane_accrdVec (x : Core) (b first i : Nat) (hi : i < 128) :
    lane 128 (x.accrdVec b first) i = accRecord (vget x.banks b Bank.reset).k (x.bankEntry b (first + i)) := by
  have records : x.accrdVec b first = vecOf 128 ((List.range 128).map (fun i => accRecord (vget x.banks b Bank.reset).k (x.bankEntry b (first + i)))) := by
    unfold Core.accrdVec vecOf Core.bankEntry
    rw [List.foldr_map]
    simp only [Nat.mod_eq_of_lt (accRecord_lt _ _), Nat.add_assoc]
  rw [records, lane_vecOf _ _ _ (by rw [List.length_map, List.length_range]), List.getD_eq_getElem?_getD, List.getElem?_map, List.getElem?_range hi]
  exact Nat.mod_eq_of_lt (accRecord_lt _ _)

section accrd
variable (s : State) (c : Fin 144) (w : GenFields) (h : s.fresh c) (hu : ({ d := true, a := true, imm := 3 } : Uses).bad w = false) (hf : w.func = 0)
  (hfirst : ((s.core c).s w.a.toNat).toNat ≤ 16256) (b : Nat) (hb : b = w.imm.toNat) (x : Core) (hx : x = s.core c)
  (hfree : ¬((vget x.banks b Bank.reset).state = .free ∧ x.awaited b = true))
include h hu hf hfirst hb hx hfree

omit h hb in
theorem execAccrd_codes : codes [(({ func := false, d := true, a := true, imm := 3 } : Uses).bad w, 0x02), (decide (16256 < ((s.core c).s w.a.toNat).toNat), 0x03),
    ((vget x.banks b Bank.reset).state == .free && x.awaited b, 0x06), (!(s.objGet 0x3110 0).testBit (s.stream x.stream).job, 0x0D)] =
    if (s.objGet 0x3110 0).testBit (s.jobOf c) then [] else [0x0D] := by
  have fields := Uses.bad_unusedFunc _ w hu hf
  have free : ((vget x.banks b Bank.reset).state == .free && x.awaited b) = false := by
    rw [Bool.eq_false_iff, ne_eq, Bool.and_eq_true, beq_iff_eq]
    exact hfree
  have job : s.jobOf c = (s.stream x.stream).job := by rw [hx]; rfl
  rw [fields, decide_eq_false (Nat.not_lt.mpr hfirst), free, job]
  cases (s.objGet 0x3110 0).testBit (s.stream x.stream).job <;> rfl

theorem execAccrd_reads (debug : (s.objGet 0x3110 0).testBit (s.jobOf c) = true) (still : (vget x.banks b Bank.reset).state ≠ .accumulating) :
    ∃ p, execAccrd c w s = .next ((s.fetch c).setCore c (x.go.setV w.d.toNat (x.accrdVec b (x.s w.a.toNat).toNat) p).next) := by
  subst hx
  have small := imm_small _ w hu
  have bank : w.imm.toNat % 8 = b := by simp at small; omega
  have passes := execAccrd_codes s c w hu hf hfirst b _ rfl hfree
  rw [if_pos debug] at passes
  unfold execAccrd
  dsimp only
  rw [bank]
  rw [State.issue_coreStep s c _ _ _ h passes (by simp [still])]
  exact ⟨_, rfl⟩

theorem execAccrd_stalls (debug : (s.objGet 0x3110 0).testBit (s.jobOf c) = true) (busy : (vget x.banks b Bank.reset).state = .accumulating) :
    execAccrd c w s = .next ((s.fetch c).setCore c { x.go with stall := .bank }) := by
  subst hx
  have small := imm_small _ w hu
  have bank : w.imm.toNat % 8 = b := by simp at small; omega
  have passes := execAccrd_codes s c w hu hf hfirst b _ rfl hfree
  rw [if_pos debug] at passes
  unfold execAccrd
  dsimp only
  rw [bank]
  rw [State.issue_stall s c _ _ _ h passes (by simp [busy])]
  simp [busy]

theorem execAccrd_faults (debug : (s.objGet 0x3110 0).testBit (s.jobOf c) = false) :
    execAccrd c w s = .next ((s.fetch c).coreFault c 0x0D (genWord 0x46 w) 0) := by
  subst hx
  have small := imm_small _ w hu
  have bank : w.imm.toNat % 8 = b := by simp at small; omega
  have code := execAccrd_codes s c w hu hf hfirst b _ rfl hfree
  rw [if_neg (by rw [debug]; exact Bool.false_ne_true)] at code
  unfold execAccrd
  dsimp only
  rw [bank]
  rw [State.issue_fault s c _ _ _ 0x0D h (by rw [code]; rfl)]

end accrd

/-- What O16 says of a claim. -/
theorem State.Claimed.left {s t : State} {c : Nat} {u : Nat × Nat} {block : Option EpiRec} {es : List RangeEntry} (h : s.Claimed t c u block es) :
    let x := s.core c
    let y := t.core c
    y.epiQ = x.epiQ ++ [{ seq := u.1, b0 := u.2, block := block }] ∧ y.unclaimed = x.unclaimed.filter (fun v => v.1 != u.1) ∧ y.ranges = x.ranges ++ es ∧
    y.banks = x.banks ∧ y.acc = x.acc ∧ y.arrayQ = x.arrayQ ∧ y.done = x.done ∧ y.sreg = x.sreg ∧ y.vreg = x.vreg ∧ y.lmem = x.lmem ∧ y.pc = x.pc + 16 := by
  obtain ⟨a, ha⟩ := h
  dsimp only
  rw [ha]
  exact ⟨rfl, rfl, rfl, rfl, rfl, rfl, rfl, rfl, rfl, rfl, rfl⟩

/-- Settles O16: claims, waits for banks and reads of a bank, by the laws above. -/
theorem banksClaimed : Obligations.BanksClaimed := by
  unfold Obligations.BanksClaimed
  constructor
  · intro s c w h g x claimed
    refine ⟨?_, fun u hclaim hu hf room => ?_, fun u hclaim hu hf full => (exec_accfree c w s).trans (execAccfree_stalls s c w h hu hf u hclaim full),
      fun hclaim hu hf => (exec_accfree c w s).trans (execAccfree_unclaimed s c w h hu hf hclaim), ?_⟩
    · intro u r hclaim htile hu hf a b e es passes room quiet clear
      obtain ⟨t, row, done⟩ := execEpi_claims s c w h hu hf x rfl u r hclaim htile a rfl e rfl es rfl passes room quiet clear
      exact ⟨t, row, done.left⟩
    · obtain ⟨t, row, done⟩ := execAccfree_claims s c w h hu hf u hclaim room
      exact ⟨t, row, done.left⟩
    · intro hclaim hu hf a b clear above
      exact (exec_epi c w s).trans (execEpi_unclaimed s c w h hu hf x rfl hclaim a rfl clear above)
  · intro s c x free
    refine ⟨fun w h hu hf => ⟨fun hm hfree => ?_, fun hm hfree => ?_, fun hm => (exec_accwait c w s).trans (execAccwait_empty s c w h hu hf hm)⟩,
      fun mask hw => ⟨fun hfree => ?_, fun hfree => ?_⟩, ?_⟩
    · rw [exec_accwait, execAccwait_waits s c w h hu hf hm, if_pos ((x.banksFree_iff _).mpr hfree)]
    · rw [exec_accwait, execAccwait_waits s c w h hu hf hm, if_neg (mt (x.banksFree_iff _).mp hfree)]
    · rw [exec_accwaitRelease, execAccwaitRelease_releases s c mask hw, if_pos ((x.banksFree_iff _).mpr hfree)]
    · rw [exec_accwaitRelease, execAccwaitRelease_releases s c mask hw, if_neg (mt (x.banksFree_iff _).mp hfree)]
    · intro w h hu hf hfirst b bank debug hfree
      refine ⟨fun hdebug still => ?_, fun hdebug busy => ?_, fun hdebug => ?_⟩
      · obtain ⟨p, row⟩ := execAccrd_reads s c w h hu hf hfirst b rfl x rfl hfree hdebug still
        refine ⟨_, (exec_accrd c w s).trans row, ?_⟩
        simp only [State.core_setCore _ _ _ c.isLt]
        refine ⟨rfl, fun r hr => Core.v_setV_ne x.go w.d.toNat r _ p hr, ?_⟩
        intro i hi
        have vec : (x.go.setV w.d.toNat (x.accrdVec b (x.s w.a.toNat).toNat) p).next.v w.d.toNat = x.accrdVec b (x.s w.a.toNat).toNat :=
          Core.v_setV x.go w.d.toNat _ p w.d.isLt
        rw [vec, x.lane_accrdVec b _ i hi]
        unfold Core.bankEntry
        rw [← Nat.add_assoc]
        rfl
      · exact (exec_accrd c w s).trans (execAccrd_stalls s c w h hu hf hfirst b rfl x rfl hfree hdebug busy)
      · exact (exec_accrd c w s).trans (execAccrd_faults s c w h hu hf hfirst b rfl x rfl hfree hdebug)

end Sys2Proof.Machine
end

section
/-! O14: TILE (04 R135, R141, R142). -/

namespace Sys2Proof.Machine

theorem exec_tile (c : Fin 144) (w : TileFields) (s : State) : exec (.tile c w) s = execTile c w s := rfl

/-- A core that has taken a tile into its array queue, in run `run`. -/
def Core.takeTile (x : Core) (run : Nat) (r : TileRec) : Core :=
  (({ x with
      arrayQ := x.arrayQ ++ [.tile r], tileSeq := x.tileSeq + 1, stepSeq := r.stepSeq + 1, seqKey := (r.step, run)
      assayMark := false, ranges := x.ranges ++ r.entries
      epiQ := if r.epi.isSome then x.epiQ ++ [{ seq := r.seq, b0 := r.b0, block := r.epi }] else x.epiQ
      unclaimed := if r.epi.isSome then x.unclaimed else x.unclaimed ++ [(r.seq, r.b0)] } : Core).settle).next

/-- Core `y` is core `x` once tile `r` is the last entry of its array queue, claimed by its own epilogue when it has one. -/
def Core.TookTile (x : Core) (r : TileRec) (y : Core) : Prop :=
  y.arrayQ.getLast? = some (.tile r) ∧ y.tileSeq = x.tileSeq + 1 ∧ y.ranges = x.ranges ++ r.entries ∧ y.assayMark = false ∧ y.pc = x.pc + 16 ∧
  y.epiQ = (if r.epi.isSome then x.epiQ ++ [{ seq := r.seq, b0 := r.b0, block := r.epi }] else x.epiQ) ∧
  y.unclaimed = (if r.epi.isSome then x.unclaimed else x.unclaimed ++ [(r.seq, r.b0)]) ∧
  y.banks = x.banks ∧ y.acc = x.acc ∧ y.lmem = x.lmem ∧ y.sreg = x.sreg ∧ y.vreg = x.vreg ∧ y.preg = x.preg ∧ y.current = x.current

theorem Core.takeTile_tookTile (x : Core) (run : Nat) (r : TileRec) : x.TookTile r (x.takeTile run r) := by
  refine ⟨?_, ?_⟩
  · exact Core.settle_getLast? _ (.tile r) (by simp) (by simp)
  · unfold Core.takeTile
    rw [Core.settle_frame]
    exact ⟨rfl, rfl, rfl, rfl, rfl, rfl, rfl, rfl, rfl, rfl, rfl, rfl, rfl⟩

/-- A wake changes no core but in its sleep. -/
theorem State.wakeCore_core (s : State) (c k : Nat) : ∃ z, (s.wakeCore c).core k = { s.core k with sleep := z } := by
  have own (f : Core → Core) (hf : ∀ x, ∃ z, f x = { x with sleep := z }) : ∃ z, (s.modCore c f).core k = { s.core k with sleep := z } :=
    State.core_modCore_rel (R := fun x y => ∃ z, y = { x with sleep := z }) (fun _ => ⟨_, rfl⟩) s c f (hf _) k
  unfold State.wakeCore
  split
  · exact own _ fun _ => ⟨_, rfl⟩
  · exact own _ fun _ => ⟨_, rfl⟩
  · exact ⟨_, rfl⟩

theorem State.wakeCore_esc (s : State) (c : Nat) : (s.wakeCore c).esc = s.esc := by
  unfold State.wakeCore
  split <;> rfl

/-- The record that an assay of tile `r` of core `c` begins as. -/
def State.assayRec (s : State) (c : Nat) (r : TileRec) : AssayRec :=
  let cs := match r.epi with
    | some e => (e.carryAddrs r.m r.n).flatMap (fun a => [(a.toNat, ((s.core c).lread a.toNat 1).headD 0), (a.toNat + 1, ((s.core c).lread (a.toNat + 1) 1).headD 0)])
    | none => []
  { tile := r, origin := c, carry := cs, stat := none, originDigest := none, claimed := r.epi.isSome, started := false, bank := 0, ahead := [], combine := []
    poison := false, digest := none }

/-- The assay core's record of an assay comes behind those that it has. -/
def Core.enterAssay (a : AssayRec) (x : Core) : Core := { x with assays := x.assays ++ [a] }

theorem State.openAssay_eq (s : State) (c : Nat) (r : TileRec) : s.openAssay c r =
    ((s.modCore (s.assayCore c) (Core.enterAssay (s.assayRec c r))).wakeCore (s.assayCore c)).modEsc (fun e => { e with assays := e.assays ++ [(c, r.seq)] }) := rfl

theorem State.assayCore_lt (s : State) (c : Nat) : s.assayCore c < 144 := Nat.mod_lt _ (by decide)

/-- A fetch leaves which core assays the tiles of a core. -/
theorem State.fetch_assayCore (s : State) (c d : Nat) : (s.fetch c).assayCore d = s.assayCore d := by
  unfold State.assayCore
  rw [State.fetch_objGet s c 0x3200 2 (by simp) (by decide)]

/-- An assay opened for a tile of core `c`: the core that assays it has one more record, at its end, every core keeps everything but its records and
its sleep, and the open assays of the device are one more. -/
theorem State.openAssay_opens (s : State) (c : Nat) (r : TileRec) :
    (s.openAssay c r).esc.assays = s.esc.assays ++ [(c, r.seq)] ∧
    (∀ k, ∃ l z, (s.openAssay c r).core k = { s.core k with assays := l, sleep := z }) ∧
    ((s.openAssay c r).core (s.assayCore c)).assays.getLast? = some (s.assayRec c r) := by
  have hd := s.assayCore_lt c
  rw [State.openAssay_eq]
  generalize s.assayRec c r = a
  generalize s.assayCore c = d at hd
  refine ⟨?_, fun k => ?_, ?_⟩
  · exact congrArg (fun e : Esc => e.assays ++ [(c, r.seq)]) (State.wakeCore_esc _ _)
  · obtain ⟨z, hz⟩ := State.wakeCore_core (s.modCore d (Core.enterAssay a)) d k
    obtain ⟨l, hl⟩ := State.core_modCore_rel (R := fun x y => ∃ l, y = { x with assays := l }) (fun _ => ⟨_, rfl⟩) s d (Core.enterAssay a) ⟨_, rfl⟩ k
    exact ⟨l, z, hz.trans (by rw [hl])⟩
  · obtain ⟨z, hz⟩ := State.wakeCore_core (s.modCore d (Core.enterAssay a)) d d
    refine (congrArg (fun x : Core => x.assays.getLast?) hz).trans ?_
    rw [State.core_modCore _ _ _ hd]
    simp [Core.enterAssay]

/-- What a TILE without a fault does to the state that it issues in. -/
def State.issueTile (s : State) (c : Nat) (r : TileRec) : State :=
  let s := s.modCore c (fun x => x.takeTile s.esc.run r)
  let s := if r.compat && r.combine.isSome then { s with free := s.free + r.m * r.n } else s
  if r.assay then s.openAssay c r else s

/-- The records that a TILE reads: those of its views, of the combined tensor and of its epilogue. -/
def Core.tileReads (x : Core) (w : TileFields) : List (Nat × Nat) :=
  [((x.s w.ra.toNat).toNat, 16)] ++ (if w.active then [] else [((x.s w.rb.toNat).toNat, 16)]) ++
    (if w.rx = 0 then [] else [((x.s w.rx.toNat).toNat, 16)]) ++ (if w.epi then [((x.s w.re.toNat).toNat, 128)] else [])

/-- Whether a write in flight covers a record that a TILE reads. -/
def Core.tileBusy (x : Core) (w : TileFields) : Bool := (x.tileReads w).any (fun p => x.conflict p.1 (p.1 + p.2) false)

/-- What a TILE waits for. -/
def Core.tileStall (x : Core) (w : TileFields) (r : TileRec) : Stall :=
  if 4 ≤ x.arrayQ.length then .arrayQueue else if w.epi && decide (4 ≤ x.epiQ.length) then .epilogueQueue
  else if x.rangeStall r.entries || x.tileBusy w then .tracker else .none

theorem exec_tile_issue (s : State) (c : Fin 144) (w : TileFields) : ∃ regs, exec (.tile c w) s =
    .next (s.issue c (tileWord w)
      { addrS := regs, reads := (s.core c).tileReads w, faults := if (s.core c).tileBusy w then [] else codes (tileCodes (s.core c) w (s.tileOf c w))
        stall := (s.core c).tileStall w (s.tileOf c w) }
      (fun t => t.issueTile c { s.tileOf c w with freeBase := t.free })) := ⟨_, rfl⟩

/-- A TILE that has neither a fault nor a reason to wait issues. -/
theorem exec_tile_issues (s : State) (c : Fin 144) (w : TileFields) (h : s.fresh c) (clear : codes (tileCodes (s.core c) w (s.tileOf c w)) = [])
    (room : (s.core c).arrayQ.length < 4) (epiRoom : w.epi = true → (s.core c).epiQ.length < 4) (ranges : (s.core c).rangeStall (s.tileOf c w).entries = false)
    (quiet : (s.core c).tileBusy w = false) :
    exec (.tile c w) s = .next (((s.fetch c).setCore c (s.core c).go).issueTile c { s.tileOf c w with freeBase := (s.fetch c).free }) := by
  obtain ⟨regs, hexec⟩ := exec_tile_issue s c w
  have goes : (s.core c).tileStall w (s.tileOf c w) = .none := by
    have hepi : (w.epi && decide (4 ≤ (s.core c).epiQ.length)) = false := by
      cases he : w.epi with
      | false => rfl
      | true => simpa using epiRoom he
    simp [Core.tileStall, hepi, ranges, quiet, Nat.not_le.mpr room]
  rw [hexec, State.issue_fresh s c _ _ _ h (by simp [clear]) goes]
  rfl

/-- A TILE meets a full array queue. -/
theorem exec_tile_waits (s : State) (c : Fin 144) (w : TileFields) (h : s.fresh c) (clear : codes (tileCodes (s.core c) w (s.tileOf c w)) = [])
    (full : 4 ≤ (s.core c).arrayQ.length) : exec (.tile c w) s = .next ((s.fetch c).setCore c { (s.core c).go with stall := .arrayQueue }) := by
  obtain ⟨regs, hexec⟩ := exec_tile_issue s c w
  have waits : (s.core c).tileStall w (s.tileOf c w) = .arrayQueue := if_pos full
  rw [hexec, waits, State.issue_stall s c _ _ _ h (by simp [clear]) Stall.noConfusion]

/-- A TILE with codes that apply faults with the lowest. -/
theorem exec_tile_faults (s : State) (c : Fin 144) (w : TileFields) (h : s.fresh c) (quiet : (s.core c).tileBusy w = false) (e : Nat)
    (he : (codes (tileCodes (s.core c) w (s.tileOf c w))).min? = some e) : exec (.tile c w) s = .next ((s.fetch c).coreFault c e (tileWord w) 0) := by
  obtain ⟨regs, hexec⟩ := exec_tile_issue s c w
  rw [hexec, State.issue_fault s c _ _ _ e h (by rw [← he]; simp [quiet])]

/-- The lowest of some codes is at most any of them. -/
theorem min?_le_of_mem (l : List Nat) (a : Nat) (h : a ∈ l) : ∃ e, e ≤ a ∧ l.min? = some e := by
  cases he : l.min? with
  | none => simp [List.min?_eq_none_iff.mp he] at h
  | some e => exact ⟨e, (List.min?_eq_some_iff.mp he).2 a h, rfl⟩

/-- A tile with a dimension or an index bound out of range, or with banks past acc7, has code 0x04 or 0x05. -/
theorem tileCodes_bounds (x : Core) (w : TileFields) (r : TileRec)
    (out : r.k = 0 ∨ 2 ^ 32 - 1 < r.k ∨ (if w.mode then 262144 else 131072) < r.m * r.n ∨ ((w.kind = 1 ∨ w.kind = 2) ∧ 2097152 < r.k + r.idxBase) ∨ 8 < r.b0 + r.banks) :
    ∃ a ∈ codes (tileCodes x w r), a ≤ 0x05 := by
  have code (a : Nat) (b : Bool) (hb : b = true) (hmem : (b, a) ∈ tileCodes x w r) : a ∈ codes (tileCodes x w r) := by
    unfold codes
    exact List.mem_map.mpr ⟨_, List.mem_filter.mpr ⟨hmem, hb⟩, rfl⟩
  by_cases hbanks : 8 < r.b0 + r.banks
  · refine ⟨0x05, code 0x05 (decide (8 < r.b0 + r.banks)) (decide_eq_true hbanks) ?_, by decide⟩
    unfold tileCodes
    simp
  · have size : (r.k == 0 || decide (2 ^ 32 - 1 < r.k) || decide ((if w.mode then 262144 else 131072) < r.m * r.n)
        || ((w.kind == 1 || w.kind == 2) && decide (2097152 < r.k + r.idxBase))) = true := by
      simpa [hbanks, or_assoc] using out
    refine ⟨0x04, code 0x04 _ size ?_, by decide⟩
    unfold tileCodes
    simp

/-- The state with tile `r` in its core's queue, and the free values that a COMPAT tile takes. -/
def State.pushTile (s : State) (c : Nat) (r : TileRec) : State :=
  { s.modCore c (fun x => x.takeTile s.esc.run r) with free := if r.compat && r.combine.isSome then s.free + r.m * r.n else s.free }

theorem State.issueTile_eq (s : State) (c : Nat) (r : TileRec) : s.issueTile c r = if r.assay then (s.pushTile c r).openAssay c r else s.pushTile c r := by
  have push : (if r.compat && r.combine.isSome then { s.modCore c (fun x => x.takeTile s.esc.run r) with free := s.free + r.m * r.n }
      else s.modCore c (fun x => x.takeTile s.esc.run r)) = s.pushTile c r := by
    unfold State.pushTile
    split <;> rfl
  rw [← push]
  rfl

theorem State.core_pushTile (s : State) (c : Fin 144) (r : TileRec) : (s.pushTile c r).core c = (s.core c).takeTile s.esc.run r :=
  s.core_modCore c (fun x => x.takeTile s.esc.run r) c.isLt

theorem State.core_pushTile_ne (s : State) (c k : Nat) (r : TileRec) (hk : k ≠ c) : (s.pushTile c r).core k = s.core k :=
  s.core_modCore_ne c k (fun x => x.takeTile s.esc.run r) hk

theorem State.pushTile_esc (s : State) (c : Nat) (r : TileRec) : (s.pushTile c r).esc = s.esc := rfl
theorem State.pushTile_assayCore (s : State) (c d : Nat) (r : TileRec) : (s.pushTile c r).assayCore d = s.assayCore d := rfl

/-- A tile that issues leaves its core as one that took it, the other cores as they are unless it is to be assayed, and the assay of one that is. -/
theorem State.issueTile_took (s : State) (c : Fin 144) (r : TileRec) :
    (s.core c).TookTile r ((s.issueTile c r).core c) ∧
    (r.assay = false → ∀ k, k ≠ c.val → (s.issueTile c r).core k = s.core k) ∧
    (r.assay = true → (s.issueTile c r).esc.assays = s.esc.assays ++ [(c.val, r.seq)] ∧
      ∃ a, ((s.issueTile c r).core (s.assayCore c)).assays.getLast? = some a ∧ a.tile = r ∧ a.origin = c.val ∧ a.started = false) := by
  have took := (s.core c).takeTile_tookTile s.esc.run r
  rw [← s.core_pushTile c r] at took
  rw [s.issueTile_eq c r]
  cases hassay : r.assay with
  | false => exact ⟨took, fun _ k hk => s.core_pushTile_ne c k r hk, fun h => absurd h (by decide)⟩
  | true =>
    obtain ⟨opened, cores, entered⟩ := (s.pushTile c r).openAssay_opens c r
    rw [State.pushTile_esc] at opened
    rw [State.pushTile_assayCore] at entered
    obtain ⟨l, z, hcore⟩ := cores c
    rw [if_pos rfl]
    refine ⟨?_, fun h => absurd h (by decide), fun _ => ⟨opened, _, entered, rfl, rfl, rfl⟩⟩
    rw [hcore]
    exact took

/-- Settles O14: a TILE's effect at issue is one update of its core and, when it is assayed, a record at its assay core; an assay touches only the
assay records and the sleep of a core. -/
theorem tileIssue : Obligations.TileIssue := by
  unfold Obligations.TileIssue
  intro s c w h
  refine ⟨fun clear room epiRoom ranges quiet => ?_, fun quiet out => ?_, fun clear full => exec_tile_waits s c w h clear full⟩
  · have hepi : (s.tileOf c w).epi.isSome = w.epi := by
      unfold State.tileOf
      dsimp only
      cases w.epi <;> rfl
    refine ⟨_, exec_tile_issues s c w h clear room epiRoom ranges quiet, ?_⟩
    obtain ⟨took, others, assayed⟩ := State.issueTile_took ((s.fetch c).setCore c (s.core c).go) c { s.tileOf c w with freeBase := (s.fetch c).free }
    rw [State.core_setCore _ _ _ c.isLt] at took
    obtain ⟨hq, hseq, hranges, hmark, hpc, hepiQ, hunclaimed, hbanks, hacc, hlmem, hs, hv, hp, hcurrent⟩ := took
    rw [show ({ s.tileOf c w with freeBase := (s.fetch c).free } : TileRec).epi.isSome = w.epi from hepi] at hepiQ hunclaimed
    refine ⟨hq, hseq, hranges, hmark, hpc, hepiQ, hunclaimed, hbanks, hacc, hlmem, hs, hv, hp, hcurrent, fun ha k hk => ?_, fun ha => ?_⟩
    · rw [others ha k hk, State.core_setCore_ne _ _ _ _ hk, State.fetch_core]
    · have := assayed ha
      rw [show ((s.fetch c).setCore c (s.core c).go).assayCore c = s.assayCore c from s.fetch_assayCore c c] at this
      exact this
  · obtain ⟨a, ha, hle⟩ := tileCodes_bounds (s.core c) w (s.tileOf c w) out
    obtain ⟨e, he, hmin⟩ := min?_le_of_mem _ a ha
    exact ⟨e, he.trans hle, exec_tile_faults s c w h quiet e hmin⟩

end Sys2Proof.Machine
end

section
/-! SUPPORT. A read through the Tun leaves what every reader sees (06 R199): where no error waits, it moves lines and merges combining entries, and the bytes
of every line stay. -/

namespace Sys2Proof.Machine

/-- What readers can see of a stack: the bytes that nothing has written, whether a window reaches it, and the pins in error. -/
def Stack.readView (x : Stack) : Nat × Bool × List (Nat × Nat) × List (Nat × Nat) :=
  (x.fill, x.state == .test || x.state == .failed, x.eccCovered, x.rewriting)

/-- What readers can see of the memories: everything but where the Tun holds copies, which slices and stacks sleep, and what is queued for retraining. -/
structure ReadView where
  outside : State
  cells : Mem
  comb : Vector (List CombEntry) 4
  poison : List Nat
  tunMode : Vector Nat 128
  tunSwitch : Vector (List (Nat × Nat)) 4
  errors : List (Nat × StoreError)
  hidden : List Nat
  hbm : Vector (Nat × Bool × List (Nat × Nat) × List (Nat × Nat)) 12

def State.readView (s : State) : ReadView :=
  { outside := s.outsideMem, cells := s.mem.cells, comb := s.mem.comb, poison := s.mem.poison, tunMode := s.mem.tunMode, tunSwitch := s.mem.tunSwitch
    errors := s.mem.errors, hidden := s.mem.hidden, hbm := s.mem.hbm.map Stack.readView }

/-! ## What a view fixes -/

theorem State.readView_stack (s : State) (k : Nat) : (s.stack k).readView = vget s.readView.hbm k Stack.reset.readView := by
  show (s.mem.hbm.toList.getD k Stack.reset).readView = (s.mem.hbm.map Stack.readView).toList.getD k Stack.reset.readView
  rw [Vector.toList_map, List.getD_map]

theorem State.stack_congr {s t : State} (h : t.readView = s.readView) (k : Nat) : (t.stack k).readView = (s.stack k).readView := by
  rw [State.readView_stack, State.readView_stack, h]

theorem State.errorFree_congr {s t : State} (h : t.readView = s.readView) (free : s.errorFree) : t.errorFree := by
  obtain ⟨errors, hidden, pins⟩ := free
  refine ⟨(congrArg ReadView.errors h).trans errors, (congrArg ReadView.hidden h).trans hidden, fun k hk => ?_⟩
  have hpins := pins k hk
  have hstack := State.stack_congr h k
  exact ⟨(congrArg (fun v => v.2.2.1) hstack).trans hpins.1, (congrArg (fun v => v.2.2.2) hstack).trans hpins.2⟩

theorem State.mapped_congr {s t : State} (outside : t.outsideMem = s.outsideMem) (mode : t.mem.tunMode = s.mem.tunMode) (switch : t.mem.tunSwitch = s.mem.tunSwitch) :
    t.mapped = s.mapped := by
  funext a
  unfold State.mapped State.tailBytes State.scratchLeaves
  rw [State.objGet_of_outsideMem _ _ outside 0x4000 0 (by simp) (by decide), State.objGet_of_outsideMem _ _ outside 0x4000 1 (by simp) (by decide),
    State.objGet_of_outsideMem _ _ outside 0x3202 0 (by simp) (by decide), State.objGet_of_outsideMem _ _ outside 0x6010 0 (by simp) (by decide), mode, switch]

theorem State.mapped_view {s t : State} (h : t.readView = s.readView) : t.mapped = s.mapped :=
  State.mapped_congr (congrArg ReadView.outside h) (congrArg ReadView.tunMode h) (congrArg ReadView.tunSwitch h)

theorem State.home_congr {s t : State} (mapped : t.mapped = s.mapped) (hstack : ∀ k, (t.stack k).readView = (s.stack k).readView) : t.home = s.home := by
  have out : t.stackOut = s.stackOut := funext fun k => congrArg (fun v => v.2.1) (hstack k)
  funext a
  unfold State.home State.anyStackOut
  rw [mapped, out]

theorem State.unlisted_congr {s t : State} (mapped : t.mapped = s.mapped) (hbm : t.mem.hbm.map Stack.readView = s.mem.hbm.map Stack.readView)
    (hstack : ∀ k, (t.stack k).readView = (s.stack k).readView) : t.unlisted = s.unlisted := by
  have fill (k : Nat) : (t.stack k).fill = (s.stack k).fill := congrArg (fun v => v.1) (hstack k)
  have fills (u : State) : u.mem.hbm.toList.all (fun k => k.fill == 0) = (u.mem.hbm.map Stack.readView).toList.all (fun v => v.1 == 0) := by
    simp [Function.comp_def, Stack.readView]
  funext a
  unfold State.unlisted
  rw [fills, fills, hbm, mapped]
  simp only [fill]

/-- States with one view read alike. -/
theorem State.line_congr {s t : State} (h : t.readView = s.readView) : t.line = s.line := by
  have mapped := State.mapped_view h
  have cells : t.mem.cells = s.mem.cells := congrArg ReadView.cells h
  have poison : t.mem.poison = s.mem.poison := congrArg ReadView.poison h
  have comb : t.mem.comb = s.mem.comb := congrArg ReadView.comb h
  have cores : t.cores = s.cores := congrArg (fun v => v.outside.cores) h
  funext ln
  unfold State.line State.combEntry State.core
  rw [State.home_congr mapped (State.stack_congr h), State.unlisted_congr mapped (congrArg ReadView.hbm h) (State.stack_congr h), cells, poison, comb, cores]

/-! ## What keeps the view -/

theorem State.bump_readView (s : State) (o m n : Nat) (ho : o ∈ readStatistics) (hm : m < 256) : (s.bump o m n).readView = s.readView :=
  congrArg (fun u => { s.readView with outside := u }) (s.bump_outsideMem o m n ho hm)

theorem State.setStack_readView (s : State) (k : Nat) (x : Stack) (hx : x.readView = (s.stack k).readView) : (s.setStack k x).readView = s.readView := by
  have hbm : (vset s.mem.hbm k x).map Stack.readView = s.mem.hbm.map Stack.readView := by
    unfold vset
    split
    · next hk =>
      rw [Vector.map_set, hx, State.stack, vget_eq_getElem _ _ _ hk]
      exact Vector.ext fun i hi => by rw [Vector.getElem_set]; split <;> simp_all
    · rfl
  exact congrArg (fun v => { s.readView with hbm := v }) hbm

theorem State.each_readView {α : Type} (s : State) (l : List α) (f : State → α → State) (hf : ∀ (s : State) (a : α), (f s a).readView = s.readView) :
    (s.each l f).readView = s.readView :=
  State.each_invariant (P := fun t => t.readView = s.readView) s l f rfl fun t ht a _ => (hf t a).trans ht

theorem State.wakeSlices_readView (s : State) (ln : Nat) : (s.wakeSlices ln).readView = s.readView := by
  unfold State.wakeSlices
  split <;> rfl

theorem State.countCache_readView (s : State) (q : Nat) (hit : Bool) : (s.countCache q hit).readView = s.readView := by
  unfold State.countCache
  split
  · rfl
  · cases hit <;> exact s.bump_readView _ _ _ (by simp) (by decide)

theorem State.queueRetrain_readView (s : State) (k ch : Nat) : (s.queueRetrain k ch).readView = s.readView :=
  s.setStack_readView k _ (by dsimp only; split <;> rfl)

theorem State.openWindow_readView (s : State) (k : Nat) : (s.openWindow k).readView = s.readView := by
  unfold State.openWindow
  dsimp only
  split
  · next active => exact s.setStack_readView k _ (by rw [Stack.readView, Stack.readView, active]; rfl)
  · rfl

theorem State.wakeStack_readView (s : State) (k : Nat) : (s.wakeStack k).readView = s.readView := by
  unfold State.wakeStack
  split
  · next asleep =>
    have woken : ((s.modStack k (fun x => { x with state := .active })).modMem (fun m => { m with fillNext := s.mem.fillNext + 1 })).readView = s.readView :=
      s.setStack_readView k _ (by rw [Stack.readView, Stack.readView, asleep]; rfl)
    dsimp only
    split
    · rw [State.openWindow_readView]
      exact (State.each_readView _ _ _ fun s c => s.queueRetrain_readView k c).trans woken
    · exact woken
  · rfl

/-! ## Reads where no error waits -/

section ErrorFree
variable {s : State} (free : s.errorFree)
include free

theorem State.meetTun_free (ln : Nat) : s.meetTun ln = s := by simp [State.meetTun, free.1]

theorem State.clearErrors_free (ln : Nat) : s.clearErrors ln = s := by simp [State.clearErrors, free.1, free.2.1]

theorem State.unhide_free (ln : Nat) : s.unhide ln = s := by simp [State.unhide, free.2.1]

/-- A stack out of range is as at reset. -/
theorem State.stack_pins_free (k : Nat) : (s.stack k).eccCovered = [] ∧ (s.stack k).rewriting = [] := by
  by_cases hk : k < 12
  · exact free.2.2 k hk
  · simp [State.stack, vget, hk, Stack.reset]

theorem State.reachHbm_readView (k ln : Nat) : (s.reachHbm k ln).readView = s.readView := by
  have woken := s.wakeStack_readView k
  obtain ⟨errors, -, -⟩ := State.errorFree_congr woken free
  obtain ⟨ecc, rewriting⟩ := State.stack_pins_free (State.errorFree_congr woken free) k
  unfold State.reachHbm
  split
  · rfl
  · rw [State.unhide_free free]
    unfold State.readSectors
    simp [errors, ecc, rewriting, woken]

theorem State.evict_readView (q ln : Nat) : (s.evict q ln).readView = s.readView := by
  have written : (s.writeBackLine ln).readView = s.readView := by
    unfold State.writeBackLine
    split
    · rw [State.meetTun_free free, State.clearErrors_free (State.errorFree_congr (s.wakeStack_readView _) free), s.wakeStack_readView]
    · rfl
  have dirty (b : Bool) : (if b then s.writeBackLine ln else s).readView = s.readView := by cases b <;> [rfl; exact written]
  unfold State.evict
  dsimp only
  rw [State.unhide_free]
  · exact dirty _
  · exact State.errorFree_congr (dirty _) free

theorem State.allocate_readView (q ln : Nat) (d keep : Bool) : (s.allocate q ln d keep).readView = s.readView :=
  State.each_invariant (P := fun t => t.readView = s.readView) s _ _ rfl fun _ ht a _ => (State.evict_readView (State.errorFree_congr ht free) q a).trans ht

theorem State.cacheLine_readView (q ln : Nat) (d : Bool) (cls : Nat) : (s.cacheLine q ln d cls).readView = s.readView := by
  unfold State.cacheLine
  split
  · rfl
  · split
    · exact State.allocate_readView free ..
    · rfl

end ErrorFree

/-! ## A combining entry that a read merges -/

theorem length_lineBytes (l : Line) : (lineBytes l).length = 64 := length_leBytes _ _

theorem lineOf_lineBytes (l : Line) : lineOf (lineBytes l) = l := by
  unfold lineOf lineBytes
  rw [leNat_leBytes, Nat.mod_eq_of_lt (l.isLt.trans_eq (by rw [show 256 = 2 ^ 8 from rfl, ← pow_mul])), BitVec.ofNat_toNat, BitVec.setWidth_eq]

theorem lineOf_mgetN_msetN (u : Nat → Byte) (m : Mem) (a : Nat) (l : Line) : lineOf (mgetN u (msetN u m a (lineBytes l)) a 64) = l := by
  have := mgetN_msetN u m a (lineBytes l)
  rw [length_lineBytes] at this
  rw [this, lineOf_lineBytes]

/-- A write of bytes leaves every byte outside them, whatever an unlisted byte reads as. -/
theorem mget_msetN_apart (u v : Nat → Byte) (m : Mem) (a x : Nat) (l : List Byte) (hx : x < a ∨ a + l.length ≤ x) : mget v (msetN u m a l) x = mget v m x := by
  induction l generalizing m a with
  | nil => rfl
  | cons b r ih =>
    simp only [List.length_cons] at hx
    unfold msetN
    rw [ih _ _ (by omega)]
    exact tget_tset_ne _ _ _ _ _ _ (by omega)

theorem mgetN_msetN_line_ne (u v : Nat → Byte) (m : Mem) (i j : Nat) (l : Line) (h : j ≠ i) :
    mgetN v (msetN u m (64 * i) (lineBytes l)) (64 * j) 64 = mgetN v m (64 * j) 64 :=
  mgetN_congr v _ m _ _ fun k hk => mget_msetN_apart _ _ _ _ _ _ (by rw [length_lineBytes]; omega)

theorem vmod_eq_vset {α : Type} {n : Nat} (v : Vector α n) (i : Nat) (f : α → α) (d : α) : vmod v i f = vset v i (f (vget v i d)) := by
  unfold vmod vset
  split
  · next h => rw [vget_eq_getElem _ _ _ h]
  · rfl

theorem vget_vmod {α : Type} {n : Nat} (v : Vector α n) (i j : Nat) (f : α → α) (d : α) (hd : f d = d) :
    vget (vmod v i f) j d = if j = i then f (vget v j d) else vget v j d := by
  rw [vmod_eq_vset v i f d]
  split
  · next hj =>
    subst hj
    by_cases h : j < n
    · rw [vget_vset_same _ _ _ _ h]
    · rw [vset_out _ _ _ (by omega)]
      simp [vget, h, hd]
  · next hj => rw [vget_vset_ne _ _ _ _ _ hj]

theorem State.dropEntry_mem (s : State) (q ln : Nat) : ∃ comb, (s.dropEntry q ln).mem = { s.mem with comb := comb } ∧
    ∀ p l, (vget comb p []).find? (fun e => e.line == l) = if p = q ∧ l = ln then none else s.combEntry p l := by
  unfold State.dropEntry
  split
  · refine ⟨_, rfl, fun p l => ?_⟩
    rw [vget_vmod _ _ _ _ _ rfl]
    unfold State.combEntry
    by_cases hp : p = q
    · rw [if_pos hp, List.find?_filter]
      by_cases hl : l = ln
      · rw [if_pos ⟨hp, hl⟩, hl]
        exact List.find?_eq_none.mpr (by simp)
      · rw [if_neg (by simp [hl])]
        congr 1
        funext e
        by_cases he : e.line = l <;> simp [he, hl]
    · rw [if_neg hp, if_neg (by simp [hp])]
  · next absent =>
    refine ⟨_, rfl, fun p l => ?_⟩
    split
    · next hit => rw [hit.1, hit.2]; exact Option.not_isSome_iff_eq_none.mp absent
    · rfl

/-- The state once an entry of a line is merged into HBM's copy. -/
def State.mergeEntry (s : State) (q ln : Nat) (e : CombEntry) : State := (s.dropEntry q ln).putHbm ln e.data e.mask e.poison

theorem State.mergeEntry_outsideMem (s : State) (q ln : Nat) (e : CombEntry) : (s.mergeEntry q ln e).outsideMem = s.outsideMem := by simp [State.mergeEntry]

/-- A merge writes the merged bytes to HBM's copy, frees the entry, and changes no other entry, no error, no stack and no slice. -/
theorem State.mergeEntry_mem (s : State) (q ln : Nat) (e : CombEntry) : ∃ comb poison, (s.mergeEntry q ln e).mem =
      { s.mem with
        cells := msetN s.unlisted s.mem.cells (64 * ln) (lineBytes (mergeLine (lineOf (mgetN s.unlisted s.mem.cells (64 * ln) 64)) e.data e.mask))
        comb := comb, poison := poison } ∧
    ∀ p l, (vget comb p []).find? (fun e => e.line == l) = if p = q ∧ l = ln then none else s.combEntry p l := by
  obtain ⟨comb, hmem, hcomb⟩ := s.dropEntry_mem q ln
  have unlisted : (s.dropEntry q ln).unlisted = s.unlisted := by
    refine State.unlisted_congr (State.mapped_congr (by simp) ?_ ?_) ?_ fun k => ?_
    · rw [hmem]
    · rw [hmem]
    · rw [hmem]
    · unfold State.stack; rw [hmem]
  refine ⟨comb, sput s.mem.poison ln (e.poison || (e.mask != fullMask && s.mem.poison.contains ln)), ?_, hcomb⟩
  unfold State.mergeEntry State.putHbm
  dsimp only
  rw [unlisted, hmem]

/-- Every line reads as before a merge of an entry of its home's Tun. -/
theorem State.mergeEntry_reads (s : State) (k ln : Nat) (e : CombEntry) (hhome : s.home (64 * ln) = some (.hbm k)) (he : s.combEntry (k / 3) ln = some e) :
    (s.errorFree → (s.mergeEntry (k / 3) ln e).errorFree) ∧ ∀ l, ((s.mergeEntry (k / 3) ln e).line l).1 = (s.line l).1 := by
  obtain ⟨comb, poison, hmem, hcomb⟩ := s.mergeEntry_mem (k / 3) ln e
  have outside := s.mergeEntry_outsideMem (k / 3) ln e
  generalize s.mergeEntry (k / 3) ln e = t at hmem outside
  have stack (j : Nat) : t.stack j = s.stack j := by unfold State.stack; rw [hmem]
  have mapped : t.mapped = s.mapped := State.mapped_congr outside (by rw [hmem]) (by rw [hmem])
  have home : t.home = s.home := State.home_congr mapped fun j => by rw [stack]
  have unlisted : t.unlisted = s.unlisted := State.unlisted_congr mapped (by rw [hmem]) fun j => by rw [stack]
  have cores : t.cores = s.cores := congrArg (fun u => u.cores) outside
  have entries (p l : Nat) : t.combEntry p l = if p = k / 3 ∧ l = ln then none else s.combEntry p l := by
    unfold State.combEntry
    rw [hmem]
    exact hcomb p l
  refine ⟨fun free => ?_, fun l => ?_⟩
  · obtain ⟨errors, hidden, pins⟩ := free
    exact ⟨by rw [hmem]; exact errors, by rw [hmem]; exact hidden, fun j hj => by rw [stack]; exact pins j hj⟩
  · unfold State.line State.core
    rw [home, unlisted, cores]
    by_cases hl : l = ln
    · subst hl
      simp only [hhome, entries, he, hmem]
      simp [lineOf_mgetN_msetN]
    · have raw (u : Nat → Byte) : mgetN u t.mem.cells (64 * l) 64 = mgetN u s.mem.cells (64 * l) 64 := by
        rw [hmem]
        exact mgetN_msetN_line_ne _ _ _ _ _ _ hl
      simp only [entries, hl, and_false, if_false, raw]
      split
      · rfl
      · rfl
      · rfl
      · split <;> rfl

/-- A read through the Tun, where no error waits, leaves no error waiting and the bytes of every line. -/
theorem State.touchRead_reads (s : State) (ln cls : Nat) (free : s.errorFree) :
    (s.touchRead ln cls).errorFree ∧ ∀ l, ((s.touchRead ln cls).line l).1 = (s.line l).1 := by
  have view {t : State} (h : t.readView = s.readView) : t.errorFree ∧ ∀ l, (t.line l).1 = (s.line l).1 :=
    ⟨State.errorFree_congr h free, fun l => by rw [State.line_congr h]⟩
  have woken : ((s.wakeSlices ln).meetTun ln).readView = s.readView := by
    rw [State.meetTun_free (State.errorFree_congr (s.wakeSlices_readView ln) free), State.wakeSlices_readView]
  unfold State.touchRead
  split
  · next k hk =>
    dsimp only
    generalize (s.wakeSlices ln).meetTun ln = w at woken
    have wfree := State.errorFree_congr woken free
    have reached := State.reachHbm_readView wfree k ln
    split
    · next e he =>
      have rview := reached.trans woken
      have home : (w.reachHbm k ln).home (64 * ln) = some (.hbm k) := by
        rw [State.home_congr (State.mapped_view rview) (State.stack_congr rview)]
        exact hk
      have entry : (w.reachHbm k ln).combEntry (k / 3) ln = some e := by
        unfold State.combEntry
        rw [show (w.reachHbm k ln).mem.comb = w.mem.comb from congrArg ReadView.comb reached]
        exact he
      obtain ⟨mfree, mlines⟩ := State.mergeEntry_reads _ k ln e home entry
      have mfree := mfree (State.errorFree_congr rview free)
      have counted := State.countCache_readView ((w.reachHbm k ln).mergeEntry (k / 3) ln e) (k / 3) false
      have after := (State.cacheLine_readView (State.errorFree_congr counted mfree) (k / 3) ln true cls).trans counted
      refine ⟨State.errorFree_congr after mfree, fun l => ?_⟩
      refine (congrArg Prod.fst (congrFun (State.line_congr after) l)).trans ((mlines l).trans ?_)
      rw [State.line_congr rview]
    · split
      · exact view ((State.countCache_readView _ _ _).trans ((State.cacheLine_readView wfree _ _ _ _).trans woken))
      · have missed : ((w.reachHbm k ln).countCache (k / 3) false).readView = s.readView := (State.countCache_readView _ _ _).trans (reached.trans woken)
        split
        · exact view missed
        · exact view ((State.cacheLine_readView (State.errorFree_congr missed free) _ _ _ _).trans missed)
  · exact view woken
  · exact ⟨free, fun _ => rfl⟩

end Sys2Proof.Machine
end


section
/-! SUPPORT. The lines that a GLD gives to a vector register (04 R147). -/

namespace Sys2Proof.Machine

/-- One line of a GLD: the active lanes of segment `g` take it. -/
def Core.takeSeg (rd : Nat) (p : BitVec 512) (x : Core) (l : Line × Bool) (g : Nat) : Core :=
  let here := p &&& BitVec.ofNat 512 (0xFFFF * 2 ^ (16 * g))
  x.putV rd here (blend 32 (fun i => here.getLsbD i) (x.v rd) (lanes 32 (BitVec.ofNat 16384 (l.1.toNat * 2 ^ (512 * g))))) (if l.2 then BitVec.twoPow 32 g else 0)

theorem Core.takeSegs_range (x : Core) (rd : Nat) (p : BitVec 512) (f : Nat → Line × Bool) (n : Nat) :
    x.takeSegs rd p 0 ((List.range n).map f) = (List.range n).foldl (fun y g => y.takeSeg rd p (f g) g) x := by
  have steps : ((List.range n).map f).zipIdx = (List.range n).map (fun g => (f g, g)) :=
    List.ext_getElem (by simp) fun i _ _ => by simp
  unfold Core.takeSegs
  rw [steps, List.foldl_map]
  simp only [Nat.zero_add]
  rfl

/-- The lanes of segment `g`. -/
theorem segment_mask (g i : Nat) (hi : i < 512) : (BitVec.ofNat 512 (0xFFFF * 2 ^ (16 * g))).getLsbD i = decide (i / 16 = g) := by
  rw [BitVec.getLsbD_ofNat, Nat.testBit_mul_two_pow, show 0xFFFF = 2 ^ 16 - 1 from rfl, Nat.testBit_two_pow_sub_one]
  simp only [hi, decide_true, Bool.true_and, ← Bool.decide_and]
  exact decide_eq_decide.mpr (by omega)

theorem lane_blend (act : Nat → Bool) (old v : BitVec 16384) (i : Nat) (hi : i < 512) :
    lane 32 (blend 32 act old (lanes 32 v)) i = if act i then lane 32 v i else lane 32 old i := by
  have len : (lanes 32 v).length = 512 := by simp [lanes]
  unfold blend
  rw [lane_vecOf _ _ _ (by simp [len]), List.getD_eq_getElem _ _ (by simpa [len] using hi)]
  have lt (u : BitVec 16384) : lane 32 u i % 2 ^ 32 = lane 32 u i := Nat.mod_eq_of_lt (lane_lt _ _ _)
  simp only [List.getElem_map, List.getElem_zipIdx, Nat.zero_add]
  rw [show (lanes 32 v)[i]'(len.symm ▸ hi) = lane 32 v i by simp [lanes]]
  split
  · exact lt v
  · exact lt old

/-- Lane `i` of a line placed at segment `i / 16`. -/
theorem lane_placed (l : Line) (i : Nat) (hi : i < 512) :
    lane 32 (BitVec.ofNat 16384 (l.toNat * 2 ^ (512 * (i / 16)))) i = l.toNat / 2 ^ (32 * (i % 16)) % 2 ^ 32 := by
  have fits : l.toNat * 2 ^ (512 * (i / 16)) < 2 ^ 16384 :=
    calc l.toNat * 2 ^ (512 * (i / 16)) < 2 ^ 512 * 2 ^ (512 * (i / 16)) := Nat.mul_lt_mul_of_pos_right l.isLt (Nat.two_pow_pos _)
      _ = 2 ^ (512 + 512 * (i / 16)) := (pow_add ..).symm
      _ ≤ 2 ^ 16384 := Nat.pow_le_pow_right (by decide) (by omega)
  unfold lane
  rw [BitVec.toNat_ofNat, Nat.mod_eq_of_lt fits, show 32 * i = 512 * (i / 16) + 32 * (i % 16) by omega, pow_add, ← Nat.div_div_eq_div_mul,
    Nat.mul_div_cancel _ (Nat.two_pow_pos _)]

/-- Core `y` is core `x` once the active lanes of its first `n` segments have taken their lines. -/
def Core.TookLines (n rd : Nat) (p : BitVec 512) (f : Nat → Line × Bool) (x y : Core) : Prop :=
  (∃ v z, y = { x with vreg := v, vPoison := z }) ∧ (∀ r, r ≠ rd → y.v r = x.v r) ∧
  ∀ i, i < 512 → lane 32 (y.v rd) i = if i / 16 < n ∧ p.getLsbD i = true then (f (i / 16)).1.toNat / 2 ^ (32 * (i % 16)) % 2 ^ 32 else lane 32 (x.v rd) i

theorem Core.takeSegs_tookLines (x : Core) (rd : Nat) (p : BitVec 512) (f : Nat → Line × Bool) (hd : rd < 32) (n : Nat) :
    Core.TookLines n rd p f x (x.takeSegs rd p 0 ((List.range n).map f)) := by
  rw [Core.takeSegs_range]
  induction n with
  | zero => exact ⟨⟨_, _, rfl⟩, fun _ _ => rfl, fun i _ => by simp⟩
  | succ n ih =>
    obtain ⟨⟨v, z, rest⟩, others, lanes⟩ := ih
    rw [List.range_succ, List.foldl_append, List.foldl_cons, List.foldl_nil]
    generalize (List.range n).foldl (fun y g => y.takeSeg rd p (f g) g) x = y at rest others lanes ⊢
    refine ⟨?_, fun r hr => ?_, fun i hi => ?_⟩
    · subst rest
      exact ⟨_, _, rfl⟩
    · exact (Core.v_setV_ne _ _ _ _ _ hr).trans (others r hr)
    · unfold Core.takeSeg Core.putV
      dsimp only
      rw [Core.v_setV _ _ _ _ hd, lane_blend _ _ _ _ hi, BitVec.getLsbD_and, segment_mask n i hi, lanes i hi]
      by_cases hp : p.getLsbD i = true
      · by_cases hn : i / 16 = n
        · subst hn
          rw [lane_placed _ _ hi]
          simp [hp]
        · simp [hp, hn, show i / 16 < n + 1 ↔ i / 16 < n by omega]
      · simp [hp]

end Sys2Proof.Machine
end


section
/-! SUPPORT. A request that a unit issues (08 R297, R298) leaves everything but the fabric, the statistics, the messages and the outbound digest, and stays
among the requests of its unit. -/

namespace Sys2Proof.Machine

/-- What the issue of a request cannot reach. -/
def State.outsideFabric (s : State) : State :=
  { s with fabric := State.reset.fabric, obj := [], out := [], esc := { s.esc with outSeq := 0, od := 0 } }

@[simp] theorem State.modFabric_outsideFabric (s : State) (f : Fabric → Fabric) : (s.modFabric f).outsideFabric = s.outsideFabric := rfl
@[simp] theorem State.bump_outsideFabric (s : State) (o m n : Nat) : (s.bump o m n).outsideFabric = s.outsideFabric := rfl
@[simp] theorem State.emit_outsideFabric (s : State) (x : Output) : (s.emit x).outsideFabric = s.outsideFabric := rfl
@[simp] theorem State.modPort_outsideFabric (s : State) (p : Nat) (f : Port → Port) : (s.modPort p f).outsideFabric = s.outsideFabric := rfl
@[simp] theorem State.setTokens_outsideFabric (s : State) (d : BitVec 17) (n : Nat) : (s.setTokens d n).outsideFabric = s.outsideFabric := rfl
@[simp] theorem State.throttleUpdate_outsideFabric (s : State) (p : Nat) : (s.throttleUpdate p).outsideFabric = s.outsideFabric := rfl

@[simp] theorem State.modEsc_outsideFabric (s : State) (n : Esc → BitVec 32) (o : Esc → Word) :
    (s.modEsc (fun e => { e with outSeq := n e, od := o e })).outsideFabric = s.outsideFabric := rfl

theorem State.each_outsideFabric {α : Type} (s : State) (l : List α) (f : State → α → State) (hf : ∀ (s : State) (a : α), (f s a).outsideFabric = s.outsideFabric) :
    (s.each l f).outsideFabric = s.outsideFabric :=
  State.each_invariant (P := fun t => t.outsideFabric = s.outsideFabric) s l f rfl fun t ht a _ => (hf t a).trans ht

@[simp] theorem State.inject_outsideFabric (s : State) (p : Packet) : (s.inject p).outsideFabric = s.outsideFabric := by
  unfold State.inject
  dsimp only
  split
  · rfl
  · split <;> rfl
  · split <;> rfl

@[simp] theorem State.noteAdded_outsideFabric (s : State) (r : Request) (p : Packet) : (s.noteAdded r p).outsideFabric = s.outsideFabric := by
  unfold State.noteAdded
  split <;> rfl

/-- The state once a request is recorded and counted, before its packet goes; where a step gates it, the run's count and digest are `n` and `o`. -/
def State.sendRecorded (s : State) (r : Request) (g : Bool) (n : Esc → BitVec 32) (o : Esc → Word) : State :=
  let t := (s.setTokens r.dst (s.tokensOut r.dst + r.tokens)).modFabric (fun f =>
    { f with requests := f.requests ++ [{ r with tag := s.freeTag, pos := s.esc.outSeq.toNat }], nextTag := s.freeTag + 1 })
  let t := (t.bump 0x5060 0 r.tokens).bump 0x5060 2 1
  if g then t.modEsc (fun e => { e with outSeq := n e, od := o e }) else t

theorem State.sends_or_stays (t : State) (a b c : Prop) [Decidable a] [Decidable b] [Decidable c] (x : Output) (q : Packet) :
    let u := if a then if b then t else t.emit x else if c then t else t.inject q
    u = t ∨ (∃ x, u = t.emit x) ∨ ∃ q, u = t.inject q := by
  dsimp only
  by_cases ha : a
  · rw [if_pos ha]
    split
    · exact .inl rfl
    · exact .inr (.inl ⟨_, rfl⟩)
  · rw [if_neg ha]
    split
    · exact .inl rfl
    · exact .inr (.inr ⟨_, rfl⟩)

/-- A request that is sent is recorded and counted, and then stays in the device, or is answered there, or is injected. -/
theorem State.sendNow_cases (s : State) (r : Request) (p : Packet) : ∃ g n o, s.sendNow r p = s.sendRecorded r g n o ∨
    (∃ x, s.sendNow r p = (s.sendRecorded r g n o).emit x) ∨ ∃ q, s.sendNow r p = (s.sendRecorded r g n o).inject q :=
  ⟨_, _, _, State.sends_or_stays (s.sendRecorded r _ _ _) _ _ _ _ _⟩

theorem State.sendRecorded_outsideFabric (s : State) (r : Request) (g : Bool) (n : Esc → BitVec 32) (o : Esc → Word) : (s.sendRecorded r g n o).outsideFabric = s.outsideFabric := by
  unfold State.sendRecorded
  cases g <;> simp

@[simp] theorem State.sendNow_outsideFabric (s : State) (r : Request) (p : Packet) : (s.sendNow r p).outsideFabric = s.outsideFabric := by
  obtain ⟨g, n, o, cases⟩ := s.sendNow_cases r p
  have recorded := s.sendRecorded_outsideFabric r g n o
  obtain h | ⟨x, h⟩ | ⟨q, h⟩ := cases <;> rw [h]
  · exact recorded
  · exact recorded
  · exact (State.inject_outsideFabric _ _).trans recorded

theorem State.pump_outsideFabric (s : State) : s.pump.outsideFabric = s.outsideFabric := by
  unfold State.pump
  refine (State.each_outsideFabric _ _ _ fun t x => ?_).trans (s.modFabric_outsideFabric _)
  split
  · rw [State.sendNow_outsideFabric, State.noteAdded_outsideFabric]
  · rfl

@[simp] theorem State.request_outsideFabric (s : State) (r : Request) (p : Packet) : (s.request r p).outsideFabric = s.outsideFabric :=
  State.pump_outsideFabric _

theorem State.inject_requests (s : State) (p : Packet) : (s.inject p).fabric.requests = s.fabric.requests ∧ (s.inject p).fabric.waiting = s.fabric.waiting := by
  unfold State.inject
  dsimp only
  split
  · exact ⟨rfl, rfl⟩
  · split <;> exact ⟨rfl, rfl⟩
  · split <;> exact ⟨rfl, rfl⟩

theorem State.noteAdded_requests (s : State) (r : Request) (p : Packet) :
    (s.noteAdded r p).fabric.requests = s.fabric.requests ∧ (s.noteAdded r p).fabric.waiting = s.fabric.waiting := by
  unfold State.noteAdded
  split <;> exact ⟨rfl, rfl⟩

theorem State.sendRecorded_requests (s : State) (r : Request) (g : Bool) (n : Esc → BitVec 32) (o : Esc → Word) :
    (s.sendRecorded r g n o).fabric.requests = s.fabric.requests ++ [{ r with tag := s.freeTag, pos := s.esc.outSeq.toNat }] ∧
    (s.sendRecorded r g n o).fabric.waiting = s.fabric.waiting := by
  unfold State.sendRecorded
  dsimp only
  split <;> exact ⟨rfl, rfl⟩

/-- A request that is sent is among those in flight, under its tag and position. -/
theorem State.sendNow_requests (s : State) (r : Request) (p : Packet) :
    (s.sendNow r p).fabric.requests = s.fabric.requests ++ [{ r with tag := s.freeTag, pos := s.esc.outSeq.toNat }] ∧
    (s.sendNow r p).fabric.waiting = s.fabric.waiting := by
  obtain ⟨g, n, o, cases⟩ := s.sendNow_cases r p
  have recorded := s.sendRecorded_requests r g n o
  obtain h | ⟨x, h⟩ | ⟨q, h⟩ := cases <;> rw [h]
  · exact recorded
  · exact recorded
  · obtain ⟨requests, waiting⟩ := State.inject_requests (s.sendRecorded r g n o) q
    exact ⟨requests.trans recorded.1, waiting.trans recorded.2⟩

/-- An unacknowledged request of core `c`, of kind `kind` and number `n`. -/
def Request.isOf (c kind n : Nat) (r : Request) : Prop := r.unit = .core c ∧ r.kind = kind ∧ r.reg = n

/-- Such a request is in flight or waits to be sent. -/
def State.Asked (s : State) (c kind n : Nat) : Prop := ∃ r ∈ s.fabric.requests ++ s.fabric.waiting.map (·.1), r.isOf c kind n

theorem mem_foldl_sadd {α : Type} (f : α → Nat) (l : List α) (m : List Nat) (n : Nat) : n ∈ l.foldl (fun m r => sadd m (f r)) m ↔ n ∈ m ∨ ∃ r ∈ l, f r = n := by
  induction l generalizing m with
  | nil => simp
  | cons a l ih =>
    rw [List.foldl_cons, ih, mem_sadd]
    simp only [List.mem_cons, exists_eq_or_imp, ← or_assoc]
    rw [or_comm (a := n = f a), @eq_comm _ n]

theorem State.mem_gstsOut (s : State) (c n : Nat) : n ∈ s.gstsOut c ↔ s.Asked c 0 n := by
  unfold State.gstsOut
  rw [mem_foldl_sadd (fun r : Request => r.reg)]
  simp only [List.not_mem_nil, false_or, List.mem_filter, Bool.and_eq_true, beq_iff_eq, State.Asked, Request.isOf, and_assoc]

/-- A round of the waiting requests keeps every one of them, sent or waiting. -/
theorem State.pump_asked (s : State) (c kind n : Nat) (h : s.Asked c kind n) : s.pump.Asked c kind n := by
  have round (l : List (Request × Packet)) (t : State) (ht : t.Asked c kind n ∨ ∃ x ∈ l, x.1.isOf c kind n) :
      (t.each l (fun s x =>
        if s.windowRoom x.1.dst x.1.tokens && s.mayInject x.1 x.2 && !s.fabric.waiting.any (fun y => y.1.dst == x.1.dst) then (s.noteAdded x.1 x.2).sendNow x.1 x.2
        else s.modFabric (fun f => { f with waiting := f.waiting ++ [x] }))).Asked c kind n := by
    induction l generalizing t with
    | nil => exact ht.resolve_right (by simp)
    | cons x l ih =>
      have sent : ((t.noteAdded x.1 x.2).sendNow x.1 x.2).fabric.requests ++ ((t.noteAdded x.1 x.2).sendNow x.1 x.2).fabric.waiting.map (·.1) =
          (t.fabric.requests ++ [{ x.1 with tag := (t.noteAdded x.1 x.2).freeTag, pos := (t.noteAdded x.1 x.2).esc.outSeq.toNat }]) ++ t.fabric.waiting.map (·.1) := by
        obtain ⟨requests, waiting⟩ := (t.noteAdded x.1 x.2).sendNow_requests x.1 x.2
        obtain ⟨requests', waiting'⟩ := t.noteAdded_requests x.1 x.2
        rw [requests, waiting, requests', waiting']
      refine ih _ ?_
      dsimp only
      rcases ht with ⟨r, hr, his⟩ | ⟨y, hy, his⟩
      · refine .inl ⟨r, ?_, his⟩
        split
        · rw [sent]
          rcases List.mem_append.mp hr with hr | hr <;> simp [hr]
        · rcases List.mem_append.mp hr with hr | hr <;> simp [State.modFabric, hr]
      · rcases List.mem_cons.mp hy with rfl | hy
        · left
          split
          · refine ⟨_, sent ▸ List.mem_append_left _ (List.mem_append_right _ (List.mem_singleton_self _)), ?_⟩
            exact his
          · exact ⟨y.1, by simp [State.modFabric], his⟩
        · exact .inr ⟨y, hy, his⟩
  obtain ⟨r, hr, his⟩ := h
  refine round s.fabric.waiting _ ?_
  rcases List.mem_append.mp hr with hr | hr
  · exact .inl ⟨r, by simpa [State.modFabric] using hr, his⟩
  · obtain ⟨x, hx, rfl⟩ := List.mem_map.mp hr
    exact .inr ⟨x, hx, his⟩

/-- A request that is issued is among those asked, and so is every earlier one. -/
theorem State.request_asked (s : State) (q : Request) (p : Packet) (c kind n : Nat) (h : s.Asked c kind n ∨ q.isOf c kind n) : (s.request q p).Asked c kind n := by
  refine State.pump_asked _ c kind n ?_
  rcases h with ⟨r, hr, his⟩ | his
  · exact ⟨r, by rcases List.mem_append.mp hr with hr | hr <;> simp [State.modFabric, hr], his⟩
  · exact ⟨q, by simp [State.modFabric], his⟩

/-! ## After a command that may have sent requests -/

theorem State.appliesInputs_congr {s t : State} (h : t.esc = s.esc) : t.appliesInputs = s.appliesInputs := by
  unfold State.appliesInputs State.inLocalRun
  rw [h]

theorem State.appliesInputs_fabric {s t : State} (h : t.outsideFabric = s.outsideFabric) : t.appliesInputs = s.appliesInputs := by
  have esc : ({ t.esc with outSeq := 0, od := 0 } : Esc) = { s.esc with outSeq := 0, od := 0 } := congrArg State.esc h
  have same (u : State) : u.appliesInputs = State.appliesInputs { u with esc := { u.esc with outSeq := 0, od := 0 } } := rfl
  rw [same t, same s]
  exact State.appliesInputs_congr esc

theorem State.settle_quiet {s : State} (h : s.appliesInputs = false) : s.settle = s := by simp [State.settle, h]

end Sys2Proof.Machine
end


section
/-! SUPPORT. The lines that a GST writes (04 R147): their lanes, the mask of their active lanes, and a write of a line of local memory (06 R202). -/

namespace Sys2Proof.Machine

/-- Whether segment `g` has an active lane. -/
theorem mem_segsOf (p : BitVec 512) (g : Nat) : g ∈ segsOf p ↔ g < 32 ∧ p.toNat / 2 ^ (16 * g) % 2 ^ 16 ≠ 0 := by
  have touched : touchedSegs p = BitVec.ofNat 32 (ofBits (fun i => decide (p.toNat / 2 ^ (16 * i) % 2 ^ 16 ≠ 0)) (List.range 32)) := by
    unfold touchedSegs ofBits
    simp only [decide_not, Bool.not_eq_true', decide_eq_false_iff_not, ite_not]
  unfold segsOf
  rw [List.mem_filter, List.mem_range]
  refine and_congr_right fun hg => ?_
  rw [touched, BitVec.getLsbD_ofNat, testBit_ofBits _ _ _ (by simpa using hg)]
  simp [hg]

theorem segsOf_active (p : BitVec 512) (i : Nat) (hi : i < 512) (hp : p.getLsbD i = true) : i / 16 ∈ segsOf p := by
  rw [mem_segsOf]
  refine ⟨by omega, fun h => ?_⟩
  have bit := (segment_bit p (i / 16) (i % 16) (by omega)).mpr (by rwa [Nat.div_add_mod])
  rw [h] at bit
  simp at bit

theorem segsOf_ne_nil (p : BitVec 512) (hp : p ≠ 0) : segsOf p ≠ [] := by
  intro h
  refine hp (BitVec.eq_of_getLsbD_eq fun i hi => ?_)
  have idle : p.getLsbD i = false := Bool.eq_false_iff.mpr fun hbit => List.not_mem_nil (h ▸ segsOf_active p i hi hbit)
  simpa using idle

/-- A bit of the byte mask of a segment: that of the byte's lane. -/
theorem segBytes_bit (p : BitVec 512) (g j : Nat) (hj : j < 64) : (segBytes p g).getLsbD j = p.getLsbD (16 * g + j / 4) := by
  have sum (n : Nat) : (List.range n).foldl (fun acc i => if p.getLsbD (16 * g + i) then acc + 15 * 2 ^ (4 * i) else acc) 0 < 2 ^ (4 * n) ∧
      ∀ j, ((List.range n).foldl (fun acc i => if p.getLsbD (16 * g + i) then acc + 15 * 2 ^ (4 * i) else acc) 0).testBit j =
        (decide (j / 4 < n) && p.getLsbD (16 * g + j / 4)) := by
    induction n with
    | zero => exact ⟨by simp, fun j => by simp⟩
    | succ n ih =>
      obtain ⟨lt, bits⟩ := ih
      rw [List.range_succ, List.foldl_append, List.foldl_cons, List.foldl_nil]
      generalize (List.range n).foldl _ 0 = m at lt bits ⊢
      have room : 2 ^ (4 * (n + 1)) = 16 * 2 ^ (4 * n) := by ring
      split
      · next active =>
        refine ⟨by omega, fun j => ?_⟩
        rw [Nat.add_comm, Nat.mul_comm, Nat.testBit_two_pow_mul_add _ lt, bits]
        split
        · next low => simp [show j / 4 < n by omega, show j / 4 < n + 1 by omega]
        · next high =>
          rw [show 15 = 2 ^ 4 - 1 from rfl, Nat.testBit_two_pow_sub_one]
          by_cases here : j / 4 = n
          · simp [here, active]; omega
          · simp [show ¬ j / 4 < n + 1 by omega]; omega
      · next idle =>
        refine ⟨by omega, fun j => ?_⟩
        rw [bits]
        by_cases here : j / 4 = n
        · simp [here, idle]
        · simp [show j / 4 < n + 1 ↔ j / 4 < n by omega]
  unfold segBytes
  rw [BitVec.getLsbD_ofNat, (sum 16).2, decide_eq_true hj, decide_eq_true (show j / 4 < 16 by omega)]
  simp

/-- Lane `k` of a line. -/
def lineLane (l : Line) (k : Nat) : Nat := l.toNat / 2 ^ (32 * k) % 2 ^ 32

theorem lineLane_eq (l : Line) (k : Nat) : lineLane l k = leNat (((lineBytes l).drop (4 * k)).take 4) := by
  unfold lineLane lineBytes
  rw [leNat_take, leNat_drop, leNat_leBytes, Nat.mod_eq_of_lt (l.isLt.trans_eq (by rw [show 256 = 2 ^ 8 from rfl, ← pow_mul])), show 256 = 2 ^ 8 from rfl, ← pow_mul, ← pow_mul]
  congr 3
  omega

theorem lineBytes_lineOf (b : List Byte) (h : b.length = 64) : lineBytes (lineOf b) = b := by
  have lt := leNat_lt b
  rw [h] at lt
  unfold lineBytes lineOf
  rw [BitVec.toNat_ofNat, Nat.mod_eq_of_lt (lt.trans_eq (by rw [show 256 = 2 ^ 8 from rfl, ← pow_mul])), ← h, leBytes_leNat]

theorem getElem_lineBytes (l : Line) (i : Nat) (hi : i < 64) : (lineBytes l)[i]'(by rw [length_lineBytes]; exact hi) = l.extractLsb' (8 * i) 8 := by
  have get := getD_leBytes l.toNat 64 i hi
  rw [List.getD_eq_getElem _ _ (by rw [length_leBytes]; exact hi)] at get
  refine get.trans (BitVec.eq_of_toNat_eq ?_)
  simp [Nat.shiftRight_eq_div_pow, pow_mul]

theorem mergeLine_none (old new : Line) : mergeLine old new 0 = old := by
  have bytes : (List.range 64).map (fun i => if (0 : BitVec 64).getLsbD i then new.extractLsb' (8 * i) 8 else old.extractLsb' (8 * i) 8) = lineBytes old := by
    refine List.ext_getElem (by simp [length_lineBytes]) fun i hi _ => ?_
    rw [getElem_lineBytes _ _ (by simpa using hi)]
    simp
  rw [mergeLine, bytes, lineOf_lineBytes]

/-- Lane `k` of a merge of two lines, where the mask selects all its bytes or none. -/
theorem lineLane_mergeLine (old new : Line) (mask : BitVec 64) (k : Nat) (hk : k < 16) (b : Bool) (hb : ∀ j, j < 4 → mask.getLsbD (4 * k + j) = b) :
    lineLane (mergeLine old new mask) k = if b then lineLane new k else lineLane old k := by
  rw [lineLane_eq, lineLane_eq, lineLane_eq, mergeLine, lineBytes_lineOf _ (by simp), ← apply_ite (fun l : Line => leNat (((lineBytes l).drop (4 * k)).take 4))]
  congr 1
  refine List.ext_getElem (by simp [length_lineBytes]) fun j hj _ => ?_
  have hj : j < 4 := by simp at hj; omega
  simp only [List.getElem_take, List.getElem_drop, List.getElem_map, List.getElem_range]
  rw [getElem_lineBytes _ _ (by omega), hb j hj]
  cases b <;> rfl

/-- Bits below `a` of a number are those of its lowest `a` bits. -/
theorem div_mod_of_mod (n a k w : Nat) (h : k + w ≤ a) : n % 2 ^ a / 2 ^ k % 2 ^ w = n / 2 ^ k % 2 ^ w := by
  rw [show 2 ^ a = 2 ^ k * 2 ^ (a - k) by rw [← pow_add]; congr 1; omega, Nat.mod_mul_right_div_self, Nat.mod_mod_of_dvd _ (pow_dvd_pow 2 (by omega))]

/-- Lane `k` of segment `g` of a register. -/
theorem lineLane_segment (v : BitVec 16384) (g k : Nat) (hk : k < 16) : lineLane (lineOf (((vecBytes v).drop (64 * g)).take 64)) k = lane 32 v (16 * g + k) := by
  unfold lineLane lineOf lane vecBytes
  rw [leNat_take, leNat_drop, leNat_leBytes, Nat.mod_eq_of_lt (a := v.toNat) (v.isLt.trans_eq (by rw [show 256 = 2 ^ 8 from rfl, ← pow_mul])), BitVec.toNat_ofNat]
  rw [show 256 = 2 ^ 8 from rfl, ← pow_mul, ← pow_mul, div_mod_of_mod _ _ _ _ (by omega), div_mod_of_mod _ _ _ _ (by omega), Nat.div_div_eq_div_mul, ← pow_add]
  congr 3
  omega

end Sys2Proof.Machine
end


section
/-! SUPPORT. Writes of lines of local memory through the Tun (06 R202): the lines written and every other line of the device. -/

namespace Sys2Proof.Machine

/-- The addresses of local memory, which no state of the machine moves (06 Table 1). -/
theorem State.home_local (s : State) (a k o : Nat) :
    s.home a = some (.localMem k o) ↔ 0x31000000000 ≤ a ∧ k < 144 ∧ k = (a - 0x31000000000) / 2 ^ 22 ∧ o = a % 2 ^ 22 := by
  have mapped : s.mapped a = some (.localMem k o) ↔ 0x31000000000 ≤ a ∧ k < 144 ∧ k = (a - 0x31000000000) / 2 ^ 22 ∧ o = a % 2 ^ 22 := by
    unfold State.mapped
    dsimp only
    split
    · split <;> simp <;> omega
    · split
      · split <;> simp <;> omega
      · split
        · split <;> simp <;> omega
        · split
          · split <;> simp <;> omega
          · split
            · simp only [Option.some.injEq, Home.localMem.injEq]; omega
            · simp; omega
  rw [← mapped]
  unfold State.home
  split
  · next h => split <;> simp [h]
  · rfl

theorem contains_sput_ne (l : List Nat) (i j : Nat) (b : Bool) (h : j ≠ i) : (sput l i b).contains j = l.contains j := by
  rw [Bool.eq_iff_iff]
  cases b <;> simp [sput, sdel, h]

/-- What a line reads as depends on the memories, the objects and the cores' local memory and its poison. -/
theorem State.line_of_cores (s : State) (cs : Vector Core 144) (l : Nat)
    (h : ∀ k o, s.home (64 * l) = some (.localMem k o) → mgetN zeroByte (vget cs k Core.reset).lmem o 64 = mgetN zeroByte (s.core k).lmem o 64 ∧
      (vget cs k Core.reset).lPoison.contains (o / 64) = (s.core k).lPoison.contains (o / 64)) :
    State.line { s with cores := cs } l = s.line l := by
  have home : State.home { s with cores := cs } (64 * l) = s.home (64 * l) := rfl
  unfold State.line
  rw [home]
  cases hh : s.home (64 * l) with
  | none => rfl
  | some place =>
    cases place with
    | hbm k => rfl
    | scratch q sl => rfl
    | localMem k o =>
      obtain ⟨bytes, poison⟩ := h k o hh
      exact congrArg₂ (fun (b : List Byte) (z : Bool) => (lineOf b, z)) bytes poison

/-- An update of a core that leaves its local memory leaves every line. -/
theorem State.line_setCore (s : State) (c : Nat) (y : Core) (lmem : y.lmem = (s.core c).lmem) (poison : y.lPoison = (s.core c).lPoison) : (s.setCore c y).line = s.line := by
  funext l
  refine s.line_of_cores (vset s.cores c y) l fun k o _ => ?_
  have same : (vget (vset s.cores c y) k Core.reset).lmem = (s.core k).lmem ∧ (vget (vset s.cores c y) k Core.reset).lPoison = (s.core k).lPoison := by
    by_cases hk : k = c
    · subst hk
      by_cases hlt : k < 144
      · rw [vget_vset_same _ _ _ _ hlt]; exact ⟨lmem, poison⟩
      · rw [vset_out _ _ _ (by omega)]; exact ⟨rfl, rfl⟩
    · rw [vget_vset_ne _ _ _ _ _ hk]; exact ⟨rfl, rfl⟩
  rw [same.1, same.2]
  exact ⟨rfl, rfl⟩

/-- State `t` is state `s` but for the bytes of the cores' local memories and their poison. -/
def State.SameButLocal (s t : State) : Prop :=
  (∃ cs, t = { s with cores := cs }) ∧ ∀ j, ∃ m z, t.core j = { s.core j with lmem := m, lPoison := z }

theorem State.SameButLocal.refl (s : State) : s.SameButLocal s := ⟨⟨_, rfl⟩, fun _ => ⟨_, _, rfl⟩⟩

theorem State.SameButLocal.trans {s t u : State} (h : s.SameButLocal t) (h' : t.SameButLocal u) : s.SameButLocal u := by
  obtain ⟨⟨cs, hcs⟩, cores⟩ := h
  obtain ⟨⟨cs', hcs'⟩, cores'⟩ := h'
  refine ⟨⟨cs', by rw [hcs', hcs]⟩, fun j => ?_⟩
  obtain ⟨m, z, hj⟩ := cores j
  obtain ⟨m', z', hj'⟩ := cores' j
  exact ⟨m', z', by rw [hj', hj]⟩

/-- A write of a line of local memory: its selected bytes, and no other line. -/
theorem State.tunWrite_local (s : State) (ln : Nat) (d : Line) (mask : BitVec 64) (poison : Bool) (cls k o : Nat) (hh : s.home (64 * ln) = some (.localMem k o)) :
    s.SameButLocal (s.tunWrite ln d mask poison cls) ∧ (∀ l, l ≠ ln → (s.tunWrite ln d mask poison cls).line l = s.line l) ∧
    ((s.tunWrite ln d mask poison cls).line ln).1 = mergeLine (s.line ln).1 d mask := by
  obtain ⟨base, hk, hka, ho⟩ := (s.home_local _ k o).mp hh
  have offset : o = 64 * (ln % 2 ^ 16) := by omega
  unfold State.tunWrite
  split
  · next none => exact ⟨.refl s, fun _ _ => rfl, by rw [none, mergeLine_none]⟩
  · rw [hh]
    dsimp only
    unfold State.putLine
    rw [hh]
    dsimp only
    refine ⟨⟨⟨_, rfl⟩, fun j => ?_⟩, fun l hl => ?_, ?_⟩
    · by_cases hj : j = k
      · subst hj
        rw [State.core_setCore _ _ _ hk]
        exact ⟨_, _, rfl⟩
      · rw [State.core_setCore_ne _ _ _ _ hj]
        exact ⟨_, _, rfl⟩
    · refine s.line_of_cores _ l fun k' o' hh' => ?_
      obtain ⟨base', hk', hka', ho'⟩ := (s.home_local _ k' o').mp hh'
      have offset' : o' = 64 * (l % 2 ^ 16) := by omega
      by_cases hkk : k' = k
      · subst hkk
        rw [vget_vset_same _ _ _ _ hk', offset, offset', Nat.mul_div_cancel_left _ (by decide), Nat.mul_div_cancel_left _ (by decide)]
        have apart : l % 2 ^ 16 ≠ ln % 2 ^ 16 := by omega
        exact ⟨mgetN_msetN_line_ne _ _ _ _ _ _ apart, contains_sput_ne _ _ _ _ apart⟩
      · rw [vget_vset_ne _ _ _ _ _ hkk]
        exact ⟨rfl, rfl⟩
    · unfold State.line
      rw [show State.home (State.setCore s k _) (64 * ln) = s.home (64 * ln) from rfl, hh]
      dsimp only
      rw [State.core_setCore _ _ _ hk, lineOf_mgetN_msetN]

/-- The lines from `b` on that a GST writes: each lane of a segment of `l` is the register's where it is active, and every other lane and line stays. -/
def State.WroteSegs (b : Nat) (p : BitVec 512) (v : BitVec 16384) (l : List Nat) (s t : State) : Prop :=
  (∀ ln, (∀ g ∈ l, ln ≠ b + g) → t.line ln = s.line ln) ∧
  ∀ g ∈ l, ∀ k, k < 16 → lineLane (t.line (b + g)).1 k = if p.getLsbD (16 * g + k) then lane 32 v (16 * g + k) else lineLane (s.line (b + g)).1 k

theorem State.each_wroteSegs (b : Nat) (p : BitVec 512) (v : BitVec 16384) (z : Nat → Bool) (l : List Nat) (s : State)
    (homes : ∀ g ∈ l, ∃ k o, s.home (64 * (b + g)) = some (.localMem k o)) :
    s.SameButLocal (s.each l (fun s g => s.tunWrite (b + g) (lineOf (((vecBytes v).drop (64 * g)).take 64)) (segBytes p g) (z g))) ∧
    State.WroteSegs b p v l s (s.each l (fun s g => s.tunWrite (b + g) (lineOf (((vecBytes v).drop (64 * g)).take 64)) (segBytes p g) (z g))) := by
  induction l generalizing s with
  | nil => exact ⟨.refl s, fun _ _ => rfl, fun _ hg => absurd hg List.not_mem_nil⟩
  | cons g l ih =>
    obtain ⟨k, o, hh⟩ := homes g List.mem_cons_self
    obtain ⟨same, others, written⟩ := s.tunWrite_local (b + g) (lineOf (((vecBytes v).drop (64 * g)).take 64)) (segBytes p g) (z g) 0 k o hh
    obtain ⟨same', others', written'⟩ := ih (s.tunWrite (b + g) (lineOf (((vecBytes v).drop (64 * g)).take 64)) (segBytes p g) (z g)) fun g' hg' => by
      obtain ⟨k', o', hh'⟩ := homes g' (List.mem_cons_of_mem _ hg')
      exact ⟨k', o', (State.home_local _ _ _ _).mpr ((s.home_local _ _ _).mp hh')⟩
    have here (j : Nat) (hj : j < 16) : lineLane ((s.tunWrite (b + g) (lineOf (((vecBytes v).drop (64 * g)).take 64)) (segBytes p g) (z g)).line (b + g)).1 j =
        if p.getLsbD (16 * g + j) then lane 32 v (16 * g + j) else lineLane (s.line (b + g)).1 j := by
      rw [written, lineLane_mergeLine _ _ _ j hj (p.getLsbD (16 * g + j)), lineLane_segment _ _ _ hj]
      intro i hi
      rw [segBytes_bit _ _ _ (by omega), show (4 * j + i) / 4 = j by omega]
    refine ⟨same.trans same', fun ln hln => ?_, fun g' hg' j hj => ?_⟩
    · exact (others' ln fun g' hg' => hln g' (List.mem_cons_of_mem _ hg')).trans (others ln (hln g List.mem_cons_self))
    · by_cases hmem : g' ∈ l
      · refine (written' g' hmem j hj).trans ?_
        split
        · rfl
        · next idle =>
          by_cases hg : g' = g
          · rw [hg, here j hj, if_neg (hg ▸ idle)]
          · rw [others _ (by omega)]
      · obtain rfl : g' = g := (List.mem_cons.mp hg').resolve_right hmem
        refine (congrArg (fun x : Line × Bool => lineLane x.1 j) (others' _ fun g'' hg'' => ?_)).trans (here j hj)
        intro heq
        exact hmem (by rwa [show g' = g'' by omega])

end Sys2Proof.Machine
end


section
/-! O22: GLD and GST (04 R147). -/

namespace Sys2Proof.Machine

/-- The codes that GLD and GST share. -/
def State.globalCodes (s : State) (u : Uses) (w : GenFields) (g : Nat) (p : BitVec 512) : List (Bool × Nat) :=
  [(u.bad w, 0x02), (decide (w.func ≠ 0), 0x03), (decide (g % 64 ≠ 0), 0x08), (s.unreachable (reachOf g) p, 0x09)]

/-- A GLD of this device. -/
def State.gldHere (s : State) (c d : Nat) (p : BitVec 512) (a : Nat) : State :=
  let t := s.each (segsOf p) (fun s i => s.touchRead (a / 64 + i))
  coreStep c (fun x => x.takeSegs d p 0 ((List.range 32).map (fun i => t.line (a / 64 + i)))) t

/-- A core that waits for the data of a GLD. -/
def Core.awaitGld (w : GenFields) (x : Core) : Core := { x.next with wait := .gld w.d w.pred }

/-- What a GLD does where it issues. -/
def State.gldDoes (s : State) (c : Nat) (w : GenFields) (p : BitVec 512) : Reach → State
  | .here a => s.gldHere c w.d.toNat p a
  | .there e a => if p = 0 then coreStep c id s else (s.modCore c (Core.awaitGld w)).gldReads c e a p
  | .bad => s

/-- What a GLD waits for (06 R214). -/
def State.gldStall (s : State) (p : BitVec 512) : Reach → Stall
  | .here a => if s.offline ((segsOf p).map (fun i => a / 64 + i)) s.missChan then .memory else .none
  | _ => .none

theorem exec_gld (s : State) (c : Fin 144) (w : GenFields) (p : BitVec 512) (g : Nat) (hp : p = (s.core c).p w.pred.toNat)
    (hg : g = ((s.core c).s w.a.toNat + w.imm).toNat) : exec (.gld c w) s = .next (s.issue c (genWord 0x62 w)
      { addrS := [w.a.toNat], faults := codes (s.globalCodes { d := true, a := true, pred := true, imm := 64 } w g p), stall := s.gldStall p (reachOf g) }
      (fun t => t.gldDoes c w p (reachOf g))).settle := by
  subst hp hg
  show execGld c w s = _
  unfold execGld State.gldDoes State.gldStall
  rfl

/-- What a GST does where it issues. -/
def State.gstDoes (s : State) (c : Nat) (w : GenFields) (p : BitVec 512) (x : Core) : Reach → State
  | .here a => s.each (segsOf p) (fun s i => s.tunWrite (a / 64 + i) (lineOf (((vecBytes (x.v w.b.toNat)).drop (64 * i)).take 64)) (segBytes p i)
      ((x.vp w.b.toNat).getLsbD i))
  | .there e a => (s.modCore c (fun x => { x with reqSeq := x.reqSeq + 1 })).each (segsOf p) (fun s i =>
      s.sendLine { newRequest e 0 (.core c) (s.jobOf c) x.stream 1 with reg := x.reqSeq } e (a + 64 * i) (lineOf (((vecBytes (x.v w.b.toNat)).drop (64 * i)).take 64))
        (segBytes p i) ((x.vp w.b.toNat).getLsbD i))
  | .bad => s

/-- What a GST waits for (04 R147, 06 R214). -/
def State.gstStall (s : State) (c : Nat) (p : BitVec 512) (r : Reach) : Stall :=
  if 64 ≤ (s.gstsOut c).length then .gstLimit else match r with
    | .here a => if (segsOf p).any (fun i => s.offline [a / 64 + i] (fun ln => s.writeChan ln (segBytes p i))) then .memory else .none
    | _ => .none

theorem exec_gst (s : State) (c : Fin 144) (w : GenFields) (p : BitVec 512) (g : Nat) (hp : p = (s.core c).p w.pred.toNat)
    (hg : g = ((s.core c).s w.a.toNat + w.imm).toNat) : exec (.gst c w) s = .next (s.issue c (genWord 0x63 w)
      { addrS := [w.a.toNat], dataV := readSegs p [w.b.toNat]
        faults := codes (s.globalCodes { a := true, b := true, pred := true, imm := 64 } w g p ++ [((s.core c).groupFull false, 0x17)])
        stall := s.gstStall c p (reachOf g) }
      (fun t => t.effect c none (fun t => (t.gstDoes c w p (s.core c) (reachOf g), 0)))).settle := by
  subst hp hg
  show execGst c w s = _
  unfold execGst State.gstDoes State.gstStall
  rfl

theorem State.core_fabric {s t : State} (h : t.outsideFabric = s.outsideFabric) (k : Nat) : t.core k = s.core k := congrArg (fun u => u.core k) h

theorem State.settle_esc {s t : State} (quiet : s.appliesInputs = false) (h : t.esc = s.esc) : t.settle = t :=
  State.settle_quiet ((State.appliesInputs_congr h).trans quiet)

theorem State.setCore_fetch_esc (s : State) (c : Nat) (y : Core) : ((s.fetch c).setCore c y).esc = s.esc := s.fetch_esc c

/-- A fault of a GLD or GST, whose inputs are not due. -/
theorem State.issue_global_fault (s : State) (c : Fin 144) (word : BitVec 128) (i : Issue) (eff : State → State) (e : Nat) (h : s.fresh c)
    (quiet : s.appliesInputs = false) (he : i.faults.min? = some e) : (s.issue c word i eff).settle = (s.fetch c).coreFault c e word i.detail := by
  have esc : ((s.fetch c).coreFault c e word i.detail).esc = s.esc :=
    (congrArg State.esc ((s.fetch c).coreFault_rest c c.isLt e word i.detail) :).trans (s.fetch_esc c)
  rw [State.issue_fault s c word i eff e h he, State.settle_esc quiet esc]

/-- No code of a GLD or GST applies to an assigned address on a line boundary. -/
theorem State.globalCodes_nil (s : State) (u : Uses) (w : GenFields) (g : Nat) (p : BitVec 512) (hu : u.bad w = false) (hf : w.func = 0) (hg : g % 64 = 0)
    (hr : s.unreachable (reachOf g) p = false) : codes (s.globalCodes u w g p) = [] :=
  (codes_eq_nil _).mpr (by simp [State.globalCodes, hu, hf, hg, hr])

/-- An address off a line boundary, and else one that is not assigned. -/
theorem State.globalCodes_min (s : State) (u : Uses) (w : GenFields) (g : Nat) (p : BitVec 512) (hu : u.bad w = false) (hf : w.func = 0) :
    (g % 64 ≠ 0 → (codes (s.globalCodes u w g p)).min? = some 0x08) ∧
    (g % 64 = 0 → s.unreachable (reachOf g) p = true → (codes (s.globalCodes u w g p)).min? = some 0x09) := by
  have drop : codes (s.globalCodes u w g p) = codes [(decide (g % 64 ≠ 0), 0x08), (s.unreachable (reachOf g) p, 0x09)] := by
    simp [State.globalCodes, codes, hu, hf]
  obtain ⟨off, outside⟩ := codes_address (decide (g % 64 ≠ 0)) (s.unreachable (reachOf g) p)
  rw [drop]
  exact ⟨fun h => off (decide_eq_true h), fun h hr => outside (decide_eq_false (by simpa using h)) hr⟩

/-- Reads of lines through the Tun, where no error waits, leave the bytes of every line. -/
theorem State.each_touchRead_reads (s : State) (l : List Nat) (b : Nat) (free : s.errorFree) (ln : Nat) :
    ((s.each l (fun s i => s.touchRead (b + i))).line ln).1 = (s.line ln).1 := by
  refine (State.each_invariant (P := fun t => t.errorFree ∧ ∀ ln, (t.line ln).1 = (s.line ln).1) s l (fun s i => s.touchRead (b + i)) ⟨free, fun _ => rfl⟩ ?_).2 ln
  intro t ⟨tfree, lines⟩ i _
  obtain ⟨ufree, ulines⟩ := t.touchRead_reads (b + i) 0 tfree
  exact ⟨ufree, fun ln => (ulines ln).trans (lines ln)⟩

theorem State.each_touchRead_outsideMem (s : State) (l : List Nat) (b : Nat) : (s.each l (fun s i => s.touchRead (b + i))).outsideMem = s.outsideMem :=
  s.each_outsideMem l _ fun t i => t.touchRead_outsideMem (b + i) 0

/-- A GLD of this device that issues: the active lanes take the lines that every reader sees. -/
theorem State.gldHere_takes (s : State) (c : Fin 144) (d : BitVec 5) (p : BitVec 512) (a : Nat) (free : s.errorFree) :
    ((s.gldHere c d.toNat p a).esc = s.esc) ∧ ∃ y f, Core.TookLines 32 d.toNat p f (s.core c) y ∧ (∀ g, (f g).1 = (s.line (a / 64 + g)).1) ∧
      (s.gldHere c d.toNat p a).core c = y.next := by
  have outside := s.each_touchRead_outsideMem (segsOf p) (a / 64)
  have lines := s.each_touchRead_reads (segsOf p) (a / 64) free
  unfold State.gldHere
  dsimp only
  generalize s.each (segsOf p) (fun s i => s.touchRead (a / 64 + i)) = t at outside lines ⊢
  have core : t.core c = s.core c := congrArg (fun u => u.core c) outside
  have took := Core.takeSegs_tookLines (s.core c) d.toNat p (fun i => t.line (a / 64 + i)) d.isLt 32
  refine ⟨congrArg (fun u => u.esc) outside, _, _, took, fun g => lines _, ?_⟩
  rw [← core]
  exact State.core_modCore t c _ c.isLt

/-- A GLD of another device waits for its data. -/
theorem State.gldReads_outsideFabric (s : State) (c : Nat) (e : BitVec 17) (a : Nat) (p : BitVec 512) : (s.gldReads c e a p).outsideFabric = s.outsideFabric :=
  State.each_outsideFabric s _ _ fun _ _ => State.request_outsideFabric _ _ _

/-- A line sent to another device. -/
theorem State.sendLine_outsideFabric (s : State) (r : Request) (e : BitVec 17) (a : Nat) (d : Line) (mask : BitVec 64) (z : Bool) :
    (s.sendLine r e a d mask z).outsideFabric = s.outsideFabric := State.request_outsideFabric _ _ _

theorem State.sendLine_asked (s : State) (r : Request) (e : BitVec 17) (a : Nat) (d : Line) (mask : BitVec 64) (z : Bool) (c kind n : Nat)
    (h : s.Asked c kind n ∨ r.isOf c kind n) : (s.sendLine r e a d mask z).Asked c kind n := State.request_asked _ _ _ _ _ _ h

/-! ## The cases of GLD -/

section Gld
variable {s : State} {c : Fin 144} {w : GenFields} {p : BitVec 512} {g : Nat} (h : s.fresh c) (quiet : s.appliesInputs = false)
  (hu : ({ d := true, a := true, pred := true, imm := 64 } : Uses).bad w = false) (hf : w.func = 0) (hp : p = (s.core c).p w.pred.toNat)
  (hg : g = ((s.core c).s w.a.toNat + w.imm).toNat)
include h quiet hu hf hp hg

theorem exec_gld_waits {a : Nat} (aligned : g % 64 = 0) (hr : reachOf g = .here a) (reach : s.unreachable (reachOf g) p = false)
    (off : s.offline ((segsOf p).map (fun i => a / 64 + i)) s.missChan = true) :
    exec (.gld c w) s = .next ((s.fetch c).setCore c { (s.core c).go with stall := .memory }) := by
  have stall : s.gldStall p (reachOf g) = .memory := by rw [hr]; exact if_pos off
  rw [exec_gld s c w p g hp hg, stall, s.globalCodes_nil _ w g p hu hf aligned reach, State.issue_stall s c _ _ _ h rfl Stall.noConfusion,
    State.settle_esc quiet (s.setCore_fetch_esc c _)]

theorem exec_gld_loads {a : Nat} (aligned : g % 64 = 0) (hr : reachOf g = .here a) (reach : s.unreachable (reachOf g) p = false)
    (on : s.offline ((segsOf p).map (fun i => a / 64 + i)) s.missChan = false) (free : (s.fetch c).errorFree) :
    ∃ t, exec (.gld c w) s = .next t ∧ ∃ y f, Core.TookLines 32 w.d.toNat p f (s.core c).go y ∧ (∀ i, (f i).1 = ((s.fetch c).line (a / 64 + i)).1) ∧ t.core c = y.next := by
  have stall : s.gldStall p (reachOf g) = .none := by rw [hr]; exact if_neg (by simp [on])
  obtain ⟨esc, y, f, took, lines, core⟩ := ((s.fetch c).setCore c (s.core c).go).gldHere_takes c w.d p a free
  rw [State.core_setCore _ _ _ c.isLt] at took
  rw [State.line_setCore _ _ _ (by rw [State.fetch_core]; rfl) (by rw [State.fetch_core]; rfl)] at lines
  refine ⟨_, ?_, y, f, took, lines, core⟩
  rw [exec_gld s c w p g hp hg, stall, s.globalCodes_nil _ w g p hu hf aligned reach, State.issue_fresh s c _ _ _ h rfl rfl, hr]
  exact congrArg Host.Outcome.next (State.settle_esc quiet (esc.trans (s.setCore_fetch_esc c _)))

theorem exec_gld_asks {e : BitVec 17} {a : Nat} (aligned : g % 64 = 0) (hr : reachOf g = .there e a) (nonempty : p ≠ 0) :
    ∃ t, exec (.gld c w) s = .next t ∧ t.core c = (s.core c).go.awaitGld w := by
  have stall : s.gldStall p (reachOf g) = .none := by rw [hr]; rfl
  have reach : s.unreachable (reachOf g) p = false := by rw [hr]; rfl
  have outside := State.gldReads_outsideFabric (((s.fetch c).setCore c (s.core c).go).modCore c (Core.awaitGld w)) c e a p
  refine ⟨_, ?_, (State.core_fabric outside c).trans ((State.core_modCore _ _ _ c.isLt).trans ?_)⟩
  · rw [exec_gld s c w p g hp hg, stall, s.globalCodes_nil _ w g p hu hf aligned reach, State.issue_fresh s c _ _ _ h rfl rfl, hr]
    unfold State.gldDoes
    dsimp only
    rw [if_neg nonempty]
    refine congrArg Host.Outcome.next (State.settle_quiet ((State.appliesInputs_fabric outside).trans ?_))
    exact (State.appliesInputs_congr (s.setCore_fetch_esc c (s.core c).go)).trans quiet
  · rw [State.core_setCore _ _ _ c.isLt]

theorem exec_gld_faults : (g % 64 ≠ 0 → exec (.gld c w) s = .next ((s.fetch c).coreFault c 0x08 (genWord 0x62 w) 0)) ∧
    (g % 64 = 0 → s.unreachable (reachOf g) p = true → exec (.gld c w) s = .next ((s.fetch c).coreFault c 0x09 (genWord 0x62 w) 0)) := by
  obtain ⟨off, outside⟩ := s.globalCodes_min _ w g p hu hf
  rw [exec_gld s c w p g hp hg]
  exact ⟨fun hg => congrArg Host.Outcome.next (s.issue_global_fault c _ _ _ _ h quiet (off hg)),
    fun hg hr => congrArg Host.Outcome.next (s.issue_global_fault c _ _ _ _ h quiet (outside hg hr))⟩

end Gld

/-! ## The cases of GST -/

/-- A GST to another device asks each line under the number that the core gives it. -/
theorem State.gst_asks (s : State) (c : Fin 144) (w : GenFields) (p : BitVec 512) (x : Core) (e : BitVec 17) (a : Nat) (nonempty : p ≠ 0) :
    (s.gstDoes c w p x (.there e a)).outsideFabric = (s.modCore c (fun x => { x with reqSeq := x.reqSeq + 1 })).outsideFabric ∧
    (s.gstDoes c w p x (.there e a)).Asked c 0 x.reqSeq := by
  unfold State.gstDoes
  dsimp only
  refine ⟨State.each_outsideFabric _ _ _ fun _ _ => State.sendLine_outsideFabric .., ?_⟩
  cases hl : segsOf p with
  | nil => exact absurd hl (segsOf_ne_nil p nonempty)
  | cons g l =>
    refine State.each_invariant (P := fun t => t.Asked c 0 x.reqSeq) _ l _ ?_ fun t ht _ _ => State.sendLine_asked _ _ _ _ _ _ _ _ _ _ (.inl ht)
    exact State.sendLine_asked _ _ _ _ _ _ _ _ _ _ (.inr ⟨rfl, rfl, rfl⟩)

/-- A GST to local memory of this device writes the active lanes' bytes. -/
theorem State.gst_writes (s : State) (c : Nat) (w : GenFields) (p : BitVec 512) (x : Core) (a : Nat) (aligned : a % 64 = 0)
    (homes : ∀ i, i < 32 → ∃ k o, s.home (a + 64 * i) = some (.localMem k o)) :
    s.SameButLocal (s.gstDoes c w p x (.here a)) ∧ State.WroteSegs (a / 64) p (x.v w.b.toNat) (segsOf p) s (s.gstDoes c w p x (.here a)) :=
  State.each_wroteSegs (a / 64) p (x.v w.b.toNat) (x.vp w.b.toNat).getLsbD (segsOf p) s fun g hg => by
    rw [show 64 * (a / 64 + g) = a + 64 * g by omega]
    exact homes g ((mem_segsOf p g).mp hg).1

theorem State.gstCodes_nil (s : State) (u : Uses) (w : GenFields) (g : Nat) (p : BitVec 512) (hu : u.bad w = false) (hf : w.func = 0) (full : Bool)
    (room : full = false) (aligned : g % 64 = 0) (reach : s.unreachable (reachOf g) p = false) : codes (s.globalCodes u w g p ++ [(full, 0x17)]) = [] := by
  have clear := (codes_eq_nil _).mp (s.globalCodes_nil u w g p hu hf aligned reach)
  refine (codes_eq_nil _).mpr fun e he => ?_
  rcases List.mem_append.mp he with he | he
  · exact clear e he
  · rw [List.mem_singleton.mp he]
    exact room

section Gst
variable {s : State} {c : Fin 144} {w : GenFields} {p : BitVec 512} {g : Nat} (h : s.fresh c) (quiet : s.appliesInputs = false)
  (hu : ({ a := true, b := true, pred := true, imm := 64 } : Uses).bad w = false) (hf : w.func = 0) (hp : p = (s.core c).p w.pred.toNat)
  (hg : g = ((s.core c).s w.a.toNat + w.imm).toNat) (room : (s.core c).groupFull false = false) (aligned : g % 64 = 0) (reach : s.unreachable (reachOf g) p = false)
include h quiet hu hf hp hg room aligned reach

theorem exec_gst_waits (full : 64 ≤ (s.gstsOut c).length) : exec (.gst c w) s = .next ((s.fetch c).setCore c { (s.core c).go with stall := .gstLimit }) := by
  have stall : s.gstStall c p (reachOf g) = .gstLimit := if_pos full
  rw [exec_gst s c w p g hp hg, stall, s.gstCodes_nil _ w g p hu hf _ room aligned reach, State.issue_stall s c _ _ _ h rfl Stall.noConfusion,
    State.settle_esc quiet (s.setCore_fetch_esc c _)]

omit quiet in
theorem exec_gst_issues (hskip : (s.core c).skip = 0) (goes : s.gstStall c p (reachOf g) = .none) : exec (.gst c w) s =
    .next ((((s.fetch c).setCore c (s.core c).go).gstDoes c w p (s.core c) (reachOf g)).modCore c (fun x => x.countEffect.next)).settle := by
  rw [exec_gst s c w p g hp hg, goes, s.gstCodes_nil _ w g p hu hf _ room aligned reach, State.issue_fresh s c _ _ _ h rfl rfl,
    State.effect_counts _ _ _ _ (by rw [State.core_setCore _ _ _ c.isLt]; exact hskip)]

end Gst

/-- Lane `i` of segment `i / 16`. -/
theorem lineLane_spec (l : Line) (i : Nat) : l.toNat / 2 ^ (32 * (i % 16)) % 2 ^ 32 = lineLane l (i % 16) := rfl

/-- A local-form address is the address. -/
theorem reachOf_here {g a : Nat} (h : reachOf g = .here a) : a = g := by
  unfold reachOf localForm at h
  by_cases hg : g < 2 ^ 42
  · rw [if_pos hg] at h
    exact (Reach.here.inj h).symm
  · rw [if_neg hg] at h
    cases hr : remoteForm g <;> simp [hr] at h

/-- What a GST to local memory leaves: its core goes on with one more effect, and each line that it covers holds the active lanes. -/
theorem gst_stores (s : State) (c : Fin 144) (w : GenFields) (p : BitVec 512) (a : Nat) (aligned : a % 64 = 0)
    (homes : ∀ i, i < 32 → ∃ k o, s.home (a + 64 * i) = some (.localMem k o)) :
    let x := s.core c
    let f := s.fetch c
    let t := ((f.setCore c x.go).gstDoes c w p x (.here a)).modCore c (fun x => x.countEffect.next)
    t.esc = s.esc ∧ (t.core c).pc = x.pc + 16 ∧ (t.core c).vreg = x.vreg ∧ (t.core c).sreg = x.sreg ∧ (t.core c).effects.count = x.effects.count + 1 ∧
    State.WroteSegs (a / 64) p (x.v w.b.toNat) (segsOf p) f t := by
  intro x f t
  obtain ⟨⟨⟨cs, hcs⟩, cores⟩, others, written⟩ := (f.setCore c x.go).gst_writes c w p x a aligned fun i hi => by
    obtain ⟨k, o, hh⟩ := homes i hi
    exact ⟨k, o, (State.home_local _ _ _ _).mpr ((s.home_local _ _ _).mp hh)⟩
  have before : (f.setCore c x.go).line = f.line := State.line_setCore _ _ _ (by rw [State.fetch_core]; rfl) (by rw [State.fetch_core]; rfl)
  have after : t.line = ((f.setCore c x.go).gstDoes c w p x (.here a)).line := State.line_setCore _ _ _ rfl rfl
  have esc : t.esc = s.esc := (congrArg State.esc hcs :).trans (s.fetch_esc c)
  have core : t.core c = (((f.setCore c x.go).gstDoes c w p x (.here a)).core c).countEffect.next := State.core_modCore _ _ _ c.isLt
  obtain ⟨m, z, hcore⟩ := cores c
  rw [State.core_setCore _ _ _ c.isLt] at hcore
  rw [hcore] at core
  rw [before] at others written
  unfold State.WroteSegs
  rw [core, after]
  exact ⟨esc, rfl, rfl, rfl, rfl, others, written⟩

/-- Local memory is assigned. -/
theorem State.reachable_local (s : State) (p : BitVec 512) (a : Nat) (home : ∃ k o, s.home a = some (.localMem k o))
    (homes : ∀ i ∈ segsOf p, ∃ k o, s.home (a + 64 * i) = some (.localMem k o)) : s.unreachable (.here a) p = false := by
  obtain ⟨k, o, hh⟩ := home
  unfold State.unreachable
  dsimp only
  rw [hh, Option.isNone_some, Bool.false_or, List.any_eq_false]
  intro i hi
  obtain ⟨k, o, hh⟩ := homes i hi
  simp [hh]

/-- A GST to local memory needs no channel of HBM. -/
theorem State.gstStall_local (s : State) (c : Nat) (p : BitVec 512) (a : Nat) (count : (s.gstsOut c).length < 64) (aligned : a % 64 = 0)
    (homes : ∀ i ∈ segsOf p, ∃ k o, s.home (a + 64 * i) = some (.localMem k o)) : s.gstStall c p (.here a) = .none := by
  have online : (segsOf p).any (fun i => s.offline [a / 64 + i] (fun ln => s.writeChan ln (segBytes p i))) = false := by
    rw [List.any_eq_false]
    intro i hi
    obtain ⟨k, o, hh⟩ := homes i hi
    have need : s.writeChan (a / 64 + i) (segBytes p i) = none := by
      unfold State.writeChan
      rw [show 64 * (a / 64 + i) = a + 64 * i by omega, hh]
    simp [State.offline, need]
  unfold State.gstStall
  rw [if_neg (by omega)]
  exact if_neg (by simp [online])

/-- Settles O22: a GLD reads each line through the Tun, which leaves the bytes that every reader sees; a GST to local memory merges the active lanes into
its lines, and one to another device is a request of its core until it is acknowledged. -/
theorem globalAccess : Obligations.GlobalAccess := by
  unfold Obligations.GlobalAccess
  intro s c w h quiet hf f x p g usesG usesP send
  refine ⟨fun a hu hg hr reach off => exec_gld_waits h quiet hu hf rfl rfl hg hr reach off, fun a hu hg hr reach on free => ?_, fun e a hu hg hr nonempty => ?_,
    fun a hu hs hg hr homes => ?_, fun e a hu hs hg hr nonempty => ?_, fun hu hg reach room full => ?_, fun hu hg => ?_, fun hu hg reach => ?_⟩
  · obtain ⟨t, hexec, y, l, ⟨⟨v, z, rest⟩, others, lanes⟩, lines, core⟩ := exec_gld_loads h quiet hu hf (p := p) (g := g) rfl rfl hg hr reach on free
    refine ⟨t, hexec, ?_⟩
    dsimp only
    rw [core]
    have waits : y.next.wait = .none := by rw [rest]; exact h.1.2.1
    refine ⟨by rw [rest]; rfl, by rw [rest]; rfl, by rw [rest]; rfl, by rw [rest]; rfl, waits, fun r hrd => others r hrd, fun i hi => (lanes i hi).trans ?_⟩
    rw [lines]
    simp only [show i / 16 < 32 by omega, true_and]
    rfl
  · obtain ⟨t, hexec, core⟩ := exec_gld_asks h quiet hu hf (p := p) (g := g) rfl rfl hg hr nonempty
    refine ⟨t, hexec, ?_⟩
    dsimp only
    rw [core]
    exact ⟨rfl, rfl, rfl⟩
  · obtain ⟨hskip, room, count⟩ := hs
    have inside (i : Nat) (hi : i ∈ segsOf p) := homes i ((mem_segsOf p i).mp hi).1
    have reach : s.unreachable (reachOf g) p = false := by
      rw [hr]
      exact State.reachable_local s p a (by simpa using homes 0 (by decide)) inside
    have aligned : a % 64 = 0 := by rw [reachOf_here hr]; exact hg
    have goes : s.gstStall c p (reachOf g) = .none := by
      rw [hr]
      exact State.gstStall_local s c p a count aligned inside
    obtain ⟨esc, pc, vreg, sreg, counted, others, written⟩ := gst_stores s c w p a aligned homes
    refine ⟨_, (exec_gst_issues h hu hf rfl rfl room hg reach hskip goes).trans ?_, pc, vreg, sreg, counted, fun i hi => ?_, fun l hl => others l fun i hi =>
      hl i ((mem_segsOf p i).mp hi).1⟩
    · rw [hr, State.settle_esc quiet esc]
    · by_cases hseg : i / 16 ∈ segsOf p
      · have := written _ hseg (i % 16) (by omega)
        rwa [Nat.div_add_mod] at this
      · rw [if_neg fun hbit => hseg (segsOf_active p i hi hbit), others _ fun j hj heq => hseg (by rwa [show i / 16 = j by omega])]
  · obtain ⟨hskip, room, count⟩ := hs
    have reach : s.unreachable (reachOf g) p = false := by rw [hr]; rfl
    have goes : s.gstStall c p (reachOf g) = .none := by
      rw [hr]
      exact if_neg (by omega)
    obtain ⟨outside, asked⟩ := State.gst_asks (f.setCore c x.go) c w p x e a nonempty
    have hexec := exec_gst_issues h hu hf rfl rfl room hg reach hskip goes
    rw [hr] at hexec
    generalize (f.setCore c x.go).gstDoes c w p x (.there e a) = u at outside asked hexec
    have ucore : u.core c = { x.go with reqSeq := x.reqSeq + 1 } := by
      refine (State.core_fabric outside c).trans ((State.core_modCore _ _ _ c.isLt).trans ?_)
      rw [State.core_setCore _ _ _ c.isLt]
      rfl
    have core : (u.modCore c (fun x => x.countEffect.next)).core c = ({ x.go with reqSeq := x.reqSeq + 1 } : Core).countEffect.next := by
      rw [State.core_modCore _ _ _ c.isLt, ucore]
    refine ⟨_, hexec.trans (congrArg Host.Outcome.next (State.settle_quiet ?_)), (State.mem_gstsOut _ _ _).mpr asked, by rw [core]; rfl, by rw [core]; rfl⟩
    refine (State.appliesInputs_congr (s := u) rfl).trans ((State.appliesInputs_fabric outside).trans ?_)
    exact (State.appliesInputs_congr (s.setCore_fetch_esc c x.go)).trans quiet
  · exact ⟨_, exec_gst_waits h quiet hu hf rfl rfl room hg reach full, rfl⟩
  · exact ⟨_, (exec_gld_faults h quiet hu hf (p := p) (g := g) rfl rfl).1 hg, rfl⟩
  · exact ⟨_, (exec_gld_faults h quiet hu hf (p := p) (g := g) rfl rfl).2 hg reach, rfl⟩

end Sys2Proof.Machine
end


section
/-! O28: DMAQ and the start of DMA descriptors (04 R146, 07 R245 to R247). -/

namespace Sys2Proof.Machine

theorem exec_dmaq (c : Fin 144) (w : GenFields) (s : State) : exec (.dmaq c w) s = execDmaq c w s := rfl

/-! ## Reads of the records that a descriptor names -/

theorem State.touchRange_outsideMem (s : State) (a n cls : Nat) : (s.touchRange a n cls).outsideMem = s.outsideMem := by
  unfold State.touchRange
  split
  · rfl
  · exact s.each_outsideMem _ _ fun t i => t.touchRead_outsideMem _ cls

theorem State.touchSpan_outsideMem (s : State) (x : Nat × Nat) : (s.touchSpan x).outsideMem = s.outsideMem := by
  unfold State.touchSpan
  split
  · exact s.touchRange_outsideMem ..
  · rfl

theorem State.dmaTouch_outsideMem (s : State) (c : Nat) (go : Bool) (b : List Byte) : (s.dmaTouch c go b).outsideMem = s.outsideMem := by
  unfold State.dmaTouch
  dsimp only
  split
  · rfl
  · have records (l : List (Nat × Nat)) : (s.each l State.touchSpan).outsideMem = s.outsideMem := s.each_outsideMem l _ State.touchSpan_outsideMem
    split
    · exact (State.touchRange_outsideMem ..).trans (records _)
    · exact records _

/-! ## DMAQ -/

/-- What the issue of a DMAQ checks once its own fields and its descriptor's bytes are good. -/
def Core.dmaqIssue (x : Core) (w : GenFields) (p : DmaPlan) : Issue :=
  { addrS := [w.a.toNat]
    faults := (if !p.codes.isEmpty then [0x13] else []) ++ codes [(x.groupFull false, 0x17)]
    detail := p.codes.min?.getD 0
    stall := if x.skip = 0 ∧ 16 ≤ (vget x.dma w.func.toNat DmaEngine.reset).queue.length then .dmaQueue else .none }

/-- An engine with a request more in its queue, under the number `n`. -/
def DmaEngine.push (r : DmaReq) (n : BitVec 32) (y : DmaEngine) : DmaEngine := { y with queue := y.queue ++ [{ r with seq := n }], nextSeq := n + 1 }

/-- A core whose engine `e` has a request more in its queue, with the number that register `d` takes. -/
def Core.queueDma (e d : Nat) (r : DmaReq) (n : BitVec 32) (x : Core) : Core :=
  { x.setS d (n.setWidth 64) false with dma := vmod x.dma e (DmaEngine.push r n) }

/-- Whether a DMAQ has faulted for its descriptor. -/
def State.dmaqHit (s t : State) (c : Nat) : Bool :=
  (s.core c).run == .running && (t.core c).run == .faulted && ((t.core c).fault.map (·.code)) == some 0x13

/-- A DMAQ of a descriptor in local memory, under no write in flight and without poison in its records. -/
theorem exec_dmaq_issue (s : State) (c : Fin 144) (w : GenFields) (a : Nat) (u : State) (p : DmaPlan) (ha : a = ((s.core c).s w.a.toNat).toNat)
    (hu : u = s.dmaTouch c true ((s.core c).lread a 64)) (hp : p = u.dmaPlan ((s.core c).lread a 64) (s.jobOf c) (s.core c).stream)
    (ok : ({ d := true, a := true } : Uses).bad w = false) (hf : w.func ≤ 1) (h : u.fresh c) (aligned : a % 64 = 0) (inside : a + 64 ≤ 2 ^ 22)
    (quiet : (s.core c).conflict a (a + 64) false = false) (clean : p.poison = []) :
    ∃ t, t = u.issue c (genWord 0x60 w) ((s.core c).dmaqIssue w p) (fun t => t.effect c none (fun t =>
        ((t.bump 0x4040 0 1).modCore c (Core.queueDma w.func.toNat w.d.toNat p.req (vget (s.core c).dma w.func.toNat DmaEngine.reset).nextSeq), 0))) ∧
      exec (.dmaq c w) s = .next (if u.dmaqHit t c then t.bump 0x4040 1 1 else t) := by
  have outside' := s.dmaTouch_outsideMem c true ((s.core c).lread a 64)
  rw [← hu] at outside'
  have core : u.core c = s.core c := congrArg (fun v => v.core c) outside'
  have job : u.jobOf c = s.jobOf c := congrArg (fun v => v.jobOf c) outside'
  have first : codes [(({ d := true, a := true } : Uses).bad w, 0x02), (decide (1 < w.func.toNat), 0x03), (decide (a % 64 ≠ 0), 0x08), (outside a 64, 0x09)] = [] :=
    (codes_eq_nil _).mpr (by simp [ok, show ¬1 < w.func.toNat from Nat.not_lt.mpr hf, aligned, show outside a 64 = false from decide_eq_false (Nat.not_lt.mpr inside)])
  have own : (s.core c).lpoison a 64 = false := by
    rw [← core]
    exact Core.lpoison_none _ h.2.2.2 a 64
  refine ⟨_, rfl, ?_⟩
  rw [exec_dmaq]
  unfold execDmaq
  dsimp only
  rw [← ha, first, quiet, own]
  simp only [List.isEmpty_nil, Bool.not_false, Bool.and_true, Bool.false_eq_true, if_false, List.nil_append, Bool.true_and, if_true]
  rw [← hu, job, ← hp, clean]
  simp only [List.isEmpty_nil, Bool.not_true, Bool.false_or, Bool.false_eq_true, if_false, if_true]
  have flip (b : Bool) (x y : State) : (if (!b) = true then x else y) = if b then y else x := by cases b <;> rfl
  exact congrArg Host.Outcome.next (flip _ _ _)

theorem State.modCore_modCore (s : State) (c : Fin 144) (f g : Core → Core) : (s.modCore c f).modCore c g = s.setCore c (g (f (s.core c))) := by
  unfold State.modCore
  rw [State.core_setCore _ _ _ c.isLt, State.setCore_setCore]

theorem State.dmaqHit_running (s t : State) (c : Nat) (h : (t.core c).run = .running) : s.dmaqHit t c = false := by
  simp [State.dmaqHit, h]

theorem Core.queueDma_frame (e d : Nat) (r : DmaReq) (n : BitVec 32) (x : Core) : ∃ y, y = x.setS d (n.setWidth 64) false ∧ x.queueDma e d r n =
    { x with sreg := y.sreg, sPoison := y.sPoison, dma := vmod x.dma e (DmaEngine.push r n) } := by
  refine ⟨_, rfl, ?_⟩
  unfold Core.queueDma Core.setS
  split <;> rfl

section Dmaq
variable {s : State} {c : Fin 144} {w : GenFields} {a : Nat} {u : State} {p : DmaPlan} (ha : a = ((s.core c).s w.a.toNat).toNat)
  (hu : u = s.dmaTouch c true ((s.core c).lread a 64)) (hp : p = u.dmaPlan ((s.core c).lread a 64) (s.jobOf c) (s.core c).stream)
  (ok : ({ d := true, a := true } : Uses).bad w = false) (hf : w.func ≤ 1) (h : u.fresh c) (aligned : a % 64 = 0) (inside : a + 64 ≤ 2 ^ 22)
  (quiet : (s.core c).conflict a (a + 64) false = false) (clean : p.poison = [])
include ha hu hp ok hf h aligned inside quiet clean

/-- A descriptor without a code, where the engine's queue has room. -/
theorem exec_dmaq_queues (good : p.codes = []) (hskip : (s.core c).skip = 0) (room : (s.core c).groupFull false = false)
    (space : (vget (s.core c).dma w.func.toNat DmaEngine.reset).queue.length < 16) :
    exec (.dmaq c w) s = .next ((((u.fetch c).setCore c (s.core c).go).bump 0x4040 0 1).setCore c
      (((s.core c).go.queueDma w.func.toNat w.d.toNat p.req (vget (s.core c).dma w.func.toNat DmaEngine.reset).nextSeq).countEffect.next)) := by
  obtain ⟨t, ht, hexec⟩ := exec_dmaq_issue s c w a u p ha hu hp ok hf h aligned inside quiet clean
  have core : u.core c = s.core c := by rw [hu]; exact congrArg (fun v => v.core c) (s.dmaTouch_outsideMem c true _)
  have goes : ((s.core c).dmaqIssue w p).stall = .none := if_neg fun full => absurd full.2 (Nat.not_le.mpr space)
  have clear : ((s.core c).dmaqIssue w p).faults = [] := by simp [Core.dmaqIssue, good, room, codes]
  rw [State.issue_fresh u c _ _ _ h clear goes, core, State.effect_counts _ _ _ _ (by rw [State.core_setCore _ _ _ c.isLt]; exact hskip), State.modCore_modCore] at ht
  have issued : (((u.fetch c).setCore c (s.core c).go).bump 0x4040 0 1).core c = (s.core c).go := State.core_setCore _ _ _ c.isLt
  rw [issued] at ht
  have running : (t.core c).run = .running := by
    obtain ⟨y, -, frame⟩ := Core.queueDma_frame w.func.toNat w.d.toNat p.req (vget (s.core c).dma w.func.toNat DmaEngine.reset).nextSeq (s.core c).go
    rw [ht, State.core_setCore _ _ _ c.isLt, frame]
    exact (congrArg Core.run core.symm).trans h.1.1
  rw [hexec, u.dmaqHit_running t c running, ht]
  rfl

/-- A descriptor without a code, where the engine's queue is full. -/
theorem exec_dmaq_waits (good : p.codes = []) (hskip : (s.core c).skip = 0) (room : (s.core c).groupFull false = false)
    (full : 16 ≤ (vget (s.core c).dma w.func.toNat DmaEngine.reset).queue.length) :
    exec (.dmaq c w) s = .next ((u.fetch c).setCore c { (s.core c).go with stall := .dmaQueue }) := by
  obtain ⟨t, ht, hexec⟩ := exec_dmaq_issue s c w a u p ha hu hp ok hf h aligned inside quiet clean
  have core : u.core c = s.core c := by rw [hu]; exact congrArg (fun v => v.core c) (s.dmaTouch_outsideMem c true _)
  have waits : ((s.core c).dmaqIssue w p).stall = .dmaQueue := if_pos ⟨hskip, full⟩
  have clear : ((s.core c).dmaqIssue w p).faults = [] := by simp [Core.dmaqIssue, good, room, codes]
  rw [State.issue_stall u c _ _ _ h clear (by rw [waits]; exact Stall.noConfusion), waits, core] at ht
  have running : (t.core c).run = .running := by
    rw [ht, State.core_setCore _ _ _ c.isLt]
    exact (congrArg Core.run core.symm).trans h.1.1
  rw [hexec, u.dmaqHit_running t c running, ht]
  rfl

/-- A descriptor with codes faults and carries the smallest. -/
theorem exec_dmaq_faults (f : Nat) (hmem : f ∈ p.codes) (least : ∀ g ∈ p.codes, f ≤ g) :
    exec (.dmaq c w) s = .next (((u.fetch c).coreFault c 0x13 (genWord 0x60 w) f).bump 0x4040 1 1) := by
  obtain ⟨t, ht, hexec⟩ := exec_dmaq_issue s c w a u p ha hu hp ok hf h aligned inside quiet clean
  have found : p.codes.isEmpty = false := by
    cases hl : p.codes with
    | nil => simp [hl] at hmem
    | cons => rfl
  have code : ((s.core c).dmaqIssue w p).faults.min? = some 0x13 := by
    cases hfull : (s.core c).groupFull false <;> simp [Core.dmaqIssue, found, hfull, codes]
  have detail : ((s.core c).dmaqIssue w p).detail = f := by
    show p.codes.min?.getD 0 = f
    rw [min?_eq_some_of_least _ f hmem least]
    rfl
  rw [State.issue_fault u c _ _ _ _ h code, detail] at ht
  have hit : u.dmaqHit t c = true := by
    unfold State.dmaqHit
    rw [ht, State.coreFault_core _ _ c.isLt, h.1.1]
    rfl
  rw [hexec, hit, ht]
  rfl

end Dmaq

/-- The core of a queued descriptor. -/
theorem dmaq_queued (x : Core) (e : Nat) (he : e ≤ 1) (d : BitVec 5) (r : DmaReq) :
    let q := vget x.dma e DmaEngine.reset
    let y := (x.go.queueDma e d.toNat r q.nextSeq).countEffect.next
    vget y.dma e DmaEngine.reset = { q with queue := q.queue ++ [{ r with seq := q.nextSeq }], nextSeq := q.nextSeq + 1 } ∧
    vget y.dma (1 - e) DmaEngine.reset = vget x.dma (1 - e) DmaEngine.reset ∧ (d ≠ 0 → y.s d.toNat = q.nextSeq.setWidth 64) ∧ (∀ r, r ≠ d.toNat → y.s r = x.s r) ∧
    y.vreg = x.vreg ∧ y.lmem = x.lmem ∧ y.effects.count = x.effects.count + 1 ∧ y.pc = x.pc + 16 := by
  intro q y
  obtain ⟨z, hz, frame⟩ := Core.queueDma_frame e d.toNat r q.nextSeq x.go
  have regs (i : Nat) : y.s i = (x.go.setS d.toNat (q.nextSeq.setWidth 64) false).s i := by
    rw [← hz]
    exact (congrArg (fun v : Core => v.s i) frame :)
  have engines : y.dma = vset x.dma e (DmaEngine.push r q.nextSeq q) := vmod_eq_vset x.dma e (DmaEngine.push r q.nextSeq) DmaEngine.reset
  refine ⟨by rw [engines, vget_vset_same _ _ _ _ (by omega)]; rfl, by rw [engines, vget_vset_ne _ _ _ _ _ (by omega)], fun hd => ?_, fun i hi => ?_, ?_, ?_, ?_, ?_⟩
  · exact (regs _).trans (Core.s_setS _ _ _ _ (fun h0 => hd (BitVec.eq_of_toNat_eq h0)) d.isLt)
  · exact (regs i).trans (Core.s_setS_ne _ _ _ _ _ hi)
  · exact (congrArg Core.vreg frame :)
  · exact (congrArg Core.lmem frame :)
  · exact (congrArg (fun v : Core => v.effects.count + 1) frame :)
  · exact (congrArg (fun v : Core => v.pc + 16) frame :)

/-! ## The start of a descriptor -/

/-- The start of a descriptor that has left its queue. -/
def DmaReq.started (r : DmaReq) : DmaRun := { req := r, waiting := 0, fetched := [], moved := false, code := 0, poisoned := false }

/-- Whether the head of an engine's queue may start. -/
def State.dmaRoom (s : State) (c e : Nat) (r : DmaReq) : Prop :=
  (vget (s.core c).dma e DmaEngine.reset).running.length < 4 ∧
  (∀ y ∈ (vget (s.core c).dma e DmaEngine.reset).running, ∀ f ∈ s.feet y.req, ∀ g ∈ s.feet r, f.write = true ∨ g.write = true → f.meets g = false) ∧
  ¬(r.op = 5 ∧ r.dstEp = none ∧ s.offline [r.dst / 64] s.adderChan = true) ∧ (s.core c).fenced = false

theorem State.dmaNext_eq (s : State) (c e : Nat) (r : DmaReq) (q : List DmaReq) (hq : (vget (s.core c).dma e DmaEngine.reset).queue = r :: q) :
    (s.dmaRoom c e r → s.dmaNext c e = some r) ∧ (¬s.dmaRoom c e r → s.dmaNext c e = none) := by
  have clash : (vget (s.core c).dma e DmaEngine.reset).running.any (fun y => (s.feet y.req).any (fun f => (s.feet r).any (fun g => (f.write || g.write) && f.meets g))) = false ↔
      ∀ y ∈ (vget (s.core c).dma e DmaEngine.reset).running, ∀ f ∈ s.feet y.req, ∀ g ∈ s.feet r, f.write = true ∨ g.write = true → f.meets g = false := by
    simp only [List.any_eq_false, Bool.not_eq_true, Bool.and_eq_false_imp, Bool.or_eq_true]
  have waits : (r.op == 5 && r.dstEp.isNone && s.offline [r.dst / 64] s.adderChan) = false ↔
      ¬(r.op = 5 ∧ r.dstEp = none ∧ s.offline [r.dst / 64] s.adderChan = true) := by
    rw [← Bool.not_eq_true]
    simp only [Bool.and_eq_true, beq_iff_eq, Option.isNone_iff_eq_none, and_assoc]
  unfold State.dmaNext State.dmaRoom
  dsimp only
  rw [hq]
  dsimp only
  rw [← clash, ← waits, ← Nat.not_le, ← Bool.not_eq_true (s.core c).fenced, ← Bool.not_eq_true, ← Bool.not_eq_true]
  refine ⟨fun ⟨count, free, online, unfenced⟩ => if_neg ?_, fun stays => if_pos ?_⟩
  · simp only [not_or]
    exact ⟨count, free, online, unfenced⟩
  · by_contra goes
    simp only [not_or] at goes
    exact stays goes

/-- The state once the head `r` of an engine's queue runs and `q` is left of the queue. -/
def State.dmaStarted (s : State) (c e : Nat) (r : DmaReq) (q : List DmaReq) : State :=
  let d := vget (s.core c).dma e DmaEngine.reset
  s.setCore c { s.core c with dma := vset (s.core c).dma e { d with queue := q, running := d.running ++ [r.started] } }

theorem State.dmaStart_starts (s : State) (c e : Nat) (r : DmaReq) (q : List DmaReq) (hq : (vget (s.core c).dma e DmaEngine.reset).queue = r :: q)
    (room : s.dmaRoom c e r) : s.dmaStart r.op c e = ((s.dmaStarted c e r q).dmaBegin c e r).settle := by
  have engines : vmod (s.core c).dma e (fun d => { d with queue := d.queue.drop 1, running := d.running ++ [r.started] }) =
      vset (s.core c).dma e { vget (s.core c).dma e DmaEngine.reset with queue := q, running := (vget (s.core c).dma e DmaEngine.reset).running ++ [r.started] } := by
    rw [vmod_eq_vset _ _ _ DmaEngine.reset]
    dsimp only
    rw [hq, List.drop_one, List.tail_cons]
  have started : s.modCore c (fun x => { x with dma := vmod x.dma e (fun d => { d with queue := d.queue.drop 1, running := d.running ++ [r.started] }) }) =
      s.dmaStarted c e r q := congrArg (fun v => s.setCore c { s.core c with dma := v }) engines
  unfold State.dmaStart
  rw [(s.dmaNext_eq c e r q hq).1 room]
  dsimp only
  rw [if_neg (by simp), ← started]
  rfl

theorem State.dmaStart_stays (s : State) (c e : Nat) (r : DmaReq) (q : List DmaReq) (hq : (vget (s.core c).dma e DmaEngine.reset).queue = r :: q) (o : Nat)
    (h : ¬s.dmaRoom c e r ∨ o ≠ r.op) : s.dmaStart o c e = s := by
  obtain ⟨goes, stays⟩ := s.dmaNext_eq c e r q hq
  unfold State.dmaStart
  by_cases room : s.dmaRoom c e r
  · rw [goes room]
    exact if_pos (h.resolve_left (not_not_intro room)).symm
  · rw [stays room]

/-- The rows that start descriptors, by operation. -/
def dmaRow (c : Fin 144) (e : Fin 2) (o : Nat) : Instr :=
  [.dmaCopy c e, .dmaGather c e, .dmaScatter c e, .dmaScatterAdd c e, .dmaWindow c e, .dmaAtomic c e, .dmaScan c e, .dmaCombine c e].getD o (.dmaCopy c e)

theorem exec_dmaRow (s : State) (c : Fin 144) (e : Fin 2) (o : Nat) (ho : o ≤ 7) : exec (dmaRow c e o) s = .next (s.dmaStart o c e) := by
  interval_cases o <;> rfl

theorem exec_dmaRow_starts (s : State) (c : Fin 144) (e : Fin 2) (r : DmaReq) (q : List DmaReq) (hq : (vget (s.core c).dma e DmaEngine.reset).queue = r :: q)
    (hop : r.op ≤ 7) (room : s.dmaRoom c e r) : exec (dmaRow c e r.op) s = .next ((s.dmaStarted c e r q).dmaBegin c e r).settle := by
  rw [exec_dmaRow s c e r.op hop, s.dmaStart_starts c e r q hq room]

/-- A descriptor of a move begins its move. -/
theorem State.dmaBegin_move (s : State) (c e : Nat) (r : DmaReq) (h : r.op ≤ 4) : s.dmaBegin c e r = s.beginMove c e r := by
  unfold State.dmaBegin
  split
  · next h5 => omega
  · next h6 => omega
  · next h7 => omega
  · rfl

/-- A copy of a tensor onto itself moves nothing. -/
theorem State.beginMove_selfCopy (s : State) (c e : Nat) (r : DmaReq) (a b : Side) (z : Box) (hs : s.sides r = some (a, b)) (hb : r.box = some z) (hop : r.op = 0)
    (clean : ∀ ln ∈ dmaGridLines a b r z [], ((s.each (dmaGridLines a b r z []) (fun s ln => s.touchRead ln r.locality)).line ln).2 = false)
    (self : r.selfCopy a b z = true) :
    s.beginMove c e r = (s.each (dmaGridLines a b r z []) (fun s ln => s.touchRead ln r.locality)).modRun c e r.seq (fun y => { y with moved := true }) := by
  have plain : ¬(1 ≤ r.op ∧ r.op ≤ 3) := by omega
  have noIndex : s.dmaIndex r a b z = [] := if_neg plain
  unfold State.beginMove
  rw [hs, hb]
  dsimp only
  rw [if_neg plain, if_neg plain, noIndex]
  generalize s.each (dmaGridLines a b r z []) (fun s ln => s.touchRead ln r.locality) = t at clean ⊢
  have poisoned : (dmaGridLines a b r z []).filter (fun ln => (t.line ln).2) = [] := List.filter_eq_nil_iff.mpr fun ln hln => by simp [clean ln hln]
  rw [poisoned]
  simp [self]

/-- A bad index moves nothing. -/
theorem State.beginMove_badIndex (s : State) (c e : Nat) (r : DmaReq) (a b : Side) (z : Box) (hs : s.sides r = some (a, b)) (hb : r.box = some z) (hop : 1 ≤ r.op ∧ r.op ≤ 3)
    (v : State) (hv : v = s.touchRange r.xrec (4 * z.ext.getD r.subop 0) r.locality) (clean : v.poisonedIn r.xrec (4 * z.ext.getD r.subop 0) = [])
    (bad : Index.bad ∈ v.dmaIndex r a b z) :
    s.beginMove c e r = (v.each (dmaGridLines a b r z (v.dmaIndex r a b z)) (fun s ln => s.touchRead ln r.locality)).modRun c e r.seq
      (fun y => { y with moved := true, code := 0x0709 }) := by
  have found : (v.dmaIndex r a b z).any (· == .bad) = true := List.any_eq_true.mpr ⟨_, bad, by simp⟩
  unfold State.beginMove
  rw [hs, hb]
  dsimp only
  rw [if_pos hop, if_pos hop, ← hv, clean, found]
  rfl

/-- Settles O28: a DMAQ reads its records through the Tun, which changes no core, and queues the request or faults; the row of the head's operation starts it
exactly when the engine has room for it. -/
theorem dmaIssue : Obligations.DmaIssue := by
  unfold Obligations.DmaIssue
  refine ⟨?_, ?_⟩
  · intro s c w ok hf x a e u p d h aligned inside quiet _ clean
    have outside := s.dmaTouch_outsideMem c true (x.lread a 64)
    have cores (k : Nat) : u.core k = s.core k := congrArg (fun v => v.core k) outside
    have counts (m : Nat) (hm : m < 256) : (u.fetch c).objGet 0x4040 m = s.objGet 0x4040 m :=
      State.objGet_of_outsideMem _ _ ((u.fetch_outsideMem c).trans outside) 0x4040 m (by simp) hm
    refine ⟨fun good hskip room space => ?_, fun f hmem least => ?_, fun good hskip room full => exec_dmaq_waits rfl rfl rfl ok hf h aligned inside quiet clean good hskip room full⟩
    · have hexec := exec_dmaq_queues (u := u) (p := p) rfl rfl rfl ok hf h aligned inside quiet clean good hskip room space
      refine ⟨_, hexec, ?_⟩
      dsimp only
      rw [State.core_setCore _ _ _ c.isLt]
      obtain ⟨engine, other, dest, regs, vreg, lmem, count, pc⟩ := dmaq_queued x e hf w.d p.req
      refine ⟨engine, other, dest, regs, vreg, lmem, count, pc, ?_, fun k hk => ?_⟩
      · exact (State.objGet_bump _ 0x4040 0 1).trans (by rw [← counts 0 (by decide)]; rfl)
      · rw [State.core_setCore_ne _ _ _ _ hk]
        exact (State.core_setCore_ne _ _ _ _ hk).trans ((u.fetch_core c k).trans (cores k))
    · refine ⟨_, exec_dmaq_faults (u := u) (p := p) rfl rfl rfl ok hf h aligned inside quiet clean f hmem least, ?_, ?_⟩
      · exact (congrArg (fun t : State => { (u.fetch c).coreFault c 0x13 (genWord 0x60 w) f with obj := t.obj }) ((u.fetch c).coreFault_rest c c.isLt 0x13 (genWord 0x60 w) f).symm :)
      · have obj : ((u.fetch c).coreFault c 0x13 (genWord 0x60 w) f).obj = (u.fetch c).obj := (congrArg State.obj ((u.fetch c).coreFault_rest c c.isLt 0x13 (genWord 0x60 w) f) :)
        rw [State.objGet_bump, ← counts 1 (by decide)]
        unfold State.objGet
        rw [obj]
  · intro s c e r q x d run u row hq hop room moves asks joins
    refine ⟨fun go quietInputs => ?_, fun stop => ?_, fun o ho hne => ?_, ?_⟩
    · have start := exec_dmaRow_starts s c e r q hq hop go
      have move (o : Nat) (h : r.op = o) (ho : o ≤ 4) : moves (dmaRow c e o) := by
        subst h
        exact start.trans (congrArg (fun t : State => Host.Outcome.next t.settle) (State.dmaBegin_move _ _ _ _ ho))
      have join (o : Nat) (h : r.op = o) (ho : o = 6 ∨ o = 7) : joins (dmaRow c e o) := by
        subst h
        refine start.trans ?_
        refine congrArg Host.Outcome.next ?_
        have begun : (s.dmaStarted c e r q).dmaBegin c e r = { u with grist := { u.grist with pending := u.grist.pending ++ [(c.val, e.val, r.seq)] } } := by
          unfold State.dmaBegin
          rcases ho with h | h <;> rw [h] <;> rfl
        rw [begun]
        exact State.settle_esc quietInputs rfl
      have ask (h : r.op = 5) : asks (dmaRow c e 5) := by
        rw [h] at start
        refine start.trans (congrArg (fun t : State => Host.Outcome.next t.settle) ?_)
        unfold State.dmaBegin
        rw [h]
        rfl
      exact ⟨fun h => move 0 h (by decide), fun h => move 1 h (by decide), fun h => move 2 h (by decide), fun h => move 3 h (by decide), fun h => move 4 h (by decide),
        ask, fun h => join 6 h (.inl rfl), fun h => join 7 h (.inr rfl)⟩
    · rw [show row r.op = dmaRow c e r.op from rfl, exec_dmaRow s c e r.op hop, s.dmaStart_stays c e r q hq r.op (.inl stop)]
    · rw [show row o = dmaRow c e o from rfl, exec_dmaRow s c e o ho, s.dmaStart_stays c e r q hq o (.inr hne)]
    · intro a b z hs hb hmove grid
      refine ⟨fun h0 hclean hself => ?_, ?_⟩
      · exact u.beginMove_selfCopy c e r a b z hs hb h0 hclean hself
      · intro h1 h3 v hclean hbad
        exact u.beginMove_badIndex c e r a b z hs hb ⟨h1, h3⟩ v rfl hclean hbad

end Sys2Proof.Machine
end

section
/-! SUPPORT. Bytes of lines and of device memory (06 R194): what a view gives byte by byte, and which bytes a merge of two lines takes (06 R202). -/

namespace Sys2Proof.Machine

/-- Byte `j` of a line. -/
def lineByte (l : Line) (j : Nat) : Byte := l.extractLsb' (8 * j) 8

/-- A byte of device memory, as every reader sees it. -/
def State.byte (s : State) (x : Nat) : Byte := lineByte (s.line (x / 64)).1 (x % 64)

theorem lineBytes_eq_map (l : Line) : lineBytes l = (List.range 64).map (lineByte l) :=
  List.ext_getElem (by simp [length_lineBytes]) fun i hi _ => by
    rw [length_lineBytes] at hi
    rw [getElem_lineBytes l i hi, List.getElem_map, List.getElem_range, lineByte]

theorem flatMap_lineBytes (f : Nat → Line) (m : Nat) :
    (List.range m).flatMap (fun i => lineBytes (f i)) = (List.range (64 * m)).map (fun j => lineByte (f (j / 64)) (j % 64)) := by
  induction m with
  | zero => rfl
  | succ m ih =>
    rw [List.range_succ, List.flatMap_append, ih, Nat.mul_succ, List.range_add, List.map_append, List.map_map, List.flatMap_singleton, lineBytes_eq_map]
    refine congrArg _ (List.map_congr_left fun j hj => ?_)
    have hj : j < 64 := List.mem_range.mp hj
    rw [Function.comp_apply, show (64 * m + j) / 64 = m by omega, show (64 * m + j) % 64 = j by omega]

theorem State.view_eq_map (s : State) (a n : Nat) : s.view a n = (List.range n).map (fun i => s.byte (a + i)) := by
  have room : n ≤ 64 * ceilDiv (a % 64 + n) 64 - a % 64 := by unfold ceilDiv; omega
  unfold State.view
  rw [flatMap_lineBytes (fun i => (s.line (a / 64 + i)).1)]
  refine List.ext_getElem (by simp [room]) fun i hi _ => ?_
  simp only [List.getElem_take, List.getElem_drop, List.getElem_map, List.getElem_range, State.byte]
  rw [show (a + i) / 64 = a / 64 + (a % 64 + i) / 64 by omega, show (a + i) % 64 = (a % 64 + i) % 64 by omega]

@[simp] theorem State.length_view (s : State) (a n : Nat) : (s.view a n).length = n := by simp [State.view_eq_map]

/-- A view inside another one. -/
theorem State.take_drop_view (s : State) (a n i m : Nat) (h : i + m ≤ n) : ((s.view a n).drop i).take m = s.view (a + i) m := by
  refine List.ext_getElem (by simp; omega) fun j hj _ => ?_
  simp [State.view_eq_map, Nat.add_assoc]

theorem State.getD_view (s : State) (a n i : Nat) (h : i < n) : ((s.view a n).getD i 0).toNat = leNat (s.view (a + i) 1) := by
  simp [State.view_eq_map, h, leNat]

/-- States in which every line has the same bytes give the same views. -/
theorem State.view_congr {s t : State} (h : ∀ l, (t.line l).1 = (s.line l).1) (a n : Nat) : t.view a n = s.view a n := by
  simp only [State.view, h]

/-! ## Bytes of a merge -/

theorem getD_eq_ofNat (b : List Byte) (j : Nat) : b.getD j 0 = BitVec.ofNat 8 (leNat b / 256 ^ j) := by
  by_cases h : j < b.length
  · have := getD_leBytes (leNat b) b.length j h
    rwa [leBytes_leNat] at this
  · have small : leNat b < 256 ^ j := (leNat_lt b).trans_le (Nat.pow_le_pow_right (by decide) (by omega))
    rw [Nat.div_eq_of_lt small]
    simp [List.getD, h]

theorem lineByte_lineOf (b : List Byte) (j : Nat) (h : j < 64) : lineByte (lineOf b) j = b.getD j 0 := by
  rw [getD_eq_ofNat]
  refine BitVec.eq_of_toNat_eq ?_
  rw [lineByte, lineOf, BitVec.extractLsb'_toNat, BitVec.toNat_ofNat, BitVec.toNat_ofNat, Nat.shiftRight_eq_div_pow, div_mod_of_mod _ _ _ _ (by omega),
    show 256 = 2 ^ 8 from rfl, ← pow_mul]

theorem lineByte_mergeLine (old new : Line) (mask : BitVec 64) (j : Nat) (h : j < 64) :
    lineByte (mergeLine old new mask) j = if mask.getLsbD j then lineByte new j else lineByte old j := by
  rw [mergeLine, lineByte_lineOf _ _ h, List.getD_eq_getElem _ _ (by simpa using h)]
  simp [lineByte]

theorem line_ext {l m : Line} (h : ∀ j, j < 64 → lineByte l j = lineByte m j) : l = m := by
  rw [← lineOf_lineBytes l, ← lineOf_lineBytes m, lineBytes_eq_map, lineBytes_eq_map]
  exact congrArg lineOf (List.map_congr_left fun j hj => h j (List.mem_range.mp hj))

/-- A merge of the bytes that another merge has selected. -/
theorem mergeLine_mergeLine (old between new : Line) (mask : BitVec 64) : mergeLine old (mergeLine between new mask) mask = mergeLine old new mask :=
  line_ext fun j hj => by
    rw [lineByte_mergeLine _ _ _ _ hj, lineByte_mergeLine _ _ _ _ hj, lineByte_mergeLine _ _ _ _ hj]
    split <;> rfl

end Sys2Proof.Machine
end

section
/-! SUPPORT. What each raw update of the memories leaves of every line, and what a read through the Tun leaves: the state after it reads as the one before (06 R199, R221). -/

namespace Sys2Proof.Machine

/-! ## The objects that place the windows -/

/-- The members of objects that say where the windows of device memory lie (06 Table 1, R195). -/
def placeMembers : List (Nat × Nat) := [(0x4000, 0), (0x4000, 1), (0x3202, 0), (0x6010, 0)]

/-- An update of objects and cores that keeps where the windows lie and what the local memories hold keeps every line. -/
theorem State.line_of_places {s t : State} (mem : t.mem = s.mem) (cores : t.cores = s.cores) (places : ∀ x ∈ placeMembers, t.objGet x.1 x.2 = s.objGet x.1 x.2) :
    t.home = s.home ∧ t.line = s.line := by
  have stack (k : Nat) : t.stack k = s.stack k := by unfold State.stack; rw [mem]
  have mapped : t.mapped = s.mapped := by
    funext a
    unfold State.mapped State.tailBytes State.scratchLeaves
    rw [mem, places (0x4000, 0) (by decide), places (0x4000, 1) (by decide), places (0x3202, 0) (by decide), places (0x6010, 0) (by decide)]
  have home : t.home = s.home := State.home_congr mapped fun k => by rw [stack]
  have unlisted : t.unlisted = s.unlisted := State.unlisted_congr mapped (by rw [mem]) fun k => by rw [stack]
  refine ⟨home, funext fun l => ?_⟩
  unfold State.line State.combEntry State.core
  rw [home, unlisted, mem, cores]

/-- A statistic that is no place of a window keeps every line. -/
theorem State.line_bump (s : State) (o m n : Nat) (h : ∀ x ∈ placeMembers, 256 * x.1 + x.2 ≠ 256 * o + m) :
    (s.bump o m n).home = s.home ∧ (s.bump o m n).line = s.line :=
  State.line_of_places rfl rfl fun x hx => State.objGet_objSet_ne s o m _ x.1 x.2 (h x hx)

/-! ## Stores, poison and combining entries -/

/-- The lines that a quarter's Tun combines. -/
def State.combLines (s : State) (q : Nat) : List Nat := (vget s.mem.comb q []).map (·.line)

theorem State.combEntry_none (s : State) (q ln : Nat) (h : ln ∉ s.combLines q) : s.combEntry q ln = none := by
  refine List.find?_eq_none.mpr fun e he heq => h ?_
  exact List.mem_map.mpr ⟨e, he, by simpa using heq⟩

/-- A change of stored bytes, poison and combining entries alone keeps the map. -/
theorem State.home_of_stores {s t : State} (outside : t.outsideMem = s.outsideMem) {cells : Mem} {comb : Vector (List CombEntry) 4} {poison : List Nat}
    (mem : t.mem = { s.mem with cells := cells, comb := comb, poison := poison }) :
    t.home = s.home ∧ t.unlisted = s.unlisted ∧ (∀ k, t.stack k = s.stack k) ∧ t.cores = s.cores := by
  have stack (k : Nat) : t.stack k = s.stack k := by unfold State.stack; rw [mem]
  have mapped : t.mapped = s.mapped := State.mapped_congr outside (by rw [mem]) (by rw [mem])
  exact ⟨State.home_congr mapped fun k => by rw [stack], State.unlisted_congr mapped (by rw [mem]) fun k => by rw [stack], stack, congrArg (fun u => u.cores) outside⟩

theorem State.errorFree_of_stores {s t : State} {cells : Mem} {comb : Vector (List CombEntry) 4} {poison : List Nat}
    (mem : t.mem = { s.mem with cells := cells, comb := comb, poison := poison }) (free : s.errorFree) : t.errorFree := by
  obtain ⟨errors, hidden, pins⟩ := free
  unfold State.errorFree State.stack
  rw [mem]
  exact ⟨errors, hidden, pins⟩

/-- A line whose own bytes, poison and combining entries a change has kept reads as before. -/
theorem State.line_of_stores {s t : State} (outside : t.outsideMem = s.outsideMem) {cells : Mem} {comb : Vector (List CombEntry) 4} {poison : List Nat}
    (mem : t.mem = { s.mem with cells := cells, comb := comb, poison := poison }) (l : Nat)
    (bytes : ∀ u, mgetN u cells (64 * l) 64 = mgetN u s.mem.cells (64 * l) 64) (bad : poison.contains l = s.mem.poison.contains l)
    (entries : ∀ q, t.combEntry q l = s.combEntry q l) : t.line l = s.line l := by
  obtain ⟨home, unlisted, -, cores⟩ := State.home_of_stores outside mem
  unfold State.line State.core
  simp only [home, unlisted, cores, entries, mem, bytes, bad]

theorem State.line_single (s : State) (ln k : Nat) (h : s.home (64 * ln) = some (.hbm k)) (single : s.combEntry (k / 3) ln = none) :
    s.line ln = (lineOf (mgetN s.unlisted s.mem.cells (64 * ln) 64), s.mem.poison.contains ln) := by
  unfold State.line
  rw [h]
  dsimp only
  rw [single]

theorem State.line_combined (s : State) (ln k : Nat) (e : CombEntry) (h : s.home (64 * ln) = some (.hbm k)) (he : s.combEntry (k / 3) ln = some e) :
    s.line ln = (mergeLine (lineOf (mgetN s.unlisted s.mem.cells (64 * ln) 64)) e.data e.mask, s.mem.poison.contains ln || e.poison) := by
  unfold State.line
  rw [h]
  dsimp only
  rw [he]

theorem contains_sput_same (l : List Nat) (i : Nat) (b : Bool) : (sput l i b).contains i = b := by
  rw [Bool.eq_iff_iff]
  cases b <;> simp [sput]

theorem State.line_putHbm_ne (s : State) (ln : Nat) (d : Line) (mask : BitVec 64) (p : Bool) (l : Nat) (hl : l ≠ ln) : (s.putHbm ln d mask p).line l = s.line l :=
  State.line_of_stores (s.putHbm_outsideMem ln d mask p) rfl l (fun u => mgetN_msetN_line_ne _ u _ _ _ _ hl) (contains_sput_ne _ _ _ _ hl) fun _ => rfl

/-- A line of HBM that no entry combines, after a write of its store. -/
theorem State.line_putHbm_same (s : State) (ln : Nat) (d : Line) (mask : BitVec 64) (p : Bool) (k : Nat) (h : s.home (64 * ln) = some (.hbm k))
    (single : s.combEntry (k / 3) ln = none) :
    (s.putHbm ln d mask p).line ln = (mergeLine (s.line ln).1 d mask, p || (mask != fullMask && (s.line ln).2)) := by
  obtain ⟨home, unlisted, -, -⟩ := State.home_of_stores (s.putHbm_outsideMem ln d mask p) (t := s.putHbm ln d mask p) rfl
  rw [State.line_single (s.putHbm ln d mask p) ln k (by rw [home]; exact h) single, State.line_single s ln k h single, unlisted]
  exact Prod.ext (lineOf_mgetN_msetN _ _ _ _) (contains_sput_same _ _ _)

theorem State.dropEntry_none (s : State) (q ln : Nat) (h : s.combEntry q ln = none) : s.dropEntry q ln = s := by
  simp [State.dropEntry, h]

theorem State.dropEntry_combLines (s : State) (q ln p : Nat) : ((s.dropEntry q ln).combLines p).Sublist (s.combLines p) := by
  unfold State.dropEntry
  split
  · show ((vget (vmod s.mem.comb q _) p []).map (·.line)).Sublist _
    rw [vget_vmod _ _ _ _ _ rfl]
    split
    · exact List.filter_sublist.map _
    · exact .refl _
  · exact .refl _

theorem State.line_dropEntry_ne (s : State) (q ln l : Nat) (hl : l ≠ ln) : (s.dropEntry q ln).line l = s.line l := by
  obtain ⟨comb, mem, entries⟩ := s.dropEntry_mem q ln
  refine State.line_of_stores (s.dropEntry_outsideMem q ln) mem l (fun _ => rfl) rfl fun p => ?_
  unfold State.combEntry
  rw [mem]
  exact (entries p l).trans (if_neg fun h => hl h.2)

/-- The line whose entry is freed reads as its store holds it. -/
theorem State.line_dropEntry_same (s : State) (ln k : Nat) (h : s.home (64 * ln) = some (.hbm k)) :
    (s.dropEntry (k / 3) ln).combEntry (k / 3) ln = none ∧
    (s.dropEntry (k / 3) ln).line ln = (lineOf (mgetN s.unlisted s.mem.cells (64 * ln) 64), s.mem.poison.contains ln) := by
  obtain ⟨comb, mem, entries⟩ := s.dropEntry_mem (k / 3) ln
  obtain ⟨home, unlisted, -, -⟩ := State.home_of_stores (s.dropEntry_outsideMem (k / 3) ln) mem
  have single : (s.dropEntry (k / 3) ln).combEntry (k / 3) ln = none := by
    unfold State.combEntry
    rw [mem]
    exact (entries _ _).trans (if_pos ⟨rfl, rfl⟩)
  refine ⟨single, ?_⟩
  rw [State.line_single _ ln k (by rw [home]; exact h) single, unlisted, mem]

/-! ## States that read alike -/

/-- State `t` reads as state `s`: no error waits, the places and the bytes are the same, a clean line is clean, and no entry has come to be combined. -/
structure State.ReadsAs (s t : State) : Prop where
  free : t.errorFree
  home : t.home = s.home
  out : t.stackOut = s.stackOut
  data : ∀ l, (t.line l).1 = (s.line l).1
  clean : ∀ l, (s.line l).2 = false → (t.line l).2 = false
  comb : ∀ q, (t.combLines q).Sublist (s.combLines q)

theorem State.ReadsAs.refl {s : State} (free : s.errorFree) : s.ReadsAs s := ⟨free, rfl, rfl, fun _ => rfl, fun _ h => h, fun _ => .refl _⟩

theorem State.ReadsAs.trans {s t u : State} (h : s.ReadsAs t) (h' : t.ReadsAs u) : s.ReadsAs u :=
  ⟨h'.free, h'.home.trans h.home, h'.out.trans h.out, fun l => (h'.data l).trans (h.data l), fun l hl => h'.clean l (h.clean l hl), fun q => (h'.comb q).trans (h.comb q)⟩

theorem State.ReadsAs.each {α : Type} {s : State} (free : s.errorFree) (l : List α) (f : State → α → State) (hf : ∀ (t : State) a, t.errorFree → t.ReadsAs (f t a)) :
    s.ReadsAs (s.each l f) :=
  State.each_invariant (P := s.ReadsAs) s l f (.refl free) fun t ht a _ => ht.trans (hf t a ht.free)

theorem State.ReadsAs.view {s t : State} (h : s.ReadsAs t) (a n : Nat) : t.view a n = s.view a n := State.view_congr h.data a n

theorem State.stackOut_congr {s t : State} (h : ∀ k, (t.stack k).readView = (s.stack k).readView) : t.stackOut = s.stackOut :=
  funext fun k => congrArg (fun v => v.2.1) (h k)

theorem State.ReadsAs.of_readView {s t : State} (h : t.readView = s.readView) (free : s.errorFree) : s.ReadsAs t where
  free := State.errorFree_congr h free
  home := State.home_congr (State.mapped_view h) (State.stack_congr h)
  out := State.stackOut_congr (State.stack_congr h)
  data _ := by rw [State.line_congr h]
  clean _ hl := by rwa [State.line_congr h]
  comb q := by
    unfold State.combLines
    rw [show t.mem.comb = s.mem.comb from congrArg ReadView.comb h]

/-- Merging an entry into its line's store changes nothing that is read. -/
theorem State.ReadsAs.mergeEntry {s : State} (free : s.errorFree) (k ln : Nat) (e : CombEntry) (hhome : s.home (64 * ln) = some (.hbm k))
    (he : s.combEntry (k / 3) ln = some e) : s.ReadsAs (s.mergeEntry (k / 3) ln e) := by
  obtain ⟨keeps, data⟩ := s.mergeEntry_reads k ln e hhome he
  obtain ⟨comb, poison, mem, -⟩ := s.mergeEntry_mem (k / 3) ln e
  obtain ⟨home, -, stack, -⟩ := State.home_of_stores (s.mergeEntry_outsideMem (k / 3) ln e) mem
  refine ⟨keeps free, home, State.stackOut_congr fun k => by rw [stack], data, fun l hl => ?_, fun q => s.dropEntry_combLines (k / 3) ln q⟩
  unfold State.mergeEntry
  by_cases h : l = ln
  · subst h
    obtain ⟨single, dropped⟩ := s.line_dropEntry_same l k hhome
    have droppedHome : (s.dropEntry (k / 3) l).home = s.home := by
      obtain ⟨comb, mem, -⟩ := s.dropEntry_mem (k / 3) l
      exact (State.home_of_stores (s.dropEntry_outsideMem (k / 3) l) mem).1
    rw [State.line_combined s l k e hhome he] at hl
    obtain ⟨stored, combined⟩ := Bool.or_eq_false_iff.mp hl
    rw [State.line_putHbm_same _ l e.data e.mask e.poison k (by rw [droppedHome]; exact hhome) single, dropped]
    simp [show l ∉ s.mem.poison by simpa using stored, combined]
  · rwa [State.line_putHbm_ne _ _ _ _ _ _ h, State.line_dropEntry_ne _ _ _ _ h]

/-- A read through the Tun, where no error waits, leaves a state that reads alike. -/
theorem State.ReadsAs.touchRead {s : State} (free : s.errorFree) (ln cls : Nat) : s.ReadsAs (s.touchRead ln cls) := by
  have woken : ((s.wakeSlices ln).meetTun ln).readView = s.readView := by
    rw [State.meetTun_free (State.errorFree_congr (s.wakeSlices_readView ln) free), State.wakeSlices_readView]
  unfold State.touchRead
  split
  · next k hk =>
    dsimp only
    generalize (s.wakeSlices ln).meetTun ln = w at woken
    have wfree := State.errorFree_congr woken free
    have reached := (State.reachHbm_readView wfree k ln).trans woken
    split
    · next e he =>
      have reads := State.ReadsAs.of_readView reached free
      have entry : (w.reachHbm k ln).combEntry (k / 3) ln = some e := by
        unfold State.combEntry
        rw [show (w.reachHbm k ln).mem.comb = w.mem.comb from congrArg ReadView.comb (State.reachHbm_readView wfree k ln)]
        exact he
      have merged := State.ReadsAs.mergeEntry reads.free k ln e (by rw [reads.home]; exact hk) entry
      have counted := State.countCache_readView ((w.reachHbm k ln).mergeEntry (k / 3) ln e) (k / 3) false
      have after := (State.cacheLine_readView (State.errorFree_congr counted merged.free) (k / 3) ln true cls).trans counted
      exact (reads.trans merged).trans (.of_readView after merged.free)
    · split
      · exact .of_readView ((State.countCache_readView _ _ _).trans ((State.cacheLine_readView wfree _ _ _ _).trans woken)) free
      · have missed : ((w.reachHbm k ln).countCache (k / 3) false).readView = s.readView := (State.countCache_readView _ _ _).trans reached
        split
        · exact .of_readView missed free
        · exact .of_readView ((State.cacheLine_readView (State.errorFree_congr missed free) _ _ _ _).trans missed) free
  · exact .of_readView woken free
  · exact .refl free

theorem State.ReadsAs.touchRange {s : State} (free : s.errorFree) (a n cls : Nat) : s.ReadsAs (s.touchRange a n cls) := by
  unfold State.touchRange
  split
  · exact .refl free
  · exact .each free _ _ fun t i tfree => .touchRead tfree _ cls

theorem State.ReadsAs.touchSpan {s : State} (free : s.errorFree) (x : Nat × Nat) : s.ReadsAs (s.touchSpan x) := by
  unfold State.touchSpan
  split
  · exact .touchRange free _ _ _
  · exact .refl free

end Sys2Proof.Machine
end

section
/-! SUPPORT. Writes of HBM lines through the Tun, where no error waits (06 R202, R221, R223): the line written, every other line, and what the Tun combines. -/

namespace Sys2Proof.Machine

theorem State.kiln_of_outsideMem {s t : State} (h : t.outsideMem = s.outsideMem) : t.kiln = s.kiln := (congrArg State.kiln h :)

/-- State `t` is state `s` after writes of the lines `S`: every other line keeps its bytes, no other line has come to be combined, and no error waits. -/
structure State.Wrote (S : List Nat) (s t : State) : Prop where
  free : t.errorFree
  kiln : t.kiln = s.kiln
  home : t.home = s.home
  others : ∀ l, l ∉ S → (t.line l).1 = (s.line l).1
  comb : ∀ q, (t.combLines q).Sublist (s.combLines q ++ S)

theorem State.ReadsAs.wrote {s t : State} (h : s.ReadsAs t) (kiln : t.kiln = s.kiln) : State.Wrote [] s t :=
  ⟨h.free, kiln, h.home, fun l _ => h.data l, fun q => by rw [List.append_nil]; exact h.comb q⟩

theorem State.Wrote.refl {s : State} (free : s.errorFree) : State.Wrote [] s s := (State.ReadsAs.refl free).wrote rfl

theorem State.Wrote.trans {S S' : List Nat} {s t u : State} (h : State.Wrote S s t) (h' : State.Wrote S' t u) : State.Wrote (S ++ S') s u where
  free := h'.free
  kiln := h'.kiln.trans h.kiln
  home := h'.home.trans h.home
  others l hl := by
    obtain ⟨out, out'⟩ := not_or.mp (mt List.mem_append.mpr hl)
    exact (h'.others l out').trans (h.others l out)
  comb q := by
    rw [← List.append_assoc]
    exact (h'.comb q).trans ((h.comb q).append (.refl S'))

/-- A write of the selected bytes of a line; where no entry combines the line, it then reads as the merge of those bytes. -/
def State.WritesLine (ln : Nat) (d : Line) (mask : BitVec 64) (s t : State) : Prop :=
  State.Wrote [ln] s t ∧ ((∀ q, ln ∉ s.combLines q) → (t.line ln).1 = mergeLine (s.line ln).1 d mask)

variable {s t u : State} {ln k : Nat} {d : Line} {mask : BitVec 64} {p : Bool}

theorem State.WritesLine.after (h : s.ReadsAs u) (kiln : u.kiln = s.kiln) (w : State.WritesLine ln d mask u t) : State.WritesLine ln d mask s t := by
  refine ⟨(h.wrote kiln).trans w.1, fun single => ?_⟩
  rw [w.2 fun q hq => single q ((h.comb q).mem hq), h.data]

theorem State.WritesLine.then_view (w : State.WritesLine ln d mask s t) (h : u.readView = t.readView) : State.WritesLine ln d mask s u := by
  have reads := State.ReadsAs.of_readView h w.1.free
  refine ⟨?_, fun single => (reads.data ln).trans (w.2 single)⟩
  have := w.1.trans (reads.wrote (State.kiln_of_outsideMem (congrArg ReadView.outside h)))
  rwa [List.append_nil] at this

/-- A write of a line's store. -/
theorem State.putHbm_writesLine (free : s.errorFree) (hh : s.home (64 * ln) = some (.hbm k)) : State.WritesLine ln d mask s (s.putHbm ln d mask p) := by
  have outside := s.putHbm_outsideMem ln d mask p
  refine ⟨⟨State.errorFree_of_stores (t := s.putHbm ln d mask p) rfl free, State.kiln_of_outsideMem outside, (State.home_of_stores outside rfl).1, fun l hl => ?_, fun q => ?_⟩, fun single => ?_⟩
  · rw [State.line_putHbm_ne _ _ _ _ _ _ (by simpa using hl)]
  · exact List.sublist_append_left _ _
  · rw [State.line_putHbm_same _ _ _ _ _ k hh (State.combEntry_none _ _ _ (single _))]

/-- A write of a line's store that frees the line's entry. -/
theorem State.dropEntry_putHbm_writesLine (free : s.errorFree) (hh : s.home (64 * ln) = some (.hbm k)) :
    State.WritesLine ln d mask s ((s.dropEntry (k / 3) ln).putHbm ln d mask p) := by
  obtain ⟨comb, mem, -⟩ := s.dropEntry_mem (k / 3) ln
  have outside := s.dropEntry_outsideMem (k / 3) ln
  have home := (State.home_of_stores outside mem).1
  obtain ⟨wrote, -⟩ := State.putHbm_writesLine (d := d) (mask := mask) (p := p) (State.errorFree_of_stores mem free) (hh := by rw [home]; exact hh)
  refine ⟨⟨wrote.free, wrote.kiln.trans (State.kiln_of_outsideMem outside), wrote.home.trans home, fun l hl => ?_, fun q => ?_⟩, fun single => ?_⟩
  · rw [wrote.others l hl, State.line_dropEntry_ne _ _ _ _ (by simpa using hl)]
  · exact (wrote.comb q).trans ((s.dropEntry_combLines _ _ _).append (.refl _))
  · have none := State.combEntry_none _ _ _ (single (k / 3))
    rw [State.dropEntry_none _ _ _ none, State.line_putHbm_same _ _ _ _ _ k hh none]

theorem State.putLine_hbm (hh : s.home (64 * ln) = some (.hbm k)) : s.putLine ln d mask p = s.putHbm ln d mask p := by
  unfold State.putLine
  rw [hh]

/-- A write of a line of the store that the quarter's cache slices then hold. -/
theorem State.WritesLine.cacheLine (w : State.WritesLine ln d mask s t) (q : Nat) (dirty : Bool) (cls : Nat) : State.WritesLine ln d mask s (t.cacheLine q ln dirty cls) :=
  w.then_view (State.cacheLine_readView w.1.free q ln dirty cls)

/-- A whole line written: its entry is freed, and what its store held of it is replaced. -/
theorem State.replaceLine_writesLine (free : s.errorFree) (hh : s.home (64 * ln) = some (.hbm k)) :
    State.WritesLine ln d mask s (((s.dropEntry (k / 3) ln).clearErrors ln).putLine ln d mask p) ∧
    ∀ q, ((((s.dropEntry (k / 3) ln).clearErrors ln).putLine ln d mask p).combLines q).Sublist (s.combLines q) := by
  obtain ⟨comb, mem, -⟩ := s.dropEntry_mem (k / 3) ln
  have home := (State.home_of_stores (s.dropEntry_outsideMem (k / 3) ln) mem).1
  rw [State.clearErrors_free (State.errorFree_of_stores mem free), State.putLine_hbm (by rw [home]; exact hh)]
  exact ⟨State.dropEntry_putHbm_writesLine free hh, s.dropEntry_combLines (k / 3) ln⟩

/-! ## The combining buffer -/

/-- The entry of a line after a partial write of it. -/
def combined (ln : Nat) (d : Line) (mask : BitVec 64) (p : Bool) : Option CombEntry → CombEntry
  | some e => { line := ln, data := mergeLine e.data d mask, mask := e.mask ||| mask, poison := e.poison || p }
  | none => { line := ln, data := mergeLine 0 d mask, mask := mask, poison := p }

/-- The state once a quarter's Tun combines a partial write. -/
def State.combine (s : State) (q ln : Nat) (e : CombEntry) : State := match s.combEntry q ln with
  | some _ => s.modMem (fun m => { m with comb := vmod m.comb q (fun l => l.map (fun (x : CombEntry) => if x.line = ln then e else x)) })
  | none => (s.modMem (fun m => { m with comb := vmod m.comb q (fun l => l ++ [e]) })).bump 0x4012 6 1

theorem State.combineWrite_eq (s : State) (k ln : Nat) (d : Line) (mask : BitVec 64) (p : Bool) (cls : Nat) (free : s.errorFree) :
    s.combineWrite k ln d mask p cls =
      if s.slicesIn (k / 3) 1 = 0 then ((s.reachHbm k ln).putLine ln d mask p).cacheLine (k / 3) ln true cls
      else
        let e := combined ln d mask p (s.combEntry (k / 3) ln)
        let t := s.combine (k / 3) ln e
        if e.mask = fullMask then ((((t.wakeStack k).dropEntry (k / 3) ln).clearErrors ln).putLine ln e.data fullMask e.poison).bump 0x4012 2 1
        else t.combPressure (k / 3) ln := by
  unfold State.combineWrite
  dsimp only
  rw [State.meetTun_free free]
  cases he : s.combEntry (k / 3) ln <;> simp only [State.combine, he, combined]

theorem State.combine_frame (s : State) (q ln : Nat) (e : CombEntry) : (s.combine q ln e).outsideMem = s.outsideMem ∧ ∃ comb, (s.combine q ln e).mem = { s.mem with comb := comb } := by
  unfold State.combine
  cases s.combEntry q ln with
  | some old => exact ⟨rfl, _, rfl⟩
  | none => exact ⟨by simp, _, rfl⟩

/-- The entries of a quarter once its Tun combines a partial write: in place of the line's own entry, or behind the others. -/
theorem State.combine_entries (s : State) (q ln : Nat) (e : CombEntry) (p : Nat) : vget (s.combine q ln e).mem.comb p [] =
    if p = q ∧ q < 4 then
      if (s.combEntry q ln).isSome then (vget s.mem.comb p []).map (fun (x : CombEntry) => if x.line = ln then e else x) else vget s.mem.comb p [] ++ [e]
    else vget s.mem.comb p [] := by
  have changed (f : List CombEntry → List CombEntry) : vget (vmod s.mem.comb q f) p [] = if p = q ∧ q < 4 then f (vget s.mem.comb p []) else vget s.mem.comb p [] := by
    rw [vmod_eq_vset _ _ _ []]
    by_cases hp : p = q
    · subst hp
      by_cases h : p < 4
      · rw [vget_vset_same _ _ _ _ h, if_pos ⟨rfl, h⟩]
      · rw [vset_out _ _ _ (by omega), if_neg fun here => h here.2]
    · rw [vget_vset_ne _ _ _ _ _ hp, if_neg fun here => hp here.1]
  unfold State.combine
  cases s.combEntry q ln with
  | some old => exact changed _
  | none => exact changed _

/-- Only the line written can come to be combined. -/
theorem State.combine_combLines (s : State) (q ln : Nat) (e : CombEntry) (line : e.line = ln) (p : Nat) :
    ((s.combine q ln e).combLines p).Sublist (s.combLines p ++ [ln]) := by
  have same : ((vget s.mem.comb p []).map (fun (x : CombEntry) => if x.line = ln then e else x)).map (·.line) = s.combLines p := by
    rw [List.map_map]
    refine List.map_congr_left fun x _ => ?_
    simp only [Function.comp_apply]
    split
    · next h => rw [line, h]
    · rfl
  rw [State.combLines, State.combine_entries]
  split_ifs
  · rw [same]
    exact List.sublist_append_left _ _
  · rw [List.map_append, List.map_singleton, line]
    exact .refl _
  · exact List.sublist_append_left _ _

/-- The entries of every other line stay. -/
theorem State.combine_combEntry_ne (s : State) (q ln : Nat) (e : CombEntry) (line : e.line = ln) (p l : Nat) (hl : l ≠ ln) :
    (s.combine q ln e).combEntry p l = s.combEntry p l := by
  have pick : ((fun x : CombEntry => x.line == l) ∘ fun x : CombEntry => if x.line = ln then e else x) = fun x => x.line == l := by
    funext x
    simp only [Function.comp_apply]
    split
    · next h => simp [line, h]
    · rfl
  unfold State.combEntry
  rw [State.combine_entries]
  split_ifs
  · rw [List.find?_map, pick]
    cases hf : (vget s.mem.comb p []).find? (fun x => x.line == l) with
    | none => rfl
    | some x =>
      have hx : x.line = l := by simpa using List.find?_some hf
      rw [Option.map_some, if_neg (by rw [hx]; exact hl)]
  · rw [List.find?_append]
    simp [line, Ne.symm hl]
  · rfl

/-- The line written has the new entry, where it had none. -/
theorem State.combine_combEntry_same (s : State) (q ln : Nat) (e : CombEntry) (line : e.line = ln) (hq : q < 4) (absent : s.combEntry q ln = none) :
    (s.combine q ln e).combEntry q ln = some e := by
  have entries := s.combine_entries q ln e q
  rw [absent, if_pos ⟨rfl, hq⟩, Option.isSome_none, if_neg Bool.false_ne_true] at entries
  unfold State.combEntry at absent ⊢
  rw [entries, List.find?_append, absent]
  simp [line]

theorem State.combine_writesLine (free : s.errorFree) (hh : s.home (64 * ln) = some (.hbm k)) (hk : k < 12) :
    State.WritesLine ln d mask s (s.combine (k / 3) ln (combined ln d mask p (s.combEntry (k / 3) ln))) := by
  have line : (combined ln d mask p (s.combEntry (k / 3) ln)).line = ln := by unfold combined; split <;> rfl
  obtain ⟨outside, comb, mem⟩ := s.combine_frame (k / 3) ln (combined ln d mask p (s.combEntry (k / 3) ln))
  obtain ⟨home, unlisted, -, -⟩ := State.home_of_stores outside mem
  refine ⟨⟨State.errorFree_of_stores mem free, State.kiln_of_outsideMem outside, home, fun l hl => ?_, s.combine_combLines (k / 3) ln _ line⟩, fun single => ?_⟩
  · exact congrArg Prod.fst (State.line_of_stores outside mem l (fun _ => rfl) rfl fun q => s.combine_combEntry_ne (k / 3) ln _ line q l (by simpa using hl))
  · have absent := State.combEntry_none s (k / 3) ln (single _)
    rw [State.line_combined _ ln k _ (by rw [home]; exact hh) (s.combine_combEntry_same (k / 3) ln _ line (by omega) absent), unlisted, mem, State.line_single s ln k hh absent, absent]
    exact mergeLine_mergeLine _ _ _ _

theorem State.combPressure_few (s : State) (q ln : Nat) (few : (s.combLines q).length ≤ 76800) : s.combPressure q ln = s := by
  unfold State.combPressure
  exact if_pos (by rwa [State.combLines, List.length_map] at few)

/-- A partial write that misses the cache: combined, or read and written. -/
theorem State.combineWrite_writesLine (free : s.errorFree) (hh : s.home (64 * ln) = some (.hbm k)) (hk : k < 12) (few : ∀ q, (s.combLines q).length < 76800)
    (part : mask ≠ fullMask) (cls : Nat) : State.WritesLine ln d mask s (s.combineWrite k ln d mask p cls) := by
  rw [State.combineWrite_eq s k ln d mask p cls free]
  split
  · have reached := State.ReadsAs.of_readView (State.reachHbm_readView free k ln) free
    have here : (s.reachHbm k ln).home (64 * ln) = some (.hbm k) := by rw [reached.home]; exact hh
    rw [State.putLine_hbm here]
    exact ((State.putHbm_writesLine reached.free here).after reached (State.kiln_of_outsideMem (s.reachHbm_outsideMem k ln))).cacheLine _ _ _
  · have combines := State.combine_writesLine (d := d) (mask := mask) (p := p) free hh hk
    dsimp only
    split
    · next full =>
      generalize s.combine (k / 3) ln _ = t at combines
      have woken := State.ReadsAs.of_readView (t.wakeStack_readView k) combines.1.free
      obtain ⟨⟨replaced, -⟩, sub⟩ := State.replaceLine_writesLine (d := (combined ln d mask p (s.combEntry (k / 3) ln)).data) (mask := fullMask)
        (p := (combined ln d mask p (s.combEntry (k / 3) ln)).poison) woken.free (k := k) (ln := ln) (by rw [woken.home, combines.1.home]; exact hh)
      have all := combines.1.trans ((woken.wrote (State.kiln_of_outsideMem (t.wakeStack_outsideMem k))).trans replaced)
      refine State.WritesLine.then_view ⟨⟨all.free, all.kiln, all.home, fun l hl => all.others l (by simpa using hl), fun q => ?_⟩, fun single => ?_⟩
        (State.bump_readView _ _ _ _ (by simp) (by decide))
      · exact (sub q).trans ((woken.comb q).trans (combines.1.comb q))
      · rw [State.combEntry_none _ _ _ (single (k / 3))] at full
        exact absurd full part
    · rw [State.combPressure_few]
      · exact combines
      · have := (combines.1.comb (k / 3)).length_le
        have := few (k / 3)
        simp at *
        omega

/-! ## A write through the Tun -/

theorem State.ReadsAs.rack {s : State} (free : s.errorFree) (r : Rack) : s.ReadsAs { s with rack := r } := ⟨free, rfl, rfl, fun _ => rfl, fun _ h => h, fun _ => .refl _⟩

theorem State.ReadsAs.takeFree {s : State} (free : s.errorFree) : s.ReadsAs s.takeFree.2 := ⟨free, rfl, rfl, fun _ => rfl, fun _ h => h, fun _ => .refl _⟩

theorem State.ReadsAs.bump {s : State} (free : s.errorFree) (o m n : Nat) (h : ∀ x ∈ placeMembers, 256 * x.1 + x.2 ≠ 256 * o + m) : s.ReadsAs (s.bump o m n) := by
  obtain ⟨home, line⟩ := s.line_bump o m n h
  exact ⟨free, home, rfl, fun l => by rw [line], fun l hl => by rwa [line], fun _ => .refl _⟩

/-- A racked block that goes to the priority buffer first (11 R398) reads as before. -/
theorem State.ReadsAs.copyFirst {s : State} (free : s.errorFree) (ln : Nat) : s.ReadsAs (s.copyFirst ln) ∧ (s.copyFirst ln).kiln = s.kiln := by
  unfold State.copyFirst
  split
  · dsimp only
    have read := State.ReadsAs.each free (List.range 64) (fun s i => s.touchRead (64 * (ln / 64) + i) 1) fun t i tfree => .touchRead tfree _ 1
    have outside := s.each_outsideMem (List.range 64) (fun s i => s.touchRead (64 * (ln / 64) + i) 1) fun t i => t.touchRead_outsideMem _ 1
    generalize s.each _ _ = t at read outside ⊢
    refine ⟨read.trans ?_, (State.kiln_of_outsideMem outside :)⟩
    have racked := State.ReadsAs.rack read.free { t.rack with
      copied := sadd t.rack.copied (ln / 64), prio := t.rack.prio ++ [{ block := ln / 64, lines := (List.range 64).map (fun i => t.line (64 * (ln / 64) + i)) }] }
    have taken := racked.trans (.takeFree racked.free)
    have once := taken.trans (.bump taken.free 0x6010 13 1 (by decide))
    exact once.trans (.bump once.free 0x6010 14 _ (by decide))
  · exact ⟨.refl free, rfl⟩

/-- A write through the Tun of the selected bytes of a line of HBM, where no error waits and the combining slices have room. -/
theorem State.tunWrite_writesLine (free : s.errorFree) (hh : s.home (64 * ln) = some (.hbm k)) (hk : k < 12) (few : ∀ q, (s.combLines q).length < 76800) (cls : Nat) :
    State.WritesLine ln d mask s (s.tunWrite ln d mask p cls) := by
  unfold State.tunWrite
  split
  · next none =>
    have same := State.Wrote.refl free
    refine ⟨⟨free, rfl, rfl, fun _ _ => rfl, fun q => List.sublist_append_left _ _⟩, fun _ => ?_⟩
    rw [none, mergeLine_none]
  · rw [hh]
    dsimp only
    obtain ⟨copied, kiln⟩ := State.ReadsAs.copyFirst free ln
    have view := (State.countCache_readView ((s.copyFirst ln).wakeSlices ln) (k / 3) (s.cached (k / 3) ln)).trans (State.wakeSlices_readView _ _)
    have reads := copied.trans (.of_readView view copied.free)
    have kiln := (State.kiln_of_outsideMem (congrArg ReadView.outside view)).trans kiln
    generalize ((s.copyFirst ln).wakeSlices ln).countCache (k / 3) (s.cached (k / 3) ln) = u at reads kiln
    have here : u.home (64 * ln) = some (.hbm k) := by rw [reads.home]; exact hh
    refine State.WritesLine.after reads kiln ?_
    split
    · next full =>
      have woken : (if (u.cached (k / 3) ln || u.allocates (k / 3)) = true then u else u.wakeStack k).readView = u.readView := by
        split <;> [rfl; exact u.wakeStack_readView k]
      generalize (if (u.cached (k / 3) ln || u.allocates (k / 3)) = true then u else u.wakeStack k) = v at woken
      have alike := State.ReadsAs.of_readView woken reads.free
      obtain ⟨replaced, -⟩ := State.replaceLine_writesLine (d := d) (mask := mask) (p := p) alike.free (k := k) (ln := ln) (by rw [alike.home]; exact here)
      exact (replaced.after alike (State.kiln_of_outsideMem (congrArg ReadView.outside woken))).cacheLine _ _ _
    · next part =>
      split
      · rw [State.meetTun_free reads.free, State.putLine_hbm here]
        exact (State.putHbm_writesLine reads.free here).cacheLine _ _ _
      · exact State.combineWrite_writesLine reads.free here hk (fun q => (reads.comb q).length_le.trans_lt (few q)) part cls

end Sys2Proof.Machine
end

section
/-! SUPPORT. Writes of bytes through the Tun (06 R199, R202): line by line, and what every byte of device memory reads as after them. -/

namespace Sys2Proof.Machine

/-! ## Lines of ranges -/

theorem mem_linesIn (a n l : Nat) : l ∈ linesIn a n ↔ 0 < n ∧ a / 64 ≤ l ∧ 64 * l < a + n := by
  unfold linesIn ceilDiv
  split
  · next h => simp [h]
  · rw [List.mem_map]
    constructor
    · rintro ⟨i, hi, rfl⟩
      have := List.mem_range.mp hi
      omega
    · rintro ⟨_, low, high⟩
      exact ⟨l - a / 64, List.mem_range.mpr (by omega), by omega⟩

theorem nodup_linesIn (a n : Nat) : (linesIn a n).Nodup := by
  unfold linesIn
  split
  · exact List.nodup_nil
  · exact List.nodup_range.map fun i j h => by simpa using h

theorem length_linesIn (a n : Nat) : (linesIn a n).length ≤ (n + 126) / 64 := by
  unfold linesIn ceilDiv
  split
  · exact Nat.zero_le _
  · rw [List.length_map, List.length_range]
    omega

theorem mem_linesOf (rs : List (Nat × Nat)) (l : Nat) : l ∈ linesOf rs ↔ ∃ r ∈ rs, r.1 / 64 ≤ l ∧ l ≤ (r.1 + r.2 - 1) / 64 := by
  unfold linesOf
  rw [List.mem_eraseDups, List.mem_flatMap]
  refine exists_congr fun r => and_congr_right fun _ => ?_
  rw [List.mem_map]
  constructor
  · rintro ⟨i, hi, rfl⟩
    have := List.mem_range.mp hi
    omega
  · rintro ⟨low, high⟩
    exact ⟨l - r.1 / 64, List.mem_range.mpr (by omega), by omega⟩

theorem linesIn_linesOf {rs : List (Nat × Nat)} {r : Nat × Nat} (hr : r ∈ rs) {l : Nat} (hl : l ∈ linesIn r.1 r.2) : l ∈ linesOf rs := by
  obtain ⟨some_, low, high⟩ := (mem_linesIn _ _ _).mp hl
  exact (mem_linesOf _ _).mpr ⟨r, hr, low, by omega⟩

/-! ## Writes of several lines -/

/-- A write of each line of a list of different lines. -/
theorem State.each_writesLine (l : List Nat) (distinct : l.Nodup) (f : State → Nat → State) (d : Nat → Line) (mask : Nat → BitVec 64) (s : State) (free : s.errorFree)
    (step : ∀ (t : State) (ln : Nat), ln ∈ l → t.errorFree → t.home = s.home → (∀ q, (t.combLines q).length < 76800) → State.WritesLine ln (d ln) (mask ln) t (f t ln))
    (few : ∀ q, (s.combLines q).length + l.length ≤ 76800) :
    State.Wrote l s (s.each l f) ∧ ((∀ q, ∀ ln ∈ l, ln ∉ s.combLines q) → ∀ ln ∈ l, ((s.each l f).line ln).1 = mergeLine (s.line ln).1 (d ln) (mask ln)) := by
  induction l generalizing s with
  | nil => exact ⟨.refl free, fun _ _ h => absurd h List.not_mem_nil⟩
  | cons ln l ih =>
    obtain ⟨absent, distinct⟩ := List.nodup_cons.mp distinct
    simp only [List.length_cons] at few
    obtain ⟨wrote, merged⟩ := step s ln List.mem_cons_self free rfl fun q => by have := few q; omega
    obtain ⟨wrote', merged'⟩ := ih distinct (f s ln) wrote.free (fun t j hj tfree home room => step t j (List.mem_cons_of_mem _ hj) tfree (home.trans wrote.home) room) fun q => by
      have grown := (wrote.comb q).length_le
      have := few q
      rw [List.length_append, List.length_singleton] at grown
      omega
    refine ⟨wrote.trans wrote', fun single j hj => ?_⟩
    show (((f s ln).each l f).line j).1 = _
    by_cases here : j = ln
    · subst here
      rw [wrote'.others j absent]
      exact merged fun q => single q j hj
    · have rest : j ∈ l := (List.mem_cons.mp hj).resolve_left here
      rw [merged' (fun q i hi hmem => ?_) j rest, wrote.others j (by simpa using here)]
      rcases List.mem_append.mp ((wrote.comb q).mem hmem) with old | new
      · exact single q i (List.mem_cons_of_mem _ hi) old
      · exact absent (List.mem_singleton.mp new ▸ hi)

/-! ## Writes of bytes -/

/-- Where the bytes written to a line begin in it. -/
def pieceFrom (a ln : Nat) : Nat := if ln = a / 64 then a % 64 else 0

/-- The bytes written to a line, when `b` is written from address `a` on. -/
def piece (a : Nat) (b : List Byte) (ln : Nat) : List Byte := (b.drop (64 * ln + pieceFrom a ln - a)).take (64 - pieceFrom a ln)

def pieceLine (a : Nat) (b : List Byte) (ln : Nat) : Line := lineOf (List.replicate (pieceFrom a ln) 0 ++ piece a b ln)

def pieceMask (a : Nat) (b : List Byte) (ln : Nat) : BitVec 64 := BitVec.ofNat 64 ((2 ^ (piece a b ln).length - 1) * 2 ^ pieceFrom a ln)

theorem State.tunBytes_eq (s : State) (a : Nat) (b : List Byte) (bad : Nat → Bool) (cls : Nat) :
    s.tunBytes a b bad cls = s.each (linesIn a b.length) (fun s ln => s.tunWrite ln (pieceLine a b ln) (pieceMask a b ln) (bad ln) cls) := by
  unfold State.tunBytes linesIn
  by_cases h : b = []
  · subst h
    rfl
  · rw [if_neg (by simpa using h), if_neg (by simpa using h)]
    unfold State.each
    rw [List.foldl_map]
    have from_ (i : Nat) : pieceFrom a (a / 64 + i) = if i = 0 then a % 64 else 0 := by simp [pieceFrom]
    simp only [pieceLine, pieceMask, piece, from_]

/-- The bytes of a line that a write takes, and what they are. -/
theorem pieceMask_bit (a : Nat) (b : List Byte) (ln j : Nat) (hl : ln ∈ linesIn a b.length) (hj : j < 64) :
    ((pieceMask a b ln).getLsbD j = true ↔ a ≤ 64 * ln + j ∧ 64 * ln + j < a + b.length) ∧
    ((pieceMask a b ln).getLsbD j = true → lineByte (pieceLine a b ln) j = b.getD (64 * ln + j - a) 0) := by
  obtain ⟨_, low, high⟩ := (mem_linesIn _ _ _).mp hl
  have start : pieceFrom a ln < 64 ∧ ((ln = a / 64 ∧ pieceFrom a ln = a % 64) ∨ (a / 64 < ln ∧ pieceFrom a ln = 0)) := by
    unfold pieceFrom
    split <;> omega
  have size : (piece a b ln).length = min (64 - pieceFrom a ln) (b.length - (64 * ln + pieceFrom a ln - a)) := by simp [piece]
  have bit : (pieceMask a b ln).getLsbD j = true ↔ pieceFrom a ln ≤ j ∧ j - pieceFrom a ln < (piece a b ln).length := by
    rw [pieceMask, BitVec.getLsbD_ofNat, Nat.testBit_mul_two_pow, Nat.testBit_two_pow_sub_one]
    simp [hj]
  have here : (pieceMask a b ln).getLsbD j = true ↔ a ≤ 64 * ln + j ∧ 64 * ln + j < a + b.length := by
    rw [bit, size]
    omega
  refine ⟨here, fun hbit => ?_⟩
  obtain ⟨after, inside⟩ := bit.mp hbit
  have place : 64 * ln + pieceFrom a ln - a + (j - pieceFrom a ln) = 64 * ln + j - a := by
    obtain ⟨_, ⟨_, _⟩ | ⟨_, _⟩⟩ := start <;> omega
  rw [pieceLine, lineByte_lineOf _ _ hj, List.getD_append_right _ _ _ _ (by simpa using after), List.length_replicate, piece]
  rw [List.getD_eq_getElem?_getD, List.getElem?_take_of_lt (by omega), List.getElem?_drop, place, List.getD_eq_getElem?_getD]

/-- A write of bytes through the Tun to lines of HBM, where no error waits: no other line changes, and where no entry combined the lines, the bytes written read back. -/
theorem State.tunBytes_wrote (s : State) (a : Nat) (b : List Byte) (bad : Nat → Bool) (cls : Nat) (free : s.errorFree)
    (homes : ∀ l ∈ linesIn a b.length, ∃ k, k < 12 ∧ s.home (64 * l) = some (.hbm k)) (few : ∀ q, (s.combLines q).length + (linesIn a b.length).length ≤ 76800) :
    State.Wrote (linesIn a b.length) s (s.tunBytes a b bad cls) ∧ ((∀ q, ∀ l ∈ linesIn a b.length, l ∉ s.combLines q) →
      ∀ i, i < b.length → (s.tunBytes a b bad cls).byte (a + i) = b.getD i 0) := by
  rw [State.tunBytes_eq]
  obtain ⟨wrote, merged⟩ := State.each_writesLine (linesIn a b.length) (nodup_linesIn _ _) (fun s ln => s.tunWrite ln (pieceLine a b ln) (pieceMask a b ln) (bad ln) cls)
    (pieceLine a b) (pieceMask a b) s free (fun t ln hl tfree home room => by
      obtain ⟨k, hk, hh⟩ := homes ln hl
      exact State.tunWrite_writesLine tfree (by rw [home]; exact hh) hk room cls) few
  refine ⟨wrote, fun single i hi => ?_⟩
  have hl : (a + i) / 64 ∈ linesIn a b.length := (mem_linesIn _ _ _).mpr ⟨by omega, by omega, by omega⟩
  obtain ⟨takes, value⟩ := pieceMask_bit a b ((a + i) / 64) ((a + i) % 64) hl (by omega)
  have taken := takes.mpr ⟨by omega, by omega⟩
  rw [State.byte, merged single _ hl, lineByte_mergeLine _ _ _ _ (by omega), if_pos taken, value taken]
  congr 1
  omega

end Sys2Proof.Machine
end

section
/-! SUPPORT. The ledger where a record fits (10 R364 to R367), and the start of an accepted command that the open step records (12 R440). -/

namespace Sys2Proof.Machine

/-! ## Records that fit -/

/-- A record as the ledger of the open step takes it. -/
def State.ledgerRec (s : State) (r : LedgerRec) : LedgerRec :=
  LedgerRec.closed { r with run := s.esc.run, step := (s.esc.record.map (·.step)).getD 0, seq := (s.esc.ledger.filter (fun (x : LedgerRec) => x.stack == r.stack)).length }

/-- The state with one more record in its ledger. -/
def State.recorded (s : State) (r : LedgerRec) : State := s.modEsc (fun e => { e with ledger := s.esc.ledger ++ [s.ledgerRec r] })

/-- Only INPUT records continue one another. -/
theorem ledgerPut_append (l : List LedgerRec) (n : LedgerRec) (h : n.kind ≠ 5) : ledgerPut l n = l ++ [n] := by
  induction l with
  | nil => rfl
  | cons r l ih =>
    cases l with
    | nil =>
      have apart : r.joins n = false := by simp [LedgerRec.joins, h]
      simp [ledgerPut, apart]
    | cons r' l =>
      show r :: ledgerPut (r' :: l) n = _
      rw [ih]
      rfl

theorem State.shareUsed_recorded (s : State) (r : LedgerRec) (k : Nat) : (s.recorded r).shareUsed k = s.shareUsed k + if r.stack = k then r.size else 0 := by
  have share (l : List LedgerRec) : ((l ++ [s.ledgerRec r]).filter (fun (x : LedgerRec) => x.stack == k)).map LedgerRec.size =
      (l.filter (fun (x : LedgerRec) => x.stack == k)).map LedgerRec.size ++ if r.stack = k then [r.size] else [] := by
    rw [List.filter_append, List.map_append]
    by_cases h : r.stack = k
    · rw [if_pos h, List.filter_singleton, show ((s.ledgerRec r).stack == k) = true by simpa [State.ledgerRec, LedgerRec.closed] using h]
      rfl
    · rw [if_neg h, List.filter_singleton, show ((s.ledgerRec r).stack == k) = false by simpa [State.ledgerRec, LedgerRec.closed] using h]
      rfl
  unfold State.shareUsed
  rw [show (s.recorded r).esc.ledger = s.esc.ledger ++ [s.ledgerRec r] from rfl, share, List.sum_append]
  split <;> simp [Nat.add_assoc]

theorem State.ledgerAdd_fits (s : State) (r : LedgerRec) (kind : r.kind ≠ 5) (room : s.shareUsed r.stack + r.size ≤ s.shareSize) (reached : s.stackOut r.stack = false) :
    s.ledgerAdd r = (s.recorded r, false) := by
  have added : s.ledgerAdd r = let t := s.modEsc (fun e => { e with ledger := ledgerPut s.esc.ledger (s.ledgerRec r) })
      if s.shareSize < t.shareUsed r.stack || s.stackOut r.stack then (s, true) else (t, false) := rfl
  rw [added, ledgerPut_append _ (s.ledgerRec r) kind]
  refine if_neg ?_
  rw [reached]
  have used := s.shareUsed_recorded r r.stack
  rw [if_pos rfl] at used
  simp only [Bool.or_false, decide_eq_true_eq, Nat.not_lt]
  exact used.trans_le room

theorem State.recordThen_fits (s : State) (r : LedgerRec) (f : State → State) (kind : r.kind ≠ 5) (room : s.shareUsed r.stack + r.size ≤ s.shareSize)
    (reached : s.stackOut r.stack = false) : s.recordThen [r] f = f (s.recorded r) := by
  unfold State.recordThen
  dsimp only
  rw [List.foldl_cons, List.foldl_nil, if_neg Bool.false_ne_true, s.ledgerAdd_fits r kind room reached]
  exact if_neg Bool.false_ne_true

theorem State.mapped_quarter {s : State} {a : Nat} {h : Home} (hm : s.mapped a = some h) : h.quarter < 4 := by
  have device : devicePlace a < 768 := (Config.deviceSpread _ _).isLt
  have quarter (q o : Nat) : quarterPlace q o < 192 := (Config.quarterSpread _ _ _).isLt
  unfold State.mapped at hm
  dsimp only at hm
  split_ifs at hm <;> cases hm <;> simp only [Home.quarter, coreQuarter]
  · omega
  · have := quarter ((a - 2 ^ 40) / 2 ^ 38) ((a - 2 ^ 40) % 2 ^ 38)
    omega
  all_goals omega

/-- The share that takes the record of what is read at an address is that of a stack of the device. -/
theorem State.inputStack_lt (s : State) (a : Nat) : s.inputStack a < 12 := by
  have quarter (h : Home) (hh : s.home a = some h) : h.quarter < 4 := by
    unfold State.home at hh
    split at hh
    · next k hm =>
      have := State.mapped_quarter hm
      split_ifs at hh <;> cases hh <;> exact this
    · exact State.mapped_quarter hh
  unfold State.inputStack
  split
  · next k hk =>
    have : k / 3 < 4 := quarter _ hk
    omega
  · next h _ hh =>
    have := quarter h hh
    omega
  · decide

/-! ## Commands that start -/

theorem State.ReadsAs.touchRecord {s : State} (free : s.errorFree) (b : List Byte) : s.ReadsAs (s.touchRecord b) := by
  unfold State.touchRecord
  split
  · exact (State.ReadsAs.touchSpan free _).trans (.each (State.ReadsAs.touchSpan free _).free _ _ fun t x tfree => .touchSpan tfree x)
  · exact .refl free

theorem State.touchRecord_outsideMem (s : State) (b : List Byte) : (s.touchRecord b).outsideMem = s.outsideMem := by
  unfold State.touchRecord
  split
  · exact (State.each_outsideMem _ _ _ State.touchSpan_outsideMem).trans (s.touchSpan_outsideMem _)
  · rfl

theorem State.setStream_setStream (s : State) (i : Nat) (x y : Stream) : (s.setStream i x).setStream i y = s.setStream i y := by
  unfold State.setStream vset
  split
  · simp
  · rfl

theorem Stream.refresh_frame (x : Stream) : x.refresh.progress = x.progress ∧ x.refresh.job = x.job := by
  unfold Stream.refresh
  split <;> exact ⟨rfl, rfl⟩

/-- A command that is not run again leaves its window and is in progress; nothing but its stream changes. -/
theorem State.takeCmd_frame (s : State) (i : Fin 64) (n : NextCmd) (h : n.replay = false) :
    ∃ x, s.takeCmd i n = s.setStream i x ∧ x.job = (s.stream i).job ∧ x.progress = (s.stream i).progress ++ [n.run 0] := by
  unfold State.takeCmd
  rw [h, if_neg Bool.false_ne_true]
  unfold State.modStream
  rw [State.setStream_setStream, State.stream_setStream _ _ _ i.isLt]
  refine ⟨_, rfl, ?_, ?_⟩
  · rw [(Stream.refresh_frame _).2]
    dsimp only
    split <;> rfl
  · rw [(Stream.refresh_frame _).1]
    dsimp only
    rw [apply_ite Stream.progress, ite_self]
    exact congrArg (fun b => (s.stream i).progress ++ [{ n.run 0 with replay := b }]) h.symm

theorem State.headerCodes_congr {s t : State} (i : Nat) (n : NextCmd) (used : List (Nat × Nat)) (sync : t.sync = s.sync) (job : (t.stream i).job = (s.stream i).job) :
    t.headerCodes i n used = s.headerCodes i n used := by
  unfold State.headerCodes State.counterOwner State.blockOwner
  rw [sync, job]

/-- The COMMANDS record of a command. -/
def commandRec (i : Nat) (n : NextCmd) : LedgerRec := { plainRec 3 0 0 [n.raw] with source := BitVec.ofNat 32 i, arg := n.count }

theorem commandRec_size (i : Nat) (n : NextCmd) : (commandRec i n).size = 128 := rfl

theorem commandRec_stack (i : Nat) (n : NextCmd) : (commandRec i n).stack = 0 := rfl

/-- The DETAIL of a command in progress. -/
def Stream.detail (n : NextCmd) (d : Nat) (x : Stream) : Stream :=
  { x with progress := x.progress.map (fun (y : CmdRun) => if y.count = n.count ∧ y.replay = n.replay then { y with detail := BitVec.ofNat 64 d } else y) }

/-- A good command of the gated job in COMPUTE, whose record fits, is taken and recorded and has its effect. -/
theorem State.startCmd_records (s : State) (i : Fin 64) (n : NextCmd) (pick : List Byte → Bool) (used : List (Nat × Nat)) (plan : State → Nat → List Byte → NextCmd → CmdPlan)
    (next : s.nextCmd i = some n) (picks : pick n.bytes = true) (starts : s.mayStart i n = true) (header : s.headerCodes i n used = [])
    (gated : (s.stream i).job = s.gatedJob) (phase : s.esc.phase = .compute) (first : n.replay = false) (free : s.errorFree)
    (room : s.shareUsed 0 + 128 ≤ s.shareSize) (reached : s.stackOut 0 = false) (t : State) (ht : t = s.touchRecord n.bytes) (p : CmdPlan)
    (hp : p = plan t s.gatedJob n.bytes n) (clean : p.poison = []) (good : p.codes = []) :
    ∃ x, x.progress = (s.stream i).progress ++ [n.run 0] ∧ s.startCmd i pick used plan =
      (p.eff ((t.setStream i x).recorded (commandRec i n))).1.modStream i (Stream.detail n (p.eff ((t.setStream i x).recorded (commandRec i n))).2) := by
  have outside : t.outsideMem = s.outsideMem := by rw [ht]; exact s.touchRecord_outsideMem n.bytes
  have reads : s.ReadsAs t := by rw [ht]; exact .touchRecord free n.bytes
  have stream : t.stream i = s.stream i := congrArg (fun u => u.stream i) outside
  have esc : t.esc = s.esc := congrArg (fun u => u.esc) outside
  have sync : t.sync = s.sync := congrArg (fun u => u.sync) outside
  have job : t.gatedJob = s.gatedJob := State.objGet_of_outsideMem s t outside 0x3201 0 (by simp) (by decide)
  have size : t.shareSize = s.shareSize := congrArg (· * MiB) (State.objGet_of_outsideMem s t outside 0x3202 0 (by simp) (by decide))
  have usage : t.shareUsed 0 = s.shareUsed 0 := by unfold State.shareUsed; rw [esc]
  obtain ⟨x, taken, xjob, progress⟩ := t.takeCmd_frame i n first
  have headers : (t.setStream i x).headerCodes i n used = [] :=
    (State.headerCodes_congr (t := t.setStream i x) i n used sync (by rw [State.stream_setStream _ _ _ i.isLt, xjob, stream])).trans header
  refine ⟨x, by rw [progress, stream], ?_⟩
  unfold State.startCmd
  rw [next]
  dsimp only
  rw [picks, starts, if_neg (by decide), ← ht, stream, gated, ← hp, taken, clean, good, List.append_nil, headers, List.isEmpty_nil,
    Bool.not_true, if_neg Bool.false_ne_true, List.min?_nil]
  have records : s.gatedJob = (t.setStream i x).gatedJob ∧ (t.setStream i x).esc.phase = .compute ∧ n.replay = false :=
    ⟨job.symm, by rw [State.setStream_esc, esc]; exact phase, first⟩
  have room' : (t.setStream i x).shareUsed (commandRec i n).stack + (commandRec i n).size ≤ (t.setStream i x).shareSize := by
    rw [commandRec_stack, commandRec_size]
    exact (congrArg₂ (· + 128 ≤ ·) usage size).mpr room
  have reached' : (t.setStream i x).stackOut (commandRec i n).stack = false := (congrFun reads.out 0).trans reached
  rw [if_pos records]
  exact State.recordThen_fits _ (commandRec i n) (fun u => (p.eff u).1.modStream i (Stream.detail n (p.eff u).2)) (show 3 ≠ 5 by decide) room' reached'

end Sys2Proof.Machine
end

section
/-! SUPPORT. The KILN command of one good descriptor (05 R175 to R178): its parts join the datapaths of its stacks. -/

namespace Sys2Proof.Machine

theorem exec_kiln (i : Fin 64) (s : State) : exec (.kiln i) s = execKiln i s := rfl

/-! ## Checks on a state that reads alike -/

theorem State.inOneWindow_congr {s t : State} (h : t.home = s.home) (a n : Nat) : t.inOneWindow a n = s.inOneWindow a n := by
  unfold State.inOneWindow State.window
  rw [h]

theorem State.ReadsAs.poisonedIn {s t : State} (h : s.ReadsAs t) (a n : Nat) (clean : s.poisonedIn a n = []) : t.poisonedIn a n = [] := by
  unfold State.poisonedIn at clean ⊢
  split
  · rfl
  · next some_ =>
    rw [if_neg some_, List.filter_eq_nil_iff] at clean
    refine List.filter_eq_nil_iff.mpr fun l hl => ?_
    rw [h.clean l (Bool.eq_false_iff.mpr (clean l hl))]
    exact Bool.false_ne_true

theorem State.kilnMisplaced_congr {s t : State} (h : t.home = s.home) (d : KilnDesc) : t.kilnMisplaced d = s.kilnMisplaced d := by
  unfold State.kilnMisplaced State.window
  simp only [h, State.inOneWindow_congr h]

theorem State.kilnRangesBad_congr {s t : State} (h : t.kiln = s.kiln) (l : List KilnDesc) (m : List (Nat × Nat × Nat)) : t.kilnRangesBad l m = s.kilnRangesBad l m := by
  induction l generalizing m with
  | nil => unfold State.kilnRangesBad; rw [h]
  | cons d l ih => unfold State.kilnRangesBad; rw [h, ih]

/-- What makes a KILN command of one descriptor good: its record at `a` and its hyperparameters at `b` are placed and clean, the descriptor passes every check,
and its counters are its job's. -/
structure State.KilnGood (s : State) (n : NextCmd) (job a b : Nat) (r h : List Byte) (d : KilnDesc) : Prop where
  one : recNat n.bytes 24 4 = 1
  first : n.replay = false
  record : r = s.view a 128
  hyper : h = s.view b 64
  desc : d = kilnDescOf r h
  aligned : recNat n.bytes 16 8 % 64 = 0
  place : localForm (recNat n.bytes 16 8) = some a
  window : s.inOneWindow a 128 = true
  clean : s.poisonedIn a 128 = []
  aligned' : recNat r 112 8 % 64 = 0
  place' : localForm (recNat r 112 8) = some b
  window' : s.inOneWindow b 64 = true
  clean' : s.poisonedIn b 64 = []
  formed : d.malformed r h = false
  shares : ceilDiv d.count d.perStack = d.stacksOf.length
  placed : s.kilnMisplaced d = false
  apart : s.kilnRangesBad [d] [] = false
  norm : d.op = 1 → (s.kilnUnit 0).globalValid = false
  waits : d.waitEn = true → s.counterOwner d.waitCounter.toNat = job
  counts : d.doneEn = true → s.counterOwner d.doneCounter.toNat = job

theorem State.KilnGood.reads {s t : State} {n : NextCmd} {job a b : Nat} {r h : List Byte} {d : KilnDesc} (good : s.KilnGood n job a b r h d) (reads : s.ReadsAs t)
    (outside : t.outsideMem = s.outsideMem) : t.KilnGood n job a b r h d := by
  have kiln := State.kiln_of_outsideMem outside
  have owner (m : Nat) : t.counterOwner m = s.counterOwner m := congrArg (fun u => u.counterOwner m) outside
  exact { good with
    record := good.record.trans (reads.view a 128).symm
    hyper := good.hyper.trans (reads.view b 64).symm
    window := (State.inOneWindow_congr reads.home _ _).trans good.window
    clean := reads.poisonedIn _ _ good.clean
    window' := (State.inOneWindow_congr reads.home _ _).trans good.window'
    clean' := reads.poisonedIn _ _ good.clean'
    placed := (State.kilnMisplaced_congr reads.home d).trans good.placed
    apart := (State.kilnRangesBad_congr kiln _ _).trans good.apart
    norm := fun h1 => (congrArg (fun x : Kiln => (vget x.units 0 KilnUnit.reset).globalValid) kiln).trans (good.norm h1)
    waits := fun h1 => (owner _).trans (good.waits h1)
    counts := fun h1 => (owner _).trans (good.counts h1) }

/-! ## The plan of the command -/

theorem State.addrCodes_nil (s : State) (g size align a : Nat) (aligned : g % align = 0) (place : localForm g = some a) (window : s.inOneWindow a size = true) :
    s.addrCodes g size align = [] := by
  unfold State.addrCodes
  rw [if_neg (not_not_intro aligned), place]
  exact if_pos window

theorem State.recordPoison_nil (s : State) (g size align a : Nat) (place : localForm g = some a) (clean : s.poisonedIn a size = []) : s.recordPoison g size align = [] := by
  unfold State.recordPoison
  rw [place]
  dsimp only
  rw [clean, ite_self]

theorem State.KilnGood.records {s : State} {n : NextCmd} {job a b : Nat} {r h : List Byte} {d : KilnDesc} (good : s.KilnGood n job a b r h d) (i : Nat) :
    s.kilnRecords i n (recNat n.bytes 16 8) 1 = [(r, h)] := by
  have copy : s.hparamCopy i n 0 = none := by
    unfold State.hparamCopy
    rw [good.first]
    rfl
  have record : s.recordAt (recNat n.bytes 16 8) 128 = r := by
    unfold State.recordAt
    rw [good.place, good.record]
  have hyper : s.recordAt (recNat r 112 8) 64 = h := by
    unfold State.recordAt
    rw [good.place', good.hyper]
  unfold State.kilnRecords
  rw [show List.range 1 = [0] from rfl, List.map_singleton, Nat.mul_zero, Nat.add_zero, record, copy]
  dsimp only
  rw [hyper]

/-- What KILN checks and does, and that a good command of one descriptor has no code and no poison. -/
theorem execKiln_plan (i : Fin 64) (s : State) : ∃ plan : State → Nat → List Byte → NextCmd → CmdPlan,
    execKiln i s = .next (if (s.stream i).job = s.gatedJob ∧ s.esc.phase ≠ .compute ∧ s.inLocalRun = false then s
      else s.startCmd i (fun b => recNat b 0 1 == 0x12) [(16, 28)] plan) ∧
    ∀ (t : State) (n : NextCmd) (a b : Nat) (r h : List Byte) (d : KilnDesc), t.gatedJob = s.gatedJob → t.KilnGood n s.gatedJob a b r h d →
      (plan t s.gatedJob n.bytes n).codes = [] ∧ (plan t s.gatedJob n.bytes n).poison = [] ∧
      (plan t s.gatedJob n.bytes n).eff = fun v => (v.kilnAccept i s.gatedJob n r h, 0) := by
  refine ⟨_, rfl, fun t n a b r h d gated good => ?_⟩
  dsimp only
  rw [good.one, if_neg (by decide), good.records i, Nat.mul_one, t.addrCodes_nil _ _ _ a good.aligned good.place good.window,
    t.recordPoison_nil _ _ _ a good.place good.clean]
  have misses : (d.op == 1 && (vget t.kiln.units 0 KilnUnit.reset).globalValid) = false := by
    cases h1 : d.op == 1
    · rfl
    · exact good.norm (by simpa using h1)
  have waits : (d.waitEn && t.counterOwner d.waitCounter.toNat != s.gatedJob) = false := by
    cases h1 : d.waitEn
    · rfl
    · simp [good.waits h1]
  have counts : (d.doneEn && t.counterOwner d.doneCounter.toNat != s.gatedJob) = false := by
    cases h1 : d.doneEn
    · rfl
    · simp [good.counts h1]
  refine ⟨?_, ?_, rfl⟩
  · rw [List.map_singleton, List.any_cons, List.any_nil, List.any_cons, List.any_nil, ← good.desc, good.formed, t.addrCodes_nil _ _ _ b good.aligned' good.place' good.window', good.shares,
      good.placed, misses, good.apart, waits, counts, gated]
    simp
  · simp [t.recordPoison_nil _ 64 64 b good.place' good.clean']

/-! ## Parts that join -/

/-- The waiting part of a descriptor in a stack. -/
def KilnDesc.partOf (d : KilnDesc) (id job i : Nat) (count : BitVec 32) (p : Nat × Nat × Nat) : KilnPart :=
  { id := id, desc := d, stack := p.1, first := p.2.1, count := p.2.2, stage := .waiting, job := job, stream := i, command := count }

/-- Each part joins the unit of its stack, behind those that are there. -/
theorem parts_foldl_vmod (mk : Nat × Nat × Nat → KilnPart) (covers : Nat × Nat × Nat → List (Nat × Nat)) (l : List (Nat × Nat × Nat)) (u : Vector KilnUnit 12) (k : Nat) (hk : k < 12) :
    (vget (l.foldl (fun (u : Vector KilnUnit 12) p => vmod u p.1 (fun (x : KilnUnit) => { x with parts := x.parts ++ [mk p], ranges := x.ranges ++ covers p })) u) k
      KilnUnit.reset).parts = (vget u k KilnUnit.reset).parts ++ (l.filter (fun p => p.1 == k)).map mk := by
  induction l generalizing u with
  | nil => simp
  | cons p l ih =>
    rw [List.foldl_cons, ih, vmod_eq_vset _ _ _ KilnUnit.reset]
    by_cases h : k = p.1
    · subst h
      rw [vget_vset_same _ _ _ _ hk, List.filter_cons_of_pos (by simp)]
      simp
    · rw [vget_vset_ne _ _ _ _ _ h, List.filter_cons_of_neg (by simpa using Ne.symm h)]

/-- A good descriptor, whose HPARAM record fits, enters the ledger and joins its datapaths. -/
theorem State.kilnAccept_joins (v : State) (i job : Nat) (n : NextCmd) (r h : List Byte) (step : v.esc.record ≠ none) (first : n.replay = false)
    (room : ∀ k, k < 12 → v.shareUsed k + 128 ≤ v.shareSize ∧ v.stackOut k = false) :
    (v.kilnAccept i job n r h).esc.ledger.length = v.esc.ledger.length + 1 ∧ (v.kilnAccept i job n r h).streams = v.streams ∧
    ∀ k, k < 12 → ((v.kilnAccept i job n r h).kilnUnit k).parts = (v.kilnUnit k).parts ++
      ((kilnDescOf r h).parts.filter (fun p => p.1 == k)).map ((kilnDescOf r h).partOf v.kiln.nextId job i n.count) := by
  have isOpen : v.esc.record.isNone = false := by rw [Option.isNone_eq_false_iff, Option.isSome_iff_ne_none]; exact step
  generalize hrec : ({ plainRec 4 (v.inputStack (recNat r 112 8)) (recNat r 112 8) [lineOf h] with source := BitVec.ofNat 32 i } : LedgerRec) = rec
  have kind : rec.kind ≠ 5 := by rw [← hrec]; exact (show 4 ≠ 5 by decide)
  have size : rec.size = 128 := by rw [← hrec]; rfl
  have stack : rec.stack < 12 := by rw [← hrec]; exact v.inputStack_lt _
  obtain ⟨fits, reached⟩ := room rec.stack stack
  unfold State.kilnAccept
  dsimp only
  rw [isOpen, if_neg Bool.false_ne_true, first, if_neg Bool.false_ne_true, hrec, v.recordThen_fits rec _ kind (by rwa [size]) reached]
  refine ⟨List.length_append, rfl, fun k hk => ?_⟩
  exact parts_foldl_vmod ((kilnDescOf r h).partOf v.kiln.nextId job i n.count) _ _ _ k hk

/-! ## The command -/

theorem NextCmd.recNat_op (n : NextCmd) : recNat n.bytes 0 1 = n.op := by
  unfold recNat NextCmd.bytes NextCmd.op lineBytes
  rw [List.drop_zero, leNat_take, leNat_leBytes, Nat.mod_mod_of_dvd _ (pow_dvd_pow 256 (by decide)), pow_one]

/-- A good KILN command of one descriptor of the gated job in COMPUTE, with room in every share, is in progress with its two records and its parts. -/
theorem exec_kiln_joins (s : State) (i : Fin 64) (n : NextCmd) (a b : Nat) (r h : List Byte) (d : KilnDesc) (gated : (s.stream i).job = s.gatedJob)
    (phase : s.esc.phase = .compute) (next : s.nextCmd i = some n) (starts : s.mayStart i n = true) (op : n.op = 0x12) (header : s.headerCodes i n [(16, 28)] = [])
    (roomy : s.roomy) (step : s.esc.record ≠ none) (free : s.errorFree) (good : s.KilnGood n s.gatedJob a b r h d) :
    Runs (.kiln i) s (fun t => t.esc.ledger.length = s.esc.ledger.length + 2 ∧ (t.stream i).progress.getLast? = some (n.run 0) ∧ ∀ k, k < 12 →
      (t.kilnUnit k).parts = (s.kilnUnit k).parts ++ (d.parts.filter (fun p => p.1 == k)).map (d.partOf s.kiln.nextId s.gatedJob i n.count)) := by
  obtain ⟨t, ht⟩ : ∃ t, t = s.touchRecord n.bytes := ⟨_, rfl⟩
  have outside : t.outsideMem = s.outsideMem := by rw [ht]; exact s.touchRecord_outsideMem n.bytes
  have reads : s.ReadsAs t := by rw [ht]; exact .touchRecord free n.bytes
  have esc : t.esc = s.esc := congrArg (fun u => u.esc) outside
  have kiln := State.kiln_of_outsideMem outside
  have job : t.gatedJob = s.gatedJob := State.objGet_of_outsideMem s t outside 0x3201 0 (by simp) (by decide)
  have size : t.shareSize = s.shareSize := congrArg (· * MiB) (State.objGet_of_outsideMem s t outside 0x3202 0 (by simp) (by decide))
  have usage (k : Nat) : t.shareUsed k = s.shareUsed k := by unfold State.shareUsed; rw [esc]
  obtain ⟨plan, exec_eq, planned⟩ := execKiln_plan i s
  obtain ⟨codes, poison, effect⟩ := planned t n a b r h d job (good.reads reads outside)
  obtain ⟨room, reached⟩ := roomy 0 (by decide)
  obtain ⟨x, progress, started⟩ := s.startCmd_records i n (fun b => recNat b 0 1 == 0x12) [(16, 28)] plan next (by rw [n.recNat_op, op]; rfl) starts header gated phase good.first free
    (by omega) reached t ht _ rfl poison codes
  rw [effect] at started
  dsimp only at started
  generalize hv : (t.setStream i x).recorded (commandRec i n) = v at started
  have vroom (k : Nat) (hk : k < 12) : v.shareUsed k + 128 ≤ v.shareSize ∧ v.stackOut k = false := by
    obtain ⟨room, reached⟩ := roomy k hk
    have used := (t.setStream i x).shareUsed_recorded (commandRec i n) k
    rw [hv, commandRec_size] at used
    have before : (t.setStream i x).shareUsed k = s.shareUsed k := usage k
    have whole : v.shareSize = s.shareSize := by rw [← size, ← hv]; rfl
    have out : v.stackOut k = s.stackOut k := by rw [← reads.out, ← hv]; rfl
    rw [used, before, whole, out]
    refine ⟨?_, reached⟩
    split <;> omega
  have vstep : v.esc.record ≠ none := by
    rw [← hv]
    exact fun none => step ((congrArg Esc.record esc).symm.trans none)
  obtain ⟨ledger, streams, parts⟩ := v.kilnAccept_joins i s.gatedJob n r h vstep good.first vroom
  have vledger : v.esc.ledger.length = s.esc.ledger.length + 1 := by
    rw [← hv, ← esc]
    exact List.length_append
  have vkiln : v.kiln = s.kiln := by rw [← kiln, ← hv]; rfl
  have vstream : v.stream i = x := by rw [← hv]; exact State.stream_setStream _ _ _ i.isLt
  refine ⟨(v.kilnAccept i s.gatedJob n r h).modStream i (Stream.detail n 0), ?_, ?_, ?_, fun k hk => ?_⟩
  · rw [exec_kiln, exec_eq, if_neg fun hold => hold.2.1 phase, started]
  · exact ledger.trans (congrArg (· + 1) vledger)
  · rw [State.stream_modStream _ _ _ i.isLt]
    have same : (v.kilnAccept i s.gatedJob n r h).stream i = x := by rw [← vstream]; unfold State.stream; rw [streams]
    rw [same]
    unfold Stream.detail
    dsimp only
    rw [progress, List.map_append, List.map_singleton, List.getLast?_append, List.getLast?_singleton, if_pos ⟨rfl, rfl⟩]
    rfl
  · refine (parts k hk).trans ?_
    unfold State.kilnUnit
    rw [vkiln, good.desc]

end Sys2Proof.Machine
end

section
/-! SUPPORT. Undo records of a Kiln update (05 R184, 10 R366): every line is read and recorded once before its first write, and where each share has room for
8 KiB the records of one group fit. -/

namespace Sys2Proof.Machine

/-! ## What an update writes -/

theorem groupRange_bf16 (a lo n : Nat) : groupRange 1 a lo n = (a + 2 * lo, 2 * n) := rfl

theorem groupRange_mb8 (a lo n : Nat) : groupRange 4 a lo n = (a + lo / 512 * 528, 528) := rfl

/-- The ranges that the update of a group writes. -/
def KilnPart.outRanges (p : KilnPart) (lo n : Nat) : List (Nat × Nat) :=
  [groupRange 1 (p.desc.inStack p.desc.w p.stack) lo n, groupRange 4 (p.desc.inStack p.desc.m p.stack) lo n, groupRange 4 (p.desc.inStack p.desc.q p.stack) lo n] ++
    (if p.desc.mode = 2 then [(p.desc.inStack p.desc.rem p.stack + lo, n)] else [])

theorem KilnPart.outRanges_reads (p : KilnPart) (lo n : Nat) (update : p.desc.op ≠ 1) : ∀ r ∈ p.outRanges lo n, r ∈ p.reads lo n := by
  intro r hr
  unfold KilnPart.reads
  dsimp only
  rw [if_neg update]
  exact List.mem_append_right _ hr

/-- The arrays of a part of one group are what its update writes. -/
theorem KilnPart.undoArrays_eq (p : KilnPart) (some_ : 0 < p.count) (one : p.count ≤ 512) :
    p.undoArrays = (p.outRanges 0 p.count).map (fun r => (r.1 / 64, (r.1 + r.2 - 1) / 64)) := by
  have group : arrayBytes 4 p.count = mbGroup 4 := by
    unfold arrayBytes ceilDiv
    rw [if_pos (by decide), show (p.count + 512 - 1) / 512 = 1 by omega, Nat.one_mul]
  unfold KilnPart.undoArrays KilnPart.outRanges groupRange
  dsimp only
  rw [group]
  split <;> rfl

/-- The lines that the update of a group writes. -/
def KilnPart.outLines (p : KilnPart) (lo n : Nat) : List Nat := linesOf (p.outRanges lo n)

theorem KilnPart.undoArrays_outLines (p : KilnPart) (some_ : 0 < p.count) (one : p.count ≤ 512) (a : Nat × Nat) (ha : a ∈ p.undoArrays) (l : Nat) (low : a.1 ≤ l) (high : l ≤ a.2) :
    l ∈ p.outLines 0 p.count := by
  rw [p.undoArrays_eq some_ one] at ha
  obtain ⟨r, hr, rfl⟩ := List.mem_map.mp ha
  exact (mem_linesOf _ _).mpr ⟨r, hr, low, high⟩

theorem card_linesOf (rs : List (Nat × Nat)) : (linesOf rs).toFinset.card ≤ (rs.map (fun r => (r.2 + 126) / 64)).sum := by
  have same : (linesOf rs).toFinset = (rs.flatMap (fun a => (List.range ((a.1 + a.2 - 1) / 64 + 1 - a.1 / 64)).map (fun i => a.1 / 64 + i))).toFinset := by
    ext l
    rw [List.mem_toFinset, List.mem_toFinset, linesOf, List.mem_eraseDups]
  rw [same]
  refine (List.toFinset_card_le _).trans ?_
  rw [List.length_flatMap]
  refine List.sum_le_sum fun r _ => ?_
  rw [List.length_map, List.length_range]
  omega

theorem KilnPart.outRanges_sum (p : KilnPart) (lo n : Nat) (h : n ≤ 512) : ((p.outRanges lo n).map (fun r => (r.2 + 126) / 64)).sum ≤ 64 := by
  unfold KilnPart.outRanges
  rw [groupRange_bf16, groupRange_mb8, groupRange_mb8]
  split <;> simp only [List.map_append, List.map_cons, List.map_nil, List.sum_append, List.sum_cons, List.sum_nil] <;> omega

/-- A group's update writes at most 64 lines. -/
theorem KilnPart.card_outLines (p : KilnPart) (lo n : Nat) (h : n ≤ 512) : (p.outLines lo n).toFinset.card ≤ 64 := (card_linesOf _).trans (p.outRanges_sum lo n h)

/-! ## Lines read for a record -/

/-- The lines that a record takes: from the first on, none that a record covers, and each is read. -/
theorem State.undoSpan_reads (s : State) (last fuel ln : Nat) (free : s.errorFree) :
    s.ReadsAs (s.undoSpan last fuel ln).1 ∧ (s.undoSpan last fuel ln).1.outsideMem = s.outsideMem ∧
    ∃ m, (s.undoSpan last fuel ln).2 = List.range' ln m ∧ ∀ l ∈ (s.undoSpan last fuel ln).2, l ≤ last ∧ l ∉ s.kiln.written := by
  induction fuel generalizing s ln with
  | zero => exact ⟨.refl free, rfl, 0, rfl, fun l hl => absurd hl List.not_mem_nil⟩
  | succ fuel ih =>
    unfold State.undoSpan
    split
    · exact ⟨.refl free, rfl, 0, rfl, fun l hl => absurd hl List.not_mem_nil⟩
    · next within =>
      have read := State.ReadsAs.touchRead free ln 1
      have outside := s.touchRead_outsideMem ln 1
      dsimp only
      split
      · exact ⟨read, outside, 0, rfl, fun l hl => absurd hl List.not_mem_nil⟩
      · obtain ⟨more, outside', m, lines, bounds⟩ := ih (s.touchRead ln 1) (ln + 1) read.free
        refine ⟨read.trans more, outside'.trans outside, m + 1, by rw [lines, List.range'_succ], fun l hl => ?_⟩
        rw [State.kiln_of_outsideMem outside] at bounds
        rcases List.mem_cons.mp hl with rfl | rest
        · simpa [not_or] using within
        · exact bounds l rest

/-- A clean line that no record covers is in its record. -/
theorem State.mem_undoSpan (s : State) (last fuel ln : Nat) (free : s.errorFree) (low : ln ≤ last) (fresh : ln ∉ s.kiln.written) (clean : (s.line ln).2 = false) :
    ln ∈ (s.undoSpan last (fuel + 1) ln).2 := by
  have read := State.ReadsAs.touchRead free ln 1
  unfold State.undoSpan
  rw [if_neg (by simp [fresh, low])]
  dsimp only
  rw [if_neg (by rw [read.clean ln clean]; decide)]
  exact List.mem_cons_self

/-! ## Records of a group -/

/-- The lines that still need a record. -/
def State.unrecorded (s : State) (lns : List Nat) : Finset Nat := lns.toFinset \ s.kiln.written.toFinset

/-- A state that reads alike, with the same parts, in which the share of stack `k` has room for a record of each line that still needs one. -/
structure State.UndoReady (k : Nat) (lns : List Nat) (s t : State) : Prop where
  reads : s.ReadsAs t
  units : t.kiln.units = s.kiln.units
  room : t.shareUsed k + 128 * (t.unrecorded lns).card ≤ t.shareSize

theorem State.UndoReady.trans {k : Nat} {lns : List Nat} {s t u : State} (h : State.UndoReady k lns s t) (h' : State.UndoReady k lns t u) : State.UndoReady k lns s u :=
  ⟨h.reads.trans h'.reads, h'.units.trans h.units, h'.room⟩

/-- An UNDO record of lines from `ln` on. -/
def undoRec (stack ln : Nat) (lines : List Line) (flags : Byte) : LedgerRec := { plainRec 6 stack (64 * ln) lines with flags := flags }

theorem undoRec_size (stack ln : Nat) (lines : List Line) (flags : Byte) : (undoRec stack ln lines flags).size = 64 + 64 * lines.length := rfl

/-- The state once some lines have a record. -/
def State.covered (s : State) (l : List Nat) : State := { s with kiln := { s.kiln with written := l.foldl (fun w l => sadd w l) s.kiln.written } }

/-- The last line that a record beginning at a line can take: the last one of its array. -/
def KilnPart.undoLast (p : KilnPart) (ln : Nat) : Nat := ((p.undoArrays.find? (fun a => decide (a.1 ≤ ln ∧ ln ≤ a.2))).map (·.2)).getD ln

theorem undoFirst_eq (p : KilnPart) (s : State) (ln : Nat) (fresh : ln ∉ s.kiln.written) : ∃ flags, undoFirst p (s, false) ln =
    let u := s.undoSpan (p.undoLast ln) 64 ln
    let y := u.1.ledgerAdd (undoRec p.stack ln (u.2.map (fun l => (u.1.line l).1)) flags)
    if y.2 then (y.1.escStop 0x0A01, true) else (y.1.covered u.2, false) := by
  unfold undoFirst
  rw [if_neg (by simpa using fresh)]
  exact ⟨_, rfl⟩

theorem KilnPart.undoLast_span (p : KilnPart) (lns : List Nat) (ln : Nat) (hl : ln ∈ lns) (arrays : ∀ a ∈ p.undoArrays, ∀ l, a.1 ≤ l → l ≤ a.2 → l ∈ lns) :
    ln ≤ p.undoLast ln ∧ ∀ l, ln ≤ l → l ≤ p.undoLast ln → l ∈ lns := by
  unfold KilnPart.undoLast
  cases hf : p.undoArrays.find? (fun a => decide (a.1 ≤ ln ∧ ln ≤ a.2)) with
  | none => exact ⟨le_rfl, fun l low high => le_antisymm low high ▸ hl⟩
  | some a =>
    have within : decide (a.1 ≤ ln ∧ ln ≤ a.2) = true := List.find?_some (p := fun a : Nat × Nat => decide (a.1 ≤ ln ∧ ln ≤ a.2)) hf
    obtain ⟨low, high⟩ := of_decide_eq_true within
    exact ⟨high, fun l low' high' => arrays a (List.mem_of_find?_eq_some hf) l (low.trans low') high'⟩

/-- Lines that have a record need none. -/
theorem State.card_unrecorded_covered (s : State) (lns l : List Nat) (distinct : l.Nodup) (sub : ∀ x ∈ l, x ∈ lns ∧ x ∉ s.kiln.written) :
    ((s.covered l).unrecorded lns).card + l.length = (s.unrecorded lns).card := by
  have left : (s.covered l).unrecorded lns = s.unrecorded lns \ l.toFinset := by
    ext x
    unfold State.unrecorded State.covered
    simp only [Finset.mem_sdiff, List.mem_toFinset, mem_foldl_sadd (fun l : Nat => l), exists_eq_right, not_or, and_assoc]
  have inside : l.toFinset ⊆ s.unrecorded lns := fun x hx => by
    obtain ⟨listed, new⟩ := sub x (List.mem_toFinset.mp hx)
    exact Finset.mem_sdiff.mpr ⟨List.mem_toFinset.mpr listed, fun old => new (List.mem_toFinset.mp old)⟩
  rw [left, ← List.toFinset_card_of_nodup distinct]
  exact Finset.card_sdiff_add_card_eq_card inside

/-- The record of a line of a group, where the lines of the group are clean and the share has room. -/
theorem undoFirst_ready (p : KilnPart) (lns : List Nat) (s : State) (ln : Nat) (hl : ln ∈ lns) (arrays : ∀ a ∈ p.undoArrays, ∀ l, a.1 ≤ l → l ≤ a.2 → l ∈ lns)
    (clean : (s.line ln).2 = false) (reached : s.stackOut p.stack = false) (ready : State.UndoReady p.stack lns s s) :
    (undoFirst p (s, false) ln).2 = false ∧ State.UndoReady p.stack lns s (undoFirst p (s, false) ln).1 := by
  have free := ready.reads.free
  by_cases fresh : ln ∈ s.kiln.written
  · have skipped : undoFirst p (s, false) ln = (s, false) := if_pos (by simpa using fresh)
    rw [skipped]
    exact ⟨rfl, ready⟩
  · obtain ⟨flags, first⟩ := undoFirst_eq p s ln fresh
    obtain ⟨low, span⟩ := p.undoLast_span lns ln hl arrays
    obtain ⟨reads, outside, m, lines, bounds⟩ := s.undoSpan_reads (p.undoLast ln) 64 ln free
    have some_ : 1 ≤ (s.undoSpan (p.undoLast ln) 64 ln).2.length := List.length_pos_of_mem (s.mem_undoSpan (p.undoLast ln) 63 ln free low fresh clean)
    generalize s.undoSpan (p.undoLast ln) 64 ln = u at reads outside lines bounds some_ first
    have kiln := State.kiln_of_outsideMem outside
    have size : u.1.shareSize = s.shareSize := congrArg (· * MiB) (State.objGet_of_outsideMem s u.1 outside 0x3202 0 (by simp) (by decide))
    have used : u.1.shareUsed p.stack = s.shareUsed p.stack := congrArg (fun v => v.shareUsed p.stack) outside
    have card := u.1.card_unrecorded_covered lns u.2 (by rw [lines]; exact List.nodup_range') fun l hl => by
      obtain ⟨high, new⟩ := bounds l hl
      rw [kiln]
      refine ⟨span l ?_ high, new⟩
      rw [lines, List.mem_range'_1] at hl
      exact hl.1
    have before : u.1.unrecorded lns = s.unrecorded lns := by unfold State.unrecorded; rw [kiln]
    rw [before] at card
    have room := ready.room
    dsimp only at first
    generalize hrec : undoRec p.stack ln (u.2.map (fun l => (u.1.line l).1)) flags = rec at first
    have kind : rec.kind ≠ 5 := by rw [← hrec]; exact (show 6 ≠ 5 by decide)
    have stack : rec.stack = p.stack := by rw [← hrec]; rfl
    have recSize : rec.size = 64 + 64 * u.2.length := by rw [← hrec, undoRec_size, List.length_map]
    have fits := u.1.ledgerAdd_fits rec kind (by rw [stack, used, recSize, size]; omega) (by rw [stack, reads.out]; exact reached)
    rw [fits, if_neg Bool.false_ne_true] at first
    rw [first]
    refine ⟨rfl, ⟨reads.free, reads.home, reads.out, reads.data, reads.clean, reads.comb⟩, (congrArg Kiln.units kiln :), ?_⟩
    have after : ((u.1.recorded rec).covered u.2).shareUsed p.stack = s.shareUsed p.stack + (64 + 64 * u.2.length) := by
      have := u.1.shareUsed_recorded rec p.stack
      rwa [stack, if_pos rfl, used, recSize] at this
    have need : ((u.1.recorded rec).covered u.2).unrecorded lns = (u.1.covered u.2).unrecorded lns := rfl
    have whole : ((u.1.recorded rec).covered u.2).shareSize = s.shareSize := size
    show ((u.1.recorded rec).covered u.2).shareUsed p.stack + 128 * (((u.1.recorded rec).covered u.2).unrecorded lns).card ≤ ((u.1.recorded rec).covered u.2).shareSize
    rw [after, need, whole]
    omega

/-- The records of all the lines of a group. -/
theorem undoFirsts_ready (p : KilnPart) (lns : List Nat) (l : List Nat) (s : State) (sub : ∀ ln ∈ l, ln ∈ lns) (arrays : ∀ a ∈ p.undoArrays, ∀ l, a.1 ≤ l → l ≤ a.2 → l ∈ lns)
    (clean : ∀ ln ∈ lns, (s.line ln).2 = false) (reached : s.stackOut p.stack = false) (ready : State.UndoReady p.stack lns s s) :
    (l.foldl (undoFirst p) (s, false)).2 = false ∧ State.UndoReady p.stack lns s (l.foldl (undoFirst p) (s, false)).1 := by
  induction l generalizing s with
  | nil => exact ⟨rfl, ready⟩
  | cons ln l ih =>
    obtain ⟨fits, one⟩ := undoFirst_ready p lns s ln (sub ln List.mem_cons_self) arrays (clean ln (sub ln List.mem_cons_self)) reached ready
    rw [List.foldl_cons]
    generalize undoFirst p (s, false) ln = x at fits one
    obtain ⟨t, stopped⟩ := x
    obtain rfl : stopped = false := fits
    obtain ⟨fits', rest⟩ := ih t (fun j hj => sub j (List.mem_cons_of_mem _ hj)) (fun j hj => one.reads.clean j (clean j hj)) (by rw [one.reads.out]; exact reached)
      ⟨.refl one.reads.free, rfl, one.room⟩
    exact ⟨fits', one.trans rest⟩

end Sys2Proof.Machine
end

section
/-! SUPPORT. The update of a group of a Kiln part (05 R179 to R184): what it writes, byte for byte in the weights, and how many bytes of each array. -/

namespace Sys2Proof.Machine

/-! ## Sizes of what is written -/

theorem mem_chunksAux {α : Type} (n k : Nat) (l c : List α) (h : c ∈ chunksAux n k l) : c.length ≤ n := by
  induction k generalizing l with
  | zero => exact absurd h List.not_mem_nil
  | succ k ih =>
    unfold chunksAux at h
    split at h
    · exact absurd h List.not_mem_nil
    · rcases List.mem_cons.mp h with rfl | h
      · exact List.length_take_le _ _
      · exact ih _ h

theorem length_chunksAux_le {α : Type} (n m k : Nat) (l : List α) (hl : l.length ≤ m * n) : (chunksAux n k l).length ≤ m := by
  induction k generalizing l m with
  | zero => exact Nat.zero_le _
  | succ k ih =>
    unfold chunksAux
    split
    · exact Nat.zero_le _
    · next some_ =>
      cases m with
      | zero =>
        obtain rfl : l = [] := List.length_eq_zero_iff.mp (by omega)
        exact absurd rfl some_
      | succ m =>
        rw [Nat.succ_mul] at hl
        rw [List.length_cons]
        exact Nat.succ_le_succ (ih m _ (by rw [List.length_drop]; omega))

theorem length_momentBlock (old : List Int) (e : Nat) (new : List (Option FVal × Rnd)) (free : Nat → Nat) (ho : old.length = 32) (hn : new.length ≤ 32) :
    (momentBlock old e new free).1.length = 32 := by
  unfold momentBlock
  dsimp only
  split
  · exact ho
  · split
    · exact List.length_replicate
    · simp only [List.length_append, List.length_map, List.length_replicate, List.length_zipIdx, List.length_zip, ho]
      omega

/-- A group of a moment has 512 significands and 16 exponents (02 R34). -/
theorem length_momentGroup (old : List Byte) (new : List (Option FVal × Rnd)) (free : Nat → Nat) (hn : new.length ≤ 512) : (momentGroup old new free).1.length = 528 := by
  unfold momentGroup
  dsimp only
  generalize hb : (chunks 32 new).zipIdx.map (fun (x : List (Option FVal × Rnd) × Nat) =>
    momentBlock ((List.range 32).map (fun i => mbSig 4 old (32 * x.2 + i))) (mbExp 4 old (32 * x.2)) x.1 (fun i => free (32 * x.2 + i))) = bs
  have blocks : bs.length ≤ 16 := by
    rw [← hb, List.length_map, List.length_zipIdx]
    exact length_chunksAux_le 32 16 _ _ hn
  have sigs : ∀ b ∈ bs, b.1.length = 32 := by
    rw [← hb]
    intro b hb
    obtain ⟨x, hx, rfl⟩ := List.mem_map.mp hb
    refine length_momentBlock _ _ _ _ (by rw [List.length_map, List.length_range]) ?_
    obtain ⟨_, _, hx⟩ := List.mem_zipIdx hx
    rw [hx]
    exact mem_chunksAux _ _ _ _ (List.getElem_mem _)
  have total : (bs.flatMap (·.1)).length = 32 * bs.length := by
    rw [List.length_flatMap, List.map_congr_left sigs, List.map_const', List.sum_replicate, smul_eq_mul, Nat.mul_comm]
  rw [mbPack, if_pos rfl]
  simp only [List.length_append, List.length_map, List.length_replicate, total]
  omega

/-- The weight of an element as written: the new one where the update gives one, and the old bytes where it does not. -/
def weightPiece (old : List Byte) (x : Option ElemOut × Nat) : List Byte := match x.1 with
  | some e => leBytes e.w 2
  | none => (old.drop (2 * x.2)).take 2

/-- The weights of some elements as written. -/
def weightBytes (old : List Byte) (es : List (Option ElemOut)) : List Byte := es.zipIdx.flatMap (weightPiece old)

theorem length_flatMap_const {α β : Type} (f : α → List β) (m : Nat) (l : List α) (h : ∀ x ∈ l, (f x).length = m) : (l.flatMap f).length = m * l.length := by
  rw [List.length_flatMap, List.map_congr_left h, List.map_const', List.sum_replicate, smul_eq_mul, Nat.mul_comm]

/-- Piece `i` of a list made of pieces of one length. -/
theorem take_drop_flatMap_const {α β : Type} (f : α → List β) (m : Nat) (l : List α) (h : ∀ x ∈ l, (f x).length = m) (i : Nat) (hi : i < l.length) :
    ((l.flatMap f).drop (m * i)).take m = f l[i] := by
  induction l generalizing i with
  | nil => exact absurd hi (Nat.not_lt_zero _)
  | cons x l ih =>
    have hx := h x List.mem_cons_self
    rw [List.flatMap_cons]
    cases i with
    | zero => rw [Nat.mul_zero, List.drop_zero, List.take_append_of_le_length hx.ge, List.take_of_length_le hx.le, List.getElem_cons_zero]
    | succ i =>
      rw [Nat.mul_succ, Nat.add_comm, ← List.drop_drop, List.drop_append_of_le_length hx.ge, List.drop_of_length_le hx.le, List.nil_append,
        ih (fun y hy => h y (List.mem_cons_of_mem _ hy)) i (by simpa using hi), List.getElem_cons_succ]

theorem length_weightPiece (old : List Byte) (es : List (Option ElemOut)) (h : old.length = 2 * es.length) (x : Option ElemOut × Nat) (hx : x ∈ es.zipIdx) :
    (weightPiece old x).length = 2 := by
  obtain ⟨e, i⟩ := x
  have hi : i < es.length := by
    obtain ⟨_, hi, _⟩ := List.mem_zipIdx hx
    omega
  cases e with
  | some e => exact length_leBytes _ _
  | none =>
    simp only [weightPiece, List.length_take, List.length_drop]
    omega

theorem length_weightBytes (old : List Byte) (es : List (Option ElemOut)) (h : old.length = 2 * es.length) : (weightBytes old es).length = 2 * es.length := by
  rw [weightBytes, length_flatMap_const _ 2 _ (length_weightPiece old es h), List.length_zipIdx]

theorem bf16_enc_lt (m : Rnd) (v : FVal) : bf16.enc m v < 2 ^ 16 := by
  have inf : bf16.infBits < 2 ^ 15 := by decide
  have sign : ∀ b : Bool, (if b then bf16.signBit else 0) ≤ 2 ^ 15 := by decide
  have nan : bf16.nanBits < 2 ^ 16 := by decide
  cases v with
  | nan => exact nan
  | inf b =>
    have := sign b
    simp only [Fmt.enc, Fmt.round]
    omega
  | fin b mag e =>
    have := sign b
    simp only [Fmt.enc, Fmt.round]
    by_cases hm : mag = 0
    · rw [if_pos hm]
      dsimp only
      omega
    · rw [if_neg hm]
      cases m with
      | rtz =>
        have : (if bf16.infBits ≤ bf16.magBits .rtz mag e then bf16.infBits - 1 else bf16.magBits .rtz mag e) ≤ bf16.infBits := by split <;> omega
        dsimp only
        omega
      | rne =>
        have : (if decide (bf16.infBits ≤ bf16.magBits .rne mag e) = true then bf16.infBits else bf16.magBits .rne mag e) ≤ bf16.infBits := by
          split
          · exact le_rfl
          · next small => exact (Nat.lt_of_not_le fun h => small (decide_eq_true h)).le
        dsimp only
        omega
      | sr r =>
        have : (if decide (bf16.infBits ≤ bf16.magBits .rne mag e) = true then bf16.infBits
            else if bf16.infBits ≤ bf16.magBits (.sr r) mag e then bf16.infBits - 1 else bf16.magBits (.sr r) mag e) ≤ bf16.infBits := by
          split
          · exact le_rfl
          · split <;> omega
        dsimp only
        omega

theorem kilnElem_weight_lt {d : KilnDesc} {c : Option FVal} {g : FVal} {w : Nat} {r : Int} {m q : FVal} {rnd : Rnd} {e : ElemOut}
    (h : kilnElem d c g w r m q rnd = some e) : e.w < 2 ^ 16 := by
  unfold kilnElem at h
  split at h
  · cases h
  · dsimp only at h
    split_ifs at h <;> cases h <;> exact bf16_enc_lt _ _

/-- The weight of an element as written. -/
theorem leNat_weightBytes (old : List Byte) (es : List (Option ElemOut)) (h : old.length = 2 * es.length) (j : Nat) (hj : j < es.length)
    (small : ∀ e, es[j] = some e → e.w < 2 ^ 16) :
    leNat (((weightBytes old es).drop (2 * j)).take 2) = ((es[j]).map (·.w)).getD (leNat ((old.drop (2 * j)).take 2)) := by
  have piece := take_drop_flatMap_const _ 2 es.zipIdx (length_weightPiece old es h) j (by rwa [List.length_zipIdx])
  rw [List.getElem_zipIdx, Nat.zero_add] at piece
  rw [weightBytes, piece]
  cases he : es[j] with
  | some e =>
    have := small e he
    dsimp only [weightPiece]
    rw [leNat_leBytes, Nat.mod_eq_of_lt (by simpa using this)]
    rfl
  | none => rfl

/-! ## The update of a group -/

/-- What the update of each element of a group gives. -/
def State.kilnElems (s : State) (p : KilnPart) (c : Option FVal) (lo n : Nat) : List (Option ElemOut) :=
  let d := p.desc
  let k := p.stack
  let rd := fun (x : Nat × Nat) => s.view x.1 x.2
  let gs := (d.g.take d.uses).map (fun a => rd (groupRange d.gFmt (d.inStack a k) lo n))
  let wb := rd (groupRange 1 (d.inStack d.w k) lo n)
  let mb := rd (groupRange 4 (d.inStack d.m k) lo n)
  let qb := rd (groupRange 4 (d.inStack d.q k) lo n)
  let rb := if d.mode = 2 then rd (d.inStack d.rem k + lo, n) else []
  (List.range n).map (fun j => kilnElem d c (useSum d.gFmt gs j) (recNat wb (2 * j) 2) (sint 8 (rb.getD j 0).toNat)
    (mbVal (mbSig 4 mb j) (mbExp 4 mb j)) (mbVal (mbSig 4 qb j) (mbExp 4 qb j))
    (if d.mode = 1 then Rnd.sr (rand16 s.stepNumber.toNat s.salt d.tensorId.toNat d.phase.toNat 1 (d.elemBase.toNat + p.first + lo + j)) else .rne))

/-- The weights of a group as written. -/
def State.kilnWeights (s : State) (p : KilnPart) (c : Option FVal) (lo n : Nat) : (Nat × Nat) × List Byte :=
  (groupRange 1 (p.desc.inStack p.desc.w p.stack) lo n,
    weightBytes (s.view (groupRange 1 (p.desc.inStack p.desc.w p.stack) lo n).1 (groupRange 1 (p.desc.inStack p.desc.w p.stack) lo n).2) (s.kilnElems p c lo n))

/-- What the update of a group does with what it writes: its lines are recorded, its ranges written, and its counts follow. -/
def State.kilnWrite (s : State) (p : KilnPart) (lo n : Nat) (es : List (Option ElemOut)) (outs : List ((Nat × Nat) × List Byte)) (weights : List Byte) (flows : Nat)
    (ratios : List (FVal × FVal)) : State × Bool :=
  let lns := linesOf (outs.map (·.1))
  let u := lns.foldl (undoFirst p) ({ s with free := s.free + 1024 }, false)
  if u.2 then u
  else (((((u.1.kilnStore outs lns).kilnShadow p lo n weights flows).kilnTally p.stack es).ratioAdd p ratios), false)

theorem State.length_kilnElems (s : State) (p : KilnPart) (c : Option FVal) (lo n : Nat) : (s.kilnElems p c lo n).length = n := by
  rw [State.kilnElems, List.length_map, List.length_range]

/-- What the update of a group writes beside its weights, from the new significands and exponents of the moments and the new remainders. -/
def KilnPart.momentOuts (p : KilnPart) (lo n : Nat) (m q r : List Byte) : List ((Nat × Nat) × List Byte) :=
  [(groupRange 4 (p.desc.inStack p.desc.m p.stack) lo n, m), (groupRange 4 (p.desc.inStack p.desc.q p.stack) lo n, q)] ++
    (if p.desc.mode = 2 then [((p.desc.inStack p.desc.rem p.stack + lo, n), r)] else [])

theorem KilnPart.momentOuts_sizes (p : KilnPart) (lo n : Nat) (m q r : List Byte) (hm : m.length = 528) (hq : q.length = 528) (hr : r.length = n) :
    ∀ x ∈ p.momentOuts lo n m q r, x.2.length = x.1.2 := by
  intro x hx
  unfold KilnPart.momentOuts at hx
  rw [groupRange_mb8, groupRange_mb8] at hx
  rcases List.mem_append.mp hx with hx | hx
  · simp only [List.mem_cons, List.not_mem_nil, or_false] at hx
    rcases hx with rfl | rfl
    · exact hm
    · exact hq
  · split at hx
    · rw [List.mem_singleton.mp hx]
      exact hr
    · exact absurd hx List.not_mem_nil

/-- The update of a group as the elements it computes and what it writes of them. -/
theorem State.kilnGroup_shape (s : State) (p : KilnPart) (c : Option FVal) (lo n : Nat) :
    ∃ (mb qb : List Byte) (fm fq : Option ElemOut × Nat → Option FVal × Rnd) (free free' : Nat → Nat) (fr : Option ElemOut × Nat → Byte) (flows : Nat) (ratios : List (FVal × FVal)),
      s.kilnGroup p c lo n = s.kilnWrite p lo n (s.kilnElems p c lo n)
        (s.kilnWeights p c lo n :: p.momentOuts lo n (momentGroup mb ((s.kilnElems p c lo n).zipIdx.map fm) free).1
          (momentGroup qb ((s.kilnElems p c lo n).zipIdx.map fq) free').1 ((s.kilnElems p c lo n).zipIdx.map fr))
        (s.kilnWeights p c lo n).2 flows ratios := ⟨_, _, _, _, _, _, _, _, _, rfl⟩

/-- The update of a group writes its weights, and of each other array as many bytes as the group has there. -/
theorem State.kilnGroup_eq (s : State) (p : KilnPart) (c : Option FVal) (lo n : Nat) (hn : n ≤ 512) : ∃ (rest : List ((Nat × Nat) × List Byte)) (flows : Nat) (ratios : List (FVal × FVal)),
    (s.kilnWeights p c lo n :: rest).map (·.1) = p.outRanges lo n ∧ (∀ x ∈ rest, x.2.length = x.1.2) ∧
    s.kilnGroup p c lo n = s.kilnWrite p lo n (s.kilnElems p c lo n) (s.kilnWeights p c lo n :: rest) (s.kilnWeights p c lo n).2 flows ratios := by
  obtain ⟨mb, qb, fm, fq, free, free', fr, flows, ratios, shape⟩ := s.kilnGroup_shape p c lo n
  have elems {α : Type} (f : Option ElemOut × Nat → α) : ((s.kilnElems p c lo n).zipIdx.map f).length = n := by
    rw [List.length_map, List.length_zipIdx, State.length_kilnElems]
  have hm := length_momentGroup mb _ free (elems fm ▸ hn)
  have hq := length_momentGroup qb _ free' (elems fq ▸ hn)
  have hr := elems fr
  generalize (momentGroup mb ((s.kilnElems p c lo n).zipIdx.map fm) free).1 = m at hm shape
  generalize (momentGroup qb ((s.kilnElems p c lo n).zipIdx.map fq) free').1 = q at hq shape
  refine ⟨_, flows, ratios, ?_, p.momentOuts_sizes lo n m q _ hm hq hr, shape⟩
  unfold KilnPart.outRanges State.kilnWeights KilnPart.momentOuts
  split <;> rfl

end Sys2Proof.Machine
end

section
/-! SUPPORT. Where the update of a group stores its arrays (05 R184): the bytes of the weights, every line outside the arrays, and what the counts leave of every line. -/

namespace Sys2Proof.Machine

/-! ## Arrays stored -/

/-- The lines of some ranges with their bytes, range by range. -/
def storedLines (outs : List ((Nat × Nat) × List Byte)) : List Nat := outs.flatMap (fun x => linesIn x.1.1 x.1.2)

theorem mem_storedLines (outs : List ((Nat × Nat) × List Byte)) (l : Nat) : l ∈ storedLines outs ↔ ∃ x ∈ outs, l ∈ linesIn x.1.1 x.1.2 := List.mem_flatMap

theorem storedLines_linesOf (outs : List ((Nat × Nat) × List Byte)) (l : Nat) (hl : l ∈ storedLines outs) : l ∈ linesOf (outs.map (·.1)) := by
  obtain ⟨x, hx, hl⟩ := (mem_storedLines _ _).mp hl
  exact linesIn_linesOf (List.mem_map_of_mem hx) hl

/-- The write of one array after another. -/
def State.storeAll (s : State) (outs : List ((Nat × Nat) × List Byte)) : State :=
  s.each outs (fun (t : State) (x : (Nat × Nat) × List Byte) => t.tunBytes x.1.1 x.2 (fun _ => false) 1)

theorem State.storeAll_wrote (outs : List ((Nat × Nat) × List Byte)) (s : State) (free : s.errorFree) (sizes : ∀ x ∈ outs, x.2.length = x.1.2)
    (homes : ∀ l ∈ storedLines outs, ∃ k, k < 12 ∧ s.home (64 * l) = some (.hbm k)) (few : ∀ q, (s.combLines q).length + (storedLines outs).length ≤ 76800) :
    State.Wrote (storedLines outs) s (s.storeAll outs) := by
  induction outs generalizing s with
  | nil => exact .refl free
  | cons x outs ih =>
    have split : storedLines (x :: outs) = linesIn x.1.1 x.1.2 ++ storedLines outs := List.flatMap_cons
    have size := sizes x List.mem_cons_self
    rw [split] at homes few ⊢
    simp only [List.length_append] at few
    obtain ⟨wrote, -⟩ := s.tunBytes_wrote x.1.1 x.2 (fun _ => false) 1 free (by rw [size]; exact fun l hl => homes l (List.mem_append_left _ hl)) (by
      rw [size]
      intro q
      have := few q
      omega)
    rw [size] at wrote
    refine wrote.trans (ih _ wrote.free (fun y hy => sizes y (List.mem_cons_of_mem _ hy)) (fun l hl => ?_) fun q => ?_)
    · rw [wrote.home]
      exact homes l (List.mem_append_right _ hl)
    · have grown := (wrote.comb q).length_le
      have := few q
      rw [List.length_append] at grown
      omega

/-- The first array as it reads after the write of all, where no other one meets its lines. -/
theorem State.storeAll_first (s : State) (w : (Nat × Nat) × List Byte) (rest : List ((Nat × Nat) × List Byte)) (free : s.errorFree) (sizes : ∀ x ∈ w :: rest, x.2.length = x.1.2)
    (homes : ∀ l ∈ storedLines (w :: rest), ∃ k, k < 12 ∧ s.home (64 * l) = some (.hbm k)) (none : ∀ q, s.combLines q = []) (few : (storedLines (w :: rest)).length ≤ 76800)
    (apart : ∀ l ∈ linesIn w.1.1 w.1.2, l ∉ storedLines rest) (i : Nat) (hi : i < w.1.2) : (s.storeAll (w :: rest)).byte (w.1.1 + i) = w.2.getD i 0 := by
  have split : storedLines (w :: rest) = linesIn w.1.1 w.1.2 ++ storedLines rest := List.flatMap_cons
  have size := sizes w List.mem_cons_self
  rw [split] at homes few
  rw [List.length_append] at few
  obtain ⟨wrote, bytes⟩ := s.tunBytes_wrote w.1.1 w.2 (fun _ => false) 1 free (by rw [size]; exact fun l hl => homes l (List.mem_append_left _ hl)) (by
    rw [size]
    intro q
    rw [none q, List.length_nil]
    omega)
  rw [size] at wrote bytes
  have others := State.storeAll_wrote rest (s.tunBytes w.1.1 w.2 (fun _ => false) 1) wrote.free (fun y hy => sizes y (List.mem_cons_of_mem _ hy))
    (fun l hl => by rw [wrote.home]; exact homes l (List.mem_append_right _ hl)) (fun q => by
      have grown := (wrote.comb q).length_le
      rw [List.length_append, none q, List.length_nil] at grown
      omega)
  have here : (w.1.1 + i) / 64 ∈ linesIn w.1.1 w.1.2 := (mem_linesIn _ _ _).mpr ⟨by omega, by omega, by omega⟩
  show lineByte (((s.tunBytes w.1.1 w.2 (fun _ => false) 1).storeAll rest).line ((w.1.1 + i) / 64)).1 ((w.1.1 + i) % 64) = _
  rw [others.others _ (apart _ here)]
  exact bytes (fun q l _ => by rw [none q]; exact List.not_mem_nil) i hi

/-- The digest of the lines written changes no line. -/
theorem State.kilnStore_eq (s : State) (outs : List ((Nat × Nat) × List Byte)) (lns : List Nat) : ∃ f, s.kilnStore outs lns = (s.storeAll outs).modEsc f := by
  unfold State.kilnStore State.storeAll
  exact ⟨_, rfl⟩

/-! ## Counts, reasons and sums -/

/-- State `t` has the parts and the lines of state `s`. -/
structure State.Tallied (s t : State) : Prop where
  units : t.kiln.units = s.kiln.units
  line : t.line = s.line

theorem State.Tallied.refl (s : State) : s.Tallied s := ⟨rfl, rfl⟩

theorem State.Tallied.trans {s t u : State} (h : s.Tallied t) (h' : t.Tallied u) : s.Tallied u := ⟨h'.units.trans h.units, h'.line.trans h.line⟩

theorem State.Tallied.bump (s : State) (o m n : Nat) (h : ∀ x ∈ placeMembers, 256 * x.1 + x.2 ≠ 256 * o + m) : s.Tallied (s.bump o m n) := ⟨rfl, (s.line_bump o m n h).2⟩

theorem State.Tallied.reason (s : State) (q code : Nat) : s.Tallied (s.reason q code) := by
  unfold State.reason
  split <;> exact ⟨rfl, rfl⟩

theorem State.Tallied.blockOverflow (s : State) (q job n : Nat) : s.Tallied (s.blockOverflow q job n) := by
  unfold State.blockOverflow
  split
  · exact .refl s
  · have counted := State.Tallied.bump s 0x3103 0 n (by decide)
    dsimp only
    split
    · exact counted.trans (.reason _ _ _)
    · exact counted

theorem State.Tallied.kilnOver (s : State) (p : KilnPart) (refused : Bool) : s.Tallied (s.kilnOver p refused) := by
  unfold State.kilnOver
  split <;> exact ⟨rfl, rfl⟩

theorem State.Tallied.kilnTally (s : State) (k : Nat) (es : List (Option ElemOut)) : s.Tallied (s.kilnTally k es) := by
  unfold State.kilnTally
  dsimp only
  have counted := (State.Tallied.bump s 0x3120 3 (es.filter (fun e => (e.map (·.clamped)).getD false)).length (by decide)).trans
    (.bump _ 0x3120 4 (es.filter Option.isNone).length (by decide))
  split
  · exact counted
  · exact counted.trans (.reason _ _ _)

theorem State.Tallied.ratioAdd (s : State) (p : KilnPart) (l : List (FVal × FVal)) : s.Tallied (s.ratioAdd p l) := by
  unfold State.ratioAdd
  split
  · exact .refl s
  · dsimp only
    refine State.Tallied.trans ?_ (.kilnOver _ _ _)
    refine State.Tallied.trans ?_ (.bump _ 0x3103 5 _ (by decide))
    exact ⟨rfl, rfl⟩

/-- Without a shadow copy only the block overflows are counted. -/
theorem State.Tallied.kilnShadow (s : State) (p : KilnPart) (lo n : Nat) (wn : List Byte) (overflows : Nat) (none : p.desc.shadow = 0) :
    s.Tallied (s.kilnShadow p lo n wn overflows) := by
  unfold State.kilnShadow
  dsimp only
  rw [if_pos none]
  exact .blockOverflow _ _ _ _

end Sys2Proof.Machine
end

section
/-! SUPPORT. The update of a part of one group on clean lines (05 R179 to R184): its records fit, its weights read back as computed, and every other line is kept. -/

namespace Sys2Proof.Machine

/-! ## Records and stores of one group -/

theorem length_storedLines (outs : List ((Nat × Nat) × List Byte)) : (storedLines outs).length ≤ ((outs.map (·.1)).map (fun r => (r.2 + 126) / 64)).sum := by
  unfold storedLines
  rw [List.length_flatMap, List.map_map]
  exact List.sum_le_sum fun x _ => length_linesIn _ _

/-- The undo records of a part of one group fit where its share has room for 8 KiB. -/
theorem KilnPart.undoFirsts_fit (p : KilnPart) (s : State) (some_ : 0 < p.count) (one : p.count ≤ 512) (free : s.errorFree) (room : s.shareUsed p.stack + 8192 ≤ s.shareSize)
    (reached : s.stackOut p.stack = false) (clean : ∀ ln ∈ p.outLines 0 p.count, (s.line ln).2 = false) (u : State × Bool)
    (hu : u = (p.outLines 0 p.count).foldl (undoFirst p) ({ s with free := s.free + 1024 }, false)) : u.2 = false ∧ s.ReadsAs u.1 ∧ u.1.kiln.units = s.kiln.units := by
  obtain ⟨v, hv⟩ : ∃ v, v = { s with free := s.free + 1024 } := ⟨_, rfl⟩
  have alike : s.ReadsAs v := by
    rw [hv]
    exact ⟨free, rfl, rfl, fun _ => rfl, fun _ h => h, fun _ => .refl _⟩
  have used : v.shareUsed p.stack = s.shareUsed p.stack := by rw [hv]; rfl
  have size : v.shareSize = s.shareSize := by rw [hv]; rfl
  have units : v.kiln.units = s.kiln.units := by rw [hv]
  have few : (v.unrecorded (p.outLines 0 p.count)).card ≤ 64 := (Finset.card_le_card Finset.sdiff_subset).trans (p.card_outLines 0 p.count one)
  obtain ⟨fits, ready⟩ := undoFirsts_ready p (p.outLines 0 p.count) (p.outLines 0 p.count) v (fun _ h => h) (p.undoArrays_outLines some_ one)
    (fun ln hl => alike.clean ln (clean ln hl)) (by rw [alike.out]; exact reached) ⟨.refl alike.free, rfl, by omega⟩
  rw [hu, ← hv]
  exact ⟨fits, alike.trans ready.reads, ready.units.trans units⟩

/-- What the update of a group leaves once its records fit: the parts, every line outside its arrays, and the first array as written. -/
theorem State.kilnWrite_stores (s : State) (p : KilnPart) (lo n : Nat) (es : List (Option ElemOut)) (w : (Nat × Nat) × List Byte) (rest : List ((Nat × Nat) × List Byte))
    (weights : List Byte) (flows : Nat) (ratios : List (FVal × FVal)) (u : State × Bool)
    (hu : u = (linesOf ((w :: rest).map (·.1))).foldl (undoFirst p) ({ s with free := s.free + 1024 }, false)) (fits : u.2 = false) (reads : s.ReadsAs u.1)
    (units : u.1.kiln.units = s.kiln.units) (unshadowed : p.desc.shadow = 0) (sizes : ∀ x ∈ w :: rest, x.2.length = x.1.2)
    (homes : ∀ l ∈ storedLines (w :: rest), ∃ k, k < 12 ∧ s.home (64 * l) = some (.hbm k)) (none : ∀ q, s.combLines q = []) (few : (storedLines (w :: rest)).length ≤ 76800)
    (apart : ∀ l ∈ linesIn w.1.1 w.1.2, l ∉ storedLines rest) (r : State × Bool) (hr : r = s.kilnWrite p lo n es (w :: rest) weights flows ratios) :
    r.2 = false ∧ r.1.kiln.units = s.kiln.units ∧ (∀ l, l ∉ storedLines (w :: rest) → (r.1.line l).1 = (s.line l).1) ∧
    ∀ i, i < w.1.2 → r.1.byte (w.1.1 + i) = w.2.getD i 0 := by
  have homes' : ∀ l ∈ storedLines (w :: rest), ∃ k, k < 12 ∧ u.1.home (64 * l) = some (.hbm k) := fun l hl => by rw [reads.home]; exact homes l hl
  have none' (q : Nat) : u.1.combLines q = [] := List.sublist_nil.mp (none q ▸ reads.comb q)
  have wrote := State.storeAll_wrote (w :: rest) u.1 reads.free sizes homes' fun q => by rw [none' q, List.length_nil, Nat.zero_add]; exact few
  have bytes := u.1.storeAll_first w rest reads.free sizes homes' none' few apart
  obtain ⟨f, store⟩ := u.1.kilnStore_eq (w :: rest) (linesOf ((w :: rest).map (·.1)))
  have digest : (u.1.storeAll (w :: rest)).Tallied (u.1.kilnStore (w :: rest) (linesOf ((w :: rest).map (·.1)))) := by
    rw [store]
    exact ⟨rfl, rfl⟩
  unfold State.kilnWrite at hr
  dsimp only at hr
  rw [← hu, fits, if_neg Bool.false_ne_true] at hr
  have tallied := ((digest.trans (.kilnShadow _ p lo n weights flows unshadowed)).trans (.kilnTally _ p.stack es)).trans (.ratioAdd _ p ratios)
  rw [hr]
  refine ⟨rfl, tallied.units.trans ((congrArg Kiln.units wrote.kiln).trans units), fun l hl => ?_, fun i hi => ?_⟩
  · rw [tallied.line, wrote.others l hl, reads.data]
  · unfold State.byte
    rw [tallied.line]
    exact bytes i hi

/-- The update of a part of one group: it goes to its end, with the weights of its elements as bytes and every line outside its arrays as it was. -/
theorem State.kilnGroup_stores (s : State) (p : KilnPart) (c : Option FVal) (update : p.desc.op ≠ 1) (some_ : 0 < p.count) (one : p.count ≤ 512) (free : s.errorFree)
    (clean : s.cleanHbm (p.reads 0 p.count)) (room : s.shareUsed p.stack + 8192 ≤ s.shareSize) (reached : s.stackOut p.stack = false) (none : ∀ q, s.combLines q = [])
    (unshadowed : p.desc.shadow = 0) (apart : ∀ w rest, p.outRanges 0 p.count = w :: rest → ∀ l ∈ linesOf [w], l ∉ linesOf rest) (r : State × Bool)
    (hr : r = s.kilnGroup p c 0 p.count) :
    r.2 = false ∧ r.1.kiln.units = s.kiln.units ∧ (∀ l, l ∉ p.outLines 0 p.count → (r.1.line l).1 = (s.line l).1) ∧
    ∀ i, i < 2 * p.count → r.1.byte ((s.kilnWeights p c 0 p.count).1.1 + i) = (s.kilnWeights p c 0 p.count).2.getD i 0 := by
  obtain ⟨rest, flows, ratios, ranges, restSizes, group⟩ := s.kilnGroup_eq p c 0 p.count one
  have weightsSize : (s.kilnWeights p c 0 p.count).2.length = (s.kilnWeights p c 0 p.count).1.2 := by
    unfold State.kilnWeights
    dsimp only
    rw [length_weightBytes _ _ (by rw [State.length_view, State.length_kilnElems]; rfl), State.length_kilnElems]
    rfl
  have weightsRange : (s.kilnWeights p c 0 p.count).1.2 = 2 * p.count := rfl
  generalize s.kilnWeights p c 0 p.count = w at ranges weightsSize weightsRange group ⊢
  have sizes : ∀ x ∈ w :: rest, x.2.length = x.1.2 := fun x hx => by
    rcases List.mem_cons.mp hx with rfl | hx
    · exact weightsSize
    · exact restSizes x hx
  have written : linesOf ((w :: rest).map (·.1)) = p.outLines 0 p.count := by rw [ranges]; rfl
  have cleanOut : ∀ l ∈ p.outLines 0 p.count, (∃ k, k < 12 ∧ s.home (64 * l) = some (.hbm k)) ∧ (s.line l).2 = false := fun l hl => by
    obtain ⟨x, hx, low, high⟩ := (mem_linesOf _ _).mp hl
    exact clean l ((mem_linesOf _ _).mpr ⟨x, p.outRanges_reads 0 p.count update x hx, low, high⟩)
  have stored : ∀ l ∈ storedLines (w :: rest), l ∈ p.outLines 0 p.count := fun l hl => by
    rw [← written]
    exact storedLines_linesOf _ _ hl
  have few : (storedLines (w :: rest)).length ≤ 64 := (length_storedLines _).trans (by rw [ranges]; exact p.outRanges_sum 0 p.count one)
  obtain ⟨fits, reads, units⟩ := p.undoFirsts_fit s some_ one free room reached (fun l hl => (cleanOut l hl).2) _ rfl
  have apart' : ∀ l ∈ linesIn w.1.1 w.1.2, l ∉ storedLines rest := fun l hl hrest =>
    apart w.1 (rest.map (·.1)) (by rw [← ranges, List.map_cons]) l (linesIn_linesOf (List.mem_singleton.mpr rfl) hl) (storedLines_linesOf _ _ hrest)
  obtain ⟨ended, units', others, bytes⟩ := s.kilnWrite_stores p 0 p.count (s.kilnElems p c 0 p.count) w rest w.2 flows ratios _ (by rw [written]) fits reads units unshadowed sizes
    (fun l hl => (cleanOut l (stored l hl)).1) none (few.trans (by decide)) apart' r (hr.trans group)
  exact ⟨ended, units', fun l hl => others l fun hs => hl (stored l hs), fun i hi => bytes i (weightsRange ▸ hi)⟩

/-! ## The weights that read back -/

theorem State.view_of_bytes (t : State) (a : Nat) (b : List Byte) (h : ∀ i, i < b.length → t.byte (a + i) = b.getD i 0) (i m : Nat) (hi : i + m ≤ b.length) :
    t.view (a + i) m = (b.drop i).take m := by
  refine List.ext_getElem (by simp; omega) fun j hj _ => ?_
  rw [State.length_view] at hj
  simp only [State.view_eq_map, List.getElem_map, List.getElem_range, List.getElem_take, List.getElem_drop]
  rw [Nat.add_assoc, h (i + j) (by omega), List.getD_eq_getElem _ _ (by omega)]

/-- What the update of element `j` of a part of one group gives, from the arrays as device memory holds them. -/
def State.kilnElemAt (s : State) (p : KilnPart) (c : Option FVal) (j : Nat) : Option ElemOut :=
  let d := p.desc
  let at_ : Nat → Nat → Nat × Nat := fun f g => groupRange f (d.inStack g p.stack) 0 p.count
  let gs := (d.g.take d.uses).map (fun g => let x := groupRange d.gFmt (d.inStack g p.stack) 0 p.count; s.view x.1 x.2)
  let mb := s.view (at_ 4 d.m).1 (at_ 4 d.m).2
  let qb := s.view (at_ 4 d.q).1 (at_ 4 d.q).2
  let rnd := if d.mode = 1 then Rnd.sr (rand16 s.stepNumber.toNat s.salt d.tensorId.toNat d.phase.toNat 1 (d.elemBase.toNat + p.first + j)) else .rne
  kilnElem d c (useSum d.gFmt gs j) (leNat (s.view ((at_ 1 d.w).1 + 2 * j) 2)) (if d.mode = 2 then sint 8 (leNat (s.view (d.inStack d.rem p.stack + j) 1)) else 0)
    (mbVal (mbSig 4 mb j) (mbExp 4 mb j)) (mbVal (mbSig 4 qb j) (mbExp 4 qb j)) rnd

theorem State.kilnElemAt_congr {s t : State} (reads : s.ReadsAs t) (outside : t.outsideMem = s.outsideMem) (p : KilnPart) (c : Option FVal) (j : Nat) :
    t.kilnElemAt p c j = s.kilnElemAt p c j := by
  have step : t.stepNumber = s.stepNumber := congrArg (fun u => u.stepNumber) outside
  have salt : t.salt = s.salt := State.objGet_of_outsideMem s t outside 0x3100 0 (by simp) (by decide)
  unfold State.kilnElemAt
  simp only [reads.view, step, salt]

theorem State.kilnElems_getElem (s : State) (p : KilnPart) (c : Option FVal) (j : Nat) (hj : j < p.count) :
    (s.kilnElems p c 0 p.count)[j]'(by rw [State.length_kilnElems]; exact hj) = s.kilnElemAt p c j := by
  have weight (a : Nat) : recNat (s.view a (2 * p.count)) (2 * j) 2 = leNat (s.view (a + 2 * j) 2) := congrArg leNat (s.take_drop_view a _ (2 * j) 2 (by omega))
  have remainder : sint 8 ((if p.desc.mode = 2 then s.view (p.desc.inStack p.desc.rem p.stack) p.count else []).getD j 0).toNat =
      if p.desc.mode = 2 then sint 8 (leNat (s.view (p.desc.inStack p.desc.rem p.stack + j) 1)) else 0 := by
    split
    · rw [s.getD_view _ _ _ hj]
    · rfl
  unfold State.kilnElems State.kilnElemAt
  simp only [List.getElem_map, List.getElem_range, groupRange_bf16, Nat.add_zero, weight, remainder]

/-- Each weight of the group reads back as the update of its element gives it, or as it was. -/
theorem State.kilnWeights_read (s t : State) (p : KilnPart) (c : Option FVal)
    (bytes : ∀ i, i < 2 * p.count → t.byte ((s.kilnWeights p c 0 p.count).1.1 + i) = (s.kilnWeights p c 0 p.count).2.getD i 0) (j : Nat) (hj : j < p.count) :
    leNat (t.view ((groupRange 1 (p.desc.inStack p.desc.w p.stack) 0 p.count).1 + 2 * j) 2) =
      ((s.kilnElemAt p c j).map (·.w)).getD (leNat (s.view ((groupRange 1 (p.desc.inStack p.desc.w p.stack) 0 p.count).1 + 2 * j) 2)) := by
  have old : (s.view (groupRange 1 (p.desc.inStack p.desc.w p.stack) 0 p.count).1 (2 * p.count)).length = 2 * (s.kilnElems p c 0 p.count).length := by
    rw [State.length_view, State.length_kilnElems]
  have size := length_weightBytes _ _ old
  rw [State.length_kilnElems] at size
  have small : ∀ e, (s.kilnElems p c 0 p.count)[j]'(by rw [State.length_kilnElems]; exact hj) = some e → e.w < 2 ^ 16 := fun e he => by
    rw [s.kilnElems_getElem p c j hj] at he
    exact kilnElem_weight_lt he
  have read : t.view ((s.kilnWeights p c 0 p.count).1.1 + 2 * j) 2 = (((s.kilnWeights p c 0 p.count).2).drop (2 * j)).take 2 := by
    have size' : (s.kilnWeights p c 0 p.count).2.length = 2 * p.count := size
    exact t.view_of_bytes _ _ (fun i hi => bytes i (size' ▸ hi)) (2 * j) 2 (by omega)
  refine ((congrArg leNat read).trans (leNat_weightBytes _ _ old j (by rw [State.length_kilnElems]; exact hj) small)).trans ?_
  rw [s.kilnElems_getElem p c j hj, s.take_drop_view _ _ _ _ (by omega)]

end Sys2Proof.Machine
end

section
/-! SUPPORT. KILN_UPDATE, KILN_NORM and KILN_DESCRIPTOR_COMPLETE (05 R173, R178, R187): a part of one group, a frozen part, and a descriptor whose parts have ended. -/

namespace Sys2Proof.Machine

theorem exec_kilnUpdate (k : Fin 12) (id : Nat) (s : State) : exec (.kilnUpdate k id) s = execKilnUpdate k id s := rfl

theorem exec_kilnNorm (k : Fin 12) (id : Nat) (s : State) : exec (.kilnNorm k id) s = execKilnNorm k id s := rfl

theorem exec_kilnDescriptorComplete (id : Nat) (s : State) : exec (.kilnDescriptorComplete id) s = execKilnDescriptorComplete id s := rfl

/-! ## The end of a part -/

/-- A part once it has ended. -/
def KilnPart.endOf (id : Nat) (x : KilnPart) : KilnPart := if x.id = id then { x with stage := .finished } else x

theorem State.kilnUnit_modKiln (s : State) (k : Nat) (f : KilnUnit → KilnUnit) (hk : k < 12) : (s.modKiln k f).kilnUnit k = f (s.kilnUnit k) := by
  unfold State.kilnUnit State.modKiln
  rw [vmod_eq_vset _ _ _ KilnUnit.reset, vget_vset_same _ _ _ _ hk]

theorem State.kilnUnit_congr {s t : State} (h : t.kiln.units = s.kiln.units) (k : Nat) : t.kilnUnit k = s.kilnUnit k := by
  unfold State.kilnUnit
  rw [h]

theorem State.kilnUnit_kilnEnd (s : State) (k id : Nat) (hk : k < 12) :
    (s.kilnEnd k id).kilnUnit k = { s.kilnUnit k with parts := (s.kilnUnit k).parts.map (KilnPart.endOf id) } := s.kilnUnit_modKiln k _ hk

theorem State.line_kilnEnd (s : State) (k id : Nat) : (s.kilnEnd k id).line = s.line := rfl

theorem State.kilnReady_op {s : State} {k id op : Nat} {p : KilnPart} (ready : s.kilnReady k id op = some p) : p.desc.op = op := by
  have picked := List.find?_some ready
  simp only [Bool.and_eq_true, beq_iff_eq] at picked
  exact picked.1.1.2

theorem State.kilnWaits_online (s : State) (p : KilnPart) (online : s.retraining = false) : s.kilnWaits p = false := by
  unfold State.kilnWaits
  rw [online]
  rfl

/-! ## A part of one group -/

theorem State.kilnGroups_one (s : State) (p : KilnPart) (f : State → Nat → Nat → State × Bool) (some_ : 0 < p.count) (one : p.count ≤ 512) (free : s.errorFree)
    (clean : s.cleanHbm (p.reads 0 p.count)) : ∃ t, s.ReadsAs t ∧ t.outsideMem = s.outsideMem ∧
    ((f t 0 p.count).2 = false → s.kilnGroups p f (List.range (ceilDiv p.count 512)) = ((f t 0 p.count).1, true)) := by
  have groups : List.range (ceilDiv p.count 512) = [0] := by
    rw [ceilDiv, show (p.count + 512 - 1) / 512 = 1 by omega]
    rfl
  have reads := State.ReadsAs.each free (p.reads 0 p.count) (fun s x => s.touchRange x.1 x.2 1) fun t x tfree => .touchRange tfree x.1 x.2 1
  have outside := s.each_outsideMem (p.reads 0 p.count) (fun s x => s.touchRange x.1 x.2 1) fun t x => t.touchRange_outsideMem x.1 x.2 1
  have first : min 512 (p.count - 512 * 0) = p.count := by omega
  rw [groups]
  unfold State.kilnGroups
  dsimp only
  rw [first, Nat.mul_zero]
  generalize s.each (p.reads 0 p.count) (fun s x => s.touchRange x.1 x.2 1) = t at reads outside ⊢
  have unpoisoned : (linesOf (p.reads 0 p.count)).find? (fun ln => (t.line ln).2) = none := by
    refine List.find?_eq_none.mpr fun l hl => ?_
    rw [reads.clean l (clean l hl).2]
    exact Bool.false_ne_true
  rw [unpoisoned]
  exact ⟨t, reads, outside, fun fits => if_neg (by rw [fits]; exact Bool.false_ne_true)⟩

theorem State.ReadsAs.cleanHbm {s t : State} (reads : s.ReadsAs t) {l : List (Nat × Nat)} (clean : s.cleanHbm l) : t.cleanHbm l := fun ln hl => by
  rw [reads.home]
  exact ⟨(clean ln hl).1, reads.clean ln (clean ln hl).2⟩

/-- KILN_UPDATE of a part of one group. -/
theorem exec_kilnUpdate_group (s : State) (k : Fin 12) (id : Nat) (p : KilnPart) (ready : s.kilnReady k id 0 = some p) (thawed : p.desc.frozen = false) (some_ : 0 < p.count)
    (one : p.count ≤ 512) (online : s.retraining = false) (free : s.errorFree) (clean : s.cleanHbm (p.reads 0 p.count)) (unshadowed : p.desc.shadow = 0)
    (stack : p.stack < 12) (roomy : s.roomy) (none : ∀ q, s.combLines q = []) (apart : ∀ w rest, p.outRanges 0 p.count = w :: rest → ∀ l ∈ linesOf [w], l ∉ linesOf rest) :
    Runs (.kilnUpdate k id) s (fun t => (t.kilnUnit k).parts = (s.kilnUnit k).parts.map (KilnPart.endOf id) ∧
      (∀ l, l ∉ p.outLines 0 p.count → (t.line l).1 = (s.line l).1) ∧ ∀ j, j < p.count →
        leNat (t.view ((groupRange 1 (p.desc.inStack p.desc.w p.stack) 0 p.count).1 + 2 * j) 2) =
          ((s.kilnElemAt p (clipFactor p.desc (s.kilnUnit k).globalSS) j).map (·.w)).getD
            (leNat (s.view ((groupRange 1 (p.desc.inStack p.desc.w p.stack) 0 p.count).1 + 2 * j) 2))) := by
  obtain ⟨c, hc⟩ : ∃ c, c = clipFactor p.desc (s.kilnUnit k).globalSS := ⟨_, rfl⟩
  obtain ⟨t, reads, outside, group⟩ := s.kilnGroups_one p (fun s lo n => s.kilnGroup p c lo n) some_ one free clean
  have used : t.shareUsed p.stack = s.shareUsed p.stack := congrArg (fun u => u.shareUsed p.stack) outside
  have size : t.shareSize = s.shareSize := congrArg (· * MiB) (State.objGet_of_outsideMem s t outside 0x3202 0 (by simp) (by decide))
  have units : t.kiln.units = s.kiln.units := congrArg Kiln.units (State.kiln_of_outsideMem outside)
  obtain ⟨room, reached⟩ := roomy p.stack stack
  have update : p.desc.op ≠ 1 := by rw [State.kilnReady_op ready]; decide
  obtain ⟨fits, units', others, bytes⟩ := t.kilnGroup_stores p c update some_ one reads.free (reads.cleanHbm clean) (by rw [used, size]; exact room) (by rw [reads.out]; exact reached)
    (fun q => List.sublist_nil.mp (none q ▸ reads.comb q)) unshadowed apart _ rfl
  have weights := t.kilnWeights_read _ p c bytes
  have run : exec (.kilnUpdate k id) s = .next ((t.kilnGroup p c 0 p.count).1.kilnEnd k id) := by
    rw [exec_kilnUpdate, execKilnUpdate, ready]
    dsimp only
    rw [thawed, if_neg Bool.false_ne_true, s.kilnWaits_online p online, if_neg Bool.false_ne_true, ← hc, group fits]
    rfl
  generalize (t.kilnGroup p c 0 p.count).1 = u at run units' others weights
  refine ⟨u.kilnEnd k id, run, ?_, fun l hl => ?_, fun j hj => ?_⟩
  · rw [State.kilnUnit_kilnEnd _ _ _ k.isLt, State.kilnUnit_congr (units'.trans units)]
  · rw [State.line_kilnEnd, others l hl, reads.data]
  · rw [State.view_congr (s := u) (fun l => by rw [State.line_kilnEnd]), weights j hj, State.kilnElemAt_congr reads outside, reads.view, hc]

/-! ## KILN_NORM -/

/-- The use-sums of a part of one group, element by element. -/
def State.useSums (s : State) (p : KilnPart) (j : Nat) : FVal :=
  useSum p.desc.gFmt ((p.desc.g.take p.desc.uses).map (fun a => let x := groupRange p.desc.gFmt (p.desc.inStack a p.stack) 0 p.count; s.view x.1 x.2)) j

theorem State.useSums_congr {s t : State} (reads : s.ReadsAs t) (p : KilnPart) : t.useSums p = s.useSums p := by
  unfold State.useSums
  simp only [reads.view]

/-- PART_SS once the squares of a part of one group have been added. -/
def State.normSum (s : State) (p : KilnPart) (x : BitVec 128) : SquareSum := (List.range p.count).foldl (fun a j => a.add (s.useSums p j)) (SquareSum.of x)

/-- A group's squares enter PART_SS, and no line changes. -/
theorem State.normGroup_eq (s : State) (p : KilnPart) : ∃ t, s.normGroup p 0 p.count = (t, false) ∧
    (s.modKiln p.stack (fun u => { u with partSS := (s.normSum p (s.kilnUnit p.stack).partSS).bits })).Tallied t :=
  ⟨_, rfl, (State.Tallied.bump _ 0x3103 5 _ (by decide)).trans (.kilnOver _ _ _)⟩

/-- KILN_NORM of a part of one group. -/
theorem exec_kilnNorm_group (s : State) (k : Fin 12) (id : Nat) (p : KilnPart) (ready : s.kilnReady k id 1 = some p) (thawed : p.desc.frozen = false) (some_ : 0 < p.count)
    (one : p.count ≤ 512) (online : s.retraining = false) (free : s.errorFree) (clean : s.cleanHbm (p.reads 0 p.count)) (stack : p.stack = k.val) :
    Runs (.kilnNorm k id) s (fun t => (t.kilnUnit k).parts = (s.kilnUnit k).parts.map (KilnPart.endOf id) ∧ (∀ l, (t.line l).1 = (s.line l).1) ∧
      (t.kilnUnit k).partSS = (s.normSum p (s.kilnUnit k).partSS).bits) := by
  obtain ⟨t, reads, outside, group⟩ := s.kilnGroups_one p (fun s lo n => s.normGroup p lo n) some_ one free clean
  obtain ⟨u, norm, tallied⟩ := t.normGroup_eq p
  have units : t.kiln.units = s.kiln.units := congrArg Kiln.units (State.kiln_of_outsideMem outside)
  have summed : u.kilnUnit k = { s.kilnUnit k with partSS := (s.normSum p (s.kilnUnit k).partSS).bits } := by
    rw [State.kilnUnit_congr tallied.units, stack, State.kilnUnit_modKiln _ _ _ k.isLt, State.kilnUnit_congr units]
    unfold State.normSum
    rw [State.useSums_congr reads]
  have run : exec (.kilnNorm k id) s = .next (u.kilnEnd k id) := by
    rw [norm] at group
    rw [exec_kilnNorm, execKilnNorm, ready]
    dsimp only
    rw [thawed, if_neg Bool.false_ne_true, s.kilnWaits_online p online, if_neg Bool.false_ne_true, group rfl]
    rfl
  refine ⟨u.kilnEnd k id, run, ?_, fun l => ?_, ?_⟩
  · rw [State.kilnUnit_kilnEnd _ _ _ k.isLt, summed]
  · rw [State.line_kilnEnd, tallied.line, ← reads.data]
    rfl
  · rw [State.kilnUnit_kilnEnd _ _ _ k.isLt, summed]

/-! ## Frozen parts -/

theorem exec_kilnUpdate_frozen (s : State) (k : Fin 12) (id : Nat) (p : KilnPart) (ready : s.kilnReady k id 0 = some p) (frozen : p.desc.frozen = true) :
    exec (.kilnUpdate k id) s = .next (s.kilnEnd k id) := by
  rw [exec_kilnUpdate, execKilnUpdate, ready]
  dsimp only
  rw [if_pos frozen]

theorem exec_kilnNorm_frozen (s : State) (k : Fin 12) (id : Nat) (p : KilnPart) (ready : s.kilnReady k id 1 = some p) (frozen : p.desc.frozen = true) :
    exec (.kilnNorm k id) s = .next (s.kilnEnd k id) := by
  rw [exec_kilnNorm, execKilnNorm, ready]
  dsimp only
  rw [if_pos frozen]

/-! ## The end of a descriptor -/

/-- The state without the parts of a descriptor. -/
def State.forget (s : State) (id : Nat) : State :=
  { s with kiln := { s.kiln with units := s.kiln.units.map (fun (u : KilnUnit) => { u with parts := u.parts.filter (fun (x : KilnPart) => x.id != id) }) } }

theorem State.kilnUnit_forget (s : State) (id k : Nat) (hk : k < 12) : ((s.forget id).kilnUnit k).parts = (s.kilnUnit k).parts.filter (fun x => x.id != id) := by
  unfold State.kilnUnit State.forget
  rw [vget_eq_getElem _ _ _ hk, vget_eq_getElem _ _ _ hk, Vector.getElem_map]

theorem State.counterAdd_kiln (s : State) (n : Nat) (a : Int) : (s.counterAdd n a).kiln = s.kiln := by
  simp [State.counterAdd, apply_ite State.kiln]

theorem State.counterAdd_sync (s : State) (n : Nat) (a : Int) :
    (s.counterAdd n a).sync = if s.counterOwner n < 8 then (s.setCounter n ((s.counter n).add a)).sync else s.sync := by
  simp only [State.counterAdd, apply_ite State.sync, State.bump_sync, ite_self]
  rfl

/-- A signal adds to its counter, where the counter has an owner, and to no other one. -/
theorem State.counter_counterAdd (s : State) (n m : Nat) (a : Int) (hm : m < 65536) (hn : n < 65536) :
    (s.counterAdd n a).counter m = if m = n ∧ s.counterOwner n < 8 then (s.counter n).add a else s.counter m := by
  have read (t : State) (h : (s.counterAdd n a).sync = t.sync) : (s.counterAdd n a).counter m = t.counter m := by
    unfold State.counter
    rw [h]
  have after := s.counterAdd_sync n a
  by_cases owned : s.counterOwner n < 8
  · rw [if_pos owned] at after
    rw [read _ after]
    by_cases same : m = n
    · rw [if_pos ⟨same, owned⟩, same, State.counter_setCounter]
    · rw [if_neg fun h => same h.1, State.counter_setCounter_ne _ _ _ _ (by omega)]
  · rw [if_neg owned] at after
    rw [read _ after, if_neg fun h => owned h.2]

/-- KILN_DESCRIPTOR_COMPLETE acts on the parts of its descriptor. -/
theorem exec_kilnDescriptorComplete_cons (s : State) (id : Nat) (p : KilnPart) (ps : List KilnPart)
    (parts : s.kiln.units.toList.flatMap (fun u => u.parts.filter (fun x => x.id == id)) = p :: ps) :
    exec (.kilnDescriptorComplete id) s = .next (if (p :: ps).all (fun x => x.stage == .finished) then
      if p.desc.doneEn then (s.forget id).counterAdd p.desc.doneCounter.toNat 1 else s.forget id else s) := by
  rw [exec_kilnDescriptorComplete, execKilnDescriptorComplete, parts]
  rfl

end Sys2Proof.Machine
end

section
/-! PROOF. O42: the KILN command, and the update, the norm and the end of its descriptor. -/

namespace Sys2Proof.Machine

/-- What the update of a part of one group writes: its weights, then its other arrays. -/
theorem KilnPart.outRanges_cons (p : KilnPart) : p.outRanges 0 p.count = groupRange 1 (p.desc.inStack p.desc.w p.stack) 0 p.count ::
    ([groupRange 4 (p.desc.inStack p.desc.m p.stack) 0 p.count, groupRange 4 (p.desc.inStack p.desc.q p.stack) 0 p.count] ++
      (if p.desc.mode = 2 then [(p.desc.inStack p.desc.rem p.stack, p.count)] else [])) := rfl

/-- A quarter that combines nothing has no combined line. -/
theorem State.combLines_nil (s : State) (none : ∀ q, q < 4 → vget s.mem.comb q [] = []) (q : Nat) : s.combLines q = [] := by
  unfold State.combLines
  by_cases hq : q < 4
  · rw [none q hq, List.map_nil]
  · simp [vget, hq]

/-- KILN of the gated job waits outside COMPUTE. -/
theorem exec_kiln_waits (s : State) (i : Fin 64) (gated : (s.stream i).job = s.gatedJob) (phase : s.esc.phase ≠ .compute) (first : s.inLocalRun = false) :
    exec (.kiln i) s = .next s := by
  obtain ⟨plan, run, -⟩ := execKiln_plan i s
  rw [exec_kiln, run, if_pos ⟨gated, phase, first⟩]

/-- A descriptor whose parts have all ended is forgotten, and its counter rises once. -/
theorem exec_kilnDescriptorComplete_ended (s : State) (id : Nat) (p : KilnPart) (ps : List KilnPart)
    (parts : s.kiln.units.toList.flatMap (fun u => u.parts.filter (fun x => x.id == id)) = p :: ps) (ended : ∀ x ∈ p :: ps, x.stage = .finished) :
    Runs (.kilnDescriptorComplete id) s (fun t => (∀ k, k < 12 → (t.kilnUnit k).parts = (s.kilnUnit k).parts.filter (fun x => x.id != id)) ∧
      ∀ m, m < 65536 → t.counter m = if m = p.desc.doneCounter.toNat ∧ p.desc.doneEn ∧ s.counterOwner m < 8 then (s.counter m).add 1 else s.counter m) := by
  have all : (p :: ps).all (fun x => x.stage == .finished) = true := List.all_eq_true.mpr fun x hx => by rw [ended x hx]; rfl
  have run := exec_kilnDescriptorComplete_cons s id p ps parts
  rw [if_pos all] at run
  cases signals : p.desc.doneEn with
  | false =>
    rw [signals, if_neg Bool.false_ne_true] at run
    refine ⟨_, run, s.kilnUnit_forget id, fun m _ => ?_⟩
    rw [if_neg fun h => Bool.false_ne_true h.2.1]
    rfl
  | true =>
    rw [signals, if_pos rfl] at run
    refine ⟨_, run, fun k hk => ?_, fun m hm => ?_⟩
    · rw [State.kilnUnit_congr (congrArg Kiln.units (State.counterAdd_kiln _ _ _)), s.kilnUnit_forget id k hk]
    · rw [State.counter_counterAdd _ _ _ _ hm p.desc.doneCounter.isLt]
      by_cases here : m = p.desc.doneCounter.toNat
      · subst here
        simp only [true_and]
        rfl
      · rw [if_neg fun h => here h.1, if_neg fun h => here h.1]
        rfl

/-- A descriptor with a part that has not ended stays. -/
theorem exec_kilnDescriptorComplete_early (s : State) (id : Nat) (p : KilnPart) (ps : List KilnPart)
    (parts : s.kiln.units.toList.flatMap (fun u => u.parts.filter (fun x => x.id == id)) = p :: ps) (early : ∃ x ∈ p :: ps, x.stage ≠ .finished) :
    exec (.kilnDescriptorComplete id) s = .next s := by
  rw [exec_kilnDescriptorComplete_cons s id p ps parts]
  refine congrArg _ (if_neg fun all => ?_)
  obtain ⟨x, hx, before⟩ := early
  have ended := List.all_eq_true.mp all x hx
  exact before (by simpa using ended)

/-- Settles O42: a good KILN command is taken, recorded and joins its parts to the datapaths; the update of a part of one group, whose lines are clean and whose records
therefore fit, writes only its arrays and leaves in each weight what its element gives; the norm adds to PART_SS alone; the end of a descriptor signals once. -/
theorem kilnUpdates : Obligations.KilnUpdates := by
  unfold Obligations.KilnUpdates
  intro s
  refine ⟨fun i n a b gated => ⟨fun phase first => exec_kiln_waits s i gated phase first, ?_⟩, fun k id p => ?_, fun id p ps parts => ⟨fun ended => ?_, exec_kilnDescriptorComplete_early s id p ps parts⟩⟩
  · intro phase next starts op first header roomy step free r h d one aligned place window clean aligned' place' window' clean' formed shares placed apart norm waits counts
    exact exec_kiln_joins s i n a b r h d gated phase next starts op header roomy step free ⟨one, first, rfl, rfl, rfl, aligned, place, window, clean, aligned', place', window', clean',
      formed, shares, placed, apart, norm, waits, counts⟩
  · dsimp only
    refine ⟨fun ready => ⟨fun frozen => ?_, ?_⟩, fun ready => ⟨fun frozen => ?_, ?_⟩⟩
    · refine ⟨s.kilnEnd k id, exec_kilnUpdate_frozen s k id p ready frozen, ?_, rfl, rfl⟩
      rw [State.kilnUnit_kilnEnd _ _ _ k.isLt]
      rfl
    · rintro thawed ⟨stack, some_, one, online, free, clean⟩ unshadowed roomy none apart
      rw [← stack] at apart
      obtain ⟨t, run, ended, others, weights⟩ := exec_kilnUpdate_group s k id p ready thawed some_ one online free clean unshadowed (stack ▸ k.isLt) roomy (s.combLines_nil none)
        (fun w rest ranges => by
          rw [KilnPart.outRanges_cons] at ranges
          obtain ⟨rfl, rfl⟩ := List.cons.inj ranges
          exact apart)
      refine ⟨t, run, ended, ?_, fun j hj => ?_⟩
      · rw [← stack]
        exact others
      · have weight := weights j hj
        unfold State.kilnElemAt at weight
        simp only [stack] at weight ⊢
        rw [weight]
        generalize kilnElem _ _ _ _ _ _ _ _ = e
        cases e <;> rfl
    · refine ⟨s.kilnEnd k id, exec_kilnNorm_frozen s k id p ready frozen, ?_, rfl, rfl⟩
      rw [State.kilnUnit_kilnEnd _ _ _ k.isLt]
      rfl
    · rintro thawed ⟨stack, some_, one, online, free, clean⟩
      obtain ⟨t, run, ended, lines, sum⟩ := exec_kilnNorm_group s k id p ready thawed some_ one online free clean stack
      refine ⟨t, run, ended, lines, ?_⟩
      unfold State.normSum State.useSums at sum
      rw [stack] at sum
      exact sum
  · obtain ⟨t, run, forgotten, counters⟩ := exec_kilnDescriptorComplete_ended s id p ps parts ended
    refine ⟨t, run, forgotten, ?_, fun m hm other => ?_⟩
    · rw [counters _ p.desc.doneCounter.isLt]
      simp only [true_and]
    · rw [counters m hm, if_neg fun h => other h.1]

end Sys2Proof.Machine
end

section
/-! SUPPORT. A combining entry that is flushed, and a write of a line of HBM through the Tun that may find one (06 R202, R221, R223, R224): the line written and every other line. -/

namespace Sys2Proof.Machine

/-! ## Entries of lines -/

theorem State.combEntry_eq_none_iff (s : State) (q ln : Nat) : s.combEntry q ln = none ↔ ln ∉ s.combLines q := by
  refine ⟨fun absent h => ?_, s.combEntry_none q ln⟩
  obtain ⟨e, he, line⟩ := List.mem_map.mp h
  exact List.find?_eq_none.mp absent e he (by simpa using line)

/-- A read through the Tun frees the entry of its line. -/
theorem State.touchRead_combEntry {s : State} (free : s.errorFree) (ln cls k : Nat) (hh : s.home (64 * ln) = some (.hbm k)) :
    (s.touchRead ln cls).combEntry (k / 3) ln = none := by
  have woken : ((s.wakeSlices ln).meetTun ln).readView = s.readView := by
    rw [State.meetTun_free (State.errorFree_congr (s.wakeSlices_readView ln) free), State.wakeSlices_readView]
  unfold State.touchRead
  rw [hh]
  dsimp only
  generalize (s.wakeSlices ln).meetTun ln = w at woken
  have wfree := State.errorFree_congr woken free
  have reached := State.reachHbm_readView wfree k ln
  have entry {t u : State} (h : t.readView = u.readView) (absent : u.combEntry (k / 3) ln = none) : t.combEntry (k / 3) ln = none := by
    unfold State.combEntry
    rw [show t.mem.comb = u.mem.comb from congrArg ReadView.comb h]
    exact absent
  split
  · next e he =>
    have here : (w.reachHbm k ln).home (64 * ln) = some (.hbm k) := by
      rw [(State.ReadsAs.of_readView (reached.trans woken) free).home]
      exact hh
    have gone := ((w.reachHbm k ln).line_dropEntry_same ln k here).1
    have merged := State.ReadsAs.mergeEntry (State.errorFree_congr reached wfree) k ln e here (by
      unfold State.combEntry
      rw [show (w.reachHbm k ln).mem.comb = w.mem.comb from congrArg ReadView.comb reached]
      exact he)
    have counted := State.countCache_readView ((w.reachHbm k ln).mergeEntry (k / 3) ln e) (k / 3) false
    exact entry ((State.cacheLine_readView (State.errorFree_congr counted merged.free) (k / 3) ln true cls).trans counted) gone
  · next absent =>
    split
    · exact entry ((State.countCache_readView _ _ _).trans (State.cacheLine_readView wfree _ _ _ _)) absent
    · have missed : ((w.reachHbm k ln).countCache (k / 3) false).readView = w.readView := (State.countCache_readView _ _ _).trans reached
      split
      · exact entry missed absent
      · exact entry ((State.cacheLine_readView (State.errorFree_congr missed wfree) _ _ _ _).trans missed) absent

/-! ## Flushes -/

/-- A flush where no error waits: the line is read, its entry merged into it, and the flush counted. -/
theorem State.flushEntry_free {s : State} (free : s.errorFree) (q ln k : Nat) (e : CombEntry) (he : s.combEntry q ln = some e) (hm : s.mapped (64 * ln) = some (.hbm k)) :
    s.flushEntry q ln = ((s.reachHbm k ln).mergeEntry q ln e).bump 0x4012 3 1 := by
  have kept : (s.reachHbm k ln).mem.poison = s.mem.poison := congrArg ReadView.poison (State.reachHbm_readView free k ln)
  unfold State.flushEntry
  simp only [State.meetTun_free free, he, hm, kept]
  rw [if_neg (by simp)]
  rfl

/-- There is nothing to flush where no entry combines the line, or where the line is none of HBM. -/
theorem State.flushEntry_nothing {s : State} (free : s.errorFree) (q ln : Nat) (h : s.combEntry q ln = none ∨ ∀ k, s.mapped (64 * ln) ≠ some (.hbm k)) : s.flushEntry q ln = s := by
  unfold State.flushEntry
  rw [State.meetTun_free free]
  split
  · next e k he hm => exact (h.elim (fun h => by simp [h] at he) fun h => h k hm).elim
  · rfl

/-- A flush leaves every other line. -/
theorem State.line_flushEntry_ne {s : State} (free : s.errorFree) (q ln l : Nat) (hl : l ≠ ln) : (s.flushEntry q ln).line l = s.line l := by
  by_cases h : s.combEntry q ln = none ∨ ∀ k, s.mapped (64 * ln) ≠ some (.hbm k)
  · rw [State.flushEntry_nothing free q ln h]
  · obtain ⟨some_, some_'⟩ := not_or.mp h
    obtain ⟨e, he⟩ := Option.ne_none_iff_exists'.mp some_
    obtain ⟨k, hm⟩ := not_forall_not.mp some_'
    rw [State.flushEntry_free free q ln k e he hm, State.line_congr (State.bump_readView _ 0x4012 3 1 (by simp) (by decide)), State.mergeEntry,
      State.line_putHbm_ne _ _ _ _ _ _ hl, State.line_dropEntry_ne _ _ _ _ hl, State.line_congr (State.reachHbm_readView free k ln)]

theorem State.mapped_of_home {s : State} {a k : Nat} (hh : s.home a = some (.hbm k)) : s.mapped a = some (.hbm k) := by
  unfold State.home at hh
  split at hh
  · next j hm =>
    rw [Option.ite_none_left_eq_some] at hh
    exact hm.trans hh.2
  · exact hh

/-- A flush of a line by its home's Tun leaves a state that reads alike, in which no entry combines the line. -/
theorem State.ReadsAs.flushEntry {s : State} (free : s.errorFree) (ln k : Nat) (hh : s.home (64 * ln) = some (.hbm k)) :
    s.ReadsAs (s.flushEntry (k / 3) ln) ∧ (s.flushEntry (k / 3) ln).combEntry (k / 3) ln = none := by
  cases he : s.combEntry (k / 3) ln with
  | none =>
    rw [State.flushEntry_nothing free _ ln (.inl he)]
    exact ⟨.refl free, he⟩
  | some e =>
    rw [State.flushEntry_free free (k / 3) ln k e he (State.mapped_of_home hh)]
    have reached := State.reachHbm_readView free k ln
    have reads := State.ReadsAs.of_readView reached free
    have here : (s.reachHbm k ln).home (64 * ln) = some (.hbm k) := by rw [reads.home]; exact hh
    have merged := State.ReadsAs.mergeEntry reads.free k ln e here (by
      unfold State.combEntry
      rw [show (s.reachHbm k ln).mem.comb = s.mem.comb from congrArg ReadView.comb reached]
      exact he)
    exact ⟨(reads.trans merged).trans (.of_readView (State.bump_readView _ 0x4012 3 1 (by simp) (by decide)) merged.free), ((s.reachHbm k ln).line_dropEntry_same ln k here).1⟩

/-- Pressure on a combining slice leaves the bytes of a line whose home's Tun it belongs to. -/
theorem State.line_combPressure {s : State} (free : s.errorFree) (ln k : Nat) (hh : s.home (64 * ln) = some (.hbm k)) :
    ((s.combPressure (k / 3) ln).line ln).1 = (s.line ln).1 := by
  have flush (l : Nat) : ((s.flushEntry (k / 3) l).line ln).1 = (s.line ln).1 := by
    by_cases h : ln = l
    · subst h
      exact (State.ReadsAs.flushEntry free ln k hh).1.data ln
    · rw [State.line_flushEntry_ne free _ _ _ h]
  unfold State.combPressure
  dsimp only
  split_ifs
  · rfl
  · rfl
  · split
    · split_ifs
      · rfl
      · exact flush _
    · rfl

/-- The entries that share a line's combining slice. -/
def State.sharing (s : State) (q ln : Nat) : List CombEntry := (vget s.mem.comb q []).filter (fun e => s.combSlice q e.line == s.combSlice q ln)

theorem State.combPressure_room (s : State) (q ln : Nat) (room : (s.sharing q ln).length ≤ 76800) : s.combPressure q ln = s := by
  unfold State.combPressure
  dsimp only
  split_ifs with all slice
  · rfl
  · rfl
  · exact absurd room slice

/-! ## A write of a line of HBM -/

theorem mergeLine_full (old new : Line) : mergeLine old new fullMask = new :=
  line_ext fun j hj => by
    rw [lineByte_mergeLine _ _ _ _ hj, if_pos (show fullMask.getLsbD j = true from BitVec.getLsbD_allOnes.trans (decide_eq_true hj))]

/-- A merge of bytes into a merge. -/
theorem mergeLine_or (old data new : Line) (m mask : BitVec 64) : mergeLine old (mergeLine data new mask) (m ||| mask) = mergeLine (mergeLine old data m) new mask :=
  line_ext fun j hj => by
    simp only [lineByte_mergeLine _ _ _ _ hj, BitVec.getLsbD_or]
    cases m.getLsbD j <;> cases mask.getLsbD j <;> rfl

/-- State `t` is state `s` after a write of the selected bytes of a line, merged into what its readers saw; every other line is as it was. -/
structure State.Puts (ln : Nat) (d : Line) (mask : BitVec 64) (s t : State) : Prop where
  free : t.errorFree
  home : t.home = s.home
  here : (t.line ln).1 = mergeLine (s.line ln).1 d mask
  others : ∀ l, l ≠ ln → t.line l = s.line l

section
variable {s t u : State} {ln k : Nat} {d : Line} {mask : BitVec 64} {p : Bool}

theorem State.Puts.then_view (w : State.Puts ln d mask s t) (h : u.readView = t.readView) : State.Puts ln d mask s u where
  free := State.errorFree_congr h w.free
  home := (State.ReadsAs.of_readView h w.free).home.trans w.home
  here := by rw [State.line_congr h]; exact w.here
  others l hl := by rw [State.line_congr h]; exact w.others l hl

theorem State.Puts.after_view (h : u.readView = s.readView) (free : s.errorFree) (w : State.Puts ln d mask u t) : State.Puts ln d mask s t where
  free := w.free
  home := w.home.trans (State.ReadsAs.of_readView h free).home
  here := by rw [w.here, State.line_congr h]
  others l hl := by rw [w.others l hl, State.line_congr h]

theorem State.putHbm_puts (free : s.errorFree) (hh : s.home (64 * ln) = some (.hbm k)) (single : s.combEntry (k / 3) ln = none) :
    State.Puts ln d mask s (s.putHbm ln d mask p) where
  free := State.errorFree_of_stores (t := s.putHbm ln d mask p) rfl free
  home := (State.home_of_stores (s.putHbm_outsideMem ln d mask p) rfl).1
  here := by rw [State.line_putHbm_same _ _ _ _ _ k hh single]
  others l hl := State.line_putHbm_ne _ _ _ _ _ _ hl

/-- A whole line written frees its entry and is what every reader sees. -/
theorem State.replaceLine_puts (free : s.errorFree) (hh : s.home (64 * ln) = some (.hbm k)) :
    State.Puts ln d fullMask s (((s.dropEntry (k / 3) ln).clearErrors ln).putLine ln d fullMask p) := by
  obtain ⟨comb, mem, -⟩ := s.dropEntry_mem (k / 3) ln
  have home := (State.home_of_stores (s.dropEntry_outsideMem (k / 3) ln) mem).1
  have dropped := State.errorFree_of_stores mem free
  have here : (s.dropEntry (k / 3) ln).home (64 * ln) = some (.hbm k) := by rw [home]; exact hh
  rw [State.clearErrors_free dropped, State.putLine_hbm here]
  have put := State.putHbm_puts (d := d) (mask := fullMask) (p := p) dropped here (s.line_dropEntry_same ln k hh).1
  exact ⟨put.free, put.home.trans home, by rw [put.here, mergeLine_full, mergeLine_full], fun l hl => (put.others l hl).trans (State.line_dropEntry_ne _ _ _ _ hl)⟩

theorem combined_line (ln : Nat) (d : Line) (mask : BitVec 64) (p : Bool) (old : Option CombEntry) : (combined ln d mask p old).line = ln := by
  unfold combined
  split <;> rfl

/-- The entry of a line once its quarter's Tun combines a partial write. -/
theorem State.combine_combEntry (s : State) (q ln : Nat) (e : CombEntry) (line : e.line = ln) (hq : q < 4) : (s.combine q ln e).combEntry q ln = some e := by
  cases h : s.combEntry q ln with
  | none => exact s.combine_combEntry_same q ln e line hq h
  | some old =>
    have entries := s.combine_entries q ln e q
    rw [h, if_pos ⟨rfl, hq⟩, Option.isSome_some, if_pos rfl] at entries
    have pick : ((fun x : CombEntry => x.line == ln) ∘ fun x : CombEntry => if x.line = ln then e else x) = fun x => x.line == ln := by
      funext x
      by_cases hx : x.line = ln <;> simp [hx, line]
    have found : old.line = ln := by simpa using List.find?_some h
    unfold State.combEntry at h ⊢
    rw [entries, List.find?_map, pick, h, Option.map_some, if_pos found]

/-- A partial write that the Tun combines. -/
theorem State.combine_puts (free : s.errorFree) (hh : s.home (64 * ln) = some (.hbm k)) (hk : k < 12) :
    State.Puts ln d mask s (s.combine (k / 3) ln (combined ln d mask p (s.combEntry (k / 3) ln))) := by
  have line := combined_line ln d mask p (s.combEntry (k / 3) ln)
  obtain ⟨outside, comb, mem⟩ := s.combine_frame (k / 3) ln (combined ln d mask p (s.combEntry (k / 3) ln))
  obtain ⟨home, unlisted, -, -⟩ := State.home_of_stores outside mem
  refine ⟨State.errorFree_of_stores mem free, home, ?_, fun l hl =>
    State.line_of_stores outside mem l (fun _ => rfl) rfl fun q => s.combine_combEntry_ne (k / 3) ln _ line q l hl⟩
  rw [State.line_combined _ ln k _ (by rw [home]; exact hh) (s.combine_combEntry (k / 3) ln _ line (by omega)), unlisted, mem]
  cases he : s.combEntry (k / 3) ln with
  | none =>
    rw [State.line_single s ln k hh he]
    exact mergeLine_mergeLine _ _ _ _
  | some e =>
    rw [State.line_combined s ln k e hh he]
    exact mergeLine_or _ _ _ _ _

/-- Combining a partial write adds at most the line's own entry to those of its slice. -/
theorem State.combine_sharing (s : State) (q ln : Nat) (e : CombEntry) (line : e.line = ln) : ((s.combine q ln e).sharing q ln).length ≤ (s.sharing q ln).length + 1 := by
  obtain ⟨-, comb, mem⟩ := s.combine_frame q ln e
  have slice (l : Nat) : (s.combine q ln e).combSlice q l = s.combSlice q l := by
    unfold State.combSlice State.slicesOf
    rw [mem]
  unfold State.sharing
  simp only [slice]
  rw [State.combine_entries]
  split_ifs
  · have pick : ((fun x : CombEntry => s.combSlice q x.line == s.combSlice q ln) ∘ fun x : CombEntry => if x.line = ln then e else x) =
        fun x => s.combSlice q x.line == s.combSlice q ln := by
      funext x
      by_cases hx : x.line = ln <;> simp [hx, line]
    rw [List.filter_map, pick, List.length_map]
    omega
  · rw [List.filter_append, List.length_append]
    exact Nat.add_le_add_left (List.length_filter_le _ _) _
  · omega

/-- State `t` is what a write leaves: the line is written, and then the pressure on its combining slice may flush an entry, when the slice is nearly full. -/
def State.PutsUnderPressure (k ln : Nat) (d : Line) (mask : BitVec 64) (s t : State) : Prop :=
  State.Puts ln d mask s t ∨ ∃ v, State.Puts ln d mask s v ∧ t = v.combPressure (k / 3) ln ∧ (v.sharing (k / 3) ln).length ≤ (s.sharing (k / 3) ln).length + 1

/-- What readers see of the line written, and of every other line where the slice has room. -/
theorem State.PutsUnderPressure.reads (w : State.PutsUnderPressure k ln d mask s t) (hh : s.home (64 * ln) = some (.hbm k)) :
    (t.line ln).1 = mergeLine (s.line ln).1 d mask ∧ ((s.sharing (k / 3) ln).length < 76800 → ∀ l, l ≠ ln → t.line l = s.line l) := by
  rcases w with put | ⟨v, put, rfl, grown⟩
  · exact ⟨put.here, fun _ => put.others⟩
  · have here : v.home (64 * ln) = some (.hbm k) := by rw [put.home]; exact hh
    refine ⟨(State.line_combPressure put.free ln k here).trans put.here, fun room l hl => ?_⟩
    rw [State.combPressure_room _ _ _ (by omega)]
    exact put.others l hl

/-- A partial write that misses the cache, where no entry combines the line or the quarter has combining slices. -/
theorem State.combineWrite_puts (free : s.errorFree) (hh : s.home (64 * ln) = some (.hbm k)) (hk : k < 12)
    (entry : s.combEntry (k / 3) ln = none ∨ 0 < s.slicesIn (k / 3) 1) (cls : Nat) : State.PutsUnderPressure k ln d mask s (s.combineWrite k ln d mask p cls) := by
  rw [State.combineWrite_eq s k ln d mask p cls free]
  split
  · next none =>
    have single := entry.resolve_right (by omega)
    have reached := State.reachHbm_readView free k ln
    have reads := State.ReadsAs.of_readView reached free
    have here : (s.reachHbm k ln).home (64 * ln) = some (.hbm k) := by rw [reads.home]; exact hh
    have still : (s.reachHbm k ln).combEntry (k / 3) ln = Option.none := by
      unfold State.combEntry at single ⊢
      rw [show (s.reachHbm k ln).mem.comb = s.mem.comb from congrArg ReadView.comb reached]
      exact single
    rw [State.putLine_hbm here]
    have put := (State.putHbm_puts (d := d) (mask := mask) (p := p) reads.free here still).after_view reached free
    exact .inl (put.then_view (State.cacheLine_readView put.free _ _ _ _))
  · have combines := State.combine_puts (d := d) (mask := mask) (p := p) free hh hk
    have line := combined_line ln d mask p (s.combEntry (k / 3) ln)
    have grown := s.combine_sharing (k / 3) ln _ line
    have entry := s.combine_combEntry (k / 3) ln _ line (by omega)
    dsimp only
    generalize combined ln d mask p (s.combEntry (k / 3) ln) = e at combines grown entry ⊢
    generalize s.combine (k / 3) ln e = v at combines grown entry ⊢
    have here : v.home (64 * ln) = some (.hbm k) := by rw [combines.home]; exact hh
    split
    · next full =>
      have woken := v.wakeStack_readView k
      have replaced := (State.replaceLine_puts (d := e.data) (p := e.poison) (State.errorFree_congr woken combines.free) (k := k) (ln := ln)
        (by rw [(State.ReadsAs.of_readView woken combines.free).home]; exact here)).after_view woken combines.free
      refine .inl (State.Puts.then_view ⟨replaced.free, replaced.home.trans combines.home, ?_, fun l hl => (replaced.others l hl).trans (combines.others l hl)⟩
        (State.bump_readView _ 0x4012 2 1 (by simp) (by decide)))
      rw [← combines.here, replaced.here, State.line_combined v ln k e here entry, full, mergeLine_full, mergeLine_full]
    · exact .inr ⟨v, combines, rfl, grown⟩

/-- A write of a line as it goes on once the line's racked block is copied and the slices are awake. -/
theorem State.tunPut_puts (free : s.errorFree) (hh : s.home (64 * ln) = some (.hbm k)) (hk : k < 12)
    (entry : s.combEntry (k / 3) ln = none ∨ (s.cached (k / 3) ln = false ∧ 0 < s.slicesIn (k / 3) 1)) (cls : Nat) :
    State.PutsUnderPressure k ln d mask s (
      if mask = fullMask then
        let v := if s.cached (k / 3) ln || s.allocates (k / 3) then s else s.wakeStack k
        (((v.dropEntry (k / 3) ln).clearErrors ln).putLine ln d mask p).cacheLine (k / 3) ln true cls
      else if s.cached (k / 3) ln then ((s.meetTun ln).putLine ln d mask p).cacheLine (k / 3) ln true cls
      else s.combineWrite k ln d mask p cls) := by
  split
  · next full =>
    dsimp only
    have woken : (if (s.cached (k / 3) ln || s.allocates (k / 3)) = true then s else s.wakeStack k).readView = s.readView := by
      split <;> [rfl; exact s.wakeStack_readView k]
    generalize (if (s.cached (k / 3) ln || s.allocates (k / 3)) = true then s else s.wakeStack k) = v at woken
    have alike := State.ReadsAs.of_readView woken free
    subst full
    have put := (State.replaceLine_puts (d := d) (p := p) alike.free (k := k) (ln := ln) (by rw [alike.home]; exact hh)).after_view woken free
    exact .inl (put.then_view (State.cacheLine_readView put.free _ _ _ _))
  · split
    · next hit =>
      have single := entry.resolve_right fun h => by simp [h.1] at hit
      rw [State.meetTun_free free, State.putLine_hbm hh]
      have put := State.putHbm_puts (d := d) (mask := mask) (p := p) free hh single
      exact .inl (put.then_view (State.cacheLine_readView put.free _ _ _ _))
    · exact State.combineWrite_puts free hh hk (entry.imp_right And.right) cls

end

/-- A copy of a racked block frees the entries of its lines. -/
theorem State.copyFirst_combEntry {s : State} (free : s.errorFree) (ln k : Nat) (hh : s.home (64 * ln) = some (.hbm k)) (must : s.mustCopy ln = true) :
    (s.copyFirst ln).combEntry (k / 3) ln = none := by
  have reads (t : State) (tfree : t.errorFree) (i : Nat) := State.ReadsAs.touchRead tfree (64 * (ln / 64) + i) 1
  have freed (l : List Nat) (mem : ln % 64 ∈ l) (t : State) (alike : s.ReadsAs t) :
      ln ∉ (t.each l (fun s i => s.touchRead (64 * (ln / 64) + i) 1)).combLines (k / 3) := by
    induction l generalizing t with
    | nil => cases mem
    | cons i l ih =>
      by_cases there : ln % 64 ∈ l
      · exact ih there (t.touchRead (64 * (ln / 64) + i) 1) (alike.trans (reads t alike.free i))
      · obtain rfl : ln % 64 = i := (List.mem_cons.mp mem).resolve_right there
        have gone := State.touchRead_combEntry alike.free ln 1 k (by rw [alike.home]; exact hh)
        have rest := State.ReadsAs.each (reads t alike.free (ln % 64)).free l (fun s i => s.touchRead (64 * (ln / 64) + i) 1) fun v i vfree => reads v vfree i
        intro back
        have := (rest.comb (k / 3)).mem back
        rw [show 64 * (ln / 64) + ln % 64 = ln by omega] at this
        exact (State.combEntry_eq_none_iff _ _ _).mp gone this
  have gone := (State.combEntry_eq_none_iff _ _ _).mpr (freed (List.range 64) (List.mem_range.mpr (by omega)) s (.refl free))
  unfold State.copyFirst
  rw [if_pos must]
  dsimp only
  generalize s.each _ _ = t at gone ⊢
  exact gone

end Sys2Proof.Machine
end

section
/-! O30: writes and flushes of lines of HBM (06 R199, R221, R224). -/

namespace Sys2Proof.Machine

theorem exec_combiningIdleFlush (q : Fin 4) (line : BitVec 36) (s : State) : exec (.combiningIdleFlush q line) s = execCombiningIdleFlush q line s := rfl

/-- Where no channel is offline, no request waits for one (06 R214). -/
theorem State.access_online (s : State) (online : s.retraining = false) (i : Instr) (lines : List Nat) (need : Nat → Option Nat) (f : State → State) :
    s.access i lines need f = f s := by
  simp [State.access, online]

/-- A write through the Tun of a line of HBM that its quarter holds once: in a combining entry, or not so. -/
theorem State.tunWrite_reads {s : State} {ln k : Nat} (free : s.errorFree) (hh : s.home (64 * ln) = some (.hbm k)) (hk : k < 12) (d : Line) {mask : BitVec 64} (some_ : mask ≠ 0)
    (p : Bool) (cls : Nat) (entry : s.combEntry (k / 3) ln = none ∨ (s.cached (k / 3) ln = false ∧ 0 < s.slicesIn (k / 3) 1)) :
    ((s.tunWrite ln d mask p cls).line ln).1 = mergeLine (s.line ln).1 d mask ∧
    (s.mustCopy ln = false → (s.sharing (k / 3) ln).length < 76800 → ∀ l, l ≠ ln → (s.tunWrite ln d mask p cls).line l = s.line l) := by
  obtain ⟨copied, -⟩ := State.ReadsAs.copyFirst free ln
  have ready (t : State) (mem : t.mem.comb = (s.copyFirst ln).mem.comb) (cache : t.mem.cache = (s.copyFirst ln).mem.cache)
      (mode : t.mem.tunMode = (s.copyFirst ln).mem.tunMode) :
      t.combEntry (k / 3) ln = none ∨ (t.cached (k / 3) ln = false ∧ 0 < t.slicesIn (k / 3) 1) := by
    unfold State.combEntry State.cached State.slicesIn State.slicesOf
    rw [mem, cache, mode]
    cases must : s.mustCopy ln with
    | true => exact .inl (State.copyFirst_combEntry free ln k hh must)
    | false =>
      rw [show s.copyFirst ln = s by simp [State.copyFirst, must]]
      exact entry
  unfold State.tunWrite
  rw [if_neg some_, hh]
  dsimp only
  have view := (State.countCache_readView ((s.copyFirst ln).wakeSlices ln) (k / 3) (s.cached (k / 3) ln)).trans (State.wakeSlices_readView _ _)
  have reads := copied.trans (.of_readView view copied.free)
  have cache : (((s.copyFirst ln).wakeSlices ln).countCache (k / 3) (s.cached (k / 3) ln)).mem.cache = (s.copyFirst ln).mem.cache := by
    unfold State.countCache State.wakeSlices
    split_ifs <;> rfl
  generalize ((s.copyFirst ln).wakeSlices ln).countCache (k / 3) (s.cached (k / 3) ln) = u at view reads cache
  obtain ⟨here, others⟩ := (State.tunPut_puts (d := d) (mask := mask) (p := p) reads.free (by rw [reads.home]; exact hh) hk
    (ready u (congrArg ReadView.comb view) cache (congrArg ReadView.tunMode view)) cls).reads (by rw [reads.home]; exact hh)
  refine ⟨here.trans (by rw [reads.data]), fun stays room l hl => ?_⟩
  rw [show s.copyFirst ln = s by simp [State.copyFirst, stays]] at view
  rw [State.line_congr view] at others
  refine others ?_ l hl
  unfold State.sharing State.combSlice State.slicesOf
  rw [show u.mem.comb = s.mem.comb from congrArg ReadView.comb view, show u.mem.tunMode = s.mem.tunMode from congrArg ReadView.tunMode view]
  exact room

/-- Settles O30: what a write leaves of the line and of every other line, by where the quarter holds the line; a flush merges the line's entry. -/
theorem tunCoherent : Obligations.TunCoherent := by
  unfold Obligations.TunCoherent
  intro s ln k hh hk free
  refine ⟨fun d mask poison cls some_ entry => State.tunWrite_reads free hh hk d some_ poison cls entry, fun q line hq hline online => ?_⟩
  obtain ⟨reads, gone⟩ := State.ReadsAs.flushEntry free ln k hh
  refine ⟨s.flushEntry (k / 3) ln, ?_, by rw [hq]; exact gone, reads.data ln, fun l hl => State.line_flushEntry_ne free _ _ _ hl⟩
  rw [exec_combiningIdleFlush, execCombiningIdleFlush, hline, hq]
  cases absent : s.combEntry (k / 3) ln with
  | none => rw [State.flushEntry_nothing free _ ln (.inl absent)]; rfl
  | some e => exact congrArg Host.Outcome.next ((if_pos rfl).trans (s.access_online online _ _ _ _))

end Sys2Proof.Machine
end

section
/-! SUPPORT. Memory-side arithmetic (06 R228 to R230): the elements of a line after a request, and the state that a request leaves. -/

namespace Sys2Proof.Machine

/-! ## Elements of a line -/

/-- Element `i`, of `w` bits, of a line. -/
def lineElem (w : Nat) (l : Line) (i : Nat) : Nat := l.toNat / 2 ^ (w * i) % 2 ^ w

theorem lineElem_lt (w : Nat) (l : Line) (i : Nat) : lineElem w l i < 2 ^ w := Nat.mod_lt _ (Nat.two_pow_pos w)

theorem foldr_pairs (w : Nat) (es : List (Nat × Bool)) (small : ∀ e ∈ es, e.1 < 2 ^ w) :
    es.foldr (fun e acc => 2 ^ w * acc + e.1) 0 = (es.map Prod.fst).foldr (fun x acc => 2 ^ w * acc + x % 2 ^ w) 0 := by
  induction es with
  | nil => rfl
  | cons e es ih =>
    rw [List.foldr_cons, List.map_cons, List.foldr_cons, ih fun e he => small e (List.mem_cons_of_mem _ he), Nat.mod_eq_of_lt (small e List.mem_cons_self)]

/-- The elements of a line built from them. -/
theorem lineElem_ofPairs (w : Nat) (es : List (Nat × Bool)) (small : ∀ e ∈ es, e.1 < 2 ^ w) (fit : w * es.length ≤ 512) (i : Nat) :
    lineElem w (BitVec.ofNat 512 (es.foldr (fun e acc => 2 ^ w * acc + e.1) 0)) i = (es.map Prod.fst).getD i 0 % 2 ^ w := by
  have bound := foldr_lt w (es.map Prod.fst)
  rw [List.length_map] at bound
  rw [lineElem, foldr_pairs w es small, BitVec.toNat_ofNat, Nat.mod_eq_of_lt (bound.trans_le (Nat.pow_le_pow_right (by decide) fit)), foldr_lane]

/-- The operations of a request by number (06 Table 9). -/
theorem adderWidth_eq (op : BitVec 4) : adderWidth op.toNat = if op = 1 ∨ op = 7 then 64 else if op = 3 then 16 else 32 := by
  revert op
  decide

/-- An operation has the result of 06 Table 9, which fits its element. -/
theorem adderElem_eq (op : BitVec 4) (hop : op.toNat < 8) (a b c : Nat) (ha : a < 2 ^ adderWidth op.toNat) (hb : b < 2 ^ adderWidth op.toNat) (hc : c < 2 ^ adderWidth op.toNat) :
    (adderElem op.toNat a b c).1 =
      (if op = 0 ∨ op = 1 then (a + b) % 2 ^ adderWidth op.toNat
      else if op = 2 then fp32.enc .rne ((fp32.decode a).add (fp32.decode b))
      else if op = 3 then bf16.enc .rne ((bf16.decode a).add (bf16.decode b))
      else if op = 4 then (if decide (sint 32 a < sint 32 b) then b else a) else if op = 5 then (if decide (sint 32 b < sint 32 a) then b else a)
      else if a = c then b else a) ∧
    (adderElem op.toNat a b c).1 < 2 ^ adderWidth op.toNat := by
  have all : op = 0 ∨ op = 1 ∨ op = 2 ∨ op = 3 ∨ op = 4 ∨ op = 5 ∨ op = 6 ∨ op = 7 := by
    revert hop
    clear ha hb hc
    revert op
    decide
  have choice (p : Prop) [Decidable p] : (if p then b else a) < 2 ^ adderWidth op.toNat := by split <;> assumption
  have decided (p : Prop) [Decidable p] : (if p then b else a) = if decide p then b else a := if_congr decide_eq_true_iff.symm rfl rfl
  rcases all with rfl | rfl | rfl | rfl | rfl | rfl | rfl | rfl
  · exact ⟨rfl, Nat.mod_lt _ (by decide)⟩
  · exact ⟨rfl, Nat.mod_lt _ (by decide)⟩
  · exact ⟨rfl, fp32_enc_lt _⟩
  · exact ⟨rfl, bf16_enc_lt _ _⟩
  · exact ⟨decided (sint 32 a < sint 32 b), choice (sint 32 a < sint 32 b)⟩
  · exact ⟨decided (sint 32 b < sint 32 a), choice (sint 32 b < sint 32 a)⟩
  · have same : adderElem (6 : BitVec 4).toNat a b c = (if a = c % 2 ^ adderWidth (6 : BitVec 4).toNat then b else a, false) := rfl
    rw [same, Nat.mod_eq_of_lt hc]
    exact ⟨rfl, choice (a = c)⟩
  · have same : adderElem (7 : BitVec 4).toNat a b c = (if a = c % 2 ^ adderWidth (7 : BitVec 4).toNat then b else a, false) := rfl
    rw [same, Nat.mod_eq_of_lt hc]
    exact ⟨rfl, choice (a = c)⟩

/-- Each element of a line after a request: the operation's result where the mask selects it, and what it was elsewhere. -/
theorem adderLine_elem (op : BitVec 4) (hop : op.toNat < 8) (mask : Nat) (old x cmp : Line) (i : Nat) (hi : i < 512 / adderWidth op.toNat) :
    lineElem (adderWidth op.toNat) (adderLine op.toNat mask old x cmp).1 i =
      if mask.testBit i then
        (adderElem op.toNat (lineElem (adderWidth op.toNat) old i) (lineElem (adderWidth op.toNat) x i) (lineElem (adderWidth op.toNat) cmp i)).1
      else lineElem (adderWidth op.toNat) old i := by
  let elem : Nat → Nat × Bool := fun j =>
    if mask.testBit j then adderElem op.toNat (lineElem (adderWidth op.toNat) old j) (lineElem (adderWidth op.toNat) x j) (lineElem (adderWidth op.toNat) cmp j)
    else (lineElem (adderWidth op.toNat) old j, false)
  have small (j : Nat) : (elem j).1 < 2 ^ adderWidth op.toNat := by
    dsimp only [elem]
    split
    · exact (adderElem_eq op hop _ _ _ (lineElem_lt _ old j) (lineElem_lt _ x j) (lineElem_lt _ cmp j)).2
    · exact lineElem_lt _ old j
  have line : (adderLine op.toNat mask old x cmp).1 =
      BitVec.ofNat 512 (((List.range (512 / adderWidth op.toNat)).map elem).foldr (fun e acc => 2 ^ adderWidth op.toNat * acc + e.1) 0) := rfl
  rw [line, lineElem_ofPairs _ _ (fun e he => by obtain ⟨j, -, rfl⟩ := List.mem_map.mp he; exact small j)
    (by rw [List.length_map, List.length_range]; exact Nat.mul_div_le 512 _)]
  rw [List.map_map, List.getD_eq_getElem _ _ (by simpa using hi), List.getElem_map, List.getElem_range, Function.comp_apply, Nat.mod_eq_of_lt (small i)]
  dsimp only [elem]
  split <;> rfl

/-! ## One request -/

/-- A line leaves for HBM, where no error waits: nothing that is read changes. -/
theorem State.writeBackLine_readView {s : State} (free : s.errorFree) (ln : Nat) : (s.writeBackLine ln).readView = s.readView := by
  unfold State.writeBackLine
  split
  · rw [State.meetTun_free free, State.clearErrors_free (State.errorFree_congr (s.wakeStack_readView _) free), s.wakeStack_readView]
  · rfl

/-- Which lines the adders hold is no part of what is read. -/
theorem State.readView_buffers (s : State) (adder : MemSys → List Nat) (evicted : MemSys → Nat) :
    (s.modMem (fun m => { m with adder := adder m, evicted := evicted m })).readView = s.readView := rfl

theorem State.bufferLine_readView {s : State} (free : s.errorFree) (k ln : Nat) : (s.bufferLine k ln).readView = s.readView := by
  unfold State.bufferLine
  split
  · rfl
  · dsimp only
    have reached := State.reachHbm_readView free k ln
    have written (l : List Nat) : ((s.reachHbm k ln).each l State.writeBackLine).readView = s.readView :=
      State.each_invariant (P := fun t => t.readView = s.readView) _ l _ reached fun t ht a _ => (State.writeBackLine_readView (State.errorFree_congr ht free) a).trans ht
    exact (State.readView_buffers _ _ _).trans (written _)

theorem State.flushEntry_outsideMem (s : State) (q ln : Nat) : (s.flushEntry q ln).outsideMem = s.outsideMem := by
  unfold State.flushEntry
  split
  · dsimp only
    split <;> simp
  · rfl

theorem State.mustCopy_congr {s t : State} (h : t.rack = s.rack) (ln : Nat) : t.mustCopy ln = s.mustCopy ln := by
  unfold State.mustCopy
  rw [h]

/-- The state in which an adder applies a request: the line is out of the Tun and in the adder's buffer. -/
def State.gathered (s : State) (k ln : Nat) : State :=
  (((((s.bump 0x4030 0 1).wakeSlices ln).meetTun ln).flushEntry (k / 3) ln).evict (k / 3) ln).bufferLine k ln

/-- Gathering a line at its adder, where no error waits: nothing that is read changes, and no entry combines the line. -/
theorem State.gathered_reads {s : State} (free : s.errorFree) (k ln : Nat) (hh : s.home (64 * ln) = some (.hbm k)) :
    s.ReadsAs (s.gathered k ln) ∧ (s.gathered k ln).combEntry (k / 3) ln = none ∧ (∀ l, l ≠ ln → (s.gathered k ln).line l = s.line l) ∧ (s.gathered k ln).rack = s.rack := by
  obtain ⟨home, line⟩ := s.line_bump 0x4030 0 1 (by decide)
  have counted := State.ReadsAs.bump free 0x4030 0 1 (by decide)
  have woken : (((s.bump 0x4030 0 1).wakeSlices ln).meetTun ln).readView = (s.bump 0x4030 0 1).readView := by
    rw [State.meetTun_free (State.errorFree_congr (State.wakeSlices_readView _ ln) counted.free), State.wakeSlices_readView]
  unfold State.gathered
  generalize ((s.bump 0x4030 0 1).wakeSlices ln).meetTun ln = t at woken
  have reads := counted.trans (.of_readView woken counted.free)
  obtain ⟨flushed, gone⟩ := State.ReadsAs.flushEntry reads.free ln k (by rw [reads.home]; exact hh)
  have others (l : Nat) (hl : l ≠ ln) : (t.flushEntry (k / 3) ln).line l = s.line l := by
    rw [State.line_flushEntry_ne reads.free _ _ _ hl, State.line_congr woken, line]
  have outside := t.flushEntry_outsideMem (k / 3) ln
  generalize t.flushEntry (k / 3) ln = u at flushed gone others outside
  have evicted := State.evict_readView flushed.free (k / 3) ln
  have buffered := (State.bufferLine_readView (State.errorFree_congr evicted flushed.free) k ln).trans evicted
  refine ⟨(reads.trans flushed).trans (.of_readView buffered flushed.free), ?_, fun l hl => by rw [State.line_congr buffered, others l hl], ?_⟩
  · unfold State.combEntry at gone ⊢
    rw [show ((u.evict (k / 3) ln).bufferLine k ln).mem.comb = u.mem.comb from congrArg ReadView.comb buffered]
    exact gone
  · exact congrArg (fun v => v.rack) ((congrArg ReadView.outside buffered).trans (outside.trans (congrArg ReadView.outside woken)))

/-- The state once an adder has counted a request and is about to write its result. -/
def State.requested (s : State) (k ln : Nat) : State := ((s.gathered k ln).bump 0x4030 1 1).bump 0x4030 3 0

theorem State.requested_reads {s : State} (free : s.errorFree) (k ln : Nat) (hh : s.home (64 * ln) = some (.hbm k)) :
    s.ReadsAs (s.requested k ln) ∧ (s.requested k ln).combEntry (k / 3) ln = none ∧ (∀ l, l ≠ ln → (s.requested k ln).line l = s.line l) ∧ (s.requested k ln).rack = s.rack := by
  obtain ⟨reads, single, others, rack⟩ := State.gathered_reads free k ln hh
  unfold State.requested
  generalize s.gathered k ln = g at reads single others rack
  have once := State.ReadsAs.bump reads.free 0x4030 1 1 (by decide)
  refine ⟨(reads.trans once).trans (.bump once.free 0x4030 3 0 (by decide)), single, fun l hl => ?_, rack⟩
  rw [(State.line_bump _ 0x4030 3 0 (by decide)).2, (State.line_bump _ 0x4030 1 1 (by decide)).2, others l hl]

/-- The state once an adder has written a result over a line and counted its infinities. -/
def State.resulted (s : State) (k ln : Nat) (r : Line × Nat) : State :=
  ((((s.requested k ln).copyFirst ln).putLine ln r.1 fullMask false).bump 0x4030 4 r.2)

theorem State.resulted_reads {s : State} (free : s.errorFree) (k ln : Nat) (r : Line × Nat) (hh : s.home (64 * ln) = some (.hbm k)) :
    ((s.resulted k ln r).line ln).1 = r.1 ∧ (s.mustCopy ln = false → ∀ l, l ≠ ln → (s.resulted k ln r).line l = s.line l) := by
  obtain ⟨reads, single, others, rack⟩ := State.requested_reads free k ln hh
  unfold State.resulted
  generalize s.requested k ln = v at reads single others rack
  obtain ⟨copied, -⟩ := State.ReadsAs.copyFirst reads.free ln
  have here : (v.copyFirst ln).home (64 * ln) = some (.hbm k) := by rw [(reads.trans copied).home]; exact hh
  have still : (v.copyFirst ln).combEntry (k / 3) ln = none :=
    (State.combEntry_eq_none_iff _ _ _).mpr fun back => (State.combEntry_eq_none_iff _ _ _).mp single ((copied.comb _).mem back)
  have put := State.putHbm_puts (d := r.1) (mask := fullMask) (p := false) copied.free here still
  rw [(State.line_bump _ 0x4030 4 _ (by decide)).2, State.putLine_hbm here]
  refine ⟨put.here.trans (mergeLine_full _ _), fun stays l hl => (put.others l hl).trans ?_⟩
  rw [show v.copyFirst ln = v by simp [State.copyFirst, State.mustCopy_congr rack, stays], others l hl]

/-- A request to a clean line with a clean operand and an allowed mask is accepted: its answer holds the old line, and its result is written. -/
theorem State.adder_accepts {s : State} (free : s.errorFree) (k ln op mask : Nat) (x cmp : Line) (hh : s.home (64 * ln) = some (.hbm k)) (allowed : adderMaskOk op mask = true)
    (clean : (s.line ln).2 = false) {poison : Bool} (whole : poison = false) :
    s.adder op mask ln x cmp poison false = (s.resulted k ln (adderLine op mask (s.line ln).1 x cmp), some { old := (s.line ln).1, poison := false }) := by
  subst whole
  obtain ⟨reads, -⟩ := State.gathered_reads free k ln hh
  have old : (s.gathered k ln).line ln = ((s.line ln).1, false) := Prod.ext (reads.data ln) (reads.clean ln clean)
  have here : (s.bump 0x4030 0 1).home (64 * ln) = some (.hbm k) := by rw [(s.line_bump 0x4030 0 1 (by decide)).1]; exact hh
  unfold State.adder
  dsimp only
  rw [here]
  dsimp only
  rw [allowed, Bool.not_true, if_neg Bool.false_ne_true, show ((((((s.bump 0x4030 0 1).wakeSlices ln).meetTun ln).flushEntry (k / 3) ln).evict (k / 3) ln).bufferLine k ln) =
    s.gathered k ln from rfl, old]
  simp only [Bool.or_false, Bool.and_false, Bool.false_and, Bool.false_eq_true, if_false]
  rfl

/-- A request that names no line of HBM, or has a mask that its operation does not allow, is rejected and touches neither memories nor cores. -/
theorem State.adder_rejects (s : State) (op mask ln : Nat) (x cmp : Line) (poison ordered : Bool)
    (h : adderMaskOk op mask = false ∨ ∀ k, s.home (64 * ln) ≠ some (.hbm k)) :
    ∃ t, s.adder op mask ln x cmp poison ordered = (t, none) ∧ t.mem = s.mem ∧ t.cores = s.cores := by
  have home : (s.bump 0x4030 0 1).home = s.home := (s.line_bump 0x4030 0 1 (by decide)).1
  unfold State.adder
  dsimp only
  rw [home]
  split
  · next k hk =>
    rw [h.resolve_right fun none => none k hk]
    exact ⟨_, rfl, rfl, rfl⟩
  · exact ⟨_, rfl, rfl, rfl⟩

end Sys2Proof.Machine
end

section
/-! O31: MEMORY_SIDE_REQUEST and ADDER_LINE_IDLE_WRITEBACK (06 R228 to R230). -/

namespace Sys2Proof.Machine

theorem exec_memorySideRequest (r : AtomicReq) (s : State) : exec (.memorySideRequest r) s = execMemorySideRequest r s := rfl
theorem exec_adderLineIdleWriteback (line : BitVec 36) (s : State) : exec (.adderLineIdleWriteback line) s = execAdderLineIdleWriteback line s := rfl

theorem State.line_emit (s : State) (x : Output) : (s.emit x).line = s.line := State.line_congr (t := s.emit x) rfl

/-- A request is served at once where no channel is offline; one that is not poisoned is answered, and no job consumes poison. -/
theorem exec_memorySideRequest_serves (s : State) (r : AtomicReq) (online : s.retraining = false) (t : State) (o : Option AdderOut)
    (served : s.adder r.op.toNat r.mask.toNat (r.addr.toNat / 64) r.operands r.compares r.poison false = (t, o)) (good : ∀ a, o = some a → a.poison = false) :
    ∃ reply, exec (.memorySideRequest r) s = .next (t.emit reply) := by
  rw [exec_memorySideRequest, execMemorySideRequest]
  dsimp only
  rw [s.access_online online, served]
  cases o with
  | none => exact ⟨_, rfl⟩
  | some a =>
    cases hj : r.job with
    | none => exact ⟨_, rfl⟩
    | some j =>
      dsimp only
      rw [good a rfl]
      exact ⟨_, rfl⟩

/-- Each element of a line after an accepted request. -/
theorem adderLine_result (op : BitVec 4) (mask : BitVec 32) (allowed : adderMaskOk op.toNat mask.toNat = true) (old x cmp : Line) (w : Nat)
    (width : w = if op = 1 ∨ op = 7 then 64 else if op = 3 then 16 else 32) (i : Nat) (hi : i < 512 / w) :
    lineElem w (adderLine op.toNat mask.toNat old x cmp).1 i =
      if mask.getLsbD i then
        let a := lineElem w old i
        let b := lineElem w x i
        if op = 0 ∨ op = 1 then (a + b) % 2 ^ w
        else if op = 2 then fp32.enc .rne ((fp32.decode a).add (fp32.decode b))
        else if op = 3 then bf16.enc .rne ((bf16.decode a).add (bf16.decode b))
        else if op = 4 then (if decide (sint 32 a < sint 32 b) then b else a) else if op = 5 then (if decide (sint 32 b < sint 32 a) then b else a)
        else if a = lineElem w cmp i then b else a
      else lineElem w old i := by
  have hop : op.toNat < 8 := by
    unfold adderMaskOk at allowed
    simp only [Bool.and_eq_true, decide_eq_true_eq] at allowed
    exact allowed.1.1.1
  rw [← adderWidth_eq op] at width
  subst width
  rw [adderLine_elem op hop mask.toNat old x cmp i hi, (adderElem_eq op hop _ _ _ (lineElem_lt _ old i) (lineElem_lt _ x i) (lineElem_lt _ cmp i)).1]
  rfl

/-- What waits in the memories, and what the adders hold, are no part of what a line reads as. -/
theorem State.line_aside (s : State) (errors : List (Nat × StoreError)) (hidden adder : List Nat) :
    (s.modMem (fun m => { m with errors := errors, hidden := hidden, adder := adder })).line = s.line := rfl

/-- What a write of a whole line replaces in HBM is no part of what the line reads as. -/
theorem State.line_clearErrors (s : State) (ln : Nat) : (s.clearErrors ln).line = s.line := by
  unfold State.clearErrors
  split
  · rfl
  · exact s.line_aside _ _ s.mem.adder

/-- A line that leaves its adder where no error waits in the memories. -/
theorem State.line_writeBackLine (s : State) (ln : Nat) (errors : s.mem.errors = []) : (s.writeBackLine ln).line = s.line := by
  have met : s.meetTun ln = s := by simp [State.meetTun, errors]
  unfold State.writeBackLine
  split
  · next k hk => rw [State.line_clearErrors, met, State.line_congr (s.wakeStack_readView k)]
  · rfl

/-- Settles O31: an accepted request applies its operation to the elements of its mask, a rejected one touches nothing, and a line's way out of its adder changes no line. -/
theorem memorySideAdd : Obligations.MemorySideAdd := by
  unfold Obligations.MemorySideAdd
  intro s r ln w el big result
  refine ⟨fun k online free hh allowed clean whole => ?_, fun serving off => ?_, fun online rejects => ?_, fun line => ?_⟩
  · have served := State.adder_accepts free k ln r.op.toNat r.mask.toNat r.operands r.compares hh allowed clean whole
    obtain ⟨here, others⟩ := State.resulted_reads free k ln (adderLine r.op.toNat r.mask.toNat (s.line ln).1 r.operands r.compares) hh
    obtain ⟨reply, run⟩ := exec_memorySideRequest_serves s r online _ _ served fun a ha => by cases ha; rfl
    refine ⟨_, run, fun i hi => ?_, fun stays l hl => ?_⟩
    · rw [State.line_emit, here]
      dsimp only [result, el, big]
      exact adderLine_result r.op r.mask allowed (s.line ln).1 r.operands r.compares w rfl i hi
    · rw [State.line_emit, others stays l hl]
  · rw [exec_memorySideRequest, execMemorySideRequest]
    have waits : s.retraining = true := by
      unfold State.offline at off
      simp only [Bool.and_eq_true] at off
      exact off.1
    dsimp only
    unfold State.access
    rw [waits, serving, show s.offline [r.addr.toNat / 64] s.adderChan = true from off]
    rfl
  · obtain ⟨t, rejected, mem, cores⟩ := s.adder_rejects r.op.toNat r.mask.toNat ln r.operands r.compares r.poison false rejects
    obtain ⟨reply, run⟩ := exec_memorySideRequest_serves s r online t none rejected fun a ha => by cases ha
    exact ⟨_, run, mem, cores⟩
  · rw [Runs, exec_adderLineIdleWriteback, execAdderLineIdleWriteback]
    refine ⟨_, rfl, ?_⟩
    split
    · refine ⟨fun h => ((mem_sdel _ _ _).mp h).2 rfl, fun errors l => ?_⟩
      rw [← s.line_writeBackLine line.toNat errors]
      rfl
    · next out => exact ⟨by simpa using out, fun _ _ => rfl⟩

end Sys2Proof.Machine
end

section
/-! SUPPORT. What events and the health record leave: the memories, and every object but the health score (11 R418 to R422; 12 R456). -/

namespace Sys2Proof.Machine

@[simp] theorem State.msix_mem (s : State) (v : Nat) : (s.msix v).mem = s.mem := by simp [State.msix, apply_ite State.mem]
@[simp] theorem State.event_mem (s : State) (code obj detail : Nat) (drill : Bool) : (s.event code obj detail drill).mem = s.mem := by simp [State.event, apply_ite State.mem]
@[simp] theorem State.eventD_mem (s : State) (code obj : Nat) (drill : Bool) : (s.eventD code obj drill).mem = s.mem := by simp [State.eventD]
@[simp] theorem State.eventOpen_mem (s : State) (obj : Nat) : (s.eventOpen obj).mem = s.mem := by simp [State.eventOpen]
@[simp] theorem State.warning_mem (s : State) : s.warning.mem = s.mem := by simp [State.warning]
@[simp] theorem State.spareUsed_mem (s : State) : s.spareUsed.mem = s.mem := by simp [State.spareUsed, apply_ite State.mem]
@[simp] theorem State.healthUpdate_mem (s : State) : s.healthUpdate.mem = s.mem := by simp [State.healthUpdate, apply_ite State.mem]
@[simp] theorem State.healthWarn_mem (s : State) : s.healthWarn.mem = s.mem := by simp [State.healthWarn, apply_ite State.mem]
@[simp] theorem State.deduct_mem (s : State) (kind points : Nat) (transient : Bool) : (s.deduct kind points transient).mem = s.mem := by simp [State.deduct, apply_ite State.mem]
@[simp] theorem State.undeduct_mem (s : State) (kind : Nat) : (s.undeduct kind).mem = s.mem := by simp [State.undeduct]

@[simp] theorem State.msix_obj (s : State) (v : Nat) : (s.msix v).obj = s.obj := by simp [State.msix, apply_ite State.obj]
@[simp] theorem State.event_obj (s : State) (code obj detail : Nat) (drill : Bool) : (s.event code obj detail drill).obj = s.obj := by simp [State.event, apply_ite State.obj]
@[simp] theorem State.eventD_obj (s : State) (code obj : Nat) (drill : Bool) : (s.eventD code obj drill).obj = s.obj := by simp [State.eventD]
@[simp] theorem State.eventOpen_obj (s : State) (obj : Nat) : (s.eventOpen obj).obj = s.obj := by simp [State.eventOpen]
@[simp] theorem State.warning_obj (s : State) : s.warning.obj = s.obj := by simp [State.warning]
@[simp] theorem State.spareUsed_obj (s : State) : s.spareUsed.obj = s.obj := by simp [State.spareUsed, apply_ite State.obj]

end Sys2Proof.Machine
end

section
/-! SUPPORT. The modes of the Tun slices (06 R226): no access, flush or eviction moves them, whatever errors it meets. -/

namespace Sys2Proof.Machine

/-- The modes of the slices, and the switches that wait. -/
def State.tunSetting (s : State) : Vector Nat 128 × Vector (List (Nat × Nat)) 4 := (s.mem.tunMode, s.mem.tunSwitch)

/-- The modes depend on the memories alone. -/
theorem State.tunSetting_of_mem {s t : State} (h : t.mem = s.mem) : t.tunSetting = s.tunSetting := by
  unfold State.tunSetting
  rw [h]

@[simp] theorem State.modMem_tunSetting (s : State) (f : MemSys → MemSys) (h : ∀ m, (f m).tunMode = m.tunMode ∧ (f m).tunSwitch = m.tunSwitch) :
    (s.modMem f).tunSetting = s.tunSetting := Prod.ext (h s.mem).1 (h s.mem).2

@[simp] theorem State.modStack_tunSetting (s : State) (k : Nat) (f : Stack → Stack) : (s.modStack k f).tunSetting = s.tunSetting := rfl
@[simp] theorem State.setStack_tunSetting (s : State) (k : Nat) (x : Stack) : (s.setStack k x).tunSetting = s.tunSetting := rfl
@[simp] theorem State.bump_tunSetting (s : State) (o m n : Nat) : (s.bump o m n).tunSetting = s.tunSetting := rfl
@[simp] theorem State.takeFree_tunSetting (s : State) : s.takeFree.2.tunSetting = s.tunSetting := rfl
@[simp] theorem State.each_tunSetting {α : Type} (s : State) (l : List α) (f : State → α → State) (hf : ∀ (s : State) (a : α), (f s a).tunSetting = s.tunSetting) :
    (s.each l f).tunSetting = s.tunSetting :=
  State.each_invariant (P := fun t => t.tunSetting = s.tunSetting) s l f rfl fun t ht a _ => (hf t a).trans ht

@[simp] theorem State.warning_tunSetting (s : State) : s.warning.tunSetting = s.tunSetting := State.tunSetting_of_mem s.warning_mem
@[simp] theorem State.deduct_tunSetting (s : State) (kind points : Nat) (transient : Bool) : (s.deduct kind points transient).tunSetting = s.tunSetting :=
  State.tunSetting_of_mem (s.deduct_mem kind points transient)
@[simp] theorem State.resil_tunSetting (s : State) (r : Resil) : State.tunSetting { s with resil := r } = s.tunSetting := rfl
@[simp] theorem State.putHbm_tunSetting (s : State) (ln : Nat) (d : Line) (mask : BitVec 64) (poison : Bool) : (s.putHbm ln d mask poison).tunSetting = s.tunSetting := rfl
@[simp] theorem State.poisonStored_tunSetting (s : State) (ln : Nat) : (s.poisonStored ln).tunSetting = s.tunSetting := rfl
@[simp] theorem State.queueRetrain_tunSetting (s : State) (k ch : Nat) : (s.queueRetrain k ch).tunSetting = s.tunSetting := rfl
@[simp] theorem State.checkDrift_tunSetting (s : State) (k : Nat) : (s.checkDrift k).tunSetting = s.tunSetting :=
  s.each_tunSetting _ _ fun s c => s.queueRetrain_tunSetting k c
@[simp] theorem State.openWindow_tunSetting (s : State) (k : Nat) : (s.openWindow k).tunSetting = s.tunSetting := by
  unfold State.openWindow
  dsimp only
  split <;> rfl

@[simp] theorem State.wakeStack_tunSetting (s : State) (k : Nat) : (s.wakeStack k).tunSetting = s.tunSetting := by simp [State.wakeStack, apply_ite State.tunSetting]
@[simp] theorem State.pinCorrected_tunSetting (s : State) (k ch pin : Nat) : (s.pinCorrected k ch pin).tunSetting = s.tunSetting := by
  simp [State.pinCorrected, apply_ite State.tunSetting]
@[simp] theorem State.hbmUncorrectable_tunSetting (s : State) (ln : Nat) (scrub : Bool) : (s.hbmUncorrectable ln scrub).tunSetting = s.tunSetting := by
  simp [State.hbmUncorrectable, apply_ite State.tunSetting]
@[simp] theorem State.scrambleSector_tunSetting (s : State) (ln sector : Nat) : (s.scrambleSector ln sector).tunSetting = s.tunSetting := by
  simp [State.scrambleSector, apply_ite State.tunSetting]
@[simp] theorem State.sectorError_tunSetting (s : State) (k ln sector : Nat) (pins : List Nat) (scrub : Bool) : (s.sectorError k ln sector pins scrub).tunSetting = s.tunSetting := by
  unfold State.sectorError
  dsimp only
  split
  · rfl
  · simp [apply_ite State.tunSetting]
  · split
    · simp
    · split <;> simp

@[simp] theorem State.readSectors_tunSetting (s : State) (k ln : Nat) (sectors : List Nat) (scrub : Bool) : (s.readSectors k ln sectors scrub).tunSetting = s.tunSetting := by
  simp [State.readSectors, apply_ite State.tunSetting]
@[simp] theorem State.unhide_tunSetting (s : State) (ln : Nat) : (s.unhide ln).tunSetting = s.tunSetting := by simp [State.unhide, apply_ite State.tunSetting]
@[simp] theorem State.reachHbm_tunSetting (s : State) (k ln : Nat) : (s.reachHbm k ln).tunSetting = s.tunSetting := by simp [State.reachHbm, apply_ite State.tunSetting]
@[simp] theorem State.dropEntry_tunSetting (s : State) (q ln : Nat) : (s.dropEntry q ln).tunSetting = s.tunSetting := by simp [State.dropEntry, apply_ite State.tunSetting]
@[simp] theorem State.tunError_tunSetting (s : State) (ln : Nat) : (s.tunError ln).tunSetting = s.tunSetting := by
  unfold State.tunError
  split
  · simp [apply_ite State.tunSetting]
  · rfl
  · rfl

@[simp] theorem State.meetTun_tunSetting (s : State) (ln : Nat) : (s.meetTun ln).tunSetting = s.tunSetting := by simp [State.meetTun, apply_ite State.tunSetting]
@[simp] theorem State.clearErrors_tunSetting (s : State) (ln : Nat) : (s.clearErrors ln).tunSetting = s.tunSetting := by simp [State.clearErrors, apply_ite State.tunSetting]
@[simp] theorem State.flushEntry_tunSetting (s : State) (q ln : Nat) : (s.flushEntry q ln).tunSetting = s.tunSetting := by
  unfold State.flushEntry
  split
  · simp [apply_ite State.tunSetting]
  · rfl

@[simp] theorem State.writeBackLine_tunSetting (s : State) (ln : Nat) : (s.writeBackLine ln).tunSetting = s.tunSetting := by
  unfold State.writeBackLine
  split
  · simp
  · rfl

@[simp] theorem State.evict_tunSetting (s : State) (q ln : Nat) : (s.evict q ln).tunSetting = s.tunSetting := by simp [State.evict, apply_ite State.tunSetting]

end Sys2Proof.Machine
end

section
/-! SUPPORT. Accesses to lines outside HBM where no error waits in the memories (06 R199, R202, R222): reads move nothing, and a write changes its own line alone. -/

namespace Sys2Proof.Machine

/-! ## The bytes of a line that a range has -/

theorem testBit_bitsOf (n : Nat) (f : Nat → Bool) (j : Nat) : (bitsOf n f).testBit j = (decide (j < n) && f j) := by
  have step (n : Nat) : bitsOf (n + 1) f = if f n then bitsOf n f + 2 ^ n else bitsOf n f := by
    rw [bitsOf, List.range_succ, List.foldl_append]
    rfl
  have small (n : Nat) : bitsOf n f < 2 ^ n := by
    induction n with
    | zero => exact Nat.one_pos
    | succ n ih =>
      rw [step, pow_succ]
      split <;> omega
  induction n with
  | zero => simp [bitsOf]
  | succ n ih =>
    rw [step]
    by_cases h : j = n
    · subst h
      split
      · next set =>
        rw [Nat.add_comm, Nat.testBit_two_pow_add_eq, ih]
        simp [set]
      · next clear =>
        rw [ih]
        simp [clear]
    · have below : (j < n + 1) ↔ j < n := by omega
      have kept : (if f n then bitsOf n f + 2 ^ n else bitsOf n f).testBit j = (bitsOf n f).testBit j := by
        split
        · rw [Nat.add_comm, ← Nat.mul_one (2 ^ n), Nat.two_pow_add_eq_or_of_lt (small n), Nat.testBit_or, Nat.mul_one, Nat.testBit_two_pow]
          simp [Ne.symm h]
        · rfl
      rw [kept, ih]
      simp [below]

theorem bytesIn_bit (a n ln j : Nat) (hj : j < 64) : (bytesIn a n ln).getLsbD j = decide (a ≤ 64 * ln + j ∧ 64 * ln + j < a + n) := by
  rw [bytesIn, BitVec.getLsbD_ofNat, testBit_bitsOf]
  simp [hj]

theorem lineByte_lineFrom (a : Nat) (data : List Byte) (ln j : Nat) (hj : j < 64) (low : a ≤ 64 * ln + j) : lineByte (lineFrom a data ln) j = data.getD (64 * ln + j - a) 0 := by
  rw [lineFrom, lineByte_lineOf _ _ hj, List.getD_eq_getElem _ _ (by simpa using hj)]
  simp [low]

/-- A range has a byte of each of its lines. -/
theorem bytesIn_ne_zero (a n ln : Nat) (h : ln ∈ linesIn a n) : bytesIn a n ln ≠ 0 := by
  obtain ⟨some_, low, high⟩ := (mem_linesIn _ _ _).mp h
  intro zero
  have bit := bytesIn_bit a n ln (if a ≤ 64 * ln then 0 else a % 64) (by split <;> omega)
  rw [zero] at bit
  have := of_decide_eq_false (bit.symm.trans BitVec.getLsbD_zero)
  split at this <;> omega

/-! ## Reads -/

/-- State `t` is state `s` but for which slices of the Tun sleep. -/
def State.SameButSleep (s t : State) : Prop := ∃ l, t = s.modMem (fun m => { m with tunAsleep := l })

theorem State.SameButSleep.refl (s : State) : s.SameButSleep s := ⟨s.mem.tunAsleep, rfl⟩

theorem State.SameButSleep.trans {s t u : State} (h : s.SameButSleep t) (h' : t.SameButSleep u) : s.SameButSleep u := by
  obtain ⟨l, rfl⟩ := h
  obtain ⟨l', rfl⟩ := h'
  exact ⟨l', rfl⟩

theorem State.SameButSleep.wakeSlices (s : State) (ln : Nat) : s.SameButSleep (s.wakeSlices ln) := by
  unfold State.wakeSlices
  split
  · exact .refl s
  · exact ⟨_, rfl⟩

theorem State.SameButSleep.readView {s t : State} (h : s.SameButSleep t) : t.readView = s.readView := by
  obtain ⟨l, rfl⟩ := h
  rfl

theorem State.SameButSleep.home {s t : State} (h : s.SameButSleep t) : t.home = s.home :=
  State.home_congr (State.mapped_view h.readView) (State.stack_congr h.readView)

theorem State.meetTun_quiet (s : State) (ln : Nat) (errors : s.mem.errors = []) : s.meetTun ln = s := by simp [State.meetTun, errors]

/-- A read of a line outside HBM. -/
theorem State.touchRead_elsewhere (s : State) (ln cls : Nat) (errors : s.mem.errors = []) (elsewhere : ∀ k, s.home (64 * ln) ≠ some (.hbm k)) : s.SameButSleep (s.touchRead ln cls) := by
  have woken := State.SameButSleep.wakeSlices s ln
  unfold State.touchRead
  split
  · next k hk => exact absurd hk (elsewhere k)
  · rw [State.meetTun_quiet _ _ (by obtain ⟨l, h⟩ := woken; rw [h]; exact errors)]
    exact woken
  · exact .refl s

/-- A read of a range outside HBM. -/
theorem State.touchRange_elsewhere (s : State) (a n cls : Nat) (errors : s.mem.errors = [])
    (elsewhere : ∀ i, i < ceilDiv (a % 64 + n) 64 → ∀ k, s.home (64 * (a / 64 + i)) ≠ some (.hbm k)) : s.SameButSleep (s.touchRange a n cls) := by
  unfold State.touchRange
  split
  · exact .refl s
  · refine State.each_invariant (P := s.SameButSleep) s _ _ (.refl s) fun t ht i hi => ht.trans (t.touchRead_elsewhere _ cls ?_ fun k => ?_)
    · obtain ⟨l, h⟩ := ht
      rw [h]
      exact errors
    · rw [ht.home]
      exact elsewhere i (List.mem_range.mp hi) k

/-! ## Writes -/

/-- State `t` is state `s` after a write of the selected bytes of a line outside HBM, with its poison. -/
structure State.PutsElsewhere (ln : Nat) (d : Line) (mask : BitVec 64) (poison : Bool) (s t : State) : Prop where
  home : t.home = s.home
  errors : t.mem.errors = []
  esc : t.esc = s.esc
  here : (t.line ln).1 = mergeLine (s.line ln).1 d mask
  bad : poison = true → (t.line ln).2 = true
  others : ∀ l, l ≠ ln → t.line l = s.line l

theorem State.line_scratch (s : State) (ln q sl : Nat) (h : s.home (64 * ln) = some (.scratch q sl)) :
    s.line ln = (lineOf (mgetN zeroByte s.mem.cells (64 * ln) 64), s.mem.poison.contains ln) := by
  unfold State.line
  rw [h]

theorem State.putLine_scratch (s : State) (ln : Nat) (d : Line) (mask : BitVec 64) (poison : Bool) (q sl : Nat) (errors : s.mem.errors = [])
    (h : s.home (64 * ln) = some (.scratch q sl)) : State.PutsElsewhere ln d mask poison s (s.putLine ln d mask poison) := by
  unfold State.putLine
  rw [h]
  dsimp only
  generalize hm : mergeLine (lineOf (mgetN zeroByte s.mem.cells (64 * ln) 64)) d mask = m
  generalize hz : (poison || (mask != fullMask && s.mem.poison.contains ln)) = z
  generalize ht : ({ s with mem := { s.mem with cells := msetN zeroByte s.mem.cells (64 * ln) (lineBytes m), poison := sput s.mem.poison ln z } } : State) = t
  have mem : t.mem = { s.mem with cells := msetN zeroByte s.mem.cells (64 * ln) (lineBytes m), comb := s.mem.comb, poison := sput s.mem.poison ln z } := by rw [← ht]
  have outside : t.outsideMem = s.outsideMem := by rw [← ht]; rfl
  obtain ⟨home, -, -, -⟩ := State.home_of_stores outside mem
  have here := t.line_scratch ln q sl (by rw [home]; exact h)
  rw [mem] at here
  refine ⟨home, by rw [mem]; exact errors, congrArg (fun u => u.esc) outside, ?_, fun hp => ?_, fun l hl =>
    State.line_of_stores outside mem l (fun u => mgetN_msetN_line_ne _ u _ _ _ _ hl) (contains_sput_ne _ _ _ _ hl) fun p => ?_⟩
  · rw [here, s.line_scratch ln q sl h, hm]
    exact lineOf_mgetN_msetN _ _ _ _
  · rw [here]
    exact (contains_sput_same _ _ _).trans (by rw [← hz, hp, Bool.true_or])
  · unfold State.combEntry
    rw [mem]

theorem State.line_local (s : State) (ln k o : Nat) (h : s.home (64 * ln) = some (.localMem k o)) :
    s.line ln = (lineOf (mgetN zeroByte (s.core k).lmem o 64), (s.core k).lPoison.contains (o / 64)) := by
  unfold State.line
  rw [h]

/-- A write of a line of local memory with its poison. -/
theorem State.putLine_local (s : State) (ln : Nat) (d : Line) (mask : BitVec 64) (some_ : mask ≠ 0) (poison : Bool) (cls k o : Nat) (errors : s.mem.errors = [])
    (h : s.home (64 * ln) = some (.localMem k o)) : State.PutsElsewhere ln d mask poison s (s.tunWrite ln d mask poison cls) := by
  obtain ⟨⟨⟨cs, same⟩, -⟩, others, here⟩ := s.tunWrite_local ln d mask poison cls k o h
  obtain ⟨-, hk, -, -⟩ := (s.home_local _ k o).mp h
  have home : (s.tunWrite ln d mask poison cls).home = s.home := by rw [same]; rfl
  refine ⟨home, by rw [same]; exact errors, by rw [same], here, fun hp => ?_, others⟩
  have written : (s.tunWrite ln d mask poison cls).core k = { s.core k with
      lmem := msetN zeroByte (s.core k).lmem o (lineBytes (mergeLine (lineOf (mgetN zeroByte (s.core k).lmem o 64)) d mask))
      lPoison := sput (s.core k).lPoison (o / 64) (poison || (mask != fullMask && (s.core k).lPoison.contains (o / 64))) } := by
    unfold State.tunWrite
    rw [if_neg some_, h]
    dsimp only
    unfold State.putLine
    rw [h]
    exact State.core_setCore _ _ _ hk
  rw [State.line_local _ ln k o (by rw [home]; exact h), written]
  exact (contains_sput_same _ _ _).trans (by rw [hp, Bool.true_or])

/-- The state in which a line of a scratchpad slice is written: what a whole line replaces is gone, or the errors of the old one are met. -/
def State.scratchReady (s : State) (ln : Nat) (mask : BitVec 64) : State := if mask = fullMask then s.clearErrors ln else s.meetTun ln

theorem State.scratchReady_reads (s : State) (ln : Nat) (mask : BitVec 64) (errors : s.mem.errors = []) :
    (s.scratchReady ln mask).home = s.home ∧ (s.scratchReady ln mask).line = s.line ∧ (s.scratchReady ln mask).mem.errors = [] ∧ (s.scratchReady ln mask).esc = s.esc := by
  unfold State.scratchReady
  split
  · refine ⟨?_, s.line_clearErrors ln, ?_, ?_⟩ <;> unfold State.clearErrors <;> split
    · rfl
    · rfl
    · exact errors
    · simp [State.modMem, errors]
    · rfl
    · rfl
  · rw [State.meetTun_quiet s ln errors]
    exact ⟨rfl, rfl, errors, rfl⟩

/-- A write through the Tun of a line outside HBM. -/
theorem State.tunWrite_elsewhere (s : State) (ln : Nat) (d : Line) (mask : BitVec 64) (some_ : mask ≠ 0) (poison : Bool) (cls : Nat) (errors : s.mem.errors = [])
    (placed : (s.home (64 * ln)).isSome = true) (elsewhere : ∀ k, s.home (64 * ln) ≠ some (.hbm k)) :
    State.PutsElsewhere ln d mask poison s (s.tunWrite ln d mask poison cls) := by
  obtain ⟨place, hh⟩ := Option.isSome_iff_exists.mp placed
  cases place with
  | hbm k => exact absurd hh (elsewhere k)
  | localMem k o => exact s.putLine_local ln d mask some_ poison cls k o errors hh
  | scratch q sl =>
    unfold State.tunWrite
    rw [if_neg some_, hh]
    dsimp only
    have woken := State.SameButSleep.wakeSlices s ln
    have wokenErrors : (s.wakeSlices ln).mem.errors = [] := by obtain ⟨l, h⟩ := woken; rw [h]; exact errors
    obtain ⟨home, line, quiet, esc⟩ := (s.wakeSlices ln).scratchReady_reads ln mask wokenErrors
    rw [woken.home] at home
    rw [State.line_congr woken.readView] at line
    replace esc := esc.trans (congrArg (fun v => v.outside.esc) woken.readView : (s.wakeSlices ln).esc = s.esc)
    show State.PutsElsewhere ln d mask poison s (((s.wakeSlices ln).scratchReady ln mask).putLine ln d mask poison)
    generalize (s.wakeSlices ln).scratchReady ln mask = t at home line quiet esc
    have put := t.putLine_scratch ln d mask poison q sl quiet (by rw [home]; exact hh)
    exact ⟨put.home.trans home, put.errors, put.esc.trans esc, by rw [put.here, line], put.bad, fun l hl => by rw [put.others l hl, line]⟩

/-- Writes of several lines outside HBM. -/
theorem State.each_putsElsewhere (l : List Nat) (distinct : l.Nodup) (d : Nat → Line) (mask : Nat → BitVec 64) (poison : Bool) (s : State) (errors : s.mem.errors = [])
    (some_ : ∀ ln ∈ l, mask ln ≠ 0) (placed : ∀ ln ∈ l, (s.home (64 * ln)).isSome = true) (elsewhere : ∀ ln ∈ l, ∀ k, s.home (64 * ln) ≠ some (.hbm k)) :
    (∀ ln, ln ∉ l → (s.each l (fun s ln => s.tunWrite ln (d ln) (mask ln) poison)).line ln = s.line ln) ∧
    ∀ ln ∈ l, ((s.each l (fun s ln => s.tunWrite ln (d ln) (mask ln) poison)).line ln).1 = mergeLine (s.line ln).1 (d ln) (mask ln) ∧
      (poison = true → ((s.each l (fun s ln => s.tunWrite ln (d ln) (mask ln) poison)).line ln).2 = true) := by
  induction l generalizing s with
  | nil => exact ⟨fun _ _ => rfl, fun _ h => absurd h List.not_mem_nil⟩
  | cons ln l ih =>
    obtain ⟨absent, distinct⟩ := List.nodup_cons.mp distinct
    have put := s.tunWrite_elsewhere ln (d ln) (mask ln) (some_ ln List.mem_cons_self) poison 0 errors (placed ln List.mem_cons_self) (elsewhere ln List.mem_cons_self)
    obtain ⟨others, written⟩ := ih distinct (s.tunWrite ln (d ln) (mask ln) poison) put.errors (fun j hj => some_ j (List.mem_cons_of_mem _ hj))
      (fun j hj => by rw [put.home]; exact placed j (List.mem_cons_of_mem _ hj)) (fun j hj => by rw [put.home]; exact elsewhere j (List.mem_cons_of_mem _ hj))
    refine ⟨fun j hj => ?_, fun j hj => ?_⟩
    · obtain ⟨apart, out⟩ := not_or.mp (mt List.mem_cons.mpr hj)
      exact (others j out).trans (put.others j apart)
    · by_cases here : j = ln
      · subst here
        have kept := others j absent
        exact ⟨(congrArg Prod.fst kept).trans put.here, fun hp => (congrArg Prod.snd kept).trans (put.bad hp)⟩
      · have rest : j ∈ l := (List.mem_cons.mp hj).resolve_left here
        obtain ⟨value, bad⟩ := written j rest
        exact ⟨value.trans (by rw [put.others j here]), bad⟩

/-- Host writes outside HBM while no step is recorded go through the Tun and leave no record (10 R366). -/
theorem State.hostLines_elsewhere (l : List Nat) (d : Nat → Line) (mask : Nat → BitVec 64) (ep : Bool) (s : State) (errors : s.mem.errors = []) (unrecorded : s.esc.record = none)
    (some_ : ∀ ln ∈ l, mask ln ≠ 0) (placed : ∀ ln ∈ l, (s.home (64 * ln)).isSome = true) (elsewhere : ∀ ln ∈ l, ∀ k, s.home (64 * ln) ≠ some (.hbm k)) :
    s.hostLines l (fun s ln => s.hostLine ln (d ln) (mask ln) ep) = s.each l (fun s ln => s.tunWrite ln (d ln) (mask ln) ep) := by
  have one (t : State) (ln : Nat) (h : t.esc.record = none) : t.hostLine ln (d ln) (mask ln) ep = (t.tunWrite ln (d ln) (mask ln) ep, false) := by
    simp [State.hostLine, h]
  have all (l : List Nat) (s : State) : s.hostLines l (fun s ln => s.hostLine ln (d ln) (mask ln) ep) =
      (l.foldl (fun (acc : State × Bool) k => if acc.2 then acc else acc.1.hostLine k (d k) (mask k) ep) (s, false)).1 := rfl
  induction l generalizing s with
  | nil => rfl
  | cons ln l ih =>
    have put := s.tunWrite_elsewhere ln (d ln) (mask ln) (some_ ln List.mem_cons_self) ep 0 errors (placed ln List.mem_cons_self) (elsewhere ln List.mem_cons_self)
    rw [all, List.foldl_cons, if_neg Bool.false_ne_true, one s ln unrecorded, ← all]
    exact ih (s.tunWrite ln (d ln) (mask ln) ep) put.errors (by rw [put.esc]; exact unrecorded) (fun j hj => some_ j (List.mem_cons_of_mem _ hj))
      (fun j hj => by rw [put.home]; exact placed j (List.mem_cons_of_mem _ hj)) (fun j hj => by rw [put.home]; exact elsewhere j (List.mem_cons_of_mem _ hj))

/-- A host write of bytes outside HBM: exactly those bytes change, and EP poisons the lines. -/
theorem State.hostBytes_elsewhere (s : State) (a : Nat) (data : List Byte) (ep : Bool) (some_ : data ≠ []) (errors : s.mem.errors = []) (unrecorded : s.esc.record = none)
    (placed : ∀ ln ∈ linesIn a data.length, (s.home (64 * ln)).isSome = true) (elsewhere : ∀ ln ∈ linesIn a data.length, ∀ k, s.home (64 * ln) ≠ some (.hbm k)) :
    ∃ t, s.hostLines (linesIn a data.length) (fun s ln => s.hostLine ln (lineFrom a data ln) (bytesIn a data.length ln) ep) = t ∧
      t.view a data.length = data ∧ (ep = true → t.viewPoison a data.length = true) ∧ ∀ l, l < a / 64 ∨ (a + data.length - 1) / 64 < l → t.line l = s.line l := by
  have size : 0 < data.length := List.length_pos_of_ne_nil some_
  have masks (ln : Nat) (h : ln ∈ linesIn a data.length) := bytesIn_ne_zero a data.length ln h
  refine ⟨_, State.hostLines_elsewhere _ (lineFrom a data) (bytesIn a data.length) ep s errors unrecorded masks placed elsewhere, ?_⟩
  obtain ⟨others, written⟩ := State.each_putsElsewhere (linesIn a data.length) (nodup_linesIn _ _) (lineFrom a data) (bytesIn a data.length) ep s errors masks placed elsewhere
  generalize s.each (linesIn a data.length) _ = t at others written
  refine ⟨?_, fun hp => ?_, fun l hl => others l fun h => ?_⟩
  · rw [State.view_eq_map]
    refine List.ext_getElem (by simp) fun i hi hi' => ?_
    have mem : (a + i) / 64 ∈ linesIn a data.length := (mem_linesIn _ _ _).mpr ⟨size, by omega, by omega⟩
    rw [List.getElem_map, List.getElem_range, State.byte, (written _ mem).1, lineByte_mergeLine _ _ _ _ (by omega), bytesIn_bit _ _ _ _ (by omega),
      if_pos (decide_eq_true ⟨by omega, by omega⟩), lineByte_lineFrom _ _ _ _ (by omega) (by omega), show 64 * ((a + i) / 64) + (a + i) % 64 - a = i by omega,
      List.getD_eq_getElem _ _ hi']
  · have mem : a / 64 ∈ linesIn a data.length := (mem_linesIn _ _ _).mpr ⟨size, le_refl _, by omega⟩
    unfold State.viewPoison
    rw [Bool.and_eq_true, List.any_eq_true]
    exact ⟨by simpa using some_, 0, List.mem_range.mpr (by unfold ceilDiv; omega), (written _ mem).2 hp⟩
  · obtain ⟨-, low, high⟩ := (mem_linesIn _ _ _).mp h
    omega

end Sys2Proof.Machine
end

section
/-! O33: the modes and the sleep of Tun slices, and BAR2 (06 R222, R226; 12 R429; 14 R488). -/

namespace Sys2Proof.Machine

theorem exec_tunModeWrite (q : Fin 4) (t : Fin 32) (mode : BitVec 8) (s : State) : exec (.tunModeWrite q t mode) s = execTunModeWrite q t mode s := rfl
theorem exec_tunModeSwitchComplete (q : Fin 4) (s : State) : exec (.tunModeSwitchComplete q) s = execTunModeSwitchComplete q s := rfl
theorem exec_tunSliceSleep (q : Fin 4) (t : Fin 32) (s : State) : exec (.tunSliceSleep q t) s = execTunSliceSleep q t s := rfl
theorem exec_tunSliceWake (q : Fin 4) (t : Fin 32) (s : State) : exec (.tunSliceWake q t) s = execTunSliceWake q t s := rfl
theorem exec_bar2Read (off : Word) (len : BitVec 13) (arisen : List MemError) (s : State) : exec (.bar2Read off len arisen) s = execBar2Read off len arisen s := rfl
theorem exec_bar2Write (off : Word) (data : List Byte) (ep : Bool) (s : State) : exec (.bar2Write off data ep) s = execBar2Write off data ep s := rfl

/-! ## Modes -/

/-- An answered write of a mode: what it is answered, and the switch that then waits. -/
theorem exec_tunModeWrite_answers (s : State) (q : Fin 4) (t : Fin 32) (m : BitVec 8) (h : s.answers 0x4010 (32 * q.val + t.val)) :
    exec (.tunModeWrite q t m) s = .next ((s.tunModeWrite q t m.toNat).1.reply 0x4010 (32 * q.val + t.val) (s.tunModeWrite q t m.toNat).2) := by
  rw [exec_tunModeWrite, execTunModeWrite, State.objectRow_answers _ _ _ _ h]

theorem State.tunModeWrite_state (s : State) (q t mode : Nat) (idle : s.dev.state ≠ .idle) (run : s.dev.state ≠ .run) : s.tunModeWrite q t mode = (s, 0x0205) := if_pos ⟨idle, run⟩

theorem State.tunModeWrite_range (s : State) (q t mode : Nat) (ready : s.dev.state = .idle ∨ s.dev.state = .run) (out : t = 31 ∨ 2 < mode) : s.tunModeWrite q t mode = (s, 0x0201) := by
  unfold State.tunModeWrite
  rw [if_neg fun h => ready.elim h.1 h.2, if_pos out]

theorem State.tunModeWrite_waits (s : State) (q : Fin 4) (t mode : Nat) (ready : s.dev.state = .idle ∨ s.dev.state = .run) (low : t < 31) (hm : mode ≤ 2)
    (new : vget s.mem.tunMode (32 * q.val + t) 0 ≠ mode) :
    s.tunModeWrite q t mode = ({ s with mem := { s.mem with tunSwitch := vset s.mem.tunSwitch q (vget s.mem.tunSwitch q [] ++ [(t, mode)]) } }, 0) := by
  unfold State.tunModeWrite
  rw [if_neg fun h => ready.elim h.1 h.2, if_neg (by omega), if_neg fun h => new h.1, State.modMem, vmod_eq_vset _ _ _ []]

/-- What a slice does with what it holds when it leaves its mode (06 Table 8). -/
def State.leaveMode (s : State) (q t old new : Nat) : State :=
  if old = new then s else if old = 0 then s.dropCache q else if old = 1 then s.flushAll q else s.clearScratch q t

theorem State.leaveMode_tunSetting (s : State) (q t old new : Nat) : (s.leaveMode q t old new).tunSetting = s.tunSetting := by
  have evicted : (s.dropCache q).tunSetting = s.tunSetting := s.each_tunSetting _ _ fun s x => s.evict_tunSetting q x.line
  have flushed : (s.flushAll q).tunSetting = s.tunSetting := s.each_tunSetting _ _ fun s e => s.flushEntry_tunSetting q e.line
  unfold State.leaveMode
  split_ifs
  · rfl
  · exact evicted
  · exact flushed
  · rfl

/-- The new arrangement of a quarter after a switch. -/
def State.switched (s : State) (q t mode : Nat) (r : List (Nat × Nat)) : State :=
  s.modMem (fun m => { m with tunSwitch := vset m.tunSwitch q r, tunMode := vset m.tunMode (32 * q + t) mode })

theorem exec_tunModeSwitchComplete_switches (s : State) (q : Fin 4) (t mode : Nat) (r : List (Nat × Nat)) (waits : vget s.mem.tunSwitch q [] = (t, mode) :: r) :
    exec (.tunModeSwitchComplete q) s = .next (let u := (s.leaveMode q t (vget s.mem.tunMode (32 * q.val + t) 0) mode).switched q t mode r
      if mode = 2 ∧ vget s.mem.tunMode (32 * q.val + t) 0 ≠ 2 then u.clearScratch q t else u) := by
  rw [exec_tunModeSwitchComplete, execTunModeSwitchComplete, waits]
  rfl

/-- An emptied scratchpad slice holds no byte and no poison. -/
theorem State.clearScratch_empty (s : State) (q t a : Nat) (low : scratchBase q t ≤ a) (high : a < scratchBase q t + 6 * MiB) :
    (∀ b, (a, b) ∉ (s.clearScratch q t).mem.cells) ∧ (a % 64 = 0 → a / 64 ∉ (s.clearScratch q t).mem.poison) := by
  refine ⟨fun b h => ?_, fun aligned h => ?_⟩
  · have kept := (List.mem_filter.mp (h : (a, b) ∈ mclear s.mem.cells (scratchBase q t) (scratchBase q t + 6 * MiB))).2
    simp only [Bool.or_eq_true, decide_eq_true_eq] at kept
    omega
  · have kept := (List.mem_filter.mp (h : a / 64 ∈ s.mem.poison.filter _)).2
    rw [decide_eq_true_eq] at kept
    omega

/-- A switch gives its slice the mode, leaves every other slice, and a slice that has become scratchpad is empty (06 R222, R226). -/
theorem exec_tunModeSwitchComplete_gives (s : State) (q : Fin 4) (t : Fin 32) (mode : Nat) (r : List (Nat × Nat)) (waits : vget s.mem.tunSwitch q [] = (t.val, mode) :: r) :
    Runs (.tunModeSwitchComplete q) s (fun u =>
      vget u.mem.tunMode (32 * q.val + t.val) 0 = mode ∧ vget u.mem.tunSwitch q [] = r ∧ (∀ i, i ≠ 32 * q.val + t.val → vget u.mem.tunMode i 0 = vget s.mem.tunMode i 0) ∧
      (mode = 2 → vget s.mem.tunMode (32 * q.val + t.val) 0 ≠ 2 → ∀ a, scratchBase q t ≤ a → a < scratchBase q t + 6 * MiB →
        (∀ b, (a, b) ∉ u.mem.cells) ∧ (a % 64 = 0 → a / 64 ∉ u.mem.poison))) := by
  refine ⟨_, exec_tunModeSwitchComplete_switches s q t mode r waits, ?_⟩
  have setting := s.leaveMode_tunSetting q t (vget s.mem.tunMode (32 * q.val + t.val) 0) mode
  dsimp only
  generalize s.leaveMode q t (vget s.mem.tunMode (32 * q.val + t.val) 0) mode = v at setting
  have modes : v.mem.tunMode = s.mem.tunMode := congrArg Prod.fst setting
  have arranged : (v.switched q t mode r).tunSetting = (vset s.mem.tunMode (32 * q.val + t.val) mode, vset v.mem.tunSwitch q r) := by
    rw [← modes]
    rfl
  have final : (if mode = 2 ∧ vget s.mem.tunMode (32 * q.val + t.val) 0 ≠ 2 then (v.switched q t mode r).clearScratch q t else v.switched q t mode r).tunSetting =
      (vset s.mem.tunMode (32 * q.val + t.val) mode, vset v.mem.tunSwitch q r) := by
    split
    · exact arranged
    · exact arranged
  obtain ⟨mode_, switch_⟩ := Prod.ext_iff.mp final
  dsimp only [State.tunSetting] at mode_ switch_
  rw [mode_, switch_]
  refine ⟨vget_vset_same _ _ _ _ (by omega), vget_vset_same _ _ _ _ q.isLt, fun i hi => vget_vset_ne _ _ _ _ _ hi, fun hm old a low high => ?_⟩
  rw [if_pos ⟨hm, old⟩]
  exact State.clearScratch_empty _ q t a low high

/-! ## Sleep -/

/-- A change of which slices sleep is one of the sleep of the slice alone. -/
theorem State.mem_tunAsleep (s : State) (n : Nat) :
    (let u := s.modMem (fun m => { m with tunAsleep := sadd m.tunAsleep n })
     n ∈ u.mem.tunAsleep ∧ ∀ i, i ≠ n → (i ∈ u.mem.tunAsleep ↔ i ∈ s.mem.tunAsleep)) ∧
    (let u := s.modMem (fun m => { m with tunAsleep := sdel m.tunAsleep n })
     n ∉ u.mem.tunAsleep ∧ ∀ i, i ≠ n → (i ∈ u.mem.tunAsleep ↔ i ∈ s.mem.tunAsleep)) := by
  refine ⟨⟨(mem_sadd _ _ _).mpr (.inl rfl), fun i hi => ?_⟩, fun h => ((mem_sdel _ _ _).mp h).2 rfl, fun i hi => ?_⟩
  · exact (mem_sadd _ _ _).trans (or_iff_right hi)
  · exact (mem_sdel _ _ _).trans (and_iff_left hi)

/-- A slice that may sleep: below T31, and not one that holds a combining entry. -/
theorem exec_tunSliceSleep_eq (s : State) (q : Fin 4) (t : Fin 32) :
    (t.val = 31 ∨ (vget s.mem.tunMode (32 * q.val + t.val) 0 = 1 ∧ ∃ e ∈ vget s.mem.comb q [], s.combSlice q e.line = t.val) → exec (.tunSliceSleep q t) s = .next s) ∧
    (t.val < 31 → ¬(vget s.mem.tunMode (32 * q.val + t.val) 0 = 1 ∧ ∃ e ∈ vget s.mem.comb q [], s.combSlice q e.line = t.val) →
      exec (.tunSliceSleep q t) s = .next (s.modMem (fun m => { m with tunAsleep := sadd m.tunAsleep (32 * q.val + t.val) }))) := by
  have entries : (vget s.mem.tunMode (32 * q.val + t.val) 0 == 1 && (vget s.mem.comb q []).any (fun (e : CombEntry) => s.combSlice q e.line == t.val)) = true ↔
      vget s.mem.tunMode (32 * q.val + t.val) 0 = 1 ∧ ∃ e ∈ vget s.mem.comb q [], s.combSlice q e.line = t.val := by simp
  rw [exec_tunSliceSleep, execTunSliceSleep, ← entries]
  exact ⟨fun h => by rw [if_pos h], fun low h => by rw [if_neg fun h' => h'.elim (by omega) h]⟩

/-! ## BAR2 -/

/-- A BAR2 read of assigned bytes outside HBM. -/
theorem exec_bar2Read_reads (s : State) (off : Word) (len : BitVec 13) (up : s.host.linkUp = true) (assigned : s.assigned (s.barAddr off) len.toNat = true)
    (errors : s.mem.errors = []) (online : s.retraining = false)
    (elsewhere : ∀ i, i < ceilDiv (s.barAddr off % 64 + len.toNat) 64 → ∀ k, s.home (64 * (s.barAddr off / 64 + i)) ≠ some (.hbm k)) :
    Runs (.bar2Read off len []) s (fun t => t.out = s.out ++ [.barRead (s.view (s.barAddr off) len.toNat) (s.viewPoison (s.barAddr off) len.toNat) false] ∧
      t.mem = { s.mem with tunAsleep := t.mem.tunAsleep } ∧ t.cores = s.cores) := by
  have none : s.arise [] = s := by simp [State.arise, State.modMem]
  obtain ⟨l, read⟩ := s.touchRange_elsewhere (s.barAddr off) len.toNat 0 errors elsewhere
  rw [Runs, exec_bar2Read, execBar2Read]
  dsimp only
  rw [none, up, assigned, Bool.not_true, if_neg Bool.false_ne_true, if_neg Bool.false_ne_true, s.access_online online, read]
  refine ⟨_, rfl, ?_⟩
  split <;> exact ⟨rfl, rfl, rfl⟩

/-- A BAR2 write of assigned bytes outside HBM, where no step is recorded. -/
theorem exec_bar2Write_writes (s : State) (off : Word) (data : List Byte) (ep : Bool) (some_ : data ≠ []) (up : s.host.linkUp = true)
    (assigned : s.assigned (s.barAddr off) data.length = true) (unrecorded : s.esc.record = none) (errors : s.mem.errors = []) (online : s.retraining = false)
    (elsewhere : ∀ i, i < ceilDiv (s.barAddr off % 64 + data.length) 64 → ∀ k, s.home (64 * (s.barAddr off / 64 + i)) ≠ some (.hbm k)) :
    Runs (.bar2Write off data ep) s (fun t => t.view (s.barAddr off) data.length = data ∧ (ep = true → t.viewPoison (s.barAddr off) data.length = true) ∧
      ∀ l, l < s.barAddr off / 64 ∨ (s.barAddr off + data.length - 1) / 64 < l → t.line l = s.line l) := by
  have lines (ln : Nat) (h : ln ∈ linesIn (s.barAddr off) data.length) : ∃ i, i < ceilDiv (s.barAddr off % 64 + data.length) 64 ∧ ln = s.barAddr off / 64 + i := by
    obtain ⟨-, low, high⟩ := (mem_linesIn _ _ _).mp h
    exact ⟨ln - s.barAddr off / 64, by unfold ceilDiv; omega, by omega⟩
  have noted : ∃ u, (if ep then s.aerReport 12 else s) = u ∧ u.home = s.home ∧ u.line = s.line ∧ u.mem = s.mem ∧ u.esc = s.esc := by
    cases ep <;> exact ⟨_, rfl, rfl, rfl, rfl, rfl⟩
  obtain ⟨u, hu, home, line, mem, esc⟩ := noted
  obtain ⟨t, run, view, bad, others⟩ := u.hostBytes_elsewhere (s.barAddr off) data ep some_ (by rw [mem]; exact errors) (by rw [esc]; exact unrecorded)
    (fun ln h => by
      obtain ⟨i, hi, rfl⟩ := lines ln h
      rw [home]
      exact List.all_eq_true.mp assigned i (List.mem_range.mpr hi))
    (fun ln h k => by
      obtain ⟨i, hi, rfl⟩ := lines ln h
      rw [home]
      exact elsewhere i hi k)
  refine ⟨t, ?_, view, bad, fun l hl => by rw [others l hl, line]⟩
  rw [exec_bar2Write, execBar2Write, up, assigned, if_neg (by simp [some_]), Bool.not_true, if_neg Bool.false_ne_true, s.access_online online, hu, run]

/-- Settles O33: the answers of a mode's write, the switch by what it leaves of the modes, and BAR2 by reads and writes of lines outside HBM. -/
theorem tunAndHostWindow : Obligations.TunAndHostWindow := by
  unfold Obligations.TunAndHostWindow
  refine ⟨fun s q t => ?_, fun s off => ?_⟩
  · obtain ⟨stays, sleeps⟩ := exec_tunSliceSleep_eq s q t
    obtain ⟨⟨asleep, others⟩, awake, others'⟩ := s.mem_tunAsleep (32 * q.val + t.val)
    dsimp only
    refine ⟨fun answers m => ⟨fun idle run => ?_, fun ready out => ?_, fun ready low hm new => ?_⟩, fun m r waits => exec_tunModeSwitchComplete_gives s q t m r waits,
      fun low free => ⟨_, sleeps low free, asleep, rfl, others⟩, stays, ⟨_, exec_tunSliceWake q t s, awake, rfl, others'⟩⟩
    · rw [exec_tunModeWrite_answers s q t m answers, s.tunModeWrite_state _ _ _ idle run]
    · rw [exec_tunModeWrite_answers s q t m answers, s.tunModeWrite_range _ _ _ ready out]
    · rw [exec_tunModeWrite_answers s q t m answers, s.tunModeWrite_waits q t _ ready low hm new]
  · dsimp only
    refine ⟨fun len ecc data ep down => ⟨?_, ?_⟩, fun up len => ⟨fun out ecc => ?_, fun assigned errors online elsewhere => exec_bar2Read_reads s off len up assigned errors online elsewhere⟩,
      fun up data ep some_ => ⟨fun out => ?_, fun assigned unrecorded errors online elsewhere => exec_bar2Write_writes s off data ep some_ up assigned unrecorded errors online elsewhere⟩⟩
    · rw [exec_bar2Read, execBar2Read]
      dsimp only
      rw [show (s.arise ecc).host.linkUp = false from down]
      rfl
    · rw [exec_bar2Write, execBar2Write, if_pos (.inl (by simp [down]))]
    · rw [exec_bar2Read, execBar2Read]
      dsimp only
      rw [show (s.arise ecc).host.linkUp = true from up, show (s.arise ecc).assigned (s.barAddr off) len.toNat = false from out]
      rfl
    · refine ⟨((s.bump 0x1020 4 1).aerReport 20).emit (.unsupported off.toNat), ?_, rfl, s.objGet_bump 0x1020 4 1⟩
      rw [exec_bar2Write, execBar2Write, up, if_neg (by simp [some_]), show s.assigned (s.barAddr off) data.length = false from out]
      rfl

end Sys2Proof.Machine
end

section
/-! SUPPORT. HBM stacks (06 R204 to R216): the laws of a stack's record, what an error of HBM leaves, and what drops with a stack. -/

namespace Sys2Proof.Machine

/-! ## A stack's record -/

theorem State.setStack_setStack (s : State) (k : Nat) (x y : Stack) (hk : k < 12) : (s.setStack k x).setStack k y = s.setStack k y := by
  have twice : vset (vset s.mem.hbm k x) k y = vset s.mem.hbm k y := by simp [vset, hk]
  unfold State.setStack
  dsimp only
  rw [twice]

theorem State.setStack_stack (s : State) (k : Nat) : s.setStack k (s.stack k) = s := by
  unfold State.setStack State.stack
  rw [vset_vget]

/-- Channels queued one after another: each stands in the queue once more, or is there already. -/
theorem State.each_queueRetrain (s : State) (k : Nat) (hk : k < 12) (l : List Nat) : ∃ q, s.each l (fun s c => s.queueRetrain k c) = s.setStack k { s.stack k with retrainQ := q } ∧
    ∀ h, h ∈ q ↔ h ∈ (s.stack k).retrainQ ∨ h ∈ l := by
  induction l generalizing s with
  | nil => exact ⟨(s.stack k).retrainQ, (s.setStack_stack k).symm, fun h => by simp⟩
  | cons c l ih =>
    have queued : ∃ q, s.queueRetrain k c = s.setStack k { s.stack k with retrainQ := q } ∧ ∀ h, h ∈ q ↔ h ∈ (s.stack k).retrainQ ∨ h = c := by
      unfold State.queueRetrain State.modStack
      dsimp only
      split
      · next there => exact ⟨(s.stack k).retrainQ, rfl, fun h => ⟨.inl, fun h' => h'.elim id fun e => by rw [e]; simpa using there⟩⟩
      · exact ⟨_, rfl, fun h => by simp⟩
    obtain ⟨q, first, mem⟩ := queued
    obtain ⟨q', rest, mem'⟩ := ih (s.setStack k { s.stack k with retrainQ := q })
    rw [State.stack_setStack _ _ _ hk] at rest mem'
    refine ⟨q', ?_, fun h => by rw [mem', mem, List.mem_cons, or_assoc]⟩
    rw [State.setStack_setStack _ _ _ _ hk] at rest
    rw [← rest, ← first]
    rfl

theorem State.mem_drifted (s : State) (k h : Nat) : h ∈ s.drifted k ↔ h < 32 ∧
    (f32 (s.objGet 0x4004 0 % 2 ^ 32)).le ((f32 ((s.stack k).stamps.getD h 0).toNat).add (f32 (s.stack k).temp.toNat).neg).abs = true := by
  unfold State.drifted driftReached
  rw [List.mem_filter, List.mem_range, BitVec.toNat_ofNat]

/-- The drift check queues the channels that have drifted. -/
theorem State.checkDrift_queues (s : State) (k : Nat) (hk : k < 12) : ∃ q, s.checkDrift k = s.setStack k { s.stack k with retrainQ := q } ∧
    ∀ h, h ∈ q ↔ h ∈ (s.stack k).retrainQ ∨ h ∈ s.drifted k := s.each_queueRetrain k hk _

theorem Stack.ticked_retrainQ (x : Stack) : x.ticked.retrainQ = x.retrainQ := by
  unfold Stack.ticked
  split <;> rfl

theorem State.openWindow_opens (s : State) (k c : Nat) (r : List Nat) (queue : (s.stack k).retrainQ = c :: r) (none : (s.stack k).window = none) (active : (s.stack k).state = .active) :
    s.openWindow k = s.setStack k { s.stack k with retrainQ := r, window := some { chan := c, slices := 0, offline := false, complete := false }, state := .retrain } := by
  unfold State.openWindow
  dsimp only
  rw [queue, none, active]

/-! ## Errors of HBM -/

/-- The health score is the only object that a deduction writes. -/
theorem State.objGet_healthUpdate (s : State) (o m : Nat) (ho : o ≠ 0x6050) (hm : m < 256) : s.healthUpdate.objGet o m = s.objGet o m := by
  have scored (t : State) (v : Nat) : (t.objSet 0x6050 4 v).objGet o m = t.objGet o m := State.objGet_objSet_ne _ _ _ _ _ _ (by omega)
  have reported (t : State) : (t.eventOpen 0x6050).warning.objGet o m = t.objGet o m := by
    unfold State.objGet
    rw [State.warning_obj, State.eventOpen_obj]
  unfold State.healthUpdate
  dsimp only
  split_ifs
  · rfl
  · rw [reported, scored]
  · exact scored _ _
  · rfl
  · exact scored _ _
  · rfl

theorem State.objGet_healthWarn (s : State) (o m : Nat) : s.healthWarn.objGet o m = s.objGet o m := by
  unfold State.healthWarn
  split
  · unfold State.objGet
    rw [State.warning_obj]
  · rfl

theorem State.objGet_deduct (s : State) (kind points : Nat) (transient : Bool) (o m : Nat) (ho : o ≠ 0x6050) (hm : m < 256) : (s.deduct kind points transient).objGet o m = s.objGet o m := by
  unfold State.deduct
  split
  · rfl
  · rw [State.objGet_healthWarn, State.objGet_healthUpdate _ _ _ ho hm]
    rfl

theorem State.objGet_undeduct (s : State) (kind : Nat) (o m : Nat) (ho : o ≠ 0x6050) (hm : m < 256) : (s.undeduct kind).objGet o m = s.objGet o m :=
  State.objGet_healthUpdate _ _ _ ho hm

/-- State `t` reads as state `s`, and its objects are those of `s` but for the health score. -/
structure State.SameButHealth (s t : State) : Prop where
  view : t.readView = s.readView
  objects : ∀ o m, o ≠ 0x6050 → m < 256 → t.objGet o m = s.objGet o m

theorem State.SameButHealth.refl (s : State) : s.SameButHealth s := ⟨rfl, fun _ _ _ _ => rfl⟩

theorem State.SameButHealth.trans {s t u : State} (h : s.SameButHealth t) (h' : t.SameButHealth u) : s.SameButHealth u :=
  ⟨h'.view.trans h.view, fun o m ho hm => (h'.objects o m ho hm).trans (h.objects o m ho hm)⟩

theorem State.SameButHealth.of_mem {s t : State} (mem : t.mem = s.mem) (outside : t.outsideMem = s.outsideMem) (objects : ∀ o m, o ≠ 0x6050 → m < 256 → t.objGet o m = s.objGet o m) :
    s.SameButHealth t := by
  refine ⟨?_, objects⟩
  unfold State.readView
  rw [mem, outside]

theorem State.SameButHealth.modStack (s : State) (k : Nat) (f : Stack → Stack) (h : (f (s.stack k)).readView = (s.stack k).readView) : s.SameButHealth (s.modStack k f) :=
  ⟨s.setStack_readView k _ h, fun _ _ _ _ => rfl⟩

theorem State.SameButHealth.deduct (s : State) (kind points : Nat) (transient : Bool) : s.SameButHealth (s.deduct kind points transient) :=
  .of_mem (s.deduct_mem ..) (s.deduct_outsideMem ..) fun o m ho hm => s.objGet_deduct _ _ _ o m ho hm

theorem State.SameButHealth.warning (s : State) : s.SameButHealth s.warning :=
  .of_mem s.warning_mem s.warning_outsideMem fun _ _ _ _ => by unfold State.objGet; rw [State.warning_obj]

/-- A correction counted against its pin: the device warns at its level, and the pin is flagged at its threshold. -/
theorem State.SameButHealth.pinCorrected (s : State) (k ch pin : Nat) : s.SameButHealth (s.pinCorrected k ch pin) := by
  unfold State.pinCorrected
  dsimp only
  refine (State.SameButHealth.modStack s k (fun x => { x with pinCounts := tset 0 x.pinCounts (128 * ch + pin) (tget 0 (s.stack k).pinCounts (128 * ch + pin) + 1) }) rfl).trans ?_
  generalize s.modStack k _ = t
  generalize decide (t.objGet 0x6012 0 < _) = above
  have warned : t.SameButHealth (if (above && !t.resil.corrWarned) = true then (t.deduct 4 20 true).warning else t) := by
    split
    · exact (State.SameButHealth.deduct t 4 20 true).trans (.warning _)
    · exact .refl t
  refine warned.trans ?_
  generalize (if (above && !t.resil.corrWarned) = true then (t.deduct 4 20 true).warning else t) = u
  have noted : u.SameButHealth { u with resil := { u.resil with corrWarned := above } } := ⟨rfl, fun _ _ _ _ => rfl⟩
  refine noted.trans ?_
  generalize ({ u with resil := { u.resil with corrWarned := above } } : State) = v
  split
  · have flagged := State.SameButHealth.modStack v k (fun x => { x with flagged := x.flagged ++ [(ch, pin)] }) rfl
    split
    · exact flagged.trans ⟨State.queueRetrain_readView _ _ _, fun _ _ _ _ => rfl⟩
    · exact flagged
  · exact .refl v

/-! ### Lines in error -/

theorem eraseDups_of_nodup (l : List Nat) (h : l.Nodup) : l.eraseDups = l := by
  induction l with
  | nil => rfl
  | cons a l ih =>
    obtain ⟨absent, rest⟩ := List.nodup_cons.mp h
    rw [List.eraseDups_cons, List.filter_eq_self.mpr fun b hb => by simpa using fun e : b = a => absent (e ▸ hb), ih rest]

/-- A copy that goes bad leaves every other line, and its own line is poisoned. -/
theorem State.line_poisonStored (s : State) (ln : Nat) : (∀ l, l ≠ ln → (s.poisonStored ln).line l = s.line l) ∧
    ∀ k, s.home (64 * ln) = some (.hbm k) → ((s.poisonStored ln).line ln).2 = true := by
  generalize hd : (List.range 64).map (fun i => Config.freeHbmByte s.mem.fillNext (64 * ln + i)) = d
  have size : d.length = 64 := by rw [← hd]; simp
  generalize ht : ({ s with mem := { s.mem with cells := msetN s.unlisted s.mem.cells (64 * ln) d, poison := sadd s.mem.poison ln } } : State) = t
  have alike : (s.poisonStored ln).line = t.line := State.line_congr (by rw [← ht, ← hd]; rfl)
  have mem : t.mem = { s.mem with cells := msetN s.unlisted s.mem.cells (64 * ln) d, comb := s.mem.comb, poison := sadd s.mem.poison ln } := by rw [← ht]
  have outside : t.outsideMem = s.outsideMem := by rw [← ht]; rfl
  rw [alike]
  refine ⟨fun l hl => State.line_of_stores outside mem l (fun u => mgetN_congr u _ _ _ _ fun i hi => mget_msetN_apart _ _ _ _ _ _ (by omega)) ?_ fun q => ?_, fun k hk => ?_⟩
  · rw [Bool.eq_iff_iff]
    simp [hl]
  · unfold State.combEntry
    rw [mem]
  · have here : t.home (64 * ln) = some (.hbm k) := by rw [(State.home_of_stores outside mem).1]; exact hk
    have poisoned : t.mem.poison.contains ln = true := by rw [mem]; simp
    cases he : t.combEntry (k / 3) ln with
    | none => rw [State.line_single t ln k here he]; exact poisoned
    | some e => rw [State.line_combined t ln k e here he, poisoned]; rfl

/-- The scrubber, which found symbols of some pins in error, met them, where nothing else waits. -/
theorem State.scrubLine_meets {s : State} (free : s.errorFree) (line : BitVec 36) (sec : Fin 2) (pins : List (Fin 36)) (some_ : pins ≠ []) (k : Nat)
    (hm : s.mapped (64 * line.toNat) = some (.hbm k)) (awake : (s.stack k).state ≠ .selfRefresh) :
    (s.arise [{ line := line, error := .hbm sec pins }]).scrubLine k line.toNat sec = s.sectorError k line.toNat sec (pins.map (·.val)) true := by
  generalize ht : s.arise [{ line := line, error := .hbm sec pins }] = t
  have errors : t.mem.errors = [(line.toNat, .hbm sec pins)] := by
    rw [← ht]
    simp [State.arise, State.modMem, free.1]
  have stack : t.stack k = s.stack k := by rw [← ht]; rfl
  have found : badSymbols line.toNat sec (line.toNat, .hbm sec pins) = pins.map (·.val) := if_pos ⟨rfl, rfl⟩
  have cleared : t.modMem (fun m => { m with errors := [] }) = s := by
    rw [← ht]
    unfold State.arise State.modMem
    dsimp only
    rw [← free.1]
  have read : t.readSectors k line.toNat [sec.val] true = s.sectorError k line.toNat sec (pins.map (·.val)) true := by
    unfold State.readSectors
    rw [show t.wakeStack k = t by simp [State.wakeStack, stack, awake]]
    simp only [errors, List.isEmpty_cons, Bool.false_and, Bool.false_eq_true, if_false, List.flatMap_cons, List.flatMap_nil, List.append_nil]
    have removed : t.modMem (fun m => { m with errors := m.errors.filter (fun e => [sec.val].all (fun sec => (badSymbols line.toNat sec e).isEmpty)) }) = s := by
      rw [← cleared]
      unfold State.modMem
      simp [errors, found, some_]
    rw [removed]
    exact congrArg (fun p => s.sectorError k line.toNat sec p true) found
  unfold State.scrubLine
  rw [show t.mapped (64 * line.toNat) = some (.hbm k) by rw [← ht]; exact hm, read]
  rfl

/-- The symbols in error of a sector, where no pin is in error in every sector. -/
theorem State.sectorError_pins {s : State} (free : s.errorFree) (k ln sec : Nat) (pins : List Nat) (distinct : pins.Nodup) (scrub : Bool) :
    (∀ p, pins = [p] → s.sectorError k ln sec pins scrub = (s.bump 0x4002 0 1).pinCorrected k (pcOf ln / 2) (36 * (pcOf ln % 2) + p)) ∧
    (pins.length = 2 ∨ pins.length = 3 → s.sectorError k ln sec pins scrub = s.hbmUncorrectable ln scrub) := by
  obtain ⟨ecc, rewriting⟩ := State.stack_pins_free free k
  have bad : (s.stack k).badPins (pcOf ln) = [] := by simp [Stack.badPins, ecc, rewriting]
  unfold State.sectorError
  dsimp only
  rw [bad, List.append_nil, eraseDups_of_nodup pins distinct, ecc]
  refine ⟨fun p hp => by rw [hp]; rfl, fun few => ?_⟩
  match pins, few with
  | [_, _], _ => rfl
  | [_, _, _], _ => rfl

theorem State.heldAbove_congr {s t : State} (h : t.readView = s.readView) (adder : t.mem.adder = s.mem.adder) (cache : t.mem.cache = s.mem.cache) (ln : Nat) :
    t.heldAbove ln = s.heldAbove ln := by
  unfold State.heldAbove
  rw [adder, cache, State.mapped_view h]

/-- A line that is found uncorrectable, not known before: counted, and poisoned where no copy above HBM serves its readers. -/
theorem State.hbmUncorrectable_finds {s : State} (free : s.errorFree) (ln k : Nat) (hh : s.home (64 * ln) = some (.hbm k)) (clean : ln ∉ s.mem.poison) :
    (s.heldAbove ln = true → (∀ l, (s.hbmUncorrectable ln true).line l = s.line l) ∧ ln ∈ (s.hbmUncorrectable ln true).mem.hidden) ∧
    (s.heldAbove ln = false → ((s.hbmUncorrectable ln true).line ln).2 = true ∧ (∀ l, l ≠ ln → (s.hbmUncorrectable ln true).line l = s.line l) ∧
      (s.hbmUncorrectable ln true).objGet 0x4002 1 = min (2 ^ 64 - 1) (s.objGet 0x4002 1 + 1) ∧
      (s.hbmUncorrectable ln true).objGet 0x4002 2 = min (2 ^ 64 - 1) (s.objGet 0x4002 2 + 1)) := by
  have known : (s.mem.poison.contains ln || s.mem.hidden.contains ln) = false := by simp [clean, free.2.1]
  have view : ((s.bump 0x4002 1 1).bump 0x4002 2 1).readView = s.readView :=
    (State.bump_readView _ 0x4002 2 1 (by simp) (by decide)).trans (State.bump_readView _ 0x4002 1 1 (by simp) (by decide))
  have first : ((s.bump 0x4002 1 1).bump 0x4002 2 1).objGet 0x4002 1 = min (2 ^ 64 - 1) (s.objGet 0x4002 1 + 1) := by
    rw [State.bump, State.objGet_objSet_ne _ _ _ _ _ _ (by decide), State.objGet_bump]
  have second : ((s.bump 0x4002 1 1).bump 0x4002 2 1).objGet 0x4002 2 = min (2 ^ 64 - 1) (s.objGet 0x4002 2 + 1) := by
    rw [State.objGet_bump, State.bump, State.objGet_objSet_ne _ _ _ _ _ _ (by decide)]
  have held := State.heldAbove_congr view rfl rfl ln
  unfold State.hbmUncorrectable
  dsimp only
  rw [known, if_neg Bool.false_ne_true, if_pos rfl, held]
  generalize (s.bump 0x4002 1 1).bump 0x4002 2 1 = t at view first second
  have home : t.home = s.home := State.home_congr (State.mapped_view view) (State.stack_congr view)
  have line := State.line_congr view
  refine ⟨fun above => ?_, fun below => ?_⟩
  · rw [above, if_pos rfl]
    exact ⟨fun l => by rw [← line]; rfl, (mem_sadd _ _ _).mpr (.inl rfl)⟩
  · rw [below, if_neg Bool.false_ne_true, State.mapped_view view, State.mapped_of_home hh]
    obtain ⟨others, bad⟩ := t.line_poisonStored ln
    exact ⟨bad k (by rw [home]; exact hh), fun l hl => by rw [← line]; exact others l hl, first, second⟩

/-! ## What drops with a stack -/

/-- Entries dropped one after another: none of their lines is combined after it, no entry has come, and nothing but the entries and their statistic has changed. -/
theorem State.each_dropEntry (s : State) (q : Nat) (l : List CombEntry) : ∃ comb obj,
    s.each l (fun s e => s.dropEntry q e.line) = { s with mem := { s.mem with comb := comb }, obj := obj } ∧
    (s.each l (fun s e => s.dropEntry q e.line)).outsideMem = s.outsideMem ∧ (l = [] → obj = s.obj) ∧
    ((vget comb q []).map (·.line)).Sublist (s.combLines q) ∧ ∀ e ∈ l, e.line ∉ (vget comb q []).map (·.line) := by
  induction l generalizing s with
  | nil => exact ⟨s.mem.comb, s.obj, rfl, rfl, fun _ => rfl, .refl _, fun _ h => absurd h List.not_mem_nil⟩
  | cons e l ih =>
    have one : ∃ comb obj, s.dropEntry q e.line = { s with mem := { s.mem with comb := comb }, obj := obj } := by
      unfold State.dropEntry
      split
      · exact ⟨_, _, rfl⟩
      · exact ⟨s.mem.comb, s.obj, rfl⟩
    obtain ⟨comb, obj, hone⟩ := one
    have gone : e.line ∉ (s.dropEntry q e.line).combLines q := by
      obtain ⟨comb', mem, entries⟩ := s.dropEntry_mem q e.line
      refine (State.combEntry_eq_none_iff _ _ _).mp ?_
      unfold State.combEntry
      rw [mem]
      exact (entries q e.line).trans (if_pos ⟨rfl, rfl⟩)
    obtain ⟨comb', obj', hrest, outside, -, sub, absent⟩ := ih (s.dropEntry q e.line)
    refine ⟨comb', obj', ?_, outside.trans (s.dropEntry_outsideMem q e.line), fun h => (List.cons_ne_nil _ _ h).elim, sub.trans (s.dropEntry_combLines q e.line q), fun e' he' => ?_⟩
    · refine Eq.trans hrest ?_
      rw [hone]
    · rcases List.mem_cons.mp he' with rfl | rest
      · exact fun h => gone (sub.mem h)
      · exact absent e' rest

/-- Whether an address is mapped to a stack. -/
def State.inStack (s : State) (k a : Nat) : Bool := s.mapped a == some (.hbm k)

theorem State.inStack_iff (s : State) (k a : Nat) : s.inStack k a = true ↔ s.mapped a = some (.hbm k) := beq_iff_eq

/-- What drops with a stack: its stored bytes and its poison, and what combines its lines. -/
theorem State.dropStack_drops (s : State) (k : Nat) (poison : Bool) : ∃ mem obj, s.dropStack k poison = { s with mem := mem, obj := obj } ∧ (s.dropStack k poison).mapped = s.mapped ∧
    mem.hbm = s.mem.hbm ∧ mem.cells = s.mem.cells.filter (fun c => !s.inStack k c.1) ∧ (poison = true → mem.poison = s.mem.poison.filter (fun l => !s.inStack k (64 * l))) ∧
    mem.tgState = s.mem.tgState ∧ mem.tgRes = s.mem.tgRes ∧
    ((∀ e ∈ vget s.mem.comb (k / 3) [], s.mapped (64 * e.line) ≠ some (.hbm k)) → obj = s.obj) ∧
    ∀ e ∈ vget mem.comb (k / 3) [], s.mapped (64 * e.line) ≠ some (.hbm k) := by
  obtain ⟨comb, obj, dropped, outside, untouched, sub, absent⟩ := s.each_dropEntry (k / 3) ((vget s.mem.comb (k / 3) []).filter (fun (e : CombEntry) => s.inStack k (64 * e.line)))
  have drops : s.dropStack k poison = (s.each ((vget s.mem.comb (k / 3) []).filter (fun (e : CombEntry) => s.inStack k (64 * e.line))) (fun s e => s.dropEntry (k / 3) e.line)).modMem
      (fun m => { m with
        cells := m.cells.filter (fun c => !s.inStack k c.1), poison := if poison then m.poison.filter (fun l => !s.inStack k (64 * l)) else m.poison
        adder := m.adder.filter (fun l => !s.inStack k (64 * l)), errors := m.errors.filter (fun e => !s.inStack k (64 * e.1))
        hidden := m.hidden.filter (fun l => !s.inStack k (64 * l))
        cache := vmod m.cache (k / 3) (fun l => l.filter (fun (c : CacheLine) => !s.inStack k (64 * c.line))) }) := rfl
  rw [drops, dropped]
  refine ⟨_, obj, rfl, ?_, rfl, rfl, fun hp => by rw [hp]; rfl, rfl, rfl, fun none => untouched ?_, fun e he there => ?_⟩
  · exact (State.mapped_congr (s := s) (by rw [dropped] at outside; exact outside) rfl rfl)
  · exact List.filter_eq_nil_iff.mpr fun e he => mt (s.inStack_iff k _).mp (none e he)
  · obtain ⟨e', he', line⟩ := List.mem_map.mp (sub.mem (List.mem_map_of_mem he))
    refine absent e' (List.mem_filter.mpr ⟨he', (s.inStack_iff k _).mpr ?_⟩) ?_
    · rw [line]
      exact there
    · rw [line]
      exact List.mem_map_of_mem he

end Sys2Proof.Machine
end

section
/-! SUPPORT. What training a channel makes of its stack and of the device (06 R210 to R214). -/

namespace Sys2Proof.Machine

theorem length_filter_filter_le_one {l : List Nat} (few : l.length ≤ 1) (p q : Nat → Bool) : ¬ 2 ≤ ((l.filter p).filter q).length := by
  have := List.length_filter_le q (l.filter p)
  have := List.length_filter_le p l
  omega

/-- A channel whose command lanes pass and of which at most one pin fails is stamped, and its stack stays in service. -/
theorem Stack.train_stamps (x : Stack) (ch : Nat) (bad : List Nat) (few : bad.length ≤ 1) :
    (x.train ch bad true).stamps = x.stamps.set ch x.temp ∧ (x.train ch bad true).window = x.window ∧ (x.train ch bad true).state = x.state ∧
    ∀ p ∈ (x.train ch bad true).flagged, p ∈ x.flagged := by
  refine ⟨rfl, rfl, ?_, fun p hp => (List.mem_filter.mp hp).1⟩
  unfold Stack.train
  dsimp only
  rw [decide_eq_false (not_or.mpr ⟨length_filter_filter_le_one few _ _, length_filter_filter_le_one few _ _⟩)]
  rfl

/-- The failed pin takes the spare data lane of its pair, where it is free. -/
theorem Stack.train_repairs (x : Stack) (ch p : Nat) (free : x.dataSpares.any (fun q => q.1 == ch / 2) = false) :
    (x.train ch [p] true).dataSpares = x.dataSpares ++ [(ch / 2, 72 * (ch % 2) + p)] ∧ (2 * ch + p / 36, p % 36) ∈ (x.train ch [p] true).rewriting ∧
    (ch, p) ∉ (x.train ch [p] true).flagged := by
  have loose : (ch / 2, 72 * (ch % 2) + p) ∉ x.dataSpares := fun h => by
    have := List.any_eq_false.mp free _ h
    simp at this
  unfold Stack.train
  simp [free, loose]

/-- Where the spare data lane of its pair is in use, the failed pin leaves its pseudo-channel covered by ECC. -/
theorem Stack.train_covers (x : Stack) (ch p : Nat) (used : x.dataSpares.any (fun q => q.1 == ch / 2) = true) :
    (x.train ch [p] true).dataSpares = x.dataSpares ∧ (2 * ch + p / 36, p % 36) ∈ (x.train ch [p] true).eccCovered := by
  have one (q r : Nat → Bool) : ¬ 2 ≤ (([p].filter q).filter r).length := length_filter_filter_le_one (by simp) q r
  unfold Stack.train
  dsimp only
  rw [used, decide_eq_false (not_or.mpr ⟨one _ _, one _ _⟩)]
  simp

/-- State `t` has the memories of state `s`, and its objects but for the health score. -/
def State.SameMemories (s t : State) : Prop := t.mem = s.mem ∧ ∀ o m, o ≠ 0x6050 → m < 256 → t.objGet o m = s.objGet o m

theorem State.SameMemories.trans {s t u : State} (h : s.SameMemories t) (h' : t.SameMemories u) : s.SameMemories u :=
  ⟨h'.1.trans h.1, fun o m ho hm => (h'.2 o m ho hm).trans (h.2 o m ho hm)⟩

theorem State.SameMemories.deduct (s : State) (kind points : Nat) (transient : Bool) : s.SameMemories (s.deduct kind points transient) :=
  ⟨s.deduct_mem kind points transient, s.objGet_deduct kind points transient⟩

theorem State.SameMemories.undeduct (s : State) (kind : Nat) : s.SameMemories (s.undeduct kind) := ⟨s.undeduct_mem kind, s.objGet_undeduct kind⟩

theorem State.SameMemories.spareUsed (s : State) : s.SameMemories s.spareUsed :=
  ⟨s.spareUsed_mem, fun _ _ _ _ => by rw [State.objGet, State.spareUsed_obj]; rfl⟩

theorem State.SameMemories.each {α : Type} (s : State) (l : List α) (f : State → α → State) (hf : ∀ (s : State) (a : α), s.SameMemories (f s a)) : s.SameMemories (s.each l f) :=
  State.each_invariant (P := s.SameMemories) s l f ⟨rfl, fun _ _ _ _ => rfl⟩ fun t ht a _ => ht.trans (hf t a)

/-- Training a channel of a stack that stays in service writes the record of the stack; what else it does is a matter of the health record. -/
theorem State.trainChannel_trains (s : State) (k ch : Nat) (bad : List Nat) (ok : Bool) (serves : ((s.stack k).train ch bad ok).state ≠ .failed) :
    (s.setStack k ((s.stack k).train ch bad ok)).SameMemories (s.trainChannel k ch bad ok) := by
  unfold State.trainChannel
  dsimp only
  rw [if_neg serves]
  refine State.SameMemories.trans ?_ (.trans (.each _ _ _ fun t p => .undeduct t _) (.each _ _ _ fun t p => .deduct t _ _ _))
  split
  · exact ⟨rfl, fun _ _ _ _ => rfl⟩
  · exact .spareUsed _

theorem exec_retrainComplete (k : Fin 12) (pins : List (Fin 72)) (ok : Bool) (s : State) : exec (.retrainComplete k pins ok) s = execRetrainComplete k pins ok s := rfl

/-- RETRAIN_COMPLETE between slices, with at most one failed pin: the training of the channel in the window, counted. -/
theorem exec_retrainComplete_trains (s : State) (k : Fin 12) (pins : List (Fin 72)) (w : RetrainWin) (window : (s.stack k).window = some w) (online : w.offline = false)
    (open_ : w.complete = false) (few : pins.length ≤ 1) (retrains : (s.stack k).state = .retrain) :
    Runs (.retrainComplete k pins true) s fun t =>
      t.stack k = ({ s.stack k with window := some { w with complete := true } } : Stack).train w.chan (pins.map (·.val)) true ∧ t.mem.cells = s.mem.cells ∧
      t.objGet 0x4004 1 = min (2 ^ 64 - 1) (s.objGet 0x4004 1 + 1) := by
  generalize hu : (s.modStack k (fun x => { x with window := some { w with complete := true } })).bump 0x4004 1 1 = u
  have runs : exec (.retrainComplete k pins true) s = .next (u.trainChannel k w.chan (pins.map (·.val)) true) := by
    rw [exec_retrainComplete, execRetrainComplete, window, ← hu]
    simp only [online, open_, Bool.or_self, Bool.false_eq_true, if_false]
  have stack : u.stack k = { s.stack k with window := some { w with complete := true } } := by
    rw [← hu]
    exact State.stack_modStack s k (fun x => { x with window := some { w with complete := true } }) k.isLt
  have count : u.objGet 0x4004 1 = min (2 ^ 64 - 1) (s.objGet 0x4004 1 + 1) := by rw [← hu, State.objGet_bump]; rfl
  have cells : u.mem.cells = s.mem.cells := by rw [← hu]; rfl
  obtain ⟨-, -, serves, -⟩ := (u.stack k).train_stamps w.chan (pins.map (·.val)) (by simpa using few)
  obtain ⟨mem, obj⟩ := u.trainChannel_trains k w.chan (pins.map (·.val)) true (by rw [serves, stack]; simp [retrains])
  refine ⟨_, runs, ?_, (congrArg MemSys.cells mem).trans cells, (obj _ _ (by decide) (by decide)).trans count⟩
  rw [State.stack, mem, ← stack]
  exact State.stack_setStack u k _ k.isLt

end Sys2Proof.Machine
end

section
/-! SUPPORT. Drift checks and retraining windows (06 R212 to R214). -/

namespace Sys2Proof.Machine

theorem exec_driftCheck (k : Fin 12) (s : State) : exec (.driftCheck k) s = execDriftCheck k s := rfl
theorem exec_retrainRequest (v : BitVec 16) (s : State) : exec (.retrainRequest v) s = execRetrainRequest v s := rfl
theorem exec_retrainWindowOpen (k : Fin 12) (s : State) : exec (.retrainWindowOpen k) s = execRetrainWindowOpen k s := rfl
theorem exec_retrainSliceStart (k : Fin 12) (s : State) : exec (.retrainSliceStart k) s = execRetrainSliceStart k s := rfl
theorem exec_retrainSliceEnd (k : Fin 12) (s : State) : exec (.retrainSliceEnd k) s = execRetrainSliceEnd k s := rfl
theorem exec_retrainWindowClose (k : Fin 12) (s : State) : exec (.retrainWindowClose k) s = execRetrainWindowClose k s := rfl
theorem exec_laneRewriteComplete (k : Fin 12) (pc : Fin 64) (s : State) : exec (.laneRewriteComplete k pc) s = execLaneRewriteComplete k pc s := rfl

theorem exec_driftCheck_queues (s : State) (k : Fin 12) : Runs (.driftCheck k) s fun t =>
    (∀ h, h ∈ (t.stack k).retrainQ ↔ h ∈ (s.stack k).retrainQ ∨ h ∈ s.drifted k) ∧ t = s.setStack k ({ s.stack k with retrainQ := (t.stack k).retrainQ } : Stack).ticked := by
  obtain ⟨q, queued, mem⟩ := s.checkDrift_queues k k.isLt
  have result : (s.checkDrift k).modStack k Stack.ticked = s.setStack k ({ s.stack k with retrainQ := q } : Stack).ticked := by
    rw [queued, State.modStack, State.stack_setStack _ _ _ k.isLt, State.setStack_setStack _ _ _ _ k.isLt]
  have queue : (((s.checkDrift k).modStack k Stack.ticked).stack k).retrainQ = q := by
    rw [result, State.stack_setStack _ _ _ k.isLt, Stack.ticked_retrainQ]
  exact ⟨_, exec_driftCheck k s, fun h => by rw [queue]; exact mem h, by rw [queue, result]⟩

theorem State.mem_queueRetrain (s : State) (k ch : Nat) (hk : k < 12) : ch ∈ ((s.queueRetrain k ch).stack k).retrainQ := by
  rw [State.queueRetrain, State.stack_modStack _ _ _ hk]
  split
  · next there => simpa using there
  · simp

theorem exec_retrainRequest_queues (s : State) (h : s.answers 0x4004 2) (v : BitVec 16) (low : v.toNat < 384) : Runs (.retrainRequest v) s fun t =>
    v.toNat % 32 ∈ (t.stack (v.toNat / 32)).retrainQ ∧ t.out = s.out ++ [.objectReply 0x4004 2 0] ∧ t.cores = s.cores := by
  refine ⟨_, exec_retrainRequest v s, ?_⟩
  rw [s.objectRow_answers _ _ _ h, if_pos low]
  exact ⟨s.mem_queueRetrain _ _ (by omega), rfl, rfl⟩

theorem exec_retrainRequest_range (s : State) (h : s.answers 0x4004 2) (v : BitVec 16) (high : 384 ≤ v.toNat) : exec (.retrainRequest v) s = .next (s.reply 0x4004 2 0x0201) := by
  rw [exec_retrainRequest, execRetrainRequest, s.objectRow_answers _ _ _ h, if_neg (by omega)]

section Window
variable {s : State} {k : Fin 12} {w : RetrainWin} (window : (s.stack k).window = some w)
include window

theorem exec_retrainSliceStart_starts (online : w.offline = false) (open_ : w.complete = false) (few : w.slices < 80) :
    exec (.retrainSliceStart k) s = .next (s.setStack k { s.stack k with window := some { w with slices := w.slices + 1, offline := true } }) := by
  rw [exec_retrainSliceStart, execRetrainSliceStart]
  simp [window, online, open_, few]

theorem exec_retrainSliceStart_most (most : 80 ≤ w.slices) : exec (.retrainSliceStart k) s = .next s := by
  rw [exec_retrainSliceStart, execRetrainSliceStart]
  simp [window, most]

theorem exec_retrainSliceEnd_ends : exec (.retrainSliceEnd k) s = .next (s.setStack k { s.stack k with window := some { w with offline := false } }) := by
  rw [exec_retrainSliceEnd, execRetrainSliceEnd]
  simp [window]

theorem exec_retrainWindowClose_closes (done : w.complete = true) (retrains : (s.stack k).state = .retrain) :
    exec (.retrainWindowClose k) s = .next (s.setStack k { s.stack k with window := none, state := .active }) := by
  rw [exec_retrainWindowClose, execRetrainWindowClose]
  simp [window, done, retrains]

theorem exec_retrainWindowClose_incomplete (incomplete : w.complete = false) : exec (.retrainWindowClose k) s = .next s := by
  rw [exec_retrainWindowClose, execRetrainWindowClose]
  simp [window, incomplete]

end Window

end Sys2Proof.Machine
end

section
/-! SUPPORT. The patrol scrubber (06 R206). -/

namespace Sys2Proof.Machine

theorem exec_patrolScrub (line : BitVec 36) (sec : Fin 2) (arisen : List MemError) (s : State) : exec (.patrolScrub line sec arisen) s = execPatrolScrub line sec arisen s := rfl

section Scrub
variable {s : State} {line : BitVec 36} {k : Nat} (home : s.home (64 * line.toNat) = some (.hbm k)) (awake : (s.stack k).state ≠ .selfRefresh) (sec : Fin 2)
include home awake

theorem exec_patrolScrub_scrubs (arisen : List MemError) : exec (.patrolScrub line sec arisen) s = .next ((s.arise arisen).scrubLine k line.toNat sec) := by
  have mapped : (s.arise arisen).mapped (64 * line.toNat) = some (.hbm k) := State.mapped_of_home home
  rw [exec_patrolScrub, execPatrolScrub]
  rw [mapped]
  exact congrArg _ (if_neg awake)

variable (free : s.errorFree)
include free

theorem exec_patrolScrub_clean : exec (.patrolScrub line sec []) s = .next s := by
  have nothing : s.arise [] = s := by simp [State.arise, State.modMem]
  obtain ⟨ecc, rewriting⟩ := State.stack_pins_free free k
  have read : s.readSectors k line.toNat [sec.val] true = s := by
    unfold State.readSectors
    rw [show s.wakeStack k = s from if_neg awake]
    simp [free.1, ecc, rewriting]
  rw [exec_patrolScrub_scrubs home awake sec [], nothing, State.scrubLine, State.mapped_of_home home, read]
  rfl

theorem exec_patrolScrub_meets (pins : List (Fin 36)) (some_ : pins ≠ []) : exec (.patrolScrub line sec [{ line := line, error := .hbm sec pins }]) s = .next (s.sectorError k line.toNat sec (pins.map (·.val)) true) := by
  rw [exec_patrolScrub_scrubs home awake, State.scrubLine_meets free line sec pins some_ k (State.mapped_of_home home) awake]

theorem exec_patrolScrub_corrects (pins : List (Fin 36)) (one : pins.length = 1) : Runs (.patrolScrub line sec [{ line := line, error := .hbm sec pins }]) s fun t =>
    (∀ l, t.line l = s.line l) ∧ t.objGet 0x4002 0 = min (2 ^ 64 - 1) (s.objGet 0x4002 0 + 1) := by
  obtain ⟨p, rfl⟩ := List.length_eq_one_iff.mp one
  refine ⟨_, exec_patrolScrub_meets home awake sec free [p] (by simp), ?_⟩
  obtain ⟨corrected, -⟩ := State.sectorError_pins free k line.toNat sec [p.val] (by simp) true
  have counted := State.SameButHealth.pinCorrected (s.bump 0x4002 0 1) k (pcOf line.toNat / 2) (36 * (pcOf line.toNat % 2) + p)
  have view := counted.view.trans (s.bump_readView 0x4002 0 1 (by simp) (by decide))
  have count := (counted.objects 0x4002 0 (by decide) (by decide)).trans (s.objGet_bump 0x4002 0 1)
  rw [List.map_cons, List.map_nil, corrected p.val rfl]
  exact ⟨fun l => congrFun (State.line_congr view) l, count⟩

theorem exec_patrolScrub_finds (pins : List (Fin 36)) (distinct : pins.Nodup) (few : pins.length = 2 ∨ pins.length = 3) :
    exec (.patrolScrub line sec [{ line := line, error := .hbm sec pins }]) s = .next (s.hbmUncorrectable line.toNat true) := by
  obtain ⟨-, uncorrectable⟩ := State.sectorError_pins free k line.toNat sec (pins.map (·.val)) (distinct.map Fin.val_injective) true
  rw [exec_patrolScrub_meets home awake sec free pins (by rintro rfl; simp at few), uncorrectable (by simpa using few)]

end Scrub

end Sys2Proof.Machine
end

section
/-! SUPPORT. TEST and the traffic generator (06 R216 to R218). -/

namespace Sys2Proof.Machine

theorem exec_stackEnterTest (k : Fin 12) (s : State) : exec (.stackEnterTest k) s = execStackEnterTest k s := rfl
theorem exec_stackLeaveTest (k : Fin 12) (s : State) : exec (.stackLeaveTest k) s = execStackLeaveTest k s := rfl
theorem exec_stackZeroFillComplete (k : Fin 12) (s : State) : exec (.stackZeroFillComplete k) s = execStackZeroFillComplete k s := rfl
theorem exec_trafficGeneratorStart (s : State) : exec .trafficGeneratorStart s = execTrafficGeneratorStart s := rfl
theorem exec_trafficGeneratorStop (s : State) : exec .trafficGeneratorStop s = execTrafficGeneratorStop s := rfl
theorem exec_trafficGeneratorDone (rate : BitVec 32) (results : List (List Byte)) (s : State) : exec (.trafficGeneratorDone rate results) s = execTrafficGeneratorDone rate results s := rfl

section Test
variable {s : State} {k : Fin 12} (answers : s.answers 0x4001 k)
include answers

theorem exec_stackEnterTest_enters (idle : s.dev.state = .idle) (serves : (s.stack k).state ≠ .failed) :
    exec (.stackEnterTest k) s = .next ((s.setStack k { s.stack k with state := .test, window := none }).reply 0x4001 k 0) := by
  rw [exec_stackEnterTest, execStackEnterTest, s.objectRow_answers _ _ _ answers, if_neg (not_not.mpr idle), if_neg serves]
  rfl

theorem exec_stackEnterTest_state (busy : s.dev.state ≠ .idle) : exec (.stackEnterTest k) s = .next (s.reply 0x4001 k 0x0203) := by
  rw [exec_stackEnterTest, execStackEnterTest, s.objectRow_answers _ _ _ answers, if_pos busy]

theorem exec_stackLeaveTest_state (busy : s.dev.state ≠ .idle) : exec (.stackLeaveTest k) s = .next (s.reply 0x4001 k 0x0203) := by
  rw [exec_stackLeaveTest, execStackLeaveTest, s.objectRow_answers _ _ _ answers, if_pos busy]

theorem exec_stackLeaveTest_leaves (idle : s.dev.state = .idle) (off : s.generatorOn k = false) (test : (s.stack k).state = .test) :
    exec (.stackLeaveTest k) s = .next ((s.setStack k { s.stack k with zeroFilling := true }).reply 0x4001 k 0) := by
  rw [exec_stackLeaveTest, execStackLeaveTest, s.objectRow_answers _ _ _ answers, if_neg (not_not.mpr idle), off, if_neg Bool.false_ne_true, test]
  rfl

end Test

end Sys2Proof.Machine
end

section
/-! SUPPORT. The zero fill and the traffic generator (06 R216 to R218). -/

namespace Sys2Proof.Machine

theorem State.unlisted_zero (s : State) (k a : Nat) (here : s.mapped a = some (.hbm k)) (fill : (s.stack k).fill = 0) : s.unlisted a = 0 := by
  unfold State.unlisted
  simp [here, fill]

/-- A byte of a stack that has dropped what it held and was filled with zeros. -/
theorem State.mget_filled {s t : State} (k a : Nat) (mapped : t.mapped = s.mapped) (here : s.mapped a = some (.hbm k)) (fill : (t.stack k).fill = 0) (cells : Mem)
    (dropped : t.mem.cells = cells.filter (fun c => !s.inStack k c.1)) : mget t.unlisted t.mem.cells a = 0 := by
  rw [mget, dropped, tget_filter _ _ (fun b => !s.inStack k b), (s.inStack_iff k a).mpr here, t.unlisted_zero k a (by rw [mapped]; exact here) fill]
  rfl

theorem State.dropTail_drops (s : State) (k : Nat) : ∃ errors rack, s.dropTail k = { s with mem := { s.mem with errors := errors }, rack := rack } := ⟨_, _, rfl⟩

theorem State.dropTail_mapped (s : State) (k : Nat) : (s.dropTail k).mapped = s.mapped := rfl

/-- A stack whose zero fill is over. -/
def Stack.filled (x : Stack) : Stack := { x with zeroFilling := false, state := .active, fill := 0 }

theorem exec_stackZeroFillComplete_eq (s : State) (k : Fin 12) (filling : (s.stack k).zeroFilling = true) (test : (s.stack k).state = .test) :
    exec (.stackZeroFillComplete k) s = .next (((s.setStack k (s.stack k).filled).dropStack k true).dropTail k) := by
  rw [exec_stackZeroFillComplete, execStackZeroFillComplete, filling, test]
  rfl

theorem exec_stackZeroFillComplete_fills (s : State) (k : Fin 12) (filling : (s.stack k).zeroFilling = true) (test : (s.stack k).state = .test) :
    Runs (.stackZeroFillComplete k) s fun t =>
      t.stack k = { s.stack k with zeroFilling := false, state := .active, fill := 0 } ∧ { t with mem := s.mem, rack := s.rack, obj := s.obj } = s ∧
      ((∀ e ∈ vget s.mem.comb (k / 3) [], s.mapped (64 * e.line) ≠ some (.hbm k)) → t.obj = s.obj) ∧
      (∀ e ∈ vget t.mem.comb (k / 3) [], s.mapped (64 * e.line) ≠ some (.hbm k)) ∧
      (∀ l, s.mapped (64 * l) = some (.hbm k) → l ∉ t.mem.poison) ∧
      (∀ a, s.mapped a = some (.hbm k) → mget t.unlisted t.mem.cells a = 0) := by
  have mapped : (s.setStack k (s.stack k).filled).mapped = s.mapped := State.mapped_congr (s.setStack_outsideMem k _) rfl rfl
  have inStack : (s.setStack k (s.stack k).filled).inStack k = s.inStack k := by
    unfold State.inStack
    rw [mapped]
  have filled : (s.setStack k (s.stack k).filled).stack k = (s.stack k).filled := s.stack_setStack k _ k.isLt
  obtain ⟨mem, obj, drops, same, hbm, cells, poison, -, -, untouched, gone⟩ := (s.setStack k (s.stack k).filled).dropStack_drops k true
  obtain ⟨errors, rack, tail⟩ := ((s.setStack k (s.stack k).filled).dropStack k true).dropTail_drops k
  rw [mapped] at untouched gone
  rw [inStack] at cells poison
  have mapped' := (State.dropTail_mapped _ k).trans (same.trans mapped)
  refine ⟨_, exec_stackZeroFillComplete_eq s k filling test, ?_⟩
  rw [tail, drops] at mapped' ⊢
  have stack : (vget mem.hbm k .reset) = (s.stack k).filled := by rw [hbm]; exact filled
  refine ⟨stack, rfl, untouched, gone, fun l here listed => ?_, fun a here => ?_⟩
  · have kept := (List.mem_filter.mp (poison rfl ▸ listed)).2
    rw [(s.inStack_iff k _).mpr here] at kept
    exact absurd kept (by decide)
  · exact State.mget_filled k a mapped' here (congrArg Stack.fill stack) _ cells

section Generator
variable {s : State} (answers : s.answers 0x4020 9)
include answers

theorem exec_trafficGeneratorStart_starts (off : s.mem.tgState ≠ 1) (test : (s.stack (s.objGet 0x4020 0)).state = .test) (filled : (s.stack (s.objGet 0x4020 0)).zeroFilling = false) :
    Runs .trafficGeneratorStart s fun t => t.mem.tgState = 1 ∧ t.mem.tgRes = [] ∧ t.out = s.out ++ [.objectReply 0x4020 9 0] ∧ t.cores = s.cores := by
  refine ⟨_, exec_trafficGeneratorStart s, ?_⟩
  rw [s.objectRow_answers _ _ _ answers]
  dsimp only
  rw [if_neg off, if_neg (by simp [test, filled])]
  generalize s.objGet 0x4020 0 = k
  unfold State.freshStack
  dsimp only
  generalize hu : State.modMem _ _ = u
  obtain ⟨mem, obj, drops, -, -, -, -, running, results, -, -⟩ := u.dropStack_drops k false
  obtain ⟨errors, rack, tail⟩ := (u.dropStack k false).dropTail_drops k
  rw [tail, drops, ← hu]
  rw [← hu] at running results
  exact ⟨running, results, rfl, rfl⟩

theorem exec_trafficGeneratorStart_runs (on : s.mem.tgState = 1) : exec .trafficGeneratorStart s = .next (s.reply 0x4020 9 0x0206) := by
  rw [exec_trafficGeneratorStart, execTrafficGeneratorStart, s.objectRow_answers _ _ _ answers]
  exact congrArg _ (if_pos on)

theorem exec_trafficGeneratorStart_state (off : s.mem.tgState ≠ 1) (out : (s.stack (s.objGet 0x4020 0)).state ≠ .test) :
    exec .trafficGeneratorStart s = .next (s.reply 0x4020 9 0x0205) := by
  rw [exec_trafficGeneratorStart, execTrafficGeneratorStart, s.objectRow_answers _ _ _ answers]
  exact congrArg _ ((if_neg off).trans (if_pos (.inl out)))

theorem exec_trafficGeneratorStop_stops (on : s.mem.tgState = 1) :
    exec .trafficGeneratorStop s = .next (State.reply { s with mem := { s.mem with tgState := 3 } } 0x4020 9 0) := by
  rw [exec_trafficGeneratorStop, execTrafficGeneratorStop, s.objectRow_answers _ _ _ answers, if_pos on]
  rfl

end Generator

/-- The checker's records that a run leaves: those of the pseudo-channels in the mask. -/
def State.checkerRecords (s : State) (results : List (List Byte)) : List (Nat × List Byte) :=
  ((results.take 64).zipIdx.filter (fun r => (s.objGet 0x4020 1).testBit r.2)).map (fun r => (r.2, r.1))

theorem State.checkerRecords_mask (s : State) (results : List (List Byte)) (p : Nat × List Byte) (h : p ∈ s.checkerRecords results) :
    (s.objGet 0x4020 1).testBit p.1 = true ∧ results[p.1]? = some p.2 := by
  obtain ⟨r, hr, rfl⟩ := List.mem_map.mp h
  obtain ⟨listed, masked⟩ := List.mem_filter.mp hr
  have at_ : (results.take 64)[r.2]? = some r.1 := by simpa using List.mem_zipIdx_iff_getElem?.mp listed
  rw [List.getElem?_take] at at_
  exact ⟨masked, (Option.ite_none_right_eq_some.mp at_).2⟩

section Done
variable (s : State) (rate : BitVec 32) (results : List (List Byte))

theorem exec_trafficGeneratorDone_ends (on : s.mem.tgState = 1) :
    exec (.trafficGeneratorDone rate results) s = .next { s with mem := { s.mem with tgState := 2, tgRate := rate, tgRes := s.checkerRecords results } } := by
  rw [exec_trafficGeneratorDone, execTrafficGeneratorDone, if_pos (.inl on), State.modMem, if_pos on]
  rfl

theorem exec_trafficGeneratorDone_stopped (stopped : s.mem.tgState = 3) (unrecorded : s.mem.tgRes = []) :
    exec (.trafficGeneratorDone rate results) s = .next { s with mem := { s.mem with tgRate := rate, tgRes := s.checkerRecords results } } := by
  rw [exec_trafficGeneratorDone, execTrafficGeneratorDone, if_pos (.inr ⟨stopped, by simp [unrecorded]⟩), State.modMem, if_neg (by simp [stopped]), ← stopped]
  rfl

end Done

end Sys2Proof.Machine
end

section
/-! SUPPORT. Self-refresh (14 R488, R489). -/

namespace Sys2Proof.Machine

theorem exec_stackSelfRefreshEntry (k : Fin 12) (s : State) : exec (.stackSelfRefreshEntry k) s = execStackSelfRefreshEntry k s := rfl
theorem exec_stackWake (k : Fin 12) (s : State) : exec (.stackWake k) s = execStackWake k s := rfl

theorem exec_stackSelfRefreshEntry_enters (s : State) (k : Fin 12) (active : (s.stack k).state = .active) (closed : (s.stack k).window = none) :
    exec (.stackSelfRefreshEntry k) s = .next (s.setStack k { s.stack k with state := .selfRefresh }) := by
  rw [exec_stackSelfRefreshEntry, execStackSelfRefreshEntry, State.modStack, if_pos ⟨active, closed⟩]

/-- A stack out of self-refresh, before it is checked for drift. -/
def State.woken (s : State) (k : Nat) : State := (s.setStack k { s.stack k with state := .active }).modMem (fun m => { m with fillNext := m.fillNext + 1 })

theorem State.woken_stack (s : State) (k : Nat) (hk : k < 12) : (s.woken k).stack k = { s.stack k with state := .active } := s.stack_setStack k _ hk

theorem State.woken_drifted (s : State) (k : Nat) (hk : k < 12) : (s.woken k).drifted k = s.drifted k := by
  unfold State.drifted
  rw [s.woken_stack k hk]
  rfl

theorem State.wakeStack_wakes (s : State) (k : Nat) (hk : k < 12) (asleep : (s.stack k).state = .selfRefresh) :
    s.wakeStack k = if Config.sleptLong s.mem.fillNext && !(s.drifted k).isEmpty then ((s.woken k).checkDrift k).openWindow k else s.woken k := by
  rw [State.wakeStack, if_pos asleep, ← s.woken_drifted k hk]
  rfl

theorem State.drifted_isEmpty (s : State) (k : Nat) :
    (!(s.drifted k).isEmpty) = (List.range 32).any (fun h => driftReached ((s.stack k).stamps.getD h 0) (s.stack k).temp (BitVec.ofNat 32 (s.objGet 0x4004 0))) := by
  unfold State.drifted
  rw [Bool.eq_iff_iff]
  simp

/-- A stack that woke and drifted opens a window. -/
theorem State.openWindow_woken (s : State) (k : Nat) (hk : k < 12) (closed : (s.stack k).window = none) (drifts : (!(s.drifted k).isEmpty) = true) :
    ((((s.woken k).checkDrift k).openWindow k).stack k).state = .retrain ∧ ((((s.woken k).checkDrift k).openWindow k).stack k).window.isSome = true := by
  obtain ⟨q, queued, mem⟩ := (s.woken k).checkDrift_queues k hk
  have stack : ((s.woken k).checkDrift k).stack k = { s.stack k with state := .active, retrainQ := q } := by
    rw [queued, State.stack_setStack _ _ _ hk, s.woken_stack k hk]
  obtain ⟨c, hc⟩ : ∃ c, c ∈ s.drifted k := List.exists_mem_of_ne_nil _ (by simpa using drifts)
  obtain ⟨d, r, hq⟩ : ∃ d r, q = d :: r := List.exists_cons_of_ne_nil (List.ne_nil_of_mem ((mem c).mpr (.inr (by rw [s.woken_drifted k hk]; exact hc))))
  rw [State.openWindow_opens _ k d r (by rw [stack]; exact hq) (by rw [stack]; exact closed) (by rw [stack]), State.stack_setStack _ _ _ hk]
  exact ⟨rfl, rfl⟩

theorem exec_stackWake_wakes (s : State) (k : Fin 12) (asleep : (s.stack k).state = .selfRefresh) (closed : (s.stack k).window = none) : Runs (.stackWake k) s fun t =>
    (t.stack k).state = (if Config.sleptLong s.mem.fillNext && !(s.drifted k).isEmpty then .retrain else .active) ∧
    ((t.stack k).window.isSome = true ↔ (t.stack k).state = .retrain) ∧ ∀ l, t.line l = s.line l := by
  refine ⟨_, exec_stackWake k s, ?_, ?_, fun l => congrFun (State.line_congr (s.wakeStack_readView k)) l⟩ <;>
    rw [s.wakeStack_wakes k k.isLt asleep]
  · split
    · next long => exact (s.openWindow_woken k k.isLt closed (Bool.and_eq_true_iff.mp long).2).1
    · rw [s.woken_stack k k.isLt]
  · split
    · next long =>
      obtain ⟨retrains, opened⟩ := s.openWindow_woken k k.isLt closed (Bool.and_eq_true_iff.mp long).2
      simp [retrains, opened]
    · simp [s.woken_stack k k.isLt, closed]

theorem exec_stackWake_still (s : State) (k : Fin 12) (asleep : (s.stack k).state = .selfRefresh) (still : (!(s.drifted k).isEmpty) = false) :
    exec (.stackWake k) s = .next (s.woken k) := by
  rw [exec_stackWake, execStackWake, s.wakeStack_wakes k k.isLt asleep, still, Bool.and_false]
  rfl

end Sys2Proof.Machine
end

section
/-! PROOF of O32. -/

namespace Sys2Proof.Machine

/-- Settles O32: the commands of the stacks and channels one by one; what training, the scrubber and a dropped stack leave are the laws above, and each clause is one of them. -/
theorem stacksAndChannels : Obligations.StacksAndChannels := by
  unfold Obligations.StacksAndChannels
  refine ⟨fun s k => ⟨?_, fun answers v => ⟨exec_retrainRequest_queues s answers v, exec_retrainRequest_range s answers v⟩, fun ch r queue closed active => ?_, fun w window => ?_,
    fun pc => exec_laneRewriteComplete k pc s, fun line sec free => ⟨fun awake home => exec_patrolScrub_clean home awake sec free, fun pins distinct home awake => ?_⟩⟩,
    fun s k => ⟨fun answers => ?_, exec_stackZeroFillComplete_fills s k, fun answers => ?_, fun rate results on => ?_, fun rate results stopped unrecorded => ?_,
      exec_stackSelfRefreshEntry_enters s k, fun asleep => ?_⟩⟩
  · obtain ⟨t, runs, queue, result⟩ := exec_driftCheck_queues s k
    exact ⟨t, runs, fun h => (queue h).trans (or_congr_right (s.mem_drifted k h)), result⟩
  · rw [exec_retrainWindowOpen, execRetrainWindowOpen, State.openWindow_opens s k ch r queue closed active]
  · refine ⟨exec_retrainSliceStart_starts window, exec_retrainSliceStart_most window, exec_retrainSliceEnd_ends window, fun pins online open_ few retrains => ?_,
      exec_retrainWindowClose_closes window, exec_retrainWindowClose_incomplete window⟩
    obtain ⟨t, runs, stack, cells, count⟩ := exec_retrainComplete_trains s k pins w window online open_ few retrains
    obtain ⟨stamps, kept, serves, flagged⟩ := Stack.train_stamps { s.stack k with window := some { w with complete := true } } w.chan (pins.map (·.val)) (by simpa using few)
    refine ⟨t, runs, ?_⟩
    dsimp only
    rw [stack]
    refine ⟨stamps, kept, serves.trans retrains, flagged, cells, count, ?_, ?_⟩
    · rintro p rfl free
      exact Stack.train_repairs _ w.chan p free
    · rintro p rfl used
      exact Stack.train_covers _ w.chan p used
  · refine ⟨exec_patrolScrub_corrects home awake sec free pins, fun few clean held => ?_, fun few clean unheld => ?_⟩
    · exact ⟨_, exec_patrolScrub_finds home awake sec free pins distinct few, (State.hbmUncorrectable_finds free _ k home clean).1 held⟩
    · exact ⟨_, exec_patrolScrub_finds home awake sec free pins distinct few, (State.hbmUncorrectable_finds free _ k home clean).2 unheld⟩
  · exact ⟨exec_stackEnterTest_enters answers, fun busy => ⟨exec_stackEnterTest_state answers busy, exec_stackLeaveTest_state answers busy⟩, exec_stackLeaveTest_leaves answers⟩
  · exact ⟨exec_trafficGeneratorStart_starts answers, exec_trafficGeneratorStart_runs answers, exec_trafficGeneratorStart_state answers,
      fun on => ⟨_, exec_trafficGeneratorStop_stops answers on, rfl⟩⟩
  · exact ⟨_, exec_trafficGeneratorDone_ends s rate results on, rfl, s.checkerRecords_mask results⟩
  · exact ⟨_, exec_trafficGeneratorDone_stopped s rate results stopped unrecorded, rfl⟩
  · dsimp only
    rw [← s.drifted_isEmpty k]
    exact ⟨exec_stackWake_still s k asleep, exec_stackWake_wakes s k asleep⟩

end Sys2Proof.Machine
end

section
/-! SUPPORT. The elements of a move (07 R249, R252): each coordinate of a box once, and where a window takes a zero. -/

namespace Sys2Proof.Machine

/-! ## Coordinates of a box -/

theorem flatten_chunks {α : Type} (n : Nat) (hn : 0 < n) (l : List α) : (chunks n l).flatten = l := by
  have rest (k : Nat) (l : List α) (hk : l.length ≤ k) : (chunksAux n k l).flatten = l := by
    induction k generalizing l with
    | zero => rw [List.length_eq_zero_iff.mp (Nat.le_zero.mp hk)]; rfl
    | succ k ih =>
      unfold chunksAux
      split
      · next empty => rw [List.isEmpty_iff.mp empty]; rfl
      · rw [List.flatten_cons, ih _ (by rw [List.length_drop]; omega), List.take_append_drop]
  exact rest l.length l le_rfl

@[simp] theorem volume_nil : volume [] = 1 := rfl

theorem volume_cons (n : Nat) (ext : List Nat) : volume (n :: ext) = n * volume ext := by
  unfold volume
  rw [← List.prod_eq_foldl, ← List.prod_eq_foldl, List.prod_cons]

@[simp] theorem boxCoord_nil (i : Nat) : boxCoord [] i = [] := rfl

theorem boxCoord_cons (n : Nat) (ext : List Nat) (i : Nat) : boxCoord (n :: ext) i = i % n :: boxCoord ext (i / n) := by
  have fold (ext l : List Nat) (i : Nat) : (ext.foldl (fun (acc : List Nat × Nat) n => (acc.1 ++ [acc.2 % n], acc.2 / n)) (l, i)).1 = l ++ boxCoord ext i := by
    induction ext generalizing l i with
    | nil => simp
    | cons n ext ih =>
      unfold boxCoord
      rw [List.foldl_cons, List.foldl_cons, ih, ih, List.append_assoc, List.nil_append]
  exact fold ext [i % n] (i / n)

@[simp] theorem length_boxCoord (ext : List Nat) (i : Nat) : (boxCoord ext i).length = ext.length := by
  induction ext generalizing i with
  | nil => rfl
  | cons n ext ih => rw [boxCoord_cons, List.length_cons, ih, List.length_cons]

/-- The elements of a box have different coordinates. -/
theorem boxCoord_inj (ext : List Nat) (i j : Nat) (hi : i < volume ext) (hj : j < volume ext) (h : boxCoord ext i = boxCoord ext j) : i = j := by
  induction ext generalizing i j with
  | nil => rw [volume_nil] at hi hj; omega
  | cons n ext ih =>
    rw [volume_cons] at hi hj
    rw [boxCoord_cons, boxCoord_cons, List.cons.injEq] at h
    have quotients := ih (i / n) (j / n) (Nat.div_lt_of_lt_mul hi) (Nat.div_lt_of_lt_mul hj) h.2
    rw [← Nat.mod_add_div i n, ← Nat.mod_add_div j n, h.1, quotients]

/-- Coordinates of at most six dimensions differ after an origin is added to them. -/
theorem addCoord_inj (org c d : List Nat) (hc : c.length ≤ 6) (hd : d.length = c.length) (h : addCoord org c = addCoord org d) : c = d := by
  refine List.ext_getElem hd.symm fun k hk hk' => ?_
  have sums := (List.map_inj_left.mp h) k (List.mem_range.mpr (by omega))
  rw [List.getD_eq_getElem _ _ hk, List.getD_eq_getElem _ _ hk'] at sums
  omega

/-! ## What a COPY and a WINDOW move -/

/-- The elements of a move that takes one for each position of its box. -/
theorem DmaReq.rows_of_item (r : DmaReq) (a b : Side) (x : Box) (idx : List Index) (f : List Nat → Item) (h : ∀ c, r.item a b x idx c = some (f c)) :
    (r.rows a b x idx).flatten = (List.range (volume b.ext)).map (fun i => f (boxCoord b.ext i)) := by
  unfold DmaReq.rows DmaReq.rowsAt
  simp only [if_true, h, List.filterMap_eq_map']
  rw [← List.map_flatten, flatten_chunks _ (by omega)]

/-- A move that takes an element for each position of its box, and puts it at that position, reaches each destination once. -/
theorem DmaReq.rows_destinations (r : DmaReq) (a b : Side) (x : Box) (idx : List Index) (f : List Nat → Item) (h : ∀ c, r.item a b x idx c = some (f c))
    (dst : ∀ c, (f c).dst = addCoord b.org c) (few : b.ext.length ≤ 6) :
    ((r.rows a b x idx).flatten.map (·.dst)).Nodup ∧ (r.rows a b x idx).flatten.length = volume b.ext := by
  rw [r.rows_of_item a b x idx f h, List.map_map]
  refine ⟨List.Nodup.map_on (fun i hi j hj same => ?_) List.nodup_range, by simp⟩
  simp only [Function.comp_apply, dst] at same
  exact boxCoord_inj b.ext i j (List.mem_range.mp hi) (List.mem_range.mp hj) (addCoord_inj b.org _ _ (by simpa using few) (by simp) same)

/-- The source position of an element of a COPY. -/
def Box.copySrc (x : Box) (a : Side) (c : List Nat) : List Nat :=
  addCoord a.org ((List.range 6).map (fun k => match (List.range 6).find? (fun j => x.permOf j == k) with
    | some j => c.getD j 0
    | none => 0))

theorem DmaReq.item_copy (r : DmaReq) (a b : Side) (x : Box) (idx : List Index) (c : List Nat) (h : r.op = 0) :
    r.item a b x idx c = some { dst := addCoord b.org c, src := some (x.copySrc a c) } := by
  unfold DmaReq.item
  rw [h]
  rfl

theorem DmaReq.item_window (r : DmaReq) (a b : Side) (x : Box) (idx : List Index) (c : List Nat) (h : r.op = 4) :
    r.item a b x idx c = some { dst := addCoord b.org c, src := r.win.bind (fun w => windowSrc a w (addCoord b.org c)) } := by
  unfold DmaReq.item
  rw [h]
  cases r.win <;> rfl

/-- A window takes a zero where the source position lies outside the tensor (07 R252). -/
theorem windowSrc_eq_none (a : Side) (w : WindowRec) (c : List Nat) :
    windowSrc a w c = none ↔
      let n := a.bound 0
      let px : Int := ((c.getD 1 0 * w.sx + c.getD 0 0 / n % w.kx * w.dx : Nat) : Int) - w.pxl
      let py : Int := ((c.getD 2 0 * w.sy + c.getD 0 0 / n / w.kx * w.dy : Nat) : Int) - w.pyl
      px < 0 ∨ a.bound 1 ≤ px ∨ py < 0 ∨ a.bound 2 ≤ py := by
  unfold windowSrc
  dsimp only
  split
  · next inside => simp only [reduceCtorEq, false_iff]; omega
  · next outside => simp only [true_iff]; omega

end Sys2Proof.Machine
end

section
/-! SUPPORT. The end of a DMA descriptor (07 R247): it leaves its engine, its signal reaches its counter, and every line of memory stays. -/

namespace Sys2Proof.Machine

theorem exec_dmaComplete (c : Fin 144) (e : Fin 2) (seq : BitVec 32) (s : State) : exec (.dmaComplete c e seq) s = execDmaComplete c e seq s := rfl

/-! ## Running descriptors -/

theorem State.dmaRun_seq {s : State} {c e : Nat} {seq : BitVec 32} {run : DmaRun} (h : s.dmaRun c e seq = some run) : run.req.seq = seq := by
  simpa using List.find?_some h

theorem State.dmaRun_congr {s t : State} {c : Nat} (h : (t.core c).dma = (s.core c).dma) (e : Nat) (seq : BitVec 32) : t.dmaRun c e seq = s.dmaRun c e seq := by
  unfold State.dmaRun
  rw [h]

theorem seq_updateRun (seq : BitVec 32) (f : DmaRun → DmaRun) (req : ∀ y, (f y).req = y.req) (y : DmaRun) :
    (if y.req.seq = seq then f y else y).req.seq = y.req.seq := by
  split
  · rw [req]
  · rfl

/-- An update of the running descriptors of one number that keeps their requests. -/
theorem State.dmaRun_modRun (s : State) (c : Fin 144) (e : Nat) (seq : BitVec 32) (f : DmaRun → DmaRun) (req : ∀ y, (f y).req = y.req) :
    (s.modRun c e seq f).dmaRun c e seq = (s.dmaRun c e seq).map f := by
  unfold State.dmaRun State.modRun
  rw [State.core_modCore _ _ _ c.isLt, vget_vmod _ _ _ _ _ rfl, if_pos rfl]
  simp only [List.find?_map, Function.comp_def, seq_updateRun seq f req]
  cases found : (vget (s.core c).dma e DmaEngine.reset).running.find? (fun y => y.req.seq == seq) with
  | none => rfl
  | some y => simp [State.dmaRun_seq found]

theorem State.line_modRun (s : State) (c e : Nat) (seq : BitVec 32) (f : DmaRun → DmaRun) : (s.modRun c e seq f).line = s.line := s.line_setCore c _ rfl rfl

/-! ## What the end of a descriptor does -/

/-- A core without the running descriptors of one number. -/
def Core.dropRun (x : Core) (e : Nat) (seq : BitVec 32) : Core :=
  { x with dma := vmod x.dma e (fun d => { d with running := d.running.filter (fun z => z.req.seq != seq) }) }

theorem Core.dropRun_engine (x : Core) (e : Nat) (seq : BitVec 32) :
    vget (x.dropRun e seq).dma e DmaEngine.reset =
      { vget x.dma e DmaEngine.reset with running := (vget x.dma e DmaEngine.reset).running.filter (fun z => z.req.seq != seq) } :=
  (vget_vmod _ _ _ _ _ rfl).trans (if_pos rfl)

/-- An update of the descriptors that leave does not show in those that stay. -/
theorem State.dropRun_modRun (s : State) (c : Fin 144) (e : Nat) (seq : BitVec 32) (f : DmaRun → DmaRun) (req : ∀ y, (f y).req = y.req) :
    vget (((s.modRun c e seq f).core c).dropRun e seq).dma e DmaEngine.reset = vget ((s.core c).dropRun e seq).dma e DmaEngine.reset := by
  rw [Core.dropRun_engine, Core.dropRun_engine]
  unfold State.modRun
  rw [State.core_modCore _ _ _ c.isLt, vget_vmod _ _ _ _ _ rfl, if_pos rfl]
  simp only [List.filter_map, Function.comp_def, seq_updateRun seq f req, DmaEngine.mk.injEq, true_and, and_true]
  refine (List.map_congr_left fun y hy => if_neg ?_).trans (List.map_id _)
  simpa using (List.mem_filter.mp hy).2

/-- A descriptor leaves its engine and the scans and combines that wait for the Grist. -/
def State.dmaLeave (s : State) (c e : Nat) (seq : BitVec 32) : State :=
  let s := s.modCore c (fun x => x.dropRun e seq)
  { s with grist := { s.grist with pending := s.grist.pending.filter (· != (c, e, seq)) } }

/-- The signal of a descriptor. -/
def State.dmaSignal (s : State) (r : DmaReq) : State :=
  if r.inc = 0 then s else (State.counterAdd { s with sync := { s.sync with dmaSignals := s.sync.dmaSignals + 1 } } r.counter.toNat r.inc).bump 0x5060 9 1

/-- A core that knows of an error of an asynchronous unit. -/
def Core.dmaError (x : Core) : Core := { x with async := x.async ||| 2 }

/-- The error that a descriptor ends with. -/
def State.dmaMark (s : State) (c : Nat) (code : BitVec 16) : State := if code = 0 then s else (s.modCore c Core.dmaError).bump 0x4040 2 1

theorem State.casReturn_other (s : State) (run : DmaRun) (h : run.req.op ≠ 5) : s.casReturn run = s := by
  unfold State.casReturn
  split
  · simp [h]
  · rfl

/-- The end of a descriptor without a status record, which is no ATOMIC. -/
theorem State.dmaEnd_eq (s : State) (c e : Nat) (run : DmaRun) (status : run.req.status = 0) (other : run.req.op ≠ 5) :
    s.dmaEnd c e run = (((s.dmaLeave c e run.req.seq).dmaSignal run.req).bump 0x5060 6 1).dmaMark c run.code := by
  unfold State.dmaEnd
  rw [s.casReturn_other run other]
  dsimp only
  rw [if_pos status]
  rfl

theorem State.counterAdd_cores (s : State) (n : Nat) (a : Int) : (s.counterAdd n a).cores = s.cores := by
  simp [State.counterAdd, State.setCounter, apply_ite State.cores]

theorem State.dmaSignal_cores (s : State) (r : DmaReq) : (s.dmaSignal r).cores = s.cores := by
  unfold State.dmaSignal
  split
  · rfl
  · exact State.counterAdd_cores _ _ _

section Cores
variable (s : State) (c : Fin 144) (e : Nat) (run : DmaRun) (status : run.req.status = 0) (other : run.req.op ≠ 5)
include status other

theorem State.dmaEnd_core :
    (s.dmaEnd c e run).core c = if run.code = 0 then (s.core c).dropRun e run.req.seq else ((s.core c).dropRun e run.req.seq).dmaError := by
  have left : (((s.dmaLeave c e run.req.seq).dmaSignal run.req).bump 0x5060 6 1).core c = (s.core c).dropRun e run.req.seq :=
    (congrArg (fun v => vget v c.val Core.reset) (State.dmaSignal_cores _ _)).trans (s.core_modCore c (fun x => x.dropRun e run.req.seq) c.isLt)
  rw [s.dmaEnd_eq c e run status other]
  unfold State.dmaMark
  split
  · exact left
  · exact (State.core_modCore _ c _ c.isLt).trans (congrArg Core.dmaError left)

theorem State.dmaEnd_core_ne (k : Nat) (hk : k ≠ c) : (s.dmaEnd c e run).core k = s.core k := by
  have left : (((s.dmaLeave c e run.req.seq).dmaSignal run.req).bump 0x5060 6 1).core k = s.core k :=
    (congrArg (fun v => vget v k Core.reset) (State.dmaSignal_cores _ _)).trans (s.core_modCore_ne c k (fun x => x.dropRun e run.req.seq) hk)
  rw [s.dmaEnd_eq c e run status other]
  unfold State.dmaMark
  split
  · exact left
  · exact (State.core_modCore_ne _ c k _ hk).trans left

theorem State.dmaEnd_counter : (s.dmaEnd c e run).counter run.req.counter.toNat =
    if run.req.inc ≠ 0 ∧ s.counterOwner run.req.counter.toNat < 8 then (s.counter run.req.counter.toNat).add run.req.inc else s.counter run.req.counter.toNat := by
  have marked (t : State) (code : BitVec 16) : (t.dmaMark c code).sync = t.sync := by
    unfold State.dmaMark
    split <;> rfl
  rw [s.dmaEnd_eq c e run status other, State.counter_of_sync _ _ (marked _ _)]
  show ((s.dmaLeave c e run.req.seq).dmaSignal run.req).counter _ = _
  unfold State.dmaSignal
  split
  · next still => exact (if_neg fun h => h.1 still).symm
  · next moves =>
    refine (State.counter_counterAdd _ _ _ _ run.req.counter.isLt run.req.counter.isLt).trans ?_
    simp only [true_and, moves, ne_eq, not_false_eq_true]
    rfl

end Cores

/-! ## Lines of memory -/

/-- A count in an object that places no window keeps every line. -/
theorem State.line_count (s : State) (o m n : Nat) (ho : o ∉ placeMembers.map (·.1)) (hm : m < 256) : (s.bump o m n).line = s.line := by
  refine (s.line_bump o m n fun x hx same => ho (List.mem_map.mpr ⟨x, hx, ?_⟩)).2
  have small : ∀ x ∈ placeMembers, x.2 < 256 := by decide
  have := small x hx
  omega

theorem State.line_counterAdd (s : State) (n : Nat) (a : Int) : (s.counterAdd n a).line = s.line := by
  have counts (t : State) (m : Nat) (hm : m < 256) : (t.bump 0x5040 m 1).line = t.line := t.line_count 0x5040 m 1 (by decide) hm
  have adds (t : State) (x : Counter) : ((t.setCounter n x).bump 0x5040 3 1).line = t.line :=
    (counts _ 3 (by decide)).trans (State.line_of_places rfl rfl fun _ _ => rfl).2
  unfold State.counterAdd
  dsimp only
  split
  · split
    · rw [counts _ 5 (by decide), adds, counts _ 2 (by decide)]
    · split
      · rw [counts _ 6 (by decide), adds, counts _ 2 (by decide)]
      · rw [adds, counts _ 2 (by decide)]
  · rw [counts _ 4 (by decide), counts _ 2 (by decide)]

theorem State.line_dmaEnd (s : State) (c e : Nat) (run : DmaRun) (status : run.req.status = 0) (other : run.req.op ≠ 5) : (s.dmaEnd c e run).line = s.line := by
  have left : (s.dmaLeave c e run.req.seq).line = s.line :=
    (State.line_of_places rfl rfl fun _ _ => rfl).2.trans (s.line_setCore c ((s.core c).dropRun e run.req.seq) rfl rfl)
  have signal (t : State) : (t.dmaSignal run.req).line = t.line := by
    unfold State.dmaSignal
    split
    · rfl
    · rw [State.line_count _ 0x5060 9 1 (by decide) (by decide), State.line_counterAdd]
      exact (State.line_of_places rfl rfl fun _ _ => rfl).2
  have marked (t : State) : (t.dmaMark c run.code).line = t.line := by
    unfold State.dmaMark
    split
    · rfl
    · rw [State.line_count _ 0x4040 2 1 (by decide) (by decide)]
      exact t.line_setCore c _ rfl rfl
  rw [s.dmaEnd_eq c e run status other, marked, State.line_count _ 0x5060 6 1 (by decide) (by decide), signal, left]

/-! ## DMA_COMPLETE -/

section Complete
variable {s : State} {c : Fin 144} {e : Fin 2} {seq : BitVec 32} {run : DmaRun} (runs : s.dmaRun c e seq = some run)
include runs

theorem exec_dmaComplete_stays (h : run.waiting ≠ 0 ∨ (s.core c).fenced = true) : exec (.dmaComplete c e seq) s = .next s := by
  rw [exec_dmaComplete]
  unfold execDmaComplete
  rw [runs]
  exact congrArg Host.Outcome.next (if_pos h)

theorem exec_dmaComplete_ends (unfenced : (s.core c).fenced = false) (resolved : run.waiting = 0) (moved : run.moved = true) :
    exec (.dmaComplete c e seq) s = .next (s.dmaEnd c e run) := by
  rw [exec_dmaComplete]
  unfold execDmaComplete
  simp [runs, unfenced, resolved, moved]

/-- A SCAN in its turn is served, and ends when that has resolved it. -/
theorem exec_dmaComplete_scans {run' : DmaRun} (unfenced : (s.core c).fenced = false) (resolved : run.waiting = 0) (moved : run.moved = false) (scan : run.req.op = 6)
    (turn : s.gristHead (coreQuarter c) = some (c.val, e.val, seq)) (online : s.offline (linesIn run.req.src run.req.boxLen) s.missChan = false)
    (served : (s.serveScan c e run.req).dmaRun c e seq = some run') (moved' : run'.moved = true) (resolved' : run'.waiting = 0) :
    exec (.dmaComplete c e seq) s = .next ((s.serveScan c e run.req).dmaEnd c e run') := by
  rw [exec_dmaComplete]
  unfold execDmaComplete
  simp [runs, unfenced, resolved, moved, scan, online, turn, served, moved', resolved']

end Complete

end Sys2Proof.Machine
end

section
/-! SUPPORT. A SCAN that the Grist serves (07 R262, R263): its record in a line of local memory, and what it leaves. -/

namespace Sys2Proof.Machine

/-- Bytes written through the Tun to one line of local memory read back, and change nothing but local memory. -/
theorem State.tunBytes_local (s : State) (a : Nat) (b : List Byte) (bad : Nat → Bool) (cls k o : Nat) (one : linesIn a b.length = [a / 64])
    (hh : s.home (64 * (a / 64)) = some (.localMem k o)) :
    s.SameButLocal (s.tunBytes a b bad cls) ∧ (s.tunBytes a b bad cls).view a b.length = b := by
  obtain ⟨same, -, written⟩ := s.tunWrite_local (a / 64) (pieceLine a b (a / 64)) (pieceMask a b (a / 64)) (bad (a / 64)) cls k o hh
  rw [State.tunBytes_eq, one]
  refine ⟨same, ?_⟩
  rw [State.view_eq_map]
  refine List.ext_getElem (by simp) fun i hi hi' => ?_
  have here : (a + i) / 64 = a / 64 := by
    have mem : (a + i) / 64 ∈ linesIn a b.length := (mem_linesIn _ _ _).mpr ⟨by omega, by omega, by omega⟩
    simpa [one] using mem
  obtain ⟨takes, value⟩ := pieceMask_bit a b (a / 64) ((a + i) % 64) (by rw [one]; exact List.mem_singleton_self _) (by omega)
  have taken := takes.mpr ⟨by omega, by omega⟩
  rw [List.getElem_map, List.getElem_range, State.byte, here]
  refine (congrArg (lineByte · _) written).trans ?_
  rw [lineByte_mergeLine _ _ _ _ (by omega), if_pos taken, value taken, show 64 * (a / 64) + (a + i) % 64 - a = i by omega, List.getD_eq_getElem _ _ hi']

theorem length_gristRecord (value length poly : Nat) (poisoned : Bool) : (gristRecord value length poly poisoned).length = 32 := by simp [gristRecord]

/-- The record of a SCAN that continues none: the CRC of its bytes, their number and its polynomial. -/
def State.scanRecord (s : State) (r : DmaReq) : List Byte :=
  gristRecord (if r.boxLen = 0 then 0 else crc r.subop (s.view r.src r.boxLen)) r.boxLen r.subop false

/-- The state in which the Grist has written the record of a SCAN. -/
def State.scanWritten (s : State) (r : DmaReq) : State :=
  (s.touchRange r.src r.boxLen r.locality).tunBytes r.dst (s.scanRecord r) (fun _ => false) r.locality

/-- What the Grist counts of a SCAN of clean bytes (07 R266). -/
def State.countScan (s : State) (bytes : Nat) : State := (((s.bump 0x4050 0 1).bump 0x4050 2 bytes).bump 0x4050 3 0).bump 0x4040 3 32

theorem State.countScan_core (s : State) (n k : Nat) : (s.countScan n).core k = s.core k := by simp [State.countScan, State.core]

theorem State.line_countScan (s : State) (n : Nat) : (s.countScan n).line = s.line := by
  unfold State.countScan
  rw [State.line_count _ 0x4040 3 32 (by decide) (by decide), State.line_count _ 0x4050 3 0 (by decide) (by decide), State.line_count _ 0x4050 2 n (by decide) (by decide),
    State.line_count _ 0x4050 0 1 (by decide) (by decide)]

/-- A SCAN of clean bytes that continues none, where no error waits. -/
theorem State.serveScan_clean (s : State) (c e : Nat) (r : DmaReq) (free : s.errorFree) (fresh : r.subop < 3) (clean : s.poisonedIn r.src r.boxLen = []) :
    s.serveScan c e r = ((s.scanWritten r).countScan r.boxLen).modRun c e r.seq (fun y => { y with moved := true }) := by
  have reads := State.ReadsAs.touchRange free r.src r.boxLen r.locality
  have first : r.subop.testBit 2 = false := Nat.testBit_lt_two_pow (by omega)
  have poly : r.subop % 4 = r.subop := Nat.mod_eq_of_lt (by omega)
  have empty : (s.view r.src r.boxLen).isEmpty = decide (r.boxLen = 0) := by
    rw [Bool.eq_iff_iff, List.isEmpty_iff, ← List.length_eq_zero_iff, State.length_view, decide_eq_true_iff]
  unfold State.serveScan
  simp only [first, poly, Bool.false_and, if_false, Bool.false_eq_true, reads.view, reads.poisonedIn _ _ clean, empty, List.append_nil, List.isEmpty_nil,
    Bool.not_true, Bool.or_false, if_true, Nat.add_zero, decide_eq_true_iff]
  rfl

section Served
variable (s : State) (c : Fin 144) (e : Nat) (r : DmaReq) (free : s.errorFree) (fresh : r.subop < 3) (clean : s.poisonedIn r.src r.boxLen = [])
  (aligned : r.dst % 32 = 0) (place : ∃ k o, s.home (64 * (r.dst / 64)) = some (.localMem k o))
include free aligned place

theorem State.scanWritten_record :
    (s.touchRange r.src r.boxLen r.locality).SameButLocal (s.scanWritten r) ∧ (s.scanWritten r).view r.dst 32 = s.scanRecord r := by
  obtain ⟨k, o, hh⟩ := place
  have size : (s.scanRecord r).length = 32 := length_gristRecord _ _ _ _
  have one : linesIn r.dst (s.scanRecord r).length = [r.dst / 64] := by
    rw [size]
    unfold linesIn ceilDiv
    rw [if_neg (by decide), show (r.dst % 64 + 32 + 64 - 1) / 64 = 1 by omega]
    rfl
  have written := State.tunBytes_local (s.touchRange r.src r.boxLen r.locality) r.dst (s.scanRecord r) (fun _ => false) r.locality k o one
    (by rw [(State.ReadsAs.touchRange free r.src r.boxLen r.locality).home]; exact hh)
  rwa [size] at written

theorem State.scanWritten_dma (n k : Nat) : (((s.scanWritten r).countScan n).core k).dma = (s.core k).dma := by
  obtain ⟨m, z, written⟩ := (State.scanWritten_record s r free aligned place).1.2 k
  rw [State.countScan_core, written]
  exact congrArg (fun v => (v.core k).dma) (s.touchRange_outsideMem r.src r.boxLen r.locality)

include fresh clean

theorem State.serveScan_dmaRun : (s.serveScan c e r).dmaRun c e r.seq = (s.dmaRun c e r.seq).map (fun y => { y with moved := true }) := by
  rw [s.serveScan_clean c e r free fresh clean, State.dmaRun_modRun _ c e r.seq (fun y => { y with moved := true }) fun _ => rfl]
  exact congrArg _ (State.dmaRun_congr (State.scanWritten_dma s r free aligned place r.boxLen c) e r.seq)

theorem State.serveScan_view : (s.serveScan c e r).view r.dst 32 = s.scanRecord r := by
  have line : (s.serveScan c e r).line = (s.scanWritten r).line := by
    rw [s.serveScan_clean c e r free fresh clean, State.line_modRun, State.line_countScan]
  exact (State.view_congr (fun l => by rw [line]) _ _).trans (State.scanWritten_record s r free aligned place).2

/-- A scan that has been served leaves of the running descriptors what its own end would have left. -/
theorem State.serveScan_engine : vget (((s.serveScan c e r).core c).dropRun e r.seq).dma e DmaEngine.reset = vget ((s.core c).dropRun e r.seq).dma e DmaEngine.reset := by
  rw [s.serveScan_clean c e r free fresh clean, State.dropRun_modRun _ c e r.seq (fun y => { y with moved := true }) fun _ => rfl, Core.dropRun_engine, Core.dropRun_engine,
    State.scanWritten_dma s r free aligned place r.boxLen c]

end Served

end Sys2Proof.Machine
end

section
/-! PROOF of O29. -/

namespace Sys2Proof.Machine

/-- Settles O29: a box names each coordinate once and an origin keeps them apart; the end of a descriptor touches its engine, its counter and ASYNC alone; and the
record that a served SCAN wrote is still there at its end. -/
theorem dmaMoves : Obligations.DmaMoves := by
  unfold Obligations.DmaMoves
  refine ⟨fun r a b x few => ?_, fun s c e seq run runs => ?_⟩
  · have copies := fun h c => r.item_copy a b x [] c h
    have expands := fun h c => r.item_window a b x [] c h
    refine ⟨?_, fun h i hi => ?_, fun h w hw i hi => ?_⟩
    · rintro (h | h)
      · exact r.rows_destinations a b x [] _ (copies h) (fun _ => by rfl) few
      · exact r.rows_destinations a b x [] _ (expands h) (fun _ => by rfl) few
    · rw [r.rows_of_item a b x [] _ (copies h)] at hi
      obtain ⟨k, -, rfl⟩ := List.mem_map.mp hi
      exact Option.some_ne_none _
    · rw [r.rows_of_item a b x [] _ (expands h), hw] at hi
      obtain ⟨k, -, rfl⟩ := List.mem_map.mp hi
      exact windowSrc_eq_none a w _
  · obtain rfl := State.dmaRun_seq runs
    refine ⟨exec_dmaComplete_stays runs, fun unfenced resolved moved status other => ?_, fun unfenced resolved moved good scan fresh status _ turn online free clean aligned place => ?_⟩
    · refine ⟨_, exec_dmaComplete_ends runs unfenced resolved moved, ?_⟩
      dsimp only
      rw [s.dmaEnd_core c e run status other]
      refine ⟨?_, ?_, ?_, s.dmaEnd_core_ne c e run status other, ?_, s.dmaEnd_counter c e run status other⟩
      · split <;> exact Core.dropRun_engine _ _ _
      · split <;> rfl
      · split <;> rfl
      · split <;> rfl
    · have served := (State.serveScan_dmaRun s c e run.req free fresh clean aligned place).trans (congrArg (Option.map _) runs)
      have other : run.req.op ≠ 5 := by rw [scan]; decide
      refine ⟨_, exec_dmaComplete_scans runs unfenced resolved moved scan turn online served rfl resolved, ?_, ?_⟩
      · dsimp only
        rw [State.dmaEnd_core (s.serveScan c e run.req) c e { run with moved := true } status other, if_pos good]
        exact (State.serveScan_engine s c e run.req free fresh clean aligned place).trans (Core.dropRun_engine _ _ _)
      · have kept := State.line_dmaEnd (s.serveScan c e run.req) c e { run with moved := true } status other
        exact (State.view_congr (fun l => by rw [kept]) _ _).trans (State.serveScan_view s c e run.req free fresh clean aligned place)

end Sys2Proof.Machine
end

section
/-! SUPPORT. What the traffic that a link carries for this device leaves of the state (08 R270, R271, R287): control words, freed buffers, and packets that this device injects. -/

namespace Sys2Proof.Machine

/-! ## Reading ports back -/

@[simp] theorem State.port_emit (s : State) (x : Output) (p : Nat) : (s.emit x).port p = s.port p := rfl
@[simp] theorem State.port_bump (s : State) (o m n p : Nat) : (s.bump o m n).port p = s.port p := rfl
@[simp] theorem State.port_reply (s : State) (o m code p : Nat) : (s.reply o m code).port p = s.port p := rfl

theorem State.setPort_port (s : State) (p : Nat) : s.setPort p (s.port p) = s := by
  unfold State.setPort State.port
  rw [vset_vget]

/-- An update of a port, seen from any port. -/
theorem State.port_modPort_any (s : State) (p q : Nat) (f : Port → Port) (hq : q < 12) : (s.modPort p f).port q = if q = p then f (s.port q) else s.port q := by
  split
  · next h => subst h; exact s.port_modPort q f hq
  · next h => exact s.port_modPort_ne p q f h

/-! ## What stands -/

/-- A port but for its queues and buffers and the codewords that it fills. -/
def Port.standing (x : Port) : Port :=
  { x with rxUsed := Port.reset.rxUsed, rxOld := Port.reset.rxOld, injQ := Port.reset.injQ, throttled := false, retry := [], txCw := 0, txFill := 0 }

/-- The state but for those parts of its ports, the packets held for an injection queue, the objects and the messages. -/
def State.standing (s : State) : State :=
  { s with fabric := { s.fabric with ports := s.fabric.ports.map Port.standing, held := [] }, obj := [], out := [] }

theorem State.standing_port (s : State) (p : Nat) : (s.port p).standing = s.standing.port p := by
  show (s.fabric.ports.toList.getD p Port.reset).standing = (s.fabric.ports.map Port.standing).toList.getD p Port.reset.standing
  rw [Vector.toList_map, List.getD_map]

theorem State.setPort_standing (s : State) (p : Nat) (x : Port) (h : x.standing = (s.port p).standing) : (s.setPort p x).standing = s.standing := by
  have ports : (vset s.fabric.ports p x).map Port.standing = s.fabric.ports.map Port.standing := by
    unfold vset
    split
    · next hp =>
      rw [Vector.map_set, h, State.port, vget_eq_getElem _ _ _ hp]
      exact Vector.ext fun i hi => by rw [Vector.getElem_set]; split <;> simp_all
    · rfl
  exact congrArg (fun v => { s.standing with fabric := { s.standing.fabric with ports := v } }) ports

/-- The statistics in which the traffic of this device counts: NACKs sent, responses discarded, answers sent (08 Table 12). -/
def trafficTallies : List Nat := [0x503004, 0x503009, 0x506005]

/-- State `t` is state `s` after traffic of this device: what stands is left, so are all objects but the tallies, and no message is taken back. -/
structure State.Sent (s t : State) : Prop where
  standing : t.standing = s.standing
  objects : ∀ o m, 256 * o + m ∉ trafficTallies → t.objGet o m = s.objGet o m
  out : s.out <+: t.out

namespace State.Sent

theorem refl (s : State) : s.Sent s := ⟨rfl, fun _ _ _ => rfl, List.prefix_rfl⟩

theorem trans {s t u : State} (h : s.Sent t) (h' : t.Sent u) : s.Sent u :=
  ⟨h'.standing.trans h.standing, fun o m hm => (h'.objects o m hm).trans (h.objects o m hm), h.out.trans h'.out⟩

theorem each {α : Type} {s t : State} (h : s.Sent t) (l : List α) (f : State → α → State) (hf : ∀ (u : State) (a : α), u.Sent (f u a)) : s.Sent (t.each l f) :=
  State.each_invariant (P := s.Sent) t l f h fun u hu a _ => hu.trans (hf u a)

theorem modPort (s : State) (p : Nat) (f : Port → Port) (h : (f (s.port p)).standing = (s.port p).standing) : s.Sent (s.modPort p f) :=
  ⟨s.setPort_standing p _ h, fun _ _ _ => rfl, List.prefix_rfl⟩

theorem emit (s : State) (x : Output) : s.Sent (s.emit x) := ⟨rfl, fun _ _ _ => rfl, List.prefix_append _ _⟩

theorem bump (s : State) (o m n : Nat) (h : 256 * o + m ∈ trafficTallies) : s.Sent (s.bump o m n) :=
  ⟨rfl, fun o' m' h' => State.objGet_objSet_ne s o m _ o' m' fun same => h' (same ▸ h), List.prefix_rfl⟩

theorem held (s : State) (l : List Packet) : s.Sent (s.modFabric (fun f => { f with held := l })) := ⟨rfl, fun _ _ _ => rfl, List.prefix_rfl⟩

/-! ## What traffic keeps -/

section
variable {s t : State} (h : s.Sent t)
include h

theorem port (p : Nat) : (t.port p).standing = (s.port p).standing := by
  rw [State.standing_port, State.standing_port, h.standing]

theorem state (p : Nat) : (t.port p).state = (s.port p).state := (congrArg Port.state (h.port p) :)
theorem credits (p : Nat) : (t.port p).credits = (s.port p).credits := (congrArg Port.credits (h.port p) :)
theorem report (p : Nat) : (t.port p).report = (s.port p).report := (congrArg Port.report (h.port p) :)
theorem txQ (p : Nat) : (t.port p).txQ = (s.port p).txQ := (congrArg Port.txQ (h.port p) :)
theorem txOut (p : Nat) : (t.port p).txOut = (s.port p).txOut := (congrArg Port.txOut (h.port p) :)
theorem detour (p : Nat) : (t.port p).detour = (s.port p).detour := (congrArg Port.detour (h.port p) :)
theorem lostHeld (p : Nat) : (t.port p).lostHeld = (s.port p).lostHeld := (congrArg Port.lostHeld (h.port p) :)
theorem carries (p : Nat) : (t.port p).carries = (s.port p).carries := by unfold Port.carries; rw [h.state]
theorem sparge : t.fabric.sparge = s.fabric.sparge := congrArg (fun u => u.fabric.sparge) h.standing
theorem requests : t.fabric.requests = s.fabric.requests := congrArg (fun u => u.fabric.requests) h.standing
theorem waiting : t.fabric.waiting = s.fabric.waiting := congrArg (fun u => u.fabric.waiting) h.standing
theorem cores : t.cores = s.cores := congrArg (fun u => u.cores) h.standing
theorem mem : t.mem = s.mem := congrArg (fun u => u.mem) h.standing
theorem esc : t.esc = s.esc := congrArg (fun u => u.esc) h.standing
theorem dev : t.dev = s.dev := congrArg (fun u => u.dev) h.standing
theorem resil : t.resil = s.resil := congrArg (fun u => u.resil) h.standing
theorem sync : t.sync = s.sync := congrArg (fun u => u.sync) h.standing

theorem mem_out {x : Output} (hx : x ∈ s.out) : x ∈ t.out := h.out.subset hx

end

/-! ## What is traffic -/

theorem word (s : State) (p kind value : Nat) : s.Sent (s.word p kind value) := (modPort s p _ rfl).trans (emit _ _)

theorem freeBuffer (s : State) (r v : Nat) : s.Sent (s.freeBuffer r v) := by
  unfold State.freeBuffer
  dsimp only
  split
  · exact modPort s r (fun x => { x with rxOld := vset x.rxOld v (vget x.rxOld v 0 - 1) }) rfl
  · split
    · exact (modPort s r (fun x => { x with rxUsed := vset x.rxUsed v (vget x.rxUsed v 0 - 1) }) rfl).trans (word _ _ _ _)
    · exact refl s

theorem throttleUpdate (s : State) (p : Nat) : s.Sent (s.throttleUpdate p) := by
  unfold State.throttleUpdate
  exact modPort s p _ rfl

theorem inject (s : State) (p : Packet) : s.Sent (s.inject p) := by
  unfold State.inject
  dsimp only
  split
  · exact emit _ _
  · split
    · exact bump _ _ _ _ (by decide)
    · exact emit _ _
  · split
    · exact (modPort s _ _ rfl).trans (throttleUpdate _ _)
    · exact held s _

theorem respond (s : State) (q : Packet) (type status : Nat) (lines : List Line) (poison : List Bool) (addr : BitVec 42) (final : Bool) :
    s.Sent (s.respond q type status lines poison addr final) := by
  have counted : s.Sent (if final then s.bump 0x5060 5 1 else s) := by
    split
    · exact bump _ _ _ _ (by decide)
    · exact refl s
  unfold State.respond
  dsimp only
  generalize (if final then s.bump 0x5060 5 1 else s) = t at counted
  refine counted.trans (trans ?_ (inject _ _))
  split
  · exact bump _ _ _ _ (by decide)
  · exact refl t

theorem answerNack (s : State) (k : Packet) (status : Nat) : s.Sent (s.answerNack k status) := (bump s _ _ _ (by decide)).trans (inject _ _)

theorem loseRetry (s : State) (p : Nat) : s.Sent (s.loseRetry p) := by
  refine (modPort s p _ rfl).each _ _ fun u k => ?_
  split
  · exact bump _ _ _ _ (by decide)
  · exact answerNack u k 8

end State.Sent

/-! ## Retry buffers -/

/-- A control word goes to the end of its port's retry buffer. -/
theorem State.word_retry (s : State) (q p kind value : Nat) : ∃ l, ((s.word q kind value).port p).retry = (s.port p).retry ++ l := by
  show ∃ l, ((s.modPort q (fun x => x.fill 8 (.word kind value))).port p).retry = _
  by_cases hp : p < 12
  · rw [s.port_modPort_any q p _ hp]
    split
    · exact ⟨_, rfl⟩
    · exact ⟨[], (List.append_nil _).symm⟩
  · exact ⟨[], by simp [State.port, vget, hp]⟩

theorem State.freeBuffer_retry (s : State) (r v p : Nat) : ∃ l, ((s.freeBuffer r v).port p).retry = (s.port p).retry ++ l := by
  have kept (x : Port) (h : x.retry = (s.port r).retry) : ((s.setPort r x).port p).retry = (s.port p).retry := by
    by_cases hp : p < 12
    · have := s.port_modPort_any r p (fun _ => x) hp
      rw [State.modPort] at this
      rw [this]
      split
      · next same => rw [h, same]
      · rfl
    · simp [State.port, vget, hp]
  unfold State.freeBuffer
  dsimp only
  split
  · refine ⟨[], ?_⟩
    rw [List.append_nil]
    exact kept _ rfl
  · split
    · obtain ⟨l, h⟩ := (s.setPort r { s.port r with rxUsed := vset (s.port r).rxUsed v (vget (s.port r).rxUsed v 0 - 1) }).word_retry r p 2 v
      exact ⟨l, h.trans (congrArg (· ++ l) (kept _ rfl))⟩
    · exact ⟨[], (List.append_nil _).symm⟩

end Sys2Proof.Machine
end

section
/-! O35: codewords, acknowledgements, credits and packets of a link (08 R270, R271, R294 to R296). -/

namespace Sys2Proof.Machine

theorem exec_codewordReceived (p : Fin 12) (n : BitVec 12) (fixes : List (Fin 136)) (ks : List Packet) (s : State) :
    exec (.codewordReceived p n fixes ks) s = execCodewordReceived p n fixes ks s := rfl
theorem exec_codewordUncorrectable (p : Fin 12) (n : BitVec 12) (s : State) : exec (.codewordUncorrectable p n) s = execCodewordUncorrectable p n s := rfl
theorem exec_linkAckReceived (p : Fin 12) (n : BitVec 12) (s : State) : exec (.linkAckReceived p n) s = execLinkAckReceived p n s := rfl
theorem exec_linkNackReceived (p : Fin 12) (n : BitVec 12) (s : State) : exec (.linkNackReceived p n) s = execLinkNackReceived p n s := rfl
theorem exec_creditReturn (p : Fin 12) (v : Fin 2) (n : BitVec 8) (s : State) : exec (.creditReturn p v n) s = execCreditReturn p v n s := rfl
theorem exec_packetTransmit (p : Fin 12) (v : Fin 2) (s : State) : exec (.packetTransmit p v) s = execPacketTransmit p v s := rfl

theorem State.port_word (s : State) (p kind value : Nat) (hp : p < 12) : (s.word p kind value).port p = (s.port p).fill 8 (.word kind value) := by
  show (s.modPort p (fun x => x.fill 8 (.word kind value))).port p = _
  rw [s.port_modPort p _ hp]

/-! ## Codewords -/

section codewords
variable {s : State} {p : Fin 12} (carries : (s.port p).carries = true)
include carries

omit carries in
theorem exec_codewordReceived_swapping (n : BitVec 12) (fixes : List (Fin 136)) (ks : List Packet) (swaps : (s.port p).swapping ≠ none) :
    exec (.codewordReceived p n fixes ks) s = .next s := by
  rw [exec_codewordReceived, execCodewordReceived, if_pos (by simp [Option.isSome_iff_ne_none.mpr swaps])]

/-- While no swap is in progress, a codeword goes through the checks of the code and of the sequence. -/
theorem codeword_not_discarded (calm : (s.port p).swapping = none) : ¬(!(s.port p).carries || (s.port p).swapping.isSome) = true := by
  simp [carries, calm]

theorem exec_codewordReceived_uncorrectable (n : BitVec 12) (fixes : List (Fin 136)) (ks : List Packet) (calm : (s.port p).swapping = none) (many : 4 < fixes.length) :
    exec (.codewordReceived p n fixes ks) s = .next (s.word p 1 (s.port p).rxCw.toNat) := by
  rw [exec_codewordReceived, execCodewordReceived, if_neg (codeword_not_discarded carries calm), if_pos (show rsCorrects < _ from many)]

theorem exec_codewordReceived_outOfSequence (n : BitVec 12) (fixes : List (Fin 136)) (ks : List Packet) (calm : (s.port p).swapping = none) (few : fixes.length ≤ 4)
    (other : n ≠ (s.port p).rxCw) :
    exec (.codewordReceived p n fixes ks) s = .next (if ((s.port p).rxCw - n).toNat < 2048 then s.word p 0 n.toNat else s) := by
  rw [exec_codewordReceived, execCodewordReceived, if_neg (codeword_not_discarded carries calm), if_neg (show ¬rsCorrects < _ from Nat.not_lt.mpr few), if_pos other]

/-- Receive buffers once the packets of a codeword have taken theirs. -/
def Port.buffered (x : Port) (ks : List Packet) : Vector Nat 2 :=
  let k := fun (v : Nat) => (ks.filter (fun q => vcIndex q == v)).length
  vset (vset x.rxUsed 0 (vget x.rxUsed 0 0 + k 0)) 1 (vget x.rxUsed 1 0 + k 1)

omit carries in
theorem Port.buffered_channel (x : Port) (ks : List Packet) (v : Nat) (hv : v < 2) :
    vget (x.buffered ks) v 0 = vget x.rxUsed v 0 + (ks.filter (fun k => vcIndex k == v)).length := by
  obtain rfl | rfl : v = 0 ∨ v = 1 := by omega
  · exact (vget_vset_ne _ 1 0 _ 0 (by decide)).trans (vget_vset_same _ 0 _ 0 (by decide))
  · exact vget_vset_same _ 1 _ 0 (by decide)

/-- The port once it has accepted a codeword. -/
def Port.accepted (x : Port) (fixes : List (Fin 136)) (ks : List Packet) : Port :=
  { x.countFixes fixes with rxCw := x.rxCw + 1, rxPkt := x.rxPkt + BitVec.ofNat 16 ks.length, rxUsed := x.buffered ks }

/-- A codeword in sequence is accepted and acknowledged; where no lane reaches the swap threshold nothing else happens. -/
theorem exec_codewordReceived_accepts (n : BitVec 12) (fixes : List (Fin 136)) (ks : List Packet) (calm : (s.port p).swapping = none) (few : fixes.length ≤ 4)
    (next : n = (s.port p).rxCw) (good : ∀ l, l < 9 → tget 0 ((s.port p).countFixes fixes).corrected l < s.objGet 0x5021 0) :
    exec (.codewordReceived p n fixes ks) s = .next ((s.setPort p ((s.port p).accepted fixes ks)).word p 0 n.toNat) := by
  have below : (List.range 9).filter (fun l => fixes.any (fun j => (s.port p).laneOf j == l) && s.objGet 0x5021 0 ≤ tget 0 ((s.port p).countFixes fixes).corrected l) = [] := by
    refine List.filter_eq_nil_iff.mpr fun l hl => ?_
    have := good l (List.mem_range.mp hl)
    simp only [Bool.and_eq_true, decide_eq_true_eq, not_and]
    omega
  rw [exec_codewordReceived, execCodewordReceived, if_neg (codeword_not_discarded carries calm), if_neg (show ¬rsCorrects < _ from Nat.not_lt.mpr few), if_neg (not_not.mpr next)]
  exact congrArg (fun l => Host.Outcome.next (State.each ((s.setPort p ((s.port p).accepted fixes ks)).word p 0 n.toNat) l (fun s l => (s.realEvent 1).laneFails p l))) below

theorem exec_codewordUncorrectable_names (n : BitVec 12) : exec (.codewordUncorrectable p n) s = .next (s.word p 1 (s.port p).rxCw.toNat) := by
  rw [exec_codewordUncorrectable, execCodewordUncorrectable, if_pos carries]

end codewords

/-! ## Acknowledgements -/

theorem Port.ackUpTo_retry (x : Port) (n : BitVec 12) : (x.ackUpTo n).retry = x.retry.filter (fun r => !x.before r.1 n) := by
  unfold Port.ackUpTo
  dsimp only
  split <;> rfl

theorem Port.ackUpTo_ackCw (x : Port) (n : BitVec 12) : (x.ackUpTo n).ackCw = n := by
  unfold Port.ackUpTo
  dsimp only
  split <;> rfl

theorem Port.ackUpTo_credits (x : Port) (n : BitVec 12) : (x.ackUpTo n).credits = x.credits := by
  unfold Port.ackUpTo
  dsimp only
  split <;> rfl

/-- Acknowledging what has been acknowledged drops nothing. -/
theorem Port.ackUpTo_retry_same (x : Port) : (x.ackUpTo x.ackCw).retry = x.retry := by
  rw [Port.ackUpTo_retry]
  exact List.filter_eq_self.mpr fun r _ => by simp [Port.before]

theorem exec_linkAckReceived_old (s : State) (p : Fin 12) (n : BitVec 12) (old : (s.port p).fresh (n + 1) = false) : exec (.linkAckReceived p n) s = .next s := by
  rw [exec_linkAckReceived, execLinkAckReceived, State.modPort, old, if_neg Bool.false_ne_true, State.setPort_port]

theorem exec_linkAckReceived_fresh (s : State) (p : Fin 12) (n : BitVec 12) (new : (s.port p).fresh (n + 1) = true) :
    exec (.linkAckReceived p n) s = .next (s.setPort p ((s.port p).ackUpTo (n + 1))) := by
  rw [exec_linkAckReceived, execLinkAckReceived, State.modPort, new, if_pos rfl]

theorem exec_linkNackReceived_old (s : State) (p : Fin 12) (n : BitVec 12) (old : (s.port p).fresh n = false) : exec (.linkNackReceived p n) s = .next s := by
  rw [exec_linkNackReceived, execLinkNackReceived, old, Bool.not_false, Bool.or_true, if_pos rfl]

/-- Items that are sent again leave in their order and change nothing else. -/
theorem State.each_again (s : State) (p : Nat) (l : List (BitVec 12 × LinkItem)) :
    s.each l (fun s r => s.emit (r.2.again p)) = { s with out := s.out ++ l.map (fun r => r.2.again p) } := by
  induction l generalizing s with
  | nil => simp [State.each]
  | cons r l ih =>
    have step : s.each (r :: l) (fun s r => s.emit (r.2.again p)) = (s.emit (r.2.again p)).each l (fun s r => s.emit (r.2.again p)) := rfl
    rw [step, ih]
    simp [State.emit]

/-- The state in which a port has sent the rest of its retry buffer again. -/
def State.resent (s : State) (p : Nat) (n : BitVec 12) : State :=
  State.bump { s.setPort p ((s.port p).ackUpTo n) with out := s.out ++ ((s.port p).ackUpTo n).retry.map (fun r => r.2.again p) } 0x5030 8 1

theorem exec_linkNackReceived_resends (s : State) (p : Fin 12) (n : BitVec 12) (carries : (s.port p).carries = true) (new : (s.port p).fresh n = true) :
    exec (.linkNackReceived p n) s = .next (s.resent p n) := by
  rw [exec_linkNackReceived, execLinkNackReceived, carries, new, Bool.not_true, Bool.or_false, if_neg Bool.false_ne_true, State.each_again]
  rfl

/-! ## The packet that goes next -/

theorem vget_replicate {α : Type} (n i : Nat) (a : α) : vget (Vector.replicate n a) i a = a := by
  unfold vget
  rw [Vector.toList_replicate, List.getD_eq_getElem?_getD, List.getElem?_getD_replicate_default_eq]

/-- A requester is served once every thirteen turns. -/
theorem mem_turns (c r : Nat) (hr : r < 13) : r ∈ (List.range 13).map (fun i => (c + 1 + i) % 13) :=
  List.mem_map.mpr ⟨(r + 26 - (c + 1) % 13) % 13, List.mem_range.mpr (Nat.mod_lt _ (by decide)), by omega⟩

/-- The requester's first packet, where it has the credits and the room that it needs. -/
def Port.offer (x : Port) (p v r : Nat) : Option (Nat × Packet) := match x.first v r with
  | some k => if creditsNeeded r p ≤ vget x.credits v 0 && x.retryRoom k then some (r, k) else none
  | none => none

theorem Port.choice_eq (x : Port) (p v : Nat) : x.choice p v = ((List.range 13).map (fun i => (vget x.lastReq v 12 + 1 + i) % 13)).findSome? (x.offer p v) := rfl

/-- Where one requester alone has a packet, the choice is its offer. -/
theorem Port.choice_single (x : Port) (p v r : Nat) (hr : r < 13) (alone : ∀ r', r' ≠ r → x.first v r' = none) : x.choice p v = x.offer p v r := by
  have others (r' : Nat) (h : r' ≠ r) : x.offer p v r' = none := by simp [Port.offer, alone r' h]
  rw [Port.choice_eq]
  generalize hl : (List.range 13).map (fun i => (vget x.lastReq v 12 + 1 + i) % 13) = l
  have mem : r ∈ l := hl ▸ mem_turns _ r hr
  clear hl
  cases offered : x.offer p v r with
  | none =>
    refine List.findSome?_eq_none_iff.mpr fun r' _ => ?_
    by_cases h : r' = r
    · rw [h, offered]
    · exact others r' h
  | some k =>
    induction l with
    | nil => exact absurd mem List.not_mem_nil
    | cons a l ih =>
      rw [List.findSome?_cons]
      by_cases h : a = r
      · rw [h, offered]
      · rw [others a h]
        exact ih ((List.mem_cons.mp mem).resolve_left (Ne.symm h))

section transmit
variable {x : Port} {v : Fin 2} {r : Nat} {k : Packet} {q : List (Nat × Packet)} (queue : x.txQ = vset (Vector.replicate 2 []) v ((r, k) :: q))
  (none_ : x.injQ = Vector.replicate 2 []) (same : ∀ e ∈ q, e.1 = r) (hr : r < 12)
include queue none_ same hr

omit none_ same hr in
theorem Port.txQ_own : vget x.txQ v [] = (r, k) :: q := by rw [queue, vget_vset_same _ _ _ _ v.isLt]

omit same hr in
/-- Nothing is queued for the other channel. -/
theorem Port.first_other (w r' : Nat) (other : w ≠ v) : x.first w r' = none := by
  unfold Port.first
  rw [queue, none_, vget_vset_ne _ _ _ _ _ other, vget_replicate, vget_replicate]
  split <;> rfl

omit none_ same in
theorem Port.first_own : x.first v r = some k := by
  unfold Port.first
  rw [if_neg (by omega), Port.txQ_own queue, List.find?_cons_of_pos (by simp)]
  rfl

omit hr in
theorem Port.first_alone (r' : Nat) (h : r' ≠ r) : x.first v r' = none := by
  unfold Port.first
  split
  · rw [none_, vget_replicate]
    rfl
  · have missing : (vget x.txQ v []).find? (fun e => e.1 == r') = none := by
      rw [Port.txQ_own queue]
      refine List.find?_eq_none.mpr fun e he => ?_
      rcases List.mem_cons.mp he with rfl | he
      · simpa using Ne.symm h
      · simpa [same e he] using Ne.symm h
    rw [missing]
    rfl

/-- The only packet queued is the one that may go. -/
theorem Port.choice_own (p : Nat) : x.choice p v = if creditsNeeded r p ≤ vget x.credits v 0 && x.retryRoom k then some (r, k) else none := by
  rw [x.choice_single p v r (by omega) (Port.first_alone queue none_ same), Port.offer, Port.first_own queue hr]

omit same hr in
theorem Port.channel_own (p : Nat) : x.channel p v = v := by
  have other (w : Nat) (h : w ≠ v) : x.choice p w = none := by
    rw [x.choice_single p w 0 (by decide) fun r' _ => Port.first_other queue none_ w r' h, Port.offer, Port.first_other queue none_ w 0 h]
  have idle : ((x.choice p 0).isSome && (x.choice p 1).isSome) = false := by
    obtain h | h : v.val ≠ 0 ∨ v.val ≠ 1 := by omega
    · rw [other 0 (Ne.symm h)]
      rfl
    · rw [other 1 (Ne.symm h), Option.isSome_none, Bool.and_false]
  rw [Port.channel, idle, if_neg Bool.false_ne_true]

omit none_ same in
theorem Port.takeFirst_own : (x.takeFirst v r).txQ = vset x.txQ v q := by
  unfold Port.takeFirst
  rw [if_neg (by omega)]
  show vmod x.txQ v (fun l => l.eraseP (fun e => e.1 == r)) = _
  rw [vmod_eq_vset _ _ _ [], Port.txQ_own queue, List.eraseP_cons_of_pos (by simp)]

end transmit

/-! ## A packet that leaves -/

/-- The port once a packet has left it. -/
def Port.sent (x : Port) (v r : Nat) (k : Packet) : Port :=
  { (x.takeFirst v r).fill (packetSize k) (.packet x.txPkt k) with
    credits := vset x.credits v (vget x.credits v 0 - 1), lastReq := vset x.lastReq v r, turn := 1 - v, carried := true, txPkt := x.txPkt + 1 }

theorem Port.takeFirst_link (x : Port) (v r : Nat) : (x.takeFirst v r).retry = x.retry ∧ (x.takeFirst v r).txCw = x.txCw ∧ (x.takeFirst v r).txFill = x.txFill := by
  unfold Port.takeFirst
  split <;> exact ⟨rfl, rfl, rfl⟩

theorem Port.sent_retry (x : Port) (v r : Nat) (k : Packet) : (x.sent v r k).retry = x.retry ++ [(x.lastCw k, .packet x.txPkt k)] := by
  obtain ⟨retry, cw, filled⟩ := x.takeFirst_link v r
  show (x.takeFirst v r).retry ++ [((x.takeFirst v r).lastOf (packetSize k), _)] = _
  rw [retry, Port.lastCw, Port.lastOf, Port.lastOf, cw, filled]

/-- The state once a packet of another port has left: its buffer there is free. -/
def State.transmitted (s : State) (p v r : Nat) (k : Packet) : State :=
  (((s.setPort p ((s.port p).sent v r k)).emit (.packet (some p) k)).bump 0x5030 2 1).freeBuffer r v

section transmit
variable {s : State} {p : Fin 12} {v : Fin 2} {r : Nat} {k : Packet} {q : List (Nat × Packet)} (carries : (s.port p).carries = true) (live : s.dev.state ≠ .fault)
  (awake : s.dev.state ≠ .reset) (free : (s.port p).lostHeld = false) (queue : (s.port p).txQ = vset (Vector.replicate 2 []) v ((r, k) :: q))
  (none_ : (s.port p).injQ = Vector.replicate 2 []) (same : ∀ e ∈ q, e.1 = r) (hr : r < 12)
include carries live awake free queue none_ same hr

omit same hr in
/-- What a port with one queued packet sends is what its only requester offers. -/
theorem exec_packetTransmit_choice :
    exec (.packetTransmit p v) s = .next (match (s.port p).choice p v with
      | none => s
      | some (r, k) =>
        let k := if (s.port p).features.getLsbD 2 then k else packetAllPoison k
        let t := ((s.setPort p ((s.port p).sent v r k)).emit (.packet (some p.val) k)).bump 0x5030 2 1
        if r = 12 then ((t.throttleUpdate p).refill).pump else t.freeBuffer r v) := by
  rw [exec_packetTransmit, execPacketTransmit]
  dsimp only
  rw [Port.channel_own queue none_, if_neg (by simp [carries, live, awake, free])]
  rfl

theorem exec_packetTransmit_waits (short : vget (s.port p).credits v 0 < creditsNeeded r p ∨ (s.port p).retryRoom k = false) : exec (.packetTransmit p v) s = .next s := by
  rw [exec_packetTransmit_choice carries live awake free queue none_, Port.choice_own queue none_ same hr, if_neg]
  rw [Bool.and_eq_true, decide_eq_true_eq, not_and]
  intro enough room
  rcases short with few | full
  · omega
  · exact absurd (room.symm.trans full) (by decide)

theorem exec_packetTransmit_sends (clean : (s.port p).features.getLsbD 2 = true ∨ k.poison = 0) (enough : creditsNeeded r p ≤ vget (s.port p).credits v 0)
    (room : (s.port p).retryRoom k = true) : exec (.packetTransmit p v) s = .next (s.transmitted p v r k) := by
  have whole : (if (s.port p).features.getLsbD 2 then k else packetAllPoison k) = k := by
    rcases clean with h | h
    · rw [h, if_pos rfl]
    · rw [packetAllPoison, if_pos h, ite_self]
  rw [exec_packetTransmit_choice carries live awake free queue none_, Port.choice_own queue none_ same hr, if_pos (by simp [enough, room])]
  dsimp only
  rw [whole, if_neg (by omega)]
  rfl

end transmit

/-- Settles O35: each check of a codeword answers as the code and the sequence say; the retry buffer drops what is before the number acknowledged; and the one packet that is
queued is the choice of its channel, so that the credits and the room in the retry buffer decide alone. -/
theorem linkRetry : Obligations.LinkRetry := by
  unfold Obligations.LinkRetry
  intro s p x carries
  refine ⟨fun n fixes ks => ⟨exec_codewordReceived_swapping n fixes ks, exec_codewordReceived_uncorrectable carries n fixes ks, fun calm few next good => ?_,
    exec_codewordReceived_outOfSequence carries n fixes ks, exec_codewordUncorrectable_names carries n, exec_linkAckReceived_old s p n, exec_linkNackReceived_old s p n,
    fun new => ?_, fun new => ?_⟩, fun v n => ?_, fun v k q r live awake free queue none_ same hr clean => ⟨?_, fun enough room => ?_⟩⟩
  · have accepted : (((s.setPort p (x.accepted fixes ks)).word p 0 n.toNat).port p) = (x.accepted fixes ks).fill 8 (.word 0 n.toNat) := by
      rw [State.port_word _ _ _ _ p.isLt, State.port_setPort _ _ _ p.isLt]
    refine ⟨_, exec_codewordReceived_accepts carries n fixes ks calm few next good, rfl, ?_⟩
    rw [accepted]
    exact ⟨rfl, rfl, rfl, x.buffered_channel ks⟩
  · refine ⟨_, exec_linkAckReceived_fresh s p n new, ?_⟩
    dsimp only
    rw [State.port_setPort _ _ _ p.isLt]
    refine ⟨rfl, Port.ackUpTo_ackCw _ _, Port.ackUpTo_credits _ _, fun r => ?_⟩
    rw [Port.ackUpTo_retry, List.mem_filter]
    simp [Port.before, x]
  · have port : (s.resent p n).port p = x.ackUpTo n := s.port_setPort p _ p.isLt
    refine ⟨_, exec_linkNackReceived_resends s p n carries new, ?_⟩
    dsimp only
    rw [port]
    exact ⟨Port.ackUpTo_credits _ _, Port.ackUpTo_ackCw _ _, rfl, fun same => by rw [same, Port.ackUpTo_retry_same], State.objGet_bump _ _ _ _⟩
  · rw [exec_creditReturn, execCreditReturn, State.modPort, if_pos carries]
  · exact exec_packetTransmit_waits carries live awake free queue none_ same hr
  · have left := State.Sent.freeBuffer (((s.setPort p (x.sent v r k)).emit (.packet (some p) k)).bump 0x5030 2 1) r v
    have sent : ((((s.setPort p (x.sent v r k)).emit (.packet (some p) k)).bump 0x5030 2 1).port p) = x.sent v r k := s.port_setPort p _ p.isLt
    obtain ⟨l, retry⟩ := State.freeBuffer_retry (((s.setPort p (x.sent v r k)).emit (.packet (some p) k)).bump 0x5030 2 1) r v p
    refine ⟨_, exec_packetTransmit_sends carries live awake free queue none_ same hr clean enough room, ⟨l, ?_⟩, ?_, ?_, left.mem_out ?_, ?_⟩
    · rw [sent, Port.sent_retry, List.append_assoc] at retry
      exact retry
    · refine (congrArg (vget · v.val 0) ((left.credits p).trans (congrArg Port.credits sent))).trans (vget_vset_same _ _ _ _ v.isLt)
    · refine (congrArg (vget · v.val []) ((left.txQ p).trans (congrArg Port.txQ sent))).trans ?_
      exact (congrArg (vget · v.val []) (Port.takeFirst_own queue hr)).trans (vget_vset_same _ _ _ _ v.isLt)
    · exact List.mem_append_right _ (List.mem_singleton_self _)
    · exact (left.objects 0x5030 2 (by decide)).trans (State.objGet_bump _ _ _ _)

end Sys2Proof.Machine
end

section
/-! SUPPORT. What events, the health record and failing drills leave (11 R418 to R424; 12 R456): the fabric, the cores, the state of the device, every object but those of health
and drills, and the messages that were there. -/

namespace Sys2Proof.Machine

/-- State `t` is state `s` once something has been noted: in the log, the health record, the messages to the host, or the outcome of a drill. -/
structure State.Noted (s t : State) : Prop where
  fabric : t.fabric = s.fabric
  cores : t.cores = s.cores
  dev : t.dev = s.dev
  objects : ∀ o m, o ≠ 0x6050 → o ≠ 0x6060 → m < 256 → t.objGet o m = s.objGet o m
  out : s.out <+: t.out

namespace State.Noted

theorem refl (s : State) : s.Noted s := ⟨rfl, rfl, rfl, fun _ _ _ _ _ => rfl, List.prefix_rfl⟩

theorem trans {s t u : State} (h : s.Noted t) (h' : t.Noted u) : s.Noted u :=
  ⟨h'.fabric.trans h.fabric, h'.cores.trans h.cores, h'.dev.trans h.dev, fun o m a b c => (h'.objects o m a b c).trans (h.objects o m a b c), h.out.trans h'.out⟩

/-- Any of two that are both noted. -/
theorem ite {s t u : State} (c : Prop) [Decidable c] (h : s.Noted t) (h' : s.Noted u) : s.Noted (if c then t else u) := by
  split
  · exact h
  · exact h'

theorem port {s t : State} (h : s.Noted t) (p : Nat) : t.port p = s.port p := by
  unfold State.port
  rw [h.fabric]

theorem mem_out {s t : State} (h : s.Noted t) {x : Output} (hx : x ∈ s.out) : x ∈ t.out := h.out.subset hx

theorem host (s : State) (x : HostPort) : s.Noted { s with host := x } := ⟨rfl, rfl, rfl, fun _ _ _ _ _ => rfl, List.prefix_rfl⟩
theorem resil (s : State) (x : Resil) : s.Noted { s with resil := x } := ⟨rfl, rfl, rfl, fun _ _ _ _ _ => rfl, List.prefix_rfl⟩
theorem fynen (s : State) (x : Fynen) : s.Noted { s with fynen := x } := ⟨rfl, rfl, rfl, fun _ _ _ _ _ => rfl, List.prefix_rfl⟩
theorem takeFree (s : State) : s.Noted s.takeFree.2 := ⟨rfl, rfl, rfl, fun _ _ _ _ _ => rfl, List.prefix_rfl⟩
theorem emit (s : State) (x : Output) : s.Noted (s.emit x) := ⟨rfl, rfl, rfl, fun _ _ _ _ _ => rfl, List.prefix_append _ _⟩

theorem objSet (s : State) (o m v : Nat) (ho : o = 0x6050 ∨ o = 0x6060) (hm : m < 256) : s.Noted (s.objSet o m v) :=
  ⟨rfl, rfl, rfl, fun p n h h' hn => State.objGet_objSet_ne s o m v p n (by omega), List.prefix_rfl⟩

theorem msix (s : State) (v : Nat) : s.Noted (s.msix v) := by
  unfold State.msix
  exact ite _ (emit s _) (host s _)

theorem event (s : State) (code obj detail : Nat) (drill : Bool) : s.Noted (s.event code obj detail drill) := by
  unfold State.event
  dsimp only
  have posted (x : Fynen) := ((takeFree s).trans (fynen _ x)).trans (msix _ 255)
  exact ite _ (posted _) ((posted _).trans (emit _ _))

theorem eventD (s : State) (code obj : Nat) (drill : Bool) : s.Noted (s.eventD code obj drill) := (takeFree s).trans (event _ _ _ _ _)
theorem eventOpen (s : State) (obj : Nat) : s.Noted (s.eventOpen obj) := (takeFree s).trans (eventD _ _ _ _)
theorem warning (s : State) : s.Noted s.warning := eventOpen s _
theorem spareUsed (s : State) : s.Noted s.spareUsed := ite _ (warning s) (refl s)

theorem healthUpdate (s : State) : s.Noted s.healthUpdate := by
  have set (v : Nat) : s.Noted (s.objSet 0x6050 4 v) := objSet s _ _ _ (.inl rfl) (by decide)
  unfold State.healthUpdate
  exact ite _ (refl s) (ite _ (ite _ (ite _ (((set 2).trans (eventOpen _ _)).trans (warning _)) (set 1)) (refl s)) (ite _ (set 0) (refl s)))

theorem healthWarn (s : State) : s.Noted s.healthWarn := by
  unfold State.healthWarn
  exact ite _ ((resil s _).trans (warning _)) (refl s)

theorem deduct (s : State) (kind points : Nat) (transient : Bool) : s.Noted (s.deduct kind points transient) := by
  unfold State.deduct
  exact ite _ (refl s) (((resil s _).trans (healthUpdate _)).trans (healthWarn _))

theorem deductLasting (s : State) (kind points : Nat) : s.Noted (s.deductLasting kind points) := ite _ (refl s) (deduct s _ _ _)

theorem drillFails (s : State) : s.Noted s.drillFails :=
  ((((resil s _).trans (objSet _ 0x6060 6 _ (.inr rfl) (by decide))).trans (takeFree _)).trans (eventD _ _ _ _)).trans (deduct _ _ _ _)

end State.Noted

end Sys2Proof.Machine
end

section
/-! O34: training, cards and adoption of ports (08 R275 to R282). A port whose link is being handed off is PARKED when its card matches, not UP (08 R279, R301). -/

namespace Sys2Proof.Machine

theorem exec_neighbourCardReceived (p : Fin 12) (card : List Byte) (s : State) : exec (.neighbourCardReceived p card) s = execNeighbourCardReceived p card s := rfl

theorem State.portMatched_parks (s : State) (p : Nat) (hp : p < 12) (handed : (s.port p).handoff = true) : ((s.portMatched p).port p).state = .parked := by
  unfold State.portMatched
  dsimp only
  generalize ht : s.modPort p _ = t
  have parked : (t.port p).state = .parked := by
    rw [← ht, State.port_modPort _ _ _ hp]
    simp [handed]
  have noted : t.Noted (if (t.port p).laneCount < 8 then t.deductLasting (5 + 256 * p) 100 else t) := .ite _ (.deductLasting t _ _) (.refl t)
  rw [noted.port, parked]

/-- A card that matches the record in force makes a port whose link is being handed off PARKED. -/
theorem State.compareCard_parks (s : State) (p : Nat) (c : List Byte) (hp : p < 12) (handed : (s.port p).handoff = true) (version : cardVersion c ≠ none)
    (same : cardMatches (s.recordInForce p) c = true) : ((s.compareCard p c).port p).state = .parked := by
  obtain ⟨⟨v, f⟩, hv⟩ := Option.ne_none_iff_exists'.mp version
  have record : (((s.modPort p (fun x => { x with observed := c })).modPort p (fun x => { x with version := v, features := BitVec.ofNat 32 f })).recordInForce p) = s.recordInForce p := by
    unfold State.recordInForce
    rw [State.port_modPort _ _ _ hp, State.port_modPort _ _ _ hp]
    rfl
  unfold State.compareCard
  rw [hv]
  dsimp only
  rw [record, same, if_pos rfl]
  refine State.portMatched_parks _ p hp ?_
  rw [State.port_modPort _ _ _ hp, State.port_modPort _ _ _ hp]
  exact handed

theorem exec_neighbourCardReceived_compares (s : State) (p : Fin 12) (card : List Byte) (exchanges : (s.port p).state = .cardExchange) (size : card.length = 64)
    (format : recNat card 0 2 = 1) (trailer : recNat card 60 4 = crc32c (card.take 60)) : exec (.neighbourCardReceived p card) s = .next (s.compareCard p card) := by
  rw [exec_neighbourCardReceived, execNeighbourCardReceived]
  simp [exchanges, size, format, trailer]

/-- Port 0 exchanges cards after it has trained again, while the handoff of its lost link is still in progress. -/
def handingOff : State := State.reset.setPort 0 { Port.reset with state := .cardExchange, handoff := true }

/-- The card of the device behind port 0, as the record in force expects it: version 1, endpoint 1, its port 1, a device. -/
def expectedCard : List Byte :=
  let b : List Byte := [1, 0, 1, 1, 1, 0, 0, 0, 1, 0, 0, 0x80, 1] ++ List.replicate 47 0
  b ++ leBytes (crc32c b) 4

/-- Refutes O34: a card that matches leaves the port PARKED while its handoff is in progress (08 R279), where the statement, which asks only that no sibling carries the port's traffic yet,
has it UP or DEGRADED. -/
theorem not_portTraining : ¬ Obligations.PortTraining := by
  unfold Obligations.PortTraining
  intro h
  obtain ⟨-, -, -, -, -, -, -, -, cards, -⟩ := h handingOff 0
  have place : (handingOff.port 0).state = .cardExchange ∧ (handingOff.port 0).detour = none ∧ (handingOff.port 0).handoff = true := ⟨rfl, rfl, rfl⟩
  have card : expectedCard.length = 64 ∧ recNat expectedCard 0 2 = 1 ∧ recNat expectedCard 60 4 = crc32c (expectedCard.take 60) ∧ cardVersion expectedCard ≠ none ∧
      cardMatches (handingOff.recordInForce 0) expectedCard = true := by decide +kernel
  obtain ⟨exchanges, single, handed⟩ := place
  obtain ⟨size, format, trailer, version, same⟩ := card
  obtain ⟨t, ran, -, -, -, matched⟩ := cards expectedCard size format trailer exchanges single
  have compared := exec_neighbourCardReceived_compares handingOff 0 expectedCard exchanges size format trailer
  obtain rfl : handingOff.compareCard 0 expectedCard = t := Host.Outcome.next.inj (compared.symm.trans ran)
  have parked := handingOff.compareCard_parks 0 expectedCard (by decide) handed version same
  have up := parked.symm.trans (matched version same).1
  split at up <;> cases up

end Sys2Proof.Machine
end

section
/-! SUPPORT. Loss, retraining and audit of a link (08 R300 to R307): what they leave of a port, of the sparge and of the count of failed audits. -/

namespace Sys2Proof.Machine

theorem State.pump_idle (s : State) (idle : s.fabric.waiting = []) : s.pump = s := by
  have same : s.modFabric (fun f => { f with waiting := [] }) = s := by
    unfold State.modFabric
    rw [← idle]
  unfold State.pump
  dsimp only
  rw [idle, same]
  rfl

/-! ## Steady ports -/

/-- From state `s` to state `t` the state and the credits of port `p`, the sparge and the count of failed audits are left. -/
structure State.Steady (p : Nat) (s t : State) : Prop where
  state : (t.port p).state = (s.port p).state
  credits : (t.port p).credits = (s.port p).credits
  sparge : t.fabric.sparge = s.fabric.sparge
  audits : t.objGet 0x5030 1 = s.objGet 0x5030 1

namespace State.Steady

variable {p : Nat} {s t u : State}

theorem refl (p : Nat) (s : State) : Steady p s s := ⟨rfl, rfl, rfl, rfl⟩

theorem trans (h : Steady p s t) (h' : Steady p t u) : Steady p s u :=
  ⟨h'.state.trans h.state, h'.credits.trans h.credits, h'.sparge.trans h.sparge, h'.audits.trans h.audits⟩

theorem ite (c : Prop) [Decidable c] (h : Steady p s t) (h' : Steady p s u) : Steady p s (if c then t else u) := by
  split
  · exact h
  · exact h'

theorem of_sent (h : s.Sent t) : Steady p s t := ⟨h.state p, h.credits p, h.sparge, h.objects 0x5030 1 (by decide)⟩

theorem of_noted (h : s.Noted t) : Steady p s t :=
  ⟨by rw [h.port], by rw [h.port], by rw [h.fabric], h.objects 0x5030 1 (by decide) (by decide) (by decide)⟩

theorem modPort (s : State) (q : Nat) (f : Port → Port) (hp : p < 12) (hf : ∀ x, (f x).state = x.state ∧ (f x).credits = x.credits) : Steady p s (s.modPort q f) := by
  have here := s.port_modPort_any q p f hp
  refine ⟨?_, ?_, rfl, rfl⟩ <;> rw [here] <;> split
  · exact (hf _).1
  · rfl
  · exact (hf _).2
  · rfl

end State.Steady

/-- A port whose link is lost without handoff is marked so, and frees the buffers of what it queues. -/
theorem State.holdBack_sent (s : State) (p : Nat) : (s.modPort p (fun x => { x with lostHeld := true })).Sent (s.holdBack p) := by
  unfold State.holdBack
  dsimp only
  split
  · next held =>
    have same : s.modPort p (fun x => { x with lostHeld := true }) = s := by
      show s.setPort p { s.port p with lostHeld := true } = s
      rw [← held]
      exact s.setPort_port p
    rw [same]
    exact .refl s
  · exact (State.Sent.refl _).each _ _ fun u e => .freeBuffer u e.1 e.2

theorem State.Steady.loseLink (s : State) (q : Nat) {p : Nat} (hp : p < 12) : State.Steady p s (s.loseLink q) := by
  have marked : State.Steady p (s.loseRetry q) ((s.loseRetry q).modPort q (fun x => { x with lostHeld := true })) := .modPort _ q _ hp fun _ => ⟨rfl, rfl⟩
  exact ((State.Steady.of_sent (.loseRetry s q)).trans marked).trans (.of_sent ((s.loseRetry q).holdBack_sent q))

/-! ## A port that goes DOWN -/

/-- The port once its link is lost: its credits are retired, and what it has accepted waits in its buffers. -/
def Port.lost (x : Port) (off : Bool) : Port :=
  { x with state := .down, credits := Vector.replicate 2 0, owed := Vector.replicate 2 0, handoff := off, rxUsed := Vector.replicate 2 0, rxOld := x.rxOld.zipWith (· + ·) x.rxUsed,
           trained := false, swapping := none }

/-- The state once the credits of a port are retired, before its traffic is moved or answered. -/
def State.retired (s : State) (p : Nat) (off : Bool) : State :=
  (s.bump 0x5030 12 (vget (s.port p).credits 0 0 + vget (s.port p).credits 1 0)).setPort p ((s.port p).lost off)

/-- Whether a lost port hands off: it is a floor port that carried packets, both ends can, and its sibling is UP (08 R301). -/
def State.handsOff (s : State) (p : Nat) : Bool := decide (p < 8) && (s.port (sibling p)).state == .up && (s.port p).features.getLsbD 1 && (s.port p).carries

/-- The loss of the link under a lane drill fails the drill. -/
def State.lostDrill (s : State) (p : Nat) : State := if s.resil.drill = some 1 ∧ s.resil.drillTarget = p then s.drillFails else s

/-- A handoff that a lost port was to carry cannot end. -/
def State.lostCarrier (s : State) (p : Nat) : State :=
  if p < 8 && (s.port (sibling p)).handoff then (s.modPort (sibling p) (fun y => { y with handoff := false })).loseLink (sibling p) else s

theorem State.portDown_eq (s : State) (p : Nat) : s.portDown p =
    if s.handsOff p then ((s.retired p (s.handsOff p)).lostDrill p).word (sibling p) 5 ((s.port p).rxPkt - 1).toNat
    else (((s.retired p (s.handsOff p)).lostDrill p).lostCarrier p).loseLink p := rfl

/-- What follows the loss of a link leaves the port DOWN and without credits. -/
theorem State.portDown_steady (s : State) (p : Nat) (hp : p < 12) : State.Steady p (s.retired p (s.handsOff p)) (s.portDown p) := by
  rw [State.portDown_eq]
  generalize s.retired p (s.handsOff p) = t
  have drilled : State.Steady p t (t.lostDrill p) := .ite _ (.of_noted (.drillFails t)) (.refl p t)
  refine drilled.trans (.ite _ (.of_sent (.word _ _ _ _)) ?_)
  generalize t.lostDrill p = u
  have stopped : State.Steady p u (u.modPort (sibling p) (fun y => { y with handoff := false })) := .modPort _ _ _ hp fun _ => ⟨rfl, rfl⟩
  have carrier : State.Steady p u (u.lostCarrier p) := .ite _ (stopped.trans (.loseLink _ _ hp)) (.refl p u)
  exact carrier.trans (.loseLink _ _ hp)

theorem State.retired_port (s : State) (p : Nat) (off : Bool) (hp : p < 12) : (s.retired p off).port p = (s.port p).lost off := State.port_setPort _ _ _ hp

theorem State.portDown_port (s : State) (p : Nat) (hp : p < 12) : ((s.portDown p).port p).state = .down ∧ ((s.portDown p).port p).credits = Vector.replicate 2 0 := by
  have steady := s.portDown_steady p hp
  have here := s.retired_port p (s.handsOff p) hp
  exact ⟨steady.state.trans (congrArg Port.state here), steady.credits.trans (congrArg Port.credits here)⟩

theorem State.portDown_keeps (s : State) (p : Nat) (hp : p < 12) : (s.portDown p).fabric.sparge = s.fabric.sparge ∧ (s.portDown p).objGet 0x5030 1 = s.objGet 0x5030 1 := by
  have steady := s.portDown_steady p hp
  exact ⟨steady.sparge, steady.audits.trans (State.objGet_objSet_ne s 0x5030 12 _ 0x5030 1 (by decide))⟩

/-- Retraining leaves the port in DETECT. -/
theorem State.portRetrain_detects (s : State) (p : Nat) (hp : p < 12) :
    ((s.portRetrain p).port p).state = .detect ∧ (s.portRetrain p).fabric.sparge = s.fabric.sparge ∧ (s.portRetrain p).objGet 0x5030 1 = s.objGet 0x5030 1 := by
  unfold State.portRetrain
  dsimp only
  rw [State.port_modPort _ _ _ hp]
  refine ⟨rfl, ?_⟩
  split
  · exact s.portDown_keeps p hp
  · exact ⟨rfl, rfl⟩

/-! ## Credit audits -/

/-- This end's reports, one for each channel, and the count of the audit. -/
def State.reportsAudit (s : State) (p : Nat) : State :=
  ((s.word p 6 ((s.port p).auditValue 0)).word p 6 ((s.port p).auditValue 1)).bump 0x5030 0 1

theorem State.creditAudit_eq (s : State) (p : Nat) :
    s.creditAudit p = if (s.port p).auditPasses then s.reportsAudit p else (((s.reportsAudit p).bump 0x5030 1 1).eventOpen 0x5030).portRetrain p := rfl

theorem State.reportsAudit_standing (s : State) (p : Nat) : (s.reportsAudit p).standing = s.standing :=
  ((State.Sent.word s p _ _).trans (.word _ p _ _)).standing

theorem State.creditAudit_passes (s : State) (p : Nat) (good : (s.port p).auditPasses = true) : s.creditAudit p = s.reportsAudit p := by
  rw [State.creditAudit_eq, if_pos good]

/-- A failed audit is counted and retrains the port. -/
theorem State.creditAudit_fails (s : State) (p : Nat) (hp : p < 12) (bad : (s.port p).auditPasses = false) :
    ((s.creditAudit p).port p).state = .detect ∧ (s.creditAudit p).fabric.sparge = s.fabric.sparge ∧
    (s.creditAudit p).objGet 0x5030 1 = min (2 ^ 64 - 1) (s.objGet 0x5030 1 + 1) := by
  have words := (State.Sent.word s p 6 ((s.port p).auditValue 0)).trans (.word _ p 6 ((s.port p).auditValue 1))
  have before : (s.reportsAudit p).objGet 0x5030 1 = s.objGet 0x5030 1 :=
    (State.objGet_objSet_ne _ 0x5030 0 _ 0x5030 1 (by decide)).trans (words.objects 0x5030 1 (by decide))
  have noted := State.Noted.eventOpen ((s.reportsAudit p).bump 0x5030 1 1) 0x5030
  obtain ⟨detects, sparge, audits⟩ := (((s.reportsAudit p).bump 0x5030 1 1).eventOpen 0x5030).portRetrain_detects p hp
  rw [State.creditAudit_eq, bad, if_neg Bool.false_ne_true]
  refine ⟨detects, sparge.trans ((congrArg Fabric.sparge noted.fabric).trans words.sparge), audits.trans ?_⟩
  rw [noted.objects 0x5030 1 (by decide) (by decide) (by decide), State.objGet_bump, before]

theorem State.creditAudit_sparge (s : State) (p : Nat) (hp : p < 12) : (s.creditAudit p).fabric.sparge = s.fabric.sparge := by
  cases passes : (s.port p).auditPasses with
  | true =>
    rw [s.creditAudit_passes p passes]
    exact (congrArg (fun u => u.fabric.sparge) (s.reportsAudit_standing p) :)
  | false => exact (s.creditAudit_fails p hp passes).2.1

end Sys2Proof.Machine
end

section
/-! O36: lanes, lost links, credit audits, die-to-die links, and sparges (08 R272 to R274, R300 to R307; 01 R19). -/

namespace Sys2Proof.Machine

theorem exec_laneFailure (p : Fin 12) (lane : Fin 9) (s : State) : exec (.laneFailure p lane) s = execLaneFailure p lane s := rfl
theorem exec_swapRequest (p : Fin 12) (ask : LaneRequest) (s : State) : exec (.swapRequest p ask) s = execSwapRequest p ask s := rfl
theorem exec_swapMarker (p : Fin 12) (lane : Fin 9) (s : State) : exec (.swapMarker p lane) s = execSwapMarker p lane s := rfl
theorem exec_marginCheck (p : Fin 12) (m : List (BitVec 32)) (s : State) : exec (.marginCheck p m) s = execMarginCheck p m s := rfl
theorem exec_linkLost (p : Fin 12) (s : State) : exec (.linkLost p) s = execLinkLost p s := rfl
theorem exec_handoffExchange (p : Fin 12) (last : BitVec 16) (s : State) : exec (.handoffExchange p last) s = execHandoffExchange p last s := rfl
theorem exec_portCreditAudit (p : Fin 12) (report : List AuditReport) (s : State) : exec (.portCreditAudit p report) s = execPortCreditAudit p report s := rfl
theorem exec_d2dLaneFailure (l : D2dSide) (s : State) : exec (.d2dLaneFailure l) s = execD2dLaneFailure l s := rfl
theorem exec_d2dLinkLoss (l : Fin 6) (s : State) : exec (.d2dLinkLoss l) s = execD2dLinkLoss l s := rfl
theorem exec_spargeStart (s : State) : exec .spargeStart s = execSpargeStart s := rfl
theorem exec_spargeDrained (s : State) : exec .spargeDrained s = execSpargeDrained s := rfl
theorem exec_spargeTimeout (s : State) : exec .spargeTimeout s = execSpargeTimeout s := rfl
theorem exec_tableCommit (s : State) : exec .tableCommit s = execTableCommit s := rfl

/-! ## Lanes -/

section lanes
variable {s : State} {p : Fin 12} (carries : (s.port p).carries = true)
include carries

/-- A lane of a port whose spare is free is swapped for it. -/
theorem exec_laneFailure_swaps (lane : Fin 9) (low : lane.val < 8) (good : (s.port p).failedLanes.getLsbD lane = false) (single : (s.port p).swapped = none)
    (calm : (s.port p).swapping = none) (spare : (s.port p).badLanes.getLsbD 8 = false) (whole : (s.port p).failedLanes.getLsbD 8 = false) :
    exec (.laneFailure p lane) s = .next ((((s.realEvent 1).setPort p { s.port p with swapping := some lane.val, drilled := false }).word p 1 (s.port p).rxCw.toNat).word p 3 lane.val) := by
  have here : (s.realEvent 1).port p = s.port p := rfl
  rw [exec_laneFailure, execLaneFailure, State.laneFails]
  dsimp only
  rw [here, carries, good, single, calm, spare, whole, if_neg (by simp), if_neg (by omega), if_neg (by simp), if_neg (by omega), if_pos (by simp)]

/-- An idle spare that fails is declared failed. -/
theorem exec_laneFailure_spare (lane : Fin 9) (last : lane.val = 8) (good : (s.port p).failedLanes.getLsbD 8 = false) (single : (s.port p).swapped = none)
    (calm : (s.port p).swapping ≠ some 8) :
    exec (.laneFailure p lane) s = .next ((s.realEvent 1).setPort p { s.port p with failedLanes := (s.port p).failedLanes ||| BitVec.twoPow 9 8 }) := by
  have here : (s.realEvent 1).port p = s.port p := rfl
  rw [exec_laneFailure, execLaneFailure, State.laneFails]
  dsimp only
  rw [here, last, carries, good, if_neg (by simp [calm]), if_pos ⟨rfl, single⟩]

theorem exec_swapRequest_swaps (ask : LaneRequest) (seven : 7 ≤ (stripeOver ((s.port p).restripe ask.lane ask.mapOut).txSwap ((s.port p).restripe ask.lane ask.mapOut).txOut).length)
    (swap : ask.mapOut = false) : exec (.swapRequest p ask) s = .next ((s.setPort p ((s.port p).restripe ask.lane ask.mapOut)).word p 4 ask.lane.val) := by
  rw [exec_swapRequest, execSwapRequest]
  rw [if_neg (by simp [carries]), if_neg (Nat.not_lt.mpr seven), if_neg (by simp [swap])]

theorem exec_swapRequest_mapsOut (ask : LaneRequest) (seven : 7 ≤ (stripeOver ((s.port p).restripe ask.lane ask.mapOut).txSwap ((s.port p).restripe ask.lane ask.mapOut).txOut).length)
    (out : ask.mapOut = true) : exec (.swapRequest p ask) s =
      .next (((s.setPort p { (s.port p).restripe ask.lane ask.mapOut with state := .degraded }).word p 4 ask.lane.val).deductLasting (5 + 256 * p.val) 100) := by
  rw [exec_swapRequest, execSwapRequest]
  rw [if_neg (by simp [carries]), if_neg (Nat.not_lt.mpr seven), if_pos out]

theorem exec_swapRequest_loses (ask : LaneRequest) (few : (stripeOver ((s.port p).restripe ask.lane ask.mapOut).txSwap ((s.port p).restripe ask.lane ask.mapOut).txOut).length < 7) :
    exec (.swapRequest p ask) s = .next ((s.setPort p ((s.port p).restripe ask.lane ask.mapOut)).portDown p) := by
  rw [exec_swapRequest, execSwapRequest]
  rw [if_neg (by simp [carries]), if_pos few]

end lanes

theorem Port.restripe_mapsOut (x : Port) (lane : Fin 9) : (x.restripe lane true).txOut.getLsbD lane = true := by
  show (x.txOut ||| BitVec.twoPow 9 lane).getLsbD lane = true
  rw [BitVec.getLsbD_or, BitVec.getLsbD_twoPow]
  simp [lane.isLt]

theorem exec_swapMarker_swaps (s : State) (p : Fin 12) (lane : Fin 9) (asked : (s.port p).swapping = some lane.val) (calm : s.resil.drill = none) :
    exec (.swapMarker p lane) s =
      .next (((s.setPort p { s.port p with swapping := none, swapped := some lane.val, drilled := false }).bump 0x5030 7 1).spareUsed) := by
  rw [exec_swapMarker, execSwapMarker]
  rw [if_pos asked, calm]
  rfl

theorem exec_marginCheck_idle (s : State) (p : Fin 12) (m : List (BitVec 32)) (idle : (s.port p).carries = false ∨ (s.port p).carried = false) :
    exec (.marginCheck p m) s = .next s := by
  rw [exec_marginCheck, execMarginCheck]
  dsimp only
  rw [if_pos (by simpa using idle)]

/-- Where every lane in service and the idle spare reach the limit, the margins are recorded and nothing else happens. -/
theorem exec_marginCheck_good (s : State) (p : Fin 12) (m : List (BitVec 32)) (carries : (s.port p).carries = true) (carried : (s.port p).carried = true)
    (good : ∀ i, i < 9 → (s.port p).lanes.testBit i = true ∨ (i = 8 ∧ (s.port p).swapped = none ∧ (s.port p).swapping = none ∧ (s.port p).badLanes.getLsbD 8 = false ∧
      (s.port p).failedLanes.getLsbD 8 = false) → (f32 (m.getD i 0).toNat).lt (f32 (s.objGet 0x5021 2)) = false) :
    exec (.marginCheck p m) s = .next (s.setPort p { s.port p with margins := m }) := by
  have none_ : (List.range 9).filter (fun i => ((s.port p).lanes.testBit i || (i == 8 && ((s.port p).swapped.isNone && (s.port p).swapping.isNone && !(s.port p).badLanes.getLsbD 8 &&
      !(s.port p).failedLanes.getLsbD 8))) && (f32 (m.getD i 0).toNat).lt (f32 (s.objGet 0x5021 2))) = [] := by
    refine List.filter_eq_nil_iff.mpr fun i hi low => ?_
    obtain ⟨served, low⟩ := Bool.and_eq_true_iff.mp low
    refine Bool.false_ne_true ((good i (List.mem_range.mp hi) ?_).symm.trans low)
    simpa [and_assoc] using served
  rw [exec_marginCheck, execMarginCheck]
  dsimp only
  rw [if_neg (by simp [carries, carried]), none_]
  rfl

/-! ## Lost links -/

theorem exec_linkLost_carrying (s : State) (p : Fin 12) (carries : (s.port p).carries = true) : exec (.linkLost p) s = .next (s.portDown p) := by
  rw [exec_linkLost, execLinkLost, if_pos (.inl carries)]

theorem exec_linkLost_training (s : State) (p : Fin 12) (trains : (s.port p).state = .training) : exec (.linkLost p) s = .next (s.setPort p { s.port p with state := .detect }) := by
  rw [exec_linkLost, execLinkLost]
  simp [Port.carries, trains]

/-- What moves to the sibling on a channel: packets that the far end has not accepted, then those queued, then those injected (08 R301). -/
def Port.handed (x : Port) (p : Nat) (last : BitVec 16) (v : Nat) : List (Nat × Packet) :=
  (((x.unacked.filter (fun r => decide (0 < (r.1 - last).toNat ∧ (r.1 - last).toNat < 2 ^ 15))).map (·.2)).filter (fun k => vcIndex k == v)).map (fun k => (p, k)) ++ vget x.txQ v [] ++
    (vget x.injQ v []).map (fun k => (p, k))

/-- The queues of the sibling once a handoff has come. -/
def Port.joined (y : Port) (moved : Nat → List (Nat × Packet)) : Port :=
  { y with txQ := vset (vset y.txQ 0 (vget y.txQ 0 [] ++ moved 0)) 1 (vget y.txQ 1 [] ++ moved 1) }

theorem Port.joined_queue (y : Port) (moved : Nat → List (Nat × Packet)) (v : Nat) (hv : v < 2) : vget (y.joined moved).txQ v [] = vget y.txQ v [] ++ moved v := by
  obtain rfl | rfl : v = 0 ∨ v = 1 := by omega
  · exact (vget_vset_ne _ 1 0 _ [] (by decide)).trans (vget_vset_same _ 0 _ [] (by decide))
  · exact vget_vset_same _ 1 _ [] (by decide)

theorem exec_handoffExchange_moves (s : State) (p : Fin 12) (last : BitVec 16) (off : (s.port p).handoff = true) :
    exec (.handoffExchange p last) s = .next (((s.setPort p { s.port p with retry := [], txQ := Vector.replicate 2 [], injQ := Vector.replicate 2 [], handoff := false, detour := some (sibling p) }).modPort
      (sibling p) (fun y => y.joined ((s.port p).handed p last))).bump 0x5030 13 1) := by
  rw [exec_handoffExchange, execHandoffExchange]
  dsimp only
  rw [off, Bool.not_true, if_neg Bool.false_ne_true]
  rfl

theorem sibling_floor (p : Nat) (h : p < 8) : sibling p < 12 ∧ p ≠ sibling p := by
  unfold sibling
  split <;> omega

/-! ## Audits of one port -/

section audit
variable {s : State} {p : Fin 12} (answers : s.answers 0x5003 p) (report : List AuditReport)
include answers

theorem exec_portCreditAudit_idle (idle : ¬((s.port p).carries = true ∨ (s.port p).state = .parked)) :
    exec (.portCreditAudit p report) s = .next (s.reply 0x5003 p 0x0205) := by
  rw [exec_portCreditAudit, execPortCreditAudit, State.objectRow_answers _ _ _ _ answers, if_neg idle]

theorem exec_portCreditAudit_audits (busy : (s.port p).carries = true ∨ (s.port p).state = .parked) :
    exec (.portCreditAudit p report) s = .next (((s.reply 0x5003 p 0).setPort p { s.port p with report := report }).creditAudit p) := by
  rw [exec_portCreditAudit, execPortCreditAudit, State.objectRow_answers _ _ _ _ answers, if_pos busy]
  rfl

end audit

/-- An audit passes where each channel's credits, those owed and those in flight make 160. -/
theorem Port.auditPasses_iff (x : Port) : x.auditPasses = true ↔ ∀ v, v < 2 →
    vget x.credits v 0 + (x.report.getD v { free := 160, owed := 0, flight := 0 }).owed.toNat + (x.report.getD v { free := 160, owed := 0, flight := 0 }).flight.toNat = 160 := by
  simp [Port.auditPasses, List.all_eq_true]

/-! ## Die-to-die links -/

theorem exec_d2dLaneFailure_spare (s : State) (l : D2dSide) (left : vget (vget s.fabric.d2d l.link D2D.reset).spares l.dir 0 ≠ 0) :
    exec (.d2dLaneFailure l) s = .next ((s.modFabric (fun f => { f with d2d := vset f.d2d l.link { vget s.fabric.d2d l.link D2D.reset with
      spares := vset (vget s.fabric.d2d l.link D2D.reset).spares l.dir (vget (vget s.fabric.d2d l.link D2D.reset).spares l.dir 0 - 1) } })).spareUsed) := by
  rw [exec_d2dLaneFailure, execD2dLaneFailure]
  dsimp only
  rw [if_neg left]

theorem exec_d2dLaneFailure_loses (s : State) (l : D2dSide) (none_ : vget (vget s.fabric.d2d l.link D2D.reset).spares l.dir 0 = 0) :
    exec (.d2dLaneFailure l) s = exec (.d2dLinkLoss l.link) s := by
  rw [exec_d2dLaneFailure, execD2dLaneFailure, if_pos none_]
  rfl

theorem exec_d2dLinkLoss_again (s : State) (l : Fin 6) (lost : (vget s.fabric.d2d l D2D.reset).lost = true) : exec (.d2dLinkLoss l) s = .next s := by
  rw [exec_d2dLinkLoss, execD2dLinkLoss, State.d2dLost, lost, if_pos rfl]

/-- One lost link leaves every quarter another. -/
theorem single_loss (l : Fin 6) : (List.range 4).any (fun q => decide (2 ≤ (((List.range 6).filter (fun i => i == l.val)).filter (fun i => (d2dEnds i).1 == q || (d2dEnds i).2 == q)).length)) = false := by
  revert l
  decide

/-- The state once a link is lost, with the points that it costs. -/
def State.linkGone (s : State) (l : Nat) : State :=
  (s.modFabric (fun f => { f with d2d := vset f.d2d l { vget s.fabric.d2d l D2D.reset with lost := true } })).deduct (7 + 256 * l) 200 false

theorem State.linkGone_noted (s : State) (l : Nat) : State.Noted (s.modFabric (fun f => { f with d2d := vset f.d2d l { vget s.fabric.d2d l D2D.reset with lost := true } })) (s.linkGone l) :=
  .deduct _ _ _ _

/-- The first link to be lost costs points and nothing more. -/
theorem exec_d2dLinkLoss_first (s : State) (l : Fin 6) (all : ∀ i, i < 6 → (vget s.fabric.d2d i D2D.reset).lost = false) : exec (.d2dLinkLoss l) s = .next (s.linkGone l) := by
  have links : (s.linkGone l).fabric.d2d = vset s.fabric.d2d l { vget s.fabric.d2d l D2D.reset with lost := true } := congrArg Fabric.d2d (s.linkGone_noted l).fabric
  have lost : (List.range 6).filter (fun i => (vget (s.linkGone l).fabric.d2d i D2D.reset).lost) = (List.range 6).filter (fun i => i == l.val) := by
    refine List.filter_congr fun i hi => ?_
    rw [links]
    by_cases same : i = l
    · rw [same, vget_vset_same _ _ _ _ l.isLt, beq_self_eq_true]
    · rw [vget_vset_ne _ _ _ _ _ same, all i (List.mem_range.mp hi), beq_eq_false_iff_ne.mpr same]
  rw [exec_d2dLinkLoss, execD2dLinkLoss, State.d2dLost]
  dsimp only
  rw [all l l.isLt, if_neg Bool.false_ne_true]
  show Host.Outcome.next (if (List.range 4).any (fun q => decide (2 ≤ (((List.range 6).filter (fun i => (vget (s.linkGone l).fabric.d2d i D2D.reset).lost)).filter
    (fun i => (d2dEnds i).1 == q || (d2dEnds i).2 == q)).length)) then _ else s.linkGone l) = _
  rw [lost, single_loss l, if_neg Bool.false_ne_true]

/-! ## Sparges -/

theorem exec_spargeStart_drains (s : State) (answers : s.answers 0x5011 0) :
    exec .spargeStart s = .next ({ s with fabric := { s.fabric with sparge := .draining } }.reply 0x5011 0 0) := by
  rw [exec_spargeStart, execSpargeStart, State.objectRow_answers _ _ _ _ answers]
  rfl

theorem exec_spargeDrained_idle (s : State) (idle : s.fabric.sparge ≠ .draining ∨ s.drained = false) : exec .spargeDrained s = .next s := by
  rw [exec_spargeDrained, execSpargeDrained, if_neg]
  rintro ⟨drains, empty⟩
  rcases idle with h | h
  · exact h drains
  · exact Bool.false_ne_true (h.symm.trans empty)

/-- The state once the far ends' reports for the audit of a sparge are in. -/
def State.reported (s : State) : State := s.auditedPorts.foldl State.freshReport s

theorem State.auditedPorts_lt {s : State} {p : Nat} (h : p ∈ s.auditedPorts) : p < 12 := List.mem_range.mp (List.mem_filter.mp h).1

theorem exec_spargeDrained_audits (s : State) (drains : s.fabric.sparge = .draining) (empty : s.drained = true) :
    exec .spargeDrained s = .next (if s.auditedPorts.all (fun p => (s.reported.port p).auditPasses)
      then (s.reported.each s.auditedPorts State.creditAudit).modFabric (fun f => { f with sparge := .drained }) else s.reported.each s.auditedPorts State.creditAudit) := by
  rw [exec_spargeDrained, execSpargeDrained, if_pos ⟨drains, empty⟩]
  rfl

/-- The reports change nothing but what they report. -/
theorem State.reported_keeps (s : State) : s.reported.fabric.sparge = s.fabric.sparge ∧ s.reported.fabric.requests = s.fabric.requests ∧ s.reported.cores = s.cores ∧
    ∀ p, p < 12 → (s.reported.port p).state = (s.port p).state ∧ (s.reported.port p).credits = (s.port p).credits := by
  refine State.each_invariant (P := fun t => t.fabric.sparge = s.fabric.sparge ∧ t.fabric.requests = s.fabric.requests ∧ t.cores = s.cores ∧
    ∀ p, p < 12 → (t.port p).state = (s.port p).state ∧ (t.port p).credits = (s.port p).credits) s s.auditedPorts State.freshReport ⟨rfl, rfl, rfl, fun _ _ => ⟨rfl, rfl⟩⟩ ?_
  rintro t ⟨sparge, requests, cores, ports⟩ q -
  refine ⟨sparge, requests, cores, fun p hp => ?_⟩
  unfold State.freshReport
  dsimp only
  rw [State.port_modPort_any _ _ _ _ hp]
  split <;> exact ports p hp

/-- Audits that all pass leave all that stands. -/
theorem State.audits_pass (t : State) (l : List Nat) (good : ∀ p ∈ l, (t.port p).auditPasses = true) : (t.each l State.creditAudit).standing = t.standing := by
  refine State.each_invariant (P := fun u => u.standing = t.standing) t l _ rfl fun u same p hp => ?_
  have port : (u.port p).standing = (t.port p).standing := by rw [State.standing_port, State.standing_port, same]
  have passes : (u.port p).auditPasses = true := (congrArg Port.auditPasses port :).trans (good p hp)
  rw [u.creditAudit_passes p passes]
  exact (u.reportsAudit_standing p).trans same

theorem exec_spargeTimeout_idle (s : State) (idle : s.fabric.sparge ≠ .draining) : exec .spargeTimeout s = .next s := by
  rw [exec_spargeTimeout, execSpargeTimeout, if_neg idle]

theorem exec_spargeTimeout_aborts (s : State) (drains : s.fabric.sparge = .draining) (none_ : s.fabric.waiting = []) :
    exec .spargeTimeout s = .next ((s.modFabric (fun f => { f with sparge := .aborted })).bump 0x5011 5 1) := by
  rw [exec_spargeTimeout, execSpargeTimeout, if_pos drains, State.pump_idle _ (by exact none_)]

/-! ## Table commits -/

/-- The state but for its ports, the packets held for an injection queue, the objects and the messages. -/
def State.outsidePorts (s : State) : State :=
  { s with fabric := { s.fabric with ports := Fabric.reset.ports, held := [] }, obj := [], out := [] }

theorem State.outsidePorts_of_standing {s t : State} (h : t.standing = s.standing) : t.outsidePorts = s.outsidePorts := (congrArg State.outsidePorts h :)

theorem State.each_outsidePorts {α : Type} (s : State) (l : List α) (f : State → α → State) (hf : ∀ (s : State) (a : α), (f s a).outsidePorts = s.outsidePorts) :
    (s.each l f).outsidePorts = s.outsidePorts :=
  State.each_invariant (P := fun t => t.outsidePorts = s.outsidePorts) s l f rfl fun t ht a _ => (hf t a).trans ht

/-- The same update of every port. -/
theorem State.port_each_modPort (s : State) (f : Port → Port) (p : Nat) (hp : p < 12) : (s.each (List.range 12) (fun s p => s.modPort p f)).port p = f (s.port p) := by
  have upTo (n : Nat) : (s.each (List.range n) (fun s p => s.modPort p f)).port p = if p < n then f (s.port p) else s.port p := by
    induction n with
    | zero => rfl
    | succ n ih =>
      have step : s.each (List.range (n + 1)) (fun s p => s.modPort p f) = (s.each (List.range n) (fun s p => s.modPort p f)).modPort n f := by
        simp [State.each, List.range_succ]
      rw [step, State.port_modPort_any _ _ _ _ hp, ih]
      by_cases here : p = n
      · subst here
        simp
      · simp only [here, if_false, show p < n + 1 ↔ p < n by omega]
  rw [upTo 12, if_pos hp]

/-- A port after a commit: it holds no packet for it, no sibling carries its traffic, and it is in service again where it was PARKED (08 R302, R306). -/
def Port.committed (x : Port) : Port :=
  let x := if x.lostHeld then { x with injQ := Vector.replicate 2 [], txQ := Vector.replicate 2 [], lostHeld := false } else x
  { x with detour := none, state := if x.state = .parked then (if x.laneCount < 8 then .degraded else .up) else x.state }

theorem Port.committed_frees (x : Port) : x.committed.detour = none ∧ x.committed.state ≠ .parked ∧ x.committed.lostHeld = false := by
  refine ⟨rfl, ?_, ?_⟩
  · unfold Port.committed
    generalize (if x.lostHeld then { x with injQ := Vector.replicate 2 [], txQ := Vector.replicate 2 [], lostHeld := false } else x) = y
    dsimp only
    split
    · split <;> decide
    · assumption
  · show (if x.lostHeld then { x with injQ := Vector.replicate 2 [], txQ := Vector.replicate 2 [], lostHeld := false } else x).lostHeld = false
    split
    · rfl
    · next free => exact Bool.eq_false_iff.mpr free

/-- The staged tables are active, and the ports that carry nothing hold back what they queue. -/
def State.tablesActive (s : State) : State :=
  (s.modFabric (fun f => { f with tableA := f.tableS, gA := f.gS, sparge := .none })).each (List.range 12) (fun s p => if (s.port p).carries then s else s.holdBack p)

/-- The packets that waited for the commit. -/
def State.waited (s : State) : List Packet := (s.fabric.ports.toList.filter (·.lostHeld)).flatMap (fun (x : Port) => x.injQ.toList.flatten ++ (x.txQ.toList.flatten.map (·.2)))

/-- A packet that waited goes by the new tables, or no further. -/
def State.reroute (s : State) (k : Packet) : State := match s.route k with
  | .port q => s.modPort q (fun x => { x with injQ := vmod x.injQ (vcIndex k) (fun l => l ++ [k]) })
  | _ => if k.vc then s.bump 0x5030 9 1 else s.answerNack k 5

/-- Every port as the commit leaves it, before the packets that waited go. -/
def State.portsCommitted (s : State) : State := s.tablesActive.each (List.range 12) (fun s p => s.modPort p Port.committed)

theorem exec_tableCommit_commits (s : State) (answers : s.answers 0x5010 4) (drained : s.fabric.sparge = .drained) :
    exec .tableCommit s = .next ((((s.portsCommitted.each s.tablesActive.waited State.reroute).bump 0x5011 4 1).pump).reply 0x5010 4 0) := by
  rw [exec_tableCommit, execTableCommit, State.objectRow_answers _ _ _ _ answers, if_neg (by simp [drained])]
  unfold State.portsCommitted State.tablesActive
  rfl

theorem exec_tableCommit_early (s : State) (answers : s.answers 0x5010 4) (early : s.fabric.sparge ≠ .drained) : exec .tableCommit s = .next (s.reply 0x5010 4 0x0205) := by
  rw [exec_tableCommit, execTableCommit, State.objectRow_answers _ _ _ _ answers, if_pos early]

theorem State.Sent.reroute (s : State) (k : Packet) : s.Sent (s.reroute k) := by
  unfold State.reroute
  split
  · exact .modPort s _ _ rfl
  · split
    · exact .bump _ _ _ _ (by decide)
    · exact .answerNack s k 5

theorem State.modPort_outsidePorts (s : State) (p : Nat) (f : Port → Port) : (s.modPort p f).outsidePorts = s.outsidePorts := rfl

theorem State.holdBack_outsidePorts (s : State) (p : Nat) : (s.holdBack p).outsidePorts = s.outsidePorts := (State.outsidePorts_of_standing (s.holdBack_sent p).standing).trans (s.modPort_outsidePorts p _)

theorem State.portsCommitted_outside (s : State) :
    s.portsCommitted.outsidePorts = (s.modFabric (fun f => { f with tableA := f.tableS, gA := f.gS, sparge := .none })).outsidePorts := by
  have ports : s.portsCommitted.outsidePorts = s.tablesActive.outsidePorts := State.each_outsidePorts _ _ _ fun t p => t.modPort_outsidePorts p _
  refine ports.trans (State.each_outsidePorts _ _ _ fun t p => ?_)
  split
  · rfl
  · exact t.holdBack_outsidePorts p

/-! ## The statement -/

section lanes
variable {s : State} {p : Fin 12} (carries : (s.port p).carries = true)
include carries

theorem swapRequest_mapsOut (lane : Fin 9) (seven : 7 ≤ (stripeOver ((s.port p).restripe lane true).txSwap ((s.port p).restripe lane true).txOut).length) :
    Runs (.swapRequest p ⟨lane, true⟩) s (fun t => (t.port p).state = .degraded ∧ (t.port p).txOut.getLsbD lane = true ∧ .linkWord p 4 lane.val ∈ t.out) := by
  have marked := State.port_setPort s p { (s.port p).restripe lane true with state := .degraded } p.isLt
  have worded := State.Sent.word (s.setPort p { (s.port p).restripe lane true with state := .degraded }) p 4 lane.val
  have noted := State.Noted.deductLasting ((s.setPort p { (s.port p).restripe lane true with state := .degraded }).word p 4 lane.val) (5 + 256 * p.val) 100
  refine ⟨_, exec_swapRequest_mapsOut carries ⟨lane, true⟩ seven rfl, ?_, ?_, noted.mem_out (List.mem_append_right _ (List.mem_singleton_self _))⟩
  · dsimp only
    rw [noted.port, worded.state, marked]
  · dsimp only
    rw [noted.port, worded.txOut, marked]
    exact (s.port p).restripe_mapsOut lane

theorem swapRequest_loses (ask : LaneRequest) (few : (stripeOver ((s.port p).restripe ask.lane ask.mapOut).txSwap ((s.port p).restripe ask.lane ask.mapOut).txOut).length < 7) :
    Runs (.swapRequest p ask) s (fun t => (t.port p).state = .down) :=
  ⟨_, exec_swapRequest_loses carries ask few, ((s.setPort p _).portDown_port p p.isLt).1⟩

end lanes

theorem swapMarker_swaps (s : State) (p : Fin 12) (lane : Fin 9) (asked : (s.port p).swapping = some lane.val) (calm : s.resil.drill = none) :
    Runs (.swapMarker p lane) s (fun t => (t.port p).swapped = some lane.val ∧ (t.port p).swapping = none ∧ (t.port p).state = (s.port p).state ∧ (t.port p).credits = (s.port p).credits ∧
      t.objGet 0x5030 7 = min (2 ^ 64 - 1) (s.objGet 0x5030 7 + 1)) := by
  have noted := State.Noted.spareUsed ((s.setPort p { s.port p with swapping := none, swapped := some lane.val, drilled := false }).bump 0x5030 7 1)
  have here := noted.port p
  rw [State.port_bump, State.port_setPort _ _ _ p.isLt] at here
  refine ⟨_, exec_swapMarker_swaps s p lane asked calm, ?_⟩
  dsimp only
  rw [here]
  exact ⟨rfl, rfl, rfl, rfl, (noted.objects 0x5030 7 (by decide) (by decide) (by decide)).trans (State.objGet_bump _ _ _ _)⟩

theorem handoffExchange_moves (s : State) (p : Fin 12) (last : BitVec 16) (off : (s.port p).handoff = true) (floor : p.val < 8) :
    Runs (.handoffExchange p last) s (fun t => (t.port p).detour = some (sibling p) ∧ (t.port p).handoff = false ∧ (t.port p).retry = [] ∧
      t.objGet 0x5030 13 = min (2 ^ 64 - 1) (s.objGet 0x5030 13 + 1) ∧
      ∀ v, v < 2 → vget (t.port (sibling p)).txQ v [] = vget (s.port (sibling p)).txQ v [] ++ (s.port p).handed p last v) := by
  obtain ⟨bound, apart⟩ := sibling_floor p floor
  refine ⟨_, exec_handoffExchange_moves s p last off, ?_⟩
  dsimp only
  rw [State.port_bump, State.port_bump, State.port_modPort_ne _ _ _ _ apart, State.port_setPort _ _ _ p.isLt, State.port_modPort _ _ _ bound,
    State.port_setPort_ne _ _ _ _ (Ne.symm apart)]
  exact ⟨rfl, rfl, rfl, State.objGet_bump _ _ _ _, fun v hv => Port.joined_queue _ _ v hv⟩

/-- The audit that management asks for, by whether the sums give 160. -/
theorem portCreditAudit_audits (s : State) (p : Fin 12) (answers : s.answers 0x5003 p) (report : List AuditReport) (busy : (s.port p).carries = true ∨ (s.port p).state = .parked) :
    ((∀ v, v < 2 → vget (s.port p).credits v 0 + (report.getD v { free := 160, owed := 0, flight := 0 }).owed.toNat + (report.getD v { free := 160, owed := 0, flight := 0 }).flight.toNat = 160) →
      exec (.portCreditAudit p report) s = .next (((((s.reply 0x5003 p 0).setPort p { s.port p with report := report }).word p 6 ((s.port p).auditValue 0)).word p 6
        ((s.port p).auditValue 1)).bump 0x5030 0 1)) ∧
    (¬(∀ v, v < 2 → vget (s.port p).credits v 0 + (report.getD v { free := 160, owed := 0, flight := 0 }).owed.toNat + (report.getD v { free := 160, owed := 0, flight := 0 }).flight.toNat = 160) →
      Runs (.portCreditAudit p report) s (fun t => t.objGet 0x5030 1 = min (2 ^ 64 - 1) (s.objGet 0x5030 1 + 1) ∧ (t.port p).state = .detect)) := by
  have here := State.port_setPort (s.reply 0x5003 p 0) p { s.port p with report := report } p.isLt
  refine ⟨fun good => ?_, fun bad => ⟨_, exec_portCreditAudit_audits answers report busy, ?_⟩⟩
  · have passes : (((s.reply 0x5003 p 0).setPort p { s.port p with report := report }).port p).auditPasses = true := by
      rw [here]
      exact (Port.auditPasses_iff _).mpr good
    rw [exec_portCreditAudit_audits answers report busy, State.creditAudit_passes _ _ passes, State.reportsAudit, here]
    rfl
  · have fails : (((s.reply 0x5003 p 0).setPort p { s.port p with report := report }).port p).auditPasses = false := by
      rw [here]
      exact Bool.eq_false_iff.mpr (mt (Port.auditPasses_iff _).mp bad)
    obtain ⟨state, -, audits⟩ := State.creditAudit_fails _ p p.isLt fails
    exact ⟨audits, state⟩

theorem d2dLaneFailure_spare (s : State) (l : D2dSide) (left : vget (vget s.fabric.d2d l.link D2D.reset).spares l.dir 0 ≠ 0) :
    Runs (.d2dLaneFailure l) s (fun t => t.fabric.d2d = vset s.fabric.d2d l.link { vget s.fabric.d2d l.link D2D.reset with
      spares := vset (vget s.fabric.d2d l.link D2D.reset).spares l.dir (vget (vget s.fabric.d2d l.link D2D.reset).spares l.dir 0 - 1) } ∧ t.cores = s.cores) := by
  refine ⟨_, exec_d2dLaneFailure_spare s l left, ?_⟩
  have noted := State.Noted.spareUsed (s.modFabric (fun f => { f with d2d := vset f.d2d l.link { vget s.fabric.d2d l.link D2D.reset with
    spares := vset (vget s.fabric.d2d l.link D2D.reset).spares l.dir (vget (vget s.fabric.d2d l.link D2D.reset).spares l.dir 0 - 1) } }))
  exact ⟨congrArg Fabric.d2d noted.fabric, noted.cores⟩

theorem d2dLinkLoss_first (s : State) (l : Fin 6) (all : ∀ i, i < 6 → (vget s.fabric.d2d i D2D.reset).lost = false) :
    Runs (.d2dLinkLoss l) s (fun t => (vget t.fabric.d2d l D2D.reset).lost = true ∧ t.dev.state = s.dev.state) := by
  have noted := s.linkGone_noted l
  refine ⟨_, exec_d2dLinkLoss_first s l all, ?_, congrArg (·.state) noted.dev⟩
  rw [noted.fabric]
  exact congrArg D2D.lost (vget_vset_same _ _ _ _ l.isLt)

theorem spargeDrained_passes (s : State) (drains : s.fabric.sparge = .draining) (empty : s.drained = true) (good : ∀ p ∈ s.auditedPorts, (s.reported.port p).auditPasses = true) :
    Runs .spargeDrained s (fun t => t.fabric.sparge = .drained ∧ t.fabric.requests = s.fabric.requests ∧ t.cores = s.cores ∧
      ∀ p, p < 12 → (t.port p).state = (s.port p).state ∧ (t.port p).credits = (s.port p).credits) := by
  obtain ⟨-, requests, cores, ports⟩ := s.reported_keeps
  have stands := s.reported.audits_pass s.auditedPorts good
  refine ⟨_, exec_spargeDrained_audits s drains empty, ?_⟩
  rw [if_pos (List.all_eq_true.mpr good)]
  refine ⟨rfl, (congrArg (fun u => u.fabric.requests) stands :).trans requests, (congrArg (fun u => u.cores) stands :).trans cores, fun p hp => ?_⟩
  have port : (((s.reported.each s.auditedPorts State.creditAudit).modFabric (fun f => { f with sparge := .drained })).port p).standing = (s.reported.port p).standing := by
    rw [State.standing_port s.reported, ← stands]
    exact State.standing_port (s.reported.each s.auditedPorts State.creditAudit) p
  obtain ⟨state, credits⟩ := ports p hp
  exact ⟨(congrArg Port.state port :).trans state, (congrArg Port.credits port :).trans credits⟩

theorem spargeDrained_fails (s : State) (drains : s.fabric.sparge = .draining) (empty : s.drained = true) (bad : ¬∀ p ∈ s.auditedPorts, (s.reported.port p).auditPasses = true) :
    Runs .spargeDrained s (fun t => t.fabric.sparge = .draining) := by
  refine ⟨_, exec_spargeDrained_audits s drains empty, ?_⟩
  rw [if_neg (mt List.all_eq_true.mp bad)]
  exact State.each_invariant (P := fun t => t.fabric.sparge = .draining) _ _ _ (s.reported_keeps.1.trans drains) fun t ht p hp =>
    (t.creditAudit_sparge p (State.auditedPorts_lt hp)).trans ht

theorem spargeTimeout_aborts (s : State) (drains : s.fabric.sparge = .draining) (none_ : s.fabric.waiting = []) :
    Runs .spargeTimeout s (fun t => t.fabric = { s.fabric with sparge := .aborted } ∧ t.objGet 0x5011 5 = min (2 ^ 64 - 1) (s.objGet 0x5011 5 + 1)) :=
  ⟨_, exec_spargeTimeout_aborts s drains none_, rfl, State.objGet_bump _ _ _ _⟩

theorem tableCommit_commits (s : State) (answers : s.answers 0x5010 4) (drained : s.fabric.sparge = .drained) (none_ : s.fabric.waiting = []) :
    Runs .tableCommit s (fun t => t.fabric.tableA = s.fabric.tableS ∧ t.fabric.gA = s.fabric.gS ∧ t.fabric.sparge = .none ∧
      (∀ p, p < 12 → (t.port p).detour = none ∧ (t.port p).state ≠ .parked ∧ (t.port p).lostHeld = false) ∧ t.cores = s.cores) := by
  have sent := (State.Sent.refl s.portsCommitted).each s.tablesActive.waited State.reroute State.Sent.reroute
  have outside := (State.outsidePorts_of_standing sent.standing).trans s.portsCommitted_outside
  refine ⟨_, exec_tableCommit_commits s answers drained, ?_⟩
  generalize s.portsCommitted.each s.tablesActive.waited State.reroute = u at sent outside
  have calm : (u.bump 0x5011 4 1).fabric.waiting = [] := (congrArg (fun u => u.fabric.waiting) outside :).trans none_
  rw [State.pump_idle _ calm]
  refine ⟨(congrArg (fun u => u.fabric.tableA) outside :), (congrArg (fun u => u.fabric.gA) outside :), (congrArg (fun u => u.fabric.sparge) outside :), fun p hp => ?_,
    (congrArg (fun u => u.cores) outside :)⟩
  have committed : s.portsCommitted.port p = (s.tablesActive.port p).committed := s.tablesActive.port_each_modPort Port.committed p hp
  obtain ⟨detour, state, held⟩ := (s.tablesActive.port p).committed_frees
  rw [State.port_reply, State.port_bump, sent.detour, sent.state, sent.lostHeld, committed]
  exact ⟨detour, state, held⟩

/-- Settles O36: each lane, link and audit event is the case of its definition that its hypotheses name; what follows the loss of a link leaves the port's state and credits, and a commit's
reroutes leave all that stands of every port. -/
theorem lanesAndSparge : Obligations.LanesAndSparge := by
  unfold Obligations.LanesAndSparge
  refine ⟨fun s p => ⟨fun lane carries => ⟨?_, ?_, fun out => ⟨?_, ?_, ?_⟩, swapMarker_swaps s p lane⟩, fun m => ⟨exec_marginCheck_idle s p m, exec_marginCheck_good s p m⟩, fun carries => ?_,
    exec_linkLost_training s p, fun last off floor => ?_, fun answers report => ⟨exec_portCreditAudit_idle answers report, ?_, ?_⟩, fun l => ⟨fun dir => ⟨?_, ?_⟩, ?_, ?_⟩⟩,
    fun s => ⟨exec_spargeStart_drains s, ⟨spargeDrained_passes s, spargeDrained_fails s, exec_spargeDrained_idle s⟩, spargeTimeout_aborts s, exec_spargeTimeout_idle s,
      fun answers => ⟨exec_tableCommit_early s answers, tableCommit_commits s answers⟩⟩⟩
  · exact exec_laneFailure_swaps carries lane
  · exact exec_laneFailure_spare carries lane
  · rintro seven rfl
    exact exec_swapRequest_swaps carries ⟨lane, false⟩ seven rfl
  · rintro seven rfl
    exact swapRequest_mapsOut carries lane seven
  · exact swapRequest_loses carries ⟨lane, out⟩
  · exact ⟨_, exec_linkLost_carrying s p carries, s.portDown_port p p.isLt⟩
  · obtain ⟨t, ran, detour, done, retry, count, queues⟩ := handoffExchange_moves s p last off floor
    refine ⟨t, ran, detour, done, retry, count, fun v hv => (queues v hv).trans ?_⟩
    rw [Port.handed, List.append_assoc, ← List.append_assoc, ← List.append_assoc, List.append_assoc _ (vget _ v [])]
  · exact fun busy good => (portCreditAudit_audits s p answers report busy).1 good
  · exact fun busy bad => (portCreditAudit_audits s p answers report busy).2 bad
  · exact d2dLaneFailure_spare s ⟨l, dir⟩
  · exact exec_d2dLaneFailure_loses s ⟨l, dir⟩
  · exact exec_d2dLinkLoss_again s l
  · exact fun _ all => d2dLinkLoss_first s l all

end Sys2Proof.Machine
end

section
/-! SUPPORT. The end of a request (08 R287, R298): its tokens return to its window, and its engine has one less to wait for. -/

namespace Sys2Proof.Machine

/-! ## Window tokens -/

theorem State.tokensOut_setTokens (s : State) (d : BitVec 17) (n : Nat) : (s.setTokens d n).tokensOut d = n := by
  have gone : (s.fabric.windows.filter (fun w => w.1 != d)).find? (fun w => w.1 == d) = none := by
    refine List.find?_eq_none.mpr fun w hw => ?_
    simpa using (List.mem_filter.mp hw).2
  show (((s.fabric.windows.filter (fun w => w.1 != d) ++ if n = 0 then [] else [(d, n)]).find? (fun w => w.1 == d)).map (·.2)).getD 0 = n
  rw [List.find?_append, gone, Option.none_or]
  split
  · next zero => exact zero.symm
  · simp

/-- The request is forgotten and its tokens are back in its window. -/
def State.Closed (s t : State) (r : Request) : Prop :=
  t.fabric.requests = s.fabric.requests.filter (fun q => q.tag != r.tag) ∧ t.tokensOut r.dst = s.tokensOut r.dst - r.tokens

/-- The state once a request is forgotten and no other waits for its tokens. -/
def State.forgotten (s : State) (r : Request) : State :=
  ((s.setTokens r.dst (s.tokensOut r.dst - r.tokens)).modFabric (fun f => { f with requests := f.requests.filter (fun (x : Request) => x.tag != r.tag) })).bump 0x5060 1 r.tokens

theorem State.closeRequest_idle (s : State) (r : Request) (idle : s.fabric.waiting = []) : s.closeRequest r = s.forgotten r :=
  State.pump_idle _ idle

theorem State.finish_idle (s : State) (r : Request) (idle : s.fabric.waiting = []) : s.finish r = (s.bump 0x5060 3 1).forgotten r :=
  State.closeRequest_idle _ r idle

/-- What closes a request is its fabric alone. -/
theorem State.Closed.of_fabric {s u t : State} {r : Request} (before : u.fabric = s.fabric) (after : t.fabric = (u.forgotten r).fabric) : s.Closed t r := by
  have tokens (x y : State) (h : x.fabric = y.fabric) : x.tokensOut r.dst = y.tokensOut r.dst := by
    unfold State.tokensOut
    rw [h]
  refine ⟨?_, ?_⟩
  · rw [after]
    exact congrArg (fun f => f.requests.filter (fun (x : Request) => x.tag != r.tag)) before
  · rw [tokens t _ after, ← tokens u s before]
    exact u.tokensOut_setTokens r.dst _

theorem State.Closed.congr {s t u : State} {r : Request} (h : s.Closed t r) (requests : u.fabric.requests = t.fabric.requests) (windows : u.fabric.windows = t.fabric.windows) : s.Closed u r := by
  obtain ⟨gone, tokens⟩ := h
  refine ⟨requests.trans gone, Eq.trans ?_ tokens⟩
  unfold State.tokensOut
  rw [windows]

/-! ## Responses -/

section
variable {s : State} {p : Packet} (good : packetCrc p = p.crc) (kind : Option Nat) (f : State → Packet → Request → State)
include good

theorem State.responseIn_unknown (none_ : s.fabric.requests.find? (fun (r : Request) => r.tag == p.tag && (kind.isNone || kind == some r.kind)) = none) :
    s.responseIn none p true kind f = s.bump 0x5030 9 1 := by
  have crc : packetCrcOk p = true := by simp [packetCrcOk, good]
  unfold State.responseIn
  dsimp only [State.arrive, State.readIn, State.forMe]
  rw [crc, none_]
  rfl

theorem State.responseIn_found {r : Request} (found : s.fabric.requests.find? (fun (r : Request) => r.tag == p.tag && (kind.isNone || kind == some r.kind)) = some r) :
    s.responseIn none p true kind f = f s p r := by
  have crc : packetCrcOk p = true := by simp [packetCrcOk, good]
  unfold State.responseIn
  dsimp only [State.arrive, State.readIn, State.forMe]
  rw [crc, found]
  rfl

end

/-- What the final response to a request does beside closing it: a core loses nothing, and an engine has one request less to wait for. -/
structure Resolves (s t : State) (r : Request) : Prop where
  fabric : t.fabric = (s.finish r).fabric
  core : (∃ c, r.unit = .core c) → t.cores = (s.finish r).cores
  engine : ∀ c e seq, r.unit = .dma c e seq → ∃ g : DmaRun → DmaRun, t = (s.finish r).modRun c e seq g ∧ ∀ x, (g x).req = x.req ∧ (g x).waiting = x.waiting - 1 ∧ (g x).code = x.code

theorem Resolves.finish (s : State) (r : Request) (other : ∀ c e seq, r.unit ≠ .dma c e seq) : Resolves s (s.finish r) r :=
  ⟨rfl, fun _ => rfl, fun c e seq h => absurd h (other c e seq)⟩

theorem Resolves.modRun (s : State) (r : Request) (c e : Nat) (seq : BitVec 32) (g : DmaRun → DmaRun) (unit : r.unit = .dma c e seq)
    (hg : ∀ x, (g x).req = x.req ∧ (g x).waiting = x.waiting - 1 ∧ (g x).code = x.code) : Resolves s ((s.finish r).modRun c e seq g) r := by
  refine ⟨rfl, ?_, fun c' e' seq' h => ?_⟩
  · rintro ⟨k, h⟩
    exact absurd (unit.symm.trans h) (by simp)
  · obtain ⟨rfl, rfl, rfl⟩ : c = c' ∧ e = e' ∧ seq = seq' := by simpa using unit.symm.trans h
    exact ⟨g, rfl, hg⟩

/-- A running descriptor after an update of it. -/
theorem State.dmaRun_updated {s u : State} {c e : Nat} {seq : BitVec 32} {run : DmaRun} (hc : c < 144) (cores : u.cores = s.cores) (runs : s.dmaRun c e seq = some run) (g : DmaRun → DmaRun)
    (req : ∀ x, (g x).req = x.req) : (u.modRun c e seq g).dmaRun c e seq = some (g run) := by
  have same : u.dmaRun c e seq = some run := by
    rw [← runs]
    exact State.dmaRun_congr (congrArg (fun v : Vector Core 144 => (vget v c Core.reset).dma) cores) e seq
  have updated := u.dmaRun_modRun ⟨c, hc⟩ e seq g req
  rw [same] at updated
  exact updated

/-- How a request ends on its final response: closed, with its core left and its engine one request nearer its end. -/
theorem Resolves.ends {s t : State} {r : Request} (h : Resolves s t r) (idle : s.fabric.waiting = []) :
    s.Closed t r ∧ ((∃ c, r.unit = .core c) → t.cores = s.cores) ∧
    (∀ c e seq run, r.unit = .dma c e seq → c < 144 → s.dmaRun c e seq = some run → ∃ run', t.dmaRun c e seq = some run' ∧ run'.waiting = run.waiting - 1 ∧ run'.code = run.code) := by
  have finished := s.finish_idle r idle
  have cores : (s.finish r).cores = s.cores := by rw [finished]; rfl
  refine ⟨.of_fabric (u := s.bump 0x5060 3 1) rfl (by rw [h.fabric, finished]), fun core => (h.core core).trans cores, fun c e seq run unit hc runs => ?_⟩
  obtain ⟨g, rfl, hg⟩ := h.engine c e seq unit
  exact ⟨_, State.dmaRun_updated hc cores runs g fun x => (hg x).1, (hg run).2⟩

end Sys2Proof.Machine
end

section
/-! SUPPORT. Lines of a READ that arrive for a GLD from a segment on (04 R147; 08 R284). -/

namespace Sys2Proof.Machine

/-- One line moves the active lanes of its segment and no other lane. -/
theorem Core.takeSeg_lane (x : Core) (rd : Nat) (p : BitVec 512) (l : Line × Bool) (g i : Nat) (hd : rd < 32) (hi : i < 512) :
    lane 32 ((x.takeSeg rd p l g).v rd) i = if i / 16 = g ∧ p.getLsbD i = true then l.1.toNat / 2 ^ (32 * (i % 16)) % 2 ^ 32 else lane 32 (x.v rd) i := by
  unfold Core.takeSeg Core.putV
  dsimp only
  rw [Core.v_setV _ _ _ _ hd, lane_blend _ _ _ _ hi, BitVec.getLsbD_and, segment_mask g i hi]
  by_cases here : i / 16 = g
  · subst here
    simp [lane_placed _ _ hi]
  · simp [here]

theorem Core.takeSegs_eq (x : Core) (rd : Nat) (p : BitVec 512) (g : Nat) (l : List (Line × Bool)) :
    x.takeSegs rd p g l = l.zipIdx.foldl (fun y e => y.takeSeg rd p e.1 (g + e.2)) x := rfl

theorem Core.takeSegs_sreg (x : Core) (rd : Nat) (p : BitVec 512) (g : Nat) (l : List (Line × Bool)) : (x.takeSegs rd p g l).sreg = x.sreg :=
  List.foldlRecOn (motive := fun (y : Core) => y.sreg = x.sreg) l.zipIdx _ rfl fun _ same _ _ => same

/-- The lanes of the segments that the lines reach. -/
theorem Core.takeSegs_lane (x : Core) (rd : Nat) (p : BitVec 512) (g : Nat) (l : List (Line × Bool)) (i : Nat) (hd : rd < 32) (hi : i < 512) (low : g ≤ i / 16)
    (active : p.getLsbD i = true) :
    lane 32 ((x.takeSegs rd p g l).v rd) i = if i / 16 < g + l.length then (l.getD (i / 16 - g) (0, false)).1.toNat / 2 ^ (32 * (i % 16)) % 2 ^ 32 else lane 32 (x.v rd) i := by
  rw [Core.takeSegs_eq]
  induction l using List.reverseRecOn with
  | nil => rw [if_neg (by simpa using low)]; rfl
  | append_singleton l a ih =>
    rw [List.zipIdx_append, List.foldl_append, List.zipIdx_cons, List.zipIdx_nil, List.foldl_cons, List.foldl_nil, Core.takeSeg_lane _ _ _ _ _ _ hd hi, ih]
    dsimp only
    rw [List.length_append, List.length_singleton, Nat.zero_add]
    by_cases here : i / 16 = g + l.length
    · rw [if_pos ⟨here, active⟩, if_pos (by omega), here, Nat.add_sub_cancel_left, List.getD_append_right _ _ _ _ (le_refl _), Nat.sub_self]
      rfl
    · rw [if_neg (by simp [here])]
      by_cases below : i / 16 < g + l.length
      · rw [if_pos below, if_pos (by omega), List.getD_append _ _ _ _ (by omega)]
      · rw [if_neg below, if_neg (by omega)]

end Sys2Proof.Machine
end

section
/-! O38: responses, and packets for other devices (08 R285 to R291, R298, R299). -/

namespace Sys2Proof.Machine

theorem exec_writeAck (via : Option (Fin 12)) (p : Packet) (s : State) : exec (.writeAck via p) s = execWriteAck via p s := rfl
theorem exec_atomicResp (via : Option (Fin 12)) (p : Packet) (s : State) : exec (.atomicResp via p) s = execAtomicResp via p s := rfl
theorem exec_signalAck (via : Option (Fin 12)) (p : Packet) (s : State) : exec (.signalAck via p) s = execSignalAck via p s := rfl
theorem exec_collAck (via : Option (Fin 12)) (p : Packet) (s : State) : exec (.collAck via p) s = execCollAck via p s := rfl
theorem exec_syncAck (via : Option (Fin 12)) (p : Packet) (s : State) : exec (.syncAck via p) s = execSyncAck via p s := rfl
theorem exec_nack (via : Option (Fin 12)) (p : Packet) (s : State) : exec (.nack via p) s = execNack via p s := rfl
theorem exec_readData (via : Option (Fin 12)) (p : Packet) (s : State) : exec (.readData via p) s = execReadData via p s := rfl
theorem exec_responseTimeout (tag : BitVec 16) (s : State) : exec (.responseTimeout tag) s = execResponseTimeout tag s := rfl
theorem exec_packetForward (i : Fin 12) (p : Packet) (s : State) : exec (.packetForward i p) s = execPacketForward i p s := rfl

/-! ## Final responses -/

/-- A response that its request's engine only counts. -/
def State.acknowledged (s : State) (r : Request) : State := match r.unit with
  | .dma c e n => (s.finish r).dmaAnswered c e n
  | _ => s.finish r

theorem State.acknowledged_resolves (s : State) (r : Request) : Resolves s (s.acknowledged r) r := by
  unfold State.acknowledged
  split
  · next c e n unit => exact .modRun s r c e n _ unit fun _ => ⟨rfl, rfl, rfl⟩
  · next other => exact .finish s r other

theorem exec_writeAck_acknowledges (s : State) (p : Packet) (type : p.type = 16) :
    exec (.writeAck none p) s = .next (s.responseIn none p true (some 0) (fun s _ r => s.acknowledged r)) := by
  rw [exec_writeAck, execWriteAck, type]
  rfl

theorem exec_signalAck_acknowledges (s : State) (p : Packet) (type : p.type = 19) :
    exec (.signalAck none p) s = .next (s.responseIn none p true (some 3) (fun s _ r => s.acknowledged r)) := by
  rw [exec_signalAck, execSignalAck, type]
  rfl

/-- What an ATOMIC_RESP gives its request: a CAS its old line, consumed where it is poisoned. -/
def State.atomicAnswered (s : State) (q : Packet) (r : Request) : State :=
  let s := s.finish r
  match r.unit with
  | .dma c e n =>
    let s := s.modRun c e n (fun x => { x with waiting := x.waiting - 1, fetched := x.fetched ++ (match q.payload with
      | l :: _ => [{ ep := r.dst, addr := r.addr, data := l, poison := packetLinePoison q 0 }]
      | [] => []) })
    if packetLinePoison q 0 && !q.payload.isEmpty then s.consume (r.addr / 64) (144 + 2 * c + e) r.stream r.job else s
  | _ => s

theorem State.atomicAnswered_resolves (s : State) (q : Packet) (r : Request) (empty : q.payload = []) : Resolves s (s.atomicAnswered q r) r := by
  unfold State.atomicAnswered
  dsimp only
  split
  · next c e n unit =>
    rw [if_neg (by simp [empty])]
    exact .modRun s r c e n _ unit fun _ => ⟨rfl, rfl, rfl⟩
  · next other => exact .finish s r other

theorem exec_atomicResp_answers (s : State) (p : Packet) (type : p.type = 18) :
    exec (.atomicResp none p) s = .next (s.responseIn none p true (some 2) State.atomicAnswered) := by
  rw [exec_atomicResp, execAtomicResp, type]
  rfl

theorem exec_collAck_finishes (s : State) (p : Packet) (type : p.type = 20) :
    exec (.collAck none p) s = .next (s.responseIn none p true (some 4) (fun s _ r => s.finish r)) := by
  rw [exec_collAck, execCollAck, type]
  rfl

theorem exec_syncAck_finishes (s : State) (p : Packet) (type : p.type = 21) :
    exec (.syncAck none p) s = .next (s.responseIn none p true (some 5) (fun s _ r => s.finish r)) := by
  rw [exec_syncAck, execSyncAck, type]
  rfl

/-! ## NACK -/

/-- A descriptor's run after a NACK with a status (08 R288). -/
def DmaRun.refused (status : Nat) (x : DmaRun) : DmaRun :=
  { x with waiting := x.waiting - 1, code := if x.code = 0 then (if status = 6 then 0x070D else 0x070B) else x.code }

/-- The state once a NACK has come and its request is forgotten. -/
def State.nacked (s : State) (r : Request) (status : BitVec 8) : State :=
  ((s.bump 0x5030 5 1).bump 0x5060 3 (if status = 8 then 0 else 1)).forgotten r

theorem exec_nack_engine (s : State) (p : Packet) (r : Request) (good : packetCrc p = p.crc) (idle : s.fabric.waiting = []) (type : p.type = 31)
    (found : s.fabric.requests.find? (fun q => q.tag == p.tag) = some r) (sure : p.status ≠ 8) (c e : Nat) (seq : BitVec 32) (unit : r.unit = .dma c e seq) :
    exec (.nack none p) s = .next ((s.nacked r p.status).modRun c e seq (DmaRun.refused p.status.toNat)) := by
  have mine : decide (22 ≤ p.type.toNat) = true := by rw [type]; rfl
  have status : p.status.toNat ≠ 8 := fun h => sure (BitVec.eq_of_toNat_eq h)
  have any : s.fabric.requests.find? (fun (q : Request) => q.tag == p.tag && ((none : Option Nat).isNone || none == some q.kind)) = some r := by
    simpa using found
  rw [exec_nack, execNack, mine, if_pos type, State.responseIn_found good _ _ any]
  dsimp only
  rw [State.closeRequest_idle ((s.bump 0x5030 5 1).bump 0x5060 3 _) r idle, State.failRequest, if_neg status, unit]
  rfl

theorem State.nacked_closed (s : State) (r : Request) (status : BitVec 8) : s.Closed (s.nacked r status) r := .of_fabric rfl rfl

theorem State.forgotten_cores (s : State) (r : Request) : (s.forgotten r).cores = s.cores := rfl

theorem State.nacked_cores (s : State) (r : Request) (status : BitVec 8) : (s.nacked r status).cores = s.cores := by
  unfold State.nacked
  rw [State.forgotten_cores]
  rfl

theorem State.nacked_counts (s : State) (r : Request) (status : BitVec 8) : (s.nacked r status).objGet 0x5030 5 = min (2 ^ 64 - 1) (s.objGet 0x5030 5 + 1) := by
  refine (State.objGet_objSet_ne _ 0x5060 1 _ 0x5030 5 (by decide)).trans ?_
  refine (State.objGet_objSet_ne _ 0x5060 3 _ 0x5030 5 (by decide)).trans ?_
  exact State.objGet_bump _ _ _ _

/-! ## READ_DATA -/

/-- The lines of a READ_DATA with their poison. -/
def packetLines (p : Packet) : List (Line × Bool) := p.payload.zipIdx.map (fun (x : Line × Nat) => (x.1, packetLinePoison p x.2))

theorem length_packetLines (p : Packet) : (packetLines p).length = p.payload.length := by simp [packetLines]

theorem packetLines_getD (p : Packet) (i : Nat) : ((packetLines p).getD i (0, false)).1 = p.payload.getD i 0 := by
  unfold packetLines
  rw [List.getD_eq_getElem?_getD, List.getD_eq_getElem?_getD, List.getElem?_map, List.getElem?_zipIdx]
  cases p.payload[i]? <;> rfl

/-- The core of a GLD that has its last lines. -/
def Core.gldLoaded (x : Core) (rd : BitVec 5) (pr : BitVec 3) (g : Nat) (l : List (Line × Bool)) : Core := { x.takeSegs rd.toNat (x.p pr.toNat) g l with wait := .none }

theorem exec_readData_loads (s : State) (p : Packet) (r : Request) (c : Nat) (rd : BitVec 5) (pr : BitVec 3) (good : packetCrc p = p.crc) (type : p.type = 17)
    (found : s.fabric.requests.find? (fun q => q.tag == p.tag && some 1 == some q.kind) = some r) (unit : r.unit = .core c) (waits : (s.core c).wait = .gld rd pr)
    (only : ∀ q ∈ s.readsOut c, q.tag = r.tag) (shut : s.stepOpenFor r.job = false) (last : r.lines ≤ r.got + p.payload.length) :
    exec (.readData none p) s = .next ((s.setCore c ((s.core c).gldLoaded rd pr (r.reg + p.addr.toNat / 64) (packetLines p))).finish r) := by
  have any : s.fabric.requests.find? (fun (q : Request) => q.tag == p.tag && ((some 1 : Option Nat).isNone || some 1 == some q.kind)) = some r := found
  have all : (s.readsOut c).all (fun (q : Request) => q.tag == r.tag) = true := List.all_eq_true.mpr fun q hq => beq_iff_eq.mpr (only q hq)
  have complete : decide (r.lines ≤ r.got + (packetLines p).length) = true := by rw [length_packetLines]; exact decide_eq_true last
  have delivered : s.deliver r p.addr.toNat (packetLines p) = (s.setCore c ((s.core c).gldLoaded rd pr (r.reg + p.addr.toNat / 64) (packetLines p))).finish r := by
    unfold State.deliver
    dsimp only
    rw [unit, complete]
    dsimp only
    rw [if_pos rfl, State.modCore, waits]
    dsimp only
    rw [all, Bool.true_and, if_pos rfl]
    rfl
  rw [exec_readData, execReadData, type, show ((17 : BitVec 5) == 17) = true from rfl, State.responseIn_found good _ _ any]
  dsimp only
  rw [shut, if_neg Bool.false_ne_true]
  exact congrArg Host.Outcome.next delivered

theorem readData_loads (s : State) (p : Packet) (r : Request) (c : Nat) (rd : BitVec 5) (pr : BitVec 3) (idle : s.fabric.waiting = []) (hc : c < 144)
    (fits : r.reg + p.addr.toNat / 64 + p.payload.length ≤ 32) :
    let t := (s.setCore c ((s.core c).gldLoaded rd pr (r.reg + p.addr.toNat / 64) (packetLines p))).finish r
    s.Closed t r ∧ (t.core c).wait = .none ∧ (t.core c).sreg = (s.core c).sreg ∧
      ∀ i, i < 16 * p.payload.length → ((s.core c).p pr.toNat).getLsbD (16 * (r.reg + p.addr.toNat / 64) + i) = true →
        lane 32 ((t.core c).v rd.toNat) (16 * (r.reg + p.addr.toNat / 64) + i) = (p.payload.getD (i / 16) 0).toNat / 2 ^ (32 * (i % 16)) % 2 ^ 32 := by
  dsimp only
  generalize r.reg + p.addr.toNat / 64 = g at fits
  have finished := State.finish_idle (s.setCore c ((s.core c).gldLoaded rd pr g (packetLines p))) r idle
  have core : (((s.setCore c ((s.core c).gldLoaded rd pr g (packetLines p))).finish r).core c) = (s.core c).gldLoaded rd pr g (packetLines p) := by
    rw [finished]
    exact State.core_setCore _ _ _ hc
  refine ⟨.of_fabric (u := (s.setCore c ((s.core c).gldLoaded rd pr g (packetLines p))).bump 0x5060 3 1) rfl (by rw [finished]), ?_⟩
  rw [core]
  refine ⟨rfl, Core.takeSegs_sreg _ _ _ _ _, fun i hi active => ?_⟩
  have segment : (16 * g + i) / 16 = g + i / 16 := by omega
  have taken := (s.core c).takeSegs_lane rd.toNat ((s.core c).p pr.toNat) g (packetLines p) (16 * g + i) rd.isLt (by omega) (by omega) active
  rw [length_packetLines, if_pos (by omega), segment, Nat.add_sub_cancel_left, packetLines_getD, show (16 * g + i) % 16 = i % 16 by omega] at taken
  exact taken

/-! ## RESPONSE_TIMEOUT -/

theorem exec_responseTimeout_doubts (s : State) (tag : BitVec 16) (r : Request) (idle : s.fabric.waiting = []) (found : s.fabric.requests.find? (fun q => q.tag == tag) = some r)
    (outside : 8 ≤ r.job) :
    exec (.responseTimeout tag) s = .next (((s.forgotten r).modFabric (fun f => { f with inDoubt := f.inDoubt ++ [r] })).bump 0x5030 6 1) := by
  rw [exec_responseTimeout, execResponseTimeout, found]
  dsimp only
  rw [State.closeRequest_idle s r idle, State.inDoubt]
  rw [if_neg (Nat.not_lt.mpr outside)]

/-! ## PACKET_FORWARD -/

/-- The packet as it goes on: one hop more, in the plane of its port (08 R285, R289). -/
def packetHopped (p : Packet) (q : Nat) : Packet := { p with hops := p.hops + 1, plane := if q < 8 then decide (4 ≤ q) else p.plane }

/-- The state with the packet in the transmit queue of the port that carries it. -/
def State.forwarded (s : State) (i : Nat) (p : Packet) (q : Nat) : State :=
  (s.bump 0x5030 3 1).modPort (s.carrier q) (fun x => { x with txQ := vmod x.txQ (vcIndex p) (fun l => l ++ [(i, packetHopped p q)]) })

section forward
variable {s : State} {i : Fin 12} {p : Packet} {e : BitVec 17} {q : Nat} (carries : (s.port i).carries = true) (here : s.ep = some e) (away : p.dst ≠ e) (floor : i.val < 8)
  (young : p.hops ≠ 63) (clean : p.poison = 0) (routed : s.route (s.onRing i p) = .port q) (open_ : s.fabric.sparge ≠ .drained)
include carries here away floor young clean routed open_

theorem exec_packetForward_forwards : exec (.packetForward i p) s =
    .next (if (s.port (s.carrier q)).lostHeld then (s.forwarded i p q).freeBuffer i (vcIndex p) else s.forwarded i p q) := by
  have whole : s.readIn (some i) p = p := by
    unfold State.readIn
    dsimp only
    rw [packetAllPoison, if_pos clean, ite_self]
  have calm : (s.bump 0x5030 3 1).spargeTraffic = s.bump 0x5030 3 1 := by
    unfold State.spargeTraffic
    exact if_neg open_
  have table : (s.bump 0x5030 3 1).objGet 0x5000 2 = s.objGet 0x5000 2 := State.objGet_objSet_ne s 0x5030 3 _ 0x5000 2 (by decide)
  have floors : (s.bump 0x5030 3 1).floorMask = s.floorMask := by
    funext f
    unfold State.floorMask
    rw [table]
    rfl
  have route (k : Packet) : (s.bump 0x5030 3 1).route k = s.route k := by
    unfold State.route
    rw [floors]
    rfl
  rw [exec_packetForward, execPacketForward, if_neg (by simp [State.delivers, carries, here, Ne.symm away])]
  dsimp only
  rw [whole, calm, if_neg (by omega), if_neg young, route, show (s.bump 0x5030 3 1).onRing i p = s.onRing i p from rfl, routed]
  rfl

omit carries here away floor young clean routed open_ in
theorem State.forwarded_queue (s : State) (i : Nat) (p : Packet) (q : Nat) (hq : s.carrier q < 12) :
    vget ((s.forwarded i p q).port (s.carrier q)).txQ (vcIndex p) [] = vget (s.port (s.carrier q)).txQ (vcIndex p) [] ++ [(i, packetHopped p q)] := by
  have channel : vcIndex p < 2 := by unfold vcIndex; split <;> decide
  unfold State.forwarded
  rw [State.port_modPort _ _ _ hq]
  dsimp only
  rw [vmod_eq_vset _ _ _ [], vget_vset_same _ _ _ _ channel]
  rfl

theorem packetForward_forwards (bound : s.carrier q < 12) : Runs (.packetForward i p) s (fun t => ∃ k,
    vget (t.port (s.carrier q)).txQ (vcIndex p) [] = vget (s.port (s.carrier q)).txQ (vcIndex p) [] ++ [(i.val, k)] ∧
    k.hops = p.hops + 1 ∧ k.payload = p.payload ∧ k.crc = p.crc ∧ k.dst = p.dst ∧ k.tag = p.tag) := by
  have queue := s.forwarded_queue i p q bound
  refine ⟨_, exec_packetForward_forwards carries here away floor young clean routed open_, packetHopped p q, ?_, rfl, rfl, rfl, rfl, rfl⟩
  split
  · rw [(State.Sent.freeBuffer (s.forwarded i p q) i (vcIndex p)).txQ]
    exact queue
  · exact queue

end forward

/-- Settles O38: a response finds its request by tag and kind, and what it does beside closing it is to count at the request's engine, to give it a code, or to give a core its lines. -/
theorem fabricResponses : Obligations.FabricResponses := by
  unfold Obligations.FabricResponses
  intro s p good idle closed ends
  have finishes (r : Request) : s.Closed (s.finish r) r ∧ (s.finish r).cores = s.cores := by
    rw [s.finish_idle r idle]
    exact ⟨.of_fabric (u := s.bump 0x5060 3 1) rfl rfl, rfl⟩
  have ended (ty kind : Nat) (i : Instr) (f : State → Packet → Request → State) (runs : p.type = BitVec.ofNat 5 ty → exec i s = .next (s.responseIn none p true (some kind) f))
      (resolves : ∀ r, p.payload = [] → Resolves s (f s p r) r ∨ (19 < ty ∧ f s p r = s.finish r)) : ends ty kind i := by
    refine fun type empty => ⟨fun r found => ⟨f s p r, (runs type).trans (congrArg Host.Outcome.next (State.responseIn_found good (some kind) f found)), ?_⟩, fun none_ => ?_⟩
    · rcases resolves r empty with resolved | ⟨large, only⟩
      · obtain ⟨shut, core, engine⟩ := resolved.ends idle
        exact ⟨shut, core, fun c e seq run unit _ hc _ => engine c e seq run unit hc⟩
      · rw [only]
        exact ⟨(finishes r).1, fun _ => (finishes r).2, fun _ _ _ _ _ small => absurd small (Nat.not_le.mpr large)⟩
    · exact (runs type).trans (congrArg Host.Outcome.next (State.responseIn_unknown good (some kind) f none_))
  refine ⟨ended 16 0 _ _ (exec_writeAck_acknowledges s p) fun r _ => .inl (s.acknowledged_resolves r),
    ended 18 2 _ _ (exec_atomicResp_answers s p) fun r empty => .inl (s.atomicAnswered_resolves p r empty),
    ended 19 3 _ _ (exec_signalAck_acknowledges s p) fun r _ => .inl (s.acknowledged_resolves r),
    ended 20 4 _ _ (exec_collAck_finishes s p) fun r _ => .inr ⟨by decide, rfl⟩, ended 21 5 _ _ (exec_syncAck_finishes s p) fun r _ => .inr ⟨by decide, rfl⟩,
    fun type r found sure ⟨c, e, seq, unit⟩ => ?_, fun type r c rd pr found unit hc waits only shut last fits => ?_, fun tag r found outside => ?_,
    fun i q e carries here away floor young clean routed bound open_ => packetForward_forwards carries here away floor young clean routed open_ bound⟩
  · refine ⟨_, exec_nack_engine s p r good idle type found sure c e seq unit, s.nacked_closed r p.status, s.nacked_counts r p.status, ?_⟩
    intro c' e' seq' run unit' hc _ runs
    obtain ⟨rfl, rfl, rfl⟩ : c = c' ∧ e = e' ∧ seq = seq' := by simpa using unit.symm.trans unit'
    refine ⟨_, State.dmaRun_updated hc (s.nacked_cores r p.status) runs (DmaRun.refused p.status.toNat) fun _ => rfl, rfl, ?_⟩
    have six : p.status.toNat = 6 ↔ p.status = 6 := BitVec.toNat_inj (y := 6)
    simp only [DmaRun.refused, six]
  · exact ⟨_, exec_readData_loads s p r c rd pr good type found unit waits only shut last, readData_loads s p r c rd pr idle hc fits⟩
  · exact ⟨_, exec_responseTimeout_doubts s tag r idle found outside, (State.Closed.of_fabric (u := s) (t := s.forgotten r) rfl rfl).congr rfl rfl, rfl⟩

end Sys2Proof.Machine
end

section
/-! SUPPORT. The accesses that wait for a retrained channel (06 R214): no access that goes on adds to them, whatever errors it meets. -/

namespace Sys2Proof.Machine

/-- The accesses that wait. -/
def State.deferred (s : State) : List (Instr × List Nat) := s.mem.deferred

theorem State.deferred_of_mem {s t : State} (h : t.mem = s.mem) : t.deferred = s.deferred := congrArg MemSys.deferred h

@[simp] theorem State.modMem_deferred (s : State) (f : MemSys → MemSys) (h : ∀ m, (f m).deferred = m.deferred) : (s.modMem f).deferred = s.deferred := h s.mem
@[simp] theorem State.modStack_deferred (s : State) (k : Nat) (f : Stack → Stack) : (s.modStack k f).deferred = s.deferred := rfl
@[simp] theorem State.setStack_deferred (s : State) (k : Nat) (x : Stack) : (s.setStack k x).deferred = s.deferred := rfl
@[simp] theorem State.setCore_deferred (s : State) (k : Nat) (x : Core) : (s.setCore k x).deferred = s.deferred := rfl
@[simp] theorem State.bump_deferred (s : State) (o m n : Nat) : (s.bump o m n).deferred = s.deferred := rfl
@[simp] theorem State.takeFree_deferred (s : State) : s.takeFree.2.deferred = s.deferred := rfl
@[simp] theorem State.resil_deferred (s : State) (r : Resil) : State.deferred { s with resil := r } = s.deferred := rfl
@[simp] theorem State.rack_deferred (s : State) (r : Rack) : State.deferred { s with rack := r } = s.deferred := rfl
@[simp] theorem State.each_deferred {α : Type} (s : State) (l : List α) (f : State → α → State) (hf : ∀ (s : State) (a : α), (f s a).deferred = s.deferred) :
    (s.each l f).deferred = s.deferred :=
  State.each_invariant (P := fun t => t.deferred = s.deferred) s l f rfl fun t ht a _ => (hf t a).trans ht

/-! ## HBM -/

@[simp] theorem State.warning_deferred (s : State) : s.warning.deferred = s.deferred := State.deferred_of_mem s.warning_mem
@[simp] theorem State.deduct_deferred (s : State) (kind points : Nat) (transient : Bool) : (s.deduct kind points transient).deferred = s.deferred :=
  State.deferred_of_mem (s.deduct_mem kind points transient)
@[simp] theorem State.putHbm_deferred (s : State) (ln : Nat) (d : Line) (mask : BitVec 64) (poison : Bool) : (s.putHbm ln d mask poison).deferred = s.deferred := rfl
@[simp] theorem State.poisonStored_deferred (s : State) (ln : Nat) : (s.poisonStored ln).deferred = s.deferred := rfl
@[simp] theorem State.queueRetrain_deferred (s : State) (k ch : Nat) : (s.queueRetrain k ch).deferred = s.deferred := rfl
@[simp] theorem State.checkDrift_deferred (s : State) (k : Nat) : (s.checkDrift k).deferred = s.deferred := s.each_deferred _ _ fun s c => s.queueRetrain_deferred k c

@[simp] theorem State.openWindow_deferred (s : State) (k : Nat) : (s.openWindow k).deferred = s.deferred := by
  unfold State.openWindow
  dsimp only
  split <;> rfl

@[simp] theorem State.wakeStack_deferred (s : State) (k : Nat) : (s.wakeStack k).deferred = s.deferred := by simp [State.wakeStack, apply_ite State.deferred]
@[simp] theorem State.pinCorrected_deferred (s : State) (k ch pin : Nat) : (s.pinCorrected k ch pin).deferred = s.deferred := by
  simp [State.pinCorrected, apply_ite State.deferred]
@[simp] theorem State.hbmUncorrectable_deferred (s : State) (ln : Nat) (scrub : Bool) : (s.hbmUncorrectable ln scrub).deferred = s.deferred := by
  simp [State.hbmUncorrectable, apply_ite State.deferred]
@[simp] theorem State.scrambleSector_deferred (s : State) (ln sector : Nat) : (s.scrambleSector ln sector).deferred = s.deferred := by
  simp [State.scrambleSector, apply_ite State.deferred]

@[simp] theorem State.sectorError_deferred (s : State) (k ln sector : Nat) (pins : List Nat) (scrub : Bool) : (s.sectorError k ln sector pins scrub).deferred = s.deferred := by
  unfold State.sectorError
  dsimp only
  split
  · rfl
  · simp [apply_ite State.deferred]
  · split
    · simp
    · split <;> simp

@[simp] theorem State.readSectors_deferred (s : State) (k ln : Nat) (sectors : List Nat) (scrub : Bool) : (s.readSectors k ln sectors scrub).deferred = s.deferred := by
  simp [State.readSectors, apply_ite State.deferred]
@[simp] theorem State.unhide_deferred (s : State) (ln : Nat) : (s.unhide ln).deferred = s.deferred := by simp [State.unhide, apply_ite State.deferred]
@[simp] theorem State.reachHbm_deferred (s : State) (k ln : Nat) : (s.reachHbm k ln).deferred = s.deferred := by simp [State.reachHbm, apply_ite State.deferred]

/-! ## The Tun -/

@[simp] theorem State.wakeSlices_deferred (s : State) (ln : Nat) : (s.wakeSlices ln).deferred = s.deferred := by simp [State.wakeSlices, apply_ite State.deferred]
@[simp] theorem State.dropEntry_deferred (s : State) (q ln : Nat) : (s.dropEntry q ln).deferred = s.deferred := by simp [State.dropEntry, apply_ite State.deferred]
@[simp] theorem State.countCache_deferred (s : State) (q : Nat) (hit : Bool) : (s.countCache q hit).deferred = s.deferred := by simp [State.countCache, apply_ite State.deferred]

@[simp] theorem State.tunError_deferred (s : State) (ln : Nat) : (s.tunError ln).deferred = s.deferred := by
  unfold State.tunError
  split
  · simp [apply_ite State.deferred]
  · rfl
  · rfl

@[simp] theorem State.meetTun_deferred (s : State) (ln : Nat) : (s.meetTun ln).deferred = s.deferred := by simp [State.meetTun, apply_ite State.deferred]
@[simp] theorem State.clearErrors_deferred (s : State) (ln : Nat) : (s.clearErrors ln).deferred = s.deferred := by simp [State.clearErrors, apply_ite State.deferred]

@[simp] theorem State.putLine_deferred (s : State) (ln : Nat) (d : Line) (mask : BitVec 64) (poison : Bool) : (s.putLine ln d mask poison).deferred = s.deferred := by
  unfold State.putLine
  split <;> rfl

@[simp] theorem State.flushEntry_deferred (s : State) (q ln : Nat) : (s.flushEntry q ln).deferred = s.deferred := by
  unfold State.flushEntry
  split
  · simp [apply_ite State.deferred]
  · rfl

@[simp] theorem State.writeBackLine_deferred (s : State) (ln : Nat) : (s.writeBackLine ln).deferred = s.deferred := by
  unfold State.writeBackLine
  split
  · simp
  · rfl

@[simp] theorem State.evict_deferred (s : State) (q ln : Nat) : (s.evict q ln).deferred = s.deferred := by simp [State.evict, apply_ite State.deferred]
@[simp] theorem State.allocate_deferred (s : State) (q ln : Nat) (dirty keep : Bool) : (s.allocate q ln dirty keep).deferred = s.deferred := by simp [State.allocate]
@[simp] theorem State.cacheLine_deferred (s : State) (q ln : Nat) (dirty : Bool) (cls : Nat) : (s.cacheLine q ln dirty cls).deferred = s.deferred := by
  simp [State.cacheLine, apply_ite State.deferred]

@[simp] theorem State.touchRead_deferred (s : State) (ln cls : Nat) : (s.touchRead ln cls).deferred = s.deferred := by
  unfold State.touchRead
  split
  · dsimp only
    split
    · simp
    · simp [apply_ite State.deferred]
  · simp
  · rfl

@[simp] theorem State.touchRange_deferred (s : State) (a n cls : Nat) : (s.touchRange a n cls).deferred = s.deferred := by simp [State.touchRange, apply_ite State.deferred]

@[simp] theorem State.copyFirst_deferred (s : State) (ln : Nat) : (s.copyFirst ln).deferred = s.deferred := by
  unfold State.copyFirst
  dsimp only
  split
  · rw [State.bump_deferred, State.bump_deferred, State.takeFree_deferred, State.rack_deferred]
    exact s.each_deferred _ _ fun t i => t.touchRead_deferred _ 1
  · rfl

/-- A write of a line outside HBM. -/
theorem State.tunWrite_deferred (s : State) (ln : Nat) (d : Line) (mask : BitVec 64) (poison : Bool) (cls : Nat) (elsewhere : ∀ k, s.home (64 * ln) ≠ some (.hbm k)) :
    (s.tunWrite ln d mask poison cls).deferred = s.deferred := by
  unfold State.tunWrite
  split
  · rfl
  · split
    · next k hk => exact absurd hk (elsewhere k)
    · simp [apply_ite State.deferred]
    · simp

/-! ## Adders -/

@[simp] theorem State.bufferLine_deferred (s : State) (k ln : Nat) : (s.bufferLine k ln).deferred = s.deferred := by simp [State.bufferLine, apply_ite State.deferred]

@[simp] theorem State.adder_deferred (s : State) (op mask ln : Nat) (x cmp : Line) (poison ordered : Bool) : (s.adder op mask ln x cmp poison ordered).1.deferred = s.deferred := by
  unfold State.adder
  dsimp only
  split
  · split
    · rfl
    · split <;> simp
  · rfl

end Sys2Proof.Machine
end

section
/-! SUPPORT. Whole lines written outside HBM, and lines written on end (06 R199, R202, R207). -/

namespace Sys2Proof.Machine

/-! ## A whole line -/

/-- State `t` is state `s` after a whole line and its poison have replaced a line. -/
structure State.Replaces (ln : Nat) (x : Line × Bool) (s t : State) : Prop where
  home : t.home = s.home
  here : t.line ln = x
  others : ∀ l, l ≠ ln → t.line l = s.line l

theorem fullMask_keeps (old poison : Bool) : (poison || (fullMask != fullMask && old)) = poison := by simp

theorem State.tunWrite_full_local (s : State) (ln : Nat) (d : Line) (poison : Bool) (k o : Nat) (hh : s.home (64 * ln) = some (.localMem k o)) :
    State.Replaces ln (d, poison) s (s.tunWrite ln d fullMask poison) := by
  obtain ⟨⟨⟨cs, same⟩, -⟩, others, here⟩ := s.tunWrite_local ln d fullMask poison 0 k o hh
  obtain ⟨-, hk, -, -⟩ := (s.home_local _ k o).mp hh
  have home : (s.tunWrite ln d fullMask poison).home = s.home := by rw [same]; rfl
  have written : ((s.tunWrite ln d fullMask poison).core k).lPoison = sput (s.core k).lPoison (o / 64) (poison || (fullMask != fullMask && (s.core k).lPoison.contains (o / 64))) := by
    unfold State.tunWrite
    rw [if_neg (by decide), hh]
    dsimp only
    unfold State.putLine
    rw [hh]
    exact congrArg Core.lPoison (State.core_setCore _ _ _ hk)
  refine ⟨home, Prod.ext (here.trans (mergeLine_full _ _)) ?_, others⟩
  rw [State.line_local _ ln k o (by rw [home]; exact hh), written, fullMask_keeps]
  exact contains_sput_same _ _ _

theorem State.putLine_full_scratch (s : State) (ln : Nat) (d : Line) (poison : Bool) (q sl : Nat) (hh : s.home (64 * ln) = some (.scratch q sl)) :
    State.Replaces ln (d, poison) s (s.putLine ln d fullMask poison) := by
  unfold State.putLine
  rw [hh]
  dsimp only
  rw [mergeLine_full, fullMask_keeps]
  generalize ht : ({ s with mem := { s.mem with cells := msetN zeroByte s.mem.cells (64 * ln) (lineBytes d), poison := sput s.mem.poison ln poison } } : State) = t
  have mem : t.mem = { s.mem with cells := msetN zeroByte s.mem.cells (64 * ln) (lineBytes d), comb := s.mem.comb, poison := sput s.mem.poison ln poison } := by rw [← ht]
  have outside : t.outsideMem = s.outsideMem := by rw [← ht]; rfl
  obtain ⟨home, -, -, -⟩ := State.home_of_stores outside mem
  refine ⟨home, ?_, fun l hl => State.line_of_stores outside mem l (fun u => mgetN_msetN_line_ne _ u _ _ _ _ hl) (contains_sput_ne _ _ _ _ hl) fun p => ?_⟩
  · rw [t.line_scratch ln q sl (by rw [home]; exact hh), mem]
    exact Prod.ext (lineOf_mgetN_msetN _ _ _ _) (contains_sput_same _ _ _)
  · unfold State.combEntry
    rw [mem]

theorem State.home_clearErrors (s : State) (ln : Nat) : (s.clearErrors ln).home = s.home := by
  unfold State.clearErrors
  split <;> rfl

/-- A whole line written through the Tun outside HBM, whatever errors wait in the memories. -/
theorem State.tunWrite_full (s : State) (ln : Nat) (d : Line) (poison : Bool) (placed : s.home (64 * ln) ≠ none) (elsewhere : ∀ k, s.home (64 * ln) ≠ some (.hbm k)) :
    State.Replaces ln (d, poison) s (s.tunWrite ln d fullMask poison) := by
  obtain ⟨place, hh⟩ := Option.ne_none_iff_exists'.mp placed
  cases place with
  | hbm k => exact absurd hh (elsewhere k)
  | localMem k o => exact s.tunWrite_full_local ln d poison k o hh
  | scratch q sl =>
    have woken := State.SameButSleep.wakeSlices s ln
    have home : ((s.wakeSlices ln).clearErrors ln).home = s.home := (State.home_clearErrors _ ln).trans woken.home
    have line : ((s.wakeSlices ln).clearErrors ln).line = s.line := (State.line_clearErrors _ ln).trans (State.line_congr woken.readView)
    have put := ((s.wakeSlices ln).clearErrors ln).putLine_full_scratch ln d poison q sl (by rw [home]; exact hh)
    have written : s.tunWrite ln d fullMask poison = ((s.wakeSlices ln).clearErrors ln).putLine ln d fullMask poison := by
      unfold State.tunWrite
      rw [if_neg (by decide), hh]
      dsimp only
      rw [if_pos rfl]
    rw [written]
    exact ⟨put.home.trans home, put.here, fun l hl => by rw [put.others l hl, line]⟩

/-- Selected bytes of a line written through the Tun outside HBM where no error waits: the case of no byte changes nothing. -/
theorem State.tunWrite_bytes (s : State) (ln : Nat) (d : Line) (mask : BitVec 64) (poison : Bool) (errors : s.mem.errors = []) (placed : s.home (64 * ln) ≠ none)
    (elsewhere : ∀ k, s.home (64 * ln) ≠ some (.hbm k)) :
    (s.tunWrite ln d mask poison).home = s.home ∧ (s.tunWrite ln d mask poison).mem.errors = [] ∧ ((s.tunWrite ln d mask poison).line ln).1 = mergeLine (s.line ln).1 d mask ∧
      ∀ l, l ≠ ln → (s.tunWrite ln d mask poison).line l = s.line l := by
  by_cases empty : mask = 0
  · subst empty
    have none_ : s.tunWrite ln d 0 poison = s := if_pos rfl
    rw [none_]
    exact ⟨rfl, errors, (mergeLine_none _ _).symm, fun _ _ => rfl⟩
  · have put := s.tunWrite_elsewhere ln d mask empty poison 0 errors (Option.isSome_iff_ne_none.mpr placed) elsewhere
    exact ⟨put.home, put.errors, put.here, put.others⟩

/-! ## Lines on end -/

/-- Writes of lines on end from the line `b`, each of which changes its own line alone: what relates a line to what it was, where it was written,
and what every write keeps. -/
theorem State.each_onEnd {P : State → Prop} (W : Nat → Line × Bool → Line × Bool → Prop) (b : Nat) (f : State → Line × Nat → State) (l : List Line) (s : State) (start : P s)
    (one : ∀ (t : State) (x : Line × Nat), x ∈ l.zipIdx → P t → P (f t x) ∧ W x.2 (t.line (b + x.2)) ((f t x).line (b + x.2)) ∧ ∀ k, k ≠ b + x.2 → (f t x).line k = t.line k) :
    P (s.each l.zipIdx f) ∧ (∀ i, i < l.length → W i (s.line (b + i)) ((s.each l.zipIdx f).line (b + i))) ∧
      ∀ k, (∀ i, i < l.length → k ≠ b + i) → (s.each l.zipIdx f).line k = s.line k := by
  induction l using List.reverseRecOn with
  | nil => exact ⟨start, fun _ h => absurd h (Nat.not_lt_zero _), fun _ _ => rfl⟩
  | append_singleton l a ih =>
    have last : (l ++ [a]).zipIdx = l.zipIdx ++ [(a, l.length)] := by simp [List.zipIdx_append]
    have length : (l ++ [a]).length = l.length + 1 := by simp
    have step : s.each (l ++ [a]).zipIdx f = f (s.each l.zipIdx f) (a, l.length) := by
      rw [last]
      exact List.foldl_append
    obtain ⟨kept, written, others⟩ := ih fun t x hx => one t x (by rw [last]; exact List.mem_append_left _ hx)
    obtain ⟨keeps, writes, leaves⟩ := one (s.each l.zipIdx f) (a, l.length) (by rw [last]; simp) kept
    rw [step, length]
    refine ⟨keeps, fun i hi => ?_, fun k hk => ?_⟩
    · by_cases here : i = l.length
      · subst here
        rw [← others (b + l.length) fun i hi => by omega]
        exact writes
      · rw [leaves (b + i) (by dsimp only; omega)]
        exact written i (by omega)
    · rw [leaves k (hk l.length (Nat.lt_succ_self _)), others k fun i hi => hk i (by omega)]

theorem getD_of_mem_zipIdx {l : List Line} {x : Line × Nat} (h : x ∈ l.zipIdx) : x.1 = l.getD x.2 0 ∧ x.2 < l.length := by
  obtain ⟨-, bound, same⟩ := List.mem_zipIdx h
  refine ⟨?_, by omega⟩
  rw [List.getD_eq_getElem _ _ (by omega)]
  simpa using same

end Sys2Proof.Machine
end

section
/-! SUPPORT. A request that has come to this device (08 R285 to R287): what its arrival leaves, and how its row goes on. -/

namespace Sys2Proof.Machine

/-! ## Arrival -/

/-- State `t` is state `s` for every access to the device: its memories, units and windows are left. -/
structure State.SameDevice (s t : State) : Prop where
  mem : t.mem = s.mem
  sync : t.sync = s.sync
  esc : t.esc = s.esc
  rack : t.rack = s.rack
  home : t.home = s.home
  line : t.line = s.line

namespace State.SameDevice

theorem refl (s : State) : s.SameDevice s := ⟨rfl, rfl, rfl, rfl, rfl, rfl⟩

theorem trans {s t u : State} (h : s.SameDevice t) (h' : t.SameDevice u) : s.SameDevice u :=
  ⟨h'.mem.trans h.mem, h'.sync.trans h.sync, h'.esc.trans h.esc, h'.rack.trans h.rack, h'.home.trans h.home, h'.line.trans h.line⟩

theorem bump (s : State) (o m n : Nat) (apart : ∀ x ∈ placeMembers, 256 * x.1 + x.2 ≠ 256 * o + m) : s.SameDevice (s.bump o m n) := by
  obtain ⟨home, line⟩ := s.line_bump o m n apart
  exact ⟨rfl, rfl, rfl, rfl, home, line⟩

theorem sent {s t : State} (h : s.Sent t) : s.SameDevice t := by
  obtain ⟨home, line⟩ := State.line_of_places h.mem h.cores fun x hx => h.objects x.1 x.2 fun tally => by
    revert x
    decide
  exact ⟨h.mem, h.sync, h.esc, congrArg (fun u => u.rack) h.standing, home, line⟩

theorem spargeTraffic (s : State) : s.SameDevice s.spargeTraffic := by
  unfold State.spargeTraffic
  split
  · exact ⟨rfl, rfl, rfl, rfl, rfl, rfl⟩
  · exact refl s

theorem arrive (s : State) (via : Option (Fin 12)) (p : Packet) : s.SameDevice (s.arrive via p) := by
  cases via with
  | none => exact refl s
  | some i => exact (bump s 0x5030 3 1 (by decide)).trans ((sent (State.Sent.freeBuffer _ _ _)).trans (spargeTraffic _))

section
variable {s t : State} (h : s.SameDevice t)
include h

theorem retraining : t.retraining = s.retraining := by
  unfold State.retraining State.prioFull State.prioUsed
  rw [h.mem, h.rack]

theorem inLocalRun : t.inLocalRun = s.inLocalRun := by
  unfold State.inLocalRun
  rw [h.esc]

theorem counterOwner (n : Nat) : t.counterOwner n = s.counterOwner n := by
  unfold State.counterOwner State.blockOwner
  rw [h.sync]

theorem counter (n : Nat) : t.counter n = s.counter n := by
  unfold State.counter
  rw [h.sync]

end
end State.SameDevice

/-- The state once a request has come. -/
def State.requestTaken (s : State) (via : Option (Fin 12)) (p : Packet) : State := (s.arrive via p).bump 0x5060 4 1

theorem State.requestTaken_same (s : State) (via : Option (Fin 12)) (p : Packet) : s.SameDevice (s.requestTaken via p) :=
  (State.SameDevice.arrive s via p).trans (.bump _ 0x5060 4 1 (by decide))

/-! ## Rows of requests -/

section
variable {s : State} {via : Option (Fin 12)} {p : Packet} (here : s.forMe via p = true) (f : State → Packet → State)
include here

theorem State.requestIn_trailer (bad : packetCrc p ≠ p.crc) : s.requestIn via p true f = (s.requestTaken via p).nackTo p 3 := by
  have crc : packetCrcOk p = false := by simp [packetCrcOk, bad]
  unfold State.requestIn
  rw [here, crc]
  rfl

variable (good : packetCrc p = p.crc) (clean : ∀ i, via = some i → (s.port i).features.getLsbD 2 = true)
include good clean

theorem State.requestIn_read : s.requestIn via p true f = if packetHeaderBad p then (s.requestTaken via p).nackTo p 2 else f (s.requestTaken via p) p := by
  have crc : packetCrcOk p = true := by simp [packetCrcOk, good]
  have whole : s.readIn via p = p := by
    cases via with
    | none => rfl
    | some i => exact if_pos (clean i rfl)
  unfold State.requestIn
  rw [here, crc]
  dsimp only
  rw [whole]
  rfl

theorem State.requestIn_header (bad : packetHeaderBad p = true) : s.requestIn via p true f = (s.requestTaken via p).nackTo p 2 := by
  rw [State.requestIn_read here f good clean, if_pos bad]

theorem State.requestIn_good (ok : packetHeaderBad p = false) : s.requestIn via p true f = f (s.requestTaken via p) p := by
  rw [State.requestIn_read here f good clean, if_neg (by rw [ok]; decide)]

end

/-! ## Accesses that go on -/

/-- An access with no channel offline goes on, and counts nothing back. -/
theorem State.accessIn_online (s : State) (online : s.retraining = false) (c : Instr) (lines : List Nat) (need : Nat → Option Nat) (f : State → State) (kept : (f s).deferred = s.deferred) :
    s.accessIn c lines need f = f s := by
  unfold State.accessIn
  rw [s.access_online online]
  exact if_pos (congrArg List.length kept)

theorem State.linesInWindow_unrecorded (s : State) (a n : Nat) (unrecorded : s.esc.record = none) : s.linesInWindow a n = false := by simp [State.linesInWindow, unrecorded]

theorem State.writeRecs_unrecorded (s : State) (p : Packet) (unrecorded : s.esc.record = none) : s.writeRecs p = [] := by simp [State.writeRecs, unrecorded]

theorem State.recordThen_nothing (s : State) (f : State → State) : s.recordThen [] f = f s := rfl

theorem State.localHold_outside (s : State) (mine : Bool) (outside : s.inLocalRun = false) : s.localHold mine = false := by simp [State.localHold, outside]

end Sys2Proof.Machine
end

section
/-! O37: requests of the fabric (08 R284 to R287, R522; 09 R315). -/

namespace Sys2Proof.Machine

theorem exec_writePacket (via : Option (Fin 12)) (p : Packet) (s : State) : exec (.writePacket via p) s = execWritePacket via p s := rfl
theorem exec_maskedWrite (via : Option (Fin 12)) (p : Packet) (s : State) : exec (.maskedWrite via p) s = execMaskedWrite via p s := rfl
theorem exec_readPacket (via : Option (Fin 12)) (p : Packet) (s : State) : exec (.readPacket via p) s = execReadPacket via p s := rfl
theorem exec_atomicPacket (via : Option (Fin 12)) (p : Packet) (s : State) : exec (.atomicPacket via p) s = execAtomicPacket via p s := rfl
theorem exec_signalPacket (via : Option (Fin 12)) (p : Packet) (s : State) : exec (.signalPacket via p) s = execSignalPacket via p s := rfl

/-- The row of the request type `t` is one that the request comes to. -/
theorem exec_requestRow (s : State) (via : Option (Fin 12)) (p : Packet) (t : Nat) (ht : t < 4) (type : p.type = BitVec.ofNat 5 t) (whole : t = 0 → p.sub ≠ 1) :
    ∃ f, exec ([Instr.writePacket via p, .readPacket via p, .atomicPacket via p, .signalPacket via p].getD t (.writePacket via p)) s = .next (s.requestIn via p true f) := by
  match t, ht with
  | 0, _ =>
    have full : (p.sub != 1) = true := bne_iff_ne.mpr (whole rfl)
    have mine : ((p.type == 0 && p.sub != 1) || decide (6 ≤ p.type.toNat ∧ p.type.toNat < 16)) = true := by rw [type, full]; rfl
    exact ⟨_, by rw [List.getD_cons_zero, exec_writePacket, execWritePacket, mine]⟩
  | 1, _ => exact ⟨_, by rw [List.getD_cons_succ, List.getD_cons_zero, exec_readPacket, execReadPacket, type]; rfl⟩
  | 2, _ => exact ⟨_, by rw [List.getD_cons_succ, List.getD_cons_succ, List.getD_cons_zero, exec_atomicPacket, execAtomicPacket, type]; rfl⟩
  | 3, _ => exact ⟨_, by rw [List.getD_cons_succ, List.getD_cons_succ, List.getD_cons_succ, List.getD_cons_zero, exec_signalPacket, execSignalPacket, type]; rfl⟩

/-! ## The answer of an ATOMIC -/

/-- What an ATOMIC answers of what its adder makes of it. -/
def atomicAnswer (p : Packet) (r : State × Option AdderOut) : State := match r.2 with
  | none => r.1.nackTo p 6
  | some o => if adderCas p.sub.toNat then r.1.respond p 18 0 [o.old] [o.poison] 0 true else r.1.respond p 18 0 [] [] 0 true

theorem atomicAnswer_refused {p : Packet} {r : State × Option AdderOut} (h : r.2 = none) : atomicAnswer p r = r.1.nackTo p 6 := by
  unfold atomicAnswer
  rw [h]

theorem atomicAnswer_taken {p : Packet} {r : State × Option AdderOut} {o : AdderOut} (h : r.2 = some o) :
    atomicAnswer p r = if adderCas p.sub.toNat then r.1.respond p 18 0 [o.old] [o.poison] 0 true else r.1.respond p 18 0 [] [] 0 true := by
  unfold atomicAnswer
  rw [h]

theorem atomicAnswer_sent (p : Packet) (r : State × Option AdderOut) : r.1.Sent (atomicAnswer p r) := by
  unfold atomicAnswer
  split
  · exact .respond _ _ _ _ _ _ _ _
  · split <;> exact .respond _ _ _ _ _ _ _ _

/-! ## The answers of a READ -/

/-- The lines of part `k` of a READ. -/
def State.readPart (v : State) (a n k : Nat) : List (Line × Bool) := (List.range (min 4 (n - 4 * k))).map (fun i => v.line (a / 64 + 4 * k + i))

/-- The READ_DATA of part `k`. -/
def State.answerPart (z : State) (p : Packet) (n k : Nat) (l : List (Line × Bool)) : State :=
  z.respond p 17 0 (l.map (·.1)) (l.map (·.2)) (BitVec.ofNat 42 (256 * k)) (k + 1 == ceilDiv n 4)

/-- All READ_DATA packets of a READ. -/
def State.readAnswers (v : State) (p : Packet) (a n : Nat) : State := v.each (List.range (ceilDiv n 4)) (fun z k => z.answerPart p n k (z.readPart a n k))

theorem State.answerPart_sent (z : State) (p : Packet) (n k : Nat) (l : List (Line × Bool)) : z.Sent (z.answerPart p n k l) := .respond _ _ _ _ _ _ _ _

theorem State.each_append_one {α : Type} (s : State) (l : List α) (a : α) (f : State → α → State) : s.each (l ++ [a]) f = f (s.each l f) a := List.foldl_append

/-- The answers read the lines as they stand before the first. -/
theorem State.readAnswers_eq (v : State) (p : Packet) (a n : Nat) :
    v.readAnswers p a n = v.each (List.range (ceilDiv n 4)) (fun z k => z.answerPart p n k (v.readPart a n k)) := by
  unfold State.readAnswers
  generalize List.range (ceilDiv n 4) = parts
  induction parts using List.reverseRecOn with
  | nil => simp only [State.each, List.foldl_nil]
  | append_singleton parts k ih =>
    have sent : v.SameDevice (v.each parts (fun z k => z.answerPart p n k (v.readPart a n k))) :=
      .sent (.each (.refl v) parts (fun z k => z.answerPart p n k (v.readPart a n k)) fun u k => u.answerPart_sent p n k (v.readPart a n k))
    rw [State.each_append_one, State.each_append_one, ih]
    generalize v.each parts (fun z k => z.answerPart p n k (v.readPart a n k)) = t at sent
    rw [State.readPart, State.readPart, sent.line]

/-! ## The lines of a WRITE -/

/-- The whole lines of a WRITE, with their poison. -/
def State.fullWrites (u : State) (p : Packet) : State :=
  u.each p.payload.zipIdx (fun (t : State) (x : Line × Nat) => t.tunWrite (p.addr.toNat / 64 + x.2) x.1 fullMask (packetLinePoison p x.2))

/-- The selected bytes of a masked WRITE: its first line is the mask. -/
def State.maskedWrites (u : State) (p : Packet) : State :=
  u.each (p.payload.drop 1).zipIdx (fun (t : State) (x : Line × Nat) => t.tunWrite (p.addr.toNat / 64 + x.2) x.1 (maskOf (p.payload.getD 0 0) x.2) (packetLinePoison p (x.2 + 1)))

/-- The lines of a request that are assigned outside HBM. -/
def State.elsewhere (s : State) (a n : Nat) : Prop := ∀ i, i < n → s.home (a + 64 * i) ≠ none ∧ ∀ k, s.home (a + 64 * i) ≠ some (.hbm k)

theorem State.elsewhere.line {s : State} {a n : Nat} (h : s.elsewhere a n) (aligned : a % 64 = 0) (i : Nat) (hi : i < n) :
    s.home (64 * (a / 64 + i)) ≠ none ∧ ∀ k, s.home (64 * (a / 64 + i)) ≠ some (.hbm k) := by
  rw [show 64 * (a / 64 + i) = a + 64 * i by omega]
  exact h i hi

theorem State.elsewhere.assigned {s : State} {a n : Nat} (h : s.elsewhere a n) : s.linesAssigned a n = true :=
  List.all_eq_true.mpr fun i hi => Option.isSome_iff_ne_none.mpr (h i (List.mem_range.mp hi)).1

theorem State.SameDevice.elsewhere {s t : State} (same : s.SameDevice t) {a n : Nat} (h : s.elsewhere a n) : t.elsewhere a n := by
  unfold State.elsewhere
  rw [same.home]
  exact h

theorem State.fullWrites_lines (u : State) (p : Packet) (aligned : p.addr.toNat % 64 = 0) (placed : u.elsewhere p.addr.toNat p.payload.length) :
    ((u.fullWrites p).home = u.home ∧ (u.fullWrites p).deferred = u.deferred) ∧
    (∀ i, i < p.payload.length → (u.fullWrites p).line (p.addr.toNat / 64 + i) = (p.payload.getD i 0, p.poison.getLsbD i)) ∧
    ∀ l, (∀ i, i < p.payload.length → l ≠ p.addr.toNat / 64 + i) → (u.fullWrites p).line l = u.line l := by
  refine State.each_onEnd (P := fun t => t.home = u.home ∧ t.deferred = u.deferred) (fun i _ new => new = (p.payload.getD i 0, p.poison.getLsbD i)) _ _ _ u ⟨rfl, rfl⟩
    fun t x hx ⟨home, waiting⟩ => ?_
  obtain ⟨value, bound⟩ := getD_of_mem_zipIdx hx
  obtain ⟨assigned, apart⟩ := placed.line aligned x.2 bound
  rw [← home] at assigned apart
  have put := t.tunWrite_full (p.addr.toNat / 64 + x.2) x.1 (packetLinePoison p x.2) assigned apart
  exact ⟨⟨put.home.trans home, (t.tunWrite_deferred _ _ _ _ 0 apart).trans waiting⟩, by rw [put.here, value]; rfl, put.others⟩

theorem State.maskedWrites_lines (u : State) (p : Packet) (errors : u.mem.errors = []) (aligned : p.addr.toNat % 64 = 0) (placed : u.elsewhere p.addr.toNat (p.payload.length - 1)) :
    (u.maskedWrites p).deferred = u.deferred ∧
    (∀ i, i < p.payload.length - 1 → ((u.maskedWrites p).line (p.addr.toNat / 64 + i)).1 =
      mergeLine (u.line (p.addr.toNat / 64 + i)).1 (p.payload.getD (i + 1) 0) ((p.payload.getD 0 0).extractLsb' (64 * i) 64)) ∧
    ∀ l, (∀ i, i < p.payload.length - 1 → l ≠ p.addr.toNat / 64 + i) → (u.maskedWrites p).line l = u.line l := by
  have length : (p.payload.drop 1).length = p.payload.length - 1 := List.length_drop
  obtain ⟨⟨-, -, kept⟩, written, others⟩ := State.each_onEnd (P := fun t => t.home = u.home ∧ t.mem.errors = [] ∧ t.deferred = u.deferred)
    (fun i old new => new.1 = mergeLine old.1 (p.payload.getD (i + 1) 0) (maskOf (p.payload.getD 0 0) i)) (p.addr.toNat / 64)
    (fun (t : State) (x : Line × Nat) => t.tunWrite (p.addr.toNat / 64 + x.2) x.1 (maskOf (p.payload.getD 0 0) x.2) (packetLinePoison p (x.2 + 1))) (p.payload.drop 1) u ⟨rfl, errors, rfl⟩
    fun t x hx ⟨home, quiet, waiting⟩ => by
      obtain ⟨value, bound⟩ := getD_of_mem_zipIdx hx
      obtain ⟨assigned, apart⟩ := placed.line aligned x.2 (by omega)
      rw [← home] at assigned apart
      have put := t.tunWrite_bytes (p.addr.toNat / 64 + x.2) x.1 (maskOf (p.payload.getD 0 0) x.2) (packetLinePoison p (x.2 + 1)) quiet assigned apart
      obtain ⟨stays, clear, here, rest⟩ := put
      have next : x.1 = p.payload.getD (x.2 + 1) 0 := by
        rw [value, List.getD_eq_getElem?_getD, List.getD_eq_getElem?_getD, List.getElem?_drop, Nat.add_comm]
      exact ⟨⟨stays.trans home, clear, (t.tunWrite_deferred _ _ _ _ 0 apart).trans waiting⟩, by rw [here, next], rest⟩
  rw [length] at written others
  exact ⟨kept, written, others⟩

/-! ## Rows -/

section rows
variable {s : State} {via : Option (Fin 12)} {p : Packet} (here : s.forMe via p = true) (outside : s.inLocalRun = false) (unrecorded : s.esc.record = none) (online : s.retraining = false)
  (clean : ∀ i, via = some i → (s.port i).features.getLsbD 2 = true) (good : packetCrc p = p.crc) (ok : packetHeaderBad p = false)
include here outside unrecorded online clean good ok

omit online in
theorem exec_signalPacket_adds (type : p.type = 3) (sub : p.sub = 0) (len : p.len = 0) (range : p.addr.toNat < 65536) :
    exec (.signalPacket via p) s = .next (if 8 ≤ s.counterOwner p.addr.toNat then ((s.requestTaken via p).counterAdd p.addr.toNat 0).nackTo p 1 else
      ((s.requestTaken via p).counterAdd p.addr.toNat p.arg.toInt).respond p 19 0 [] [] 0 true) := by
  have same := s.requestTaken_same via p
  have free : (s.requestTaken via p).esc.record.isSome = false := by rw [same.esc, unrecorded]; rfl
  have mine : (p.type == 3) = true := by rw [type]; rfl
  rw [exec_signalPacket, execSignalPacket, mine, State.requestIn_good here _ good clean ok]
  dsimp only
  rw [if_neg (by simp [sub, len, range]), State.localHold_outside _ _ (same.inLocalRun.trans outside), if_neg Bool.false_ne_true, same.counterOwner, free]
  rfl

theorem exec_atomicPacket_applies (type : p.type = 2) (aligned : p.addr.toNat % 64 = 0) (mask : adderMaskOk p.sub.toNat p.arg.toNat = true)
    (operands : p.payload.length = if adderCas p.sub.toNat then 2 else 1) :
    let r := (s.requestTaken via p).adder p.sub.toNat p.arg.toNat (p.addr.toNat / 64) (p.payload.getD 0 0) (p.payload.getD 1 0) ((List.range p.payload.length).any p.poison.getLsbD) false
    exec (.atomicPacket via p) s = .next (atomicAnswer p r) := by
  have same := s.requestTaken_same via p
  have mine : (p.type == 2) = true := by rw [type]; rfl
  have unlisted (a n : Nat) : (s.requestTaken via p).linesInWindow a n = false := State.linesInWindow_unrecorded _ a n (by rw [same.esc]; exact unrecorded)
  dsimp only
  rw [exec_atomicPacket, execAtomicPacket, mine, State.requestIn_good here _ good clean ok]
  dsimp only
  rw [if_neg (by simp [aligned, mask, operands]), State.localHold_outside _ _ (same.inLocalRun.trans outside), if_neg Bool.false_ne_true,
    State.accessIn_online _ (same.retraining.trans online)]
  · rw [unlisted]
    rfl
  · rw [unlisted, if_neg Bool.false_ne_true, State.recordThen_nothing]
    have kept := (s.requestTaken via p).adder_deferred p.sub.toNat p.arg.toNat (p.addr.toNat / 64) (p.payload.getD 0 0) (p.payload.getD 1 0) ((List.range p.payload.length).any (packetLinePoison p)) false
    exact (State.deferred_of_mem (atomicAnswer_sent p _).mem).trans kept

omit outside unrecorded in
theorem exec_readPacket_answers (type : p.type = 1) (sub : p.sub = 0) (len : p.len = 0) (some_ : 1 ≤ p.arg.toNat) (few : p.arg.toNat ≤ 32) (aligned : p.addr.toNat % 64 = 0)
    (assigned : (s.requestTaken via p).linesAssigned p.addr.toNat p.arg.toNat = true) :
    exec (.readPacket via p) s = .next (((s.requestTaken via p).touchRange p.addr.toNat (64 * p.arg.toNat)).readAnswers p p.addr.toNat p.arg.toNat) := by
  have same := s.requestTaken_same via p
  have mine : (p.type == 1) = true := by rw [type]; rfl
  rw [exec_readPacket, execReadPacket, mine, State.requestIn_good here _ good clean ok]
  dsimp only
  rw [if_neg (by simp [sub, len, aligned]; omega), assigned, if_neg (by decide), State.accessIn_online _ (same.retraining.trans online)]
  · rfl
  · refine Eq.trans ?_ ((s.requestTaken via p).touchRange_deferred p.addr.toNat (64 * p.arg.toNat) 0)
    exact State.each_deferred _ _ _ fun u k => State.deferred_of_mem (u.answerPart_sent p p.arg.toNat k (u.readPart p.addr.toNat p.arg.toNat k)).mem

omit unrecorded online in
theorem exec_writePacket_taken (type : p.type = 0) (sub : p.sub = 0) (arg : p.arg = 0) (len : p.len ≠ 0) (aligned : p.addr.toNat % 64 = 0)
    (cellar : (List.range p.payload.length).all (fun i => (s.requestTaken via p).cellarTakes p.src (p.addr.toNat + 64 * i)) = false) :
    exec (.writePacket via p) s = .next (if (s.requestTaken via p).linesAssigned p.addr.toNat p.payload.length then
      (s.requestTaken via p).accessIn (.writePacket none p) (linesIn p.addr.toNat (64 * p.payload.length)) (fun ln => (s.requestTaken via p).writeChan ln fullMask)
        (fun s => s.recordThen (s.writeRecs p) (fun s => (s.fullWrites p).respond p 16 0 [] [] 0 true)) else (s.requestTaken via p).nackTo p 1) := by
  have same := s.requestTaken_same via p
  have mine : ((p.type == 0 && p.sub != 1) || decide (6 ≤ p.type.toNat ∧ p.type.toNat < 16)) = true := by rw [type, sub]; rfl
  have well : ¬(p.type ≠ 0 ∨ p.sub ≠ 0 ∨ p.arg ≠ 0 ∨ p.len = 0 ∨ p.addr.toNat % 64 ≠ 0) := by
    rintro (h | h | h | h | h)
    exacts [h type, h sub, h arg, len h, h aligned]
  rw [exec_writePacket, execWritePacket, mine, State.requestIn_good here _ good clean ok]
  dsimp only
  rw [if_neg well, cellar, if_neg Bool.false_ne_true, State.localHold_outside _ _ (same.inLocalRun.trans outside), if_neg Bool.false_ne_true]
  cases (s.requestTaken via p).linesAssigned p.addr.toNat p.payload.length <;> rfl

theorem exec_writePacket_stores (type : p.type = 0) (sub : p.sub = 0) (arg : p.arg = 0) (len : p.len ≠ 0) (aligned : p.addr.toNat % 64 = 0)
    (cellar : (List.range p.payload.length).all (fun i => (s.requestTaken via p).cellarTakes p.src (p.addr.toNat + 64 * i)) = false)
    (placed : s.elsewhere p.addr.toNat p.payload.length) :
    exec (.writePacket via p) s = .next (((s.requestTaken via p).fullWrites p).respond p 16 0 [] [] 0 true) := by
  have same := s.requestTaken_same via p
  obtain ⟨⟨-, kept⟩, -, -⟩ := (s.requestTaken via p).fullWrites_lines p aligned (same.elsewhere placed)
  have records : (s.requestTaken via p).writeRecs p = [] := State.writeRecs_unrecorded _ p (by rw [same.esc]; exact unrecorded)
  rw [exec_writePacket_taken here outside clean good ok type sub arg len aligned cellar, if_pos (same.elsewhere placed).assigned,
    State.accessIn_online _ (same.retraining.trans online)]
  · rw [records]
    rfl
  · rw [records, State.recordThen_nothing]
    exact (State.deferred_of_mem (State.Sent.respond _ _ _ _ _ _ _ _).mem).trans kept

theorem exec_maskedWrite_stores (type : p.type = 0) (sub : p.sub = 1) (arg : p.arg = 0) (aligned : p.addr.toNat % 64 = 0) (mask : packetMaskBad p = false) (errors : s.mem.errors = [])
    (placed : s.elsewhere p.addr.toNat (p.payload.length - 1)) :
    exec (.maskedWrite via p) s = .next (((s.requestTaken via p).maskedWrites p).respond p 16 0 [] [] 0 true) := by
  have same := s.requestTaken_same via p
  have mine : (p.type == 0 && p.sub == 1) = true := by rw [type, sub]; rfl
  have well : ¬(p.arg ≠ 0 ∨ p.addr.toNat % 64 ≠ 0 ∨ packetMaskBad p = true) := by simp [arg, aligned, mask]
  obtain ⟨kept, -, -⟩ := (s.requestTaken via p).maskedWrites_lines p (by rw [same.mem]; exact errors) aligned (same.elsewhere placed)
  have unlisted (a n : Nat) : (s.requestTaken via p).linesInWindow a n = false := State.linesInWindow_unrecorded _ a n (by rw [same.esc]; exact unrecorded)
  rw [exec_maskedWrite, execMaskedWrite, mine, State.requestIn_good here _ good clean ok]
  dsimp only
  rw [if_neg well, (same.elsewhere placed).assigned, if_neg (by decide), State.localHold_outside _ _ (same.inLocalRun.trans outside), if_neg Bool.false_ne_true,
    State.accessIn_online _ (same.retraining.trans online)]
  · rw [unlisted]
    rfl
  · rw [unlisted, if_neg Bool.false_ne_true, State.recordThen_nothing]
    exact (State.deferred_of_mem (State.Sent.respond _ _ _ _ _ _ _ _).mem).trans kept

end rows

/-- Settles O37: a request's row acts on the state that its arrival leaves, whose memories, windows and counters are those before it. -/
theorem fabricRequests : Obligations.FabricRequests := by
  unfold Obligations.FabricRequests
  intro s via p here outside unrecorded online clean u a n good elsewhere row
  have same : s.SameDevice u := s.requestTaken_same via p
  refine ⟨fun t ht type full => ?_, fun type sub ⟨crc, ok⟩ arg len aligned cellar => ⟨fun placed => ?_, fun unassigned => ?_⟩,
    fun type sub ⟨crc, ok⟩ arg aligned mask errors placed => ?_, fun type sub ⟨crc, ok⟩ len some_ few aligned assigned => ?_,
    fun type ⟨crc, ok⟩ aligned mask operands => ?_, fun type sub ⟨crc, ok⟩ len range => ?_⟩
  · obtain ⟨f, runs⟩ := exec_requestRow s via p t ht type full
    exact ⟨fun bad => runs.trans (congrArg Host.Outcome.next (State.requestIn_trailer here f bad)),
      fun crc bad => runs.trans (congrArg Host.Outcome.next (State.requestIn_header here f crc clean bad))⟩
  · obtain ⟨-, written, others⟩ := u.fullWrites_lines p aligned (same.elsewhere placed)
    refine ⟨_, exec_writePacket_stores here outside unrecorded online clean crc ok type sub arg len aligned cellar placed, u.fullWrites p, rfl, written, fun l apart => ?_⟩
    rw [others l apart, same.line]
  · rw [exec_writePacket_taken here outside clean crc ok type sub arg len aligned cellar]
    exact congrArg Host.Outcome.next (if_neg (Bool.eq_false_iff.mp unassigned))
  · obtain ⟨-, written, others⟩ := u.maskedWrites_lines p (by rw [same.mem]; exact errors) aligned (same.elsewhere placed)
    rw [same.line] at written others
    exact ⟨_, exec_maskedWrite_stores here outside unrecorded online clean crc ok type sub arg aligned mask errors placed, u.maskedWrites p, rfl, written, others⟩
  · rw [exec_readPacket_answers here online clean crc ok type sub len some_ few aligned assigned, State.readAnswers_eq]
    rfl
  · have applied := exec_atomicPacket_applies here outside unrecorded online clean crc ok type aligned mask operands
    exact ⟨fun refused => applied.trans (congrArg Host.Outcome.next (atomicAnswer_refused refused)), fun o taken => applied.trans (congrArg Host.Outcome.next (atomicAnswer_taken taken))⟩
  · have runs := exec_signalPacket_adds here outside unrecorded clean crc ok type sub len range
    refine ⟨fun owned => ?_, fun free => ?_⟩
    · rw [if_neg (Nat.not_le.mpr owned)] at runs
      have counts (m : Nat) (hm : m < 65536) := u.counter_counterAdd a m p.arg.toInt hm range
      rw [same.counterOwner, same.counter] at counts
      refine ⟨_, runs, u.counterAdd a p.arg.toInt, rfl, ?_, fun m hm apart => ?_⟩
      · rw [counts a range, if_pos ⟨rfl, owned⟩]
      · rw [counts m hm, if_neg fun h => apart h.1, same.counter]
    · rw [if_pos free] at runs
      refine ⟨_, runs, u.counterAdd a 0, rfl, ?_⟩
      rw [State.counterAdd_sync, if_neg (by rw [same.counterOwner]; omega), same.sync]

end Sys2Proof.Machine
end
